-- ==== Sys2Proof/Word.lean ====
section
/-! DEFINITION. The words of the Gabwyn 740: a byte, the 32-bit word of the system memory bus (1.1), the 26-bit byte
address of the window (Table 3-1) and the number of a telephone line (R122). -/

namespace Sys2Proof

/-- One byte of DRAM or of the Shelf Link. -/
abbrev Byte := BitVec 8

/-- One 32-bit word of the system memory bus. -/
abbrev Word := BitVec 32

/-- The 26-bit byte address of the system memory bus (Table 3-1). -/
abbrev BusAddr := BitVec 26

/-- The four byte enables of a bus access: bit `i` enables the byte at offset `i` of the word (R1). -/
abbrev ByteEnables := BitVec 4

/-- The number of a telephone line, 0 to 7 (7.1). -/
abbrev Line := Fin 8

end Sys2Proof
end

