-- ==== Sys2Proof/Syntax.lean ====
section
/-! DEFINITION. The commands of the Gabwyn 740: one constructor per row of spec/opcode_table.json, with the row's operands.
A row that takes a command slot (the command kinds of Table 2-1) has no operand: its tag and parameters are what the slot at
the command ring's head holds in DRAM when the CEU takes it (R22, R24). -/

namespace Sys2Proof

/-- The window size that the MAD senses from the fitted DRAM (R2). -/
inductive WindowSize where
  | mib32
  | mib64
deriving DecidableEq, Repr

/-- One step of the part or of the world around it. -/
inductive Instr where
  /-- POWER_ON (R3). -/
  | powerOn
  /-- RESETN_FALL (R4). -/
  | resetnFall
  /-- RESETN_RISE (R3). -/
  | resetnRise
  /-- DRAM_INITIALISATION_END (R3): the MAD has sensed `w`. -/
  | dramInitialisationEnd (w : WindowSize)
  /-- BUS_WRITE (R1): one bus write access. -/
  | busWrite (off : BusAddr) (data : Word) (be : ByteEnables)
  /-- PART_OWNED_WRITE (R12): a bus write aimed at part-owned memory. -/
  | partOwnedWrite (off : BusAddr) (data : Word) (be : ByteEnables)
  /-- COMMIT (R6): a bus write to the commit word. -/
  | commit (data : Word) (be : ByteEnables)
  /-- RUN_ENTRY (R9). -/
  | runEntry
  /-- WITHDRAW (R17): a bus write to the commit word. -/
  | withdraw (data : Word) (be : ByteEnables)
  /-- WITHDRAW_END (R18). -/
  | withdrawEnd
  /-- COMMAND_RING_TAIL_WRITE (R23). -/
  | commandRingTailWrite (off : BusAddr) (data : Word) (be : ByteEnables)
  /-- EVENT_RING_HEAD_WRITE (R33). -/
  | eventRingHeadWrite (off : BusAddr) (data : Word) (be : ByteEnables)
  /-- UNKNOWN_COMMAND_KIND (R29). -/
  | unknownCommandKind
  /-- CLEAR_PATH_COUNT (R13). -/
  | clearPathCount
  /-- SET_SCAN_PROFILE (R43). -/
  | setScanProfile
  /-- BEGIN_SCAN (R51). -/
  | beginScan
  /-- END_PAGE (R55). -/
  | endPage
  /-- END_SCAN (R56). -/
  | endScan
  /-- SET_STORE_LIMITS (R78). -/
  | setStoreLimits
  /-- OPEN_DOCUMENT (R83). -/
  | openDocument
  /-- CLOSE_DOCUMENT (R85). -/
  | closeDocument
  /-- DELETE_DOCUMENT (R86). -/
  | deleteDocument
  /-- SUBMIT_JOB (R89). -/
  | submitJob
  /-- CANCEL_JOB (R99). -/
  | cancelJob
  /-- CANCEL_DESTINATION (R100). -/
  | cancelDestination
  /-- HOLD_JOB (R98). -/
  | holdJob
  /-- RELEASE_JOB (R98). -/
  | releaseJob
  /-- SET_RETRY_POLICY (R96). -/
  | setRetryPolicy
  /-- LINK_SETUP (R108). -/
  | linkSetup
  /-- LINK_RESYNC (R109). -/
  | linkResync
  /-- CLEAR_LINK_COUNTERS (R115). -/
  | clearLinkCounters
  /-- SET_LINE_PLAN (R123). -/
  | setLinePlan
  /-- SET_LINE_TIMERS (R126). -/
  | setLineTimers
  /-- LOAD_ROUTE_WRITE (R147). -/
  | loadRouteWrite
  /-- LOAD_ROUTE_REMOVE (R147). -/
  | loadRouteRemove
  /-- SET_FILTER_BIN_CLEAR_BIN (R150). -/
  | setFilterBinClearBin
  /-- SET_FILTER_BIN_SET_BIN (R150). -/
  | setFilterBinSetBin
  /-- SET_FILTER_BIN_CLEAR_EVERY (R150). -/
  | setFilterBinClearEvery
  /-- SET_FILTER_BIN_SET_EVERY (R150). -/
  | setFilterBinSetEvery
  /-- SET_DEFAULT_ROUTE (R148). -/
  | setDefaultRoute
  /-- RELEASE_HELD (R153). -/
  | releaseHeld
  /-- SET_PRINT_PROFILE (R163). -/
  | setPrintProfile
  /-- PRINT_DOCUMENT (R159). -/
  | printDocument
  /-- CANCEL_PRINT (R161). -/
  | cancelPrint
  /-- START_PRINT (R164). -/
  | startPrint
  /-- STOP_PRINT (R165). -/
  | stopPrint
  /-- SET_CLOCK (R176). -/
  | setClock
  /-- LOAD_BAND_HOURS (R177). -/
  | loadBandHours
  /-- LOAD_TARIFF_PREFIX_WRITE (R178). -/
  | loadTariffPrefixWrite
  /-- LOAD_TARIFF_PREFIX_REMOVE (R178). -/
  | loadTariffPrefixRemove
  /-- LOAD_ZONE_RATE (R180). -/
  | loadZoneRate
  /-- SET_ACCOUNT (R183). -/
  | setAccount
  /-- CLEAR_SPENT (R184). -/
  | clearSpent
  /-- ACK_CHARGE_LOG (R191). -/
  | ackChargeLog
  /-- RAW_SLOT_LAST_PIXEL_WRITE (R39). -/
  | rawSlotLastPixelWrite (off : BusAddr) (data : Word) (be : ByteEnables)
  /-- LAPPING_WRITE (R16). -/
  | lappingWrite (off : BusAddr) (data : Word) (be : ByteEnables)
  /-- SCAN_HOLD_EXPIRY (R16). -/
  | scanHoldExpiry
  /-- SCAN_TAKE_SLOT (R41). -/
  | scanTakeSlot
  /-- TIME_BASE_TENTH (R175). -/
  | timeBaseTenth
  /-- TIME_BASE_SECOND (R175). -/
  | timeBaseSecond
  /-- SCHEDULER_PASS (R101). -/
  | schedulerPass
  /-- TX_FRAME (R104). -/
  | txFrame
  /-- HANDING_TAKES_PLACE (R117). -/
  | handingTakesPlace
  /-- ALIGNMENT_BYTE_FOUND (R106): E4h stands at bit position `p` of the 104 bits of a frame. -/
  | alignmentByteFound (p : Nat)
  /-- RX_FRAME (R107): the thirteen slots of the frame that starts at the position the receiver holds. -/
  | rxFrame (slots : List Byte)
  /-- MF_SEARCH_TIMER_EXPIRY (R110). -/
  | mfSearchTimerExpiry
  /-- RX_MULTIFRAME_END (R113). -/
  | rxMultiframeEnd
  /-- BLOCK_STORED (R140). -/
  | blockStored (n : Line)
  /-- BLOCK_BUFFER_FILLED (R131). -/
  | blockBufferFilled (n : Line)
  /-- RX_BLOCK (R120): the message's last byte arrives. -/
  | rxBlock (n : Line) (pp blk : Byte) (len : BitVec 16)
  /-- LINE_READY (R124). -/
  | lineReady (n : Line)
  /-- LINE_NOT_READY (R124). -/
  | lineNotReady (n : Line)
  /-- SEIZED (R128). -/
  | seized (n : Line)
  /-- ANSWERED (R129). -/
  | answered (n : Line)
  /-- BUSY (R128). -/
  | busy (n : Line)
  /-- NO_ANSWER (R128). -/
  | noAnswer (n : Line)
  /-- NOT_FAX (R128). -/
  | notFax (n : Line)
  /-- RING (R138): the called digits and the sender identity, each empty when absent. -/
  | ring (n : Line) (called ident : List Byte)
  /-- PARTIAL_OK (R132). -/
  | partialOk (n : Line)
  /-- REPEAT (R132): bit `b` of the map lists block `b`. -/
  | repeatBlocks (n : Line) (map : BitVec 64)
  /-- PAGE_CONFIRMED (R133). -/
  | pageConfirmed (n : Line)
  /-- PAGE_REJECTED (R133). -/
  | pageRejected (n : Line)
  /-- RX_PAGE_BEGIN (R139): the width class and resolution codes. -/
  | rxPageBegin (n : Line) (cls res : Byte)
  /-- RX_PARTIAL_END (R141). -/
  | rxPartialEnd (n : Line) (pp count endKind : Byte)
  /-- REMOTE_CLEAR (R136). -/
  | remoteClear (n : Line) (cause : Byte)
  /-- CLEARED (R136). -/
  | cleared (n : Line)
  /-- SESSION_TIMER_EXPIRY (R127). -/
  | sessionTimerExpiry (n : Line)
  /-- CLEARING_TIMER_EXPIRY (R136). -/
  | clearingTimerExpiry (n : Line)
  /-- GRACE_EXPIRY (R143). -/
  | graceExpiry
  /-- PRN_TAKE_ENTRY (R166). -/
  | prnTakeEntry
  /-- PRN_RENDER_SHEET_LINE (R167). -/
  | prnRenderSheetLine
  /-- PRINT_SLOT_LAST_WORD_READ (R170): one bus read access. -/
  | printSlotLastWordRead (off : BusAddr) (be : ByteEnables)
  /-- EARLY_READ (R171): one bus read access. -/
  | earlyRead (off : BusAddr) (be : ByteEnables)
  /-- PRINT_HOLD_EXPIRY (R172). -/
  | printHoldExpiry
  /-- POWER_FAIL (R37). -/
  | powerFail
deriving DecidableEq, Repr

end Sys2Proof
end

