-- ==== Sys2Proof/Decode.lean ====
section
/-! DEFINITION. The command that a table word spells. No row of spec/opcode_table.json gives bits: the steps of this part are
accesses, pin events, link frames and timers, and its command slots are read from DRAM (R22), so no word spells one. -/

namespace Sys2Proof

/-- The command of a word of the given number of bits: none, because the table gives no row any bits (log 6). -/
def decodeTableWord (_nbits _w : Nat) : Option Instr := none

end Sys2Proof
end

