-- ==== Sys2Proof/Machine/State.lean ====
section
/-! DEFINITION. Everything the spec gives the Gabwyn 740 to hold, block by block (Table 4-1), as plain data, and the state
right after power-on. The tables that lie in the part-owned region are held here as records; the same step that changes a
record writes its bytes into DRAM (Machine/Layout.lean), so a bus read finds there what the part last wrote (R12). -/

namespace Sys2Proof.Machine

/-! ## Memory path -/

/-- DRAM: (offset, byte) pairs with rising offsets and no zero byte; an offset that is not listed reads as 00h (log 4). -/
abbrev Mem := List Host.Cell

/-- A sparse table: (number, record) pairs with rising numbers. -/
abbrev Tab (α : Type) := List (Nat × α)

/-- Power and RESETn (R3, R4). -/
inductive Phase where
  /-- no power -/
  | off
  /-- RESETn is low -/
  | resetLow
  /-- power is up, RESETn is high and the MAD initialises the DRAM -/
  | initialising
  /-- DRAM initialisation has ended -/
  | up
deriving DecidableEq, Repr

/-- The three operating states of the RGW. -/
inductive RgwState where
  | pass
  | run
  | withdrawing
deriving DecidableEq, Repr

/-- One access on the system memory bus: a 32-bit word at a word-aligned offset with four byte enables (1.1). -/
structure BusAccess where
  isWrite : Bool
  off : Nat
  data : Word
  be : ByteEnables
deriving DecidableEq, Repr

/-- Why the SMP holds an access with READY low. -/
inductive HoldReason where
  /-- RESETn low or DRAM initialisation (R3): no limit -/
  | reset
  /-- a lapping write to raw slot `slot` (R16) -/
  | scan (slot : Nat)
  /-- an early read of the print slot at the read index (R171) -/
  | print
deriving DecidableEq, Repr

/-- The access in progress and its hold timer, started with `limit` microseconds (0 for a hold without limit). -/
structure Held where
  access : BusAccess
  reason : HoldReason
  limit : Nat
deriving DecidableEq, Repr

/-- System Memory Port. READY is low exactly while an access is held between steps. -/
structure Smp where
  held : Option Held
  /-- the data that the last finished read put on the bus (R1) -/
  busData : Word
deriving DecidableEq, Repr

/-- The anchor as a commit copies it (Table 1-1), with the two hold limits clamped (R6). -/
structure Anchor where
  format : Nat
  keep : Bool
  cmdBase : Nat
  slotCount : Nat
  recCount : Nat
  evBase : Nat
  rawBase : Nat
  rawSize : Nat
  prnBase : Nat
  prnSize : Nat
  porBase : Nat
  porSize : Nat
  segCount : Nat
  scanHold : Nat
  printHold : Nat
deriving DecidableEq, Repr

/-- The raw slots the RGW watches while a scan is active (R15). -/
structure RawGeom where
  stride : Nat
  slots : Nat
  win : Nat
deriving DecidableEq, Repr

/-- The print slots in force (R164); `width` is the printer width they were cut for. -/
structure PrintGeom where
  width : Nat
  slotSize : Nat
  slotCount : Nat
deriving DecidableEq, Repr

/-- Region Watch. The region map is the anchor copy, in force in RUN and WITHDRAWING. -/
structure Rgw where
  state : RgwState
  /-- a validated copy waits for RUN entry ("validation in progress" of R6 and R10) -/
  validating : Bool
  /-- a withdraw request is noted (R10) -/
  noted : Bool
  copy : Option Anchor
  droppedCount : Nat
  lastDropped : Option Nat
  rawGeom : Option RawGeom
  /-- the slot at the completion index is marked started (R40) -/
  started : Bool
  printGeom : Option PrintGeom
deriving DecidableEq, Repr

/-- Memory Arbiter and DRAM Controller. -/
structure Mad where
  /-- the window size, once sensed (R2) -/
  window : Option WindowSize
  urgent : Bool
deriving DecidableEq, Repr

/-! ## Commands and events -/

/-- The event kinds of Table 2-2. -/
inductive EventKind where
  | anchorAccepted
  | withdrawn
  | protectedWrite
  | commandDone
  | ringIndexBad
  | scanOrder
  | extraLines
  | scanFault
  | storeLow
  | jobDone
  | destDone
  | linkState
  | ring
  | ringRefused
  | docReceived
  | printFault
  | printUnderrun
  | printSheetDone
  | chargePosted
  | accountExhausted
  | logNearFull
deriving DecidableEq, Repr

/-- The source kinds of an event (R31). -/
inductive SourceKind where
  | link
  | line
  | job
  | destination
  | document
  | page
  | print
  | account
  | log
  | path
deriving DecidableEq, Repr

/-- One event record (R31). -/
structure Event where
  kind : EventKind
  src : SourceKind
  idx : Nat
  tag : Nat
  code : Nat
  lost : Nat
  time : Nat
  value : Nat
deriving DecidableEq, Repr

/-- Command and Event Unit (R37). -/
structure Ceu where
  head : Nat
  tail : Nat
  evHead : Nat
  evTail : Nat
  /-- the pending-event queue, oldest first (R34) -/
  queue : List Event
  discard : Nat
  /-- a command is being carried out -/
  carrying : Bool
  /-- ANCHOR_ACCEPTED has been written -/
  accepted : Bool
  /-- the WITHDRAWN event held back for want of a place (R35) -/
  withdrawnHeld : Option Event
  /-- WITHDRAWN has been written into the event ring (R18) -/
  withdrawnWritten : Bool
  /-- the ATTN output -/
  attn : Bool
deriving DecidableEq, Repr

/-- The result codes of COMMAND_DONE (R29). -/
inductive Result where
  | done
  | doneClamped
  | accepted
  | badKind
  | short
  | range
  | noEntry
  | wrongState
  | full
  | noStore
deriving DecidableEq, Repr

/-! ## Scan -/

/-- The output width classes (Table 3-2). -/
inductive WidthClass where
  | a
  | b
  | c
deriving DecidableEq, Repr

/-- Page resolution. -/
inductive Resolution where
  | standard
  | fine
deriving DecidableEq, Repr

/-- Where a pixel's byte lies in its word (R38). -/
inductive LaneOrder where
  | lowFirst
  | highFirst
deriving DecidableEq, Repr

/-- A blank band (Table 3-2); length 0 means unused. -/
structure Band where
  start : Nat
  len : Nat
deriving DecidableEq, Repr

/-- A scan profile (Table 3-2). -/
structure Profile where
  win : Nat
  stride : Nat
  lane : LaneOrder
  cls : WidthClass
  res : Resolution
  lowBypass : Bool
  highBypass : Bool
  x0 : Nat
  height : Nat
  ml : Nat
  mr : Nat
  mt : Nat
  mb : Nat
  band0 : Band
  band1 : Band
  band2 : Band
  band3 : Band
  s1 : Nat
  s2 : Nat
  d1 : Nat
  d2 : Nat
  k0 : Nat
  k1 : Nat
  k2 : Nat
  brightness : Int
  lo : Nat
  hi : Nat
  thr : Nat
deriving DecidableEq, Repr

/-- The scan states (Table 3-1). -/
inductive ScanState where
  | scanIdle
  | betweenPages
  | inPage
  | pageFull
deriving DecidableEq, Repr

/-- The scan modes (R51). -/
inductive ScanMode where
  | single
  | continuous
deriving DecidableEq, Repr

/-- The half-line buffer at STANDARD resolution (R50, R58). -/
inductive HalfLine where
  /-- the first raw line was taken unread: its output line is white as a whole -/
  | unread
  /-- the conditioned dots of the first raw line -/
  | dots (l : List Bool)
deriving DecidableEq, Repr

/-- Scan Coder (R59). -/
structure Scn where
  /-- profiles 0 to 3; a number without an entry holds the defaults -/
  profiles : Tab Profile
  state : ScanState
  doc : Option Nat
  active : Option Profile
  mode : Option ScanMode
  /-- the take index K -/
  take : Nat
  /-- the completion index C -/
  comp : Nat
  /-- q, the number of complete slots not yet taken -/
  waiting : Nat
  /-- slots with an overrun mark (R42) -/
  overruns : List Nat
  /-- slots with a void mark (R40) -/
  voids : List Nat
  /-- the open page's record -/
  page : Option Nat
  outLines : Nat
  rawLines : Nat
  half : Option HalfLine
  /-- the reference line of the page code -/
  ref : List Bool
  /-- the bytes of whole coded lines stored in the open page -/
  streamLen : Nat
  /-- pages the scan has sealed -/
  sealedCount : Nat
  /-- the page the scan sealed last and its output line count -/
  lastSealed : Option (Nat × Nat)
  /-- EXTRA_LINES has been posted for the page sealed last (R53) -/
  extraPosted : Bool
deriving DecidableEq, Repr

/-! ## Page store -/

/-- Page states in use (Table 4-2); a record without an entry is EMPTY. -/
inductive PageState where
  | filling
  | complete
  | damaged
deriving DecidableEq, Repr

/-- Direction of a document or a page. -/
inductive Dir where
  | outbound
  | inbound
deriving DecidableEq, Repr

/-- A page record (Table 4-1). `chain` is the page's segments in chain order; the first segment and the segment count of the
record are its head and its length. -/
structure PageRec where
  state : PageState
  doc : Nat
  pos : Nat
  dir : Dir
  cls : WidthClass
  res : Resolution
  lineCount : Nat
  codedLen : Nat
  chain : List Nat
  check : BitVec 16
  scanOverrun : Bool
  truncated : Bool
  checkFail : Bool
  decodeFault : Bool
  sendHolds : Nat
  printHolds : Nat
  sealedTime : Nat
deriving DecidableEq, Repr

/-- Page Store Manager (R81). -/
structure Psm where
  /-- the page table: the records that are not EMPTY -/
  pages : Tab PageRec
  /-- the free-segment stack, top first (R68) -/
  stack : List Nat
  scanReserve : Nat
  lowWater : Nat
  lowMark : Nat
  /-- the low-store mark is armed (R80) -/
  lowArmed : Bool
deriving DecidableEq, Repr

/-! ## Documents and jobs -/

/-- Document states (R82). -/
inductive DocState where
  | opened
  | closed
  | receiving
  | complete
  | incomplete
  | deleting
deriving DecidableEq, Repr

/-- A document record (R82); a place of the list is `none` when it is a freed place (R84). -/
structure Doc where
  dir : Dir
  state : DocState
  places : List (Option Nat)
  keep : Bool
  isHeld : Bool
  desk : Nat
  tray : Nat
  ident : List Byte
  called : List Byte
  line : Nat
  created : Nat
  jobRefs : Nat
  printRefs : Nat
  copies : Nat
  printClass : Nat
  autoDelete : Bool
  printed : Bool
deriving DecidableEq, Repr

/-- Job states (R91). -/
inductive JobState where
  | queued
  | active
  | onHold
  | done
  | cancelled
deriving DecidableEq, Repr

/-- A job record (Table 5-1). -/
structure Job where
  state : JobState
  doc : Nat
  account : Nat
  priority : Nat
  spread : Nat
  autoDelete : Bool
  tag : Nat
  submission : Nat
  destCount : Nat
  sent : Nat
  failed : Nat
  cancelled : Nat
  sessions : Nat
  started : Bool
deriving DecidableEq, Repr

/-- Destination states (R92). -/
inductive DestState where
  | pending
  | dialling
  | sending
  | retryWait
  | sent
  | failed
  | cancelled
deriving DecidableEq, Repr

/-- Session end causes (Table 7-2). -/
inductive Cause where
  | normal
  | busy
  | noAnswer
  | notFax
  | timeout
  | dataNotReady
  | repeatLimit
  | pageRejected
  | cancelled
  | seizeLost
  | storeFull
  | pageLimit
  | remoteClear
  | lineDisabled
  | linkLost
  | withdrawn
deriving DecidableEq, Repr

/-- A destination record (R92). -/
structure Dest where
  job : Nat
  index : Nat
  digits : List Byte
  state : DestState
  attempts : Nat
  /-- meaningful in RETRY_WAIT -/
  nextTry : Int
  lastCause : Option Cause
  confirmed : Nat
  line : Option Nat
  logSeq : Option Nat
  cancelMark : Bool
deriving DecidableEq, Repr

/-- Document and Job Unit (R103). -/
structure Dju where
  docs : Tab Doc
  jobs : Tab Job
  dests : Tab Dest
  submission : Nat
  maxAttempts : Nat
  baseWait : Nat
  /-- the 16-bit generator r (R96) -/
  gen : Nat
  /-- an occasion of R101 has arisen and its scheduler pass has not run yet -/
  passDue : Bool
deriving DecidableEq, Repr

/-! ## Lines -/

/-- Line uses (R123). -/
inductive LineUse where
  | disabled
  | outOnly
  | inOnly
  | both
deriving DecidableEq, Repr

/-- One line of the line plan (R123): the outside prefix as digit values. -/
structure LinePlan where
  use : LineUse
  outside : List Nat
deriving DecidableEq, Repr

/-- Line states (Table 7-1). -/
inductive LineState where
  | unavailable
  | idle
  | seizing
  | dialling
  | sending
  | partialWait
  | pageWait
  | dataWait
  | answering
  | receiving
  | rxCheck
  | clearing
deriving DecidableEq, Repr

/-- Session timers (R126, R127). -/
inductive TimerKind where
  | seize
  | answer
  | partialPage
  | pageConfirm
  | dataWait
  | answering
  | blockGap
  | clearing
deriving DecidableEq, Repr

/-- End kinds of PARTIAL_END and RX_PARTIAL_END (R131). -/
inductive EndKind where
  | more
  | pageEnd
  | docEnd
deriving DecidableEq, Repr

/-- A received block handed to the LNE, on its way into the page store (R140). -/
structure StoringBlock where
  partialPage : Nat
  block : Nat
  bytes : List Byte
deriving DecidableEq, Repr

/-- A line session record (R122) with what the LNE keeps beside it for the session's work. -/
structure LineRec where
  state : LineState
  dir : Option Dir
  dest : Option Nat
  job : Option Nat
  doc : Option Nat
  page : Option Nat
  pagePos : Nat
  partialPage : Nat
  blockCount : Nat
  rounds : Nat
  /-- inbound: present blocks with their lengths -/
  blockMap : Tab Nat
  kept : Nat
  cut : Bool
  lastEnd : Option EndKind
  answered : Bool
  answerTime : Nat
  timer : Option TimerKind
  remaining : Nat
  cause : Option Cause
  /-- outbound: the blocks of the present set that have not been filled yet (R131) -/
  toSend : List Nat
  /-- outbound: a block has been handed and the SLI has not reported it finished -/
  inFlight : Bool
  /-- outbound: width class and resolution of the last SESSION_PARAMS (R129) -/
  lastParams : Option (WidthClass × Resolution)
  /-- inbound: the block store in progress (R140) -/
  storing : Option StoringBlock
  /-- inbound: block count and end kind of the RX_PARTIAL_END being checked (R141) -/
  checking : Option (Nat × EndKind)
deriving DecidableEq, Repr

/-- The session timers that SET_LINE_TIMERS sets, in tenths (R126). -/
structure LineTimers where
  seize : Nat
  answer : Nat
  partialPage : Nat
  pageConfirm : Nat
  dataWait : Nat
  answering : Nat
  blockGap : Nat
deriving DecidableEq, Repr

/-- Line Engine (R145). -/
structure Lne where
  /-- a line without an entry is BOTH with an empty prefix -/
  plan : Tab LinePlan
  ceiling : Nat
  timers : LineTimers
  /-- a line without an entry is UNAVAILABLE without a session -/
  lines : Tab LineRec
  /-- the link-loss grace, in tenths left (R143) -/
  grace : Option Nat
deriving DecidableEq, Repr

/-! ## Shelf Link -/

/-- Frame states (Table 6-2). -/
inductive FrameState where
  | hunt
  | checkService
  | checkAlign
  | sync
  | holdOff
deriving DecidableEq, Repr

/-- Multiframe states (R110). -/
inductive MfState where
  | mfSearch
  | mfSync
deriving DecidableEq, Repr

/-- A message for the shelf; `blockOf` names the line whose outbound block follows it (R119). -/
structure TxMsg where
  bytes : List Byte
  blockOf : Option Nat
deriving DecidableEq, Repr

/-- An outbound block in its line's outbound buffer (R119). -/
structure OutBlock where
  bytes : List Byte
  /-- its BLOCK message has been sent in whole -/
  announced : Bool
  /-- bytes sent so far -/
  sent : Nat
deriving DecidableEq, Repr

/-- Message assembly states (R118). -/
inductive Assembly where
  | gap
  | inMessage
  | skip
deriving DecidableEq, Repr

/-- An inbound block (R120). -/
structure InBlock where
  partialPage : Nat
  block : Nat
  len : Nat
  count : Nat
  overrun : Bool
  failed : Bool
  /-- the block, or its opening message, has a byte in the multiframe being received -/
  touched : Bool
  bytes : List Byte
deriving DecidableEq, Repr

/-- What waits for the check of the multiframe that holds its last byte, in the order of those bytes (R113, R118). -/
inductive RxItem where
  | message (bytes : List Byte) (failed : Bool)
  | block (line : Nat) (b : InBlock)
deriving DecidableEq, Repr

/-- The inbound block state of a line (R120): OPEN while `opened` holds a block, else COMPLETE while `complete` is set, else
OCCUPIED while `occupied` is set, else NONE. The block that waits is in the SLI's list of judgements. -/
structure InLine where
  opened : Option InBlock
  /-- a complete block that waits for its judgement holds the buffer; a release of the buffer ends this too -/
  complete : Bool
  /-- a good block handed to the LNE holds the buffer -/
  occupied : Bool
deriving DecidableEq, Repr

/-- Shelf Link Interface (R121). -/
structure Sli where
  /-- the transmitter runs; before that its data is held at one (R104) -/
  txRunning : Bool
  /-- the number of the next frame to send, 0 to 15 -/
  txFrameNo : Nat
  txCrc : Byte
  /-- the thirteen slots last sent -/
  txLast : List Byte
  /-- a far-end report FFh is owed (R114) -/
  farEndDue : Bool
  /-- the transmit queue (R117) -/
  queue : List TxMsg
  /-- bytes of the front message already sent -/
  txPos : Nat
  /-- handings that wait for a place, in the order they began to wait -/
  handings : List TxMsg
  /-- outbound blocks by line -/
  outBlocks : Tab OutBlock
  /-- the hold map of the last frame received while the link is up (R119) -/
  shelfHold : Byte
  frame : FrameState
  /-- the bit position taken as the start of slot 0 (R106) -/
  position : Nat
  /-- the bit position from which the search goes on, or none when it begins with the bits that arrive next (R106) -/
  searchFrom : Option Nat
  /-- the service and alignment checks have passed and SYNC is due after this many frames more (R106) -/
  syncIn : Option Nat
  /-- the next frame in SYNC is odd -/
  rxOdd : Bool
  alignRun : Nat
  serviceRun : Nat
  rxAlarm : Bool
  mf : MfState
  /-- frames left on the 128-frame timer of MF_SEARCH (R110) -/
  mfTimer : Nat
  /-- whether slot 12 held 7Eh in the even frames received in SYNC, newest first, up to eight -/
  evenMarks : List Bool
  /-- the number of the next frame in MF_SYNC, 0 to 15 -/
  rxFrameNo : Nat
  /-- frame 0 of the multiframe being received lacked its marker (R110) -/
  markMissed : Bool
  rxCrc : Byte
  /-- the CRC-8 received in frame 15 -/
  rxCrcByte : Byte
  /-- the far-end report received in frame 1 -/
  rxReport : Byte
  /-- a multiframe has been received whole and its check is due (R113) -/
  mfEndDue : Bool
  asm : Assembly
  asmLen : Nat
  asmBytes : List Byte
  asmFailed : Bool
  /-- messages and blocks whose last byte lies in the multiframe being received -/
  items : List RxItem
  /-- inbound block states by line -/
  inLines : Tab InLine
  lossCount : Nat
  serviceCheck : Bool
  autoResync : Bool
  alignErrors : Nat
  crcErrors : Nat
  farEndErrors : Nat
  losses : Nat
  /-- seconds at the last change of the link between up and down (R116) -/
  lastChange : Nat
deriving DecidableEq, Repr

/-! ## Reception -/

/-- A route record (R146); the digit count and the eight digit characters are held as the record has them, so that an adopted
record that matches nothing (R156) is kept as it stands. -/
structure Route where
  digitCount : Nat
  digits : List Byte
  desk : Nat
  tray : Nat
  copies : Nat
  printClass : Nat
  filter : Bool
  autoDelete : Bool
deriving DecidableEq, Repr

/-- Reception Router (R157). -/
structure Rxr where
  /-- the routes in use, record 0 first -/
  routes : List Route
  /-- the sender filter: bit b is bin b (R150) -/
  bins : BitVec 256
  defaultRoute : Route
deriving DecidableEq, Repr

/-! ## Printing -/

/-- Dot orders (R163). -/
inductive DotOrder where
  | msbFirst
  | lsbFirst
deriving DecidableEq, Repr

/-- The print profile (R163). -/
structure PrintProfile where
  width : Nat
  offset : Nat
  height : Nat
  repeats : Nat
  order : DotOrder
  threshold : Nat
deriving DecidableEq, Repr

/-- A print entry (R158). -/
structure PrintEntry where
  doc : Nat
  copies : Nat
  copiesDone : Nat
  tray : Nat
  cls : Nat
  arrival : Nat
  printing : Bool
  position : Nat
  sheetNumber : Nat
  sheetLine : Nat
  cancelMark : Bool
deriving DecidableEq, Repr

/-- The print states (R164). -/
inductive PrintState where
  | stopped
  | printing
  | stopping
deriving DecidableEq, Repr

/-- The fields of a print slot tag (11.5). -/
structure Tag where
  tray : Nat
  page : Option Nat
  sheet : Nat
  line : Nat
  first : Bool
  last : Bool
  underrun : Bool
  damaged : Bool
  cropped : Bool
  checkFail : Bool
  doc : Option Nat
deriving DecidableEq, Repr

/-- What the PRN keeps of a slot filled or substituted and not yet consumed (R170, R172). -/
structure SlotRec where
  /-- the substitute's tag, when the slot is substituted -/
  substitute : Option Tag
  /-- the entry, document and sheet the slot belongs to, when it belongs to a sheet -/
  sheet : Option (Nat × Nat × Nat)
  /-- the slot ends its sheet -/
  ends : Bool
  /-- the sheet is known to be its entry's last -/
  entryLast : Bool
  /-- the entry that rendered the sheet has been removed, so that its number may name another entry -/
  entryGone : Bool
deriving DecidableEq, Repr

/-- A page line being rendered: its dots, the sheet lines it still owes, and whether it ends the page. -/
structure PageLine where
  dots : List Bool
  owed : Nat
  last : Bool
  /-- the recomputed check, when it differs from the page record's (R169) -/
  badCheck : Option (BitVec 16)
deriving DecidableEq, Repr

/-- The page-copy being decoded (R167). -/
structure Rendering where
  page : Nat
  /-- stream bytes read so far -/
  pos : Nat
  /-- page lines decoded so far -/
  lineNo : Nat
  ref : List Bool
  cur : Option PageLine
  /-- the page was DAMAGED when its rendering began -/
  damaged : Bool
deriving DecidableEq, Repr

/-- Print Renderer (R174). -/
structure Prn where
  entries : Tab PrintEntry
  arrival : Nat
  profile : PrintProfile
  active : Option PrintProfile
  state : PrintState
  fill : Nat
  read : Nat
  /-- the slots filled or substituted and not consumed, from the read index on; f is their number -/
  slots : List SlotRec
  rendering : Option Rendering
  /-- a sheet is in progress -/
  sheetOpen : Bool
deriving DecidableEq, Repr

/-! ## Charging -/

/-- A prefix record (R178), held as the record has it (R192). -/
structure TariffPrefix where
  count : Nat
  chars : List Byte
  zone : Nat
deriving DecidableEq, Repr

/-- A rate record (R180). -/
structure Rate where
  setUp : Nat
  period : Nat
  n1 : Nat
  n2 : Nat
  a1 : Nat
  a2 : Nat
  a3 : Nat
deriving DecidableEq, Repr

/-- Account states (R182). -/
inductive AccountState where
  | unused
  | opened
  | blocked
deriving DecidableEq, Repr

/-- An account (R182); `limit` is none for no limit. -/
structure Account where
  state : AccountState
  limit : Option Nat
  spent : Nat
  reserved : Nat
  calls : Nat
  secondsPerPage : Nat
  armed : Bool
deriving DecidableEq, Repr

/-- A call record (R185). -/
structure CallRec where
  account : Nat
  job : Nat
  destIndex : Nat
  dial : List Byte
  zone : Nat
  reservation : Nat
  answered : Bool
  band : Nat
  rate : Rate
  answerTime : Nat
  connected : Nat
deriving DecidableEq, Repr

/-- Charge Unit (R192), with the time base. -/
structure Chg where
  seconds : Nat
  tenths : Nat
  /-- CLK32 cycles of the tenth now running (R175) -/
  tenthCycles : Nat
  clockSet : Bool
  weekOffset : Nat
  /-- band plan entries other than 0 -/
  bands : Tab Nat
  /-- the prefix records in use, record 0 first -/
  prefixes : List TariffPrefix
  /-- rate records; a record without an entry is the empty record of R192 -/
  rates : Tab Rate
  /-- accounts; a number without an entry is the empty account of R192 -/
  accounts : Tab Account
  logOldest : Nat
  logInUse : Nat
  logNext : Nat
  logReserved : Nat
  /-- the near-full mark is armed (R190) -/
  nearArmed : Bool
  /-- call records by line -/
  calls : Tab CallRec
deriving DecidableEq, Repr

/-! ## The whole part -/

/-- Everything the spec gives the part, the page DRAM behind it, and the queue of waiting commands. -/
structure State where
  /-- the commands that wait, first in first out (the model's own) -/
  pending : List Instr
  phase : Phase
  smp : Smp
  rgw : Rgw
  mad : Mad
  ceu : Ceu
  scn : Scn
  psm : Psm
  dju : Dju
  sli : Sli
  lne : Lne
  rxr : Rxr
  prn : Prn
  chg : Chg
  dram : Mem
deriving DecidableEq, Repr

/-- The machine never stops with a fault: the spec gives every row an effect, "ignored", "passes" or "waits" among them. -/
inductive Fault where
  /-- Raised by nothing. Kept so that the type has a name for an access that the spec says does not exist; the spec gives
  every access an effect (R2), so no meaning answers with it (safe). -/
  | noSuchAccess
deriving DecidableEq, Repr

/-- Why a command has no meaning. -/
inductive Refusal where
  /-- Raised by an arm of exec whose row has no meaning yet; no arm is left so (safe). -/
  | notModelled (mnemonic : String)
deriving DecidableEq, Repr

/-! ## Values after reset -/

/-- The defaults of Table 3-2. -/
def Profile.default : Profile :=
  { win := 1728, stride := 1728, lane := .lowFirst, cls := .a, res := .fine, lowBypass := false, highBypass := false,
    x0 := 0, height := 2200, ml := 0, mr := 0, mt := 0, mb := 0,
    band0 := ⟨0, 0⟩, band1 := ⟨0, 0⟩, band2 := ⟨0, 0⟩, band3 := ⟨0, 0⟩,
    s1 := 0, s2 := 255, d1 := 0, d2 := 255, k0 := 256, k1 := 256, k2 := 256,
    brightness := 0, lo := 0, hi := 255, thr := 128 }

/-- The defaults of R163. -/
def PrintProfile.default : PrintProfile :=
  { width := 1728, offset := 0, height := 2300, repeats := 2, order := .msbFirst, threshold := 8 }

/-- The defaults of R126. -/
def LineTimers.default : LineTimers :=
  { seize := 50, answer := 600, partialPage := 300, pageConfirm := 600, dataWait := 300, answering := 400, blockGap := 200 }

/-- A line's plan at power-on (R123). -/
def LinePlan.default : LinePlan := { use := .both, outside := [] }

/-- A line without a session, UNAVAILABLE (R145). -/
def LineRec.default : LineRec :=
  { state := .unavailable, dir := none, dest := none, job := none, doc := none, page := none, pagePos := 0,
    partialPage := 0, blockCount := 0, rounds := 0, blockMap := [], kept := 0, cut := false, lastEnd := none,
    answered := false, answerTime := 0, timer := none, remaining := 0, cause := none, toSend := [], inFlight := false,
    lastParams := none, storing := none, checking := none }

/-- The inbound block state NONE. -/
def InLine.none : InLine := { opened := Option.none, complete := false, occupied := false }

/-- The default route of R156. -/
def Route.default : Route :=
  { digitCount := 0, digits := [], desk := 0, tray := 0, copies := 0, printClass := 1, filter := false,
    autoDelete := false }

/-- The empty rate record of R192. -/
def Rate.empty : Rate := { setUp := 0, period := 600, n1 := 0, n2 := 0, a1 := 0, a2 := 0, a3 := 0 }

/-- The empty account of R192. -/
def Account.empty : Account :=
  { state := .unused, limit := some 0, spent := 0, reserved := 0, calls := 0, secondsPerPage := 60, armed := true }

/-- The anchor copy that stands for "none" where no region map is in force. -/
def Anchor.none : Anchor :=
  { format := 0, keep := false, cmdBase := 0, slotCount := 0, recCount := 0, evBase := 0, rawBase := 0, rawSize := 0,
    prnBase := 0, prnSize := 0, porBase := 0, porSize := 0, segCount := 0, scanHold := 0, printHold := 0 }

/-- R21, power-on. -/
def Smp.reset : Smp := { held := none, busData := 0 }

/-- R21, power-on. -/
def Rgw.reset : Rgw :=
  { state := .pass, validating := false, noted := false, copy := none, droppedCount := 0, lastDropped := none,
    rawGeom := none, started := false, printGeom := none }

/-- R21, power-on. -/
def Mad.reset : Mad := { window := none, urgent := false }

/-- R37, power-on. -/
def Ceu.reset : Ceu :=
  { head := 0, tail := 0, evHead := 0, evTail := 0, queue := [], discard := 0, carrying := false, accepted := false,
    withdrawnHeld := none, withdrawnWritten := false, attn := false }

/-- R59, power-on. -/
def Scn.reset : Scn :=
  { profiles := [], state := .scanIdle, doc := none, active := none, mode := none, take := 0, comp := 0, waiting := 0,
    overruns := [], voids := [], page := none, outLines := 0, rawLines := 0, half := none, ref := [], streamLen := 0,
    sealedCount := 0, lastSealed := none, extraPosted := false }

/-- R81, power-on. -/
def Psm.reset : Psm :=
  { pages := [], stack := [], scanReserve := 64, lowWater := 256, lowMark := 512, lowArmed := true }

/-- R103, power-on. -/
def Dju.reset : Dju :=
  { docs := [], jobs := [], dests := [], submission := 0, maxAttempts := 3, baseWait := 60, gen := 1, passDue := false }

/-- R121, power-on. -/
def Sli.reset : Sli :=
  { txRunning := false, txFrameNo := 0, txCrc := 0, txLast := [], farEndDue := true, queue := [], txPos := 0,
    handings := [], outBlocks := [], shelfHold := 0, frame := .hunt, position := 0, searchFrom := none, syncIn := none,
    rxOdd := false, alignRun := 0, serviceRun := 0, rxAlarm := false, mf := .mfSearch, mfTimer := 0, evenMarks := [],
    rxFrameNo := 0, markMissed := false, rxCrc := 0, rxCrcByte := 0, rxReport := 0, mfEndDue := false, asm := .gap,
    asmLen := 0, asmBytes := [], asmFailed := false, items := [], inLines := [], lossCount := 4, serviceCheck := false,
    autoResync := true, alignErrors := 0, crcErrors := 0, farEndErrors := 0, losses := 0, lastChange := 0 }

/-- R145, power-on. -/
def Lne.reset : Lne :=
  { plan := [], ceiling := 8, timers := LineTimers.default, lines := [], grace := none }

/-- R157, power-on: the router holds nothing of its own. -/
def Rxr.reset : Rxr := { routes := [], bins := 0, defaultRoute := Route.default }

/-- R174, power-on. -/
def Prn.reset : Prn :=
  { entries := [], arrival := 0, profile := PrintProfile.default, active := none, state := .stopped, fill := 0, read := 0,
    slots := [], rendering := none, sheetOpen := false }

/-- R192, power-on. -/
def Chg.reset : Chg :=
  { seconds := 0, tenths := 0, tenthCycles := 3277, clockSet := false, weekOffset := 0, bands := [], prefixes := [],
    rates := [], accounts := [], logOldest := 0, logInUse := 0, logNext := 1, logReserved := 0, nearArmed := true,
    calls := [] }

/-- Right after power-on (R3): every block's internal state is cleared, the RGW is in PASS, RESETn is high and the MAD
initialises the DRAM, of which nothing has been written. -/
def State.reset : State :=
  { pending := [], phase := .initialising, smp := Smp.reset, rgw := Rgw.reset, mad := Mad.reset, ceu := Ceu.reset,
    scn := Scn.reset, psm := Psm.reset, dju := Dju.reset, sli := Sli.reset, lne := Lne.reset, rxr := Rxr.reset,
    prn := Prn.reset, chg := Chg.reset, dram := [] }

end Sys2Proof.Machine
end

