-- ==== Sys2Proof/Machine/Arbiter.lean ====
section
/-! DEFINITION. The DRAM arbiter's order of its clients (R19). The steps of the table are whole, so no step waits for a grant;
the order is held here for statements about it (log 34). -/

namespace Sys2Proof.Machine

/-- The clients of the MAD (R19). -/
inductive MadClient where
  | spt
  | lne
  | prn
  | scn
  | tableUnit
deriving DecidableEq, Repr

/-- The order in which the MAD looks at its clients (R19). -/
def madOrder (urgent : Bool) : List MadClient :=
  if urgent then [.prn, .spt, .lne, .scn, .tableUnit] else [.spt, .lne, .prn, .scn, .tableUnit]

/-- The client that the MAD grants when DRAM becomes free: the first in the present order that waits (R19). -/
def State.madGrant (s : State) (waiting : MadClient → Bool) : Option MadClient := (madOrder s.mad.urgent).find? waiting

end Sys2Proof.Machine
end

