-- ==== Sys2Proof/Config.lean ====
section
/-! DEFINITION. The free values: what the spec leaves open while the part goes on. Each is a constant without a body, so no
proof can see what it is; the assumption log names each. -/

namespace Sys2Proof

/-- How the part reads a keep-tables flag byte other than the 0 and 1 that Table 11-1 names (log 9). -/
opaque Config.keepFlagReading : Byte → Bool

/-- The urgent threshold that SET_PRINT_PROFILE stores when its range, 1 to the slot count (R163), is empty because the
print ring holds no whole slot; it may depend on the word written (log 10). -/
opaque Config.thresholdOfEmptyRange : Word → Nat

/-- What the part takes as an adopted table's entry count when a bus write raised the count word above the table's maximum
between the validation of R7 and the RUN entry of R9 (log 11); the argument is the count as it stands. -/
opaque Config.adoptedCount : Nat → Nat

end Sys2Proof
end

