-- ==== Sys2Proof/Machine/Flags.lean ====
section
/-! DEFINITION. Every code and flag byte of the Record Layouts chapter: event kinds, source kinds, result codes, status codes,
end causes, states and flag fields (11.2 to 11.7, R193). -/

namespace Sys2Proof.Machine

/-- 1 for true, 0 for false. -/
def bit (b : Bool) : Nat := if b then 1 else 0

/-- A flag byte: the first flag is bit 0 (R193). -/
def flagBits : List Bool → Nat
  | [] => 0
  | b :: bs => bit b + 2 * flagBits bs

/-- Event kind codes (11.3). -/
def EventKind.code : EventKind → Nat
  | .anchorAccepted => 0x01
  | .withdrawn => 0x02
  | .protectedWrite => 0x03
  | .commandDone => 0x04
  | .ringIndexBad => 0x05
  | .scanOrder => 0x10
  | .extraLines => 0x11
  | .scanFault => 0x12
  | .storeLow => 0x18
  | .jobDone => 0x20
  | .destDone => 0x21
  | .linkState => 0x30
  | .ring => 0x38
  | .ringRefused => 0x40
  | .docReceived => 0x41
  | .printFault => 0x48
  | .printUnderrun => 0x49
  | .printSheetDone => 0x4A
  | .chargePosted => 0x50
  | .accountExhausted => 0x51
  | .logNearFull => 0x52

/-- Source kind codes (Table 11-4). -/
def SourceKind.code : SourceKind → Nat
  | .link => 0
  | .line => 1
  | .job => 2
  | .destination => 3
  | .document => 4
  | .page => 5
  | .print => 6
  | .account => 7
  | .log => 8
  | .path => 9

/-- Result codes in COMMAND_DONE (11.3). -/
def Result.code : Result → Nat
  | .done => 0
  | .doneClamped => 1
  | .accepted => 2
  | .badKind => 3
  | .short => 4
  | .range => 5
  | .noEntry => 6
  | .wrongState => 7
  | .full => 8
  | .noStore => 9

/-- End causes (Table 11-7). -/
def Cause.code : Cause → Nat
  | .normal => 0
  | .busy => 1
  | .noAnswer => 2
  | .notFax => 3
  | .timeout => 4
  | .dataNotReady => 5
  | .repeatLimit => 6
  | .pageRejected => 7
  | .cancelled => 8
  | .seizeLost => 9
  | .storeFull => 10
  | .pageLimit => 11
  | .remoteClear => 12
  | .lineDisabled => 13
  | .linkLost => 14
  | .withdrawn => 15

/-- Status codes of the anchor status word (11.2). -/
inductive Status where
  | reset
  | checking
  | accepted
  | withdrawn
  | badFormat
  | misaligned
  | outsideWindow
  | overlap
  | porTooSmall
  | tableInvalid
deriving DecidableEq, Repr

/-- The code of a status (11.2). -/
def statusCode : Status → Nat
  | .reset => 0x00
  | .checking => 0x01
  | .accepted => 0x02
  | .withdrawn => 0x03
  | .badFormat => 0x10
  | .misaligned => 0x11
  | .outsideWindow => 0x12
  | .overlap => 0x13
  | .porTooSmall => 0x14
  | .tableInvalid => 0x15

/-- Width class codes (11.2, 11.7). -/
def WidthClass.code : WidthClass → Nat
  | .a => 0
  | .b => 1
  | .c => 2

/-- The width class of a code, if it is one (11.7). -/
def widthClassOf : Nat → Option WidthClass
  | 0 => some .a
  | 1 => some .b
  | 2 => some .c
  | _ => none

/-- Wout, the dots of a page line (4.1). -/
def WidthClass.dots : WidthClass → Nat
  | .a => 1728
  | .b => 2048
  | .c => 2432

/-- Resolution codes (11.2, 11.7). -/
def Resolution.code : Resolution → Nat
  | .standard => 0
  | .fine => 1

/-- The resolution of a code, if it is one (11.7). -/
def resolutionOf : Nat → Option Resolution
  | 0 => some .standard
  | 1 => some .fine
  | _ => none

/-- Direction codes (Table 11-8). -/
def Dir.code : Dir → Nat
  | .outbound => 0
  | .inbound => 1

/-- Document state codes (Table 11-8). -/
def DocState.code : DocState → Nat
  | .opened => 0
  | .closed => 1
  | .receiving => 2
  | .complete => 3
  | .incomplete => 4
  | .deleting => 5

/-- Page state codes: EMPTY 0, then in the order of Table 4-1 (DEDUCED, log 12). -/
def PageState.code : PageState → Nat
  | .filling => 1
  | .complete => 2
  | .damaged => 3

/-- Job state codes, in the order of Table 5-1 from 0 (DEDUCED, log 12). -/
def JobState.code : JobState → Nat
  | .queued => 0
  | .active => 1
  | .onHold => 2
  | .done => 3
  | .cancelled => 4

/-- Destination state codes, in the order of R92 from 0 (DEDUCED, log 12). -/
def DestState.code : DestState → Nat
  | .pending => 0
  | .dialling => 1
  | .sending => 2
  | .retryWait => 3
  | .sent => 4
  | .failed => 5
  | .cancelled => 6

/-- Account state codes (R183). -/
def AccountState.code : AccountState → Nat
  | .unused => 0
  | .opened => 1
  | .blocked => 2

/-- The account state of a code; any other code is read as UNUSED at adoption (R192). -/
def accountStateOf : Nat → AccountState
  | 1 => .opened
  | 2 => .blocked
  | _ => .unused

/-- Line use codes (11.2). -/
def LineUse.code : LineUse → Nat
  | .disabled => 0
  | .outOnly => 1
  | .inOnly => 2
  | .both => 3

/-- The use of a code, if it is one (R123). -/
def lineUseOf : Nat → Option LineUse
  | 0 => some .disabled
  | 1 => some .outOnly
  | 2 => some .inOnly
  | 3 => some .both
  | _ => none

/-- Line state codes (Table 11-9). -/
def LineState.code : LineState → Nat
  | .unavailable => 0
  | .idle => 1
  | .seizing => 2
  | .dialling => 3
  | .sending => 4
  | .partialWait => 5
  | .pageWait => 6
  | .dataWait => 7
  | .answering => 8
  | .receiving => 9
  | .rxCheck => 10
  | .clearing => 11

/-- Running timer codes (Table 11-9); 0 is none. -/
def TimerKind.code : TimerKind → Nat
  | .seize => 1
  | .answer => 2
  | .partialPage => 3
  | .pageConfirm => 4
  | .dataWait => 5
  | .answering => 6
  | .blockGap => 7
  | .clearing => 8

/-- End kind codes (11.7). -/
def EndKind.code : EndKind → Nat
  | .more => 0
  | .pageEnd => 1
  | .docEnd => 2

/-- The end kind of a code, if it is one (11.7). -/
def endKindOf : Nat → Option EndKind
  | 0 => some .more
  | 1 => some .pageEnd
  | 2 => some .docEnd
  | _ => none

/-- Frame state codes (R109). -/
def FrameState.code : FrameState → Nat
  | .hunt => 0
  | .checkService => 1
  | .checkAlign => 2
  | .sync => 3
  | .holdOff => 4

/-- Print state codes (R164). -/
def PrintState.code : PrintState → Nat
  | .stopped => 0
  | .printing => 1
  | .stopping => 2

/-- The flags field of a page record: SCAN_OVERRUN, TRUNCATED, CHECK_FAIL, DECODE_FAULT from bit 0 (Table 4-1, R193). -/
def PageRec.flags (r : PageRec) : Nat := flagBits [r.scanOverrun, r.truncated, r.checkFail, r.decodeFault]

/-- The flags byte of a document record (Table 11-8). -/
def Doc.flags (d : Doc) : Nat := flagBits [d.keep, d.isHeld, d.autoDelete, d.printed]

/-- The flags field of a print slot tag (11.5). -/
def Tag.flags (t : Tag) : Nat := flagBits [t.first, t.last, t.underrun, t.damaged, t.cropped, t.checkFail]

/-- The final state in a DEST_DONE (11.3). -/
def DestState.doneCode : DestState → Nat
  | .failed => 1
  | .cancelled => 2
  | _ => 0

/-- The final state in a JOB_DONE (11.3). -/
def JobState.doneCode : JobState → Nat
  | .cancelled => 2
  | _ => 0

/-- SCAN_FAULT codes (11.3). -/
inductive ScanFault where
  | storeFull
  | pageTableFull
  | docFull
deriving DecidableEq, Repr

/-- The code of a scan fault (11.3). -/
def ScanFault.code : ScanFault → Nat
  | .storeFull => 0
  | .pageTableFull => 1
  | .docFull => 2

/-- Why a RING is refused (R151). -/
inductive RingRefusal where
  | lineNotIdle
  | lineUse
  | lowStore
  | pageRecords
  | noDocument
  | printQueueFull
deriving DecidableEq, Repr

/-- The code of a refusal (R151). -/
def RingRefusal.code : RingRefusal → Nat
  | .lineNotIdle => 0
  | .lineUse => 1
  | .lowStore => 2
  | .pageRecords => 3
  | .noDocument => 4
  | .printQueueFull => 5

end Sys2Proof.Machine
end

