-- ==== Sys2Proof/Machine/Ops.lean ====
section
/-! DEFINITION. The operations every block shares: sparse tables, DRAM and its byte order (R193), the window (R2), the event
stream (R31 to R36), and how the CEU takes a command and answers it (R24, R25). -/

namespace Sys2Proof.Machine

/-! ## Sparse tables -/

/-- The record of number `k`, if the table has one. -/
def Tab.get? {α : Type} : Tab α → Nat → Option α
  | [], _ => none
  | (i, v) :: t, k => if i = k then some v else Tab.get? t k

/-- The record of number `k`, or `d`. -/
def Tab.getD {α : Type} (t : Tab α) (k : Nat) (d : α) : α := (Tab.get? t k).getD d

/-- The records numbered below `k`. -/
def Tab.below {α : Type} (t : Tab α) (k : Nat) : Tab α := t.filter fun e => decide (e.1 < k)

/-- The records numbered `k` and above. -/
def Tab.from {α : Type} (t : Tab α) (k : Nat) : Tab α := t.filter fun e => decide (k ≤ e.1)

/-- The table with record `k` set. -/
def Tab.set {α : Type} (t : Tab α) (k : Nat) (v : α) : Tab α := Tab.below t k ++ (k, v) :: Tab.from t (k + 1)

/-- The table without record `k`. -/
def Tab.erase {α : Type} (t : Tab α) (k : Nat) : Tab α := Tab.below t k ++ Tab.from t (k + 1)

/-- The numbers of the records that satisfy `p`, in table order. -/
def Tab.keysWhere {α : Type} (t : Tab α) (p : α → Bool) : List Nat := (t.filter fun e => p e.2).map Prod.fst

/-- The lowest number below `n` without a record. -/
def Tab.firstFree {α : Type} (t : Tab α) (n : Nat) : Option Nat := (List.range n).find? fun k => (Tab.get? t k).isNone

/-- The numbers below `n` without a record, lowest first. -/
def Tab.free {α : Type} (t : Tab α) (n : Nat) : List Nat := (List.range n).filter fun k => (Tab.get? t k).isNone

/-! ## Byte order (R193) -/

/-- The `n` bytes of `v`, least significant first. -/
def le : Nat → Nat → List Byte
  | 0, _ => []
  | n + 1, v => BitVec.ofNat 8 v :: le n (v / 256)

/-- The number whose bytes, least significant first, are `bs`. -/
def leNat : List Byte → Nat
  | [] => 0
  | b :: bs => b.toNat + 256 * leNat bs

/-- One byte. -/
def u8 (v : Nat) : List Byte := le 1 v

/-- `n` zero bytes. -/
def zeros (n : Nat) : List Byte := List.replicate n 0

/-- `bs` padded with zero bytes or cut to `n` bytes. -/
def padTo (n : Nat) (bs : List Byte) : List Byte := (bs ++ zeros n).take n

/-! ## DRAM -/

/-- One byte of DRAM. -/
def Mem.get : Mem → Nat → Byte
  | [], _ => 0
  | (i, v) :: m, a => if i = a then v else Mem.get m a

/-- The cells of `bs` placed from offset `a` on; a zero byte needs no cell. -/
def Mem.cells : Nat → List Byte → Mem
  | _, [] => []
  | a, b :: bs => if b = 0 then Mem.cells (a + 1) bs else (a, b) :: Mem.cells (a + 1) bs

/-- DRAM with the bytes `bs` written from offset `a` on. -/
def Mem.write (m : Mem) (a : Nat) (bs : List Byte) : Mem :=
  (m.filter fun c => decide (c.1 < a)) ++ Mem.cells a bs ++ m.filter fun c => decide (a + bs.length ≤ c.1)

/-- DRAM with the `n` bytes from offset `a` on made 00h. -/
def Mem.clear (m : Mem) (a n : Nat) : Mem :=
  (m.filter fun c => decide (c.1 < a)) ++ m.filter fun c => decide (a + n ≤ c.1)

/-- The canonical form of DRAM: rising offsets and no zero byte. -/
def Mem.wf : Mem → Bool
  | [] => true
  | [(_, v)] => v != 0
  | (i, v) :: (j, w) :: m => v != 0 && decide (i < j) && Mem.wf ((j, w) :: m)

/-- The `n` bytes from offset `a` on. -/
def Mem.bytes (m : Mem) (a : Nat) : Nat → List Byte
  | 0 => []
  | n + 1 => Mem.get m a :: Mem.bytes m (a + 1) n

/-- The `n`-byte number at offset `a`. -/
def Mem.num (m : Mem) (a n : Nat) : Nat := leNat (Mem.bytes m a n)

/-- The 32-bit word at offset `a`. -/
def Mem.word (m : Mem) (a : Nat) : Word := BitVec.ofNat 32 (Mem.num m a 4)

/-- The state with the bytes `bs` written to DRAM from offset `a` on. -/
def State.store (s : State) (a : Nat) (bs : List Byte) : State := { s with dram := Mem.write s.dram a bs }

/-- The state with the `n` bytes of DRAM from offset `a` on made 00h. -/
def State.clear (s : State) (a n : Nat) : State := { s with dram := Mem.clear s.dram a n }

/-- The bytes of `old` with those of `new` that the byte enables name (R1). -/
def mergeWord (old new : Word) (be : ByteEnables) : Word :=
  BitVec.ofNat 32 (leNat ((List.range 4).map fun i =>
    if be.getLsbD i then new.extractLsb' (8 * i) 8 else old.extractLsb' (8 * i) 8))

/-! ## The window and the region map -/

/-- The window size in MiB. -/
def WindowSize.mib : WindowSize → Nat
  | .mib32 => 32
  | .mib64 => 64

/-- The window size in MiB; 0 before it is sensed. -/
def State.windowMiB (s : State) : Nat := (s.mad.window.map WindowSize.mib).getD 0

/-- The window size in bytes. -/
def State.windowBytes (s : State) : Nat := s.windowMiB * 1048576

/-- The anchor copy; an empty one where there is none. -/
def State.cfg (s : State) : Anchor := s.rgw.copy.getD Anchor.none

/-- The offset `o` of the part-owned region. -/
def State.por (s : State) (o : Nat) : Nat := s.cfg.porBase + o

/-- The part serves commands, events, scans, prints and calls. -/
def State.isRun (s : State) : Bool := s.rgw.state == .run

/-- Writes the anchor status word: a code, the window size and a value (Table 11-1). -/
def writeStatus (st : Status) (value : Nat) (s : State) : State :=
  s.store 0x30 (u8 (statusCode st) ++ u8 s.windowMiB ++ le 2 value)

/-! ## Events -/

/-- The 16 bytes of an event record (Table 11-4). -/
def Event.bytes (e : Event) : List Byte :=
  u8 e.kind.code ++ u8 e.src.code ++ le 2 e.idx ++ le 2 e.tag ++ u8 e.code ++ u8 e.lost ++ le 4 e.time ++ le 4 e.value

/-- The number of unread records, (tail − head) mod N (R32). -/
def State.unread (s : State) : Nat := (s.ceu.evTail + s.cfg.recCount - s.ceu.evHead) % s.cfg.recCount

/-- N − 1 records are unread (R32). -/
def State.ringFull (s : State) : Bool := decide (s.unread + 1 = s.cfg.recCount)

/-- Writes an event at the event ring's tail, advances the tail and its word, and asserts ATTN (R32). -/
def writeRecord (e : Event) (s : State) : State :=
  let tail := (s.ceu.evTail + 1) % s.cfg.recCount
  let s := s.store (s.cfg.evBase + 64 + 16 * s.ceu.evTail) e.bytes
  let s := s.store (s.cfg.evBase + 4) (le 4 tail)
  { s with ceu := { s.ceu with evTail := tail, attn := true,
                               withdrawnWritten := s.ceu.withdrawnWritten || e.kind == .withdrawn } }

/-- The places of the pending-event queue open to an event of this kind (R35). -/
def State.openPlaces (s : State) (k : EventKind) : Nat := if s.ceu.carrying && k != .commandDone then 31 else 32

/-- The event as it is kept: it carries the discard count in its lost field (R35). -/
def State.kept (s : State) (e : Event) : Event := { e with lost := s.ceu.discard }

/-- An event reaches the CEU: it is written, joins the pending-event queue, is held back (WITHDRAWN), or is discarded
(R32, R34, R35). Once WITHDRAWN is written the event ring is served no more, so the event is lost (R18, R37). -/
def deliverEvent (e : Event) (s : State) : State :=
  if s.ceu.withdrawnWritten then s
  else if !s.ringFull && s.ceu.queue.isEmpty then
    writeRecord (s.kept e) { s with ceu := { s.ceu with discard := 0 } }
  else if s.ceu.queue.length < s.openPlaces e.kind then
    { s with ceu := { s.ceu with queue := s.ceu.queue ++ [s.kept e], discard := 0 } }
  else if e.kind = .withdrawn then
    { s with ceu := { s.ceu with withdrawnHeld := some e } }
  else
    { s with ceu := { s.ceu with discard := min (s.ceu.discard + 1) 255 } }

/-- Posts an event with the present seconds count (R31). In PASS the event ring is not served (R5). -/
def postTagged (kind : EventKind) (src : SourceKind) (idx tag code value : Nat) (s : State) : State :=
  if s.rgw.state = .pass then s
  else deliverEvent { kind, src, idx, tag, code, lost := 0, time := s.chg.seconds, value } s

/-- Posts an event whose tag is 0. -/
def post (kind : EventKind) (src : SourceKind) (idx code value : Nat) (s : State) : State :=
  postTagged kind src idx 0 code value s

/-- Writes the events of the list, oldest first, until the ring is full; the rest stays as the queue (R34). WITHDRAWN is the
last event that is written: the queue is empty then (R37). -/
def drainQueue : List Event → State → State
  | [], s => { s with ceu := { s.ceu with queue := [] } }
  | e :: es, s =>
    if s.ceu.withdrawnWritten then { s with ceu := { s.ceu with queue := [] } }
    else if s.ringFull then { s with ceu := { s.ceu with queue := e :: es } }
    else drainQueue es (writeRecord e s)

/-- Places a WITHDRAWN that was held back, once a place is open (R35). -/
def placeWithdrawn (s : State) : State :=
  match s.ceu.withdrawnHeld with
  | none => s
  | some e => deliverEvent e { s with ceu := { s.ceu with withdrawnHeld := none } }

/-- Moves queued events into the freed records of the ring (R33, R34). -/
def serveQueue (s : State) : State := placeWithdrawn (drainQueue s.ceu.queue s)

/-! ## Commands -/

/-- A command slot as the CEU reads it (R22, Table 11-2). -/
structure Slot where
  kind : Nat
  tag : Nat
  count : Nat
  params : List Word
deriving DecidableEq, Repr

/-- A command's answer: its result code, and the source and value of its COMMAND_DONE (R30). -/
structure Reply where
  result : Result
  src : SourceKind
  idx : Nat
  value : Nat
deriving DecidableEq, Repr

/-- A reply whose source is path 0. -/
def Reply.path (r : Result) (value : Nat) : Reply := ⟨r, .path, 0, value⟩

/-- DONE, or DONE_CLAMPED with the position of the first clamped parameter (R28, R30). -/
def Reply.doneOr (clamped : Option Nat) (src : SourceKind) (idx value : Nat) : Reply :=
  match clamped with
  | none => ⟨.done, src, idx, value⟩
  | some p => ⟨.doneClamped, src, idx, p⟩

/-- DONE or DONE_CLAMPED, value 0: the answer of the commands whose chapter gives that value for both results (R30, log 39). -/
def Reply.doneZero (clamped : Option Nat) (src : SourceKind) (idx : Nat) : Reply :=
  ⟨if clamped.isSome then .doneClamped else .done, src, idx, 0⟩

/-- Reads the command slot `k` (R22). -/
def State.slotAt (s : State) (k : Nat) : Slot :=
  let a := s.cfg.cmdBase + 64 + 64 * k
  { kind := Mem.num s.dram a 2, tag := Mem.num s.dram (a + 2) 2, count := Mem.num s.dram (a + 4) 1,
    params := (List.range 14).map fun p => Mem.word s.dram (a + 8 + 4 * p) }

/-- The slot at the CEU's head. -/
def State.headSlot (s : State) : Slot := s.slotAt s.ceu.head

/-- The conditions under which the CEU takes the slot at its head (R24). -/
def State.canTake (s : State) : Bool :=
  s.isRun && s.ceu.accepted && s.ceu.head != s.ceu.tail && !s.ceu.carrying && s.ceu.queue.isEmpty

/-- The state while a command is being carried out. -/
def State.carry (s : State) : State := { s with ceu := { s.ceu with carrying := true } }

/-- The result is back: the CEU advances its head, writes the head word and posts COMMAND_DONE (R25, R30). -/
def finishCommand (tag : Nat) (r : Reply) (s : State) : State :=
  let head := (s.ceu.head + 1) % s.cfg.slotCount
  let s := { s with ceu := { s.ceu with head := head } }
  let s := s.store (s.cfg.cmdBase + 4) (le 4 head)
  let s := postTagged .commandDone r.src r.idx tag r.result.code r.value s
  { s with ceu := { s.ceu with carrying := false } }

/-- Checks 2 and 3 of R29, then the owning block's work. `need` is the number of parameters the command needs. -/
def checkedBody (need : Nat) (sl : Slot) (body : Slot → State → State × Reply) (s : State) : State × Reply :=
  if 14 < sl.count then (s, Reply.path .range sl.count)
  else if sl.count < need then (s, Reply.path .short need)
  else body sl s

/-- The CEU carries the command of the slot out and answers it. -/
def carryOut (sl : Slot) (work : State → State × Reply) (s : State) : State :=
  let r := work s.carry
  finishCommand sl.tag r.2 r.1

/-- The CEU takes the slot at its head when it may (R24), the slot holds a command of this kind and `mine` accepts it; the
slot waits, unread, otherwise. -/
def takeIf (kind need : Nat) (mine : Slot → Bool) (body : Slot → State → State × Reply) (s : State) : State :=
  if s.canTake && s.headSlot.kind == kind && mine s.headSlot then
    carryOut s.headSlot (checkedBody need s.headSlot body) s
  else s

/-- `takeIf` for a kind that one row takes whole. -/
def take (kind need : Nat) (body : Slot → State → State × Reply) (s : State) : State :=
  takeIf kind need (fun _ => true) body s

end Sys2Proof.Machine
end

