-- ==== Sys2Proof/Machine/Operands.lean ====
section
/-! DEFINITION. Parameters of commands: which are supplied (R26, R27), their fields, rounding and clamping (R28), and the
characters they carry (R193). -/

namespace Sys2Proof.Machine

/-- Parameter `p` as a word. -/
def Slot.word (sl : Slot) (p : Nat) : Word := sl.params.getD p 0

/-- Parameter `p` as an unsigned number. -/
def Slot.num (sl : Slot) (p : Nat) : Nat := (sl.word p).toNat

/-- Parameter `p` is supplied (R27). -/
def Slot.has (sl : Slot) (p : Nat) : Bool := decide (p < sl.count)

/-- The field of `n` bits from bit `i` of parameter `p` (11.2). -/
def Slot.field (sl : Slot) (p i n : Nat) : Nat := ((sl.word p).extractLsb' i n).toNat

/-- Bit `i` of parameter `p`. -/
def Slot.flag (sl : Slot) (p i : Nat) : Bool := (sl.word p).getLsbD i

/-- `v` brought into `lo` to `hi` (R28). -/
def clampNat (lo hi v : Nat) : Nat := max lo (min hi v)

/-- `v` brought into `lo` to `hi` (R28), for signed parameters. -/
def clampInt (lo hi v : Int) : Int := max lo (min hi v)

/-- `v` rounded down to a multiple of `n`. -/
def roundDown (n v : Nat) : Nat := v / n * n

/-- The position of the first parameter of the list whose value was changed by clamping (R28): each entry is a position, the
value before clamping and the value after. -/
def firstClamped : List (Nat × Nat × Nat) → Option Nat
  | [] => none
  | (p, v, w) :: l => if v = w then firstClamped l else some p

/-- The supplied fields among `l` (R27). -/
def Slot.supplied (sl : Slot) (l : List (Nat × Nat × Nat)) : List (Nat × Nat × Nat) := l.filter fun e => sl.has e.1

/-- A supplied setting, or the value kept (R27). -/
def Slot.orKept {α : Type} (sl : Slot) (p : Nat) (new kept : α) : α := if sl.has p then new else kept

/-- Character `i` of the characters packed four to a word from parameter `p` on, the first in the lowest byte (R147). -/
def Slot.char (sl : Slot) (p i : Nat) : Byte := (sl.word (p + i / 4)).extractLsb' (8 * (i % 4)) 8

/-- The first `n` packed characters from parameter `p` on. -/
def Slot.chars (sl : Slot) (p n : Nat) : List Byte := (List.range n).map (sl.char p)

/-- A digit 0 to 9 (R193). -/
def isDigit (c : Byte) : Bool := decide (0x30 ≤ c.toNat) && decide (c.toNat ≤ 0x39)

/-- The star of R193. -/
def star : Byte := 0x2A

/-- The hash of R193. -/
def hash : Byte := 0x23

/-- The comma of R193. -/
def comma : Byte := 0x2C

/-- A character of a prefix (R178). -/
def isPrefixChar (c : Byte) : Bool := isDigit c || c == star || c == hash

/-- A character of a destination's dial string (R89). -/
def isDialChar (c : Byte) : Bool := isPrefixChar c || c == comma

/-- The digit character of a digit value. -/
def digitChar (d : Nat) : Byte := BitVec.ofNat 8 (0x30 + d)

/-- The index of the first character that does not satisfy `ok`. -/
def firstBadChar (ok : Byte → Bool) (cs : List Byte) : Option Nat := cs.findIdx? fun c => !ok c

end Sys2Proof.Machine
end

