-- ==== Sys2Proof/Machine/PageCode.lean ====
section
/-! DEFINITION. The page code: transitions, the four line forms, the coder's choice, the decoder with its malformed lines
(R60 to R65, R168, Table 11-5), and the two cyclic redundancy checks (R66, R105). -/

namespace Sys2Proof.Machine

/-! ## Cyclic redundancy checks -/

/-- The bits of a byte, most significant first. -/
def bitsMsb (b : Byte) : List Bool := (List.range 8).map fun i => b.getLsbD (7 - i)

/-- One bit through the page check register: x^16 + x^12 + x^5 + 1 (R66). -/
def crc16Bit (r : BitVec 16) (b : Bool) : BitVec 16 :=
  if r.msb != b then (r <<< 1) ^^^ 0x1021#16 else r <<< 1

/-- One byte through the page check register (R66). -/
def crc16Byte (r : BitVec 16) (b : Byte) : BitVec 16 := (bitsMsb b).foldl crc16Bit r

/-- The page check of a stream (R66). -/
def crc16 (bs : List Byte) : BitVec 16 := bs.foldl crc16Byte 0xFFFF#16

/-- One bit through the CRC-8 register: x^8 + x^2 + x + 1 (R105). -/
def crc8Bit (r : Byte) (b : Bool) : Byte := if r.msb != b then (r <<< 1) ^^^ 0x07#8 else r <<< 1

/-- One byte through the CRC-8 register (R105). -/
def crc8Byte (r : Byte) (b : Byte) : Byte := (bitsMsb b).foldl crc8Bit r

/-- The CRC-8 register after further bytes (R105). -/
def crc8 (r : Byte) (bs : List Byte) : Byte := bs.foldl crc8Byte r

/-! ## Lines and transitions -/

/-- An all-white line (a black dot is true). -/
def whiteLine (wout : Nat) : List Bool := List.replicate wout false

/-- The transitions of the dots `ds`, the first of which is dot `d` and follows a dot of colour `prev` (R60). -/
def transitionsFrom (d : Nat) (prev : Bool) : List Bool → List Nat
  | [] => []
  | x :: ds => if x = prev then transitionsFrom (d + 1) prev ds else d :: transitionsFrom (d + 1) x ds

/-- The transitions of a line (R60). -/
def transitions (line : List Bool) : List Nat := transitionsFrom 0 false line

/-- The dots `d` to `d + n − 1` of the line that has colour `c` up to the first transition of `ts` and changes at each. -/
def drawFrom (d : Nat) (c : Bool) (ts : List Nat) : Nat → List Bool
  | 0 => []
  | n + 1 =>
    match ts with
    | [] => c :: drawFrom (d + 1) c [] n
    | t :: ts' => if t = d then (!c) :: drawFrom (d + 1) (!c) ts' n else c :: drawFrom (d + 1) c ts n

/-- The line of `wout` dots with these transitions. -/
def draw (wout : Nat) (ts : List Nat) : List Bool := drawFrom 0 false ts wout

/-- The runs of a line, white first (R63). -/
def runsOf (wout : Nat) (ts : List Nat) : List Nat :=
  let ends := ts ++ [wout]
  let starts := 0 :: ts
  List.zipWith (fun e s => e - s) ends starts

/-! ## The coder -/

/-- One run: one byte below 128, two from 128 on (R63, Table 11-5). -/
def runBytes (r : Nat) : List Byte := if r < 128 then u8 r else u8 (0x80 + r / 256) ++ u8 (r % 256)

/-- The shifts of R62, when the line has as many transitions as its reference, at least one, each within 7 dots. -/
def deltaShifts (ts rs : List Nat) : Option (List Int) :=
  let sh := List.zipWith (fun (p r : Nat) => (p : Int) - (r : Int)) ts rs
  if ts.length = rs.length ∧ ts ≠ [] ∧ sh.all (fun x => decide (-7 ≤ x) && decide (x ≤ 7)) then some sh else none

/-- A shift as a 4-bit two's complement value. -/
def shiftNibble (x : Int) : Nat := (x % 16).toNat

/-- Shifts two to a byte, the first in bits 7–4; an unused half is 0 (R62). -/
def packShifts : List Int → List Byte
  | [] => []
  | [x] => [BitVec.ofNat 8 (16 * shiftNibble x)]
  | x :: y :: l => BitVec.ofNat 8 (16 * shiftNibble x + shiftNibble y) :: packShifts l

/-- The RUNS form (R63). -/
def codeRuns (wout : Nat) (ts : List Nat) : List Byte :=
  u8 0x03 ++ le 2 (ts.length + 1) ++ (runsOf wout ts).flatMap runBytes

/-- The DELTA form (R62), where it applies. -/
def codeDelta (ts rs : List Nat) : Option (List Byte) :=
  (deltaShifts ts rs).map fun sh => u8 0x02 ++ le 2 ts.length ++ packShifts sh

/-- The shorter of two codings, the first on a tie (R64). -/
def shorter (a b : List Byte) : List Byte := if b.length < a.length then b else a

/-- The coded line: the shortest form that applies, the first in the order WHITE, REPEAT, DELTA, RUNS on a tie (R64). -/
def codeLine (wout : Nat) (ref line : List Bool) : List Byte :=
  let ts := transitions line
  if ts = [] then [0x00]
  else if line = ref then [0x01]
  else
    match codeDelta ts (transitions ref) with
    | some d => shorter d (codeRuns wout ts)
    | none => codeRuns wout ts

/-! ## The decoder -/

/-- A decoded line: its dots, the stream bytes it took, and whether it was malformed (R65, R168). -/
structure Decoded where
  dots : List Bool
  used : Nat
  malformed : Bool
deriving DecidableEq, Repr

/-- A 4-bit two's complement value (Table 11-5). -/
def nibbleShift (n : Nat) : Int := if n < 8 then (n : Int) else (n : Int) - 16

/-- The shifts in the first bytes of a DELTA line, two to a byte. -/
def unpackShifts (bs : List Byte) : List Int :=
  bs.flatMap fun b => [nibbleShift (b.toNat / 16), nibbleShift (b.toNat % 16)]

/-- The outcome of shifting the reference transitions: the good transitions from the front, and the first bad one. -/
def shiftTransitions (wout : Nat) (prev : Int) : List Nat → List Int → List Nat × Option Int
  | r :: rs, x :: xs =>
    let p : Int := (r : Int) + x
    if prev < p ∧ 0 ≤ p ∧ p < (wout : Int) then
      let rest := shiftTransitions wout p rs xs
      (p.toNat :: rest.1, rest.2)
    else ([], some p)
  | _, _ => ([], none)

/-- The first `n` dots of a line, the rest white (R168). -/
def keepDots (wout n : Nat) (line : List Bool) : List Bool :=
  line.take n ++ List.replicate (wout - min n wout) false

/-- A line of which nothing is valid (R168). -/
def noValidPart (wout used : Nat) : Decoded := ⟨whiteLine wout, used, true⟩

/-- A DELTA line after its first byte (R62, R65, R168). Of a line that the stream's end cuts, the dot at the last transition read
whole and every later one are white (DESIGN CHOICE, log 52). -/
def decodeDelta (wout : Nat) (ref : List Bool) (bs : List Byte) : Decoded :=
  let rs := transitions ref
  if bs.length < 2 then noValidPart wout bs.length
  else
    let t := leNat (bs.take 2)
    if t = 0 ∨ t ≠ rs.length then noValidPart wout 2
    else
      let need := (t + 1) / 2
      let got := (bs.drop 2).take need
      let res := shiftTransitions wout (-1) (rs.take (min t (2 * got.length))) (unpackShifts got)
      match res.2 with
      | some p => ⟨keepDots wout p.toNat (draw wout res.1), 2 + got.length, true⟩
      | none =>
        if got.length < need then
          ⟨keepDots wout (res.1.getLastD 0) (draw wout res.1), 2 + got.length, true⟩
        else ⟨draw wout res.1, 2 + need, false⟩

/-- Paints `n` runs from the stream into the `room` dots left, the next of colour `c`; answers the dots painted, the bytes
read, and whether the runs fill the room exactly and the stream holds all of them whole. A two-byte run is read from the low
seven bits of its first byte, so that a first byte C0h to FFh, which 11.4 gives no meaning, spells a run longer than any line
and makes the line malformed, and one of 00h to 7Fh counts as it reads (DESIGN CHOICE, log 61). -/
def paintRuns : Nat → Bool → Nat → List Byte → List Bool × Nat × Bool
  | 0, _, room, _ => ([], 0, room == 0)
  | n + 1, c, room, bs =>
    match bs with
    | [] => ([], 0, false)
    | b :: bs' =>
      if b.toNat < 128 then
        if b.toNat ≤ room then
          let r := paintRuns n (!c) (room - b.toNat) bs'
          (List.replicate b.toNat c ++ r.1, 1 + r.2.1, r.2.2)
        else (List.replicate room c, 1, false)
      else
        match bs' with
        | [] => ([], 0, false)
        | b2 :: bs'' =>
          let run := (b.toNat - 128) * 256 + b2.toNat
          if run ≤ room then
            let r := paintRuns n (!c) (room - run) bs''
            (List.replicate run c ++ r.1, 2 + r.2.1, r.2.2)
          else (List.replicate room c, 2, false)

/-- A RUNS line after its first byte (R63, R65, R168). -/
def decodeRuns (wout : Nat) (bs : List Byte) : Decoded :=
  if bs.length < 2 then noValidPart wout bs.length
  else
    let r := paintRuns (leNat (bs.take 2)) false wout (bs.drop 2)
    ⟨keepDots wout r.1.length r.1, 2 + r.2.1, !r.2.2⟩

/-- Decodes the line at the front of `bs` against its reference (R60 to R65, R168). -/
def decodeLine (wout : Nat) (ref : List Bool) (bs : List Byte) : Decoded :=
  match bs with
  | [] => noValidPart wout 0
  | b :: bs' =>
    if b = 0x00 then ⟨whiteLine wout, 1, false⟩
    else if b = 0x01 then ⟨ref, 1, false⟩
    else if b = 0x02 then let d := decodeDelta wout ref bs'; { d with used := d.used + 1 }
    else if b = 0x03 then let d := decodeRuns wout bs'; { d with used := d.used + 1 }
    else noValidPart wout 1

end Sys2Proof.Machine
end

