-- ==== Sys2Proof/Machine/Layout.lean ====
section
/-! DEFINITION. The bytes of every record that the part keeps in the part-owned region (Table 1-3, 11.6, R193), and the one way
each table changes: the record is set and its bytes are written by the same operation. Records without a layout of their own
follow the general rule of R193 (DEDUCED, log 12). A record that is set free is written as zero bytes (log 13). -/

namespace Sys2Proof.Machine

/-- A number, or `none` as the given absent value. -/
def orAbsent (absent : Nat) (o : Option Nat) : Nat := o.getD absent

/-- Characters with a count byte before them, in a field of `n` characters; the places beyond the count are 00h (DESIGN CHOICE,
log 42). -/
def countedChars (n : Nat) (cs : List Byte) : List Byte := u8 cs.length ++ padTo n cs

/-! ## Path status record -/

/-- The number of EMPTY page records. -/
def State.emptyPages (s : State) : Nat := 1024 - s.psm.pages.length

/-- The number of free segments (R68). -/
def State.freeCount (s : State) : Nat := s.psm.stack.length

/-- The path status record (Table 11-6). -/
def State.pathStatusBytes (s : State) : List Byte :=
  le 2 s.rgw.droppedCount ++ u8 s.windowMiB ++ zeros 1 ++ le 4 (orAbsent 0xFFFFFFFF s.rgw.lastDropped)
    ++ le 2 s.freeCount ++ le 2 s.emptyPages

/-- Writes the path status record (R12, R68). -/
def writePathStatus (s : State) : State := s.store (s.por 0) s.pathStatusBytes

/-! ## Page records and segments -/

/-- A page record (Table 4-1, R193). -/
def PageRec.bytes (r : PageRec) : List Byte :=
  u8 r.state.code ++ u8 r.doc ++ u8 r.pos ++ u8 r.dir.code ++ u8 r.cls.code ++ u8 r.res.code ++ le 2 r.lineCount
    ++ le 4 r.codedLen ++ le 4 (orAbsent 0xFFFFFFFF r.chain.head?) ++ le 2 r.chain.length ++ le 2 r.check.toNat
    ++ u8 r.flags ++ zeros 1 ++ le 2 r.sendHolds ++ le 2 r.printHolds ++ zeros 2 ++ le 4 r.sealedTime

/-- The offset of page record `p`. -/
def State.pageAddr (s : State) (p : Nat) : Nat := s.por (0x1000 + 64 * p)

/-- Page record `p`, unless it is EMPTY. -/
def State.page? (s : State) (p : Nat) : Option PageRec := Tab.get? s.psm.pages p

/-- Sets page record `p`. -/
def putPage (p : Nat) (r : PageRec) (s : State) : State :=
  ({ s with psm := { s.psm with pages := Tab.set s.psm.pages p r } }).store (s.pageAddr p) r.bytes

/-- Makes page record `p` EMPTY, every field cleared (R76). -/
def clearPage (p : Nat) (s : State) : State :=
  ({ s with psm := { s.psm with pages := Tab.erase s.psm.pages p } }).store (s.pageAddr p) (zeros 64)

/-- Changes page record `p`, if it is in use. -/
def modifyPage (p : Nat) (f : PageRec → PageRec) (s : State) : State :=
  match s.page? p with
  | none => s
  | some r => putPage p (f r) s

/-- The offset of segment `i` (R8). -/
def State.segAddr (s : State) (i : Nat) : Nat := s.por (0x100000 + 1024 * i)

/-- The page state's fields that make it complete: SEALED or DAMAGED. -/
def PageRec.isSealed (r : PageRec) : Bool := r.state != .filling

/-! ## Document records -/

/-- The place list of a document record (Table 11-8). -/
def placeBytes (places : List (Option Nat)) : List Byte :=
  (List.range 128).flatMap fun i =>
    le 2 (match places[i]? with
      | none => 0xFFFF
      | some none => 0xFFFE
      | some (some p) => p)

/-- A document record (Table 11-8); the bytes of the inbound fields of an outbound document are 00h (DESIGN CHOICE, log 42). -/
def Doc.bytes (id : Nat) (d : Doc) : List Byte :=
  u8 id ++ u8 d.dir.code ++ u8 d.state.code ++ u8 d.flags ++ u8 d.desk ++ u8 d.tray ++ u8 d.line ++ u8 d.copies
    ++ u8 d.printClass ++ u8 d.places.length ++ u8 d.jobRefs ++ zeros 1 ++ le 2 d.printRefs ++ zeros 2 ++ le 4 d.created
    ++ countedChars 8 d.called ++ countedChars 20 d.ident ++ zeros 78 ++ placeBytes d.places ++ zeros 128

/-- The offset of document record `d`. -/
def State.docAddr (s : State) (d : Nat) : Nat := s.por (0x89000 + 512 * d)

/-- Document `d`, unless its record is free. -/
def State.doc? (s : State) (d : Nat) : Option Doc := Tab.get? s.dju.docs d

/-- Sets document record `d`. -/
def putDoc (d : Nat) (r : Doc) (s : State) : State :=
  ({ s with dju := { s.dju with docs := Tab.set s.dju.docs d r } }).store (s.docAddr d) (r.bytes d)

/-- Makes document record `d` free, every field cleared (R87). -/
def clearDoc (d : Nat) (s : State) : State :=
  ({ s with dju := { s.dju with docs := Tab.erase s.dju.docs d } }).store (s.docAddr d) (zeros 512)

/-- Changes document `d`, if it exists. -/
def modifyDoc (d : Nat) (f : Doc → Doc) (s : State) : State :=
  match s.doc? d with
  | none => s
  | some r => putDoc d (f r) s

/-- The list of the document may no longer grow (R85). -/
def Doc.isFinal (d : Doc) : Bool := d.state != .opened && d.state != .receiving

/-- The live pages of a document. -/
def Doc.livePages (d : Doc) : List Nat := d.places.filterMap id

/-! ## Jobs and destinations -/

/-- A job record (Table 5-1, R193). -/
def Job.bytes (j : Job) : List Byte :=
  u8 j.state.code ++ u8 j.doc ++ u8 j.account ++ u8 j.priority ++ u8 j.spread ++ u8 (bit j.autoDelete) ++ le 2 j.tag
    ++ le 4 j.submission ++ u8 j.destCount ++ u8 j.sent ++ u8 j.failed ++ u8 j.cancelled ++ u8 j.sessions
    ++ u8 (bit j.started)

/-- The offset of job record `j`. -/
def State.jobAddr (s : State) (j : Nat) : Nat := s.por (0x19000 + 128 * j)

/-- Job `j`, unless its record is free. -/
def State.job? (s : State) (j : Nat) : Option Job := Tab.get? s.dju.jobs j

/-- Sets job record `j`. -/
def putJob (j : Nat) (r : Job) (s : State) : State :=
  ({ s with dju := { s.dju with jobs := Tab.set s.dju.jobs j r } }).store (s.jobAddr j) r.bytes

/-- Makes job record `j` free. -/
def clearJob (j : Nat) (s : State) : State :=
  ({ s with dju := { s.dju with jobs := Tab.erase s.dju.jobs j } }).store (s.jobAddr j) (zeros 128)

/-- Changes job `j`, if it exists. -/
def modifyJob (j : Nat) (f : Job → Job) (s : State) : State :=
  match s.job? j with
  | none => s
  | some r => putJob j (f r) s

/-- The count byte of a field that may be absent: 0 absent, 1 present (R193). -/
def presence (o : Option Nat) : List Byte := u8 (bit o.isSome)

/-- A destination record (R92, R193); a count byte stands before each field that may be absent (log 12), an absent field
holds 00h behind it (DESIGN CHOICE, log 70), and a next-try time that has no meaning stays as it was (DESIGN CHOICE,
log 42). -/
def Dest.bytes (d : Dest) : List Byte :=
  u8 d.job ++ u8 d.index ++ countedChars 24 d.digits ++ u8 d.state.code ++ u8 d.attempts ++ zeros 3
    ++ le 4 (d.nextTry % 4294967296).toNat
    ++ presence (d.lastCause.map Cause.code) ++ u8 (orAbsent 0 (d.lastCause.map Cause.code)) ++ u8 d.confirmed
    ++ presence d.line ++ u8 (orAbsent 0 d.line) ++ presence d.logSeq ++ zeros 2 ++ le 4 (orAbsent 0 d.logSeq)
    ++ u8 (bit d.cancelMark)

/-- The offset of destination record `d`. -/
def State.destAddr (s : State) (d : Nat) : Nat := s.por (0x1B000 + 64 * d)

/-- Destination record `d`, unless it is free. -/
def State.dest? (s : State) (d : Nat) : Option Dest := Tab.get? s.dju.dests d

/-- Sets destination record `d`. -/
def putDest (d : Nat) (r : Dest) (s : State) : State :=
  ({ s with dju := { s.dju with dests := Tab.set s.dju.dests d r } }).store (s.destAddr d) r.bytes

/-- Makes destination record `d` free. -/
def clearDest (d : Nat) (s : State) : State :=
  ({ s with dju := { s.dju with dests := Tab.erase s.dju.dests d } }).store (s.destAddr d) (zeros 64)

/-- Changes destination `d`, if it exists. -/
def modifyDest (d : Nat) (f : Dest → Dest) (s : State) : State :=
  match s.dest? d with
  | none => s
  | some r => putDest d (f r) s

/-- A destination in a final state (R92). -/
def Dest.isFinal (d : Dest) : Bool := d.state == .sent || d.state == .failed || d.state == .cancelled

/-- A destination waiting to be called: neither final nor in session. -/
def Dest.isIdle (d : Dest) : Bool := d.state == .pending || d.state == .retryWait

/-- The destination records of job `j`, in index order: the records of a job rise with their index (R90). -/
def State.destsOf (s : State) (j : Nat) : List Nat := Tab.keysWhere s.dju.dests fun d => d.job == j

/-! ## Line session records -/

/-- The plan of line `n`. -/
def State.plan (s : State) (n : Line) : LinePlan := Tab.getD s.lne.plan n.val LinePlan.default

/-- The session record of line `n`. -/
def State.line (s : State) (n : Line) : LineRec := Tab.getD s.lne.lines n.val LineRec.default

/-- The block map of a line session record (Table 11-9). -/
def blockMapBytes (m : Tab Nat) : List Byte := (List.range 64).flatMap fun b => le 2 (Tab.getD m b 0)

/-- A line session record (Table 11-9); the places beyond the prefix count are 00h (DESIGN CHOICE, log 42), a partial page number
past 255 shows mod 256 (DESIGN CHOICE, log 65), and the page position shows that of the last page while none is in hand (DESIGN
CHOICE, log 66). -/
def State.lineBytes (s : State) (n : Line) : List Byte :=
  let r := s.line n
  let p := s.plan n
  u8 r.state.code ++ u8 (match r.dir with | none => 0 | some .outbound => 1 | some .inbound => 2) ++ u8 p.use.code
    ++ u8 p.outside.length ++ padTo 4 (p.outside.map digitChar) ++ le 2 (orAbsent 0xFFFF r.dest)
    ++ u8 (orAbsent 0xFF r.job) ++ u8 (orAbsent 0xFF (r.cause.map Cause.code)) ++ le 2 (orAbsent 0xFFFF r.doc)
    ++ le 2 (orAbsent 0xFFFF r.page) ++ u8 r.pagePos ++ u8 r.partialPage ++ u8 r.blockCount ++ u8 r.rounds
    ++ u8 (orAbsent 0xFF (r.lastEnd.map EndKind.code))
    ++ u8 (flagBits [r.answered, r.cut, r.timer.isSome && s.lne.grace.isSome])
    ++ u8 (orAbsent 0 (r.timer.map TimerKind.code)) ++ zeros 1 ++ le 4 r.answerTime ++ le 4 r.remaining ++ le 4 r.kept
    ++ zeros 28 ++ blockMapBytes r.blockMap ++ zeros 64

/-- Writes the whole session record of line `n` (R122). -/
def writeLine (n : Line) (s : State) : State := s.store (s.por (0x80 + 256 * n.val)) (s.lineBytes n)

/-- The fields whose change makes the LNE write the record (R122): state, page, partial page, block (inbound the blocks present,
outbound the blocks still to fill) and repeat round. -/
def LineRec.written (r : LineRec) : LineState × Option Nat × Nat × Nat × List (Nat × Nat) × List Nat × Nat :=
  (r.state, r.page, r.partialPage, r.blockCount, r.blockMap, r.toSend, r.rounds)

/-- Sets what the LNE holds for line `n`, without writing its record. -/
def setLine (n : Line) (r : LineRec) (s : State) : State :=
  { s with lne := { s.lne with lines := Tab.set s.lne.lines n.val r } }

/-- Changes the session record of line `n` and writes it when R122 asks for it. -/
def modifyLine (n : Line) (f : LineRec → LineRec) (s : State) : State :=
  let r := f (s.line n)
  if r.written == (s.line n).written then setLine n r s else writeLine n (setLine n r s)

/-- The eight lines. -/
def allLines : List Line := List.finRange 8

/-! ## Link status record -/

/-- The link is up (R111). -/
def State.linkUp (s : State) : Bool := s.sli.frame == .sync && s.sli.mf == .mfSync

/-- The SLI sends messages and blocks (R112). -/
def State.sending (s : State) : Bool := s.linkUp && !s.sli.rxAlarm && s.rgw.state != .pass

/-- The remote alarm flag that the part sends (R104). -/
def State.sentAlarm (s : State) : Bool := !s.linkUp || s.rgw.state == .pass

/-- The link status record (R116, Table 11-6). -/
def State.linkStatusBytes (s : State) : List Byte :=
  u8 s.sli.frame.code ++ u8 (bit (s.sli.mf == .mfSync)) ++ u8 (bit s.linkUp) ++ u8 (bit s.sli.rxAlarm) ++ u8 (bit s.sentAlarm)
    ++ u8 (bit s.sending) ++ u8 s.sli.lossCount ++ u8 (bit s.sli.serviceCheck) ++ u8 (bit s.sli.autoResync)
    ++ u8 s.sli.queue.length ++ zeros 2 ++ le 2 s.sli.alignErrors ++ le 2 s.sli.crcErrors ++ le 2 s.sli.farEndErrors
    ++ le 2 s.sli.losses ++ le 4 s.sli.lastChange

/-- Writes the link status record, outside PASS (R116). -/
def writeLinkStatus (s : State) : State :=
  if s.rgw.state = .pass then s else s.store (s.por 0x40) s.linkStatusBytes

/-! ## Tables kept without gaps

The routes (R147) and the tariff prefixes (R178) in use are always records 0 to count − 1, each of 32 bytes. -/

/-- A list with record `i` set, or put behind the last one. -/
def setRecord {α : Type} (i : Nat) (r : α) (l : List α) : List α := if i < l.length then l.set i r else l ++ [r]

/-- A list whose record `i` has given its place to the last record (R147, R178). -/
def removeRecord {α : Type} (i : Nat) (l : List α) : List α :=
  match l.getLast? with
  | none => l
  | some x => (l.set i x).dropLast

/-- The last record's bytes, as DRAM holds them, move into the place of record `i` of the table at `base`: the move changes the
number of the moved record and nothing else of it (R147, R178). The place that it leaves is written as zeros (log 13). -/
def moveRecord (base i last : Nat) (s : State) : State :=
  (s.store (base + 32 * i) (Mem.bytes s.dram (base + 32 * last) 32)).store (base + 32 * last) (zeros 32)

/-! ## Routes and filter -/

/-- The flags of a route record: bit 0 upward in the order of R146 (R193). -/
def Route.flags (r : Route) : Nat := flagBits [r.filter, r.autoDelete]

/-- A route record (R146, R193); its bytes after the flags are written 0 (log 12), and so are the digit places beyond its digit
count (DESIGN CHOICE, log 42). -/
def Route.bytes (r : Route) : List Byte :=
  u8 r.digitCount ++ padTo 8 r.digits ++ u8 r.desk ++ u8 r.tray ++ u8 r.copies ++ u8 r.printClass ++ u8 r.flags ++ zeros 18

/-- Sets the routes in use and writes the route count (R146). -/
def setRoutes (routes : List Route) (s : State) : State :=
  ({ s with rxr := { s.rxr with routes := routes } }).store (s.por 0x2B820) (u8 routes.length)

/-- Writes route record `i`: one in use, or the first free one (R147). -/
def putRoute (i : Nat) (r : Route) (s : State) : State :=
  (setRoutes (setRecord i r s.rxr.routes) s).store (s.por (0x2B000 + 32 * i)) r.bytes

/-- Takes route record `i` out of use: the last one in use moves into its place (R147). -/
def dropRoute (i : Nat) (s : State) : State :=
  moveRecord (s.por 0x2B000) i (s.rxr.routes.length - 1) (setRoutes (removeRecord i s.rxr.routes) s)

/-- Sets the sender filter (11.6). -/
def putFilter (bins : BitVec 256) (s : State) : State :=
  ({ s with rxr := { s.rxr with bins := bins } }).store (s.por 0x2B800) (le 32 bins.toNat)

/-- Sets the default route (11.6). -/
def putDefaultRoute (r : Route) (s : State) : State :=
  ({ s with rxr := { s.rxr with defaultRoute := r } }).store (s.por 0x2B840) r.bytes

/-! ## Print queue -/

/-- A print entry (R158, R193); its sheet number takes 4 bytes, as the tag's does (DESIGN CHOICE, log 68). -/
def PrintEntry.bytes (e : PrintEntry) : List Byte :=
  u8 e.doc ++ u8 e.copies ++ u8 e.copiesDone ++ u8 e.tray ++ u8 e.cls ++ zeros 3 ++ le 4 e.arrival ++ u8 (bit e.printing)
    ++ u8 e.position ++ zeros 2 ++ le 4 e.sheetNumber ++ le 2 e.sheetLine ++ u8 (bit e.cancelMark)

/-- The offset of print entry `e`. -/
def State.entryAddr (s : State) (e : Nat) : Nat := s.por (0x2C000 + 64 * e)

/-- Print entry `e`, unless it is free. -/
def State.entry? (s : State) (e : Nat) : Option PrintEntry := Tab.get? s.prn.entries e

/-- Sets print entry `e`. -/
def putEntry (e : Nat) (r : PrintEntry) (s : State) : State :=
  ({ s with prn := { s.prn with entries := Tab.set s.prn.entries e r } }).store (s.entryAddr e) r.bytes

/-- Makes print entry `e` free. -/
def clearEntry (e : Nat) (s : State) : State :=
  ({ s with prn := { s.prn with entries := Tab.erase s.prn.entries e } }).store (s.entryAddr e) (zeros 64)

/-- Changes print entry `e`, if it is in use. -/
def modifyEntry (e : Nat) (f : PrintEntry → PrintEntry) (s : State) : State :=
  match s.entry? e with
  | none => s
  | some r => putEntry e (f r) s

/-! ## Charge tables -/

/-- Band plan entry `h`. -/
def State.band (s : State) (h : Nat) : Nat := Tab.getD s.chg.bands h 0

/-- Sets band plan entry `h` (R177). -/
def putBand (h b : Nat) (s : State) : State :=
  ({ s with chg := { s.chg with bands := Tab.set s.chg.bands h b } }).store (s.por (0x34000 + h)) (u8 b)

/-- A prefix record (R178, R193); the places beyond its count and the bytes after its fields are written 0 (DESIGN CHOICE,
log 42). -/
def TariffPrefix.bytes (p : TariffPrefix) : List Byte := u8 p.count ++ padTo 12 p.chars ++ u8 p.zone ++ zeros 18

/-- Sets the prefix records in use and writes the prefix count (R178). -/
def setPrefixes (ps : List TariffPrefix) (s : State) : State :=
  ({ s with chg := { s.chg with prefixes := ps } }).store (s.por 0x34840) (le 2 ps.length)

/-- Writes prefix record `i`: one in use, or the first free one (R178). -/
def putPrefix (i : Nat) (p : TariffPrefix) (s : State) : State :=
  (setPrefixes (setRecord i p s.chg.prefixes) s).store (s.por (0x35000 + 32 * i)) p.bytes

/-- Takes prefix record `i` out of use: the last one in use moves into its place (R178, as for a route). -/
def dropPrefix (i : Nat) (s : State) : State :=
  moveRecord (s.por 0x35000) i (s.chg.prefixes.length - 1) (setPrefixes (removeRecord i s.chg.prefixes) s)

/-- A rate record (R180, R193). -/
def Rate.bytes (r : Rate) : List Byte :=
  le 2 r.setUp ++ le 2 r.period ++ le 2 r.n1 ++ le 2 r.n2 ++ le 2 r.a1 ++ le 2 r.a2 ++ le 2 r.a3 ++ zeros 2

/-- Rate record `i`. -/
def State.rate (s : State) (i : Nat) : Rate := Tab.getD s.chg.rates i Rate.empty

/-- Sets rate record `i` (R180). -/
def putRate (i : Nat) (r : Rate) (s : State) : State :=
  ({ s with chg := { s.chg with rates := Tab.set s.chg.rates i r } }).store (s.por (0x37000 + 16 * i)) r.bytes

/-- An account record (R182, R193); the seconds per page take 2 bytes, so the exhausted mark lies at 1Eh (DESIGN CHOICE,
log 71). -/
def Account.bytes (a : Account) : List Byte :=
  u8 a.state.code ++ u8 (bit a.limit.isNone) ++ zeros 2 ++ le 4 (orAbsent 0xFFFFFFFF a.limit) ++ le 4 a.spent ++ zeros 4
    ++ le 8 a.reserved ++ le 4 a.calls ++ le 2 a.secondsPerPage ++ u8 (bit a.armed)

/-- Account `i`. -/
def State.account (s : State) (i : Nat) : Account := Tab.getD s.chg.accounts i Account.empty

/-- Sets account `i`. -/
def putAccount (i : Nat) (a : Account) (s : State) : State :=
  ({ s with chg := { s.chg with accounts := Tab.set s.chg.accounts i a } }).store (s.por (0x38000 + 64 * i)) a.bytes

/-- Sets the log state and writes the charge log state record (R190, 11.6). -/
def putLogState (oldest inUse next : Nat) (s : State) : State :=
  ({ s with chg := { s.chg with logOldest := oldest, logInUse := inUse, logNext := next } }).store (s.por 0x34800)
    (le 2 oldest ++ le 2 inUse ++ le 4 next)

end Sys2Proof.Machine
end

