-- ==== Sys2Proof/Machine/Store.lean ====
section
/-! DEFINITION. The Page Store Manager: segments and the free-segment stack, page records, holds and freeing, and the places of
pages in their documents (R67 to R77, R80, R84, R87). -/

namespace Sys2Proof.Machine

/-! ## The free count and the low-store mark -/

/-- Tests the low-store mark after a change of the free count (R80). -/
def testLowMark (s : State) : State :=
  if s.psm.lowArmed && decide (s.freeCount < s.psm.lowMark) then
    post .storeLow .path 0 0 s.freeCount { s with psm := { s.psm with lowArmed := false } }
  else if !s.psm.lowArmed && decide (s.psm.lowMark < s.freeCount) then
    { s with psm := { s.psm with lowArmed := true } }
  else s

/-- The free count has changed: the path status record is written (R68) and the mark tested (R80). -/
def freeCountChanged (s : State) : State := testLowMark (writePathStatus s)

/-! ## Segments -/

/-- The trailer that ends a chain (R67). -/
def chainEnd : Nat := 0xFFFFFFFF

/-- Writes the trailer of segment `i` (R67). -/
def writeTrailer (i next : Nat) (s : State) : State := s.store (s.segAddr i + 1020) (le 4 next)

/-- Gives page `p` the segment on top of the stack, chained behind its last (R69); none when no segment is free. -/
def giveSegment (p : Nat) (s : State) : Option State :=
  match s.psm.stack, s.page? p with
  | seg :: rest, some r =>
    let s := { s with psm := { s.psm with stack := rest } }
    let s := writeTrailer seg chainEnd s
    let s := match r.chain.getLast? with
      | none => s
      | some l => writeTrailer l seg s
    some (freeCountChanged (putPage p { r with chain := r.chain ++ [seg] } s))
  | _, _ => none

/-- Gives page `p` up to `n` segments in turn; answers whether all were given. -/
def giveSegments (p : Nat) : Nat → State → State × Bool
  | 0, s => (s, true)
  | n + 1, s =>
    match giveSegment p s with
    | none => (s, false)
    | some s' => giveSegments p n s'

/-- Pushes one segment: its number becomes the top entry of the stack (R68). -/
def pushSegment (s : State) (seg : Nat) : State :=
  let s' := s.store (s.por (0x79000 + 2 * s.freeCount)) (le 2 seg)
  { s' with psm := { s'.psm with stack := seg :: s'.psm.stack } }

/-- Pushes segments in chain order, first segment first (R76). -/
def pushSegments (segs : List Nat) (s : State) : State := segs.foldl pushSegment s

/-- The segments that `n` stream bytes need (R67). -/
def segsFor (n : Nat) : Nat := (n + 1019) / 1020

/-- The offset of stream byte `o` of a page with this chain (R67). -/
def State.streamAddr (s : State) (chain : List Nat) (o : Nat) : Nat :=
  s.segAddr (chain.getD (o / 1020) 0) + o % 1020

/-- The stream bytes `o` to `o + n − 1` of a chain (R67). -/
def State.streamBytes (s : State) (chain : List Nat) (o n : Nat) : List Byte :=
  (List.range n).map fun i => Mem.get s.dram (s.streamAddr chain (o + i))

/-- Writes stream bytes from stream offset `o` on, one segment's stretch at a time: `chain` is the rest of the chain from the
segment that holds `o`, and `at` the offset of `o` in it. -/
def writeStretches : List Nat → Nat → List Byte → State → State
  | [], _, _, s => s
  | seg :: segs, at_, bs, s =>
    let s := s.store (s.segAddr seg + at_) (bs.take (1020 - at_))
    writeStretches segs 0 (bs.drop (1020 - at_)) s

/-- Writes stream bytes from stream offset `o` on, as far as the chain reaches (R67). -/
def writeStream (chain : List Nat) (o : Nat) (bs : List Byte) (s : State) : State :=
  if bs = [] then s else writeStretches (chain.drop (o / 1020)) (o % 1020) bs s

/-! ## Documents' places -/

/-- Frees the record of document `d` when it is DELETING, holds no live page and nothing refers to it (R87). -/
def testDocFree (d : Nat) (s : State) : State :=
  match s.doc? d with
  | none => s
  | some r =>
    if r.state = .deleting ∧ r.livePages = [] ∧ r.jobRefs = 0 ∧ r.printRefs = 0 then clearDoc d s else s

/-- The document can take another page (R84). -/
def State.docHasRoom (s : State) (d : Nat) : Bool :=
  match s.doc? d with
  | none => false
  | some r => decide (r.places.length < 128)

/-- Page `p`, freed under R76, leaves a freed place in its document (R84), whose record may then be freed (R87). -/
def leaveFreedPlace (d p : Nat) (s : State) : State :=
  testDocFree d (modifyDoc d (fun r => { r with places := r.places.map fun x => if x = some p then none else x }) s)

/-- A page freed without a seal was the last place of the list, which is shortened by it (R84). -/
def dropLastPlace (d : Nat) (s : State) : State := modifyDoc d (fun r => { r with places := r.places.dropLast }) s

/-! ## Page records -/

/-- Gives the lowest-numbered EMPTY page record for a new page of document `d`, appends the page to the document's list, and
answers the record (R72, R84). -/
def startPage (d : Nat) (dir : Dir) (cls : WidthClass) (res : Resolution) (s : State) : Option (Nat × State) :=
  match Tab.firstFree s.psm.pages 1024, s.doc? d with
  | some p, some doc =>
    let r : PageRec :=
      { state := .filling, doc := d, pos := doc.places.length, dir, cls, res, lineCount := 0, codedLen := 0, chain := [],
        check := 0, scanOverrun := false, truncated := false, checkFail := false, decodeFault := false, sendHolds := 0,
        printHolds := 0, sealedTime := 0 }
    let s := writePathStatus (putPage p r s)
    some (p, putDoc d { doc with places := doc.places ++ [some p] } s)
  | _, _ => none

/-- Returns the page's segments to the stack, makes its record EMPTY and reports the change (R76). -/
def releasePage (p : Nat) (r : PageRec) (s : State) : State :=
  if r.chain = [] then writePathStatus (clearPage p s)
  else freeCountChanged (clearPage p (pushSegments r.chain s))

/-- The page's document keeps its pages (R76). -/
def State.keeps (s : State) (d : Nat) : Bool :=
  match s.doc? d with
  | none => false
  | some r => r.keep

/-- Frees page `p` when it is complete, has no holds and its document's keep flag is clear (R76). -/
def testPageFree (p : Nat) (s : State) : State :=
  match s.page? p with
  | none => s
  | some r =>
    if r.isSealed && r.sendHolds == 0 && r.printHolds == 0 && !s.keeps r.doc then
      leaveFreedPlace r.doc p (releasePage p r s)
    else s

/-- Changes the send holds of page `p` by `delta` and tests its freeing when they reach 0 (R75). -/
def changeSendHolds (p : Nat) (delta : Int) (s : State) : State :=
  match s.page? p with
  | none => s
  | some r =>
    let h := ((r.sendHolds : Int) + delta).toNat
    let s := putPage p { r with sendHolds := h } s
    if h = 0 then testPageFree p s else s

/-- Changes the print holds of page `p` by `delta` and tests its freeing when they reach 0 (R75). -/
def changePrintHolds (p : Nat) (delta : Int) (s : State) : State :=
  match s.page? p with
  | none => s
  | some r =>
    let h := ((r.printHolds : Int) + delta).toNat
    let s := putPage p { r with printHolds := h } s
    if h = 0 then testPageFree p s else s

/-- Sets TRUNCATED on page `p` (R74). -/
def markTruncated (p : Nat) (s : State) : State := modifyPage p (fun r => { r with truncated := true }) s

/-- Frees a FILLING page that holds no stored line (R77), without the reports that follow. -/
def abandonPage (p : Nat) (s : State) : State :=
  match s.page? p with
  | none => s
  | some r => dropLastPlace r.doc (releasePage p r s)

/-- Returns the segments beyond those the coded length needs (R73, step 1). -/
def trimPage (p lc : Nat) (s : State) : State :=
  match s.page? p with
  | none => s
  | some r =>
    let keep := r.chain.take (segsFor lc)
    let extra := r.chain.drop (segsFor lc)
    if extra = [] then s
    else
      let s := pushSegments extra s
      let s := match keep.getLast? with
        | none => s
        | some l => writeTrailer l chainEnd s
      freeCountChanged (putPage p { r with chain := keep } s)

/-- Seals a FILLING page with a coded length above 0 (R73, steps 1 to 4), without the reports that follow. -/
def sealRecord (p lc lines : Nat) (s : State) : State :=
  modifyPage p (fun r =>
    { r with codedLen := lc, lineCount := lines,
             check := crc16 ((trimPage p lc s).streamBytes r.chain 0 lc),
             state := if r.scanOverrun || r.truncated then .damaged else .complete,
             sealedTime := s.chg.seconds }) (trimPage p lc s)

end Sys2Proof.Machine
end

