-- ==== Sys2Proof/Machine/Charging.lean ====
section
/-! DEFINITION. The Charge Unit: bands, zones, rates, the charge formula, accounts, the charge log, and the reservation, answer,
settlement and release of a call (R175 to R192). -/

namespace Sys2Proof.Machine

/-- The answer of a meaning: every row of the table has an effect, so a meaning answers a next state. -/
abbrev Answer := Host.Outcome State Fault Refusal

/-- An occasion for the scheduler has arisen (R101). -/
def occasion (s : State) : State := { s with dju := { s.dju with passDue := true } }

/-! ## Bands, zones, charges -/

/-- The hour of the week for a seconds count and a week offset (R177). -/
def hourOfWeek (seconds offset : Nat) : Nat := (seconds + offset) / 3600 % 168

/-- The hour of the week now. -/
def State.hour (s : State) : Nat := hourOfWeek s.chg.seconds s.chg.weekOffset

/-- A dial string: the destination's digits without commas (R179). -/
def dialString (digits : List Byte) : List Byte := digits.filter fun c => c != comma

/-- The prefix record can fit a call: its count and characters are of the kinds that R178 names (R192). -/
def TariffPrefix.isValid (p : TariffPrefix) : Bool :=
  decide (1 ≤ p.count) && decide (p.count ≤ 12) && (p.chars.take p.count).all isPrefixChar

/-- The prefix of a record. -/
def TariffPrefix.text (p : TariffPrefix) : List Byte := p.chars.take p.count

/-- The record fits the dial string (R179). -/
def TariffPrefix.fits (p : TariffPrefix) (dial : List Byte) : Bool :=
  p.isValid && decide (p.count ≤ dial.length) && dial.take p.count == p.text

/-- The fitting record with the largest count so far, the lower-numbered on a tie, over the records `ps`. -/
def bestPrefix (dial : List Byte) (best : Option TariffPrefix) : List TariffPrefix → Option TariffPrefix
  | [] => best
  | p :: ps =>
    let better := match best with
      | none => true
      | some q => decide (q.count < p.count)
    bestPrefix dial (if p.fits dial && better then some p else best) ps

/-- The zone of a call (R179). -/
def zoneOf (ps : List TariffPrefix) (dial : List Byte) : Nat :=
  match bestPrefix dial none ps with
  | none => 31
  | some p => p.zone

/-- The periods of a duration of `d` tenths (R181). -/
def periods (r : Rate) (d : Nat) : Nat := min ((d + r.period - 1) / r.period) 65535

/-- The charge of a duration of `d` tenths (R181). -/
def chargeOf (r : Rate) (d : Nat) : Nat :=
  let n := periods r d
  r.setUp + r.a1 * min n r.n1 + r.a2 * (min n r.n2 - min n r.n1) + r.a3 * (n - min n r.n2)

/-! ## Accounts -/

/-- The available amount of an account; none for an unlimited one (R182). An UNUSED account without a limit has 0 (DESIGN CHOICE,
log 67). -/
def Account.available (a : Account) : Option Nat :=
  if a.state = .unused then some 0
  else a.limit.map fun l => l - a.spent - a.reserved

/-- The available amount is at least `h`. -/
def Account.covers (a : Account) (h : Nat) : Bool :=
  match a.available with
  | none => true
  | some v => decide (h ≤ v)

/-- The available amount as SET_ACCOUNT answers it (R183). -/
def Account.availableValue (a : Account) : Nat := min (a.available.getD 0xFFFFFFFF) 0xFFFFFFFF

/-- A count that saturates at FFFFFFFFh. -/
def sat32 (v : Nat) : Nat := min v 0xFFFFFFFF

/-- Arms a disarmed exhausted mark when something is available (R182). -/
def Account.rearmed (a : Account) : Account :=
  if !a.armed && a.covers 1 then { a with armed := true } else a

/-- Tests the exhausted mark after a settlement or a SET_ACCOUNT (R182). -/
def testExhausted (i : Nat) (s : State) : State :=
  let a := s.account i
  if a.armed && !a.covers 1 then
    post .accountExhausted .account i 0 a.spent (putAccount i { a with armed := false } s)
  else if a.armed = a.rearmed.armed then s
  else putAccount i a.rearmed s

/-! ## The charge log -/

/-- The number of sequences (R190). -/
def seqCount : Nat := 4294967295

/-- The sequence after `q` (R190). -/
def seqNext (q : Nat) : Nat := if q = seqCount then 1 else q + 1

/-- The sequence of the newest record in use (R191). -/
def seqNewest (next : Nat) : Nat := if next = 1 then seqCount else next - 1

/-- The sequence of the oldest of `n` records in use, whose sequences run consecutively (R190). -/
def seqOldest (next n : Nat) : Nat := (next + seqCount - 1 - n) % seqCount + 1

/-- How many records lie before the one with sequence `q`, counted from the oldest round the sequences. -/
def seqPlace (oldest q : Nat) : Nat := (q + seqCount - oldest) % seqCount

/-- The bytes of a charge log record (Table 11-7). The places of the dial string beyond its length and the bytes that the table
gives no field are written 0 (DESIGN CHOICE, log 42), and T stands mod 2^32 (DESIGN CHOICE, log 59). -/
def logRecordBytes (seq : Nat) (n : Line) (c : CallRec) (cause : Cause) : List Byte :=
  le 4 seq ++ u8 c.account ++ u8 n.val ++ u8 c.job ++ u8 c.destIndex ++ u8 c.dial.length ++ u8 c.zone ++ u8 c.band
    ++ u8 cause.code ++ padTo 12 c.dial ++ le 4 c.answerTime ++ le 4 c.connected ++ le 2 (periods c.rate c.connected)
    ++ zeros 2 ++ le 4 (chargeOf c.rate c.connected) ++ zeros 24

/-- The near-full mark after a settlement (R190). -/
def testNearFull (s : State) : State :=
  if s.chg.nearArmed && decide (3840 ≤ s.chg.logInUse) then
    post .logNearFull .log s.chg.logOldest 0 s.chg.logInUse { s with chg := { s.chg with nearArmed := false } }
  else s

/-! ## Reservation, answer, settlement, release -/

/-- The reservation of a call to `digits` with `pages` pages to send: its zone and H (R186). -/
def State.reservationOf (s : State) (account : Nat) (digits : List Byte) (pages : Nat) : Nat × Nat :=
  let zone := zoneOf s.chg.prefixes (dialString digits)
  let rate := s.rate (4 * zone + s.band s.hour)
  (zone, chargeOf rate (pages * (s.account account).secondsPerPage * 10))

/-- The charge log can reserve a slot (R186, R190). -/
def State.logHasRoom (s : State) : Bool := decide (s.chg.logInUse + s.chg.logReserved < 4096)

/-- The CHG's three tests of a reservation (R186). -/
def State.canReserve (s : State) (account h : Nat) : Bool :=
  (s.account account).state == .opened && (s.account account).covers h && s.logHasRoom

/-- Makes the reservation for a call on line `n` (R186). -/
def reserveCall (n : Line) (account job destIndex : Nat) (digits : List Byte) (pages : Nat) (s : State) : State :=
  let z := s.reservationOf account digits pages
  let a := s.account account
  let s := putAccount account { a with reserved := a.reserved + z.2 } s
  let c : CallRec :=
    { account, job, destIndex, dial := dialString digits, zone := z.1, reservation := z.2, answered := false, band := 0,
      rate := Rate.empty, answerTime := 0, connected := 0 }
  { s with chg := { s.chg with logReserved := s.chg.logReserved + 1, calls := Tab.set s.chg.calls n.val c } }

/-- The call on line `n` is answered (R187). -/
def answerCall (n : Line) (s : State) : State :=
  match Tab.get? s.chg.calls n.val with
  | none => s
  | some c =>
    let band := s.band s.hour
    let c := { c with answered := true, band := band, rate := s.rate (4 * c.zone + band),
                      answerTime := s.chg.seconds, connected := 0 }
    { s with chg := { s.chg with calls := Tab.set s.chg.calls n.val c } }

/-- The call record of line `n` is freed. -/
def dropCall (n : Line) (s : State) : State :=
  { s with chg := { s.chg with calls := Tab.erase s.chg.calls n.val } }

/-- Settles the answered call `c` of line `n`, steps 1 to 5 of R188, and answers the record's sequence. -/
def settleCall (n : Line) (c : CallRec) (cause : Cause) (s : State) : State × Nat :=
  let seq := s.chg.logNext
  let slot := (s.chg.logOldest + s.chg.logInUse) % 4096
  let s := s.store (s.por (0x39000 + 64 * slot)) (logRecordBytes seq n c cause)
  let s := { s with chg := { s.chg with logReserved := s.chg.logReserved - 1 } }
  let s := testNearFull (putLogState s.chg.logOldest (s.chg.logInUse + 1) (seqNext seq) s)
  let a := s.account c.account
  let s := putAccount c.account
    { a with reserved := a.reserved - c.reservation, spent := sat32 (a.spent + chargeOf c.rate c.connected),
             calls := sat32 (a.calls + 1) } s
  (post .chargePosted .log slot cause.code seq s, seq)

/-- Step 7 of R188: the exhausted mark is tested, the call record is freed and the scheduler runs. -/
def settleEnd (n : Line) (c : CallRec) (s : State) : State := occasion (dropCall n (testExhausted c.account s))

/-- Releases the unanswered call `c` of line `n` (R189). -/
def releaseCall (n : Line) (c : CallRec) (s : State) : State :=
  let a := s.account c.account
  let s := putAccount c.account ({ a with reserved := a.reserved - c.reservation } : Account).rearmed s
  occasion (dropCall n { s with chg := { s.chg with logReserved := s.chg.logReserved - 1 } })

/-! ## Commands of the CHG -/

/-- Moves the next-try time of every destination in RETRY_WAIT by `change` (R96, R176). -/
def shiftNextTry (change : Int) (s : State) : State :=
  (Tab.keysWhere s.dju.dests fun d => d.state == .retryWait).foldl
    (fun s k => modifyDest k (fun d => { d with nextTry := d.nextTry + change }) s) s

/-- SET_CLOCK (R176). -/
def setClock (sl : Slot) (s : State) : State × Reply :=
  let new := sl.num 0
  let week := clampNat 0 604799 (sl.num 1)
  let change : Int := (new : Int) - (s.chg.seconds : Int)
  let s := { s with chg := { s.chg with seconds := new, tenths := 0, tenthCycles := 3277, weekOffset := week,
                                        clockSet := true } }
  let s := occasion (shiftNextTry change s)
  (s, Reply.doneOr (firstClamped [(1, sl.num 1, week)]) .path 0 s.hour)

/-- SET_CLOCK. -/
def execSetClock (s : State) : Answer := .next (take 0x50 2 setClock s)

/-- LOAD_BAND_HOURS (R177). -/
def loadBandHours (sl : Slot) (s : State) : State × Reply :=
  let day := sl.num 0
  let hour := sl.num 1
  let count := clampNat 1 12 (sl.num 2)
  if 6 < day then (s, Reply.path .range 0)
  else if 23 < hour then (s, Reply.path .range 1)
  else
    let first := (24 * day + hour) % 168
    let s := (List.range count).foldl (fun s i => putBand ((first + i) % 168) (sl.field 3 (2 * i) 2) s) s
    (s, Reply.doneOr (firstClamped [(2, sl.num 2, count)]) .path 0 first)

/-- LOAD_BAND_HOURS. -/
def execLoadBandHours (s : State) : Answer := .next (take 0x51 4 loadBandHours s)

/-- The number of the record in use that holds the prefix `cs` (R178, R192). -/
def findPrefix (cs : List Byte) (ps : List TariffPrefix) : Option Nat := ps.findIdx? fun p => p.isValid && p.text == cs

/-- The checks of R178 on the prefix itself: its count, its characters and the options word. -/
def prefixFault (sl : Slot) : Option Reply :=
  let count := sl.num 0
  if count < 1 ∨ 12 < count then some (Reply.path .range 0)
  else
    match firstBadChar isPrefixChar (sl.chars 1 count) with
    | some i => some (Reply.path .range (1 + i / 4))
    | none => if 1 < sl.num 5 then some (Reply.path .range 5) else none

/-- LOAD_TARIFF_PREFIX (R178). -/
def loadTariffPrefix (sl : Slot) (s : State) : State × Reply :=
  match prefixFault sl with
  | some r => (s, r)
  | none =>
    let cs := sl.chars 1 (sl.num 0)
    let zone := clampNat 0 31 (sl.num 4)
    let ps := s.chg.prefixes
    let clamped := firstClamped [(4, sl.num 4, zone)]
    let new : TariffPrefix := { count := sl.num 0, chars := cs, zone := zone }
    match findPrefix cs ps with
    | some i =>
      if sl.num 5 = 1 then
        (dropPrefix i s, Reply.doneOr clamped .path 0 (ps.length - 1))
      else (putPrefix i new s, Reply.doneOr clamped .path 0 i)
    | none =>
      if sl.num 5 = 1 then (s, Reply.path .noEntry 1)
      else if 256 ≤ ps.length then (s, Reply.path .full 0)
      else (putPrefix ps.length new s, Reply.doneOr clamped .path 0 ps.length)

/-- The slot carries the full list of `need` parameters. -/
def Slot.whole (sl : Slot) (need : Nat) : Bool := decide (need ≤ sl.count) && decide (sl.count ≤ 14)

/-- LOAD_TARIFF_PREFIX_WRITE: the slot unless it asks for a removal. -/
def execLoadTariffPrefixWrite (s : State) : Answer :=
  .next (takeIf 0x52 6 (fun sl => !(sl.whole 6 && sl.num 5 == 1)) loadTariffPrefix s)

/-- LOAD_TARIFF_PREFIX_REMOVE: the slot unless it asks for a write. -/
def execLoadTariffPrefixRemove (s : State) : Answer :=
  .next (takeIf 0x52 6 (fun sl => !(sl.whole 6 && sl.num 5 == 0)) loadTariffPrefix s)

/-- LOAD_ZONE_RATE (R180). -/
def loadZoneRate (sl : Slot) (s : State) : State × Reply :=
  let zone := sl.num 0
  let band := sl.num 1
  let c (p hi lo : Nat) := clampNat lo hi (sl.num p)
  let r : Rate := { setUp := c 2 65535 0, period := c 3 36000 1, n1 := c 4 65535 0, n2 := c 5 65535 0,
                    a1 := c 6 65535 0, a2 := c 7 65535 0, a3 := c 8 65535 0 }
  if 31 < zone then (s, Reply.path .range 0)
  else if 3 < band then (s, Reply.path .range 1)
  else if r.n2 < r.n1 then (s, Reply.path .range 5)
  else
    (putRate (4 * zone + band) r s,
      Reply.doneOr (firstClamped [(2, sl.num 2, r.setUp), (3, sl.num 3, r.period), (4, sl.num 4, r.n1),
        (5, sl.num 5, r.n2), (6, sl.num 6, r.a1), (7, sl.num 7, r.a2), (8, sl.num 8, r.a3)]) .path 0 (4 * zone + band))

/-- LOAD_ZONE_RATE. -/
def execLoadZoneRate (s : State) : Answer := .next (take 0x53 9 loadZoneRate s)

/-- A call record of account `i` exists (R185). -/
def State.hasCall (s : State) (i : Nat) : Bool := s.chg.calls.any fun e => e.2.account == i

/-- SET_ACCOUNT (R183). -/
def setAccount (sl : Slot) (s : State) : State × Reply :=
  let i := sl.num 0
  if 63 < i then (s, Reply.path .noEntry 0)
  else if 2 < sl.num 1 then (s, Reply.path .range 1)
  else if 1 < sl.num 3 then (s, Reply.path .range 3)
  else if sl.num 1 = 0 ∧ s.hasCall i then (s, Reply.path .wrongState 1)
  else
    let secs := clampNat 10 600 (sl.num 4)
    let a := { s.account i with
      state := accountStateOf (sl.num 1), limit := if sl.num 3 = 1 then none else some (sl.num 2), secondsPerPage := secs }
    let s := occasion (testExhausted i (putAccount i a s))
    (s, Reply.doneOr (firstClamped [(4, sl.num 4, secs)]) .account i (s.account i).availableValue)

/-- SET_ACCOUNT. -/
def execSetAccount (s : State) : Answer := .next (take 0x54 5 setAccount s)

/-- CLEAR_SPENT (R184). -/
def clearSpent (sl : Slot) (s : State) : State × Reply :=
  let i := sl.num 0
  if 63 < i then (s, Reply.path .noEntry 0)
  else
    let a := s.account i
    (occasion (putAccount i ({ a with spent := 0 } : Account).rearmed s), ⟨.done, .account, i, a.spent⟩)

/-- CLEAR_SPENT. -/
def execClearSpent (s : State) : Answer := .next (take 0x55 1 clearSpent s)

/-- Arms the near-full mark below 3840 records (R190). -/
def rearmNearFull (s : State) : State :=
  if s.chg.logInUse < 3840 then { s with chg := { s.chg with nearArmed := true } } else s

/-- ACK_CHARGE_LOG (R191). -/
def ackChargeLog (sl : Slot) (s : State) : State × Reply :=
  let q := sl.num 0
  let n := s.chg.logInUse
  let next := s.chg.logNext
  let oldest := seqOldest next n
  let newest := seqNewest next
  if n = 0 then (s, if q < next then Reply.path .done 0 else Reply.path .range 0)
  else if q ≠ 0 ∧ seqPlace oldest q < n then
    let freed := seqPlace oldest q + 1
    let s := occasion (rearmNearFull (putLogState ((s.chg.logOldest + freed) % 4096) (n - freed) next s))
    (s, Reply.path .done (n - freed))
  else if q = 0 ∨ (q < oldest ∧ oldest ≤ newest) then (s, Reply.path .done n)
  else (s, Reply.path .range 0)

/-- ACK_CHARGE_LOG. -/
def execAckChargeLog (s : State) : Answer := .next (take 0x56 1 ackChargeLog s)

end Sys2Proof.Machine
end

