-- ==== Sys2Proof/Machine/LinkTx.lean ====
section
/-! DEFINITION. What the LNE hands to the SLI: the messages to the shelf (Table 6-3, 11.7), the transmit queue with the handings
that wait (R117), and outbound blocks (R119). -/

namespace Sys2Proof.Machine

/-- A message for line `n`: length, kind, line and parameters (R116, 11.7). -/
def lineMessage (kind : Nat) (n : Line) (params : List Byte) : List Byte :=
  u8 (3 + params.length) ++ u8 kind ++ u8 n.val ++ params

/-- The kinds that the part sends (11.7). -/
inductive TxKind where
  | seize
  | dial (chars : List Byte)
  | sessionParams (cls : WidthClass) (res : Resolution) (count : Nat)
  | block (pp b len : Nat)
  | partialEnd (pp count : Nat) (kind : EndKind)
  | answer
  | refuse
  | rxPartialOk (acceptDamaged : Bool)
  | rxRepeat (blocks : List Nat)
  | abandon
  | clear
deriving DecidableEq, Repr

/-- A 64-entry map (11.7). -/
def mapBytes (blocks : List Nat) : List Byte :=
  le 8 (((List.range 64).map fun b => if b ∈ blocks then 2 ^ b else 0).sum)

/-- The bytes of a message (11.7). -/
def TxKind.bytes (n : Line) : TxKind → List Byte
  | .seize => lineMessage 0x01 n []
  | .dial cs => lineMessage 0x02 n (u8 cs.length ++ cs)
  | .sessionParams cls res k => lineMessage 0x03 n (u8 cls.code ++ u8 res.code ++ u8 k)
  | .block pp b len => lineMessage 0x04 n (u8 pp ++ u8 b ++ le 2 len)
  | .partialEnd pp c k => lineMessage 0x05 n (u8 pp ++ u8 c ++ u8 k.code)
  | .answer => lineMessage 0x06 n []
  | .refuse => lineMessage 0x07 n []
  | .rxPartialOk d => lineMessage 0x08 n (u8 (bit d))
  | .rxRepeat bs => lineMessage 0x09 n (mapBytes bs)
  | .abandon => lineMessage 0x0A n []
  | .clear => lineMessage 0x0B n []

/-- The message as it joins the transmit queue; a BLOCK names the line whose block follows it. -/
def TxKind.msg (n : Line) (k : TxKind) : TxMsg :=
  { bytes := k.bytes n, blockOf := match k with | .block _ _ _ => some n.val | _ => none }

/-- The LNE hands a message: it joins the transmit queue, or waits while the queue is full or others wait (R117). -/
def hand (n : Line) (k : TxKind) (s : State) : State :=
  if s.sli.handings.isEmpty && decide (s.sli.queue.length < 32) then
    { s with sli := { s.sli with queue := s.sli.queue ++ [k.msg n] } }
  else { s with sli := { s.sli with handings := s.sli.handings ++ [k.msg n] } }

/-- Hands ABANDON and then CLEAR. -/
def handAbandonClear (n : Line) (s : State) : State := hand n .clear (hand n .abandon s)

/-- Drops every waiting message with the blocks that were to follow them (R117, R143). -/
def dropMessages (s : State) : State :=
  { s with sli := { s.sli with queue := [], txPos := 0, handings := [],
                               outBlocks := s.sli.outBlocks.filter fun e => e.2.announced } }

/-- The waiting handing that began to wait first takes an open place (R117). -/
def placeHanding (s : State) : State :=
  match s.sli.handings with
  | [] => s
  | m :: ms =>
    if s.sli.queue.length < 32 then { s with sli := { s.sli with queue := s.sli.queue ++ [m], handings := ms } } else s

/-- HANDING_TAKES_PLACE (R117). -/
def execHandingTakesPlace (s : State) : Answer := .next (placeHanding s)

end Sys2Proof.Machine
end

