-- ==== Sys2Proof/Machine/Jobs.lean ====
section
/-! DEFINITION. Destinations and jobs: send holds, final states, session outcomes, retries, and the end of a job without the
automatic deletion of its document (R91 to R97, R103). -/

namespace Sys2Proof.Machine

/-! ## Send holds (R93) -/

/-- The live pages of document `d` from position `k` on. -/
def State.pagesFrom (s : State) (d k : Nat) : List Nat :=
  match s.doc? d with
  | none => []
  | some r => (r.places.drop k).filterMap id

/-- The job of a destination. -/
def State.jobOf (s : State) (d : Dest) : Option Job := s.job? d.job

/-- The document that destination `d` sends. -/
def State.docOf (s : State) (d : Dest) : Option Nat := (s.jobOf d).map Job.doc

/-- The destinations of document `d`'s jobs that are not final (R93). -/
def State.openDests (s : State) (d : Nat) : Nat :=
  (s.dju.dests.filter fun e => !e.2.isFinal && s.docOf e.2 == some d).length

/-- A page joins the outbound document `d` (R84, R93). -/
def joinHolds (d p : Nat) (s : State) : State :=
  modifyPage p (fun r => { r with sendHolds := r.sendHolds + s.openDests d }) s

/-- Takes one send hold off every live page that destination `k` has not confirmed (R93), in the order of the page list, which
R93 leaves open (DESIGN CHOICE, log 56). -/
def takeHoldsOff (k : Nat) (s : State) : State :=
  match s.dest? k with
  | none => s
  | some d =>
    match s.docOf d with
    | none => s
    | some doc => (s.pagesFrom doc d.confirmed).foldl (fun s p => changeSendHolds p (-1) s) s

/-! ## Final states (R92, R97) -/

/-- Adds 1 to the count of a final state. -/
def Job.count (st : DestState) (j : Job) : Job :=
  match st with
  | .sent => { j with sent := j.sent + 1 }
  | .failed => { j with failed := j.failed + 1 }
  | .cancelled => { j with cancelled := j.cancelled + 1 }
  | _ => j

/-- Destination `k` reaches the final state `st`: its job's count grows and DEST_DONE is posted (R92). -/
def finishDest (k : Nat) (st : DestState) (s : State) : State :=
  match s.dest? k with
  | none => s
  | some d =>
    let tag := ((s.jobOf d).map Job.tag).getD 0
    let s := putDest k { d with state := st, cancelMark := false } s
    let s := modifyJob d.job (Job.count st) s
    postTagged .destDone .destination k tag st.doneCode d.confirmed s

/-- Destination `k` becomes SENT (R97). -/
def destSent (k : Nat) (s : State) : State := finishDest k .sent s

/-- Destination `k` becomes FAILED or CANCELLED and takes its holds off its pages (R93, R95). -/
def destGivenUp (k : Nat) (st : DestState) (s : State) : State := finishDest k st (takeHoldsOff k s)

/-! ## The end of a job (R91) -/

/-- Every destination of job `j` is final and no session of it runs. -/
def State.jobIsFinal (s : State) (j : Nat) : Bool :=
  match s.job? j with
  | none => false
  | some r => decide (r.sessions = 0) && s.dju.dests.all fun e => e.2.job != j || e.2.isFinal

/-- The value of a JOB_DONE (11.3). -/
def Job.doneValue (j : Job) : Nat := j.sent + 256 * j.failed + 65536 * j.cancelled

/-- Steps 1 to 3 of R91 for job `j`. -/
def endJob (j : Nat) (r : Job) (s : State) : State :=
  let s := postTagged .jobDone .job j r.tag r.state.doneCode r.doneValue s
  let s := (s.destsOf j).foldl (fun s k => clearDest k s) s
  let s := clearJob j s
  testDocFree r.doc (modifyDoc r.doc (fun d => { d with jobRefs := d.jobRefs - 1 }) s)

/-- Tests the finality of job `j` where its document is DELETING, so that no automatic deletion follows (R91). -/
def testJobEnd (j : Nat) (s : State) : State :=
  match s.job? j with
  | none => s
  | some r => if s.jobIsFinal j then endJob j r s else s

/-! ## Session outcomes (R94 to R96) -/

/-- Whether a session end with this cause counts as an attempt (R95). -/
def Cause.counts : Cause → Bool
  | .busy | .noAnswer | .remoteClear | .timeout | .repeatLimit | .pageRejected | .linkLost | .dataNotReady
  | .lineDisabled | .notFax => true
  | _ => false

/-- The next number of the jitter generator (R96). -/
def nextGen (r : Nat) : Nat := (r * 25173 + 13849) % 65536

/-- The wait before attempt `a + 1`, jitter `j` included (R96). -/
def retryWait (base a j : Nat) : Nat := min (base * 2 ^ (a - 1)) 1800 + j

/-- Destination `k` goes to RETRY_WAIT after `a` attempts (R96). A sum above FFFFFFFFh stands as it is, so that the seconds count,
which wraps, does not reach it (DESIGN CHOICE, log 57). -/
def toRetryWait (k a : Nat) (s : State) : State :=
  let gen := nextGen s.dju.gen
  let wait := retryWait s.dju.baseWait a (gen % s.dju.baseWait)
  modifyDest k (fun d => { d with state := .retryWait, nextTry := (s.chg.seconds : Int) + wait })
    { s with dju := { s.dju with gen := gen } }

/-- Moves destination `k` at the end of its session (R95). One that has confirmed every page of a list which became final
while its line was in CLEARING is not SENT and moves as any other, because R97 has no case for it (DESIGN CHOICE, log 62). -/
def moveDest (k : Nat) (cause : Cause) (s : State) : State :=
  match s.dest? k with
  | none => s
  | some d =>
    if d.state = .sent then s
    else
      let a := if cause.counts then d.attempts + 1 else d.attempts
      let s := putDest k { d with attempts := a } s
      if d.cancelMark ∨ cause = .cancelled then destGivenUp k .cancelled s
      else if cause = .seizeLost then modifyDest k (fun d => { d with state := .pending }) s
      else if cause = .notFax then destGivenUp k .failed s
      else if cause.counts then
        if a < s.dju.maxAttempts then toRetryWait k a s else destGivenUp k .failed s
      else s

/-- The LNE reports that the session of destination `k` ended (R94); a SENT destination takes the cause as its last cause too
(DESIGN CHOICE, log 49). The job's finality is for the caller to test. -/
def destSessionEnd (k : Nat) (cause : Cause) (s : State) : State :=
  match s.dest? k with
  | none => s
  | some d =>
    let s := modifyJob d.job (fun j => { j with sessions := j.sessions - 1 }) s
    moveDest k cause (modifyDest k (fun d => { d with lastCause := some cause }) s)

/-- The CHG's sequence is written into destination `k` (R94). -/
def destSequence (k seq : Nat) (s : State) : State := modifyDest k (fun d => { d with logSeq := some seq }) s

/-- The LNE reports a page of destination `k` confirmed (R94). -/
def destConfirms (k : Nat) (s : State) : State :=
  match s.dest? k with
  | none => s
  | some d =>
    let page := (s.docOf d).bind fun doc => (s.doc? doc).bind fun r => (r.places[d.confirmed]?).join
    let s := putDest k { d with confirmed := d.confirmed + 1 } s
    match page with
    | none => s
    | some p => changeSendHolds p (-1) s

/-! ## Withdraw (R103) -/

/-- Discards the job table and the destination pool; their bytes stay in DRAM (R103). The destinations lose their holds in the
order of their records (DESIGN CHOICE, log 56). -/
def discardJobs (s : State) : State :=
  let running := allLines.filterMap fun n => (s.line n).dest
  let s := running.foldl (fun s k => modifyDest k (fun d => { d with lastCause := some .withdrawn }) s) s
  let waiting := Tab.keysWhere s.dju.dests fun d => !d.isFinal
  let s := waiting.foldl (fun s k => takeHoldsOff k s) s
  { s with dju := { s.dju with jobs := [], dests := [], passDue := false } }

end Sys2Proof.Machine
end

