-- ==== Sys2Proof/Machine/Lines.lean ====
section
/-! DEFINITION. The outbound session of a line: its states and timers, the pages and blocks it sends, and what the shelf's
messages do (R127 to R135). -/

namespace Sys2Proof.Machine

/-! ## States and timers -/

/-- The length of a timer in tenths (R126). -/
def LineTimers.length (t : LineTimers) : TimerKind → Nat
  | .seize => t.seize
  | .answer => t.answer
  | .partialPage => t.partialPage
  | .pageConfirm => t.pageConfirm
  | .dataWait => t.dataWait
  | .answering => t.answering
  | .blockGap => t.blockGap
  | .clearing => 100

/-- The session timer of a state (R127). -/
def LineState.timer : LineState → Option TimerKind
  | .seizing => some .seize
  | .dialling => some .answer
  | .sending => some .blockGap
  | .partialWait => some .partialPage
  | .pageWait => some .pageConfirm
  | .dataWait => some .dataWait
  | .answering => some .answering
  | .receiving => some .blockGap
  | .clearing => some .clearing
  | .unavailable | .idle | .rxCheck => none

/-- The record with the timer of its state started afresh (R127). -/
def LineRec.restart (t : LineTimers) (r : LineRec) : LineRec :=
  { r with timer := r.state.timer, remaining := (r.state.timer.map t.length).getD 0 }

/-- Line `n` enters a state, with the further change `f` of its record; the state's timer starts afresh (R127). -/
def enterState (n : Line) (st : LineState) (f : LineRec → LineRec) (s : State) : State :=
  modifyLine n (fun r => LineRec.restart s.lne.timers { f r with state := st }) s

/-- Restarts the session timer of line `n`. -/
def restartTimer (n : Line) (s : State) : State := modifyLine n (LineRec.restart s.lne.timers) s

/-- Line `n` holds a session (Table 7-1). -/
def LineState.inSession : LineState → Bool
  | .unavailable | .idle => false
  | _ => true

/-- Line `n` holds an outbound session. -/
def State.isOutbound (s : State) (n : Line) : Bool := (s.line n).dir == some .outbound

/-- The number of outbound sessions now running. -/
def State.outboundCount (s : State) : Nat := (allLines.filter fun n => s.isOutbound n).length

/-- The present time in tenths of a second, in 32 bits (R122); a count that passes them is kept modulo 2^32 (DESIGN CHOICE,
log 51). -/
def State.tenthsNow (s : State) : Nat := (s.chg.seconds * 10 + s.chg.tenths) % 4294967296

/-- CLEAR is handed and the line enters CLEARING with a cause. -/
def clearLine (n : Line) (cause : Cause) (s : State) : State :=
  enterState n .clearing (fun r => { r with cause := some cause }) (hand n .clear s)

/-- ABANDON and then CLEAR are handed and the line enters CLEARING with a cause. -/
def abandonLine (n : Line) (cause : Cause) (s : State) : State := clearLine n cause (hand n .abandon s)

/-! ## Pages on their way out -/

/-- The destination in session on line `n`. -/
def State.lineDest (s : State) (n : Line) : Option Dest := (s.line n).dest.bind fun k => s.dest? k

/-- The document in session on line `n`. -/
def State.lineDoc (s : State) (n : Line) : Option Doc := (s.line n).doc.bind fun d => s.doc? d

/-- The page in hand on line `n`. -/
def State.linePage (s : State) (n : Line) : Option PageRec := (s.line n).page.bind fun p => s.page? p

/-- The number of partial pages of a coded length (R130). -/
def partialPages (lc : Nat) : Nat := (lc + 16383) / 16384

/-- The blocks of partial page `p` (R130). -/
def blocksOf (lc p : Nat) : Nat := if p + 1 < partialPages lc then 64 else (lc - 16384 * p + 255) / 256

/-- The stream offset of block `b` of partial page `p` (R130). -/
def blockOffset (p b : Nat) : Nat := 16384 * p + 256 * b

/-- The length of block `b` of partial page `p` (R130). -/
def blockLength (lc p b : Nat) : Nat := min 256 (lc - blockOffset p b)

/-- SENDING on every block of partial page `p` of the page in hand (R131). -/
def sendPartial (n : Line) (p : Nat) (s : State) : State :=
  let count := blocksOf (((s.linePage n).map PageRec.codedLen).getD 0) p
  enterState n .sending
    (fun r => { r with partialPage := p, blockCount := count, toSend := List.range count, inFlight := false }) s

/-- The page count of SESSION_PARAMS: the places from position `k` on, or FFh for "open" (R129). -/
def pagesLeft (d : Doc) (k : Nat) : Nat := if d.isFinal then d.places.length - k else 0xFF

/-- Hands SESSION_PARAMS before the first page of the session and before a page of another class or resolution (R129). -/
def announcePage (n : Line) (d : Doc) (k : Nat) (r : PageRec) (s : State) : State :=
  if (s.line n).lastParams = some (r.cls, r.res) then s
  else
    modifyLine n (fun l => { l with lastParams := some (r.cls, r.res) })
      (hand n (.sessionParams r.cls r.res (pagesLeft d k)) s)

/-- Takes page `p` at position `k` as the page in hand (R129, R130, R133). -/
def takePage (n : Line) (d : Doc) (k p : Nat) (r : PageRec) (s : State) : State :=
  let s := modifyLine n (fun l => { l with page := some p, pagePos := k, rounds := 0 }) s
  if 4194304 < r.codedLen then abandonLine n .pageRejected s
  else sendPartial n 0 (announcePage n d k r s)

/-- The line waits for the next page; a line that waits already goes on with its timer running (R133, R134). -/
def waitForData (n : Line) (s : State) : State :=
  if (s.line n).state = .dataWait then s else enterState n .dataWait id s

/-- All pages sent: the destination becomes SENT, and the line clears (R133). -/
def allPagesSent (n : Line) (s : State) : State :=
  let s := if (s.line n).lastEnd = some .docEnd then s else hand n .abandon s
  let s := match (s.line n).dest with
    | none => s
    | some k => destSent k s
  clearLine n .normal s

/-- The table of R133. -/
def nextPlace (n : Line) (s : State) : State :=
  match s.lineDest n, s.lineDoc n with
  | some t, some d =>
    match d.places[t.confirmed]? with
    | some place =>
      match place.bind fun p => (s.page? p).map fun r => (p, r) with
      | some (p, r) => if r.isSealed then takePage n d t.confirmed p r s else waitForData n s
      | none => waitForData n s
    | none => if d.isFinal then allPagesSent n s else waitForData n s
  | _, _ => s

/-- Every line in DATA_WAIT on document `d` applies the table of R133 again (R134), lines 0 to 7 in turn (DESIGN CHOICE,
log 48). -/
def recheckLines (d : Nat) (s : State) : State :=
  allLines.foldl (fun s n =>
    if (s.line n).state = .dataWait ∧ (s.line n).doc = some d then nextPlace n s else s) s

/-! ## Blocks -/

/-- The end kind of a PARTIAL_END handed now (R131). -/
def State.endKindNow (s : State) (n : Line) : EndKind :=
  let l := s.line n
  let lc := ((s.linePage n).map PageRec.codedLen).getD 0
  if l.partialPage + 1 < partialPages lc then .more
  else
    match s.lineDoc n with
    | none => .pageEnd
    | some d => if d.isFinal ∧ l.pagePos + 1 = d.places.length then .docEnd else .pageEnd

/-- Hands PARTIAL_END and enters PARTIAL_WAIT (R131). -/
def handPartialEnd (n : Line) (s : State) : State :=
  let k := s.endKindNow n
  let l := s.line n
  enterState n .partialWait (fun r => { r with lastEnd := some k })
    (hand n (.partialEnd l.partialPage l.blockCount k) s)

/-- The SLI reports the outbound block of line `n` finished, sent or unsent (R131). -/
def blockFinished (n : Line) (s : State) : State :=
  let l := s.line n
  if l.state = .sending ∧ l.inFlight then
    if l.toSend = [] then handPartialEnd n (modifyLine n (fun r => { r with inFlight := false }) s)
    else restartTimer n (modifyLine n (fun r => { r with inFlight := false }) s)
  else s

/-- Fills the outbound buffer of line `n` with the next block of the set and hands its BLOCK (R131). -/
def fillBlock (n : Line) (s : State) : State :=
  let l := s.line n
  match l.toSend, s.linePage n with
  | b :: bs, some r =>
    if l.state = .sending ∧ !l.inFlight ∧ (Tab.get? s.sli.outBlocks n.val).isNone then
      let len := blockLength r.codedLen l.partialPage b
      let blk : OutBlock :=
        { bytes := s.streamBytes r.chain (blockOffset l.partialPage b) len, announced := false, sent := 0 }
      let s := { s with sli := { s.sli with outBlocks := Tab.set s.sli.outBlocks n.val blk } }
      hand n (.block l.partialPage b len)
        (modifyLine n (fun r => { r with toSend := bs, inFlight := true }) s)
    else s
  | _, _ => s

/-- BLOCK_BUFFER_FILLED (R131). -/
def execBlockBufferFilled (n : Line) (s : State) : Answer := .next (fillBlock n s)

/-! ## The DJU's request to end a session (R135) -/

/-- The DJU asks the LNE to end the session of line `n` (R135). -/
def endRequested (n : Line) (s : State) : State :=
  match (s.line n).state with
  | .seizing | .dialling => clearLine n .cancelled s
  | .sending | .partialWait | .pageWait | .dataWait => abandonLine n .cancelled s
  | _ => s

/-! ## Messages of the outbound session -/

/-- The start of an outbound session, with cause none (R128). -/
def startSession (n : Line) (k : Nat) (d : Dest) (doc : Nat) (s : State) : State :=
  let s := setLine n { LineRec.default with dir := some .outbound, dest := some k, job := some d.job, doc := some doc } s
  enterState n .seizing id (hand n .seize s)

/-- The dial string of a session: the line's outside prefix and the destination's digits (R128). -/
def State.dialOf (s : State) (n : Line) : List Byte :=
  (s.plan n).outside.map digitChar ++ ((s.lineDest n).map Dest.digits).getD []

/-- SEIZED (R128). -/
def onSeized (n : Line) (s : State) : State :=
  if (s.line n).state = .seizing then enterState n .dialling id (hand n (.dial (s.dialOf n)) s) else s

/-- BUSY, NO_ANSWER and NOT_FAX (R128). -/
def onCallFailed (n : Line) (cause : Cause) (s : State) : State :=
  if (s.line n).state = .dialling then clearLine n cause s else s

/-- ANSWERED (R129). -/
def onAnswered (n : Line) (s : State) : State :=
  if (s.line n).state = .dialling then
    let s := answerCall n (modifyLine n (fun r => { r with answered := true, answerTime := s.tenthsNow }) s)
    let s := match (s.line n).dest with
      | none => s
      | some k => modifyDest k (fun d => { d with state := .sending }) s
    nextPlace n s
  else s

/-- PARTIAL_OK (R132). -/
def onPartialOk (n : Line) (s : State) : State :=
  let l := s.line n
  if l.state = .partialWait then
    let s := modifyLine n (fun r => { r with rounds := 0 }) s
    if l.lastEnd = some .more then sendPartial n (l.partialPage + 1) s else enterState n .pageWait id s
  else s

/-- REPEAT (R132). -/
def onRepeat (n : Line) (map : BitVec 64) (s : State) : State :=
  let l := s.line n
  if l.state = .partialWait then
    let s := modifyLine n (fun r => { r with rounds := l.rounds + 1 }) s
    if 5 ≤ l.rounds + 1 then abandonLine n .repeatLimit s
    else
      match (List.range l.blockCount).filter fun b => map.getLsbD b with
      | [] => handPartialEnd n s
      | bs => enterState n .sending (fun r => { r with toSend := bs, inFlight := false }) s
  else s

/-- PAGE_CONFIRMED (R133). Only the page in hand goes: the record's position, partial page and rounds stay until the next page is
taken (DESIGN CHOICE, log 66). -/
def onPageConfirmed (n : Line) (s : State) : State :=
  if (s.line n).state = .pageWait then
    let s := match (s.line n).dest with
      | none => s
      | some k => destConfirms k s
    nextPlace n (modifyLine n (fun r => { r with page := none }) s)
  else s

/-- PAGE_REJECTED (R133). -/
def onPageRejected (n : Line) (s : State) : State :=
  if (s.line n).state = .pageWait then clearLine n .pageRejected s else s

end Sys2Proof.Machine
end

