-- ==== Sys2Proof/Machine/Sealing.lean ====
section
/-! DEFINITION. The end of a FILLING page with the reports that follow it: the seal (R73), the freeing of a page without a
stored line (R77), and SET_STORE_LIMITS (R78). -/

namespace Sys2Proof.Machine

/-- Frees FILLING page `p` of document `d` and reports its removal from the end of the list (R77, R134). -/
def giveUpPage (d p : Nat) (s : State) : State := recheckLines d (abandonPage p s)

/-- Seals FILLING page `p` with coded length `lc` and `lines` output lines; a coded length of 0 frees it (R73, R77). -/
def sealPage (p lc lines : Nat) (s : State) : State :=
  match s.page? p with
  | none => s
  | some r =>
    if lc = 0 then giveUpPage r.doc p s
    else testPageFree p (occasion (recheckLines r.doc (sealRecord p lc lines s)))

/-- SET_STORE_LIMITS (R78). -/
def setStoreLimits (sl : Slot) (s : State) : State × Reply :=
  let reserve := clampNat 0 4096 (sl.num 0)
  let water := clampNat 0 32768 (sl.num 1)
  let mark := clampNat 0 32768 (sl.num 2)
  let reserve' := sl.orKept 0 reserve s.psm.scanReserve
  let water' := sl.orKept 1 water s.psm.lowWater
  if water' < reserve' then (s, Reply.path .range (if sl.has 1 then 1 else 0))
  else
    let psm := { s.psm with scanReserve := reserve', lowWater := water', lowMark := sl.orKept 2 mark s.psm.lowMark,
                            lowArmed := sl.has 2 || s.psm.lowArmed }
    ({ s with psm := psm },
      Reply.doneOr (firstClamped (sl.supplied [(0, sl.num 0, reserve), (1, sl.num 1, water), (2, sl.num 2, mark)]))
        .path 0 s.freeCount)

/-- SET_STORE_LIMITS. -/
def execSetStoreLimits (s : State) : Answer := .next (take 0x18 0 setStoreLimits s)

end Sys2Proof.Machine
end

