-- ==== Sys2Proof/Machine/Scan.lean ====
section
/-! DEFINITION. The Scan Coder: the raw scan ring and its marks, conditioning, pages under scan, and its commands
(R14 to R16, R38 to R59). -/

namespace Sys2Proof.Machine

/-! ## Profiles and conditioning (R43 to R50) -/

/-- Scan profile `i` (R45). -/
def State.profile (s : State) (i : Nat) : Profile := Tab.getD s.scn.profiles i Profile.default

/-- Output line `y` is white as a whole (R46). -/
def Profile.lineIsWhite (p : Profile) (y : Nat) : Bool :=
  decide (y < p.mt) || decide (p.height ≤ y + p.mb)
    || [p.band0, p.band1, p.band2, p.band3].any fun b => decide (b.start ≤ y) && decide (y < b.start + b.len)

/-- A rounded product in 256ths (R48). -/
def mul256 (x k : Nat) : Int := ((x * k + 128) / 256 : Nat)

/-- The tone curve (R48). -/
def Profile.curve (p : Profile) (v : Nat) : Int :=
  if p.lowBypass ∧ v ≤ 16 then v
  else if p.highBypass ∧ 235 ≤ v then v
  else if v < p.s1 then (p.d1 : Int) - mul256 (p.s1 - v) p.k0
  else if v < p.s2 then (p.d1 : Int) + mul256 (v - p.s1) p.k1
  else (p.d2 : Int) + mul256 (v - p.s2) p.k2

/-- The value after brightness and bounds (R49). -/
def Profile.bounded (p : Profile) (v : Nat) : Int := clampInt p.lo p.hi (p.curve v + p.brightness)

/-- Whether a grey value gives a black dot (R49). -/
def Profile.black (p : Profile) (v : Nat) : Bool := decide (p.bounded v < (p.thr : Int))

/-- Dot `d` of the line whose pixel `x` is `pixel x` (R47). -/
def Profile.dot (p : Profile) (pixel : Nat → Byte) (d : Nat) : Bool :=
  if d < p.ml ∨ p.cls.dots ≤ d + p.mr then false
  else if p.win ≤ p.x0 + d then false
  else p.black (pixel (p.x0 + d)).toNat

/-- The dots of a raw line (R47 to R49). -/
def Profile.condition (p : Profile) (pixel : Nat → Byte) : List Bool := (List.range p.cls.dots).map (p.dot pixel)

/-- Where pixel `x` lies in its slot (R38). -/
def LaneOrder.place (l : LaneOrder) (x : Nat) : Nat :=
  match l with
  | .lowFirst => x
  | .highFirst => 4 * (x / 4) + 3 - x % 4

/-- The dots of raw slot `k` as DRAM holds it (R38, R47 to R49). -/
def State.rawDots (s : State) (p : Profile) (k : Nat) : List Bool :=
  p.condition fun x => Mem.get s.dram (s.cfg.rawBase + k * p.stride + p.lane.place x)

/-- A dot is black when it is black in either raw line (R50). -/
def combine (a b : List Bool) : List Bool := List.zipWith (fun x y => x || y) a b

/-- SET_SCAN_PROFILE's fields on profile `p`, clamped, with the list of clamped candidates (R43). -/
def profileFields (sl : Slot) (p : Profile) : Profile × List (Nat × Nat × Nat) :=
  let winR := roundDown 4 (sl.num 1)
  let win := sl.orKept 1 (clampNat 64 4096 winR) p.win
  let strideR := roundDown 32 (sl.num 2)
  let cls := sl.orKept 12 ((widthClassOf (sl.field 12 28 2)).getD p.cls) p.cls
  let low (k hi : Nat) := clampNat 0 hi (sl.field k 0 16)
  let high (k hi : Nat) := clampNat 0 hi (sl.field k 16 16)
  let band (k : Nat) (b : Band) : Band := sl.orKept k ⟨low k 4096, high k 4096⟩ b
  let bSigned := (sl.word 13).toInt
  let b := clampInt (-128) 127 bSigned
  ({ win := win, stride := sl.orKept 2 (clampNat 32 65504 strideR) p.stride,
     lane := sl.orKept 12 (if sl.flag 12 24 then .highFirst else .lowFirst) p.lane, cls := cls,
     res := sl.orKept 12 (if sl.flag 12 25 then .fine else .standard) p.res,
     lowBypass := sl.orKept 12 (sl.flag 12 26) p.lowBypass, highBypass := sl.orKept 12 (sl.flag 12 27) p.highBypass,
     x0 := sl.orKept 3 (low 3 (win - 1)) p.x0, height := sl.orKept 3 (clampNat 1 4096 (sl.field 3 16 16)) p.height,
     ml := sl.orKept 4 (low 4 cls.dots) p.ml, mr := sl.orKept 4 (high 4 cls.dots) p.mr,
     mt := sl.orKept 5 (low 5 4096) p.mt, mb := sl.orKept 5 (high 5 4096) p.mb,
     band0 := band 6 p.band0, band1 := band 7 p.band1, band2 := band 8 p.band2, band3 := band 9 p.band3,
     s1 := sl.orKept 11 (sl.field 11 0 8) p.s1, s2 := sl.orKept 11 (sl.field 11 8 8) p.s2,
     d1 := sl.orKept 11 (sl.field 11 16 8) p.d1, d2 := sl.orKept 11 (sl.field 11 24 8) p.d2,
     k0 := sl.orKept 10 (sl.field 10 0 10) p.k0, k1 := sl.orKept 10 (sl.field 10 10 10) p.k1,
     k2 := sl.orKept 10 (sl.field 10 20 10) p.k2, brightness := sl.orKept 13 b p.brightness,
     lo := sl.orKept 12 (sl.field 12 0 8) p.lo, hi := sl.orKept 12 (sl.field 12 8 8) p.hi,
     thr := sl.orKept 12 (clampNat 1 255 (sl.field 12 16 8)) p.thr },
   [(1, winR, clampNat 64 4096 winR), (2, strideR, clampNat 32 65504 strideR),
    (3, sl.field 3 0 16, low 3 (win - 1)), (3, sl.field 3 16 16, clampNat 1 4096 (sl.field 3 16 16)),
    (4, sl.field 4 0 16, low 4 cls.dots), (4, sl.field 4 16 16, high 4 cls.dots),
    (5, sl.field 5 0 16, low 5 4096), (5, sl.field 5 16 16, high 5 4096)]
     ++ [6, 7, 8, 9].flatMap (fun k => [(k, sl.field k 0 16, low k 4096), (k, sl.field k 16 16, high k 4096)])
     ++ [(12, sl.field 12 16 8, clampNat 1 255 (sl.field 12 16 8)), (13, 0, if b = bSigned then 0 else 1)])

/-- SET_SCAN_PROFILE (R43, R44); a count of 0 names no profile and changes nothing (R27). -/
def setScanProfile (sl : Slot) (s : State) : State × Reply :=
  if sl.count = 0 then (s, Reply.path .done 0)
  else if 3 < sl.num 0 then (s, Reply.path .range 0)
  else if sl.has 12 ∧ (widthClassOf (sl.field 12 28 2)).isNone then (s, Reply.path .range 12)
  else
    let r := profileFields sl (s.profile (sl.num 0))
    if r.1.stride < r.1.win then (s, Reply.path .range (if sl.has 2 then 2 else 1))
    else if r.1.s2 < r.1.s1 then (s, Reply.path .range 11)
    else if r.1.hi < r.1.lo then (s, Reply.path .range 12)
    else
      ({ s with scn := { s.scn with profiles := Tab.set s.scn.profiles (sl.num 0) r.1 } },
        Reply.doneOr (firstClamped (sl.supplied r.2)) .path 0 0)

/-- SET_SCAN_PROFILE. -/
def execSetScanProfile (s : State) : Answer := .next (take 0x10 0 setScanProfile s)

/-! ## The raw scan ring (R14 to R16, R38 to R40) -/

/-- The bus write reaches DRAM with its enabled bytes (R1). -/
def storeAccess (a : BusAccess) (s : State) : State :=
  s.store a.off (le 4 (mergeWord (Mem.word s.dram a.off) a.data a.be).toNat)

/-- The raw slot that holds an offset, with the offset's place in it, while a scan is active (R15). -/
def State.rawSlot (s : State) (off : Nat) : Option (RawGeom × Nat × Nat) :=
  match s.rgw.rawGeom with
  | none => none
  | some g =>
    let o := off - s.cfg.rawBase
    if s.cfg.rawBase ≤ off ∧ o < g.slots * g.stride then some (g, o / g.stride, o % g.stride) else none

/-- Slot `j` is complete and not taken (R38). -/
def State.slotWaits (s : State) (g : RawGeom) (j : Nat) : Bool :=
  decide ((j + g.slots - s.scn.take) % g.slots < s.scn.waiting)

/-- The report of a write to the last pixel word of slot `j` (R39). -/
def lastPixelReport (g : RawGeom) (j : Nat) (s : State) : State :=
  if s.slotWaits g j then s
  else if j = s.scn.comp then
    { s with scn := { s.scn with comp := (j + 1) % g.slots, waiting := s.scn.waiting + 1 },
             rgw := { s.rgw with started := false } }
  else post .scanOrder .document (orAbsent 0 s.scn.doc) 0 j s

/-- What the RGW does with a write that has reached DRAM at `off`: it reports a last pixel word (R14) and marks the slot at
the completion index as started (R40). -/
def rawWatch (off : Nat) (s : State) : State :=
  match s.rawSlot off with
  | none => s
  | some (g, j, r) =>
    if s.rgw.state ≠ .run then s
    else if r = g.win - 4 then lastPixelReport g j s
    else if r < g.win - 4 ∧ j = s.scn.comp ∧ s.scn.waiting < g.slots then
      { s with rgw := { s.rgw with started := true } }
    else s

/-- A write passes to DRAM and is watched. -/
def passWrite (a : BusAccess) (s : State) : State := rawWatch a.off (storeAccess a s)

/-- The write is a lapping write (R16); answers its slot. -/
def State.lapping (s : State) (off : Nat) : Option Nat :=
  match s.rawSlot off with
  | none => none
  | some (g, j, _) => if s.isRun && s.slotWaits g j then some j else none

/-- Releases a held lapping write whose slot is no longer complete and not taken (R16). -/
def releaseScanHold (s : State) : State :=
  match s.smp.held with
  | some h =>
    match h.reason with
    | .scan _ =>
      if (s.lapping h.access.off).isNone then passWrite h.access { s with smp := { s.smp with held := none } } else s
    | _ => s
  | none => s

/-- Slot `k` is taken: its marks are cleared, the take index advances and a held write to it is released (R41). -/
def advanceTake (s : State) : State :=
  let k := s.scn.take
  let n := (s.rgw.rawGeom.map RawGeom.slots).getD 1
  releaseScanHold
    { s with scn := { s.scn with take := (k + 1) % n, waiting := s.scn.waiting - 1,
                                 overruns := s.scn.overruns.erase k, voids := s.scn.voids.erase k } }

/-- The SCN looks at the slot at the completion index as a page or the scan ends: marked started, it takes a void mark, of which
a slot has at most one, and stays marked started until it completes (R40). -/
def voidStarted (s : State) : State :=
  if s.rgw.started ∧ s.scn.comp ∉ s.scn.voids then { s with scn := { s.scn with voids := s.scn.voids ++ [s.scn.comp] } }
  else s

/-! ## The end of a scan and its faults (R56 to R58) -/

/-- The scan ends: the geometry and the marks go and a held lapping write is released (R56). -/
def endScan (s : State) : State :=
  releaseScanHold
    { s with rgw := { s.rgw with rawGeom := none, started := false },
             scn := { s.scn with state := .scanIdle, doc := none, active := none, mode := none, take := 0, comp := 0,
                                 waiting := 0, overruns := [], voids := [], page := none, half := none, ref := [],
                                 outLines := 0, rawLines := 0, streamLen := 0 } }

/-- The SCN has the open page sealed as it stands (R58). -/
def sealOpenPage (s : State) : State :=
  match s.scn.page with
  | none => s
  | some p =>
    let lines := s.scn.outLines
    sealPage p s.scn.streamLen lines
      { s with scn := { s.scn with page := none, half := none, sealedCount := s.scn.sealedCount + 1,
                                   lastSealed := some (p, lines), extraPosted := false } }

/-- Step 1 of R57: the open page is sealed TRUNCATED, or freed when it holds no line; answers the value of SCAN_FAULT. -/
def faultPage (s : State) : State × Nat :=
  match s.scn.page with
  | none => (s, 0xFFFFFFFF)
  | some p =>
    if s.scn.outLines = 0 then
      (giveUpPage (orAbsent 0 s.scn.doc) p { s with scn := { s.scn with page := none } }, 0xFFFFFFFF)
    else (sealOpenPage (markTruncated p s), p)

/-- A scan fault (R57). -/
def scanFault (f : ScanFault) (s : State) : State :=
  let doc := orAbsent 0 s.scn.doc
  let r := faultPage { s with scn := { s.scn with half := none } }
  post .scanFault .document doc f.code r.2 (endScan r.1)

/-! ## Output lines (R53) -/

/-- Codes an output line and appends it to the open page's stream; a refused segment is the fault STORE_FULL (R53, R57). -/
def appendLine (dots : List Bool) (s : State) : State :=
  match s.scn.page, s.scn.active with
  | some p, some prof =>
    let bytes := codeLine prof.cls.dots s.scn.ref dots
    let chainOf (s : State) : List Nat := ((s.page? p).map PageRec.chain).getD []
    let g := giveSegments p (segsFor (s.scn.streamLen + bytes.length) - (chainOf s).length) s
    let s := writeStream (chainOf g.1) s.scn.streamLen bytes g.1
    if g.2 then
      { s with scn := { s.scn with ref := dots, outLines := s.scn.outLines + 1,
                                   streamLen := s.scn.streamLen + bytes.length } }
    else scanFault .storeFull s
  | _, _ => s

/-- The page that has reached its height is sealed (R53, R54). -/
def testHeight (s : State) : State :=
  match s.scn.page, s.scn.active with
  | some _, some prof =>
    if s.scn.outLines < prof.height then s
    else
      let st : ScanState := if s.scn.mode = some .single then .pageFull else .betweenPages
      sealOpenPage { s with scn := { s.scn with state := st } }
  | _, _ => s

/-- The raw line in slot `k` goes into the open page (R46, R50, R53). A marked slot sets SCAN_OVERRUN on the page (R42), also when
the line is then refused its segment (R57; DESIGN CHOICE, log 60). -/
def takeLine (prof : Profile) (s : State) : State :=
  let k := s.scn.take
  let y := s.scn.outLines
  let isWhite := prof.lineIsWhite y
  let dots := if isWhite then whiteLine prof.cls.dots else s.rawDots prof k
  let s := if k ∈ s.scn.overruns then
      match s.scn.page with
      | none => s
      | some p => modifyPage p (fun r => { r with scanOverrun := true }) s
    else s
  let s := advanceTake { s with scn := { s.scn with rawLines := s.scn.rawLines + 1 } }
  match prof.res, s.scn.half with
  | .fine, _ => testHeight (appendLine dots s)
  | .standard, none =>
    { s with scn := { s.scn with half := some (if isWhite then .unread else .dots dots) } }
  | .standard, some h =>
    let line := match h with
      | .unread => dots
      | .dots first => combine first dots
    testHeight (appendLine line { s with scn := { s.scn with half := none } })

/-- Starts a page for the slot the SCN has come to; a refusal is a scan fault (R52). -/
def newPage (doc : Nat) (prof : Profile) (s : State) : State :=
  if !s.docHasRoom doc then scanFault .docFull s
  else
    match startPage doc .outbound prof.cls prof.res s with
    | none => scanFault .pageTableFull s
    | some (p, s1) =>
      match giveSegment p s1 with
      | none => scanFault .storeFull s
      | some s2 =>
        let s := joinHolds doc p s2
        { s with scn := { s.scn with state := .inPage, page := some p, outLines := 0, rawLines := 0, half := none,
                                     ref := whiteLine prof.cls.dots, streamLen := 0 } }

/-- An extra line of a full page (R53). A held write that the taking releases may post SCAN_ORDER, which then stands before
EXTRA_LINES (DESIGN CHOICE, log 41). -/
def extraLine (s : State) : State :=
  let k := s.scn.take
  let s := advanceTake s
  match s.scn.lastSealed with
  | some (p, _) =>
    if s.scn.extraPosted then s
    else post .extraLines .page p 0 k { s with scn := { s.scn with extraPosted := true } }
  | none => s

/-- The SCN comes to slot K, which is complete (R41). -/
def takeSlot (s : State) : State :=
  match s.scn.active, s.scn.doc with
  | some prof, some doc =>
    if s.scn.state = .scanIdle ∨ s.scn.waiting = 0 then s
    else if s.scn.take ∈ s.scn.voids then advanceTake s
    else
      match s.scn.state with
      | .pageFull => extraLine s
      | .inPage => takeLine prof s
      | .betweenPages =>
        let s := newPage doc prof s
        if s.scn.state = .inPage then takeLine prof s else s
      | .scanIdle => s
  | _, _ => s

/-- SCAN_TAKE_SLOT (R41). -/
def execScanTakeSlot (s : State) : Answer := .next (if s.isRun then takeSlot s else s)

/-- Takes `n` slots, as long as the scan goes on. -/
def takeSlots : Nat → State → State
  | 0, s => s
  | n + 1, s => takeSlots n (takeSlot s)

/-- The open page ends: an output line that is owed is completed, and the page is sealed (R58). -/
def finishPage (s : State) : State :=
  match s.scn.page, s.scn.active with
  | some _, some prof =>
    let s' := match s.scn.half with
      | none => s
      | some h =>
        let line := match h with
          | .unread => whiteLine prof.cls.dots
          | .dots first => first
        appendLine line { s with scn := { s.scn with half := none } }
    sealOpenPage s'
  | _, _ => s

/-! ## Commands of the SCN -/

/-- BEGIN_SCAN (R51). -/
def beginScan (sl : Slot) (s : State) : State × Reply :=
  let d := sl.num 0
  let prof := s.profile (sl.num 1)
  let slots := s.cfg.rawSize / prof.stride
  if 3 < sl.num 1 then (s, Reply.path .range 1)
  else if 1 < sl.num 2 then (s, Reply.path .range 2)
  else
    match s.doc? d with
    | none => (s, Reply.path .noEntry 0)
    | some doc =>
      if s.scn.state ≠ .scanIdle then (s, Reply.path .wrongState 0)
      else if doc.dir ≠ .outbound ∨ doc.state ≠ .opened then (s, Reply.path .wrongState 0)
      else if slots < 8 then (s, Reply.path .range 1)
      else if s.freeCount < 16 ∨ s.emptyPages = 0 then (s, Reply.path .noStore s.freeCount)
      else if 128 ≤ doc.places.length then (s, Reply.path .full 0)
      else
        ({ s with
            rgw := { s.rgw with rawGeom := some ⟨prof.stride, slots, prof.win⟩, started := false },
            scn := { s.scn with state := .betweenPages, doc := some d, active := some prof,
                                mode := some (if sl.num 2 = 0 then .single else .continuous), take := 0, comp := 0,
                                waiting := 0, overruns := [], voids := [], page := none, outLines := 0, rawLines := 0,
                                half := none, ref := [], streamLen := 0, sealedCount := 0, lastSealed := none,
                                extraPosted := false } },
          ⟨.done, .document, d, slots⟩)

/-- BEGIN_SCAN. -/
def execBeginScan (s : State) : Answer := .next (take 0x11 3 beginScan s)

/-- The checks that END_PAGE and END_SCAN share (R55, R56). -/
def State.scanCheck (s : State) (d : Nat) : Option Reply :=
  match s.doc? d with
  | none => some (Reply.path .noEntry 0)
  | some _ => if s.scn.doc = some d then none else some (Reply.path .wrongState 0)

/-- The slots before the boundary are taken and the page then open is sealed (R55, R56). -/
def toBoundary (s : State) : State :=
  let n := s.scn.waiting
  finishPage (takeSlots n (voidStarted s))

/-- END_PAGE (R55): the answer names the page this command sealed last, or, in PAGE_FULL, the page sealed at H. -/
def endPage (sl : Slot) (s : State) : State × Reply :=
  match s.scanCheck (sl.num 0) with
  | some r => (s, r)
  | none =>
    let s := if s.scn.state = .pageFull then s else { s with scn := { s.scn with lastSealed := none } }
    let s := toBoundary s
    let s := if s.scn.state = .scanIdle then s else { s with scn := { s.scn with state := .betweenPages } }
    (s, match s.scn.lastSealed with
      | none => Reply.path .done 0
      | some (p, lines) => ⟨.done, .page, p, lines⟩)

/-- END_PAGE. -/
def execEndPage (s : State) : Answer := .next (take 0x12 1 endPage s)

/-- END_SCAN (R56). -/
def endScanCommand (sl : Slot) (s : State) : State × Reply :=
  match s.scanCheck (sl.num 0) with
  | some r => (s, r)
  | none =>
    let s := toBoundary s
    (endScan s, ⟨.done, .document, sl.num 0, s.scn.sealedCount⟩)

/-- END_SCAN. -/
def execEndScan (s : State) : Answer := .next (take 0x13 1 endScanCommand s)

/-- The scan ends through the deletion of its document or a withdraw: the open page is sealed and no further raw line is
coded (R17, R56, R86). -/
def cutScan (s : State) : State := if s.scn.state = .scanIdle then s else endScan (finishPage s)

end Sys2Proof.Machine
end

