-- ==== Sys2Proof/Machine/Documents.lean ====
section
/-! DEFINITION. The Document and Job Unit's commands, the deletion of documents, the full end of a job, and dial scheduling
(R82 to R102, R155). -/

namespace Sys2Proof.Machine

/-! ## Documents that become final (R85, R86) -/

/-- The jobs on document `d`. -/
def State.jobsOn (s : State) (d : Nat) : List Nat := Tab.keysWhere s.dju.jobs fun j => j.doc == d

/-- Each destination of job `j` that is not in session and has confirmed all `places` places becomes SENT (R97). -/
def idleSent (j places : Nat) (s : State) : State :=
  (s.destsOf j).foldl (fun s k =>
    match s.dest? k with
    | none => s
    | some t => if t.isIdle ∧ t.confirmed = places then destSent k s else s) s

/-- Steps 1 and 2 of R85 with `test` as the test of a job's finality, and the scheduler's occasion. -/
def listFinal (test : Nat → State → State) (d : Nat) (s : State) : State :=
  let places := ((s.doc? d).map fun r => r.places.length).getD 0
  let s := (s.jobsOn d).foldl (fun s j => test j (idleSent j places s)) s
  occasion (recheckLines d s)

/-- Steps 1 to 3 of R86. Step 3 and R76 do not order the pages: they are tested and freed in the order of the page list (DESIGN
CHOICE, log 56). -/
def beginDelete (d : Nat) (s : State) : State :=
  let s := if s.scn.doc = some d then cutScan s else s
  let s := modifyDoc d (fun r => { r with keep := false, state := .deleting }) s
  (((s.doc? d).map Doc.livePages).getD []).foldl (fun s p => testPageFree p s) s

/-- Steps 4 and 5 of R86; the document is DELETING, so no job on it deletes it again. -/
def finishDelete (d : Nat) (s : State) : State := testDocFree d (listFinal testJobEnd d s)

/-- Deletes document `d` (R86). -/
def deleteDoc (d : Nat) (s : State) : State := finishDelete d (beginDelete d s)

/-- Tests the finality of job `j` and, when its options ask for it, deletes its document (R91). -/
def testJob (j : Nat) (s : State) : State :=
  match s.job? j with
  | none => s
  | some r =>
    if s.jobIsFinal j then
      let s := endJob j r s
      match s.doc? r.doc with
      | none => s
      | some d => if r.autoDelete ∧ d.state ≠ .deleting then deleteDoc r.doc s else s
    else s

/-- The document meets the conditions of automatic deletion (R155). -/
def Doc.autoDeletes (d : Doc) : Bool :=
  d.autoDelete && (d.state == .complete || d.state == .incomplete) && !d.isHeld && d.printed && decide (d.printRefs = 0)

/-- Tests document `d` for automatic deletion (R155). -/
def testAutoDelete (d : Nat) (s : State) : State :=
  match s.doc? d with
  | none => s
  | some r => if r.autoDeletes then deleteDoc d s else s

/-! ## Document commands -/

/-- An empty document record as the DJU gives it (R82). -/
def Doc.fresh (dir : Dir) (state : DocState) (created : Nat) : Doc :=
  { dir, state, places := [], keep := true, isHeld := false, desk := 0, tray := 0, ident := [], called := [], line := 0,
    created, jobRefs := 0, printRefs := 0, copies := 0, printClass := 0, autoDelete := false, printed := false }

/-- The lowest-numbered free document record (R82). -/
def State.freeDoc (s : State) : Option Nat := Tab.firstFree s.dju.docs 256

/-- OPEN_DOCUMENT (R83). -/
def openDocument (_ : Slot) (s : State) : State × Reply :=
  match s.freeDoc with
  | none => (s, Reply.path .full 0)
  | some d => (putDoc d (Doc.fresh .outbound .opened s.chg.seconds) s, ⟨.done, .document, d, d⟩)

/-- OPEN_DOCUMENT. -/
def execOpenDocument (s : State) : Answer := .next (take 0x20 0 openDocument s)

/-- CLOSE_DOCUMENT (R85). -/
def closeDocument (sl : Slot) (s : State) : State × Reply :=
  let d := sl.num 0
  match s.doc? d with
  | none => (s, Reply.path .noEntry 0)
  | some r =>
    if r.dir ≠ .outbound ∨ r.state ≠ .opened then (s, Reply.path .wrongState 0)
    else if s.scn.doc = some d then (s, Reply.path .wrongState 0)
    else
      (listFinal testJob d (putDoc d { r with state := .closed } s), ⟨.done, .document, d, r.places.length⟩)

/-- CLOSE_DOCUMENT. -/
def execCloseDocument (s : State) : Answer := .next (take 0x21 1 closeDocument s)

/-- DELETE_DOCUMENT (R86). -/
def deleteDocument (sl : Slot) (s : State) : State × Reply :=
  let d := sl.num 0
  match s.doc? d with
  | none => (s, Reply.path .noEntry 0)
  | some r =>
    if r.state = .receiving ∨ r.state = .deleting then (s, Reply.path .wrongState 0)
    else
      let s := beginDelete d s
      let left := ((s.doc? d).map fun r => r.livePages.length).getD 0
      (finishDelete d s, ⟨.done, .document, d, left⟩)

/-- DELETE_DOCUMENT. -/
def execDeleteDocument (s : State) : Answer := .next (take 0x22 1 deleteDocument s)

/-! ## SUBMIT_JOB (R89, R90) -/

/-- A destination list entry as DRAM holds it: its character count and its characters (11.4). -/
def State.listEntry (s : State) (off e : Nat) : Nat × List Byte :=
  (Mem.num s.dram (off + 32 * e) 1, Mem.bytes s.dram (off + 32 * e + 4) 24)

/-- The digits of an entry that check 7 of R89 accepts. -/
def entryDigits (e : Nat × List Byte) : Option (List Byte) :=
  let cs := e.2.take e.1
  if 1 ≤ e.1 ∧ e.1 ≤ 24 ∧ cs.all isDialChar ∧ cs.any (fun c => c != comma) then some cs else none

/-- The digits of `n` entries from entry `e` on, or the index of the first bad entry. -/
def readEntries (s : State) (off : Nat) : Nat → Nat → Except Nat (List (List Byte))
  | 0, _ => .ok []
  | n + 1, e =>
    match entryDigits (s.listEntry off e) with
    | none => .error e
    | some ds =>
      match readEntries s off n (e + 1) with
      | .error i => .error i
      | .ok l => .ok (ds :: l)

/-- Checks 1 to 6 of R89. -/
def submitFault (sl : Slot) (s : State) : Option Reply :=
  if 2 < sl.num 4 then some (Reply.path .range 4)
  else if 1 < sl.num 6 then some (Reply.path .range 6)
  else if sl.num 2 < 1 ∨ 250 < sl.num 2 then some (Reply.path .range 2)
  else if sl.num 1 % 4 ≠ 0 ∨ s.windowBytes < sl.num 1 + 32 * sl.num 2 then some (Reply.path .range 1)
  else
    match s.doc? (sl.num 0) with
    | none => some (Reply.path .noEntry 0)
    | some d =>
      if d.dir ≠ .outbound ∨ ¬(d.state = .opened ∨ (d.state = .closed ∧ d.places ≠ [])) then
        some (Reply.path .wrongState 0)
      else if 63 < sl.num 3 ∨ (s.account (sl.num 3)).state = .unused then some (Reply.path .noEntry 3)
      else none

/-- A destination record as a job's acceptance fills it (R90, R92). -/
def Dest.fresh (job index : Nat) (digits : List Byte) : Dest :=
  { job, index, digits, state := .pending, attempts := 0, nextTry := 0, lastCause := none, confirmed := 0, line := none,
    logSeq := none, cancelMark := false }

/-- Gives one destination record to each entry (R90, step 2). -/
def giveDests (job : Nat) : Nat → List Nat → List (List Byte) → State → State
  | i, k :: ks, ds :: dss, s => giveDests job (i + 1) ks dss (putDest k (Dest.fresh job i ds) s)
  | _, _, _, s => s

/-- Steps 1 to 5 of R90: job `j` takes the entries `ds`. The submission number after FFFFFFFFh is 0 (DESIGN CHOICE, log 64). -/
def acceptJob (sl : Slot) (j : Nat) (ds : List (List Byte)) (s : State) : State :=
  let sub := (s.dju.submission + 1) % 4294967296
  let doc := sl.num 0
  let job : Job :=
    { state := .queued, doc, account := sl.num 3, priority := sl.num 4, spread := clampNat 1 8 (sl.num 5),
      autoDelete := sl.num 6 == 1, tag := sl.tag, submission := sub, destCount := ds.length, sent := 0, failed := 0,
      cancelled := 0, sessions := 0, started := false }
  let s := putJob j job { s with dju := { s.dju with submission := sub } }
  let s := giveDests j 0 ((Tab.free s.dju.dests 1024).take ds.length) ds s
  let s := modifyDoc doc (fun d => { d with jobRefs := d.jobRefs + 1 }) s
  let pages := ((s.doc? doc).map Doc.livePages).getD []
  occasion (pages.foldl (fun s p => changeSendHolds p ds.length s) s)

/-- SUBMIT_JOB (R89, R90). -/
def submitJob (sl : Slot) (s : State) : State × Reply :=
  match submitFault sl s with
  | some r => (s, r)
  | none =>
    match readEntries s (sl.num 1) (sl.num 2) 0 with
    | .error i => (s, Reply.path .range i)
    | .ok ds =>
      match Tab.firstFree s.dju.jobs 64 with
      | none => (s, Reply.path .full 0)
      | some j =>
        if 1024 < s.dju.dests.length + ds.length then (s, Reply.path .full 0)
        else (acceptJob sl j ds s, ⟨.accepted, .job, j, ds.length⟩)

/-- SUBMIT_JOB. -/
def execSubmitJob (s : State) : Answer := .next (take 0x23 7 submitJob s)

/-! ## Holding and cancelling (R96, R98 to R100) -/

/-- Cancels destination `k`, which is not final (R99). -/
def cancelDest (k : Nat) (s : State) : State :=
  match s.dest? k with
  | none => s
  | some t =>
    if t.isIdle then destGivenUp k .cancelled (putDest k { t with lastCause := some .cancelled } s)
    else
      let s := putDest k { t with cancelMark := true } s
      match allLines.find? fun n => (s.line n).dest = some k with
      | none => s
      | some n => endRequested n s

/-- The number of sessions of job `j` now running. -/
def State.sessionsOf (s : State) (j : Nat) : Nat := ((s.job? j).map Job.sessions).getD 0

/-- The job that parameter 0 names. -/
def State.namedJob (s : State) (sl : Slot) : Option Job := s.job? (sl.num 0)

/-- CANCEL_JOB (R99). -/
def cancelJob (sl : Slot) (s : State) : State × Reply :=
  let j := sl.num 0
  match s.namedJob sl with
  | none => (s, Reply.path .noEntry 0)
  | some r =>
    if r.state = .cancelled then (s, Reply.path .wrongState 0)
    else
      let s := putJob j { r with state := .cancelled } s
      let s := (s.destsOf j).foldl (fun s k =>
        match s.dest? k with
        | none => s
        | some t => if t.isFinal then s else cancelDest k s) s
      (testJob j s, ⟨.done, .job, j, s.sessionsOf j⟩)

/-- CANCEL_JOB. -/
def execCancelJob (s : State) : Answer := .next (take 0x24 1 cancelJob s)

/-- CANCEL_DESTINATION (R100). -/
def cancelDestination (sl : Slot) (s : State) : State × Reply :=
  let j := sl.num 0
  match s.namedJob sl with
  | none => (s, Reply.path .noEntry 0)
  | some r =>
    if r.destCount ≤ sl.num 1 then (s, Reply.path .noEntry 1)
    else
      match (s.destsOf j).find? fun k => ((s.dest? k).map Dest.index) == some (sl.num 1) with
      | none => (s, Reply.path .noEntry 1)
      | some k =>
        match s.dest? k with
        | none => (s, Reply.path .noEntry 1)
        | some t =>
          if t.isFinal ∨ t.cancelMark then (s, Reply.path .wrongState 1)
          else (testJob j (cancelDest k s), ⟨.done, .destination, k, if t.isIdle then 0 else 1⟩)

/-- CANCEL_DESTINATION. -/
def execCancelDestination (s : State) : Answer := .next (take 0x25 2 cancelDestination s)

/-- HOLD_JOB (R91, R98). -/
def holdJob (sl : Slot) (s : State) : State × Reply :=
  match s.namedJob sl with
  | none => (s, Reply.path .noEntry 0)
  | some r =>
    if r.state = .queued ∨ r.state = .active then
      (putJob (sl.num 0) { r with state := .onHold } s, ⟨.done, .job, sl.num 0, r.sessions⟩)
    else (s, Reply.path .wrongState 0)

/-- HOLD_JOB. -/
def execHoldJob (s : State) : Answer := .next (take 0x26 1 holdJob s)

/-- RELEASE_JOB (R91, R98). -/
def releaseJob (sl : Slot) (s : State) : State × Reply :=
  match s.namedJob sl with
  | none => (s, Reply.path .noEntry 0)
  | some r =>
    if r.state = .onHold then
      (occasion (putJob (sl.num 0) { r with state := if r.started then .active else .queued } s),
        ⟨.done, .job, sl.num 0, r.sessions⟩)
    else (s, Reply.path .wrongState 0)

/-- RELEASE_JOB. -/
def execReleaseJob (s : State) : Answer := .next (take 0x27 1 releaseJob s)

/-- SET_RETRY_POLICY (R96). -/
def setRetryPolicy (sl : Slot) (s : State) : State × Reply :=
  let m := clampNat 1 8 (sl.num 0)
  let b := clampNat 10 600 (sl.num 1)
  ({ s with dju := { s.dju with maxAttempts := sl.orKept 0 m s.dju.maxAttempts, baseWait := sl.orKept 1 b s.dju.baseWait } },
    Reply.doneZero (firstClamped (sl.supplied [(0, sl.num 0, m), (1, sl.num 1, b)])) .path 0)

/-- SET_RETRY_POLICY. -/
def execSetRetryPolicy (s : State) : Answer := .next (take 0x28 0 setRetryPolicy s)

/-! ## Dial scheduling (R101, R102) -/

/-- The plan's use allows outbound calls (R123). -/
def LineUse.dials : LineUse → Bool
  | .outOnly | .both => true
  | _ => false

/-- The line for the next outbound call (R102). -/
def State.freeLine (s : State) : Option Line :=
  if s.outboundCount < s.lne.ceiling then allLines.find? fun n => (s.line n).state == .idle && (s.plan n).use.dials
  else none

/-- An outbound session runs to these digits (R102). -/
def State.dialled (s : State) (digits : List Byte) : Bool :=
  allLines.any fun n => s.isOutbound n && (s.lineDest n).map Dest.digits == some digits

/-- Destination `t` of job `j` on document `d` is eligible (R102). -/
def State.eligible (s : State) (t : Dest) (j : Job) (d : Doc) : Bool :=
  (t.state == .pending || (t.state == .retryWait && decide (t.nextTry ≤ (s.chg.seconds : Int))))
    && (j.state == .queued || j.state == .active) && decide (j.sessions < j.spread) && !s.dialled t.digits
    && s.chg.clockSet
    && s.canReserve j.account (s.reservationOf j.account t.digits (d.places.length - t.confirmed)).2
    && match (d.places[t.confirmed]?).join.bind s.page? with
      | none => false
      | some p => p.isSealed

/-- A candidate of the scheduler: its place in the order of R102, its record and its job's document. -/
structure Candidate where
  priority : Nat
  submission : Nat
  index : Nat
  dest : Nat
deriving DecidableEq, Repr

/-- The order of R102: priority, then submission number, then destination index. -/
def Candidate.before (a b : Candidate) : Bool :=
  decide (a.priority < b.priority)
    || (a.priority == b.priority && (decide (a.submission < b.submission)
      || (a.submission == b.submission && decide (a.index < b.index))))

/-- The candidate that destination record `k` makes, if it is eligible. -/
def State.candidate (s : State) (k : Nat) (t : Dest) : Option Candidate :=
  match s.jobOf t with
  | none => none
  | some j =>
    match s.doc? j.doc with
    | none => none
    | some d => if s.eligible t j d then some ⟨j.priority, j.submission, t.index, k⟩ else none

/-- The first eligible destination (R102). -/
def State.firstEligible (s : State) : Option Candidate :=
  s.dju.dests.foldl (fun best e =>
    match s.candidate e.1 e.2, best with
    | none, b => b
    | some c, none => some c
    | some c, some b => if c.before b then some c else some b) none

/-- The DJU starts a call to destination `k` on line `n` (R102). -/
def startCall (n : Line) (k : Nat) (s : State) : State :=
  match s.dest? k with
  | none => s
  | some t =>
    match s.jobOf t with
    | none => s
    | some j =>
      let pages := ((s.doc? j.doc).map fun d => d.places.length - t.confirmed).getD 0
      let s := reserveCall n j.account t.job t.index t.digits pages s
      let t := { t with state := .dialling, line := some n.val }
      let s := putDest k t s
      let j := { j with sessions := j.sessions + 1, started := true, state := if j.state = .queued then .active else j.state }
      startSession n k t j.doc (putJob t.job j s)

/-- The choices of one pass, at most `fuel` of them: each takes an IDLE line, so eight end the pass (R101, R102). -/
def schedule : Nat → State → State
  | 0, s => s
  | fuel + 1, s =>
    match s.freeLine, s.firstEligible with
    | some n, some c => schedule fuel (startCall n c.dest s)
    | _, _ => s

/-- SCHEDULER_PASS (R101): a pass that an occasion has asked for. -/
def execSchedulerPass (s : State) : Answer :=
  .next (if s.isRun && s.dju.passDue then schedule 8 { s with dju := { s.dju with passDue := false } } else s)

end Sys2Proof.Machine
end

