-- ==== Sys2Proof/Machine/PrintQueue.lean ====
section
/-! DEFINITION. The print queue: entries, their print holds, and their removal (R158 to R162). -/

namespace Sys2Proof.Machine

/-- A print queue entry is free. -/
def State.freeEntry (s : State) : Option Nat := Tab.firstFree s.prn.entries 512

/-- Creates entry `e` for document `d` (R159, R160). The arrival number after FFFFFFFFh is 0 (DESIGN CHOICE, log 69). -/
def createEntry (e d copies tray cls : Nat) (s : State) : State :=
  let arrival := (s.prn.arrival + 1) % 4294967296
  let r : PrintEntry :=
    { doc := d, copies, copiesDone := 0, tray, cls, arrival, printing := false, position := 0, sheetNumber := 0,
      sheetLine := 0, cancelMark := false }
  let s := putEntry e r { s with prn := { s.prn with arrival := arrival } }
  let s := modifyDoc d (fun x => { x with printRefs := x.printRefs + 1 }) s
  (((s.doc? d).map Doc.livePages).getD []).foldl (fun s p => changePrintHolds p copies s) s

/-- A page joins the inbound document `d` and takes the print holds of its entries (R160). -/
def joinPrintHolds (d p : Nat) (s : State) : State :=
  let n := ((s.prn.entries.filter fun e => e.2.doc == d).map fun e => e.2.copies - e.2.copiesDone).sum
  modifyPage p (fun r => { r with printHolds := r.printHolds + n }) s

/-- The copies of an entry still to print of the page at place `k` (R158). -/
def PrintEntry.left (e : PrintEntry) (k : Nat) : Nat := e.copies - e.copiesDone - (if k < e.position then 1 else 0)

/-- The live pages of a list with their places, counted from place `k`. -/
def placed (k : Nat) : List (Option Nat) → List (Nat × Nat)
  | [] => []
  | none :: l => placed (k + 1) l
  | some p :: l => (k, p) :: placed (k + 1) l

/-- Takes off the print holds that an entry still has (R160, R162), in the order of the page list (DESIGN CHOICE, log 56). -/
def dropPrintHolds (e : PrintEntry) (s : State) : State :=
  (placed 0 (((s.doc? e.doc).map Doc.places).getD [])).foldl
    (fun s kp => changePrintHolds kp.2 (-(e.left kp.1 : Int)) s) s

/-- Entry `e` is being removed: the slot record made last for it is that of its last sheet, and from now on none of its slot
records answers for an entry that takes its number (R162, R170). -/
def markLast (e : Nat) (l : List SlotRec) : List SlotRec :=
  let mine := fun r : SlotRec => !r.entryGone && (r.sheet.map Prod.fst) == some e
  let last := match l.reverse.findIdx? mine with
    | none => l
    | some i => l.modify (l.length - 1 - i) fun r => { r with entryLast := true }
  last.map fun r => if mine r then { r with entryGone := true } else r

/-- Removes entry `e`, cancelled or done (R162). -/
def removeEntry (e : Nat) (cancelled : Bool) (s : State) : State :=
  match s.entry? e with
  | none => s
  | some r =>
    let s := if cancelled then dropPrintHolds r s else s
    let s := clearEntry e s
    let s := if r.printing then
        { s with prn := { s.prn with rendering := none, sheetOpen := false, slots := markLast e s.prn.slots } }
      else s
    let s := testDocFree r.doc (modifyDoc r.doc (fun d => { d with printRefs := d.printRefs - 1 }) s)
    match s.doc? r.doc with
    | none => s
    | some d =>
      if d.dir = .inbound then testAutoDelete r.doc (modifyDoc r.doc (fun d => { d with printed := true }) s) else s

/-- PRINT_DOCUMENT (R159). -/
def printDocument (sl : Slot) (s : State) : State × Reply :=
  let d := sl.num 0
  let copies := clampNat 1 9 (sl.num 1)
  let tray := clampNat 0 3 (sl.num 2)
  if 1 < sl.num 3 then (s, Reply.path .range 3)
  else
    match s.doc? d with
    | none => (s, Reply.path .noEntry 0)
    | some r =>
      if r.state = .opened ∨ r.state = .deleting then (s, Reply.path .wrongState 0)
      else
        match s.freeEntry with
        | none => (s, Reply.path .full 0)
        | some e =>
          (createEntry e d copies tray (sl.num 3) s,
            Reply.doneOr (firstClamped [(1, sl.num 1, copies), (2, sl.num 2, tray)]) .print e e)

/-- PRINT_DOCUMENT. -/
def execPrintDocument (s : State) : Answer := .next (take 0x49 4 printDocument s)

/-- CANCEL_PRINT (R161). -/
def cancelPrint (sl : Slot) (s : State) : State × Reply :=
  let e := sl.num 0
  match s.entry? e with
  | none => (s, Reply.path .noEntry 0)
  | some r =>
    if r.cancelMark then (s, Reply.path .wrongState 0)
    else if r.printing ∧ s.prn.sheetOpen then (putEntry e { r with cancelMark := true } s, ⟨.done, .print, e, 1⟩)
    else (removeEntry e true s, ⟨.done, .print, e, 0⟩)

/-- CANCEL_PRINT. -/
def execCancelPrint (s : State) : Answer := .next (take 0x4A 1 cancelPrint s)

end Sys2Proof.Machine
end

