-- ==== Sys2Proof/Machine/Reception.lean ====
section
/-! DEFINITION. The Reception Router: routes, the sender filter, the answer decision, held documents and the end of an inbound
document (R146 to R157). -/

namespace Sys2Proof.Machine

/-! ## Routes -/

/-- The record can match a call (R156). -/
def Route.isValid (r : Route) : Bool :=
  decide (1 ≤ r.digitCount) && decide (r.digitCount ≤ 8) && (r.digits.take r.digitCount).all isDigit

/-- The route is for these called digits (R149). -/
def Route.isFor (r : Route) (called : List Byte) : Bool := r.isValid && r.digits.take r.digitCount == called

/-- The route of a call (R149). -/
def State.routeOf (s : State) (called : List Byte) : Route :=
  if called = [] then s.rxr.defaultRoute
  else (s.rxr.routes.find? fun r => r.isFor called).getD s.rxr.defaultRoute

/-- Checks 1 to 3 of R147. -/
def routeFault (sl : Slot) : Option Reply :=
  let count := sl.num 0
  if count < 1 ∨ 8 < count then some (Reply.path .range 0)
  else
    match firstBadChar isDigit (sl.chars 1 count) with
    | some i => some (Reply.path .range (1 + i / 4))
    | none => if 15 < sl.num 6 then some (Reply.path .range 6) else none

/-- LOAD_ROUTE (R147). -/
def loadRoute (sl : Slot) (s : State) : State × Reply :=
  match routeFault sl with
  | some r => (s, r)
  | none =>
    let called := sl.chars 1 (sl.num 0)
    let desk := clampNat 0 31 (sl.num 3)
    let tray := clampNat 0 3 (sl.num 4)
    let copies := clampNat 0 9 (sl.num 5)
    let new : Route :=
      { digitCount := sl.num 0, digits := called, desk, tray, copies, printClass := bit (sl.flag 6 0),
        filter := sl.flag 6 1, autoDelete := sl.flag 6 2 }
    let clamped := firstClamped [(3, sl.num 3, desk), (4, sl.num 4, tray), (5, sl.num 5, copies)]
    let rs := s.rxr.routes
    match rs.findIdx? fun r => r.isFor called with
    | some i =>
      if sl.flag 6 3 then
        (dropRoute i s, Reply.doneOr clamped .path 0 (rs.length - 1))
      else (putRoute i new s, Reply.doneOr clamped .path 0 i)
    | none =>
      if sl.flag 6 3 then (s, Reply.path .noEntry 1)
      else if 64 ≤ rs.length then (s, Reply.path .full 0)
      else (putRoute rs.length new s, Reply.doneOr clamped .path 0 rs.length)

/-- LOAD_ROUTE_WRITE: the slot unless it asks for a removal. -/
def execLoadRouteWrite (s : State) : Answer :=
  .next (takeIf 0x40 7 (fun sl => !(sl.whole 7 && sl.flag 6 3)) loadRoute s)

/-- LOAD_ROUTE_REMOVE: the slot unless it asks for a write. -/
def execLoadRouteRemove (s : State) : Answer :=
  .next (takeIf 0x40 7 (fun sl => !(sl.whole 7 && !sl.flag 6 3)) loadRoute s)

/-- SET_DEFAULT_ROUTE (R148). -/
def setDefaultRoute (sl : Slot) (s : State) : State × Reply :=
  let desk := clampNat 0 31 (sl.num 0)
  let tray := clampNat 0 3 (sl.num 1)
  let copies := clampNat 0 9 (sl.num 2)
  if 7 < sl.num 3 then (s, Reply.path .range 3)
  else
    (putDefaultRoute
        { digitCount := 0, digits := [], desk, tray, copies, printClass := bit (sl.flag 3 0), filter := sl.flag 3 1,
          autoDelete := sl.flag 3 2 } s,
      Reply.doneZero (firstClamped [(0, sl.num 0, desk), (1, sl.num 1, tray), (2, sl.num 2, copies)]) .path 0)

/-- SET_DEFAULT_ROUTE. -/
def execSetDefaultRoute (s : State) : Answer := .next (take 0x42 4 setDefaultRoute s)

/-! ## The sender filter -/

/-- The weighted sum of R150 over the characters from number `i` on. -/
def binSum : Nat → List Byte → Nat
  | _, [] => 0
  | i, c :: cs => (i + 1) * c.toNat + binSum (i + 1) cs

/-- The bin of a sender identity (R150). -/
def binOf (ident : List Byte) : Nat := binSum 0 ident % 256

/-- The number of bins set. -/
def binCount (bins : BitVec 256) : Nat := ((List.range 256).filter fun b => bins.getLsbD b).length

/-- SET_FILTER_BIN (R150). -/
def setFilterBin (sl : Slot) (s : State) : State × Reply :=
  let b := sl.num 0
  let bins := s.rxr.bins
  match sl.num 1 with
  | 0 =>
    if 255 < b then (s, Reply.path .range 0)
    else (putFilter (bins &&& ~~~(BitVec.twoPow 256 b)) s, Reply.path .done (bit (bins.getLsbD b)))
  | 1 =>
    if 255 < b then (s, Reply.path .range 0)
    else (putFilter (bins ||| BitVec.twoPow 256 b) s, Reply.path .done (bit (bins.getLsbD b)))
  | 2 => (putFilter 0 s, Reply.path .done (binCount bins))
  | 3 => (putFilter (BitVec.allOnes 256) s, Reply.path .done (binCount bins))
  | _ => (s, Reply.path .range 1)

/-- The slot asks for operation `op`, or for none of the four. -/
def filterRow (op : Nat) (sl : Slot) : Bool := !sl.whole 2 || sl.num 1 == op || decide (3 < sl.num 1)

/-- SET_FILTER_BIN_CLEAR_BIN: operation 0. -/
def execSetFilterBinClearBin (s : State) : Answer := .next (takeIf 0x41 2 (filterRow 0) setFilterBin s)

/-- SET_FILTER_BIN_SET_BIN: operation 1. -/
def execSetFilterBinSetBin (s : State) : Answer := .next (takeIf 0x41 2 (filterRow 1) setFilterBin s)

/-- SET_FILTER_BIN_CLEAR_EVERY: operation 2. -/
def execSetFilterBinClearEvery (s : State) : Answer := .next (takeIf 0x41 2 (filterRow 2) setFilterBin s)

/-- SET_FILTER_BIN_SET_EVERY: operation 3. -/
def execSetFilterBinSetEvery (s : State) : Answer := .next (takeIf 0x41 2 (filterRow 3) setFilterBin s)

/-- A document on this route is held (R150). -/
def State.isHeld (s : State) (r : Route) (ident : List Byte) : Bool :=
  r.filter && (ident == [] || !s.rxr.bins.getLsbD (binOf ident))

/-! ## The answer decision -/

/-- The checks of R151; none when the call is answered. -/
def State.refusal (s : State) (r : Route) : Option RingRefusal :=
  if s.freeCount < s.psm.lowWater then some .lowStore
  else if s.emptyPages < 8 then some .pageRecords
  else if s.freeDoc.isNone then some .noDocument
  else if 0 < r.copies ∧ s.freeEntry.isNone then some .printQueueFull
  else none

/-- Posts RING_REFUSED (R151). -/
def postRefused (n : Line) (why : RingRefusal) (s : State) : State := post .ringRefused .line n.val why.code s.freeCount s

/-- The document of an answered call (R88, R152). -/
def inboundDoc (n : Line) (r : Route) (called ident : List Byte) (s : State) : Doc :=
  { Doc.fresh .inbound .receiving s.chg.seconds with
      isHeld := s.isHeld r ident, desk := r.desk, tray := r.tray, ident := ident, called := called, line := n.val,
      copies := r.copies, printClass := r.printClass, autoDelete := r.autoDelete }

/-- Steps 1 to 3 of R152: document `d` is created with its print entry. -/
def answerDoc (n : Line) (d : Nat) (r : Route) (called ident : List Byte) (s : State) : State :=
  let doc := inboundDoc n r called ident s
  let s := putDoc d doc s
  if 0 < r.copies ∧ !doc.isHeld then
    match s.freeEntry with
    | none => s
    | some e => createEntry e d r.copies r.tray r.printClass s
  else s

/-! ## Held documents -/

/-- RELEASE_HELD (R153). -/
def releaseHeld (sl : Slot) (s : State) : State × Reply :=
  let d := sl.num 0
  match s.doc? d with
  | none => (s, Reply.path .noEntry 0)
  | some r =>
    if r.dir ≠ .inbound ∨ !r.isHeld ∨ r.state = .deleting then (s, Reply.path .wrongState 0)
    else if r.copies = 0 then
      (testAutoDelete d (putDoc d { r with isHeld := false } s), ⟨.done, .document, d, 0xFFFFFFFF⟩)
    else
      match s.freeEntry with
      | none => (s, Reply.path .full 0)
      | some e =>
        (testAutoDelete d (createEntry e d r.copies r.tray r.printClass (putDoc d { r with isHeld := false } s)),
          ⟨.done, .document, d, e⟩)

/-- RELEASE_HELD. -/
def execReleaseHeld (s : State) : Answer := .next (take 0x43 1 releaseHeld s)

/-! ## The end of an inbound document (R88, R154) -/

/-- The value of a DOC_RECEIVED (11.3). -/
def Doc.receivedValue (d : Doc) : Nat := d.livePages.length + 256 * bit d.isHeld + 65536 * d.desk

/-- The inbound document `d` ends: its state is set, DOC_RECEIVED is posted, and automatic deletion is tested (R154). -/
def endInbound (d : Nat) (whole : Bool) (s : State) : State :=
  match s.doc? d with
  | none => s
  | some r =>
    let r := { r with state := if whole then .complete else .incomplete }
    testAutoDelete d (post .docReceived .document d (bit (!whole)) r.receivedValue (putDoc d r s))

end Sys2Proof.Machine
end

