-- ==== Sys2Proof/Machine/Sessions.lean ====
section
/-! DEFINITION. The inbound session, the end of every session, rings and glare, the session timers, the link-loss grace and the
commands of the Line Engine (R120, R122 to R127, R136 to R144). -/

namespace Sys2Proof.Machine

/-! ## The inbound page (R139 to R142) -/

/-- The inbound block state of line `n` (R120). -/
def State.inLine (s : State) (n : Nat) : InLine := Tab.getD s.sli.inLines n InLine.none

/-- Sets the inbound block state of line `n`. -/
def setInLine (n : Nat) (r : InLine) (s : State) : State :=
  { s with sli := { s.sli with inLines := Tab.set s.sli.inLines n r } }

/-- The LNE releases the inbound block buffer of line `n`: the state becomes NONE, or stays OPEN, also while a complete block
that carries an overrun mark waits for its judgement (R120). -/
def releaseBuffer (n : Nat) (s : State) : State := setInLine n { s.inLine n with complete := false, occupied := false } s

/-- A block store in progress is given up and its buffer released. -/
def giveUpStore (n : Line) (s : State) : State :=
  match (s.line n).storing with
  | none => s
  | some _ => releaseBuffer n.val (setLine n { s.line n with storing := none } s)

/-- The bytes of the blocks present from block `b` on: each full one, and the first shorter one (R141). -/
def extentFrom (m : Tab Nat) (b : Nat) : Nat → Nat
  | 0 => 0
  | fuel + 1 =>
    match Tab.get? m b with
    | none => 0
    | some l => if l = 256 then l + extentFrom m (b + 1) fuel else l

/-- The kept length of a page closed before its own end (R141). -/
def LineRec.extended (r : LineRec) : Nat :=
  if r.cut ∨ extentFrom r.blockMap 0 64 = 0 then r.kept else 16384 * r.partialPage + extentFrom r.blockMap 0 64

/-- Closes the page in hand at its own end (R141); the record keeps its position (DESIGN CHOICE, log 66). -/
def closePage (n : Line) (s : State) : State :=
  match (s.line n).page with
  | none => s
  | some p => sealPage p (s.line n).kept 0 (modifyLine n (fun r => { r with page := none }) s)

/-- Closes the page in hand before its own end: a session end or a new RX_PAGE_BEGIN (R141). -/
def closeEarly (n : Line) (s : State) : State :=
  let s := giveUpStore n s
  match (s.line n).page with
  | none => s
  | some p =>
    let kept := (s.line n).extended
    sealPage p kept 0 (markTruncated p (modifyLine n (fun r => { r with page := none, kept := kept }) s))

/-- RX_PAGE_BEGIN (R139). The block count is 0 until an RX_PARTIAL_END gives one (DESIGN CHOICE, log 58). -/
def beginPage (n : Line) (cls : WidthClass) (res : Resolution) (s : State) : State :=
  let s := closeEarly n s
  match (s.line n).doc with
  | none => s
  | some d =>
    if !s.docHasRoom d then abandonLine n .pageLimit s
    else
      match startPage d .inbound cls res s with
      | none => abandonLine n .storeFull s
      | some (p, s) =>
        enterState n .receiving
          (fun r => { r with page := some p, pagePos := ((s.page? p).map PageRec.pos).getD 0, partialPage := 0,
                             blockMap := [], rounds := 0, kept := 0, cut := false, blockCount := 0 })
          (joinPrintHolds d p s)

/-- The message acts in ANSWERING and RECEIVING; a code outside its set makes it ignored (R139). -/
def onRxPageBegin (n : Line) (cls res : Nat) (s : State) : State :=
  match widthClassOf cls, resolutionOf res with
  | some w, some r =>
    if (s.line n).state = .answering ∨ (s.line n).state = .receiving then beginPage n w r s else s
  | _, _ => s

/-- The segments missing for stream bytes up to `stop` (R71). -/
def segsMissing (r : PageRec) (stop : Nat) : Nat := segsFor stop - r.chain.length

/-- Store exhaustion (R142). -/
def storeExhausted (n : Line) (s : State) : State :=
  abandonLine n .storeFull (closeEarly n (releaseBuffer n.val s))

/-- The SLI hands a good block to the LNE (R140); a block that is taken is stored by BLOCK_STORED. It takes the place of a store
still in progress from before the link came up again (DESIGN CHOICE, log 72). -/
def goodBlock (n : Line) (pp b : Nat) (bytes : List Byte) (s : State) : State :=
  let s := if (s.line n).state = .receiving then restartTimer n s else s
  let l := s.line n
  match s.linePage n, l.page with
  | some r, some p =>
    if (l.state = .receiving ∨ l.state = .rxCheck) ∧ !l.cut ∧ pp = l.partialPage then
      let missing := segsMissing r (blockOffset pp b + bytes.length)
      if missing = 0 ∨ s.psm.scanReserve + missing ≤ s.freeCount then
        let s := (giveSegments p missing s).1
        setLine n { s.line n with storing := some { partialPage := pp, block := b, bytes := bytes } } s
      else storeExhausted n s
    else releaseBuffer n.val s
  | _, _ => releaseBuffer n.val s

/-- The blocks below `c` that are absent or, below `c − 1`, shorter than 256 (R141). -/
def listedBlocks (m : Tab Nat) (c : Nat) : List Nat :=
  (List.range c).filter fun b =>
    match Tab.get? m b with
    | none => true
    | some l => decide (b + 1 < c ∧ l < 256)

/-- The end kind acts after an RX_PARTIAL_OK (R141). The block count stays as it was (DESIGN CHOICE, log 58). -/
def afterPartialOk (n : Line) (k : EndKind) (s : State) : State :=
  match k with
  | .more =>
    enterState n .receiving (fun r => { r with partialPage := r.partialPage + 1, blockMap := [], rounds := 0 }) s
  | .pageEnd => enterState n .receiving id (closePage n s)
  | .docEnd => clearLine n .normal (closePage n s)

/-- Checks the partial page and answers it (R141). -/
def checkPartial (n : Line) (c : Nat) (k : EndKind) (s : State) : State :=
  let l := s.line n
  if l.cut then afterPartialOk n k (hand n (.rxPartialOk true) s)
  else
    match listedBlocks l.blockMap c with
    | [] =>
      let kept := 16384 * l.partialPage + ((List.range c).map fun b => Tab.getD l.blockMap b 0).sum
      afterPartialOk n k
        (modifyLine n (fun r => { r with rounds := 0, kept := kept }) (hand n (.rxPartialOk false) s))
    | b :: bs =>
      if l.rounds < 4 then
        enterState n .receiving (fun r => { r with rounds := r.rounds + 1 }) (hand n (.rxRepeat (b :: bs)) s)
      else
        let s := hand n (.rxPartialOk true) s
        let s := match l.page with
          | none => s
          | some p => markTruncated p s
        afterPartialOk n k (modifyLine n (fun r => { r with kept := blockOffset r.partialPage b, cut := true }) s)

/-- RX_PARTIAL_END (R141). -/
def onRxPartialEnd (n : Line) (pp c kind : Nat) (s : State) : State :=
  let l := s.line n
  match endKindOf kind with
  | none => s
  | some k =>
    if l.state ≠ .receiving ∨ l.page = none ∨ pp ≠ l.partialPage ∨ c < 1 ∨ 64 < c ∨ (k = .more ∧ c ≠ 64) then s
    else
      let s := enterState n .rxCheck (fun r => { r with blockCount := c, checking := some (c, k) }) s
      if (s.line n).storing.isSome then s
      else checkPartial n c k (setLine n { s.line n with checking := none } s)

/-- The block store in progress has finished: the block's bytes stand in the page's stream, the block is present, and the
buffer is released (R140), also when a newer block holds it since the link came up again (DESIGN CHOICE, log 72); a check that
waited for it is made (R141). -/
def blockStored (n : Line) (s : State) : State :=
  let l := s.line n
  match l.storing, s.linePage n with
  | some b, some r =>
    let s := writeStream r.chain (blockOffset b.partialPage b.block) b.bytes s
    let s := releaseBuffer n.val
      (modifyLine n (fun l => { l with storing := none, blockMap := Tab.set l.blockMap b.block b.bytes.length }) s)
    match l.checking with
    | none => s
    | some (c, k) => checkPartial n c k (setLine n { s.line n with checking := none } s)
  | _, _ => s

/-- BLOCK_STORED (R140). -/
def execBlockStored (n : Line) (s : State) : Answer := .next (blockStored n s)

/-! ## The end of a session (R136) -/

/-- The CHG's part at the end of an outbound session: settlement or release, and the record's sequence to the DJU. -/
def endCall (n : Line) (cause : Cause) (s : State) : State :=
  match Tab.get? s.chg.calls n.val with
  | none => s
  | some c =>
    if c.answered then
      let r := settleCall n c cause s
      let s := match (s.line n).dest with
        | none => r.1
        | some k => destSequence k r.2 r.1
      settleEnd n c s
    else releaseCall n c s

/-- Steps 2 to 4 of R136. -/
def endReports (n : Line) (cause : Cause) (s : State) : State :=
  let l := s.line n
  match l.dir with
  | none => s
  | some .inbound =>
    let s := closeEarly n s
    match l.doc with
    | none => s
    | some d => endInbound d (decide (cause = .normal ∧ l.kept ≠ 0)) s
  | some .outbound =>
    let s := occasion (endCall n cause s)
    match l.dest, l.job with
    | some k, some j => testJob j (destSessionEnd k cause s)
    | _, _ => s

/-- The session of line `n` ends with a cause, and the line goes to `dst` (R136). -/
def endSession (n : Line) (cause : Cause) (dst : LineState) (s : State) : State :=
  let s := giveUpStore n (endReports n cause s)
  let s := writeLine n (setLine n { LineRec.default with state := dst, cause := some cause } s)
  if dst = .idle then occasion s else s

/-- The cause of a session that ends at once: its own in CLEARING, else `cause` (R136). -/
def State.causeOr (s : State) (n : Line) (cause : Cause) : Cause :=
  if (s.line n).state = .clearing then (s.line n).cause.getD cause else cause

/-! ## Messages that every session takes -/

/-- LINE_READY (R124); during a withdraw every line stays UNAVAILABLE (R144, R157). -/
def onLineReady (n : Line) (s : State) : State :=
  if s.isRun ∧ (s.line n).state = .unavailable then occasion (modifyLine n (fun r => { r with state := .idle }) s) else s

/-- LINE_NOT_READY (R124). -/
def onLineNotReady (n : Line) (s : State) : State :=
  if (s.line n).state = .idle then modifyLine n (fun r => { r with state := .unavailable }) s
  else if (s.line n).state.inSession then endSession n (s.causeOr n .lineDisabled) .unavailable s
  else s

/-- REMOTE_CLEAR (R136). -/
def onRemoteClear (n : Line) (s : State) : State :=
  if (s.line n).state.inSession then endSession n (s.causeOr n .remoteClear) .idle s else s

/-- CLEARED, or the clearing timer's expiry (R136). -/
def onCleared (n : Line) (s : State) : State :=
  if (s.line n).state = .clearing then endSession n (s.causeOr n .normal) .idle s else s

/-! ## Rings (R137, R138, R151) -/

/-- The LNE refuses a RING and the RXR posts why. -/
def refuseRing (n : Line) (why : RingRefusal) (s : State) : State := postRefused n why (hand n .refuse s)

/-- A RING on an IDLE line whose use answers calls (R138). -/
def decideRing (n : Line) (called ident : List Byte) (s : State) : State :=
  let r := s.routeOf called
  match s.refusal r, s.freeDoc with
  | none, some d =>
    let s := answerDoc n d r called ident s
    let s := hand n .answer s
    let s := setLine n { LineRec.default with dir := some .inbound, doc := some d, cause := (s.line n).cause } s
    let s := enterState n .answering id s
    post .ring .line n.val (bit (((s.doc? d).map Doc.isHeld).getD false)) d s
  | some why, _ => refuseRing n why s
  | none, none => refuseRing n .noDocument s

/-- The line's use answers calls (R123). -/
def LineUse.answers : LineUse → Bool
  | .inOnly | .both => true
  | _ => false

/-- A RING on an IDLE line (R138). -/
def ringOnIdle (n : Line) (called ident : List Byte) (s : State) : State :=
  if (s.plan n).use.answers then decideRing n called ident s else refuseRing n .lineUse s

/-- RING (R137, R138): called digits above 8 and identities above 20 characters do not fit the message (Table 6-3). A line that
is neither IDLE nor SEIZING refuses with LINE_NOT_IDLE, whatever its use (DESIGN CHOICE, log 44). -/
def onRing (n : Line) (called ident : List Byte) (s : State) : State :=
  if 8 < called.length ∨ 20 < ident.length then s
  else
    match (s.line n).state with
    | .idle => ringOnIdle n called ident s
    | .seizing => ringOnIdle n called ident (endSession n .seizeLost .idle s)
    | _ => refuseRing n .lineNotIdle s

/-! ## Timers and the grace (R127, R143) -/

/-- The session timer of line `n` has run out and is not paused (R127). -/
def State.timerOut (s : State) (n : Line) : Bool :=
  (s.line n).timer.isSome && decide ((s.line n).remaining = 0) && s.lne.grace.isNone

/-- The expiry of a session timer other than the clearing timer (R127). -/
def timerExpires (n : Line) (s : State) : State :=
  match (s.line n).state with
  | .dataWait => abandonLine n .dataNotReady s
  | .seizing | .dialling | .sending | .partialWait | .pageWait | .answering | .receiving => clearLine n .timeout s
  | _ => s

/-- SESSION_TIMER_EXPIRY (R127). -/
def execSessionTimerExpiry (n : Line) (s : State) : Answer := .next (if s.timerOut n then timerExpires n s else s)

/-- CLEARING_TIMER_EXPIRY (R127, R136). -/
def execClearingTimerExpiry (n : Line) (s : State) : Answer := .next (if s.timerOut n then onCleared n s else s)

/-- The lines that hold a session. -/
def State.sessionLines (s : State) : List Line := allLines.filter fun n => (s.line n).state.inSession

/-- The LNE is told that the link is down (R124, R143). -/
def lneLinkDown (s : State) : State :=
  let s := allLines.foldl (fun s n =>
    if (s.line n).state = .idle then modifyLine n (fun r => { r with state := .unavailable }) s else s) s
  if s.sessionLines = [] then s else { s with lne := { s.lne with grace := some 20 } }

/-- The LNE is told that the link is up (R143). -/
def lneLinkUp (s : State) : State := { s with lne := { s.lne with grace := none } }

/-- Every session ends at once, lines 0 to 7 in turn (R143; DESIGN CHOICE, log 48). -/
def endAllSessions (cause : Cause) (s : State) : State :=
  allLines.foldl (fun s n =>
    if (s.line n).state.inSession then endSession n (s.causeOr n cause) .unavailable s else s) s

/-- GRACE_EXPIRY (R143). -/
def execGraceExpiry (s : State) : Answer :=
  .next (if s.lne.grace = some 0 then
      endAllSessions .linkLost (dropMessages { s with lne := { s.lne with grace := none } })
    else s)

/-- What the LNE hands for line `n` as a withdraw starts (R144). -/
def handWithdraw (n : Line) (s : State) : State :=
  match (s.line n).state with
  | .seizing | .dialling => hand n .clear s
  | .sending | .partialWait | .pageWait | .dataWait | .answering | .receiving | .rxCheck => handAbandonClear n s
  | .clearing | .idle | .unavailable => s

/-- The LNE's part of a withdraw (R144). -/
def withdrawLines (s : State) : State :=
  let s := allLines.foldl (fun s n =>
    if (s.line n).state.inSession then endSession n (s.causeOr n .withdrawn) .unavailable (handWithdraw n s)
    else if (s.line n).state = .idle then modifyLine n (fun r => { r with state := .unavailable }) s
    else s) s
  { s with lne := { s.lne with grace := none } }

/-! ## Commands of the LNE -/

/-- One line of the plan from its word, if its codes are in their sets (R123, 11.2). -/
def planOf (sl : Slot) (n : Nat) : Option LinePlan :=
  let count := sl.field n 4 4
  let digits := (List.range count).map fun i => sl.field n (8 + 4 * i) 4
  match lineUseOf (sl.field n 0 4) with
  | none => none
  | some u => if 4 < count ∨ digits.any (fun d => decide (9 < d)) then none else some { use := u, outside := digits }

/-- The plans of the words from word `n` on, or the position of the first wrong word. -/
def plansFrom (sl : Slot) (n : Nat) : Nat → Except Nat (Tab LinePlan)
  | 0 => .ok []
  | k + 1 =>
    match planOf sl n with
    | none => .error n
    | some p =>
      match plansFrom sl (n + 1) k with
      | .error e => .error e
      | .ok t => .ok ((n, p) :: t)

/-- SET_LINE_PLAN (R123). -/
def setLinePlan (sl : Slot) (s : State) : State × Reply :=
  match plansFrom sl 0 8 with
  | .error p => (s, Reply.path .range p)
  | .ok plan =>
    let ceiling := clampNat 0 8 (sl.num 8)
    let s := occasion { s with lne := { s.lne with plan := plan, ceiling := ceiling } }
    (s, Reply.doneOr (firstClamped [(8, sl.num 8, ceiling)]) .path 0 s.outboundCount)

/-- SET_LINE_PLAN. -/
def execSetLinePlan (s : State) : Answer := .next (take 0x38 9 setLinePlan s)

/-- SET_LINE_TIMERS (R126). -/
def setLineTimers (sl : Slot) (s : State) : State × Reply :=
  let t := s.lne.timers
  let v (p lo hi : Nat) := clampNat lo hi (sl.num p)
  let new : LineTimers :=
    { seize := sl.orKept 0 (v 0 10 300) t.seize, answer := sl.orKept 1 (v 1 200 1200) t.answer,
      partialPage := sl.orKept 2 (v 2 50 600) t.partialPage, pageConfirm := sl.orKept 3 (v 3 100 1200) t.pageConfirm,
      dataWait := sl.orKept 4 (v 4 50 1200) t.dataWait, answering := sl.orKept 5 (v 5 100 600) t.answering,
      blockGap := sl.orKept 6 (v 6 50 600) t.blockGap }
  ({ s with lne := { s.lne with timers := new } },
    Reply.doneZero (firstClamped (sl.supplied
      [(0, sl.num 0, v 0 10 300), (1, sl.num 1, v 1 200 1200), (2, sl.num 2, v 2 50 600), (3, sl.num 3, v 3 100 1200),
       (4, sl.num 4, v 4 50 1200), (5, sl.num 5, v 5 100 600), (6, sl.num 6, v 6 50 600)])) .path 0)

/-- SET_LINE_TIMERS. -/
def execSetLineTimers (s : State) : Answer := .next (take 0x39 0 setLineTimers s)

end Sys2Proof.Machine
end

