-- ==== Sys2Proof/Machine/Printing.lean ====
section
/-! DEFINITION. The Print Renderer: the profile and the print ring, walking an entry's document, rendering, consumption, held
reads and substitution (R163 to R174). -/

namespace Sys2Proof.Machine

/-! ## The print ring (R164) -/

/-- The bytes of a slot for a printer width: the tag and the line's dots (R164). -/
def slotBytes (width : Nat) : Nat := 16 + (width / 8 + 15) / 16 * 16

/-- The slot count that a printer width gives (R164). -/
def State.slotCountFor (s : State) (width : Nat) : Nat := s.cfg.prnSize / slotBytes width

/-- f, the slots filled or substituted and not consumed. -/
def State.waitingSlots (s : State) : Nat := s.prn.slots.length

/-- The slot count of the geometry in force. -/
def State.printSlots (s : State) : Nat := (s.rgw.printGeom.map PrintGeom.slotCount).getD 0

/-- The offset of print slot `k`. -/
def State.printSlotAddr (s : State) (k : Nat) : Nat :=
  s.cfg.prnBase + k * (s.rgw.printGeom.map PrintGeom.slotSize).getD 0

/-- "Printing": PRINTING or STOPPING (R164). -/
def State.isPrinting (s : State) : Bool := s.prn.state != .stopped

/-- Tests the urgent flag (R20, R173). -/
def testUrgent (s : State) : State :=
  let threshold := (s.prn.active.map PrintProfile.threshold).getD 0
  { s with mad := { s.mad with urgent := s.isRun && s.isPrinting && decide (s.waitingSlots < threshold) } }

/-! ## Tags and dots (R167, 11.5) -/

/-- The 16 bytes of a tag (11.5). -/
def Tag.bytes (t : Tag) : List Byte :=
  u8 t.tray ++ zeros 1 ++ le 2 (orAbsent 0xFFFF t.page) ++ le 4 t.sheet ++ le 2 t.line ++ le 2 t.flags
    ++ le 2 (orAbsent 0xFFFF t.doc) ++ zeros 2

/-- The effective offset of a page (R167). -/
def PrintProfile.effectiveOffset (p : PrintProfile) (wout : Nat) : Nat :=
  if wout ≤ p.width then min p.offset (p.width - wout) else 0

/-- The dots of a sheet line (R167). -/
def PrintProfile.sheetDots (p : PrintProfile) (dots : List Bool) : List Bool :=
  let line := List.replicate (p.effectiveOffset dots.length) false ++ dots
  (line ++ List.replicate (p.width - line.length) false).take p.width

/-- Eight dots as a byte, the first in bit 7 or in bit 0 (R167). -/
def packByte (o : DotOrder) (ds : List Bool) : Byte :=
  BitVec.ofNat 8 (((List.range 8).map fun j =>
    if ds.getD j false then 2 ^ (match o with | .msbFirst => 7 - j | .lsbFirst => j) else 0).sum)

/-- The bytes of `n` groups of eight dots. -/
def packDots (o : DotOrder) : Nat → List Bool → List Byte
  | 0, _ => []
  | n + 1, ds => packByte o (ds.take 8) :: packDots o n (ds.drop 8)

/-- The data bytes of a sheet line, after the tag (R164, R167). -/
def PrintProfile.dataBytes (p : PrintProfile) (dots : List Bool) : List Byte :=
  packDots p.order (slotBytes p.width - 16) (p.sheetDots dots)

/-! ## Consumption and held reads (R170, R171) -/

/-- The PRINTING entry. -/
def State.printingEntry (s : State) : Option (Nat × PrintEntry) := s.prn.entries.find? fun e => e.2.printing

/-- Nothing of entry `e` is left to print after the sheet it began last: no place from its position holds a live page, the
list is final and the present copy is the last. -/
def State.entryIsOver (s : State) (e : PrintEntry) : Bool :=
  match s.doc? e.doc with
  | none => true
  | some d =>
    !s.prn.sheetOpen && s.prn.rendering.isNone && d.isFinal && (d.places.drop e.position).all Option.isNone
      && (decide (e.copies ≤ e.copiesDone + 1) || d.livePages.isEmpty)

/-- The code of the PRINT_SHEET_DONE of a consumed slot: 1 when the sheet was the entry's last, settled for good when its entry
is removed, and read from the PRINTING entry until then (R170). -/
def State.sheetCode (s : State) (r : SlotRec) : Nat :=
  match r.sheet with
  | none => 0
  | some (e, _, sheet) =>
    if r.entryLast then 1
    else if r.entryGone then 0
    else
      match s.printingEntry with
      | none => 0
      | some (e', r') => bit (e == e' && decide (sheet + 1 = r'.sheetNumber) && s.entryIsOver r')

/-- The slot at the read index is consumed (R170). -/
def consume (s : State) : State :=
  match s.prn.slots with
  | [] => s
  | r :: rs =>
    let s1 := testUrgent { s with prn := { s.prn with slots := rs, read := (s.prn.read + 1) % s.printSlots } }
    match r.sheet with
    | none => s1
    | some (e, doc, sheet) =>
      if r.ends then post .printSheetDone .print e (s.sheetCode r) (doc + 256 * (sheet % 16777216)) s1 else s1

/-- The print slot that holds an offset, with the offset's place in it, while a geometry is in force (R164). -/
def State.printSlot (s : State) (off : Nat) : Option (Nat × Nat) :=
  match s.rgw.printGeom with
  | none => none
  | some g =>
    let o := off - s.cfg.prnBase
    if s.cfg.prnBase ≤ off ∧ o < g.slotCount * g.slotSize then some (o / g.slotSize, o % g.slotSize) else none

/-- The record of print slot `j`, when it is filled or substituted and not consumed. -/
def State.slotRec (s : State) (j : Nat) : Option SlotRec :=
  s.prn.slots[(j + s.printSlots - s.prn.read) % s.printSlots]?

/-- The word that a bus read of the window returns: DRAM's, or the substitute's (R1, R172). -/
def State.readWord (s : State) (off : Nat) : Word :=
  match s.printSlot off with
  | none => Mem.word s.dram off
  | some (j, r) =>
    match (s.slotRec j).bind SlotRec.substitute with
    | none => Mem.word s.dram off
    | some t => BitVec.ofNat 32 (leNat ((t.bytes.drop r).take 4))

/-- What the RGW reports of a finished read: the last word of print slot Rd is consumed in RUN (R14, R170). -/
def readWatch (off : Nat) (s : State) : State :=
  match s.printSlot off with
  | none => s
  | some (j, r) =>
    if s.isRun && (r + 4 == slotBytes ((s.rgw.printGeom.map PrintGeom.width).getD 0)) && j == s.prn.read then consume s
    else s

/-- A read finishes: its data is on the bus (R1). -/
def finishRead (off : Nat) (s : State) : State :=
  readWatch off { s with smp := { s.smp with held := none, busData := s.readWord off } }

/-- An early read (R171). -/
def State.isEarly (s : State) (off : Nat) : Bool :=
  match s.printSlot off with
  | none => false
  | some (j, _) => s.isRun && s.isPrinting && decide (s.waitingSlots = 0) && j == s.prn.read

/-- A held print read goes ahead once its slot is filled or the print state is STOPPED (R171). -/
def releasePrintHold (s : State) : State :=
  match s.smp.held with
  | some h => if h.reason = .print ∧ !s.isEarly h.access.off then finishRead h.access.off s else s
  | none => s

/-! ## Walking the entry's document (R166) -/

/-- Walks the PRINTING entry over freed places and ended copies, up to a live page or an end of the list that may grow. -/
def walk : Nat → State → State
  | 0, s => s
  | fuel + 1, s =>
    match s.printingEntry with
    | none => s
    | some (e, r) =>
      match s.doc? r.doc with
      | none => s
      | some d =>
        match d.places[r.position]? with
        | some (some _) => s
        | some none => walk fuel (putEntry e { r with position := r.position + 1 } s)
        | none =>
          if !d.isFinal then s
          else if r.copiesDone + 1 < r.copies then
            walk fuel (putEntry e { r with copiesDone := r.copiesDone + 1, position := 0 } s)
          else removeEntry e false s

/-- The rendering of a page that begins (R168). -/
def Rendering.start (p : Nat) (r : PageRec) : Rendering :=
  { page := p, pos := 0, lineNo := 0, ref := whiteLine r.cls.dots, cur := none, damaged := r.state == .damaged }

/-- Begins the rendering of the page at the entry's position, when one stands there sealed (R166). -/
def beginRendering (s : State) : State :=
  if s.prn.rendering.isSome then s
  else
    match s.printingEntry with
    | none => s
    | some (_, r) =>
      match ((s.doc? r.doc).bind fun d => d.places[r.position]?).join with
      | none => s
      | some p =>
        match s.page? p with
        | none => s
        | some page =>
          if page.isSealed then { s with prn := { s.prn with rendering := some (Rendering.start p page) } } else s

/-- Begins a new sheet of the page being rendered: it takes the entry's sheet number, which grows by 1, and its lines are
numbered from 0 (R167). -/
def beginSheet (s : State) : State :=
  match s.printingEntry, s.prn.rendering with
  | some (e, r), some _ =>
    putEntry e { r with sheetNumber := r.sheetNumber + 1, sheetLine := 0 } { s with prn := { s.prn with sheetOpen := true } }
  | _, _ => s

/-- The PRN goes on to its next sheet. While PRINTING with no sheet in progress it walks its entry's document (nine copies of
128 places bound the walk) and, as soon as it comes to a sealed page or has more of a page, the next sheet begins: sheet 0 of
9.5's example begins before its line 0 is written (DESIGN CHOICE, log 45). A PRN that has stopped looks no further, so an
entry whose last copy ended as it stopped is removed after START_PRINT (DESIGN CHOICE, log 53). -/
def settle (s : State) : State :=
  if s.prn.state = .printing ∧ !s.prn.sheetOpen then
    beginSheet (beginRendering (if s.prn.rendering = none then walk 1200 s else s))
  else s

/-- `a` comes before `b` in the queue (R158), by the arrival numbers as they stand, also across their wrap (DESIGN CHOICE,
log 69). -/
def PrintEntry.before (a b : PrintEntry) : Bool :=
  decide (a.cls < b.cls) || (a.cls == b.cls && decide (a.arrival < b.arrival))

/-- The first entry in queue order (R158). -/
def firstEntry : Tab PrintEntry → Option (Nat × PrintEntry)
  | [] => none
  | e :: es =>
    match firstEntry es with
    | none => some e
    | some b => if b.2.before e.2 then some b else some e

/-- PRN_TAKE_ENTRY (R166). -/
def takeEntry (s : State) : State :=
  if s.isRun ∧ s.prn.state = .printing ∧ s.printingEntry.isNone then
    match firstEntry s.prn.entries with
    | none => s
    | some (e, r) => settle (putEntry e { r with printing := true } s)
  else s

/-- PRN_TAKE_ENTRY. -/
def execPrnTakeEntry (s : State) : Answer := .next (takeEntry s)

/-! ## Rendering (R167 to R169) -/

/-- A malformed line's report (R168). -/
def decodeFault (p line : Nat) (s : State) : State :=
  post .printFault .page p 0 line (modifyPage p (fun r => { r with decodeFault := true, state := .damaged }) s)

/-- A failed check: the page record takes it, and PRINT_FAULT reports it unless the last line was given up (R169). -/
def checkFault (p : Nat) (crc : BitVec 16) (givenUp : Bool) (s : State) : State :=
  let s := modifyPage p (fun r => { r with checkFail := true, state := .damaged }) s
  if givenUp then s else post .printFault .page p 1 crc.toNat s

/-- Decodes the next page line (R167 to R169). -/
def decodeNext (prof : PrintProfile) (g : Rendering) (r : PageRec) (s : State) : Rendering × PageLine × State :=
  let d := decodeLine r.cls.dots g.ref (s.streamBytes r.chain g.pos (r.codedLen - g.pos))
  let last := d.malformed || decide (r.codedLen ≤ g.pos + d.used)
  let crc := crc16 (s.streamBytes r.chain 0 r.codedLen)
  let line : PageLine :=
    { dots := d.dots, owed := if r.res = .standard ∧ prof.repeats = 2 then 2 else 1, last := last,
      badCheck := if last && !d.malformed && crc != r.check then some crc else none }
  let g := { g with pos := g.pos + d.used, lineNo := g.lineNo + 1, ref := d.dots, cur := some line }
  (g, line, if d.malformed then decodeFault g.page (g.lineNo - 1) s else s)

/-- The line whose next sheet line the PRN owes: the one in hand, or the next one of the page. A line in hand keeps its second
sheet line under a profile that START_PRINT takes meanwhile (DESIGN CHOICE, log 54). -/
def owedLine (prof : PrintProfile) (g : Rendering) (r : PageRec) (s : State) : Rendering × PageLine × State :=
  match g.cur with
  | some l => if l.owed = 0 then decodeNext prof g r s else (g, l, s)
  | none => decodeNext prof g r s

/-- The next sheet line: the entry, its rendering and line, and where it stands in its sheet. -/
structure SheetLine where
  entry : Nat
  entryRec : PrintEntry
  rendering : Rendering
  page : PageRec
  line : PageLine
  sheet : Nat
  number : Nat
  endsPage : Bool
  endsSheet : Bool

/-- The next sheet line of the sheet in progress, and the state with its page line decoded. -/
def nextSheetLine (prof : PrintProfile) (s : State) : Option (SheetLine × State) :=
  match s.printingEntry, s.prn.rendering, s.prn.sheetOpen with
  | some (e, r), some g, true =>
    match s.page? g.page with
    | none => none
    | some page =>
      let o := owedLine prof g page s
      let endsPage := o.2.1.last && o.2.1.owed == 1
      some ({ entry := e, entryRec := r, rendering := o.1, page := page, line := o.2.1, sheet := r.sheetNumber - 1,
              number := r.sheetLine, endsPage := endsPage,
              endsSheet := endsPage || r.sheetLine + 1 == prof.height }, o.2.2)
  | _, _, _ => none

/-- What the PRN keeps of the slot that a sheet line goes into. -/
def SheetLine.slot (l : SheetLine) (substitute : Option Tag) : SlotRec :=
  { substitute, sheet := some (l.entry, l.entryRec.doc, l.sheet), ends := l.endsSheet, entryLast := false,
    entryGone := false }

/-- The tag of a sheet line (R167). -/
def SheetLine.tag (l : SheetLine) (prof : PrintProfile) : Tag :=
  { tray := l.entryRec.tray, page := some l.rendering.page, sheet := l.sheet, line := l.number, first := l.number == 0,
    last := l.endsSheet, underrun := false, damaged := l.rendering.damaged,
    cropped := decide (prof.width < l.page.cls.dots), checkFail := l.endsPage && l.line.badCheck.isSome,
    doc := some l.entryRec.doc }

/-- The tag of the substitute for a sheet line (R172). -/
def SheetLine.substituteTag (l : SheetLine) : Tag :=
  { tray := l.entryRec.tray, page := some l.rendering.page, sheet := l.sheet, line := l.number, first := l.number == 0,
    last := l.endsSheet, underrun := true, damaged := false, cropped := false, checkFail := false, doc := some l.entryRec.doc }

/-- The end of a page-copy: its check result is told, and its print hold is taken off (R167, R169). -/
def endPageCopy (l : SheetLine) (givenUp : Bool) (s : State) : State :=
  let s := match l.line.badCheck with
    | none => s
    | some crc => checkFault l.rendering.page crc givenUp s
  let s := { s with prn := { s.prn with rendering := none } }
  let s := modifyEntry l.entry (fun r => { r with position := r.position + 1 }) s
  changePrintHolds l.rendering.page (-1) s

/-- The end of a sheet: a cancelled entry is removed, and a STOPPING PRN stops (R161, R165, R167). -/
def endSheet (l : SheetLine) (s : State) : State :=
  let s := if l.entryRec.cancelMark then removeEntry l.entry true s else s
  if s.prn.state = .stopping then { s with prn := { s.prn with state := .stopped } } else s

/-- The sheet line is handled, written or given up (R167, R172); after the LAST line of a sheet the PRN goes on to the next. -/
def handled (l : SheetLine) (givenUp : Bool) (s : State) : State :=
  let s := putEntry l.entry { l.entryRec with sheetLine := if l.endsSheet then 0 else l.number + 1 } s
  let line := { l.line with owed := l.line.owed - 1 }
  let s := { s with prn := { s.prn with sheetOpen := !l.endsSheet,
                                        rendering := some { l.rendering with cur := some line } } }
  let s := if l.endsPage then endPageCopy l givenUp s else s
  let s := if l.endsSheet then endSheet l s else s
  settle s

/-- The slot record joins the ring: F advances and f grows by 1. -/
def fillSlot (r : SlotRec) (s : State) : State :=
  { s with prn := { s.prn with slots := s.prn.slots ++ [r], fill := (s.prn.fill + 1) % s.printSlots } }

/-- Writes the next sheet line into slot F, when there is room (R167). -/
def writeSheetLine (prof : PrintProfile) (s : State) : State :=
  if s.waitingSlots < s.printSlots then
    match nextSheetLine prof s with
    | none => s
    | some (l, s) =>
      let a := s.printSlotAddr s.prn.fill
      let s := (s.store (a + 16) (prof.dataBytes l.line.dots)).store a (l.tag prof).bytes
      handled l false (fillSlot (l.slot none) s)
  else s

/-- PRN_RENDER_SHEET_LINE (R167). -/
def renderStep (s : State) : State :=
  match s.prn.active with
  | none => s
  | some prof =>
    if s.isRun && s.isPrinting then
      releasePrintHold (testUrgent (writeSheetLine prof (settle s)))
    else s

/-- PRN_RENDER_SHEET_LINE. -/
def execPrnRenderSheetLine (s : State) : Answer := .next (renderStep s)

/-! ## Substitution (R172) -/

/-- The slot record and the tag of a substitution without a sheet in progress; R172 gives the tag no tray, and the model
writes 0 (DESIGN CHOICE, log 46). -/
def blankSubstitute : SlotRec :=
  { substitute := some { tray := 0, page := none, sheet := 0, line := 0, first := false, last := false, underrun := true,
                         damaged := false, cropped := false, checkFail := false, doc := none },
    sheet := none, ends := false, entryLast := false, entryGone := false }

/-- Substitutes the slot at the fill index (R172). A line given up that proves malformed posts its PRINT_FAULT before
PRINT_UNDERRUN (DESIGN CHOICE, log 55). -/
def substitute (s : State) : State :=
  let entry := ((s.printingEntry).map Prod.fst).getD 0
  let slot := s.prn.fill
  match s.prn.active.bind fun prof => nextSheetLine prof s with
  | some (l, s) =>
    testUrgent (handled l true (post .printUnderrun .print entry 0 slot (fillSlot (l.slot (some l.substituteTag)) s)))
  | none => testUrgent (post .printUnderrun .print entry 1 slot (fillSlot blankSubstitute s))

/-- PRINT_HOLD_EXPIRY (R171, R172): the slot is substituted and the held read returns the substitute. -/
def printHoldExpiry (s : State) : State :=
  match s.smp.held with
  | none => s
  | some h => if h.reason = .print then finishRead h.access.off (substitute s) else s

/-- PRINT_HOLD_EXPIRY. -/
def execPrintHoldExpiry (s : State) : Answer := .next (printHoldExpiry s)

/-! ## Commands of the PRN -/

/-- SET_PRINT_PROFILE (R163). -/
def setPrintProfile (sl : Slot) (s : State) : State × Reply :=
  if sl.has 4 ∧ 1 < sl.num 4 then (s, Reply.path .range 4)
  else
    let p := s.prn.profile
    let wR := roundDown 32 (sl.num 0)
    let width := sl.orKept 0 (clampNat 1728 4864 wR) p.width
    let count := s.slotCountFor width
    let offset := clampNat 0 (width - 1728) (sl.num 1)
    let height := clampNat 100 8192 (sl.num 2)
    let reps := clampNat 1 2 (sl.num 3)
    let thr := if count = 0 then Config.thresholdOfEmptyRange (sl.word 5) else clampNat 1 count (sl.num 5)
    let new : PrintProfile :=
      { width, offset := sl.orKept 1 offset p.offset, height := sl.orKept 2 height p.height,
        repeats := sl.orKept 3 reps p.repeats, order := sl.orKept 4 (if sl.num 4 = 1 then .lsbFirst else .msbFirst) p.order,
        threshold := sl.orKept 5 thr p.threshold }
    ({ s with prn := { s.prn with profile := new } },
      Reply.doneOr (firstClamped (sl.supplied
        [(0, wR, clampNat 1728 4864 wR), (1, sl.num 1, offset), (2, sl.num 2, height), (3, sl.num 3, reps),
         (5, sl.num 5, thr)])) .path 0 count)

/-- SET_PRINT_PROFILE. -/
def execSetPrintProfile (s : State) : Answer := .next (take 0x48 0 setPrintProfile s)

/-- The active profile that START_PRINT takes: the threshold does not exceed the slot count (R164). -/
def PrintProfile.activated (p : PrintProfile) (count : Nat) : PrintProfile := { p with threshold := min p.threshold count }

/-- The state with the geometry of the stored profile in force (R164). -/
def takeGeometry (s : State) : State :=
  let p := s.prn.profile
  let count := s.slotCountFor p.width
  let kept := (s.rgw.printGeom.map PrintGeom.width) == some p.width
  let s := { s with prn := { s.prn with active := some (p.activated count), state := .printing } }
  if kept then s
  else
    { s with rgw := { s.rgw with printGeom := some ⟨p.width, slotBytes p.width, count⟩ },
             prn := { s.prn with fill := 0, read := 0, slots := [] } }

/-- START_PRINT (R164). -/
def startPrint (_ : Slot) (s : State) : State × Reply :=
  match s.prn.state with
  | .printing => (s, Reply.path .done PrintState.printing.code)
  | .stopping =>
    ({ s with prn := { s.prn with state := .printing } }, Reply.path .done PrintState.stopping.code)
  | .stopped =>
    let count := s.slotCountFor s.prn.profile.width
    if count < 4 then (s, Reply.path .range count)
    else if (s.rgw.printGeom.any fun g => g.width != s.prn.profile.width) && decide (0 < s.waitingSlots) then
      (s, Reply.path .wrongState 0)
    else (testUrgent (takeGeometry s), Reply.path .done PrintState.stopped.code)

/-- START_PRINT. -/
def execStartPrint (s : State) : Answer := .next (take 0x4B 0 startPrint s)

/-- STOP_PRINT (R165). -/
def stopPrint (_ : Slot) (s : State) : State × Reply :=
  let before := Reply.path .done s.prn.state.code
  if s.prn.state = .printing then
    let st : PrintState := if s.prn.sheetOpen then .stopping else .stopped
    (releasePrintHold (testUrgent { s with prn := { s.prn with state := st } }), before)
  else (s, before)

/-- STOP_PRINT. -/
def execStopPrint (s : State) : Answer := .next (take 0x4C 0 stopPrint s)

/-- The PRN's part of a withdraw (R17, R174): every substitution ends, and a held read goes ahead with DRAM's word. -/
def withdrawPrint (s : State) : State :=
  releasePrintHold
    { s with prn := { s.prn with state := .stopped, rendering := none, sheetOpen := false,
                                 slots := s.prn.slots.map fun r => { r with substitute := none } },
             mad := { s.mad with urgent := false } }

end Sys2Proof.Machine
end

