-- ==== Sys2Proof/Machine/Shelf.lean ====
section
/-! DEFINITION. The messages from the shelf (R118, R125, 11.7): what each delivered message does, one meaning per row, and the
opening of inbound blocks (R120). -/

namespace Sys2Proof.Machine

/-- A message is delivered for line `n`: in PASS it is ignored (R125), and in RECEIVING it restarts the block gap timer before
it acts (R127). -/
def deliver (n : Line) (act : State → State) (s : State) : State :=
  if s.rgw.state = .pass then s
  else act (if (s.line n).state = .receiving then restartTimer n s else s)

/-- A message row: the SLI delivers only while the link is up (R118). -/
def delivered (n : Line) (act : State → State) (s : State) : State := if s.linkUp then deliver n act s else s

/-- LINE_READY (R124). -/
def execLineReady (n : Line) (s : State) : Answer := .next (delivered n (onLineReady n) s)

/-- LINE_NOT_READY (R124). -/
def execLineNotReady (n : Line) (s : State) : Answer := .next (delivered n (onLineNotReady n) s)

/-- SEIZED (R128). -/
def execSeized (n : Line) (s : State) : Answer := .next (delivered n (onSeized n) s)

/-- ANSWERED (R129). -/
def execAnswered (n : Line) (s : State) : Answer := .next (delivered n (onAnswered n) s)

/-- BUSY (R128). -/
def execBusy (n : Line) (s : State) : Answer := .next (delivered n (onCallFailed n .busy) s)

/-- NO_ANSWER (R128). -/
def execNoAnswer (n : Line) (s : State) : Answer := .next (delivered n (onCallFailed n .noAnswer) s)

/-- NOT_FAX (R128). -/
def execNotFax (n : Line) (s : State) : Answer := .next (delivered n (onCallFailed n .notFax) s)

/-- RING (R138). -/
def execRing (n : Line) (called ident : List Byte) (s : State) : Answer := .next (delivered n (onRing n called ident) s)

/-- PARTIAL_OK (R132). -/
def execPartialOk (n : Line) (s : State) : Answer := .next (delivered n (onPartialOk n) s)

/-- REPEAT (R132). -/
def execRepeatBlocks (n : Line) (map : BitVec 64) (s : State) : Answer := .next (delivered n (onRepeat n map) s)

/-- PAGE_CONFIRMED (R133). -/
def execPageConfirmed (n : Line) (s : State) : Answer := .next (delivered n (onPageConfirmed n) s)

/-- PAGE_REJECTED (R133). -/
def execPageRejected (n : Line) (s : State) : Answer := .next (delivered n (onPageRejected n) s)

/-- RX_PAGE_BEGIN (R139). -/
def execRxPageBegin (n : Line) (cls res : Byte) (s : State) : Answer :=
  .next (delivered n (onRxPageBegin n cls.toNat res.toNat) s)

/-- RX_PARTIAL_END (R141). -/
def execRxPartialEnd (n : Line) (pp count endKind : Byte) (s : State) : Answer :=
  .next (delivered n (onRxPartialEnd n pp.toNat count.toNat endKind.toNat) s)

/-- REMOTE_CLEAR (R136); the cause that the shelf names is not used. -/
def execRemoteClear (n : Line) (_ : Byte) (s : State) : Answer := .next (delivered n (onRemoteClear n) s)

/-- CLEARED (R136). -/
def execCleared (n : Line) (s : State) : Answer := .next (delivered n (onCleared n) s)

/-! ## Messages as bytes -/

/-- The line of a line byte, 0 to 7. -/
def lineOf (b : Byte) : Option Line := if h : b.toNat < 8 then some ⟨b.toNat, h⟩ else none

/-- Byte `i` of a message. -/
def msgByte (m : List Byte) (i : Nat) : Byte := m.getD i 0

/-- The called digits and the identity of a RING, when its bytes hold them whole (11.7). -/
def ringFields (m : List Byte) : Option (List Byte × List Byte) :=
  let c := (msgByte m 3).toNat
  let k := (msgByte m (4 + c)).toNat
  if 5 + c + k ≤ m.length ∧ c ≤ 8 ∧ k ≤ 20 then some ((m.drop 4).take c, (m.drop (5 + c)).take k) else none

/-- The RX_BLOCK that a message's bytes hold: line, partial page, block and length (R118, R120). -/
def rxBlockFields (m : List Byte) : Option (Line × Nat × Nat × Nat) :=
  let len := leNat ((m.drop 5).take 2)
  match lineOf (msgByte m 2) with
  | none => none
  | some n =>
    if msgByte m 1 = 0x4D ∧ 7 ≤ m.length ∧ (msgByte m 4).toNat ≤ 63 ∧ 1 ≤ len ∧ len ≤ 256 then
      some (n, (msgByte m 3).toNat, (msgByte m 4).toNat, len)
    else none

/-- What a message of kind `kind` for line `n` does, when it is long enough for its layout (R118, 11.7). -/
def messageAct (m : List Byte) (n : Line) : Option (State → State) :=
  let long (k : Nat) (f : State → State) : Option (State → State) := if k ≤ m.length then some f else none
  match (msgByte m 1).toNat with
  | 0x40 => long 3 (onLineReady n)
  | 0x41 => long 3 (onLineNotReady n)
  | 0x42 => long 3 (onSeized n)
  | 0x43 => (ringFields m).map fun f => onRing n f.1 f.2
  | 0x44 => long 3 (onAnswered n)
  | 0x45 => long 3 (onCallFailed n .busy)
  | 0x46 => long 3 (onCallFailed n .noAnswer)
  | 0x47 => long 3 (onCallFailed n .notFax)
  | 0x48 => long 3 (onPartialOk n)
  | 0x49 => long 11 (onRepeat n (BitVec.ofNat 64 (leNat ((m.drop 3).take 8))))
  | 0x4A => long 3 (onPageConfirmed n)
  | 0x4B => long 3 (onPageRejected n)
  | 0x4C => long 5 (onRxPageBegin n (msgByte m 3).toNat (msgByte m 4).toNat)
  | 0x4D => (rxBlockFields m).map fun _ => id
  | 0x4E => long 6 (onRxPartialEnd n (msgByte m 3).toNat (msgByte m 4).toNat (msgByte m 5).toNat)
  | 0x4F => long 4 (onRemoteClear n)
  | 0x50 => long 3 (onCleared n)
  | _ => none

/-- Delivers a message to a line, when its contents pass the tests of R118. -/
def deliverTo (m : List Byte) (s : State) (n : Line) : State :=
  match messageAct m n with
  | none => s
  | some act => deliver n act s

/-- Delivers a checked message (R118): a line byte of FFh stands for every line in LINE_READY and LINE_NOT_READY. -/
def deliverMessage (m : List Byte) (s : State) : State :=
  if msgByte m 2 = 0xFF ∧ (msgByte m 1 = 0x40 ∨ msgByte m 1 = 0x41) then allLines.foldl (deliverTo m) s
  else
    match lineOf (msgByte m 2) with
    | none => s
    | some n => deliverTo m s n

/-! ## Inbound blocks (R120) -/

/-- The inbound buffer of line `n` is occupied, by a block that is COMPLETE or OCCUPIED (R120). -/
def State.bufferOccupied (s : State) (n : Nat) : Bool := (s.inLine n).occupied || (s.inLine n).complete

/-- The last byte of an RX_BLOCK has arrived: a block is opened on line `n`; one that is open there is judged bad (R120). -/
def openBlock (n pp b len : Nat) (failed : Bool) (s : State) : State :=
  let blk : InBlock :=
    { partialPage := pp, block := b, len := len, count := 0, overrun := s.bufferOccupied n, failed := failed,
      touched := true, bytes := [] }
  setInLine n { s.inLine n with opened := some blk } s

/-- RX_BLOCK (R120): a block number above 63 or a length outside 1 to 256 opens nothing. -/
def execRxBlock (n : Line) (pp blk : Byte) (len : BitVec 16) (s : State) : Answer :=
  .next (if s.linkUp ∧ blk.toNat ≤ 63 ∧ 1 ≤ len.toNat ∧ len.toNat ≤ 256 then
      openBlock n.val pp.toNat blk.toNat len.toNat false s
    else s)

end Sys2Proof.Machine
end

