-- ==== Sys2Proof/Machine/Link.lean ====
section
/-! DEFINITION. The Shelf Link Interface: the transmitter, frame and multiframe synchronisation, checking, counters, message
assembly and inbound block bytes (R104 to R121), and the time base (R175). -/

namespace Sys2Proof.Machine

/-- A counter that saturates at 65535 (R115). -/
def sat16 (v : Nat) : Nat := min v 65535

/-! ## Suspending and the link going up and down (R111, R112, R117, R119) -/

/-- Outbound sending stops: a cut message starts again from its first byte, and each announced block is dropped and ends
unsent (R117, R119), in line order (DESIGN CHOICE, log 43). -/
def suspendSending (s : State) : State :=
  let dropped := allLines.filter fun n => (Tab.get? s.sli.outBlocks n.val).any OutBlock.announced
  let s := { s with sli := { s.sli with txPos := 0, outBlocks := s.sli.outBlocks.filter fun e => !e.2.announced } }
  dropped.foldl (fun s n => blockFinished n s) s

/-- Posts LINK_STATE with the present state of the link (R111). -/
def postLinkState (s : State) : State := post .linkState .link 0 (bit s.linkUp) s.sli.losses s

/-- What follows the receiver leaving MF_SYNC (R111); frame and multiframe state have changed already. -/
def linkDown (s : State) : State :=
  let s := { s with sli := { s.sli with asm := .gap, asmLen := 0, asmBytes := [], asmFailed := false, items := [],
                                        mfEndDue := false, shelfHold := 0, farEndDue := true,
                                        lastChange := s.chg.seconds,
                                        inLines := s.sli.inLines.map fun e => (e.1, { e.2 with opened := none, complete := false }) } }
  writeLinkStatus (postLinkState (lneLinkDown (suspendSending s)))

/-- What follows the second marker: MF_SYNC is entered and the link goes up (R110, R111), with every inbound block state NONE
(R120). A block of which the store is still in progress in the LNE is stored on (DESIGN CHOICE, log 72). -/
def linkGoesUp (s : State) : State :=
  let s := { s with sli := { s.sli with mf := .mfSync, mfTimer := 0, rxFrameNo := 0, markMissed := false, rxCrc := 0,
                                        asm := .gap, asmLen := 0, asmBytes := [], asmFailed := false, items := [],
                                        mfEndDue := false, inLines := [], lastChange := s.chg.seconds } }
  writeLinkStatus (postLinkState (lneLinkUp s))

/-- Frame synchronisation is lost: the loss counter grows, the runs and the received remote alarm are cleared, and the frame
state becomes `st` (R107, R109, R110). -/
def frameLoss (st : FrameState) (s : State) : State :=
  let up := s.linkUp
  let s := { s with sli := { s.sli with losses := sat16 (s.sli.losses + 1), alignRun := 0, serviceRun := 0, rxAlarm := false,
                                        frame := st, searchFrom := none, syncIn := none, mf := .mfSearch, mfTimer := 0,
                                        evenMarks := [], markMissed := false } }
  if up then linkDown s else writeLinkStatus s

/-- The frame state after a loss by bad bytes (R107). -/
def State.lossState (s : State) : FrameState := if s.sli.autoResync then .hunt else .holdOff

/-! ## The transmitter (R104, R105, R114, R117, R119) -/

/-- The service byte (11.7). -/
def serviceByte (alarm : Bool) : Byte := if alarm then 0x7F else 0x3F

/-- A map of lines (11.7). -/
def lineMap (p : Line → Bool) : Byte := BitVec.ofNat 8 ((allLines.map fun n => if p n then 2 ^ n.val else 0).sum)

/-- The block of line `n` carries a byte in the frame now sent (R119). -/
def State.sendsByte (s : State) (n : Line) : Bool :=
  match Tab.get? s.sli.outBlocks n.val with
  | none => false
  | some b => s.sending && b.announced && !s.sli.shelfHold.getLsbD n.val

/-- The byte in line `n`'s data slot (R104). -/
def State.dataSlot (s : State) (n : Line) : Byte :=
  match Tab.get? s.sli.outBlocks n.val with
  | none => 0
  | some b => if s.sendsByte n then b.bytes.getD b.sent 0 else 0

/-- The byte in the message slot (R117). -/
def State.messageSlot (s : State) : Byte :=
  match s.sli.queue with
  | [] => 0
  | m :: _ => if s.sending then m.bytes.getD s.sli.txPos 0 else 0

/-- Slots 1 to 11 of the frame now sent (R104). -/
def State.txSlots (s : State) : List Byte :=
  allLines.map s.dataSlot ++ [s.messageSlot, lineMap s.sendsByte, lineMap fun n => s.bufferOccupied n.val]

/-- Slot 12 of frame `f`, after the CRC register `crc` (R104, R114). -/
def txMark (f : Nat) (far : Bool) (crc : Byte) : Byte :=
  if f = 0 then 0x7E else if f = 1 then (if far then 0xFF else 0x00) else if f = 15 then crc else 0xFF

/-- The message slot's byte has gone out: the front message leaves the queue with its last byte, and the block that follows it
may then be sent (R117, R119). -/
def messageSent (s : State) : State :=
  match s.sli.queue with
  | [] => s
  | m :: ms =>
    if !s.sending then s
    else if s.sli.txPos + 1 < m.bytes.length then { s with sli := { s.sli with txPos := s.sli.txPos + 1 } }
    else
      let s := { s with sli := { s.sli with txPos := 0, queue := ms } }
      match m.blockOf with
      | none => s
      | some n =>
        match Tab.get? s.sli.outBlocks n with
        | none => s
        | some b => { s with sli := { s.sli with outBlocks := Tab.set s.sli.outBlocks n { b with announced := true } } }

/-- The byte of line `n`'s block has gone out; with its last byte the block is finished (R119). -/
def blockByteSent (s : State) (n : Line) : State :=
  match Tab.get? s.sli.outBlocks n.val with
  | none => s
  | some b =>
    if b.sent + 1 < b.bytes.length then
      { s with sli := { s.sli with outBlocks := Tab.set s.sli.outBlocks n.val { b with sent := b.sent + 1 } } }
    else blockFinished n { s with sli := { s.sli with outBlocks := Tab.erase s.sli.outBlocks n.val } }

/-- The transmit data output over the frame last sent: its bytes in slot order, each most significant bit first (R193); before
the transmitter runs the data is held at one (R104). -/
def State.txData (s : State) : List Bool :=
  if s.sli.txRunning then s.sli.txLast.flatMap bitsMsb else List.replicate 104 true

/-- The SLI sends one frame (R104); its bits go out as State.txData gives them. Blocks that end in the frame are reported in
line order, after the message slot's byte (DESIGN CHOICE, log 43). -/
def txFrame (s : State) : State :=
  let f := s.sli.txFrameNo
  let slot0 : Byte := if f % 2 = 0 then 0xE4 else serviceByte s.sentAlarm
  let body := s.txSlots
  let crc := crc8 (if f = 0 then 0 else s.sli.txCrc) body
  let mark := txMark f s.sli.farEndDue crc
  let lines := allLines.filter s.sendsByte
  let s1 := { s with sli := { s.sli with txFrameNo := (f + 1) % 16, txCrc := if f = 15 then 0 else crc8 crc [mark],
                                         txLast := slot0 :: body ++ [mark],
                                         farEndDue := if f = 1 then !s.linkUp else s.sli.farEndDue } }
  let s2 := lines.foldl blockByteSent (messageSent s1)
  if f = 15 then writeLinkStatus s2 else s2

/-- TX_FRAME (R104): the transmitter runs once DRAM initialisation has ended. -/
def execTxFrame (s : State) : Answer := .next (if s.phase = .up ∧ s.sli.txRunning then txFrame s else s)

/-! ## Frame synchronisation (R106, R107) -/

/-- The zero flag of a service byte is 0 (11.7). -/
def zeroFlagClear (b : Byte) : Bool := !b.getLsbD 7

/-- The remote alarm flag of a service byte (11.7). -/
def remoteAlarm (b : Byte) : Bool := b.getLsbD 6

/-- ALIGNMENT_BYTE_FOUND (R106); the receiver searches from the end of DRAM initialisation on (DESIGN CHOICE, log 50). -/
def execAlignmentByteFound (p : Nat) (s : State) : Answer :=
  .next (if s.phase = .up ∧ s.sli.frame = .hunt ∧ p < 104 then
      writeLinkStatus
        { s with sli := { s.sli with frame := .checkService, position := p, searchFrom := none, syncIn := none } }
    else s)

/-- A check of R106 has failed: the search goes on one bit after the position taken. -/
def checkFailed (s : State) : State :=
  writeLinkStatus
    { s with sli := { s.sli with frame := .hunt, searchFrom := some ((s.sli.position + 1) % 104), syncIn := none } }

/-- Slot 0 of an even frame in SYNC (R107). -/
def evenSlot0 (b : Byte) (s : State) : State :=
  if b = 0xE4 then { s with sli := { s.sli with alignRun := 0 } }
  else
    let s := { s with sli := { s.sli with alignErrors := sat16 (s.sli.alignErrors + 1), alignRun := s.sli.alignRun + 1 } }
    if s.sli.lossCount ≤ s.sli.alignRun then frameLoss s.lossState s else s

/-- Slot 0 of an odd frame in SYNC (R107, R112). -/
def oddSlot0 (b : Byte) (s : State) : State :=
  if zeroFlagClear b then
    let s' := { s with sli := { s.sli with serviceRun := 0, rxAlarm := remoteAlarm b } }
    if s.linkUp && !s.sli.rxAlarm && remoteAlarm b then suspendSending s' else s'
  else if s.sli.serviceCheck then
    let s := { s with sli := { s.sli with serviceRun := s.sli.serviceRun + 1 } }
    if s.sli.lossCount ≤ s.sli.serviceRun then frameLoss s.lossState s else s
  else s

/-! ## Message assembly and block bytes (R118, R120) -/

/-- A block byte for line `n`; with its last byte the block is COMPLETE and the buffer counts as occupied, whatever its marks
(R120). -/
def blockByte (s : State) (n : Line) (b : Byte) : State :=
  let l := s.inLine n.val
  match l.opened with
  | none => s
  | some blk =>
    let blk := { blk with count := blk.count + 1, touched := true,
                          bytes := if blk.overrun then blk.bytes else blk.bytes ++ [b] }
    if blk.count < blk.len then setInLine n.val { l with opened := some blk } s
    else
      setInLine n.val { l with opened := none, complete := true } { s with sli := { s.sli with items := s.sli.items ++ [.block n.val blk] } }

/-- A message is complete; an RX_BLOCK opens its block at once (R118, R120). -/
def messageComplete (m : List Byte) (failed : Bool) (s : State) : State :=
  let s := { s with sli := { s.sli with asm := .gap, asmLen := 0, asmBytes := [], asmFailed := false,
                                        items := s.sli.items ++ [.message m failed] } }
  match rxBlockFields m with
  | none => s
  | some (n, pp, b, len) => openBlock n.val pp b len failed s

/-- A byte of the message channel (R118). -/
def messageByte (b : Byte) (s : State) : State :=
  match s.sli.asm with
  | .gap =>
    if b = 0 then s
    else if 3 ≤ b.toNat ∧ b.toNat ≤ 40 then
      { s with sli := { s.sli with asm := .inMessage, asmLen := b.toNat, asmBytes := [b], asmFailed := false } }
    else { s with sli := { s.sli with asm := .skip } }
  | .skip => if b = 0 then { s with sli := { s.sli with asm := .gap } } else s
  | .inMessage =>
    let m := s.sli.asmBytes ++ [b]
    if m.length < s.sli.asmLen then { s with sli := { s.sli with asmBytes := m } }
    else messageComplete m s.sli.asmFailed s

/-! ## The end of a multiframe (R113) -/

/-- A complete block is judged (R120). -/
def judgeBlock (n : Nat) (b : InBlock) (s : State) : State :=
  if h : n < 8 then
    if b.failed ∨ b.overrun then s
    else goodBlock ⟨n, h⟩ b.partialPage b.block b.bytes (setInLine n { s.inLine n with occupied := true } s)
  else s

/-- A message or a block of a multiframe that checked good. -/
def takeItem (s : State) (i : RxItem) : State :=
  match i with
  | .message m failed => if failed then s else deliverMessage m s
  | .block n b => judgeBlock n b s

/-- A line's inbound blocks at a multiframe's check: an open block with a byte in a failed one is marked, and a COMPLETE block
takes its judgement, which leaves the buffer to a good block alone (R120). -/
def closeLine (failed : Bool) (l : InLine) : InLine :=
  { l with complete := false,
           opened := l.opened.map fun b => { b with failed := b.failed || (failed && b.touched), touched := false } }

/-- The check is over: nothing waits for it any more, and the open blocks take its marks (R113). -/
def closeCheck (failed : Bool) (s : State) : State :=
  { s with sli := { s.sli with mfEndDue := false, items := [], rxCrc := 0,
                               inLines := s.sli.inLines.map fun e => (e.1, closeLine failed e.2) } }

/-- The check of a multiframe matches (R113). -/
def checkMatches (s : State) : State :=
  let far := if s.sli.rxReport = 0xFF then sat16 (s.sli.farEndErrors + 1) else s.sli.farEndErrors
  let s1 := closeCheck false s
  s.sli.items.foldl takeItem { s1 with sli := { s1.sli with farEndErrors := far } }

/-- The check of a multiframe fails (R113). -/
def checkFails (s : State) : State :=
  let s1 := closeCheck true s
  { s1 with sli := { s1.sli with crcErrors := sat16 (s.sli.crcErrors + 1), farEndDue := true,
                                 asmFailed := s.sli.asmFailed || s.sli.asm == .inMessage } }

/-- RX_MULTIFRAME_END (R113): the check of a multiframe that has been received whole. -/
def multiframeEnd (s : State) : State :=
  if s.sli.mfEndDue then
    if s.sli.rxCrc = s.sli.rxCrcByte then checkMatches s else checkFails s
  else s

/-- RX_MULTIFRAME_END. -/
def execRxMultiframeEnd (s : State) : Answer := .next (multiframeEnd s)

/-! ## A received frame (R106 to R113) -/

/-- Slots 1 to 12 of a frame in MF_SYNC (R110 to R113, R118 to R120). Blocks whose last bytes lie in one frame are judged in
line order (DESIGN CHOICE, log 43). -/
def mfContents (slots : List Byte) (s : State) : State :=
  let slot (i : Nat) : Byte := slots.getD i 0
  let f := s.sli.rxFrameNo
  let body := (slots.drop 1).take (if f = 15 then 11 else 12)
  let s := { s with sli := { s.sli with rxCrc := crc8 (if f = 0 then 0 else s.sli.rxCrc) body,
                                        rxCrcByte := if f = 15 then slot 12 else s.sli.rxCrcByte,
                                        rxReport := if f = 1 then slot 12 else s.sli.rxReport,
                                        shelfHold := slot 11 } }
  let s := (allLines.filter fun n => (slot 10).getLsbD n.val).foldl (fun s n => blockByte s n (slot (n.val + 1))) s
  let s := messageByte (slot 9) s
  { s with sli := { s.sli with rxFrameNo := (f + 1) % 16, mfEndDue := decide (f = 15) } }

/-- The multiframe state leaves MF_SYNC for MF_SEARCH within SYNC, and its timer starts (R110). -/
def mfLost (s : State) : State :=
  linkDown { s with sli := { s.sli with mf := .mfSearch, mfTimer := 128, markMissed := false } }

/-- The slot 12 of an even frame joins the marker history. -/
def noteMark (mark : Bool) (s : State) : State :=
  { s with sli := { s.sli with evenMarks := (mark :: s.sli.evenMarks).take 8 } }

/-- The multiframe level of a frame in SYNC (R110). -/
def mfFrame (slots : List Byte) (odd : Bool) (s : State) : State :=
  let mark := slots.getD 12 0 == 0x7E
  match s.sli.mf with
  | .mfSearch =>
    let s := { s with sli := { s.sli with mfTimer := s.sli.mfTimer - 1 } }
    if odd then s
    else if mark && s.sli.evenMarks.getD 7 false then mfContents slots (linkGoesUp (noteMark mark s))
    else noteMark mark s
  | .mfSync =>
    let first := s.sli.rxFrameNo == 0
    let s' := if odd then s else noteMark mark s
    if first && !mark && s.sli.markMissed then mfLost s'
    else mfContents slots (if first then { s' with sli := { s'.sli with markMissed := !mark } } else s')

/-- A frame in SYNC (R107, R110). A multiframe whose check is still due is checked first. -/
def syncFrame (slots : List Byte) (s : State) : State :=
  let s := multiframeEnd s
  let odd := s.sli.rxOdd
  let s := { s with sli := { s.sli with rxOdd := !odd } }
  let s := if odd then oddSlot0 (slots.getD 0 0) s else evenSlot0 (slots.getD 0 0) s
  if s.sli.frame = .sync then mfFrame slots odd s else s

/-- SYNC is entered at the start of an even frame (R106, R110). -/
def enterSync (s : State) : State :=
  writeLinkStatus
    { s with sli := { s.sli with frame := .sync, syncIn := none, rxOdd := false, alignRun := 0, serviceRun := 0,
                                 rxAlarm := false, mf := .mfSearch, mfTimer := 128, evenMarks := [], mfEndDue := false } }

/-- A frame at the position the receiver holds (R106, R107). -/
def rxFrame (slots : List Byte) (s : State) : State :=
  match s.sli.frame with
  | .hunt | .holdOff => s
  | .checkService =>
    if zeroFlagClear (slots.getD 0 0) then
      writeLinkStatus { s with sli := { s.sli with frame := .checkAlign, syncIn := none } }
    else checkFailed s
  | .checkAlign =>
    match s.sli.syncIn with
    | none => if slots.getD 0 0 = 0xE4 then { s with sli := { s.sli with syncIn := some 1 } } else checkFailed s
    | some 0 => syncFrame slots (enterSync s)
    | some (k + 1) => { s with sli := { s.sli with syncIn := some k } }
  | .sync => syncFrame slots s

/-- RX_FRAME (R107): a frame of thirteen slots arrives while the receiver runs, which it does from the end of DRAM
initialisation on (DESIGN CHOICE, log 50). -/
def execRxFrame (slots : List Byte) (s : State) : Answer :=
  .next (if s.phase = .up ∧ slots.length = 13 then rxFrame slots s else s)

/-- MF_SEARCH_TIMER_EXPIRY (R110). -/
def execMfSearchTimerExpiry (s : State) : Answer :=
  .next (if s.sli.frame = .sync ∧ s.sli.mf = .mfSearch ∧ s.sli.mfTimer = 0 then frameLoss .hunt s else s)

/-! ## Commands of the SLI -/

/-- LINK_SETUP (R108). -/
def linkSetup (sl : Slot) (s : State) : State × Reply :=
  let lc := clampNat 3 4 (sl.num 0)
  let service := sl.orKept 1 (sl.num 1 == 1) s.sli.serviceCheck
  if sl.has 1 ∧ 1 < sl.num 1 then (s, Reply.path .range 1)
  else if sl.has 2 ∧ 1 < sl.num 2 then (s, Reply.path .range 2)
  else
    ({ s with sli := { s.sli with lossCount := sl.orKept 0 lc s.sli.lossCount, serviceCheck := service,
                                  serviceRun := if service = s.sli.serviceCheck then s.sli.serviceRun else 0,
                                  autoResync := sl.orKept 2 (sl.num 2 == 1) s.sli.autoResync } },
      Reply.doneZero (firstClamped (sl.supplied [(0, sl.num 0, lc)])) .link 0)

/-- LINK_SETUP. -/
def execLinkSetup (s : State) : Answer := .next (take 0x30 0 linkSetup s)

/-- LINK_RESYNC (R109). -/
def linkResync (_ : Slot) (s : State) : State × Reply :=
  let r : Reply := ⟨.done, .link, 0, s.sli.frame.code⟩
  match s.sli.frame with
  | .sync => (frameLoss .hunt s, r)
  | .hunt => ({ s with sli := { s.sli with searchFrom := none } }, r)
  | .checkService | .checkAlign | .holdOff =>
    (writeLinkStatus { s with sli := { s.sli with frame := .hunt, searchFrom := none, syncIn := none } }, r)

/-- LINK_RESYNC. -/
def execLinkResync (s : State) : Answer := .next (take 0x31 0 linkResync s)

/-- CLEAR_LINK_COUNTERS (R115). -/
def clearLinkCounters (_ : Slot) (s : State) : State × Reply :=
  (writeLinkStatus { s with sli := { s.sli with alignErrors := 0, crcErrors := 0, farEndErrors := 0, losses := 0 } },
    ⟨.done, .link, 0, s.sli.crcErrors⟩)

/-- CLEAR_LINK_COUNTERS. -/
def execClearLinkCounters (s : State) : Answer := .next (take 0x32 0 clearLinkCounters s)

/-! ## The time base (R175) -/

/-- The length of a tenth in CLK32 cycles (R175). -/
def tenthLength (t : Nat) : Nat := if t < 8 then 3277 else 3276

/-- One tenth for the session timers and the grace: timers stand while the grace runs (R127, R143). -/
def tickTimers (s : State) : State :=
  match s.lne.grace with
  | some g => { s with lne := { s.lne with grace := some (g - 1) } }
  | none =>
    { s with lne := { s.lne with lines := s.lne.lines.map fun e =>
        (e.1, if e.2.timer.isSome then { e.2 with remaining := e.2.remaining - 1 } else e.2) } }

/-- One tenth for the connected time of every answered call (R187), which counts without a limit (DESIGN CHOICE, log 59). -/
def tickCalls (s : State) : State :=
  { s with chg := { s.chg with calls := s.chg.calls.map fun e =>
      (e.1, if e.2.answered then { e.2 with connected := e.2.connected + 1 } else e.2) } }

/-- The seconds count has advanced: the DJU looks for destinations whose next-try time has come (R101, R175). -/
def secondPassed (s : State) : State :=
  if s.dju.dests.any fun e => e.2.state == .retryWait && decide (e.2.nextTry ≤ (s.chg.seconds : Int)) then occasion s
  else s

/-- A tenth ends (R175). -/
def tenthEnds (s : State) : State :=
  let s := tickCalls (tickTimers s)
  let t := (s.chg.tenths + 1) % 10
  let s := { s with chg := { s.chg with tenths := t, tenthCycles := tenthLength t } }
  if t = 0 then secondPassed { s with chg := { s.chg with seconds := (s.chg.seconds + 1) % 4294967296 } } else s

/-- TIME_BASE_TENTH (R175): the time base runs once DRAM initialisation has ended. -/
def execTimeBaseTenth (s : State) : Answer := .next (if s.phase = .up then tenthEnds s else s)

/-- TIME_BASE_SECOND (R175): the tenth that ends the second, when tenth 9 is running. -/
def execTimeBaseSecond (s : State) : Answer := .next (if s.phase = .up ∧ s.chg.tenths = 9 then tenthEnds s else s)

end Sys2Proof.Machine
end

