-- ==== Sys2Proof/Machine/Service.lean ====
section
/-! DEFINITION. Entering and leaving service: the anchor and its checks, RUN entry with adoption, withdraw, reset and power
(R3 to R10, R17, R18, R21 and the tables of values after reset). -/

namespace Sys2Proof.Machine

/-! ## The anchor (R6 to R8) -/

/-- The keep-tables flag (Table 11-1). -/
def keepFlag (b : Byte) : Bool := if b = 0 then false else if b = 1 then true else Config.keepFlagReading b

/-- The anchor as it stands in DRAM, with the hold limits clamped (R6, Table 11-1). -/
def readAnchor (m : Mem) : Anchor :=
  { format := Mem.num m 0x00 1, keep := keepFlag (Mem.get m 0x01), cmdBase := Mem.num m 0x04 4,
    slotCount := Mem.num m 0x08 2, recCount := Mem.num m 0x0A 2, evBase := Mem.num m 0x0C 4, rawBase := Mem.num m 0x10 4,
    rawSize := Mem.num m 0x14 4, prnBase := Mem.num m 0x18 4, prnSize := Mem.num m 0x1C 4, porBase := Mem.num m 0x20 4,
    porSize := Mem.num m 0x24 4, segCount := Mem.num m 0x28 4, scanHold := clampNat 10 1000 (Mem.num m 0x2C 2),
    printHold := clampNat 10 1000 (Mem.num m 0x2E 2) }

/-- The five regions, each with its base and size (R7). -/
def Anchor.regions (a : Anchor) : List (Nat × Nat) :=
  [(a.cmdBase, (a.slotCount + 1) * 64), (a.evBase, 64 + 16 * a.recCount), (a.rawBase, a.rawSize), (a.prnBase, a.prnSize),
   (a.porBase, a.porSize)]

/-- Two regions share no byte. -/
def apart (r q : Nat × Nat) : Bool := decide (r.1 + r.2 ≤ q.1) || decide (q.1 + q.2 ≤ r.1)

/-- No two regions of the list share a byte. -/
def allApart : List (Nat × Nat) → Bool
  | [] => true
  | r :: rs => rs.all (apart r) && allApart rs

/-- Check 1 of R7. -/
def Anchor.formatOk (a : Anchor) : Bool :=
  a.format == 1 && [16, 32, 64, 128, 256].contains a.slotCount && [64, 128, 256, 512, 1024].contains a.recCount
    && decide (256 ≤ a.segCount) && decide (a.segCount ≤ 32768) && a.rawSize != 0 && a.prnSize != 0 && a.porSize != 0

/-- Check 2 of R7. -/
def Anchor.alignedOk (a : Anchor) : Bool :=
  [a.cmdBase, a.evBase, a.rawBase, a.prnBase, a.porBase, a.rawSize, a.prnSize, a.porSize].all fun v => v % 64 == 0

/-- Check 3 of R7. -/
def Anchor.insideOk (a : Anchor) (window : Nat) : Bool := a.regions.all fun r => decide (r.1 + r.2 ≤ window)

/-- Check 4 of R7. -/
def Anchor.apartOk (a : Anchor) : Bool := allApart ((0, 64) :: a.regions)

/-- Check 5 of R7. -/
def Anchor.porOk (a : Anchor) : Bool := decide (1048576 + 1024 * a.segCount ≤ a.porSize)

/-- Check 6 of R7. -/
def Anchor.tablesOk (a : Anchor) (m : Mem) : Bool :=
  !a.keep || (decide (Mem.num m (a.porBase + 0x2B820) 1 ≤ 64) && decide (Mem.num m (a.porBase + 0x34840) 2 ≤ 256)
    && decide (Mem.num m (a.porBase + 0x34802) 2 ≤ 4096))

/-- The first check of R7 that fails, with its number and code. -/
def Anchor.fault (a : Anchor) (window : Nat) (m : Mem) : Option (Nat × Status) :=
  if !a.formatOk then some (1, .badFormat)
  else if !a.alignedOk then some (2, .misaligned)
  else if !a.insideOk window then some (3, .outsideWindow)
  else if !a.apartOk then some (4, .overlap)
  else if !a.porOk then some (5, .porTooSmall)
  else if !a.tablesOk m then some (6, .tableInvalid)
  else Option.none

/-- The anchor is copied and validated (R6, R7). -/
def commitAnchor (s : State) : State :=
  let a := readAnchor s.dram
  let s := writeStatus .checking 0 s
  match a.fault s.windowBytes s.dram with
  | some (k, st) => writeStatus st k { s with rgw := { s.rgw with copy := none, noted := false } }
  | none => { s with rgw := { s.rgw with copy := some a, validating := true } }

/-! ## Adopted tables (R156, R192) -/

/-- A count that an adopted table may hold; one above the maximum is open (R7, R9, log 11). -/
def adopted (most c : Nat) : Nat := if c ≤ most then c else min most (Config.adoptedCount c)

/-- The route record at offset `a` as it is read (R156). -/
def readRoute (m : Mem) (a : Nat) : Route :=
  { digitCount := Mem.num m a 1, digits := Mem.bytes m (a + 1) 8, desk := min 31 (Mem.num m (a + 9) 1),
    tray := min 3 (Mem.num m (a + 10) 1), copies := min 9 (Mem.num m (a + 11) 1), printClass := Mem.num m (a + 12) 1 % 2,
    filter := (Mem.get m (a + 13)).getLsbD 0, autoDelete := (Mem.get m (a + 13)).getLsbD 1 }

/-- The reception tables that stand at POR base `por` (R156). -/
def readRxr (m : Mem) (por : Nat) : Rxr :=
  { routes := (List.range (adopted 64 (Mem.num m (por + 0x2B820) 1))).map fun i => readRoute m (por + 0x2B000 + 32 * i),
    bins := BitVec.ofNat 256 (Mem.num m (por + 0x2B800) 32),
    defaultRoute := { readRoute m (por + 0x2B840) with digitCount := 0, digits := [] } }

/-- The prefix record at offset `a` as it is read (R192). -/
def readPrefix (m : Mem) (a : Nat) : TariffPrefix :=
  { count := Mem.num m a 1, chars := Mem.bytes m (a + 1) 12, zone := min 31 (Mem.num m (a + 13) 1) }

/-- The rate record at offset `a` as it is read (R192). -/
def readRate (m : Mem) (a : Nat) : Rate :=
  let f (i : Nat) := Mem.num m (a + 2 * i) 2
  { setUp := f 0, period := clampNat 1 36000 (f 1), n1 := f 2, n2 := max (f 2) (f 3), a1 := f 4, a2 := f 5, a3 := f 6 }

/-- The account record at offset `a` as it is read (R192, R193). -/
def readAccount (m : Mem) (a : Nat) : Account :=
  { state := accountStateOf (Mem.num m a 1), limit := if Mem.get m (a + 1) = 0 then some (Mem.num m (a + 4) 4) else none,
    spent := Mem.num m (a + 8) 4, reserved := 0, calls := Mem.num m (a + 0x18) 4,
    secondsPerPage := clampNat 10 600 (Mem.num m (a + 0x1C) 2), armed := true }

/-- The charge tables that stand at POR base `por`, with the time base of `c` (R192). -/
def readChg (m : Mem) (por : Nat) (c : Chg) : Chg :=
  let inUse := adopted 4096 (Mem.num m (por + 0x34802) 2)
  { c with
      bands := (List.range 168).map fun h => (h, min 3 (Mem.num m (por + 0x34000 + h) 1)),
      prefixes := (List.range (adopted 256 (Mem.num m (por + 0x34840) 2))).map fun i => readPrefix m (por + 0x35000 + 32 * i),
      rates := (List.range 128).map fun i => (i, readRate m (por + 0x37000 + 16 * i)),
      accounts := (List.range 64).map fun i => (i, readAccount m (por + 0x38000 + 64 * i)),
      logOldest := Mem.num m (por + 0x34800) 2 % 4096, logInUse := inUse, logNext := max 1 (Mem.num m (por + 0x34804) 4),
      logReserved := 0, nearArmed := decide (inUse < 3840), calls := [] }

/-- The charge tables as RUN entry sets them empty, with the time base of `c` (R192). -/
def emptyChg (c : Chg) : Chg :=
  { Chg.reset with seconds := c.seconds, tenths := c.tenths, tenthCycles := c.tenthCycles, clockSet := c.clockSet,
                   weekOffset := c.weekOffset }

/-! ## RUN entry (R9) -/

/-- Writes the adoptable tables as they are set empty: default route, rates, accounts and log state (R156, R192). -/
def writeEmptyTables (s : State) : State :=
  let s := (s.clear (s.por 0x2B000) 0x1000).clear (s.por 0x34000) 0x5000
  let s := putDefaultRoute Route.default s
  let s := (List.range 128).foldl (fun s i => s.store (s.por (0x37000 + 16 * i)) Rate.empty.bytes) s
  let s := (List.range 64).foldl (fun s i => s.store (s.por (0x38000 + 64 * i)) Account.empty.bytes) s
  putLogState 0 0 1 s

/-- Clears the tables that every RUN entry sets empty: pages, jobs and destinations, print queue and documents (R9). -/
def clearTables (s : State) : State :=
  (((s.clear (s.por 0x1000) 0x10000).clear (s.por 0x19000) 0x12000).clear (s.por 0x2C000) 0x8000).clear (s.por 0x89000) 0x20000

/-- The free-segment stack as RUN entry fills it: entry 0 is the highest segment (R68). -/
def stackBytes (n : Nat) : List Byte := (List.range n).flatMap fun i => le 2 (n - 1 - i)

/-- The SLI at RUN entry (R121). -/
def Sli.runEntry (l : Sli) : Sli :=
  { l with queue := [], txPos := 0, handings := [], outBlocks := [], asm := .gap, asmLen := 0, asmBytes := [],
           asmFailed := false, inLines := [], lossCount := 4, serviceCheck := false, autoResync := true, alignErrors := 0,
           crcErrors := 0, farEndErrors := 0, losses := 0,
           items := l.items.filter fun i => match i with | .message _ _ => true | .block _ _ => false }

/-- Every block's RUN-entry values (R9, R21, R37, R59, R81, R103, R121, R145, R157, R174, R192). -/
def runEntryValues (s : State) : State :=
  let a := s.cfg
  { s with
      rgw := { Rgw.reset with state := .run, copy := some a, noted := s.rgw.noted },
      mad := { s.mad with urgent := false },
      ceu := Ceu.reset,
      scn := Scn.reset,
      psm := { Psm.reset with stack := List.range a.segCount },
      dju := Dju.reset,
      sli := s.sli.runEntry,
      lne := Lne.reset,
      rxr := if a.keep then readRxr s.dram a.porBase else Rxr.reset,
      prn := Prn.reset,
      chg := if a.keep then readChg s.dram a.porBase s.chg else emptyChg s.chg }

/-- Writes the tables and records of RUN entry (R9, R37, R68, R116, R145); adopted tables keep their bytes (R192). -/
def runEntryWrites (s : State) : State :=
  let s := clearTables s
  let s := if s.cfg.keep then s else writeEmptyTables s
  let s := s.store (s.por 0x79000) (stackBytes s.cfg.segCount)
  let s := writeLinkStatus (writePathStatus s)
  let s := allLines.foldl (fun s n => writeLine n s) s
  (s.store (s.cfg.cmdBase + 4) (le 4 0)).store (s.cfg.evBase + 4) (le 4 0)

/-- ANCHOR_ACCEPTED and the events that follow it (R9, R111, R192). -/
def announce (s : State) : State :=
  let s := post .anchorAccepted .path 0 0 s.windowMiB (writeStatus .accepted 0 s)
  let s := postLinkState { s with ceu := { s.ceu with accepted := true } }
  if s.chg.nearArmed then s else post .logNearFull .log s.chg.logOldest 0 s.chg.logInUse s

/-! ## Withdraw (R17, R18, R144) -/

/-- A withdraw starts (R17). -/
def startWithdraw (s : State) : State :=
  let s := { s with rgw := { s.rgw with state := .withdrawing, noted := false } }
  let s := cutScan s
  let s := { s with scn := { s.scn with sealedCount := 0, lastSealed := none, extraPosted := false } }
  post .withdrawn .path 0 0 0 (withdrawLines (discardJobs (withdrawPrint s)))

/-- RUN_ENTRY (R9): a validation has passed; a noted withdraw request is taken once ANCHOR_ACCEPTED stands (R10). -/
def runEntry (s : State) : State :=
  let s := announce (runEntryWrites (runEntryValues s))
  if s.rgw.noted then startWithdraw s else s

/-- RUN_ENTRY. -/
def execRunEntry (s : State) : Answer := .next (if s.rgw.validating then runEntry s else s)

/-- The SLI at the entry to PASS (R121). -/
def Sli.toPass (l : Sli) : Sli :=
  { l with queue := [], txPos := 0, handings := [], outBlocks := [], asm := .gap, asmLen := 0, asmBytes := [],
           asmFailed := false, inLines := [],
           items := l.items.filter fun i => match i with | .message _ _ => true | .block _ _ => false }

/-- The withdraw ends (R18, R21, R37, R121, R174). The active print profile, the slot geometry, F, Rd, f and the slot records
go here, and not at the start of the withdraw, between which R174 leaves the choice open (DESIGN CHOICE, log 63). -/
def endWithdraw (s : State) : State :=
  let s := writeStatus .withdrawn 0 s
  { s with
      ceu := { s.ceu with attn := false, tail := 0, queue := [], discard := 0, accepted := false, withdrawnHeld := none,
                          withdrawnWritten := false },
      rgw := { s.rgw with state := .pass, copy := none, noted := false, printGeom := none },
      sli := s.sli.toPass,
      dju := { s.dju with passDue := false },
      prn := { s.prn with active := none, fill := 0, read := 0, slots := [] } }

/-- WITHDRAW_END (R18): WITHDRAWN stands in the event ring. -/
def execWithdrawEnd (s : State) : Answer :=
  .next (if s.rgw.state = .withdrawing ∧ s.ceu.withdrawnWritten then endWithdraw s else s)

/-! ## Commit writes (R6, R10) -/

/-- The commit word has been written (R6, R10). -/
def commitWritten (s : State) : State :=
  let w := Mem.num s.dram 0x3C 4
  match s.rgw.state with
  | .pass =>
    if s.rgw.validating then
      if w = 0 then { s with rgw := { s.rgw with noted := true } } else s
    else if w = 1 then commitAnchor s
    else s
  | .run =>
    if w = 0 then
      if s.ceu.accepted then startWithdraw s else { s with rgw := { s.rgw with noted := true } }
    else s
  | .withdrawing => s

end Sys2Proof.Machine
end

