-- ==== Sys2Proof/Machine/Path.lean ====
section
/-! DEFINITION. The memory path: what the SMP and the RGW do with each access, the watched words, and the rows of power, RESETn
and the bus (R1 to R5, R11 to R16, R23, R33). -/

namespace Sys2Proof.Machine

/-! ## Watched words of the two rings (R23, R33) -/

/-- Posts RING_INDEX_BAD for the command ring (0) or the event ring (1). R23 and R33 give no code, and the model writes 0
(DESIGN CHOICE, log 40). -/
def postIndexBad (ring value : Nat) (s : State) : State := post .ringIndexBad .path ring 0 value s

/-- The command ring tail word has been written in RUN (R23). -/
def tailWritten (v : Nat) (s : State) : State :=
  if v < s.cfg.slotCount then { s with ceu := { s.ceu with tail := v } } else postIndexBad 0 v s

/-- The event ring head word has been written (R33, R34). -/
def headWritten (v : Nat) (s : State) : State :=
  let n := s.cfg.recCount
  if n ≤ v ∨ s.unread < (v + n - s.ceu.evHead) % n then postIndexBad 1 v s
  else if v = s.ceu.evHead then s
  else
    serveQueue { s with ceu := { s.ceu with evHead := v, attn := if v = s.ceu.evTail then false else s.ceu.attn } }

/-! ## Classes of words (R11, R12) -/

/-- The word at `off` is part-owned (R11). -/
def State.partOwned (s : State) (off : Nat) : Bool :=
  decide (off < 0x3C) || off == s.cfg.cmdBase + 4 || off == s.cfg.evBase + 4
    || (decide (s.cfg.porBase ≤ off) && decide (off < s.cfg.porBase + s.cfg.porSize))

/-- A write to part-owned memory is dropped (R12). -/
def dropWrite (off : Nat) (s : State) : State :=
  let count := min (s.rgw.droppedCount + 1) 65535
  let s' := writePathStatus { s with rgw := { s.rgw with droppedCount := count, lastDropped := some off } }
  if s.rgw.droppedCount = 0 then post .protectedWrite .path 0 0 off s' else s'

/-- A write inside the window in RUN or WITHDRAWING (R11, R14, R16). -/
def regionWrite (a : BusAccess) (s : State) : State :=
  if a.off = 0x3C then commitWritten (storeAccess a s)
  else if s.partOwned a.off then dropWrite a.off s
  else if a.off = s.cfg.cmdBase ∧ s.isRun then
    let s := storeAccess a s
    tailWritten (Mem.num s.dram a.off 4) s
  else if a.off = s.cfg.evBase then
    let s := storeAccess a s
    headWritten (Mem.num s.dram a.off 4) s
  else
    match s.lapping a.off with
    | some j => { s with smp := { s.smp with held := some ⟨a, .scan j, s.cfg.scanHold⟩ } }
    | none => passWrite a s

/-- A write inside the window (R5, R11). -/
def windowWrite (a : BusAccess) (s : State) : State :=
  if s.rgw.state = .pass then
    let s := storeAccess a s
    if a.off = 0x3C then commitWritten s else s
  else regionWrite a s

/-- A write goes ahead at the RGW (R1, R2). -/
def writeAhead (a : BusAccess) (s : State) : State :=
  if a.be = 0 then s else if s.windowBytes ≤ a.off then s else windowWrite a s

/-- A read goes ahead at the RGW (R1, R2, R171). -/
def readAhead (a : BusAccess) (s : State) : State :=
  if a.be = 0 then s
  else if s.windowBytes ≤ a.off then { s with smp := { s.smp with busData := 0 } }
  else if s.isEarly a.off then { s with smp := { s.smp with held := some ⟨a, .print, s.cfg.printHold⟩ } }
  else finishRead a.off s

/-- An access goes ahead. -/
def goAhead (a : BusAccess) (s : State) : State := if a.isWrite then writeAhead a s else readAhead a s

/-- The SMP takes an access: without power it meets nothing; while RESETn is low or the DRAM is being initialised it is held
(R3), one without byte enables too (DESIGN CHOICE, log 47); while another access is held it cannot start (R1). -/
def smpAccess (a : BusAccess) (s : State) : State :=
  if s.smp.held.isSome then s
  else
    match s.phase with
    | .off => s
    | .resetLow | .initialising => { s with smp := { s.smp with held := some ⟨a, .reset, 0⟩ } }
    | .up => goAhead a s

/-- The word-aligned offset of a bus address. -/
def wordOffset (off : BusAddr) : Nat := off.toNat / 4 * 4

/-- A bus write (R1). -/
def smpWrite (off : BusAddr) (data : Word) (be : ByteEnables) (s : State) : State :=
  smpAccess ⟨true, wordOffset off, data, be⟩ s

/-- A bus read (R1). -/
def smpRead (off : BusAddr) (be : ByteEnables) (s : State) : State := smpAccess ⟨false, wordOffset off, 0, be⟩ s

/-- BUS_WRITE (R1). -/
def execBusWrite (off : BusAddr) (data : Word) (be : ByteEnables) (s : State) : Answer := .next (smpWrite off data be s)

/-- PART_OWNED_WRITE (R12): a bus write; where it lands decides what it does (log 3). -/
def execPartOwnedWrite (off : BusAddr) (data : Word) (be : ByteEnables) (s : State) : Answer :=
  .next (smpWrite off data be s)

/-- COMMIT (R6): a bus write to the commit word. -/
def execCommit (data : Word) (be : ByteEnables) (s : State) : Answer := .next (smpWrite 0x3C data be s)

/-- WITHDRAW (R17): a bus write to the commit word. -/
def execWithdraw (data : Word) (be : ByteEnables) (s : State) : Answer := .next (smpWrite 0x3C data be s)

/-- COMMAND_RING_TAIL_WRITE (R23): a bus write. -/
def execCommandRingTailWrite (off : BusAddr) (data : Word) (be : ByteEnables) (s : State) : Answer :=
  .next (smpWrite off data be s)

/-- EVENT_RING_HEAD_WRITE (R33): a bus write. -/
def execEventRingHeadWrite (off : BusAddr) (data : Word) (be : ByteEnables) (s : State) : Answer :=
  .next (smpWrite off data be s)

/-- RAW_SLOT_LAST_PIXEL_WRITE (R39): a bus write. -/
def execRawSlotLastPixelWrite (off : BusAddr) (data : Word) (be : ByteEnables) (s : State) : Answer :=
  .next (smpWrite off data be s)

/-- LAPPING_WRITE (R16): a bus write. -/
def execLappingWrite (off : BusAddr) (data : Word) (be : ByteEnables) (s : State) : Answer :=
  .next (smpWrite off data be s)

/-- PRINT_SLOT_LAST_WORD_READ (R170): a bus read. -/
def execPrintSlotLastWordRead (off : BusAddr) (be : ByteEnables) (s : State) : Answer := .next (smpRead off be s)

/-- EARLY_READ (R171): a bus read. -/
def execEarlyRead (off : BusAddr) (be : ByteEnables) (s : State) : Answer := .next (smpRead off be s)

/-- The scan hold timer expires: the write goes to DRAM and its slot takes an overrun mark (R16, R42). -/
def scanHoldExpiry (s : State) : State :=
  match s.smp.held with
  | none => s
  | some h =>
    match h.reason with
    | .scan j =>
      let marks := if j ∈ s.scn.overruns then s.scn.overruns else s.scn.overruns ++ [j]
      passWrite h.access { s with smp := { s.smp with held := none }, scn := { s.scn with overruns := marks } }
    | _ => s

/-- SCAN_HOLD_EXPIRY (R16). -/
def execScanHoldExpiry (s : State) : Answer := .next (scanHoldExpiry s)

/-! ## Power and RESETn (R3, R4) -/

/-- POWER_ON (R3): nothing of what stood before is left, but for the commands that wait. -/
def execPowerOn (s : State) : Answer := .next { State.reset with pending := s.pending }

/-- POWER_FAIL (R37): the state and the DRAM's contents are lost. -/
def execPowerFail (s : State) : Answer := .next { State.reset with pending := s.pending, phase := .off }

/-- The access at the SMP as RESETn falls: one held under R3 waits on, any other is ended, a read with a zero word (R4). -/
def Smp.resetn (p : Smp) : Smp :=
  match p.held with
  | none => p
  | some h =>
    if h.reason = .reset then p
    else { held := none, busData := if h.access.isWrite then p.busData else 0 }

/-- RESETN_FALL (R4): every block's state is cleared and DRAM keeps its contents. -/
def execResetnFall (s : State) : Answer :=
  .next (if s.phase = .off then s
    else { State.reset with pending := s.pending, phase := .resetLow, smp := s.smp.resetn, dram := s.dram })

/-- RESETN_RISE (R3). -/
def execResetnRise (s : State) : Answer := .next (if s.phase = .resetLow then { s with phase := .initialising } else s)

/-- DRAM initialisation ends (R2, R3, R104, R175). -/
def initialised (w : WindowSize) (s : State) : State :=
  let s := { s with phase := .up, mad := { s.mad with window := some w },
                    chg := { s.chg with seconds := 0, tenths := 0, tenthCycles := 3277 },
                    sli := { s.sli with txRunning := true, txFrameNo := 0 } }
  let s := writeStatus .reset 0 s
  match s.smp.held with
  | none => s
  | some h => goAhead h.access { s with smp := { s.smp with held := none } }

/-- DRAM_INITIALISATION_END (R3). -/
def execDramInitialisationEnd (w : WindowSize) (s : State) : Answer :=
  .next (if s.phase = .initialising then initialised w s else s)

/-! ## Path commands (R13, R29) -/

/-- The command kinds of Table 11-3. -/
def knownKinds : List Nat :=
  [0x01, 0x10, 0x11, 0x12, 0x13, 0x18, 0x20, 0x21, 0x22, 0x23, 0x24, 0x25, 0x26, 0x27, 0x28, 0x30, 0x31, 0x32, 0x38, 0x39,
   0x40, 0x41, 0x42, 0x43, 0x48, 0x49, 0x4A, 0x4B, 0x4C, 0x50, 0x51, 0x52, 0x53, 0x54, 0x55, 0x56]

/-- UNKNOWN_COMMAND_KIND (R29): the slot at the head holds a kind that no command has. -/
def execUnknownCommandKind (s : State) : Answer :=
  .next (if s.canTake && !knownKinds.contains s.headSlot.kind then
      carryOut s.headSlot (fun s' => (s', Reply.path .badKind s.headSlot.kind)) s
    else s)

/-- CLEAR_PATH_COUNT (R13). -/
def clearPathCount (_ : Slot) (s : State) : State × Reply :=
  (writePathStatus { s with rgw := { s.rgw with droppedCount := 0 } }, Reply.path .done s.rgw.droppedCount)

/-- CLEAR_PATH_COUNT. -/
def execClearPathCount (s : State) : Answer := .next (take 0x01 0 clearPathCount s)

end Sys2Proof.Machine
end

