-- ==== Sys2Proof/Machine/Dispatch.lean ====
section
/-! DEFINITION. One arm per row of spec/opcode_table.json, in the order of the table. -/

namespace Sys2Proof.Machine

/-- The effect of a command on everything but the queue. -/
def exec (i : Instr) (s : State) : Host.Outcome State Fault Refusal :=
  match i with
  | .powerOn => Sys2Proof.Machine.execPowerOn s
  | .resetnFall => Sys2Proof.Machine.execResetnFall s
  | .resetnRise => Sys2Proof.Machine.execResetnRise s
  | .dramInitialisationEnd w => Sys2Proof.Machine.execDramInitialisationEnd w s
  | .busWrite off data be => Sys2Proof.Machine.execBusWrite off data be s
  | .partOwnedWrite off data be => Sys2Proof.Machine.execPartOwnedWrite off data be s
  | .commit data be => Sys2Proof.Machine.execCommit data be s
  | .runEntry => Sys2Proof.Machine.execRunEntry s
  | .withdraw data be => Sys2Proof.Machine.execWithdraw data be s
  | .withdrawEnd => Sys2Proof.Machine.execWithdrawEnd s
  | .commandRingTailWrite off data be => Sys2Proof.Machine.execCommandRingTailWrite off data be s
  | .eventRingHeadWrite off data be => Sys2Proof.Machine.execEventRingHeadWrite off data be s
  | .unknownCommandKind => Sys2Proof.Machine.execUnknownCommandKind s
  | .clearPathCount => Sys2Proof.Machine.execClearPathCount s
  | .setScanProfile => Sys2Proof.Machine.execSetScanProfile s
  | .beginScan => Sys2Proof.Machine.execBeginScan s
  | .endPage => Sys2Proof.Machine.execEndPage s
  | .endScan => Sys2Proof.Machine.execEndScan s
  | .setStoreLimits => Sys2Proof.Machine.execSetStoreLimits s
  | .openDocument => Sys2Proof.Machine.execOpenDocument s
  | .closeDocument => Sys2Proof.Machine.execCloseDocument s
  | .deleteDocument => Sys2Proof.Machine.execDeleteDocument s
  | .submitJob => Sys2Proof.Machine.execSubmitJob s
  | .cancelJob => Sys2Proof.Machine.execCancelJob s
  | .cancelDestination => Sys2Proof.Machine.execCancelDestination s
  | .holdJob => Sys2Proof.Machine.execHoldJob s
  | .releaseJob => Sys2Proof.Machine.execReleaseJob s
  | .setRetryPolicy => Sys2Proof.Machine.execSetRetryPolicy s
  | .linkSetup => Sys2Proof.Machine.execLinkSetup s
  | .linkResync => Sys2Proof.Machine.execLinkResync s
  | .clearLinkCounters => Sys2Proof.Machine.execClearLinkCounters s
  | .setLinePlan => Sys2Proof.Machine.execSetLinePlan s
  | .setLineTimers => Sys2Proof.Machine.execSetLineTimers s
  | .loadRouteWrite => Sys2Proof.Machine.execLoadRouteWrite s
  | .loadRouteRemove => Sys2Proof.Machine.execLoadRouteRemove s
  | .setFilterBinClearBin => Sys2Proof.Machine.execSetFilterBinClearBin s
  | .setFilterBinSetBin => Sys2Proof.Machine.execSetFilterBinSetBin s
  | .setFilterBinClearEvery => Sys2Proof.Machine.execSetFilterBinClearEvery s
  | .setFilterBinSetEvery => Sys2Proof.Machine.execSetFilterBinSetEvery s
  | .setDefaultRoute => Sys2Proof.Machine.execSetDefaultRoute s
  | .releaseHeld => Sys2Proof.Machine.execReleaseHeld s
  | .setPrintProfile => Sys2Proof.Machine.execSetPrintProfile s
  | .printDocument => Sys2Proof.Machine.execPrintDocument s
  | .cancelPrint => Sys2Proof.Machine.execCancelPrint s
  | .startPrint => Sys2Proof.Machine.execStartPrint s
  | .stopPrint => Sys2Proof.Machine.execStopPrint s
  | .setClock => Sys2Proof.Machine.execSetClock s
  | .loadBandHours => Sys2Proof.Machine.execLoadBandHours s
  | .loadTariffPrefixWrite => Sys2Proof.Machine.execLoadTariffPrefixWrite s
  | .loadTariffPrefixRemove => Sys2Proof.Machine.execLoadTariffPrefixRemove s
  | .loadZoneRate => Sys2Proof.Machine.execLoadZoneRate s
  | .setAccount => Sys2Proof.Machine.execSetAccount s
  | .clearSpent => Sys2Proof.Machine.execClearSpent s
  | .ackChargeLog => Sys2Proof.Machine.execAckChargeLog s
  | .rawSlotLastPixelWrite off data be => Sys2Proof.Machine.execRawSlotLastPixelWrite off data be s
  | .lappingWrite off data be => Sys2Proof.Machine.execLappingWrite off data be s
  | .scanHoldExpiry => Sys2Proof.Machine.execScanHoldExpiry s
  | .scanTakeSlot => Sys2Proof.Machine.execScanTakeSlot s
  | .timeBaseTenth => Sys2Proof.Machine.execTimeBaseTenth s
  | .timeBaseSecond => Sys2Proof.Machine.execTimeBaseSecond s
  | .schedulerPass => Sys2Proof.Machine.execSchedulerPass s
  | .txFrame => Sys2Proof.Machine.execTxFrame s
  | .handingTakesPlace => Sys2Proof.Machine.execHandingTakesPlace s
  | .alignmentByteFound p => Sys2Proof.Machine.execAlignmentByteFound p s
  | .rxFrame slots => Sys2Proof.Machine.execRxFrame slots s
  | .mfSearchTimerExpiry => Sys2Proof.Machine.execMfSearchTimerExpiry s
  | .rxMultiframeEnd => Sys2Proof.Machine.execRxMultiframeEnd s
  | .blockStored n => Sys2Proof.Machine.execBlockStored n s
  | .blockBufferFilled n => Sys2Proof.Machine.execBlockBufferFilled n s
  | .rxBlock n pp blk len => Sys2Proof.Machine.execRxBlock n pp blk len s
  | .lineReady n => Sys2Proof.Machine.execLineReady n s
  | .lineNotReady n => Sys2Proof.Machine.execLineNotReady n s
  | .seized n => Sys2Proof.Machine.execSeized n s
  | .answered n => Sys2Proof.Machine.execAnswered n s
  | .busy n => Sys2Proof.Machine.execBusy n s
  | .noAnswer n => Sys2Proof.Machine.execNoAnswer n s
  | .notFax n => Sys2Proof.Machine.execNotFax n s
  | .ring n called ident => Sys2Proof.Machine.execRing n called ident s
  | .partialOk n => Sys2Proof.Machine.execPartialOk n s
  | .repeatBlocks n map => Sys2Proof.Machine.execRepeatBlocks n map s
  | .pageConfirmed n => Sys2Proof.Machine.execPageConfirmed n s
  | .pageRejected n => Sys2Proof.Machine.execPageRejected n s
  | .rxPageBegin n cls res => Sys2Proof.Machine.execRxPageBegin n cls res s
  | .rxPartialEnd n pp count endKind => Sys2Proof.Machine.execRxPartialEnd n pp count endKind s
  | .remoteClear n cause => Sys2Proof.Machine.execRemoteClear n cause s
  | .cleared n => Sys2Proof.Machine.execCleared n s
  | .sessionTimerExpiry n => Sys2Proof.Machine.execSessionTimerExpiry n s
  | .clearingTimerExpiry n => Sys2Proof.Machine.execClearingTimerExpiry n s
  | .graceExpiry => Sys2Proof.Machine.execGraceExpiry s
  | .prnTakeEntry => Sys2Proof.Machine.execPrnTakeEntry s
  | .prnRenderSheetLine => Sys2Proof.Machine.execPrnRenderSheetLine s
  | .printSlotLastWordRead off be => Sys2Proof.Machine.execPrintSlotLastWordRead off be s
  | .earlyRead off be => Sys2Proof.Machine.execEarlyRead off be s
  | .printHoldExpiry => Sys2Proof.Machine.execPrintHoldExpiry s
  | .powerFail => Sys2Proof.Machine.execPowerFail s

end Sys2Proof.Machine
end

