-- ==== Sys2Proof/Safety.lean ====
section
/-! DEFINITION. What the part keeps true at every step, and what an answered command may touch: the terms in which the claims
about the whole part are made. -/

namespace Sys2Proof.Machine

/-! ## Laws of the state -/

/-- A region map that passed checks 1 to 5 of R7 in a window of this size, with hold limits in their range (R6). -/
def Anchor.passed (a : Anchor) (window : Nat) : Bool :=
  a.formatOk && a.alignedOk && a.insideOk window && a.apartOk && a.porOk
    && decide (10 ≤ a.scanHold) && decide (a.scanHold ≤ 1000) && decide (10 ≤ a.printHold) && decide (a.printHold ≤ 1000)

/-- The region map a state holds passed its checks. -/
def State.mapPassed (s : State) : Bool :=
  match s.rgw.copy with
  | none => false
  | some a => a.passed s.windowBytes

/-- The law of the region map (R3, R6, R9, R18): before DRAM initialisation ends the part is in PASS with nothing committed; a
validation runs only in PASS; there is a map exactly while one is being validated or in force, and it has passed its checks. -/
def State.mapLaw (s : State) : Bool :=
  (s.phase == .up || (s.rgw.state == .pass && !s.rgw.validating))
    && (!s.rgw.validating || s.rgw.state == .pass)
    && (if s.rgw.state == .pass && !s.rgw.validating then s.rgw.copy.isNone else s.mapPassed)

/-- The law of the time base (R175): ten tenths make a second, and each tenth has its length in cycles of CLK32. -/
def State.timeLaw (s : State) : Bool :=
  decide (s.chg.seconds < 4294967296) && decide (s.chg.tenths < 10) && s.chg.tenthCycles == tenthLength s.chg.tenths

/-- The law of the receiver (R110, R112): there is multiframe synchronisation, and a received remote alarm, only in SYNC. -/
def State.linkLaw (s : State) : Bool := s.sli.frame == .sync || (s.sli.mf == .mfSearch && !s.sli.rxAlarm)

/-- The numbers of a sparse table rise strictly, so each number names one record. -/
def Tab.rising {α : Type} (t : Tab α) : Bool := decide (t.Pairwise fun a b => a.1 < b.1)

/-- The tables of pages, documents, jobs, destinations and print entries are in order. -/
def State.ordered (s : State) : Bool :=
  Tab.rising s.psm.pages && Tab.rising s.dju.docs && Tab.rising s.dju.jobs && Tab.rising s.dju.dests
    && Tab.rising s.prn.entries

/-! ## The laws that tie the tables together -/

/-- The segments on the free-segment stack and in the chains of the pages. -/
def State.segments (s : State) : List Nat := s.psm.stack ++ s.psm.pages.flatMap fun e => e.2.chain

/-- The law of the segments (R68): outside PASS the free-segment stack and the chains of the pages hold every segment of the
map, each once. A segment of a page is so never on the stack, whatever holds the page. -/
def State.segmentLaw (s : State) : Bool := s.rgw.state == .pass || s.segments.isPerm (List.range s.cfg.segCount)

/-- Line `n` names a destination in session and its job, both in use, on an outbound session alone, and no other line names
that destination or one with the same digits (R102). -/
def State.callStands (s : State) (n : Line) : Bool :=
  let l := s.line n
  match l.dest, l.job with
  | none, none => l.dir != some .outbound
  | some k, some j =>
    l.dir == some .outbound && l.state.inSession && (s.job? j).isSome
      && (s.dest? k).any (fun t => t.job == j && (t.state == .dialling || t.state == .sending || t.state == .sent))
      && allLines.all fun m => m == n || (s.lineDest m).isNone
          || ((s.line m).dest != some k && (s.lineDest m).map Dest.digits != (s.dest? k).map Dest.digits)
  | _, _ => false

/-- The law of the outbound sessions (R91, R102): each destination is in session on at most one line, no two sessions run to
the same digits, and a job counts its sessions. -/
def State.callLaw (s : State) : Bool :=
  allLines.all s.callStands
    && s.dju.jobs.all fun e => e.2.sessions == (allLines.filter fun n => (s.line n).job == some e.1).length

/-- The first `k` places of document `d` exist and none of their pages is FILLING. -/
def State.leads (s : State) (d k : Nat) : Bool :=
  (s.doc? d).any fun r => decide (k ≤ r.places.length) && (r.places.take k).all fun x =>
    x.all fun p => (s.page? p).any PageRec.isSealed

/-- Page `p` stands in its document's list at its position; a FILLING one is the last there and in the hand of the SCN or of an
inbound line (R72, R84). -/
def State.pageStands (s : State) (p : Nat) (r : PageRec) : Bool :=
  (s.doc? r.doc).any fun d => d.places[r.pos]? == some (some p)
    && (r.isSealed || (r.pos + 1 == d.places.length
      && (s.scn.page == some p || allLines.any fun n => (s.line n).dir == some .inbound && (s.line n).page == some p)))

/-- A document's state is one of its direction (R82, R88). -/
def Doc.stateFits (d : Doc) : Bool :=
  match d.dir with
  | .outbound => d.state == .opened || d.state == .closed || d.state == .deleting
  | .inbound => d.state == .receiving || d.state == .complete || d.state == .incomplete || d.state == .deleting

/-- A document's state fits its direction, its live places name its pages, and its references are the jobs and print entries on
it (R82, R84). -/
def State.docStands (s : State) (d : Nat) (r : Doc) : Bool :=
  r.stateFits && (r.places.zipIdx.all fun x => x.1.all fun p => (s.page? p).any fun q => q.doc == d && q.pos == x.2)
    && r.jobRefs == (s.jobsOn d).length && r.printRefs == (s.prn.entries.filter fun e => e.2.doc == d).length

/-- A print entry's document is not OPEN, and the entry has a copy left and stands where its walk has come (R158, R159, R166). -/
def State.entryStands (s : State) (e : PrintEntry) : Bool :=
  (s.doc? e.doc).any (fun d => d.state != .opened) && decide (e.copiesDone < e.copies) && s.leads e.doc e.position
    && (e.printing || (e.copiesDone == 0 && e.position == 0))

/-- The scan's state, document, active profile and open page go together (R51 to R58). -/
def State.scanStands (s : State) : Bool :=
  (s.scn.state == .scanIdle) == s.scn.doc.isNone && (s.scn.state == .scanIdle) == s.scn.active.isNone
    && (s.scn.state == .inPage) == s.scn.page.isSome
    && (s.scn.doc.all fun d => (s.doc? d).any fun r => r.dir == .outbound && r.state == .opened)
    && s.scn.page.all fun p => (s.page? p).any fun r => !r.isSealed && s.scn.doc == some r.doc

/-- An inbound line has a RECEIVING document of its own, and a page in its hand is FILLING in that document (R138, R139). -/
def State.inboundStands (s : State) (n : Line) : Bool :=
  let l := s.line n
  (l.state == .answering || l.state == .receiving || l.state == .rxCheck || l.state == .clearing)
    && l.doc.any (fun d => (s.doc? d).any (fun r => r.dir == .inbound && r.state == .receiving)
      && allLines.all fun m => m == n || (s.line m).dir != some .inbound || (s.line m).doc != some d)
    && l.page.all fun p => (s.page? p).any fun r => !r.isSealed && l.doc == some r.doc

/-- An outbound line's destination has the state that goes with the line's (R92), and the page being sent, waited for or
confirmed is the sealed one behind those that the destination has confirmed (R129 to R133). -/
def State.outboundStands (s : State) (n : Line) : Bool :=
  let l := s.line n
  (s.lineDest n).any fun t => l.doc == s.docOf t && match l.state with
    | .seizing | .dialling => t.state == .dialling
    | .dataWait => t.state == .sending
    | .sending | .partialWait | .pageWait =>
      t.state == .sending && l.page.any fun p => (s.page? p).any PageRec.isSealed
        && (s.lineDoc n).any fun d => d.places[t.confirmed]? == some (some p)
    | .clearing => true
    | _ => false

/-- A line without a direction holds no session, and each session stands as its direction asks. -/
def State.lineStands (s : State) (n : Line) : Bool :=
  match (s.line n).dir with
  | none => !(s.line n).state.inSession
  | some .inbound => s.inboundStands n
  | some .outbound => s.outboundStands n

/-- At most one entry is PRINTING, and the page being rendered is the sealed one at its position (R166). -/
def State.printStands (s : State) : Bool :=
  decide ((s.prn.entries.filter fun e => e.2.printing).length ≤ 1)
    && s.prn.rendering.all fun g => (s.page? g.page).any PageRec.isSealed && s.printingEntry.any fun e =>
        (s.doc? e.2.doc).any fun d => d.places[e.2.position]? == some (some g.page)

/-- The tables of pages, documents, jobs, destinations, lines and print entries agree with one another. -/
def State.tablesStand (s : State) : Bool :=
  (s.psm.pages.all fun e => s.pageStands e.1 e.2) && (s.dju.docs.all fun e => s.docStands e.1 e.2)
    && (s.dju.jobs.all fun e => (s.doc? e.2.doc).any fun d => d.dir == .outbound)
    && (s.dju.dests.all fun e => (s.jobOf e.2).any fun j => s.leads j.doc e.2.confirmed)
    && (s.prn.entries.all fun e => s.entryStands e.2) && s.scanStands && allLines.all s.lineStands && s.printStands

/-- The destinations that are not final, on the document of page `r`, and that have not confirmed it (R93). -/
def State.sendersOf (s : State) (r : PageRec) : Nat :=
  (s.dju.dests.filter fun e => !e.2.isFinal && s.docOf e.2 == some r.doc && decide (e.2.confirmed ≤ r.pos)).length

/-- The copies that the print entries on the document of page `r` still have to print of it (R160). -/
def State.copiesOf (s : State) (r : PageRec) : Nat :=
  ((s.prn.entries.filter fun e => e.2.doc == r.doc).map fun e => e.2.left r.pos).sum

/-- The law of the holds (R93, R160): in RUN the tables agree with one another, and every page has the send holds of the
destinations and the print holds of the copies that still need it. -/
def State.holdLaw (s : State) : Bool :=
  s.rgw.state != .run || (s.tablesStand
    && s.psm.pages.all fun e => e.2.sendHolds == s.sendersOf e.2 && e.2.printHolds == s.copiesOf e.2)

/-! ## What an answered command may touch -/

/-- Offset `a` lies in the `n` bytes from `base` on. -/
def within (a base n : Nat) : Bool := decide (base ≤ a) && decide (a < base + n)

/-- DRAM `m'` holds at every offset outside the spans (an offset and a length each) what `m` held there. -/
def unchangedOutside (spans : List (Nat × Nat)) (m m' : Mem) : Prop :=
  ∀ a, (∀ r ∈ spans, within a r.1 r.2 = false) → Mem.get m' a = Mem.get m a

/-- Offset `a` lies in what the answer of a command writes: the command ring's head word, the event record at the event
ring's tail, or the event ring's tail word (R25, R32). -/
def State.answerBytes (s : State) (a : Nat) : Bool :=
  within a (s.cfg.cmdBase + 4) 4 || within a (s.cfg.evBase + 64 + 16 * s.ceu.evTail) 16 || within a (s.cfg.evBase + 4) 4

/-- The slot at the head holds a command of this kind with at least `need` parameters, and the CEU may take it. -/
def State.readyFor (s : State) (kind need : Nat) : Bool :=
  s.canTake && s.headSlot.kind == kind && decide (need ≤ s.headSlot.count) && decide (s.headSlot.count ≤ 14)

/-- The state that an answered command leaves: the block's work has led to `s'` and its reply is `r` (R25, R30). -/
def State.answered (s : State) (r : Reply) (s' : State) : State := finishCommand s.headSlot.tag r s'

/-- The command rows that take a slot of one kind, with the kind and the number of parameters it needs (Table 2-1, 11.2). -/
def commandTable : List (Instr × Nat × Nat) :=
  [(.clearPathCount, 0x01, 0), (.setScanProfile, 0x10, 0), (.beginScan, 0x11, 3), (.endPage, 0x12, 1), (.endScan, 0x13, 1),
   (.setStoreLimits, 0x18, 0), (.openDocument, 0x20, 0), (.closeDocument, 0x21, 1), (.deleteDocument, 0x22, 1),
   (.submitJob, 0x23, 7), (.cancelJob, 0x24, 1), (.cancelDestination, 0x25, 2), (.holdJob, 0x26, 1), (.releaseJob, 0x27, 1),
   (.setRetryPolicy, 0x28, 0), (.linkSetup, 0x30, 0), (.linkResync, 0x31, 0), (.clearLinkCounters, 0x32, 0),
   (.setLinePlan, 0x38, 9), (.setLineTimers, 0x39, 0), (.loadRouteWrite, 0x40, 7), (.loadRouteRemove, 0x40, 7),
   (.setFilterBinClearBin, 0x41, 2), (.setFilterBinSetBin, 0x41, 2), (.setFilterBinClearEvery, 0x41, 2),
   (.setFilterBinSetEvery, 0x41, 2), (.setDefaultRoute, 0x42, 4), (.releaseHeld, 0x43, 1), (.setPrintProfile, 0x48, 0),
   (.printDocument, 0x49, 4), (.cancelPrint, 0x4A, 1), (.startPrint, 0x4B, 0), (.stopPrint, 0x4C, 0), (.setClock, 0x50, 2),
   (.loadBandHours, 0x51, 4), (.loadTariffPrefixWrite, 0x52, 6), (.loadTariffPrefixRemove, 0x52, 6), (.loadZoneRate, 0x53, 9),
   (.setAccount, 0x54, 5), (.clearSpent, 0x55, 1), (.ackChargeLog, 0x56, 1)]

/-! ## When an access and a message reach the part -/

/-- A bus access to this offset goes ahead at once, inside the window (R1, R2, R3). -/
def State.busReady (s : State) (off : BusAddr) : Bool :=
  s.phase == .up && s.smp.held.isNone && decide (wordOffset off < s.windowBytes)

/-- The link is up and the part is not in PASS: a message from the shelf is acted on (R118, R125). -/
def State.hears (s : State) : Bool := s.linkUp && s.rgw.state != .pass

/-- Row `c` ends the session of line `n` at once with this cause and leaves the line in `dst`: in any session state REMOTE_CLEAR
and LINE_NOT_READY, in CLEARING also CLEARED and the expired clearing timer, which a grace pauses. A line in CLEARING keeps the
cause it has (R124, R127, R136, R143). -/
def EndsSession (s : State) (n : Line) (c : Instr) (cause : Cause) (dst : LineState) : Prop :=
  let l := s.line n
  let own (x : Cause) : Cause := if l.state = .clearing then l.cause.getD x else x
  (s.hears = true ∧ l.state.inSession = true ∧ (∃ b, c = .remoteClear n b) ∧ cause = own .remoteClear ∧ dst = .idle)
    ∨ (s.hears = true ∧ l.state.inSession = true ∧ c = .lineNotReady n ∧ cause = own .lineDisabled ∧ dst = .unavailable)
    ∨ (s.hears = true ∧ l.state = .clearing ∧ c = .cleared n ∧ cause = own .normal ∧ dst = .idle)
    ∨ (l.state = .clearing ∧ l.timer.isSome = true ∧ l.remaining = 0 ∧ s.lne.grace = none
        ∧ c = .clearingTimerExpiry n ∧ cause = own .normal ∧ dst = .idle)

/-- Line record `l` has `kept` bytes of the page in hand when that page is closed before its own end (R141): its kept length,
extended over the full blocks present from block 0 on and the first shorter one. A page that is cut, and one of whose partial
page no byte is present from block 0 on, is not extended (log 26). -/
def LineRec.KeepsEarly (l : LineRec) (kept : Nat) : Prop :=
  ∃ b len, b ≤ 64 ∧ (∀ i, i < b → Tab.get? l.blockMap i = some 256)
    ∧ len = (if b < 64 then (Tab.get? l.blockMap b).getD 0 else 0) ∧ len ≠ 256
    ∧ kept = if l.cut ∨ 256 * b + len = 0 then l.kept else 16384 * l.partialPage + 256 * b + len

/-- `v` is `s` after page `p` of record `r` has left line `n`, whose record is then `l`, and has been closed with `kept` bytes
before its own end: it is sealed TRUNCATED, so DAMAGED, with that coded length and no line count, or freed as the last place
of its document when the length is 0. The segments beyond the length go back to the stack, and the free count's change is
reported when there are any (R68, R73, R74, R76, R77, R80, R141). -/
def ClosedEarly (s v : State) (n : Line) (l : LineRec) (p kept : Nat) (r : PageRec) : Prop :=
  let back := (r.chain.drop (segsFor kept)).reverse
  let freed := if back = [] then s else freeCountChanged { s with psm := { s.psm with stack := back ++ s.psm.stack } }
  v = { s with lne := { s.lne with lines := v.lne.lines }, psm := { freed.psm with pages := v.psm.pages }, ceu := freed.ceu,
               dju := { s.dju with docs := v.dju.docs, passDue := s.dju.passDue || decide (kept ≠ 0) }, dram := v.dram }
    ∧ v.line n = l ∧ (∀ m, m ≠ n → v.line m = s.line m) ∧ (∀ q, q ≠ p → v.page? q = s.page? q)
    ∧ (kept ≠ 0 → v.dju.docs = s.dju.docs
      ∧ ∃ check, v.page? p = some { r with truncated := true, state := .damaged, codedLen := kept, lineCount := 0,
                                           chain := r.chain.take (segsFor kept), check := check,
                                           sealedTime := s.chg.seconds }
        ∧ (back = [] → check = crc16 (s.streamBytes r.chain 0 kept)))
    ∧ (kept = 0 → v.page? p = none
      ∧ v.doc? r.doc = (s.doc? r.doc).map (fun d => { d with places := d.places.dropLast })
      ∧ ∀ d, d ≠ r.doc → v.doc? d = s.doc? d)
    ∧ unchangedOutside
        ([(s.por (0x80 + 256 * n.val), 256), (s.pageAddr p, 64), (s.por 0, 12), (s.cfg.evBase + 64 + 16 * s.ceu.evTail, 16),
            (s.cfg.evBase + 4, 4)]
          ++ (if kept = 0 then [(s.docAddr r.doc, 512)] else [])
          ++ (r.chain.map fun i => (s.segAddr i + 1020, 4))
          ++ (List.range r.chain.length).map fun i => (s.por (0x79000 + 2 * (s.freeCount + i)), 2)) s.dram v.dram

/-- Byte `i` of the word at `off` after a bus write of `data` with byte enables `be` (R1). -/
def State.byteAfter (s : State) (off i : Nat) (data : Word) (be : ByteEnables) : Byte :=
  if be.getLsbD i then data.extractLsb' (8 * i) 8 else Mem.get s.dram (off + i)

/-- `t` is `s` after a bus write of `data` with byte enables `be` to the word at `off`: nothing but that word has changed. -/
def StoresWord (s t : State) (off : Nat) (data : Word) (be : ByteEnables) : Prop :=
  t = { s with dram := t.dram } ∧ (∀ i, i < 4 → Mem.get t.dram (off + i) = s.byteAfter off i data be)
    ∧ unchangedOutside [(off, 4)] s.dram t.dram

/-- The word at `off` after a bus write (R14). -/
def State.wordAfter (s : State) (off : Nat) (data : Word) (be : ByteEnables) : Nat :=
  leNat ((List.range 4).map fun i => s.byteAfter off i data be)

end Sys2Proof.Machine
end

