-- ==== Sys2Proof/Certificates/Slice0/Obligations.lean ====
section
/-! DEFINITION. The statements for the provers, each a Prop under Obligations: the whole machine and its laws, then every family
of rows of the opcode table. An answered command is written s.answered r u: the owning block's work has led from the state with
the command being carried out, s.carry, to u, and r is its reply; CommandDone says what the answer then does. -/

open Sys2Proof Sys2Proof.Machine

/-! ## The whole machine -/

/-- For every command c and state s, one step of s with c at the front of its queue is exec of c on s with the queue's rest;
on an empty queue the part idles. That a step is one row of the table, and that an empty queue idles, is the model's choice
(log 1). -/
def Obligations.StepRunsFrontCommand : Prop :=
  (∀ (c : Instr) (rest : List Instr) (s : State), step { s with pending := c :: rest } = exec c { s with pending := rest })
    ∧ ∀ s : State, step { s with pending := [] } = .next { s with pending := [] }

/-- Every command has an effect in every state: exec of it answers a next state, and none touches the queue of commands that
wait. That each row is one whole step, and that a row whose condition does not hold leaves the state as it is, so that every
row answers in every state, is the model's choice (logs 1 and 2). -/
def Obligations.EveryCommandAnswers : Prop :=
  ∀ (c : Instr) (s : State), ∃ t, exec c s = .next t ∧ t.pending = s.pending

/-- DRAM keeps its canonical form (rising offsets, no listed 00h) at every step; the form is the model's own (log 4). The tables
of pages, documents, jobs, destinations and print entries stay in order at every step: each number names at most one record. -/
def Obligations.DramFormAndTableOrderKept : Prop :=
  (∀ s t : State, Mem.wf s.dram = true → step s = .next t → Mem.wf t.dram = true)
    ∧ ∀ s t : State, s.ordered = true → step s = .next t → t.ordered = true

/-- Two laws that tie the tables together hold after every step that starts from them, with the tables in order. The law of the
segments: outside PASS the free-segment stack and the chains of the pages hold every segment of the map, each once, so that
the free count and the segments chained to pages add up to the segment count and no segment of a page is on the stack. The
law of the outbound sessions: a line that names a destination holds an outbound session to it, each destination is in session
on at most one line, no two sessions run to the same digits, and a job's session count is the number of lines that name it. -/
def Obligations.SegmentAndCallLawsKept : Prop :=
  (∀ s t : State, s.ordered = true → s.segmentLaw = true → step s = .next t → t.segmentLaw = true)
    ∧ ∀ s t : State, s.ordered = true → s.callLaw = true → step s = .next t → t.callLaw = true

/-- The law of the holds holds after every step that starts from it, from tables in order and the law of the outbound sessions:
in RUN every page has as many send holds as there are destinations that are not final, on its document, and have not
confirmed it, and as many print holds as the print entries on its document still have copies of it to print. The law takes in
that the tables agree with one another, without which the counts would not last: pages and the places of their documents,
FILLING pages and the hands they are in, the references of documents, the places that a destination and an entry have passed,
and what the scan, the lines and the printer hold. -/
def Obligations.HoldLawKept : Prop :=
  ∀ s t : State, s.ordered = true → s.callLaw = true → s.holdLaw = true → step s = .next t → t.holdLaw = true

/-- The law of the region map holds after every step that starts from it: before DRAM initialisation ends the part is in PASS;
a validation runs only in PASS; and a map is held exactly while one is being validated or in force, and it has then passed the
checks of the anchor. -/
def Obligations.RegionMapLawKept : Prop :=
  ∀ s t : State, s.mapLaw = true → step s = .next t → t.mapLaw = true

/-- The law of the time base (ten tenths to a second, each with its length in cycles of CLK32, a 32-bit seconds count) and the
law of the receiver (multiframe synchronisation and a received remote alarm only in SYNC) hold after every step that starts
from both. -/
def Obligations.TimeAndReceiverLawsKept : Prop :=
  ∀ s t : State, s.timeLaw = true → s.linkLaw = true → step s = .next t → t.timeLaw = true ∧ t.linkLaw = true

/-- The laws that every step keeps hold right after power-on, and every block has there the values that the Power-on columns of
the spec's tables give it: registers, queues, modes, marks, profiles, plans, timers, counters and the two outputs. That the
tables which the spec calls undefined in DRAM and not used are held empty (the default route, rates and accounts with their
empty values), that the window size is none until it is sensed, and that K, C, F and Rd, which the spec gives as none, are
held as 0, is the model's choice (log 8). What the tables say of bytes in DRAM, and the fields that no table names, are not
stated here. -/
def Obligations.PowerOnState : Prop :=
  (Mem.wf State.reset.dram = true ∧ State.reset.ordered = true ∧ State.reset.mapLaw = true ∧ State.reset.timeLaw = true
      ∧ State.reset.linkLaw = true ∧ State.reset.segmentLaw = true ∧ State.reset.callLaw = true
      ∧ State.reset.holdLaw = true)
  ∧ (let s := State.reset
    (s.rgw.state = .pass ∧ s.rgw.validating = false ∧ s.rgw.noted = false ∧ s.rgw.copy = none ∧ s.rgw.droppedCount = 0
      ∧ s.rgw.rawGeom = none ∧ s.rgw.started = false ∧ s.rgw.printGeom = none ∧ s.mad.urgent = false ∧ s.mad.window = none
      ∧ s.smp.held = none)
    ∧ (s.ceu.head = 0 ∧ s.ceu.tail = 0 ∧ s.ceu.evHead = 0 ∧ s.ceu.evTail = 0 ∧ s.ceu.queue = [] ∧ s.ceu.discard = 0
      ∧ s.ceu.carrying = false ∧ s.ceu.withdrawnHeld = none ∧ s.ceu.attn = false)
    ∧ (s.scn.state = .scanIdle ∧ s.scn.doc = none ∧ s.scn.active = none ∧ s.scn.mode = none ∧ s.scn.take = 0 ∧ s.scn.comp = 0
      ∧ s.scn.overruns = [] ∧ s.scn.voids = [] ∧ s.scn.page = none ∧ s.scn.half = none ∧ s.scn.ref = []
      ∧ s.scn.sealedCount = 0
      ∧ ∀ i, s.profile i =
          { win := 1728, stride := 1728, lane := .lowFirst, cls := .a, res := .fine, lowBypass := false, highBypass := false,
            x0 := 0, height := 2200, ml := 0, mr := 0, mt := 0, mb := 0, band0 := ⟨0, 0⟩, band1 := ⟨0, 0⟩, band2 := ⟨0, 0⟩,
            band3 := ⟨0, 0⟩, s1 := 0, s2 := 255, d1 := 0, d2 := 255, k0 := 256, k1 := 256, k2 := 256, brightness := 0, lo := 0,
            hi := 255, thr := 128 })
    ∧ (s.psm.pages = [] ∧ s.psm.stack = [] ∧ s.psm.scanReserve = 64 ∧ s.psm.lowWater = 256 ∧ s.psm.lowMark = 512
      ∧ s.psm.lowArmed = true)
    ∧ (s.dju.docs = [] ∧ s.dju.jobs = [] ∧ s.dju.dests = [] ∧ s.dju.submission = 0 ∧ s.dju.maxAttempts = 3
      ∧ s.dju.baseWait = 60 ∧ s.dju.gen = 1 ∧ s.dju.passDue = false)
    ∧ (s.sli.txRunning = false ∧ s.sli.txFrameNo = 0 ∧ s.sentAlarm = true ∧ s.sli.frame = .hunt ∧ s.sli.mf = .mfSearch
      ∧ s.linkUp = false ∧ s.sli.alignRun = 0 ∧ s.sli.serviceRun = 0 ∧ s.sli.rxAlarm = false ∧ s.sli.lossCount = 4
      ∧ s.sli.serviceCheck = false ∧ s.sli.autoResync = true ∧ s.sli.alignErrors = 0 ∧ s.sli.crcErrors = 0
      ∧ s.sli.farEndErrors = 0 ∧ s.sli.losses = 0 ∧ s.sli.farEndDue = true ∧ s.sli.queue = [] ∧ s.sli.handings = []
      ∧ s.sli.asm = .gap ∧ (∀ n, s.inLine n = InLine.none) ∧ s.sli.outBlocks = [])
    ∧ ((∀ n : Line, (s.line n).state = .unavailable ∧ (s.line n).dir = none ∧ (s.line n).storing = none
          ∧ (s.plan n).use = .both ∧ (s.plan n).outside = [])
      ∧ s.lne.ceiling = 8 ∧ s.lne.timers = ⟨50, 600, 300, 600, 300, 400, 200⟩ ∧ s.lne.grace = none)
    ∧ (s.rxr.routes = [] ∧ (∀ b, s.rxr.bins.getLsbD b = false)
      ∧ s.rxr.defaultRoute = { digitCount := 0, digits := [], desk := 0, tray := 0, copies := 0, printClass := 1,
                               filter := false, autoDelete := false })
    ∧ (s.prn.entries = [] ∧ s.prn.arrival = 0 ∧ s.prn.profile = ⟨1728, 0, 2300, 2, .msbFirst, 8⟩ ∧ s.prn.active = none
      ∧ s.prn.state = .stopped ∧ s.prn.fill = 0 ∧ s.prn.read = 0 ∧ s.prn.slots = [])
    ∧ (s.chg.seconds = 0 ∧ s.chg.tenths = 0 ∧ s.chg.clockSet = false ∧ s.chg.weekOffset = 0 ∧ (∀ h, s.band h = 0)
      ∧ s.chg.prefixes = []
      ∧ (∀ i, s.rate i = { setUp := 0, period := 600, n1 := 0, n2 := 0, a1 := 0, a2 := 0, a3 := 0 })
      ∧ (∀ i, s.account i = { state := .unused, limit := some 0, spent := 0, reserved := 0, calls := 0, secondsPerPage := 60,
                              armed := true })
      ∧ s.chg.logOldest = 0 ∧ s.chg.logInUse = 0 ∧ s.chg.logNext = 1 ∧ s.chg.logReserved = 0 ∧ s.chg.nearArmed = true
      ∧ s.chg.calls = []))

/-! ## Power, RESETn and the bus -/

/-- POWER_ON, POWER_FAIL, RESETN_FALL, RESETN_RISE and DRAM_INITIALISATION_END: every block is cleared, with DRAM, by
POWER_ON and POWER_FAIL, and by a RESETn without it. An access held for RESETn waits on through RESETN_FALL and
RESETN_RISE (log 35), another held access ends at RESETN_FALL, a read with a zero word; POWER_ON and POWER_FAIL leave none
held. The end of initialisation sets the window size, starts the time base and the transmitter, writes status RESET and
nothing else, and lets a held access go ahead. A row outside its condition changes nothing. The model's choices here: DRAM
reads 00h after power-on (log 4), POWER_FAIL loses it (log 7), and the fields of State.reset that the spec gives no value
(log 8). The arbiter grants the first waiting client in the order that the urgent flag sets, and none when none waits; a
test of the flag sets it exactly in RUN while printing is started with fewer slots waiting than the active profile's
threshold. -/
def Obligations.PowerAndResetn : Prop :=
  (∀ s : State,
    exec .powerOn s = .next { State.reset with pending := s.pending }
    ∧ exec .powerFail s = .next { State.reset with pending := s.pending, phase := .off }
    ∧ (s.phase = .off → exec .resetnFall s = .next s)
    ∧ (s.phase ≠ .off → ∃ p, exec .resetnFall s
          = .next { State.reset with pending := s.pending, phase := .resetLow, smp := p, dram := s.dram }
        ∧ (s.smp.held = none → p = s.smp)
        ∧ (∀ h, s.smp.held = some h → h.reason = .reset → p = s.smp)
        ∧ (∀ h, s.smp.held = some h → h.reason ≠ .reset →
            p.held = none ∧ p.busData = if h.access.isWrite then s.smp.busData else 0))
    ∧ (s.phase = .resetLow → exec .resetnRise s = .next { s with phase := .initialising })
    ∧ (s.phase ≠ .resetLow → exec .resetnRise s = .next s)
    ∧ (∀ (c : Instr) (h : Held) (t : State), c = .resetnFall ∨ c = .resetnRise → s.smp.held = some h → h.reason = .reset →
        exec c s = .next t → t.smp.held = some h)
    ∧ ∀ w : WindowSize,
        (s.phase ≠ .initialising → exec (.dramInitialisationEnd w) s = .next s)
        ∧ (s.phase = .initialising →
          ∃ t, exec (.dramInitialisationEnd w) s = .next (match s.smp.held with
              | none => t
              | some h => goAhead h.access { t with smp := { t.smp with held := none } })
            ∧ t = { s with phase := .up, mad := { s.mad with window := some w },
                           chg := { s.chg with seconds := 0, tenths := 0, tenthCycles := 3277 },
                           sli := { s.sli with txRunning := true, txFrameNo := 0 }, dram := t.dram }
            ∧ Mem.bytes t.dram 0x30 4 = [0x00, BitVec.ofNat 8 (WindowSize.mib w), 0x00, 0x00]
            ∧ unchangedOutside [(0x30, 4)] s.dram t.dram))
  ∧ (∀ (s : State) (waiting : MadClient → Bool),
      let order : List MadClient := if s.mad.urgent then [.prn, .spt, .lne, .scn, .tableUnit] else [.spt, .lne, .prn, .scn, .tableUnit]
      (s.madGrant waiting = none ↔ ∀ c, waiting c = false)
      ∧ (∀ c, s.madGrant waiting = some c ↔
          ∃ i, order[i]? = some c ∧ waiting c = true ∧ ∀ (j : Nat) (d : MadClient), j < i → order[j]? = some d → waiting d = false))
  ∧ ∀ s : State,
      testUrgent s = { s with mad := { s.mad with urgent := (testUrgent s).mad.urgent } }
      ∧ ((testUrgent s).mad.urgent = true ↔ s.rgw.state = .run ∧ s.prn.state ≠ .stopped
          ∧ s.prn.slots.length < (s.prn.active.map PrintProfile.threshold).getD 0)

/-- BUS_WRITE in PASS to any word but the commit word: the enabled bytes reach DRAM, the other bytes of the word and all other
bytes stay, and nothing but DRAM changes. In RUN and WITHDRAWING a write to a word that is not part-owned, not a watched word
of the anchor or of a ring, and in no raw slot of an active scan passes as in PASS. -/
def Obligations.PlainWrites : Prop :=
  (∀ (off : BusAddr) (data : Word) (be : ByteEnables) (s : State),
      s.busReady off = true → s.rgw.state = .pass → wordOffset off ≠ 0x3C → be ≠ 0 →
      ∃ t, exec (.busWrite off data be) s = .next t ∧ StoresWord s t (wordOffset off) data be)
  ∧ (∀ (off : BusAddr) (data : Word) (be : ByteEnables) (s : State),
      s.busReady off = true → s.rgw.state ≠ .pass → s.partOwned (wordOffset off) = false → be ≠ 0 →
      wordOffset off ≠ 0x3C → wordOffset off ≠ s.cfg.cmdBase → wordOffset off ≠ s.cfg.evBase →
      s.rawSlot (wordOffset off) = none →
      ∃ t, exec (.busWrite off data be) s = .next t ∧ StoresWord s t (wordOffset off) data be)

/-- A bus read of a word of the window that lies in no print slot of the geometry in force returns what DRAM holds there, in
every operating state, and changes nothing else. Outside the window, in every operating state, a write is discarded and a
read returns a zero word; and while RESETn is low or the DRAM is being initialised an access waits with READY low, one
without byte enables too (the model's choice, log 47). -/
def Obligations.PlainReadsAndTurnedAwayAccesses : Prop :=
  (∀ (off : BusAddr) (be : ByteEnables) (s : State),
      s.busReady off = true → be ≠ 0 → s.printSlot (wordOffset off) = none →
      exec (.earlyRead off be) s
          = .next { s with smp := { s.smp with busData := BitVec.ofNat 32 (Mem.num s.dram (wordOffset off) 4) } }
        ∧ exec (.printSlotLastWordRead off be) s = exec (.earlyRead off be) s)
  ∧ (∀ (off : BusAddr) (data : Word) (be : ByteEnables) (s : State), s.smp.held = none →
      (s.phase = .up → s.windowBytes ≤ wordOffset off →
        exec (.busWrite off data be) s = .next s
          ∧ (be ≠ 0 → exec (.earlyRead off be) s = .next { s with smp := { s.smp with busData := 0 } }
            ∧ exec (.printSlotLastWordRead off be) s = .next { s with smp := { s.smp with busData := 0 } }))
      ∧ (s.phase = .resetLow ∨ s.phase = .initialising →
        exec (.busWrite off data be) s
            = .next { s with smp := { s.smp with held := some ⟨⟨true, wordOffset off, data, be⟩, .reset, 0⟩ } }
          ∧ exec (.earlyRead off be) s
            = .next { s with smp := { s.smp with held := some ⟨⟨false, wordOffset off, 0, be⟩, .reset, 0⟩ } }))

/-- PART_OWNED_WRITE: in RUN and WITHDRAWING a write to part-owned memory leaves DRAM unchanged but for the path status
record, which takes the dropped-write count, grown by 1 up to 65535, and the offset, its other fields being what they are;
PROTECTED_WRITE is posted when the count leaves 0. A bus read of a part-owned word, which lies in no print slot, returns the
word as DRAM holds it and changes nothing else (R12). -/
def Obligations.PartOwnedWriteDropped : Prop :=
  ∀ (off : BusAddr) (data : Word) (be : ByteEnables) (s : State),
    s.busReady off = true → s.rgw.state ≠ .pass → wordOffset off ≠ 0x3C → s.partOwned (wordOffset off) = true → be ≠ 0 →
    (∃ u, exec (.partOwnedWrite off data be) s
        = .next (if s.rgw.droppedCount = 0 then post .protectedWrite .path 0 0 (wordOffset off) u else u)
      ∧ u = { s with rgw := { s.rgw with droppedCount := min (s.rgw.droppedCount + 1) 65535,
                                         lastDropped := some (wordOffset off) }, dram := u.dram }
      ∧ Mem.num u.dram (s.por 0) 2 = min (s.rgw.droppedCount + 1) 65535 ∧ Mem.num u.dram (s.por 4) 4 = wordOffset off
      ∧ Mem.bytes u.dram (s.por 2) 1 = u8 s.windowMiB
      ∧ Mem.bytes u.dram (s.por 8) 4 = le 2 s.freeCount ++ le 2 s.emptyPages
      ∧ unchangedOutside [(s.por 0, 12)] s.dram u.dram)
    ∧ (s.printSlot (wordOffset off) = none →
      exec (.earlyRead off be) s
          = .next { s with smp := { s.smp with busData := BitVec.ofNat 32 (Mem.num s.dram (wordOffset off) 4) } }
        ∧ exec (.printSlotLastWordRead off be) s = exec (.earlyRead off be) s)

/-! ## Entering and leaving service -/

/-- COMMIT in PASS, for every write that leaves the commit word at 1: status CHECKING is written and the anchor is copied as
it stands after the write, to wait for RUN entry, when every check passes; otherwise the status word takes the code and number
of the first check that fails, and no copy is kept. -/
def Obligations.CommitChecksAnchor : Prop :=
  ∀ (data : Word) (be : ByteEnables) (s : State),
    s.busReady 0x3C = true → s.rgw.state = .pass → s.rgw.validating = false → be ≠ 0 → s.wordAfter 0x3C data be = 1 →
    let m := Mem.write s.dram 0x3C [1, 0, 0, 0]
    let m' := Mem.write m 0x30 [0x01, BitVec.ofNat 8 s.windowMiB, 0x00, 0x00]
    ∃ t, exec (.commit data be) s = .next t
      ∧ (match (readAnchor m).fault s.windowBytes m' with
        | none =>
          t = { s with rgw := { s.rgw with copy := some (readAnchor m), validating := true }, dram := t.dram }
            ∧ Mem.bytes t.dram 0x30 4 = [0x01, BitVec.ofNat 8 s.windowMiB, 0x00, 0x00]
        | some (k, st) =>
          t = { s with rgw := { s.rgw with copy := none, noted := false }, dram := t.dram }
            ∧ Mem.bytes t.dram 0x30 4
                = [BitVec.ofNat 8 (statusCode st), BitVec.ofNat 8 s.windowMiB, BitVec.ofNat 8 k, BitVec.ofNat 8 (k / 256)])
      ∧ Mem.bytes t.dram 0x3C 4 = [1, 0, 0, 0]
      ∧ unchangedOutside [(0x30, 4), (0x3C, 4)] s.dram t.dram

/-- RUN_ENTRY of a validated anchor without a noted withdraw: the map is in force, every block takes its RUN-entry values,
the reception and charge tables are adopted or set empty as keep-tables says, the lowest segment is on top of the stack,
status ACCEPTED stands and ANCHOR_ACCEPTED is the first record of the event ring. The LINK_STATE of the link as it stands
is the second, with the loss counter at 0, and LOG_NEAR_FULL the third when the adopted records in use disarm the near-full
mark (this order: log 15); the event tail has advanced past them, nothing is queued, carried out or held back, and ATTN is
high. The SLI takes its RUN-entry values and goes on with its transmitter, receiver and link as they were; that messages
which wait for their check stay, and blocks do not, is the model's reading (log 29). The scan indexes K and C and the printer's
F and Rd, which R59 and R174 give as none there, are held as 0, as at power-on (the model's choice, log 8). Adopted tables are taken as their bytes
stand, each value outside its range brought into it, with reserved amounts 0 and exhausted marks armed, and none of their
bytes is rewritten (where a field's bytes lie in its record is logs 12 and 71, how a byte out of range reads log 14): the routes,
the sender filter's bins, the default route, the prefixes, bands and rates, each account's state, limit, spent amount,
call count and seconds per page, and the charge log's oldest slot (mod 4096), records in use and next sequence (0 read as
1). Set empty, there are no routes and no prefixes, every bin is clear, the default route has class normal and nothing
else set, the bands are 0, the rates 0 with a period of 600, the accounts UNUSED with limit, spent amount and calls 0 and
60 seconds per page, and the log's oldest slot and records in use are 0 with next sequence 1. On both paths no log slot is
reserved, no call record stands, and the time base goes on as it was. With a withdraw noted, RUN_ENTRY does all that it
does without the note, the note is cleared, and the part goes on to WITHDRAWING with WITHDRAWN posted behind
ANCHOR_ACCEPTED (stated with no print read held; that the withdraw is part of this one step is log 16). Without a
validation in progress RUN_ENTRY does nothing. -/
def Obligations.RunEntry : Prop :=
  (∀ s : State, s.mapLaw = true → s.rgw.validating = true → s.rgw.noted = false →
    ∃ t, exec .runEntry s = .next t
      ∧ t.rgw = { Rgw.reset with state := .run, copy := s.rgw.copy }
      ∧ t.mad = { s.mad with urgent := false } ∧ t.scn = Scn.reset ∧ t.dju = Dju.reset ∧ t.lne = Lne.reset
      ∧ t.prn = Prn.reset ∧ t.psm = { Psm.reset with stack := List.range s.cfg.segCount }
      ∧ t.rxr = (if s.cfg.keep then readRxr s.dram s.cfg.porBase else Rxr.reset)
      ∧ t.chg = (if s.cfg.keep then readChg s.dram s.cfg.porBase s.chg else emptyChg s.chg)
      ∧ t.ceu = { head := 0, tail := 0, evHead := 0, evTail := if t.chg.nearArmed then 2 else 3, queue := [], discard := 0,
                  carrying := false, accepted := true, withdrawnHeld := none, withdrawnWritten := false, attn := true }
      ∧ t.sli = { s.sli with
          queue := [], txPos := 0, handings := [], outBlocks := [], asm := .gap, asmLen := 0, asmBytes := [],
          asmFailed := false, inLines := [], lossCount := 4, serviceCheck := false, autoResync := true, alignErrors := 0,
          crcErrors := 0, farEndErrors := 0, losses := 0, items := t.sli.items }
      ∧ t.sli.items.Sublist s.sli.items ∧ (∀ n b, .block n b ∉ t.sli.items)
      ∧ (∀ m f, t.sli.items.count (.message m f) = s.sli.items.count (.message m f))
      ∧ t.sentAlarm = !s.linkUp
      ∧ Mem.bytes t.dram 0x30 4 = [0x02, BitVec.ofNat 8 s.windowMiB, 0x00, 0x00]
      ∧ (let record (i : Nat) (kind : EventKind) (src : SourceKind) (idx code value : Nat) : Prop :=
          Mem.bytes t.dram (s.cfg.evBase + 64 + 16 * i) 16
            = ({ kind, src, idx, tag := 0, code, lost := 0, time := s.chg.seconds, value } : Event).bytes
        record 0 .anchorAccepted .path 0 0 s.windowMiB
          ∧ record 1 .linkState .link 0 (if s.linkUp then 1 else 0) 0
          ∧ (t.chg.nearArmed = false → record 2 .logNearFull .log t.chg.logOldest 0 t.chg.logInUse))
      ∧ Mem.num t.dram (s.cfg.cmdBase + 4) 4 = 0 ∧ Mem.num t.dram (s.cfg.evBase + 4) 4 = t.ceu.evTail
      ∧ t.smp = s.smp ∧ t.phase = s.phase ∧ t.pending = s.pending
      ∧ (s.cfg.keep = true →
        (∀ a, (s.por 0x2B000 ≤ a ∧ a < s.por 0x2C000) ∨ (s.por 0x34000 ≤ a ∧ a < s.por 0x79000) →
          Mem.get t.dram a = Mem.get s.dram a)
        ∧ (let n := Mem.num s.dram (s.por 0x2B820) 1
          n ≤ 64 → t.rxr.routes.length = n ∧ ∀ i, i < n →
            let b (o : Nat) := Mem.num s.dram (s.por (0x2B000 + 32 * i + o)) 1
            t.rxr.routes[i]? = some
              { digitCount := b 0, digits := Mem.bytes s.dram (s.por (0x2B000 + 32 * i + 1)) 8, desk := min 31 (b 9),
                tray := min 3 (b 10), copies := min 9 (b 11), printClass := b 12 % 2, filter := (b 13).testBit 0,
                autoDelete := (b 13).testBit 1 })
        ∧ (let n := Mem.num s.dram (s.por 0x34840) 2
          n ≤ 256 → t.chg.prefixes.length = n ∧ ∀ i, i < n → t.chg.prefixes[i]? = some
              { count := Mem.num s.dram (s.por (0x35000 + 32 * i)) 1,
                chars := Mem.bytes s.dram (s.por (0x35000 + 32 * i + 1)) 12,
                zone := min 31 (Mem.num s.dram (s.por (0x35000 + 32 * i + 13)) 1) })
        ∧ (∀ h, h < 168 → t.band h = min 3 (Mem.num s.dram (s.por (0x34000 + h)) 1))
        ∧ (∀ i, i < 128 → let f (k : Nat) := Mem.num s.dram (s.por (0x37000 + 16 * i + 2 * k)) 2
            t.rate i = { setUp := f 0, period := max 1 (min 36000 (f 1)), n1 := f 2, n2 := max (f 2) (f 3), a1 := f 4,
                         a2 := f 5, a3 := f 6 })
        ∧ (∀ i, i < 64 → let a := s.por (0x38000 + 64 * i)
            let code := Mem.num s.dram a 1
            (t.account i).reserved = 0 ∧ (t.account i).armed = true ∧ (t.account i).spent = Mem.num s.dram (a + 8) 4
              ∧ (t.account i).secondsPerPage = max 10 (min 600 (Mem.num s.dram (a + 0x1C) 2))
              ∧ (t.account i).state = (if code = 1 then .opened else if code = 2 then .blocked else .unused)
              ∧ (t.account i).limit = (if Mem.num s.dram (a + 1) 1 = 0 then some (Mem.num s.dram (a + 4) 4) else none)
              ∧ (t.account i).calls = Mem.num s.dram (a + 0x18) 4)
        ∧ (∀ k, k < 256 → t.rxr.bins.getLsbD k = (Mem.num s.dram (s.por (0x2B800 + k / 8)) 1).testBit (k % 8))
        ∧ (let b (o : Nat) := Mem.num s.dram (s.por (0x2B840 + o)) 1
          t.rxr.defaultRoute = { digitCount := 0, digits := [], desk := min 31 (b 9), tray := min 3 (b 10),
                                 copies := min 9 (b 11), printClass := b 12 % 2, filter := (b 13).testBit 0,
                                 autoDelete := (b 13).testBit 1 })
        ∧ (let n := Mem.num s.dram (s.por 0x34802) 2
          n ≤ 4096 → t.chg.logInUse = n ∧ t.chg.nearArmed = decide (n < 3840))
        ∧ t.chg.logOldest = Mem.num s.dram (s.por 0x34800) 2 % 4096
        ∧ t.chg.logNext = (if Mem.num s.dram (s.por 0x34804) 4 = 0 then 1 else Mem.num s.dram (s.por 0x34804) 4))
      ∧ (s.cfg.keep = false →
        t.rxr.routes = [] ∧ (∀ k, t.rxr.bins.getLsbD k = false)
        ∧ t.rxr.defaultRoute = { digitCount := 0, digits := [], desk := 0, tray := 0, copies := 0, printClass := 1,
                                 filter := false, autoDelete := false }
        ∧ t.chg.prefixes = [] ∧ (∀ h, t.band h = 0)
        ∧ (∀ i, t.rate i = { setUp := 0, period := 600, n1 := 0, n2 := 0, a1 := 0, a2 := 0, a3 := 0 })
        ∧ (∀ i, t.account i = { state := .unused, limit := some 0, spent := 0, reserved := 0, calls := 0,
                                secondsPerPage := 60, armed := true })
        ∧ t.chg.logOldest = 0 ∧ t.chg.logInUse = 0 ∧ t.chg.logNext = 1 ∧ t.chg.nearArmed = true
        ∧ Mem.num t.dram (s.por 0x2B820) 1 = 0 ∧ Mem.num t.dram (s.por 0x2B800) 32 = 0
        ∧ Mem.num t.dram (s.por 0x34840) 2 = 0 ∧ Mem.num t.dram (s.por 0x34800) 2 = 0
        ∧ Mem.num t.dram (s.por 0x34802) 2 = 0 ∧ Mem.num t.dram (s.por 0x34804) 4 = 1)
      ∧ t.chg.logReserved = 0 ∧ t.chg.calls = [] ∧ t.chg.seconds = s.chg.seconds ∧ t.chg.tenths = s.chg.tenths
      ∧ t.chg.tenthCycles = s.chg.tenthCycles ∧ t.chg.clockSet = s.chg.clockSet ∧ t.chg.weekOffset = s.chg.weekOffset)
  ∧ (∀ s : State, s.mapLaw = true → s.rgw.validating = true → s.rgw.noted = true →
      (∀ h, s.smp.held = some h → h.reason ≠ .print) →
      let clear : State := { s with rgw := { s.rgw with noted := false } }
      ∃ t, exec .runEntry clear = .next t
        ∧ exec .runEntry s = .next (post .withdrawn .path 0 0 0 { t with rgw := { t.rgw with state := .withdrawing } }))
  ∧ (∀ s : State, s.rgw.validating = false → exec .runEntry s = .next s)

/-- WITHDRAW, for every write that leaves the commit word at 0. With ANCHOR_ACCEPTED posted and the part at rest (no scan,
no destination, no session, no access in the way) printing stops, substitutions end, idle lines become UNAVAILABLE, of
DRAM only the commit word and line session records change, and WITHDRAWN is posted. With a scan, sessions or destinations
live, the scan ends and its geometry goes, printing stops and no slot stays substituted, and the jobs and destinations are
discarded; then WITHDRAWN is posted. When no line is in DATA_WAIT, or there is neither a scan nor an inbound session (a
line in DATA_WAIT beside one of these is left out), every line is UNAVAILABLE, each session has ended with cause
WITHDRAWN, or with its own in CLEARING, in a record that takes the model's defaults in every field but state and cause
(log 25), and the call record of each outbound one is gone. A single line in session, without a scan and without a block
on its way to the store, is handed CLEAR, ABANDON and CLEAR, or nothing, by its state. Before ANCHOR_ACCEPTED, or while
the anchor is being checked, the request is noted. The order of the blocks in one withdraw is log 17; that the print
profile in force, slot geometry and slot records stay until PASS is the model's choice (log 63). -/
def Obligations.Withdraw : Prop :=
  ∀ (data : Word) (be : ByteEnables) (s : State),
    s.busReady 0x3C = true → be ≠ 0 → s.wordAfter 0x3C data be = 0 →
    (s.rgw.state = .run → s.mapPassed = true → s.ceu.accepted = true →
      s.scn.state = .scanIdle → s.dju.dests = [] → (∀ n, (s.line n).state.inSession = false) →
      ∃ u, exec (.withdraw data be) s = .next (post .withdrawn .path 0 0 0 u)
        ∧ u = { s with rgw := { s.rgw with state := .withdrawing, noted := false }, mad := { s.mad with urgent := false },
                       scn := { s.scn with sealedCount := 0, lastSealed := none, extraPosted := false },
                       dju := { s.dju with jobs := [], passDue := false }, lne := u.lne,
                       prn := { s.prn with state := .stopped, rendering := none, sheetOpen := false,
                                           slots := s.prn.slots.map fun r => { r with substitute := none } },
                       dram := u.dram }
        ∧ (∀ n, (u.line n).state = .unavailable) ∧ u.lne.grace = none ∧ Mem.num u.dram 0x3C 4 = 0
        ∧ unchangedOutside [(0x3C, 4), (s.por 0x80, 2048)] s.dram u.dram)
    ∧ (s.rgw.state = .run → s.mapPassed = true → s.ceu.accepted = true →
      ∃ u, exec (.withdraw data be) s = .next (post .withdrawn .path 0 0 0 u)
        ∧ u.rgw.state = .withdrawing ∧ u.rgw.noted = false ∧ u.mad.urgent = false ∧ u.scn.state = .scanIdle
        ∧ (s.scn.state ≠ .scanIdle → u.scn.doc = none ∧ u.scn.page = none ∧ u.rgw.rawGeom = none)
        ∧ u.prn.state = .stopped ∧ (∀ r ∈ u.prn.slots, r.substitute = none) ∧ u.prn.slots.length = s.prn.slots.length
        ∧ u.dju.jobs = [] ∧ u.dju.dests = [] ∧ u.lne.grace = none
        ∧ ((∀ n, (s.line n).state = .dataWait → s.scn.state = .scanIdle ∧ ∀ m, (s.line m).dir ≠ some .inbound) →
          (∀ n, u.line n = if (s.line n).state.inSession then
              { LineRec.default with
                  state := .unavailable,
                  cause := some (if (s.line n).state = .clearing then (s.line n).cause.getD .withdrawn else .withdrawn) }
            else { s.line n with state := .unavailable })
          ∧ (∀ n : Line, Tab.get? u.chg.calls n.val =
              if (s.line n).state.inSession = true ∧ (s.line n).dir = some .outbound then none
              else Tab.get? s.chg.calls n.val)
          ∧ (∀ n, (∀ m, (s.line m).state.inSession = true ↔ m = n) → s.scn.state = .scanIdle → (s.line n).storing = none →
              u.sli = (if (s.line n).state ∈ [.seizing, .dialling] then hand n .clear s
                       else if (s.line n).state = .clearing then s else hand n .clear (hand n .abandon s)).sli)))
    ∧ ((s.rgw.state = .run ∧ s.ceu.accepted = false) ∨ (s.rgw.state = .pass ∧ s.rgw.validating = true) →
      ∃ u v, exec (.withdraw data be) s = .next v ∧ StoresWord s u 0x3C data be
        ∧ v = { u with rgw := { u.rgw with noted := true } })

/-- WITHDRAW_END completes in every state of a withdraw. In WITHDRAWING with WITHDRAWN in the event ring it answers the
next state whole: status WITHDRAWN with value 0 is written and no other byte of DRAM changes, ATTN drops and the RGW
enters PASS without anchor copy, noted request and slot geometry, the CEU's tail is 0 and its queue empty, the SLI's
transmit queue, message assembly and blocks are gone, and the print profile in force and the slot records are dropped.
That these last until PASS and do not go as the withdraw starts is the model's choice (log 63). R121 names the transmit
queue, the assembly and the blocks alone: that messages which wait for their multiframe's check stay, and the blocks that
wait for one go, is the model's reading (log 29). That the slot fill and the read mark, for which the spec has no value while
no geometry is in force, stand at 0 is the model's choice (log 8). In WITHDRAWING before WITHDRAWN stands in the ring the part
stays as it is, and in any other operating state the row finds nothing to end, which is the model's reading of a row out of
its condition (log 2). -/
def Obligations.WithdrawEnds : Prop :=
  (∀ s : State, s.rgw.state = .withdrawing → s.ceu.withdrawnWritten = true →
    ∃ t, exec .withdrawEnd s = .next t
      ∧ t = { s with
          ceu := { s.ceu with attn := false, tail := 0, queue := [], discard := 0, accepted := false, withdrawnHeld := none,
                              withdrawnWritten := false },
          rgw := { s.rgw with state := .pass, copy := none, noted := false, printGeom := none },
          sli := { s.sli with queue := [], txPos := 0, handings := [], outBlocks := [], asm := .gap, asmLen := 0,
                              asmBytes := [], asmFailed := false, inLines := [], items := t.sli.items },
          dju := { s.dju with passDue := false },
          prn := { s.prn with active := none, fill := 0, read := 0, slots := [] },
          dram := t.dram }
      ∧ t.sli.items.Sublist s.sli.items ∧ (∀ n b, .block n b ∉ t.sli.items)
      ∧ (∀ m f, t.sli.items.count (.message m f) = s.sli.items.count (.message m f))
      ∧ Mem.bytes t.dram 0x30 4 = [0x03, BitVec.ofNat 8 s.windowMiB, 0x00, 0x00]
      ∧ unchangedOutside [(0x30, 4)] s.dram t.dram)
  ∧ (∀ s : State, s.rgw.state = .withdrawing → s.ceu.withdrawnWritten = false → exec .withdrawEnd s = .next s)
  ∧ (∀ s : State, s.rgw.state ≠ .withdrawing → exec .withdrawEnd s = .next s)

/-! ## Commands and events -/

/-- A bus write to the command ring tail word. In RUN a value below the slot count becomes the CEU's tail, whether or not it
lies ahead of the old one; any other value is ignored and RING_INDEX_BAD is posted with its value, and with code 0, which is
the model's choice (log 40). In WITHDRAWING the write passes and is not reported. A bus write to the event ring head word in
RUN or WITHDRAWING: an index outside the ring or past the tail is ignored and reported with RING_INDEX_BAD, whose code 0 is
the model's choice too (log 40); the CEU's own head changes nothing; any other index becomes the head, drops ATTN when it is
the tail, and lets the pending-event queue into the ring. At RUN entry tail and head are 0. -/
def Obligations.RingIndexWrites : Prop :=
  (∀ (off : BusAddr) (data : Word) (be : ByteEnables) (s : State),
    s.busReady off = true → s.mapPassed = true → be ≠ 0 → wordOffset off = s.cfg.cmdBase → s.rgw.state ≠ .pass →
    let v := s.wordAfter s.cfg.cmdBase data be
    ∃ u, StoresWord s u s.cfg.cmdBase data be
      ∧ exec (.commandRingTailWrite off data be) s = .next
        (if s.rgw.state = .withdrawing then u
         else if v < s.cfg.slotCount then { u with ceu := { u.ceu with tail := v } }
         else post .ringIndexBad .path 0 0 v u))
  ∧ (∀ (off : BusAddr) (data : Word) (be : ByteEnables) (s : State),
    s.busReady off = true → s.mapPassed = true → be ≠ 0 → wordOffset off = s.cfg.evBase → s.rgw.state ≠ .pass →
    let v := s.wordAfter s.cfg.evBase data be
    let n := s.cfg.recCount
    ∃ u, StoresWord s u s.cfg.evBase data be
      ∧ exec (.eventRingHeadWrite off data be) s = .next
        (if n ≤ v ∨ s.unread < (v + n - s.ceu.evHead) % n then post .ringIndexBad .path 1 0 v u
         else if v = s.ceu.evHead then u
         else serveQueue { u with ceu := { u.ceu with evHead := v,
                                                      attn := if v = s.ceu.evTail then false else s.ceu.attn } }))
  ∧ ∀ s : State, (runEntryValues s).ceu.tail = 0 ∧ (runEntryValues s).ceu.evHead = 0

/-- An event that reaches the CEU in RUN or WITHDRAWING before WITHDRAWN is written: with room in the ring and nothing
queued it is written at the tail and ATTN goes high; otherwise it joins the pending-event queue, or, with no place open to
it, it is held back (WITHDRAWN) or discarded and counted. It carries the discard count. Serving the pending-event queue:
with room, its oldest event goes into the ring and the rest is served on; a full ring leaves the queue as it is. A WITHDRAWN
that was held back is placed as soon as serving has opened a place: in the ring when that has room and nothing is queued,
else behind the queue, carrying the discard count, and it stays held back while no place is open. Once WITHDRAWN is written the ring is served no more: an event changes nothing, and serving empties the queue; that such events
are lost is the model's reading (log 38). -/
def Obligations.EventStream : Prop :=
  (∀ (kind : EventKind) (src : SourceKind) (idx tag code value : Nat) (s : State), s.rgw.state ≠ .pass →
      let e : Event := { kind, src, idx, tag, code, lost := s.ceu.discard, time := s.chg.seconds, value }
      let t := postTagged kind src idx tag code value s
      (s.ceu.withdrawnWritten = true → t = s)
      ∧ (s.ceu.withdrawnWritten = false →
        t = { s with ceu := t.ceu, dram := t.dram }
        ∧ (s.ringFull = false → s.ceu.queue = [] →
            Mem.bytes t.dram (s.cfg.evBase + 64 + 16 * s.ceu.evTail) 16 = e.bytes
            ∧ t.ceu.evTail = (s.ceu.evTail + 1) % s.cfg.recCount
            ∧ Mem.num t.dram (s.cfg.evBase + 4) 4 = t.ceu.evTail % 4294967296 ∧ t.ceu.attn = true ∧ t.ceu.discard = 0
            ∧ t.ceu.queue = []
            ∧ unchangedOutside [(s.cfg.evBase + 64 + 16 * s.ceu.evTail, 16), (s.cfg.evBase + 4, 4)] s.dram t.dram)
        ∧ ((s.ringFull = true ∨ s.ceu.queue ≠ []) → t.dram = s.dram
            ∧ (s.ceu.queue.length < s.openPlaces kind →
                t.ceu = { s.ceu with queue := s.ceu.queue ++ [e], discard := 0 })
            ∧ (s.openPlaces kind ≤ s.ceu.queue.length → kind = .withdrawn →
                t.ceu = { s.ceu with withdrawnHeld := some { e with lost := 0 } })
            ∧ (s.openPlaces kind ≤ s.ceu.queue.length → kind ≠ .withdrawn →
                t.ceu = { s.ceu with discard := min (s.ceu.discard + 1) 255 }))))
  ∧ (∀ s : State, s.ceu.withdrawnHeld = none →
      (s.ceu.withdrawnWritten = true → serveQueue s = { s with ceu := { s.ceu with queue := [] } })
      ∧ (s.ceu.withdrawnWritten = false →
        (s.ringFull = true → s.ceu.queue ≠ [] → serveQueue s = s)
        ∧ (∀ e es, s.ringFull = false → s.ceu.queue = e :: es →
            serveQueue s = serveQueue (writeRecord e { s with ceu := { s.ceu with queue := es } }))
        ∧ (s.ceu.queue = [] → serveQueue s = s)))
  ∧ (∀ (e : Event) (s : State), s.ceu.withdrawnHeld = some e → e.kind = .withdrawn →
      let v := serveQueue { s with ceu := { s.ceu with withdrawnHeld := none } }
      let kept : Event := { e with lost := v.ceu.discard }
      (v.ceu.withdrawnWritten = true → serveQueue s = v)
      ∧ (v.ceu.withdrawnWritten = false →
        (v.ringFull = false → v.ceu.queue = [] →
          let u := serveQueue s
          u = { v with
              ceu := { v.ceu with
                evTail := (v.ceu.evTail + 1) % v.cfg.recCount, attn := true, discard := 0, withdrawnWritten := true },
              dram := u.dram }
            ∧ Mem.bytes u.dram (v.cfg.evBase + 64 + 16 * v.ceu.evTail) 16 = kept.bytes
            ∧ Mem.num u.dram (v.cfg.evBase + 4) 4 = u.ceu.evTail % 4294967296
            ∧ unchangedOutside [(v.cfg.evBase + 64 + 16 * v.ceu.evTail, 16), (v.cfg.evBase + 4, 4)] v.dram u.dram)
        ∧ (v.ringFull = true ∨ v.ceu.queue ≠ [] →
          (v.ceu.queue.length < v.openPlaces .withdrawn →
            serveQueue s = { v with ceu := { v.ceu with queue := v.ceu.queue ++ [kept], discard := 0 } })
          ∧ (v.openPlaces .withdrawn ≤ v.ceu.queue.length →
            serveQueue s = { v with ceu := { v.ceu with withdrawnHeld := some e } }))))

/-- The answer of a command, outside PASS, before WITHDRAWN is written and with a map that has passed its checks: the head
advances round the ring and its word is written, COMMAND_DONE with the slot's tag goes into the event ring when it has
room and nothing is queued, and into the pending-event queue otherwise, and the CEU is free for the next slot; no other
byte of DRAM changes. -/
def Obligations.CommandDone : Prop :=
  ∀ (r : Reply) (s u : State), u.mapPassed = true → u.rgw.state ≠ .pass → u.ceu.withdrawnWritten = false →
    u.ceu.queue.length < 32 → u.ceu.evTail < u.cfg.recCount →
    let e : Event := { kind := .commandDone, src := r.src, idx := r.idx, tag := s.headSlot.tag, code := r.result.code,
                       lost := u.ceu.discard, time := u.chg.seconds, value := r.value }
    let t := s.answered r u
    t = { u with ceu := t.ceu, dram := t.dram }
    ∧ t.ceu.head = (u.ceu.head + 1) % u.cfg.slotCount ∧ Mem.num t.dram (u.cfg.cmdBase + 4) 4 = t.ceu.head
    ∧ t.ceu.tail = u.ceu.tail ∧ t.ceu.carrying = false ∧ t.ceu.discard = 0
    ∧ (u.ringFull = false ∧ u.ceu.queue = [] →
        Mem.bytes t.dram (u.cfg.evBase + 64 + 16 * u.ceu.evTail) 16 = e.bytes
          ∧ t.ceu.evTail = (u.ceu.evTail + 1) % u.cfg.recCount ∧ t.ceu.attn = true ∧ t.ceu.queue = [])
    ∧ (u.ringFull = true ∨ u.ceu.queue ≠ [] → t.ceu.queue = u.ceu.queue ++ [e])
    ∧ unchangedOutside [(u.cfg.cmdBase + 4, 4), (u.cfg.evBase + 64 + 16 * u.ceu.evTail, 16), (u.cfg.evBase + 4, 4)]
        u.dram t.dram

/-- Every command slot is checked before any state changes: a count above 14 is refused with RANGE and the count, a count
below what the command needs with SHORT and the need, and a kind that no command has with BAD_KIND and the kind; each
refusal changes nothing but what its answer writes. A slot waits, unread, while the CEU may not take it: the part is not
in RUN, ANCHOR_ACCEPTED is not written, no slot waits, a command is being carried out, or an event waits in the queue. A
row takes only slots of its own kind. That a row whose condition does not hold leaves the state as it is, is the model's
choice (log 2). -/
def Obligations.CommandTaking : Prop :=
  ((∀ (c : Instr) (kind need : Nat) (s : State), (c, kind, need) ∈ commandTable → s.canTake = true → s.headSlot.kind = kind →
      (14 < s.headSlot.count → exec c s = .next (s.answered (Reply.path .range s.headSlot.count) s.carry))
      ∧ (s.headSlot.count ≤ 14 → s.headSlot.count < need → exec c s = .next (s.answered (Reply.path .short need) s.carry)))
    ∧ ∀ s : State, s.canTake = true → s.headSlot.kind ∉ commandTable.map (fun r => r.2.1) →
        exec .unknownCommandKind s = .next (s.answered (Reply.path .badKind s.headSlot.kind) s.carry))
  ∧ ((∀ (c : Instr) (kind need : Nat) (s : State), (c, kind, need) ∈ commandTable →
      s.rgw.state ≠ .run ∨ s.ceu.accepted = false ∨ s.ceu.head = s.ceu.tail ∨ s.ceu.carrying = true ∨ s.ceu.queue ≠ []
        ∨ s.headSlot.kind ≠ kind → exec c s = .next s)
    ∧ ∀ s : State, s.rgw.state ≠ .run ∨ s.ceu.accepted = false ∨ s.ceu.head = s.ceu.tail ∨ s.ceu.carrying = true
        ∨ s.ceu.queue ≠ [] ∨ s.headSlot.kind ∈ commandTable.map (fun r => r.2.1) → exec .unknownCommandKind s = .next s)

/-- CLEAR_PATH_COUNT: the dropped-write count becomes 0 and the path status record is written, the last dropped offset stays,
the answer is DONE with the count before, and the next dropped write posts PROTECTED_WRITE again. That byte 03h of the
record, to which Table 11-6 gives no field, is 00h is the model's reading (log 12). -/
def Obligations.ClearPathCount : Prop :=
  ∀ s : State, s.readyFor 0x01 0 = true →
    ∃ u, exec .clearPathCount s = .next (s.answered (Reply.path .done s.rgw.droppedCount) u)
      ∧ u = { s.carry with rgw := { s.rgw with droppedCount := 0 }, dram := u.dram }
      ∧ Mem.bytes u.dram (s.por 0) 12
          = le 2 0 ++ u8 s.windowMiB ++ [0x00] ++ le 4 (s.rgw.lastDropped.getD 0xFFFFFFFF) ++ le 2 s.freeCount
              ++ le 2 s.emptyPages
      ∧ unchangedOutside [(s.por 0, 12)] s.dram u.dram
      ∧ ∀ (off : Nat) (v : State), v.rgw = u.rgw → ∃ w, dropWrite off v = post .protectedWrite .path 0 0 off w

/-! ## Page code, page store and scan -/

/-- Decoding a coded line gives the line back, whatever its reference line and whatever follows it in the stream: the decoder
takes exactly the bytes of the code and finds nothing malformed. It holds for every line of each width class. -/
def Obligations.PageCodeRoundTrip : Prop :=
  ∀ (cls : WidthClass) (ref line : List Bool) (rest : List Byte), line.length = cls.dots →
    decodeLine cls.dots ref (codeLine cls.dots ref line ++ rest) = ⟨line, (codeLine cls.dots ref line).length, false⟩

/-- The seal of a FILLING page: the segments beyond those the coded length needs go back on the stack, first segment
first; the record takes the coded length, the line count, the check over the stream bytes as they then stand, the time,
and state DAMAGED when it carries SCAN_OVERRUN or TRUNCATED and SEALED otherwise. Other pages keep their records. In DRAM
nothing changes but the page's record, the stack entries of the segments returned, the trailer of the last segment kept,
the path status record and the bytes of a STORE_LOW event. -/
def Obligations.SealedPageRecord : Prop :=
  ∀ (p lc lines : Nat) (r : PageRec) (s : State), s.page? p = some r → r.state = .filling → segsFor lc ≤ r.chain.length →
    let n := segsFor lc
    let t := sealRecord p lc lines s
    t.page? p = some { r with codedLen := lc, lineCount := lines, chain := r.chain.take n, sealedTime := s.chg.seconds,
                              check := crc16 ((trimPage p lc s).streamBytes r.chain 0 lc),
                              state := if r.scanOverrun || r.truncated then .damaged else .complete }
      ∧ t.psm.stack = (r.chain.drop n).reverse ++ s.psm.stack
      ∧ (∀ q, q ≠ p → t.page? q = s.page? q)
      ∧ t = { s with psm := { s.psm with pages := t.psm.pages, stack := t.psm.stack, lowArmed := t.psm.lowArmed },
                     ceu := t.ceu, dram := t.dram }
      ∧ (r.chain.length = n → t.psm.lowArmed = s.psm.lowArmed ∧ t.ceu = s.ceu
          ∧ unchangedOutside [(s.pageAddr p, 64)] s.dram t.dram)
      ∧ unchangedOutside
          ([(s.pageAddr p, 64), (s.por 0, 12), (s.cfg.evBase + 64 + 16 * s.ceu.evTail, 16), (s.cfg.evBase + 4, 4)]
            ++ ((List.range (r.chain.length - n)).map fun i => (s.por (0x79000 + 2 * (s.freeCount + i)), 2))
            ++ (r.chain.take n).getLast?.toList.map fun l => (s.segAddr l + 1020, 4)) s.dram t.dram

/-- SET_SCAN_PROFILE of profile 0 to 3. A setting whose parameter is not supplied keeps its value; widths, strides, heights,
offsets, margins, bands, threshold and brightness are rounded and clamped, and every other setting is stored as given. The
answer is DONE, or DONE_CLAMPED with the position of the first parameter that clamping changed. A width class code 3, a stride
below the width, or curve points or bounds out of order refuse the command and change nothing. No other profile and no other
state changes. A count of 0 names no profile and is answered DONE (R27). -/
def Obligations.SetScanProfile : Prop :=
  (∀ s : State, s.readyFor 0x10 0 = true → s.headSlot.count = 0 →
      exec .setScanProfile s = .next (s.answered (Reply.path .done 0) s.carry))
  ∧ ∀ s : State, s.readyFor 0x10 1 = true →
    let sl := s.headSlot
    let i := sl.num 0
    let p := s.profile i
    let win := if sl.has 1 then max 64 (min 4096 (sl.num 1 / 4 * 4)) else p.win
    let dots := if sl.has 12 then (if sl.field 12 28 2 = 0 then WidthClass.a else if sl.field 12 28 2 = 1 then .b else .c)
      else p.cls
    let band (k : Nat) (b : Band) : Band :=
      if sl.has k then ⟨min 4096 (sl.field k 0 16), min 4096 (sl.field k 16 16)⟩ else b
    let q : Profile :=
      { win := win, stride := if sl.has 2 then max 32 (min 65504 (sl.num 2 / 32 * 32)) else p.stride,
        lane := if sl.has 12 then (if sl.flag 12 24 then .highFirst else .lowFirst) else p.lane, cls := dots,
        res := if sl.has 12 then (if sl.flag 12 25 then .fine else .standard) else p.res,
        lowBypass := if sl.has 12 then sl.flag 12 26 else p.lowBypass,
        highBypass := if sl.has 12 then sl.flag 12 27 else p.highBypass,
        x0 := if sl.has 3 then min (win - 1) (sl.field 3 0 16) else p.x0,
        height := if sl.has 3 then max 1 (min 4096 (sl.field 3 16 16)) else p.height,
        ml := if sl.has 4 then min dots.dots (sl.field 4 0 16) else p.ml,
        mr := if sl.has 4 then min dots.dots (sl.field 4 16 16) else p.mr,
        mt := if sl.has 5 then min 4096 (sl.field 5 0 16) else p.mt,
        mb := if sl.has 5 then min 4096 (sl.field 5 16 16) else p.mb,
        band0 := band 6 p.band0, band1 := band 7 p.band1, band2 := band 8 p.band2, band3 := band 9 p.band3,
        k0 := if sl.has 10 then sl.field 10 0 10 else p.k0, k1 := if sl.has 10 then sl.field 10 10 10 else p.k1,
        k2 := if sl.has 10 then sl.field 10 20 10 else p.k2,
        s1 := if sl.has 11 then sl.field 11 0 8 else p.s1, s2 := if sl.has 11 then sl.field 11 8 8 else p.s2,
        d1 := if sl.has 11 then sl.field 11 16 8 else p.d1, d2 := if sl.has 11 then sl.field 11 24 8 else p.d2,
        lo := if sl.has 12 then sl.field 12 0 8 else p.lo, hi := if sl.has 12 then sl.field 12 8 8 else p.hi,
        thr := if sl.has 12 then max 1 (min 255 (sl.field 12 16 8)) else p.thr,
        brightness := if sl.has 13 then max (-128) (min 127 (sl.word 13).toInt) else p.brightness }
    let wrong (k lo hi v : Nat) : Bool := sl.has k && (decide (v < lo) || decide (hi < v))
    let halves (k lo hi lo' hi' : Nat) : Bool := wrong k lo hi (sl.field k 0 16) || wrong k lo' hi' (sl.field k 16 16)
    let clamped : Option Nat :=
      if wrong 1 64 4096 (sl.num 1 / 4 * 4) then some 1
      else if wrong 2 32 65504 (sl.num 2 / 32 * 32) then some 2
      else if halves 3 0 (win - 1) 1 4096 then some 3
      else if halves 4 0 dots.dots 0 dots.dots then some 4
      else if halves 5 0 4096 0 4096 then some 5
      else if halves 6 0 4096 0 4096 then some 6
      else if halves 7 0 4096 0 4096 then some 7
      else if halves 8 0 4096 0 4096 then some 8
      else if halves 9 0 4096 0 4096 then some 9
      else if wrong 12 1 255 (sl.field 12 16 8) then some 12
      else if sl.has 13 = true ∧ ((sl.word 13).toInt < -128 ∨ 127 < (sl.word 13).toInt) then some 13
      else none
    (3 < i → exec .setScanProfile s = .next (s.answered (Reply.path .range 0) s.carry))
    ∧ (i ≤ 3 → sl.has 12 = true → sl.field 12 28 2 = 3 →
        exec .setScanProfile s = .next (s.answered (Reply.path .range 12) s.carry))
    ∧ (i ≤ 3 → (sl.has 12 = true → sl.field 12 28 2 ≠ 3) →
        (q.stride < q.win →
          exec .setScanProfile s = .next (s.answered (Reply.path .range (if sl.has 2 then 2 else 1)) s.carry))
        ∧ (q.win ≤ q.stride → q.s2 < q.s1 → exec .setScanProfile s = .next (s.answered (Reply.path .range 11) s.carry))
        ∧ (q.win ≤ q.stride → q.s1 ≤ q.s2 → q.hi < q.lo →
            exec .setScanProfile s = .next (s.answered (Reply.path .range 12) s.carry))
        ∧ (q.win ≤ q.stride → q.s1 ≤ q.s2 → q.lo ≤ q.hi →
            ∃ u, exec .setScanProfile s = .next (s.answered (Reply.doneOr clamped .path 0 0) u)
              ∧ u = { s.carry with scn := { s.scn with profiles := u.scn.profiles } }
              ∧ u.profile i = q ∧ (∀ j, j ≠ i → u.profile j = s.profile j)))

/-- BEGIN_SCAN on an OPEN outbound document with a free raw ring of 8 slots or more, 16 free segments, an EMPTY page record
and room in the document: the scan waits BETWEEN_PAGES with the chosen profile and mode, both ring indexes at 0, no marks and
the geometry watched, and nothing else changes. The checks before are answered in their order. -/
def Obligations.BeginScan : Prop :=
  ∀ s : State, s.readyFor 0x11 3 = true →
    let sl := s.headSlot
    let d := sl.num 0
    let prof := s.profile (sl.num 1)
    let slots := s.cfg.rawSize / prof.stride
    (3 < sl.num 1 → exec .beginScan s = .next (s.answered (Reply.path .range 1) s.carry))
    ∧ (sl.num 1 ≤ 3 → 1 < sl.num 2 → exec .beginScan s = .next (s.answered (Reply.path .range 2) s.carry))
    ∧ (sl.num 1 ≤ 3 → sl.num 2 ≤ 1 → s.doc? d = none →
        exec .beginScan s = .next (s.answered (Reply.path .noEntry 0) s.carry))
    ∧ ∀ doc, sl.num 1 ≤ 3 → sl.num 2 ≤ 1 → s.doc? d = some doc →
        (s.scn.state ≠ .scanIdle ∨ doc.dir ≠ .outbound ∨ doc.state ≠ .opened →
          exec .beginScan s = .next (s.answered (Reply.path .wrongState 0) s.carry))
        ∧ (s.scn.state = .scanIdle → doc.dir = .outbound → doc.state = .opened →
          (slots < 8 → exec .beginScan s = .next (s.answered (Reply.path .range 1) s.carry))
          ∧ (8 ≤ slots → s.freeCount < 16 ∨ s.emptyPages = 0 →
              exec .beginScan s = .next (s.answered (Reply.path .noStore s.freeCount) s.carry))
          ∧ (8 ≤ slots → 16 ≤ s.freeCount → s.emptyPages ≠ 0 → 128 ≤ doc.places.length →
              exec .beginScan s = .next (s.answered (Reply.path .full 0) s.carry))
          ∧ (8 ≤ slots → 16 ≤ s.freeCount → s.emptyPages ≠ 0 → doc.places.length < 128 →
              ∃ u, exec .beginScan s = .next (s.answered ⟨.done, .document, d, slots⟩ u)
                ∧ u = { s.carry with
                    rgw := { s.rgw with rawGeom := some ⟨prof.stride, slots, prof.win⟩, started := false },
                    scn := { s.scn with
                      state := .betweenPages, doc := some d, active := some prof,
                      mode := some (if sl.num 2 = 0 then .single else .continuous), take := 0, comp := 0, waiting := 0,
                      overruns := [], voids := [], page := none, outLines := 0, rawLines := 0, half := none, ref := [],
                      streamLen := 0, sealedCount := 0, lastSealed := none, extraPosted := false } }))

/-- END_PAGE and END_SCAN on the document being scanned, with no complete slot waiting and no page open: END_PAGE answers
DONE and leaves the scan BETWEEN_PAGES, END_SCAN answers the number of pages the scan sealed and ends it with its geometry
and marks; a slot that was started takes a void mark, of which a slot has at most one. END_PAGE names there path 0 with value
0, also when the scan sealed pages before: that "the page sealed last" is the one this command sealed is the model's reading
(log 19). In PAGE_FULL END_PAGE answers the page sealed at H with its lines, and the scan is BETWEEN_PAGES. With a page open, no line owed, no slot waiting and no
line waiting for the document, either command seals the page as it stands: END_PAGE answers it with its lines and leaves
the scan BETWEEN_PAGES, END_SCAN ends the scan and counts it. Whatever waits, END_SCAN ends in SCAN_IDLE; a held lapping
write is released with the scan, and any other held access stays held. The released write's enabled bytes then stand in
DRAM and the word's other bytes are as before: stated for a write to the raw scan ring, with no page open and either no
slot waiting or the page full with any number of slots waiting, and with a page open and at most one slot waiting. A
document that is unknown or not being scanned is refused. -/
def Obligations.EndPageAndEndScan : Prop :=
  (∀ s : State,
    let sl := s.headSlot
    let d := sl.num 0
    let marks := if s.rgw.started = true ∧ s.scn.comp ∉ s.scn.voids then s.scn.voids ++ [s.scn.comp] else s.scn.voids
    let ended (v : State) : State :=
      { v with
          rgw := { v.rgw with rawGeom := none, started := false },
          scn := { v.scn with state := .scanIdle, doc := none, active := none, mode := none, take := 0, comp := 0,
                              waiting := 0, overruns := [], voids := [], page := none, half := none, ref := [],
                              outLines := 0, rawLines := 0, streamLen := 0 } }
    (s.readyFor 0x12 1 = true ∨ s.readyFor 0x13 1 = true →
      ∀ c, (c = .endPage ∧ s.headSlot.kind = 0x12) ∨ (c = .endScan ∧ s.headSlot.kind = 0x13) →
        (s.doc? d = none → exec c s = .next (s.answered (Reply.path .noEntry 0) s.carry))
        ∧ ((s.doc? d).isSome → s.scn.doc ≠ some d → exec c s = .next (s.answered (Reply.path .wrongState 0) s.carry)))
    ∧ ((s.doc? d).isSome → s.scn.doc = some d → s.scn.waiting = 0 → s.scn.page = none →
        (s.scn.state = .betweenPages → s.readyFor 0x12 1 = true →
          exec .endPage s = .next (s.answered (Reply.path .done 0)
            { s.carry with scn := { s.scn with voids := marks, lastSealed := none } }))
        ∧ (s.scn.state = .pageFull → s.readyFor 0x12 1 = true → ∀ p lines, s.scn.lastSealed = some (p, lines) →
          exec .endPage s = .next (s.answered ⟨.done, .page, p, lines⟩
            { s.carry with scn := { s.scn with voids := marks, state := .betweenPages } }))
        ∧ (s.readyFor 0x13 1 = true → s.smp.held = none →
          exec .endScan s = .next (s.answered ⟨.done, .document, d, s.scn.sealedCount⟩ (ended s.carry))))
    ∧ (∀ p r doc prof, s.scn.doc = some d → s.scn.active = some prof → s.scn.waiting = 0 → s.scn.state = .inPage →
        s.scn.page = some p → s.scn.half = none → s.scn.streamLen ≠ 0 → s.page? p = some r → r.doc = d →
        s.doc? d = some doc → doc.keep = true → (∀ n, (s.line n).state = .dataWait → (s.line n).doc ≠ some d) →
        let sealedPage : State := { sealRecord p s.scn.streamLen s.scn.outLines s.carry with
          scn := { s.scn with voids := marks, page := none, half := none, sealedCount := s.scn.sealedCount + 1,
                              lastSealed := some (p, s.scn.outLines), extraPosted := false },
          dju := { s.dju with passDue := true } }
        (s.readyFor 0x12 1 = true →
          exec .endPage s = .next (s.answered ⟨.done, .page, p, s.scn.outLines⟩
            { sealedPage with scn := { sealedPage.scn with state := .betweenPages } }))
        ∧ (s.readyFor 0x13 1 = true → s.smp.held = none →
          exec .endScan s = .next (s.answered ⟨.done, .document, d, s.scn.sealedCount + 1⟩ (ended sealedPage))))
    ∧ ((s.doc? d).isSome → s.scn.doc = some d → s.readyFor 0x13 1 = true →
        ∃ n u, exec .endScan s = .next (s.answered ⟨.done, .document, d, n⟩ u)
          ∧ u.scn.state = .scanIdle ∧ u.scn.doc = none ∧ u.scn.page = none ∧ u.scn.waiting = 0 ∧ u.rgw.rawGeom = none))
  ∧ (∀ (d : Nat) (s : State), s.readyFor 0x13 1 = true → s.headSlot.num 0 = d → (s.doc? d).isSome → s.scn.doc = some d →
        ∃ n u, exec .endScan s = .next (s.answered ⟨.done, .document, d, n⟩ u)
          ∧ (∀ h, s.smp.held = some h → u.smp = { s.smp with
              held := match h.reason with | .scan _ => none | _ => some h }))
  ∧ (∀ (h : Held) (j d : Nat) (s : State), s.readyFor 0x13 1 = true → s.headSlot.num 0 = d → (s.doc? d).isSome →
      s.scn.doc = some d → s.mapPassed = true → s.ceu.evTail < s.cfg.recCount → d < 256 → s.smp.held = some h →
      h.reason = .scan j → s.cfg.rawBase ≤ h.access.off → h.access.off + 4 ≤ s.cfg.rawBase + s.cfg.rawSize →
      (s.scn.page = none ∧ (s.scn.waiting = 0 ∨ s.scn.state = .pageFull))
        ∨ (s.scn.state = .inPage ∧ s.scn.waiting ≤ 1 ∧ (∀ n, (s.line n).state = .dataWait → (s.line n).doc ≠ some d)
          ∧ ∃ p r doc, s.scn.page = some p ∧ p < 1024 ∧ s.page? p = some r ∧ r.doc = d ∧ s.doc? d = some doc ∧ doc.keep = true
            ∧ (∀ g ∈ s.psm.stack ++ r.chain, g < s.cfg.segCount) ∧ s.psm.stack.length + r.chain.length ≤ 32768) →
      ∃ n u, exec .endScan s = .next (s.answered ⟨.done, .document, d, n⟩ u)
        ∧ ∀ i, i < 4 → Mem.get u.dram (h.access.off + i) = s.byteAfter h.access.off i h.access.data h.access.be)

/-! ## Documents and jobs -/

/-- OPEN_DOCUMENT: with a free document record, the lowest-numbered one becomes an OPEN outbound document with no pages, no
references and its keep flag set, and the answer carries its id; with none the command is refused with FULL. No other
document, no other state and no byte outside the record changes. That the fields which R82 gives to inbound documents only
are 0, clear or absent in the new record is the model's choice (log 42). -/
def Obligations.OpenDocument : Prop :=
  ∀ s : State, s.readyFor 0x20 0 = true →
    ((∀ k, k < 256 → (s.doc? k).isSome) → exec .openDocument s = .next (s.answered (Reply.path .full 0) s.carry))
    ∧ ∀ d, d < 256 → s.doc? d = none → (∀ k, k < d → (s.doc? k).isSome) →
        ∃ u, exec .openDocument s = .next (s.answered ⟨.done, .document, d, d⟩ u)
          ∧ u = { s.carry with dju := { s.dju with docs := u.dju.docs }, dram := u.dram }
          ∧ u.doc? d = some
              { dir := .outbound, state := .opened, places := [], keep := true, isHeld := false, desk := 0, tray := 0,
                ident := [], called := [], line := 0, created := s.chg.seconds, jobRefs := 0, printRefs := 0, copies := 0,
                printClass := 0, autoDelete := false, printed := false }
          ∧ (∀ k, k ≠ d → u.doc? k = s.doc? k)
          ∧ Mem.get u.dram (s.docAddr d) = BitVec.ofNat 8 d ∧ Mem.get u.dram (s.docAddr d + 2) = 0x00
          ∧ unchangedOutside [(s.docAddr d, 512)] s.dram u.dram

/-- CLOSE_DOCUMENT of an OPEN outbound document that is not being scanned answers DONE with the number of places. When no
job is on it and no line waits for its pages, the record becomes CLOSED, the scheduler has an occasion, and nothing else
changes. With jobs on it and no line waiting for its pages, every destination of those jobs that has confirmed every place
and is idle becomes SENT and counts in its job; a job with no session whose destinations are then all final ends with its
destinations, and takes its reference off the document (that record is stated when no job on it asks for automatic
deletion). DELETE_DOCUMENT is refused for a record that is free, RECEIVING or DELETING, and answers DONE otherwise. A
document with no live page and no references, that is not being scanned and for which no job and no line waits, leaves its
record free, with nothing else changed but the scheduler's occasion; that its 512 bytes in DRAM are then zero is the
model's reading (log 13). With live pages, all its own, no scan and no line waiting, each page that is not FILLING and has
no holds is freed, its segments go back on the stack, and the answer counts the pages that stay; with no job on it the
record is free when no page and no reference stays, and else DELETING with the keep flag clear and the places of freed
pages empty; that the pages are freed in the order of the page list, which fixes the order of their segments on the stack,
is the model's choice (log 56). The document being scanned: the scan ends, a held lapping write is released, and an open
page that a send hold keeps is sealed as it stands (log 18). The released write's enabled bytes then stand in DRAM and the
word's other bytes are as before (stated for a write to the raw scan ring, with no job on the document and a hold on each
of its pages). -/
def Obligations.CloseAndDeleteDocument : Prop :=
  (∀ s : State, s.readyFor 0x21 1 = true →
      let d := s.headSlot.num 0
      (s.doc? d = none → exec .closeDocument s = .next (s.answered (Reply.path .noEntry 0) s.carry))
      ∧ ∀ r, s.doc? d = some r →
          (r.dir ≠ .outbound ∨ r.state ≠ .opened ∨ s.scn.doc = some d →
            exec .closeDocument s = .next (s.answered (Reply.path .wrongState 0) s.carry))
          ∧ (r.dir = .outbound → r.state = .opened → s.scn.doc ≠ some d →
            ∃ u, exec .closeDocument s = .next (s.answered ⟨.done, .document, d, r.places.length⟩ u)
              ∧ ((∀ e ∈ s.dju.jobs, e.2.doc ≠ d) → (∀ n, (s.line n).state = .dataWait → (s.line n).doc ≠ some d) →
                u = { s.carry with dju := { s.dju with docs := u.dju.docs, passDue := true }, dram := u.dram }
                  ∧ u.doc? d = some { r with state := .closed } ∧ (∀ k, k ≠ d → u.doc? k = s.doc? k)
                  ∧ Mem.get u.dram (s.docAddr d + 2) = 0x01 ∧ unchangedOutside [(s.docAddr d, 512)] s.dram u.dram)))
  ∧ (∀ s : State, s.readyFor 0x22 1 = true →
      let d := s.headSlot.num 0
      (s.doc? d = none → exec .deleteDocument s = .next (s.answered (Reply.path .noEntry 0) s.carry))
      ∧ ∀ r, s.doc? d = some r →
          (r.state = .receiving ∨ r.state = .deleting →
            exec .deleteDocument s = .next (s.answered (Reply.path .wrongState 0) s.carry))
          ∧ (r.state ≠ .receiving → r.state ≠ .deleting →
            ∃ left u, exec .deleteDocument s = .next (s.answered ⟨.done, .document, d, left⟩ u)
              ∧ (r.livePages = [] → r.jobRefs = 0 → r.printRefs = 0 → s.scn.doc ≠ some d →
                (∀ e ∈ s.dju.jobs, e.2.doc ≠ d) → (∀ n, (s.line n).state = .dataWait → (s.line n).doc ≠ some d) →
                left = 0
                  ∧ u = { s.carry with dju := { s.dju with docs := u.dju.docs, passDue := true }, dram := u.dram }
                  ∧ u.doc? d = none ∧ (∀ k, k ≠ d → u.doc? k = s.doc? k)
                  ∧ Mem.bytes u.dram (s.docAddr d) 512 = zeros 512
                  ∧ unchangedOutside [(s.docAddr d, 512)] s.dram u.dram)))
  ∧ (∀ (r : Doc) (s : State), s.readyFor 0x21 1 = true → s.ordered = true →
      let d := s.headSlot.num 0
      s.doc? d = some r → r.dir = .outbound → r.state = .opened → s.scn.doc ≠ some d →
      (∀ n, (s.line n).state = .dataWait → (s.line n).doc ≠ some d) →
      let turns (t : Dest) : Bool := t.isIdle && t.confirmed == r.places.length
      let ends (j : Nat) (q : Job) : Bool :=
        q.sessions == 0 && s.dju.dests.all fun e => e.2.job != j || e.2.isFinal || turns e.2
      ∃ u, exec .closeDocument s = .next (s.answered ⟨.done, .document, d, r.places.length⟩ u)
        ∧ (∀ j q, s.job? j = some q → u.job? j =
            if q.doc ≠ d then some q
            else if ends j q then none
            else some { q with sent := q.sent + (s.dju.dests.filter fun e => e.2.job == j && turns e.2).length })
        ∧ (∀ k t, s.dest? k = some t → u.dest? k =
            match s.job? t.job with
            | none => some t
            | some q =>
              if q.doc ≠ d then some t
              else if ends t.job q then none
              else some (if turns t then { t with state := .sent, cancelMark := false } else t))
        ∧ ((∀ j q, s.job? j = some q → q.doc = d → q.autoDelete = false) →
            u.doc? d = some { r with
              state := .closed, jobRefs := r.jobRefs - (s.dju.jobs.filter fun e => e.2.doc == d && ends e.1 e.2).length }))
  ∧ (∀ (r : Doc) (s : State), s.readyFor 0x22 1 = true → s.ordered = true →
      let d := s.headSlot.num 0
      s.doc? d = some r → r.state ≠ .receiving → r.state ≠ .deleting → s.scn.doc ≠ some d →
      (∀ n, (s.line n).state = .dataWait → (s.line n).doc ≠ some d) → r.livePages.Nodup →
      (∀ p q, p ∈ r.livePages → s.page? p = some q → q.doc = d) →
      let freed (p : Nat) : Bool := (s.page? p).any fun q => q.state != .filling && q.sendHolds == 0 && q.printHolds == 0
      let kept := r.livePages.filter fun p => !freed p
      ∃ u, exec .deleteDocument s = .next (s.answered ⟨.done, .document, d, kept.length⟩ u)
        ∧ (∀ p, u.page? p = if p ∈ r.livePages ∧ freed p = true then none else s.page? p)
        ∧ u.psm.stack = ((r.livePages.filter freed).flatMap fun p => ((s.page? p).map PageRec.chain).getD []).reverse
            ++ s.psm.stack
        ∧ ((∀ e ∈ s.dju.jobs, e.2.doc ≠ d) →
            u.doc? d = (if kept = [] ∧ r.jobRefs = 0 ∧ r.printRefs = 0 then none
              else some { r with keep := false, state := .deleting,
                                 places := r.places.map fun x => if x.any freed then none else x })
            ∧ (∀ k, k ≠ d → u.doc? k = s.doc? k) ∧ u.dju.jobs = s.dju.jobs ∧ u.dju.dests = s.dju.dests))
  ∧ (∀ (r : Doc) (s : State), s.readyFor 0x22 1 = true →
      let d := s.headSlot.num 0
      s.doc? d = some r → r.state ≠ .receiving → r.state ≠ .deleting → s.scn.doc = some d → s.scn.state ≠ .scanIdle →
      ∃ n u, exec .deleteDocument s = .next (s.answered ⟨.done, .document, d, n⟩ u)
        ∧ u.scn.state = .scanIdle ∧ u.scn.doc = none ∧ u.scn.page = none ∧ u.rgw.rawGeom = none
        ∧ (∀ h j, s.smp.held = some h → h.reason = .scan j → u.smp.held = none)
        ∧ (∀ h j, s.smp.held = some h → h.reason = .scan j → s.mapPassed = true → s.ceu.evTail < s.cfg.recCount → d < 256 →
            s.cfg.rawBase ≤ h.access.off → h.access.off + 4 ≤ s.cfg.rawBase + s.cfg.rawSize →
            (∀ e ∈ s.dju.jobs, e.2.doc ≠ d) → (∀ n, (s.line n).state = .dataWait → (s.line n).doc ≠ some d) →
            (∀ p q, p ∈ r.livePages → s.page? p = some q → 1 ≤ q.sendHolds + q.printHolds) →
            (s.scn.page = none ∨ ∃ p q, s.scn.page = some p ∧ p ∈ r.livePages ∧ p < 1024 ∧ s.page? p = some q
              ∧ s.scn.half = none ∧ s.scn.streamLen ≠ 0 ∧ (∀ g ∈ q.chain, g < s.cfg.segCount)
              ∧ s.psm.stack.length + q.chain.length ≤ 32768) →
            ∀ i, i < 4 → Mem.get u.dram (h.access.off + i) = s.byteAfter h.access.off i h.access.data h.access.be)
        ∧ ∀ p q, s.scn.page = some p → s.page? p = some q → s.scn.active.isSome → q.doc = d → r.keep = true →
            1 ≤ q.sendHolds → s.scn.half = none → s.scn.streamLen ≠ 0 →
            (∀ n, (s.line n).state = .dataWait → (s.line n).doc ≠ some d) →
            u.page? p = (sealRecord p s.scn.streamLen s.scn.outLines s.carry).page? p)

/-- SUBMIT_JOB's checks, in their order, each with its result and value: the priority and the options, the list count, the
list offset, the document, its state, the account, the entries (the first bad one), and room for a job and its destinations;
a refusal changes nothing. An entry is good when its count is 1 to 24, its characters are dial characters and one is no
comma, and its digits are exactly those characters. A SUBMIT_JOB that passes: the lowest free job record and one free
destination record for each entry are filled, the document's job references grow by 1 and the send holds of its pages by the
list count, the scheduler has an occasion, and the answer is ACCEPTED with the job number and the count. That a new
destination's next-try time, which has no meaning before RETRY_WAIT, is 0 is the model's choice (log 42), and so is the
submission number 0 after FFFFFFFFh (log 64). -/
def Obligations.SubmitJob : Prop :=
  (∀ (s : State) (off e : Nat) (ds : List Byte),
      let c := Mem.num s.dram (off + 32 * e) 1
      entryDigits (s.listEntry off e) = some ds ↔ 1 ≤ c ∧ c ≤ 24 ∧ ds = Mem.bytes s.dram (off + 32 * e + 4) c
        ∧ (∀ ch ∈ ds, (0x30 ≤ ch.toNat ∧ ch.toNat ≤ 0x39) ∨ ch = 0x2A ∨ ch = 0x23 ∨ ch = 0x2C) ∧ ∃ ch ∈ ds, ch ≠ 0x2C)
  ∧ (∀ s : State, s.readyFor 0x23 7 = true →
      let sl := s.headSlot
      let n := sl.num 2
      let fails (r : Reply) : Prop := exec .submitJob s = .next (s.answered r s.carry)
      let okList : Prop := sl.num 4 ≤ 2 ∧ sl.num 6 ≤ 1 ∧ 1 ≤ n ∧ n ≤ 250 ∧ sl.num 1 % 4 = 0 ∧ sl.num 1 + 32 * n ≤ s.windowBytes
      let entry (e : Nat) : Option (List Byte) := entryDigits (s.listEntry (sl.num 1) e)
      (2 < sl.num 4 → fails (Reply.path .range 4))
      ∧ (sl.num 4 ≤ 2 → 1 < sl.num 6 → fails (Reply.path .range 6))
      ∧ (sl.num 4 ≤ 2 → sl.num 6 ≤ 1 → n < 1 ∨ 250 < n → fails (Reply.path .range 2))
      ∧ (sl.num 4 ≤ 2 → sl.num 6 ≤ 1 → 1 ≤ n → n ≤ 250 → sl.num 1 % 4 ≠ 0 ∨ s.windowBytes < sl.num 1 + 32 * n →
          fails (Reply.path .range 1))
      ∧ (okList → s.doc? (sl.num 0) = none → fails (Reply.path .noEntry 0))
      ∧ ∀ doc, okList → s.doc? (sl.num 0) = some doc →
          let okDoc : Prop := doc.dir = .outbound ∧ (doc.state = .opened ∨ (doc.state = .closed ∧ doc.places ≠ []))
          let okAccount : Prop := sl.num 3 ≤ 63 ∧ (s.account (sl.num 3)).state ≠ .unused
          (¬okDoc → fails (Reply.path .wrongState 0))
          ∧ (okDoc → ¬okAccount → fails (Reply.path .noEntry 3))
          ∧ (okDoc → okAccount → ∀ e, e < n → entry e = none → (∀ k, k < e → (entry k).isSome) →
              fails (Reply.path .range e))
          ∧ (okDoc → okAccount → (∀ e, e < n → (entry e).isSome) →
              (∀ j, j < 64 → (s.job? j).isSome) ∨ 1024 < s.dju.dests.length + n → fails (Reply.path .full 0)))
  ∧ (∀ (s : State) (doc : Doc) (ds : List (List Byte)) (j : Nat), s.readyFor 0x23 7 = true → s.ordered = true →
      let sl := s.headSlot
      let n := sl.num 2
      let pages := doc.livePages
      let frees := (Tab.free s.dju.dests 1024).take n
      sl.num 4 ≤ 2 → sl.num 6 ≤ 1 → 1 ≤ n → n ≤ 250 → sl.num 1 % 4 = 0 → sl.num 1 + 32 * n ≤ s.windowBytes →
      s.doc? (sl.num 0) = some doc → doc.dir = .outbound → (doc.state = .opened ∨ (doc.state = .closed ∧ doc.places ≠ [])) →
      sl.num 3 ≤ 63 → (s.account (sl.num 3)).state ≠ .unused →
      ds.length = n → (∀ e, e < n → some (ds.getD e []) = entryDigits (s.listEntry (sl.num 1) e)) →
      j < 64 → s.job? j = none → (∀ k, k < j → (s.job? k).isSome) → s.dju.dests.length + n ≤ 1024 → pages.Nodup →
      ∃ u, exec .submitJob s = .next (s.answered ⟨.accepted, .job, j, n⟩ u)
        ∧ u = { s.carry with dju := u.dju, psm := { s.psm with pages := u.psm.pages }, dram := u.dram }
        ∧ u.job? j = some
            { state := .queued, doc := sl.num 0, account := sl.num 3, priority := sl.num 4,
              spread := max 1 (min 8 (sl.num 5)), autoDelete := sl.num 6 == 1, tag := sl.tag,
              submission := (s.dju.submission + 1) % 4294967296, destCount := n, sent := 0, failed := 0, cancelled := 0,
              sessions := 0, started := false }
        ∧ (∀ k, k ≠ j → u.job? k = s.job? k) ∧ u.dju.submission = (s.dju.submission + 1) % 4294967296
        ∧ u.dju.passDue = true ∧ u.dju.maxAttempts = s.dju.maxAttempts ∧ u.dju.baseWait = s.dju.baseWait
        ∧ u.dju.gen = s.dju.gen
        ∧ frees.length = n
        ∧ (∀ i k, frees[i]? = some k → u.dest? k = some
            { job := j, index := i, digits := ds.getD i [], state := .pending, attempts := 0, nextTry := 0, lastCause := none,
              confirmed := 0, line := none, logSeq := none, cancelMark := false })
        ∧ (∀ k, k ∉ frees → u.dest? k = s.dest? k)
        ∧ u.doc? (sl.num 0) = some { doc with jobRefs := doc.jobRefs + 1 } ∧ (∀ k, k ≠ sl.num 0 → u.doc? k = s.doc? k)
        ∧ (∀ p, u.page? p = (s.page? p).map fun r => if p ∈ pages then { r with sendHolds := r.sendHolds + n } else r)
        ∧ unchangedOutside ([(s.jobAddr j, 128), (s.docAddr (sl.num 0), 512)] ++ frees.map (fun k => (s.destAddr k, 64))
            ++ pages.map fun p => (s.pageAddr p, 64)) s.dram u.dram)

/-- CANCEL_JOB answers the number of the job's sessions still running. With sessions running, and every destination in
DIALLING or SENDING held by exactly the line it names, the job is CANCELLED and stays; each of its destinations that waits
becomes CANCELLED and is counted, each in session takes the cancel mark, and the line of each that seizes, dials, sends or
waits is cleared with CANCELLED. With no session running and no destination in session every destination that was not
final becomes CANCELLED, the job is final, and its record and its destinations' records are free; the value is 0. A free
job record is refused with NO_ENTRY and a CANCELLED job with WRONG_STATE. CANCEL_DESTINATION. A destination that waits, in
a job with another that is not final, becomes CANCELLED at once with that last cause, its job counts it, and the value is
0; one in session takes the cancel mark, the value is 1, and its line is cleared when it seizes or dials, abandoned and
cleared when it sends or waits, and left alone when it is clearing. A job or index that does not exist is refused with
NO_ENTRY, a destination that is final or marked with WRONG_STATE. With a kept document whose pages are its own and lie in
it once, every page loses one send hold for each destination that becomes CANCELLED at once and has not confirmed its
place, and DEST_DONE with code 2 and the pages confirmed is posted for each of these destinations in index order, followed
by JOB_DONE with the job's counts when the job ends with them. -/
def Obligations.CancelCommands : Prop :=
  let heldByTheirLines (s : State) : Prop := ∀ k t, s.dest? k = some t → t.state = .dialling ∨ t.state = .sending →
    ∃ n : Line, t.line = some n.val ∧ ∀ m : Line, (s.line m).dest = some k ↔ m = n
  let endsAtOnce (st : LineState) : Bool :=
    [LineState.seizing, .dialling, .sending, .partialWait, .pageWait, .dataWait].contains st
  let cleared (l : LineRec) : LineRec :=
    { l with state := .clearing, cause := some .cancelled, timer := some .clearing, remaining := 100 }
  let sound (s : State) (x : Nat) (d : Doc) : Prop := s.doc? x = some d ∧ d.keep = true ∧ (d.places.filterMap id).Nodup
    ∧ ∀ p q, some p ∈ d.places → s.page? p = some q → q.doc = x
  let waits (s : State) (j : Nat) : Tab Dest := s.dju.dests.filter fun e => e.2.job == j && e.2.isIdle
  let unheld (s u : State) (d : Doc) (l : Tab Dest) : Prop := ∀ p, u.page? p = (s.page? p).map fun q =>
    { q with sendHolds := q.sendHolds - (l.filter fun e => (d.places.drop e.2.confirmed).contains (some p)).length }
  let told (tag : Nat) (l : Tab Dest) (s : State) : State :=
    l.foldl (fun v e => postTagged .destDone .destination e.1 tag 2 e.2.confirmed v) s
  (∀ s : State, s.readyFor 0x24 1 = true →
      let j := s.headSlot.num 0
      (s.job? j = none → exec .cancelJob s = .next (s.answered (Reply.path .noEntry 0) s.carry))
      ∧ ∀ r, s.job? j = some r →
          (r.state = .cancelled → exec .cancelJob s = .next (s.answered (Reply.path .wrongState 0) s.carry))
          ∧ (r.state ≠ .cancelled → ∃ n u, exec .cancelJob s = .next (s.answered ⟨.done, .job, j, n⟩ u)
              ∧ (r.sessions ≠ 0 → s.ordered = true → heldByTheirLines s →
                  n = r.sessions
                  ∧ u.job? j = some { r with state := .cancelled, cancelled := r.cancelled
                      + (s.dju.dests.filter fun e => e.2.job == j && e.2.isIdle).length }
                  ∧ (∀ k t, s.dest? k = some t → u.dest? k = some
                      (if t.job ≠ j ∨ t.isFinal = true then t
                       else if t.isIdle then { t with state := .cancelled, lastCause := some .cancelled, cancelMark := false }
                       else { t with cancelMark := true }))
                  ∧ (∀ m, u.line m = if (s.dju.dests.any fun e => (s.line m).dest == some e.1 && e.2.job == j && !e.2.isFinal
                        && !e.2.isIdle) && endsAtOnce (s.line m).state then cleared (s.line m) else s.line m)
                  ∧ ∀ d, sound s r.doc d → unheld s u d (waits s j) ∧ u.ceu = (told r.tag (waits s j) s.carry).ceu)
              ∧ (s.ordered = true → r.sessions = 0 →
                  (∀ e ∈ s.dju.dests, e.2.job = j → e.2.isIdle = true ∨ e.2.isFinal = true) →
                  n = 0 ∧ u.job? j = none ∧ (∀ e ∈ u.dju.dests, e.2.job ≠ j)
                    ∧ (r.autoDelete = false → (∀ k, k ≠ j → u.job? k = s.job? k)
                      ∧ (∀ k t, s.dest? k = some t → t.job ≠ j → u.dest? k = some t)
                      ∧ ∀ d, sound s r.doc d → d.state ≠ .deleting → unheld s u d (waits s j)
                        ∧ u.doc? r.doc = some { d with jobRefs := d.jobRefs - 1 }
                        ∧ u.ceu = (postTagged .jobDone .job j r.tag 2
                            (r.sent + 256 * r.failed + 65536 * (r.cancelled + (waits s j).length))
                            (told r.tag (waits s j) s.carry)).ceu))))
  ∧ (∀ s : State, s.readyFor 0x25 2 = true → s.ordered = true →
      let j := s.headSlot.num 0
      let i := s.headSlot.num 1
      (s.job? j = none → exec .cancelDestination s = .next (s.answered (Reply.path .noEntry 0) s.carry))
      ∧ ∀ r, s.job? j = some r →
          (r.destCount ≤ i → exec .cancelDestination s = .next (s.answered (Reply.path .noEntry 1) s.carry))
          ∧ ∀ k t, i < r.destCount → s.dest? k = some t → t.job = j → t.index = i →
              (∀ k' t', s.dest? k' = some t' → t'.job = j → t'.index = i → k' = k) →
              (t.isFinal = true ∨ t.cancelMark = true →
                exec .cancelDestination s = .next (s.answered (Reply.path .wrongState 1) s.carry))
              ∧ (t.isFinal = false → t.cancelMark = false → t.isIdle = true →
                (∃ k' t', s.dest? k' = some t' ∧ t'.job = j ∧ k' ≠ k ∧ t'.isFinal = false) →
                ∃ u, exec .cancelDestination s = .next (s.answered ⟨.done, .destination, k, 0⟩ u)
                  ∧ u = { s.carry with psm := u.psm, dju := u.dju, ceu := u.ceu, dram := u.dram }
                  ∧ u.dest? k = some { t with state := .cancelled, lastCause := some .cancelled, cancelMark := false }
                  ∧ (∀ k', k' ≠ k → u.dest? k' = s.dest? k')
                  ∧ u.job? j = some { r with cancelled := r.cancelled + 1 } ∧ (∀ j', j' ≠ j → u.job? j' = s.job? j')
                  ∧ ∀ d, sound s r.doc d →
                    unheld s u d [(k, t)] ∧ u.ceu = (told r.tag [(k, t)] s.carry).ceu
                    ∧ u.psm = { s.psm with pages := u.psm.pages }
                    ∧ u.dju = { s.dju with dests := u.dju.dests, jobs := u.dju.jobs }
                    ∧ unchangedOutside ((s.destAddr k, 64) :: (s.jobAddr j, 128)
                        :: (s.cfg.evBase + 64 + 16 * s.ceu.evTail, 16) :: (s.cfg.evBase + 4, 4)
                        :: ((d.places.drop t.confirmed).filterMap id).map fun p => (s.pageAddr p, 64)) s.dram u.dram)
              ∧ (t.isFinal = false → t.cancelMark = false → t.isIdle = false → (∀ n, (s.line n).dest ≠ some k) →
                ∃ u, exec .cancelDestination s = .next (s.answered ⟨.done, .destination, k, 1⟩ u)
                  ∧ u = { s.carry with dju := { s.dju with dests := u.dju.dests }, dram := u.dram }
                  ∧ u.dest? k = some { t with cancelMark := true } ∧ (∀ k', k' ≠ k → u.dest? k' = s.dest? k')
                  ∧ unchangedOutside [(s.destAddr k, 64)] s.dram u.dram)
              ∧ (t.isFinal = false → t.cancelMark = false → t.isIdle = false →
                ∀ n, (∀ m, (s.line m).dest = some k ↔ m = n) →
                ∃ u, exec .cancelDestination s = .next (s.answered ⟨.done, .destination, k, 1⟩ u)
                  ∧ u = { s.carry with dju := { s.dju with dests := u.dju.dests }, lne := { s.lne with lines := u.lne.lines },
                                       sli := u.sli, dram := u.dram }
                  ∧ u.dest? k = some { t with cancelMark := true } ∧ (∀ k', k' ≠ k → u.dest? k' = s.dest? k')
                  ∧ ((s.line n).state ∈ [.seizing, .dialling] → u.sli = (hand n .clear s).sli)
                  ∧ ((s.line n).state ∈ [.sending, .partialWait, .pageWait, .dataWait] →
                      u.sli = (hand n .clear (hand n .abandon s)).sli)
                  ∧ (endsAtOnce (s.line n).state = false → u.sli = s.sli)
                  ∧ u.line n = (if endsAtOnce (s.line n).state then cleared (s.line n) else s.line n)
                  ∧ (∀ m, m ≠ n → u.line m = s.line m)
                  ∧ unchangedOutside [(s.destAddr k, 64), (s.por (0x80 + 256 * n.val), 256)] s.dram u.dram))

/-- HOLD_JOB holds a QUEUED or ACTIVE job, and RELEASE_JOB returns a HELD one to ACTIVE when it has started and to QUEUED
otherwise, with an occasion for the scheduler; the answer carries the job's sessions. A free record is refused with NO_ENTRY
and any other state with WRONG_STATE. No other job and no byte outside the record changes. The state code that the job's
record in DRAM then holds is the model's reading (log 12). -/
def Obligations.HoldAndReleaseJob : Prop :=
  ∀ (s : State) (c : Instr) (kind : Nat), ((c, kind) = (.holdJob, 0x26) ∨ (c, kind) = (.releaseJob, 0x27)) →
    s.readyFor kind 1 = true →
    let j := s.headSlot.num 0
    (s.job? j = none → exec c s = .next (s.answered (Reply.path .noEntry 0) s.carry))
    ∧ ∀ r, s.job? j = some r →
        let taken := if c = .holdJob then r.state = .queued ∨ r.state = .active else r.state = .onHold
        let dst := if c = .holdJob then JobState.onHold else if r.started then .active else .queued
        (¬taken → exec c s = .next (s.answered (Reply.path .wrongState 0) s.carry))
        ∧ (taken → ∃ u, exec c s = .next (s.answered ⟨.done, .job, j, r.sessions⟩ u)
            ∧ u = { s.carry with dju := { s.dju with jobs := u.dju.jobs, passDue := s.dju.passDue || (c == .releaseJob) },
                                 dram := u.dram }
            ∧ u.job? j = some { r with state := dst } ∧ (∀ k, k ≠ j → u.job? k = s.job? k)
            ∧ Mem.get u.dram (s.jobAddr j) = BitVec.ofNat 8 dst.code
            ∧ unchangedOutside [(s.jobAddr j, 128)] s.dram u.dram)

/-! ## Page code, page store and scan -/

/-- SET_STORE_LIMITS: the supplied limits are clamped to 4096, 32768 and 32768 segments; a low water mark below the scan
reserve as they will stand refuses the command; otherwise they are stored, a supplied low-store mark arms the mark, and the
answer carries the free count. Nothing else changes. The commands that store settings, each with its supplied parameters
clamped and nothing else changed: SET_RETRY_POLICY (1 to 8 attempts, 10 to 600 seconds), SET_LINE_TIMERS (seven timers in
tenths), and LINK_SETUP (loss count 3 to 4, service check and auto resynchronisation 0 or 1, any other code refused with
RANGE). The answer of SET_STORE_LIMITS names the first clamped parameter; the other three answer DONE or DONE_CLAMPED with the
value 0 that their chapters give for both (log 39). -/
def Obligations.SettingsCommands : Prop :=
  (∀ s : State, s.readyFor 0x18 0 = true →
      let sl := s.headSlot
      let reserve := if sl.has 0 then min 4096 (sl.num 0) else s.psm.scanReserve
      let water := if sl.has 1 then min 32768 (sl.num 1) else s.psm.lowWater
      let mark := if sl.has 2 then min 32768 (sl.num 2) else s.psm.lowMark
      let clamped : Option Nat :=
        if sl.has 0 = true ∧ 4096 < sl.num 0 then some 0
        else if sl.has 1 = true ∧ 32768 < sl.num 1 then some 1
        else if sl.has 2 = true ∧ 32768 < sl.num 2 then some 2
        else none
      (water < reserve →
        exec .setStoreLimits s = .next (s.answered (Reply.path .range (if sl.has 1 then 1 else 0)) s.carry))
      ∧ (reserve ≤ water →
        exec .setStoreLimits s = .next (s.answered (Reply.doneOr clamped .path 0 s.freeCount)
          { s.carry with psm := { s.psm with scanReserve := reserve, lowWater := water, lowMark := mark,
                                             lowArmed := sl.has 2 || s.psm.lowArmed } })))
  ∧ (∀ s : State,
      let sl := s.headSlot
      let v (p lo hi kept : Nat) := if sl.has p then max lo (min hi (sl.num p)) else kept
      let bad (p lo hi : Nat) : Bool := sl.has p && (decide (sl.num p < lo) || decide (hi < sl.num p))
      (s.readyFor 0x28 0 = true →
        exec .setRetryPolicy s = .next (s.answered
          (Reply.doneZero (if bad 0 1 8 then some 0 else if bad 1 10 600 then some 1 else none) .path 0)
          { s.carry with dju := { s.dju with maxAttempts := v 0 1 8 s.dju.maxAttempts,
                                             baseWait := v 1 10 600 s.dju.baseWait } }))
      ∧ (s.readyFor 0x39 0 = true →
        let t := s.lne.timers
        let r : List (Nat × Nat × Nat) :=
          [(0, 10, 300), (1, 200, 1200), (2, 50, 600), (3, 100, 1200), (4, 50, 1200), (5, 100, 600), (6, 50, 600)]
        exec .setLineTimers s = .next (s.answered
          (Reply.doneZero ((r.find? fun e => bad e.1 e.2.1 e.2.2).map Prod.fst) .path 0)
          { s.carry with lne := { s.lne with timers :=
            { seize := v 0 10 300 t.seize, answer := v 1 200 1200 t.answer, partialPage := v 2 50 600 t.partialPage,
              pageConfirm := v 3 100 1200 t.pageConfirm, dataWait := v 4 50 1200 t.dataWait,
              answering := v 5 100 600 t.answering, blockGap := v 6 50 600 t.blockGap } } }))
      ∧ (s.readyFor 0x30 0 = true →
        (sl.has 1 = true → 1 < sl.num 1 → exec .linkSetup s = .next (s.answered (Reply.path .range 1) s.carry))
        ∧ ((sl.has 1 = true → sl.num 1 ≤ 1) → sl.has 2 = true → 1 < sl.num 2 →
            exec .linkSetup s = .next (s.answered (Reply.path .range 2) s.carry))
        ∧ ((sl.has 1 = true → sl.num 1 ≤ 1) → (sl.has 2 = true → sl.num 2 ≤ 1) →
            let check := if sl.has 1 then sl.num 1 == 1 else s.sli.serviceCheck
            exec .linkSetup s = .next (s.answered (Reply.doneZero (if bad 0 3 4 then some 0 else none) .link 0)
              { s.carry with sli := { s.sli with
                  lossCount := v 0 3 4 s.sli.lossCount, serviceCheck := check,
                  serviceRun := if check = s.sli.serviceCheck then s.sli.serviceRun else 0,
                  autoResync := if sl.has 2 then sl.num 2 == 1 else s.sli.autoResync } }))))

/-! ## Commands of the link, the lines and the router -/

/-- LINK_RESYNC answers the frame state and leaves the receiver in HUNT: in SYNC with the link down frame synchronisation
is lost and counted; with the link up the receiver also leaves multiframe synchronisation, message and blocks in progress
are dropped with the announced outbound blocks, IDLE lines become UNAVAILABLE, a grace of 20 tenths starts when a line is
in session (R143 and the GRACE_START row give its start without that condition, which is the model's reading: log 28), and
LINK_STATE is posted; in HUNT the search restarts; in any other state the state becomes HUNT and no counter changes.
CLEAR_LINK_COUNTERS sets the four counters to 0, writes the link status record and answers the CRC error counter.
SET_LINE_PLAN with eight words whose use codes are 0 to 3, whose prefix counts are 0 to 4 and whose prefix digits are 0 to
9: the plan of each line is replaced, the ceiling clamped to 8 is stored, the scheduler has an occasion, and the answer
carries the number of outbound sessions. With a wrong word the command is refused with RANGE and the position of the first
wrong word, and nothing changes. -/
def Obligations.LinkAndPlanCommands : Prop :=
  (∀ s : State,
      (s.readyFor 0x31 0 = true →
        ∃ u, exec .linkResync s = .next (s.answered ⟨.done, .link, 0, s.sli.frame.code⟩ u)
          ∧ u.sli.frame = .hunt ∧ u.sli.searchFrom = none
          ∧ (s.sli.frame ≠ .sync →
              u = { s.carry with sli := { s.sli with frame := .hunt, searchFrom := none, syncIn := u.sli.syncIn },
                                 dram := u.dram } ∧ unchangedOutside [(s.por 0x40, 24)] s.dram u.dram)
          ∧ (s.sli.frame = .sync → s.sli.mf = .mfSearch →
              u = { s.carry with sli := { s.sli with frame := .hunt, losses := min (s.sli.losses + 1) 65535, alignRun := 0,
                                                     serviceRun := 0, rxAlarm := false, searchFrom := none, syncIn := none,
                                                     mfTimer := 0, evenMarks := [], markMissed := false }, dram := u.dram }
                ∧ Mem.num u.dram (s.por 0x52) 2 = min (s.sli.losses + 1) 65535
                ∧ unchangedOutside [(s.por 0x40, 24)] s.dram u.dram)
          ∧ (s.linkUp = true → ∃ v, u = writeLinkStatus (post .linkState .link 0 0 (min (s.sli.losses + 1) 65535) v)
              ∧ v.linkUp = false ∧ v.sli.losses = min (s.sli.losses + 1) 65535 ∧ v.sli.rxAlarm = false
              ∧ v.sli.lastChange = s.chg.seconds ∧ v.sli.farEndDue = true ∧ v.sli.asm = .gap ∧ v.sli.items = []
              ∧ v.sli.mfEndDue = false ∧ (∀ k, (v.inLine k).opened = none ∧ (v.inLine k).complete = false)
          ∧ v.sli.txPos = 0
              ∧ v.sli.outBlocks = s.sli.outBlocks.filter (fun e => !e.2.announced)
              ∧ (∀ n, (s.line n).state = .idle → v.line n = { s.line n with state := .unavailable })
              ∧ (∀ n, (s.line n).state ≠ .idle → (s.line n).state ≠ .sending → v.line n = s.line n)
              ∧ (v.lne.grace = if (allLines.any fun n => (s.line n).state.inSession) then some 20 else s.lne.grace)
              ∧ ((∀ e ∈ s.sli.outBlocks, e.2.announced = false) →
                  v.sli.queue = s.sli.queue ∧ v.sli.handings = s.sli.handings
                  ∧ (∀ n, (s.line n).state = .sending → v.line n = s.line n)
                  ∧ unchangedOutside (allLines.map fun n => (s.por (0x80 + 256 * n.val), 256)) s.dram v.dram)))
      ∧ (s.readyFor 0x32 0 = true →
        ∃ u, exec .clearLinkCounters s = .next (s.answered ⟨.done, .link, 0, s.sli.crcErrors⟩ u)
          ∧ u = { s.carry with sli := { s.sli with alignErrors := 0, crcErrors := 0, farEndErrors := 0, losses := 0 },
                               dram := u.dram }
          ∧ Mem.bytes u.dram (s.por 0x4C) 8 = zeros 8 ∧ unchangedOutside [(s.por 0x40, 24)] s.dram u.dram))
  ∧ (∀ s : State, s.readyFor 0x38 9 = true →
      let sl := s.headSlot
      let good (n : Nat) : Prop := sl.field n 0 4 ≤ 3 ∧ sl.field n 4 4 ≤ 4 ∧ ∀ i, i < sl.field n 4 4 → sl.field n (8 + 4 * i) 4 ≤ 9
      ((∀ n, n < 8 → good n) →
        ∃ u, exec .setLinePlan s = .next (s.answered
            (Reply.doneOr (if 8 < sl.num 8 then some 8 else none) .path 0 s.outboundCount) u)
          ∧ u = { s.carry with lne := { s.lne with plan := u.lne.plan, ceiling := min 8 (sl.num 8) },
                               dju := { s.dju with passDue := true } }
          ∧ ∀ n : Line, (u.plan n).use.code = sl.field n.val 0 4
              ∧ (u.plan n).outside = (List.range (sl.field n.val 4 4)).map fun i => sl.field n.val (8 + 4 * i) 4)
      ∧ ∀ n, n < 8 → (∀ m, m < n → good m) → ¬good n →
          exec .setLinePlan s = .next (s.answered (Reply.path .range n) s.carry))

/-- LOAD_ROUTE, the write and the removal. A digit count outside 1 to 8, a character that is no digit or a further option bit
refuses the command. A write overwrites the route with these digits in place, or joins the table while it holds fewer than 64
routes (FULL otherwise); a removal moves the last route into the place of the route with these digits (NO_ENTRY without one):
the moved record's 32 bytes stand in the freed place exactly as they stood in DRAM, an adopted record's unnormalised bytes
among them. The answer carries the record number or the count left. Only the count byte and the records concerned change in
DRAM. The bytes of a route record that a write sets are the model's reading (log 12) and, in the places of the digit field
beyond the digit count, its choice (log 42); the zeros over the place that the moved record leaves are its reading (log 13). -/
def Obligations.LoadRoute : Prop :=
  ∀ (c : Instr) (s : State), s.readyFor 0x40 7 = true →
    let sl := s.headSlot
    let n := sl.num 0
    let called := sl.chars 1 n
    let remove := sl.flag 6 3
    c = (if remove then .loadRouteRemove else .loadRouteWrite) →
    let rs := s.rxr.routes
    let new : Route :=
      { digitCount := n, digits := called, desk := min 31 (sl.num 3), tray := min 3 (sl.num 4), copies := min 9 (sl.num 5),
        printClass := sl.field 6 0 1, filter := sl.flag 6 1, autoDelete := sl.flag 6 2 }
    let clamped : Option Nat :=
      if 31 < sl.num 3 then some 3 else if 3 < sl.num 4 then some 4 else if 9 < sl.num 5 then some 5 else none
    (n < 1 ∨ 8 < n → exec c s = .next (s.answered (Reply.path .range 0) s.carry))
    ∧ (1 ≤ n → n ≤ 8 →
      (∀ i, i < n → (∀ k, k < i → isDigit (sl.char 1 k) = true) → isDigit (sl.char 1 i) = false →
        exec c s = .next (s.answered (Reply.path .range (1 + i / 4)) s.carry))
      ∧ ((∀ i, i < n → isDigit (sl.char 1 i) = true) →
        (15 < sl.num 6 → exec c s = .next (s.answered (Reply.path .range 6) s.carry))
        ∧ (sl.num 6 ≤ 15 →
          ((∀ r ∈ rs, r.isFor called = false) →
            (remove = true → exec c s = .next (s.answered (Reply.path .noEntry 1) s.carry))
            ∧ (remove = false → 64 ≤ rs.length → exec c s = .next (s.answered (Reply.path .full 0) s.carry))
            ∧ (remove = false → rs.length < 64 →
              ∃ u, exec c s = .next (s.answered (Reply.doneOr clamped .path 0 rs.length) u)
                ∧ u = { s.carry with rxr := { s.rxr with routes := rs ++ [new] }, dram := u.dram }
                ∧ Mem.bytes u.dram (s.por (0x2B000 + 32 * rs.length)) 32 = new.bytes
                ∧ Mem.num u.dram (s.por 0x2B820) 1 = rs.length + 1
                ∧ unchangedOutside [(s.por (0x2B000 + 32 * rs.length), 32), (s.por 0x2B820, 1)] s.dram u.dram))
          ∧ ∀ i r, rs[i]? = some r → r.isFor called = true → (∀ k q, k < i → rs[k]? = some q → q.isFor called = false) →
            rs.length ≤ 64 →
            (remove = false →
              ∃ u, exec c s = .next (s.answered (Reply.doneOr clamped .path 0 i) u)
                ∧ u = { s.carry with rxr := { s.rxr with routes := rs.set i new }, dram := u.dram }
                ∧ Mem.bytes u.dram (s.por (0x2B000 + 32 * i)) 32 = new.bytes
                ∧ unchangedOutside [(s.por (0x2B000 + 32 * i), 32), (s.por 0x2B820, 1)] s.dram u.dram)
            ∧ (remove = true → ∀ last, rs[rs.length - 1]? = some last →
              ∃ u, exec c s = .next (s.answered (Reply.doneOr clamped .path 0 (rs.length - 1)) u)
                ∧ u = { s.carry with rxr := { s.rxr with routes := (rs.set i last).dropLast }, dram := u.dram }
                ∧ Mem.num u.dram (s.por 0x2B820) 1 = rs.length - 1
                ∧ (i + 1 < rs.length → Mem.bytes u.dram (s.por (0x2B000 + 32 * i)) 32
                    = Mem.bytes s.dram (s.por (0x2B000 + 32 * (rs.length - 1))) 32)
                ∧ Mem.bytes u.dram (s.por (0x2B000 + 32 * (rs.length - 1))) 32 = zeros 32
                ∧ unchangedOutside [(s.por (0x2B000 + 32 * i), 32), (s.por (0x2B000 + 32 * (rs.length - 1)), 32),
                    (s.por 0x2B820, 1)] s.dram u.dram))))

/-- SET_DEFAULT_ROUTE: an options word with a bit outside its three choices is refused with RANGE, value 3, and nothing
changes; otherwise the default route is replaced with the desk, tray and copies clamped to 31, 3 and 9, and the answer is DONE
or DONE_CLAMPED with value 0, which R148 gives for both (log 39). A call without called digits, or with digits that no route
has, takes the default route; called digits that a route has, character for character, take the first such route in record
order (R149). The layout of the record's bytes, flags byte included, is the model's (log 12). -/
def Obligations.SetDefaultRoute : Prop :=
  ∀ s : State, s.readyFor 0x42 4 = true →
    let sl := s.headSlot
    let new : Route :=
      { digitCount := 0, digits := [], desk := min 31 (sl.num 0), tray := min 3 (sl.num 1), copies := min 9 (sl.num 2),
        printClass := sl.field 3 0 1, filter := sl.flag 3 1, autoDelete := sl.flag 3 2 }
    (7 < sl.num 3 → exec .setDefaultRoute s = .next (s.answered (Reply.path .range 3) s.carry))
    ∧ (sl.num 3 ≤ 7 →
      ∃ u, exec .setDefaultRoute s = .next (s.answered (Reply.doneZero
          (if 31 < sl.num 0 then some 0 else if 3 < sl.num 1 then some 1 else if 9 < sl.num 2 then some 2 else none)
          .path 0) u)
        ∧ u = { s.carry with rxr := { s.rxr with defaultRoute := new }, dram := u.dram }
        ∧ u.routeOf [] = new ∧ (∀ called, (∀ r ∈ s.rxr.routes, r.isFor called = false) → u.routeOf called = new)
        ∧ (∀ called (i : Nat) (r : Route), s.rxr.routes[i]? = some r → 1 ≤ called.length → called.length ≤ 8 → called.all isDigit = true →
            r.digitCount = called.length → r.digits.take r.digitCount = called →
            (∀ (k : Nat) (q : Route), k < i → s.rxr.routes[k]? = some q → q.digits.take q.digitCount ≠ called) → u.routeOf called = r)
        ∧ Mem.bytes u.dram (s.por 0x2B840) 32 = new.bytes ∧ unchangedOutside [(s.por 0x2B840, 32)] s.dram u.dram)

/-- The sender filter: the bin of an identity is the sum of its character codes weighted 1, 2, 3 and on, mod 256; the four
forms of SET_FILTER_BIN clear or set one bin or every bin and answer the bin's state or the number of bins set before; an
operation above 3 or a bin above 255 is refused; and a document is held exactly when its route filters and its identity is
absent or falls in a clear bin. That each of the four rows answers a slot with an operation above 3 is the model's reading
(log 37). The 256 bins stand at 02B800h of the part-owned region, as section 11.6 gives. -/
def Obligations.SenderFilter : Prop :=
  (∀ ident : List Byte, binOf ident = ((List.range ident.length).map fun i => (i + 1) * (ident.getD i 0).toNat).sum % 256)
  ∧ (∀ (s : State) (r : Route) (ident : List Byte),
      s.isHeld r ident = (r.filter && (ident == [] || !s.rxr.bins.getLsbD (binOf ident))))
  ∧ ∀ s : State, s.readyFor 0x41 2 = true →
    let b := s.headSlot.num 0
    let op := s.headSlot.num 1
    let row : Nat → Instr := fun k =>
      if k = 0 then .setFilterBinClearBin else if k = 1 then .setFilterBinSetBin
      else if k = 2 then .setFilterBinClearEvery else .setFilterBinSetEvery
    let count := ((List.range 256).filter fun k => s.rxr.bins.getLsbD k).length
    (3 < op → ∀ k, k ≤ 3 → exec (row k) s = .next (s.answered (Reply.path .range 1) s.carry))
    ∧ (op ≤ 1 → 255 < b → exec (row op) s = .next (s.answered (Reply.path .range 0) s.carry))
    ∧ (op ≤ 1 → b ≤ 255 → ∃ u,
        exec (row op) s = .next (s.answered (Reply.path .done (if s.rxr.bins.getLsbD b then 1 else 0)) u)
          ∧ u = { s.carry with rxr := { s.rxr with bins := u.rxr.bins }, dram := u.dram }
          ∧ (∀ k, k < 256 → u.rxr.bins.getLsbD k = if k = b then op == 1 else s.rxr.bins.getLsbD k)
          ∧ Mem.num u.dram (s.por 0x2B800) 32 = u.rxr.bins.toNat ∧ unchangedOutside [(s.por 0x2B800, 32)] s.dram u.dram)
    ∧ (op = 2 ∨ op = 3 → ∃ u, exec (row op) s = .next (s.answered (Reply.path .done count) u)
          ∧ u = { s.carry with rxr := { s.rxr with bins := u.rxr.bins }, dram := u.dram }
          ∧ (∀ k, k < 256 → u.rxr.bins.getLsbD k = (op == 3))
          ∧ Mem.num u.dram (s.por 0x2B800) 32 = u.rxr.bins.toNat ∧ unchangedOutside [(s.por 0x2B800, 32)] s.dram u.dram)

/-- RELEASE_HELD of a held inbound document that is not DELETING clears its held flag. With copies 0 the answer is FFFFFFFFh;
otherwise the lowest free print entry is created with the document's copies, tray and class, the print holds of its pages
grow by the copies, and the answer carries its number. While the document is not due for automatic deletion it stays. A
document that does not exist, is not held, or finds no free entry is refused. That the entry's arrival number after FFFFFFFFh
is 0 is the model's choice (log 69). -/
def Obligations.ReleaseHeld : Prop :=
  ∀ s : State, s.readyFor 0x43 1 = true →
    let d := s.headSlot.num 0
    (s.doc? d = none → exec .releaseHeld s = .next (s.answered (Reply.path .noEntry 0) s.carry))
    ∧ ∀ r, s.doc? d = some r →
      (r.dir ≠ .inbound ∨ r.isHeld = false ∨ r.state = .deleting →
        exec .releaseHeld s = .next (s.answered (Reply.path .wrongState 0) s.carry))
      ∧ (r.dir = .inbound → r.isHeld = true → r.state ≠ .deleting →
        (r.copies = 0 → ∃ u, exec .releaseHeld s = .next (s.answered ⟨.done, .document, d, 0xFFFFFFFF⟩ u)
          ∧ (r.autoDelete = false ∨ r.printed = false ∨ r.printRefs ≠ 0 →
              u = { s.carry with dju := { s.dju with docs := u.dju.docs }, dram := u.dram }
                ∧ u.doc? d = some { r with isHeld := false } ∧ (∀ k, k ≠ d → u.doc? k = s.doc? k)
                ∧ unchangedOutside [(s.docAddr d, 512)] s.dram u.dram))
        ∧ (r.copies ≠ 0 → s.freeEntry = none → exec .releaseHeld s = .next (s.answered (Reply.path .full 0) s.carry))
        ∧ (r.copies ≠ 0 → ∀ e, s.freeEntry = some e →
            ∃ u, exec .releaseHeld s = .next (s.answered ⟨.done, .document, d, e⟩ u)
              ∧ u = { s.carry with dju := { s.dju with docs := u.dju.docs }, psm := { s.psm with pages := u.psm.pages },
                                   prn := { s.prn with entries := u.prn.entries, arrival := u.prn.arrival },
                                   dram := u.dram }
              ∧ u.doc? d = some { r with isHeld := false, printRefs := r.printRefs + 1 }
              ∧ u.entry? e = some
                  { doc := d, copies := r.copies, copiesDone := 0, tray := r.tray, cls := r.printClass,
                    arrival := (s.prn.arrival + 1) % 4294967296, printing := false, position := 0, sheetNumber := 0,
                    sheetLine := 0, cancelMark := false }
              ∧ (∀ k, k ≠ e → u.entry? k = s.entry? k)
              ∧ (r.livePages.Nodup → (∀ p, u.page? p = (s.page? p).map fun q =>
                    if p ∈ r.livePages then { q with printHolds := q.printHolds + r.copies } else q)
                ∧ (∀ k, k ≠ d → u.doc? k = s.doc? k)
                ∧ unchangedOutside ([(s.entryAddr e, 64), (s.docAddr d, 512)]
                    ++ r.livePages.map fun p => (s.pageAddr p, 64)) s.dram u.dram)))

/-! ## Commands of the printer -/

/-- SET_PRINT_PROFILE: a dot order code above 1 is refused with RANGE, value 4; otherwise the supplied settings, rounded and
clamped, are stored (the threshold to 1 to the slot count that the profile's width gives), and the answer carries that slot
count. The active profile and everything else stay. What the threshold becomes where the ring holds no whole slot is left open
(log 10). -/
def Obligations.SetPrintProfile : Prop :=
  ∀ s : State, s.readyFor 0x48 0 = true →
    let sl := s.headSlot
    let p := s.prn.profile
    let width := if sl.has 0 then max 1728 (min 4864 (sl.num 0 / 32 * 32)) else p.width
    let count := s.cfg.prnSize / (16 + (width / 8 + 15) / 16 * 16)
    (sl.has 4 = true → 1 < sl.num 4 → exec .setPrintProfile s = .next (s.answered (Reply.path .range 4) s.carry))
    ∧ ((sl.has 4 = true → sl.num 4 ≤ 1) →
      ∃ u c, exec .setPrintProfile s = .next (s.answered (Reply.doneOr c .path 0 count) u)
        ∧ u = { s.carry with prn := { s.prn with profile := u.prn.profile } }
        ∧ u.prn.profile.width = width
        ∧ u.prn.profile.offset = (if sl.has 1 then min (width - 1728) (sl.num 1) else p.offset)
        ∧ u.prn.profile.height = (if sl.has 2 then max 100 (min 8192 (sl.num 2)) else p.height)
        ∧ u.prn.profile.repeats = (if sl.has 3 then max 1 (min 2 (sl.num 3)) else p.repeats)
        ∧ u.prn.profile.order = (if sl.has 4 then (if sl.num 4 = 1 then .lsbFirst else .msbFirst) else p.order)
        ∧ (0 < count → u.prn.profile.threshold = if sl.has 5 then max 1 (min count (sl.num 5)) else p.threshold)
        ∧ (0 < count → c =
            if sl.has 0 = true ∧ (sl.num 0 / 32 * 32 < 1728 ∨ 4864 < sl.num 0 / 32 * 32) then some 0
            else if sl.has 1 = true ∧ width - 1728 < sl.num 1 then some 1
            else if sl.has 2 = true ∧ (sl.num 2 < 100 ∨ 8192 < sl.num 2) then some 2
            else if sl.has 3 = true ∧ (sl.num 3 < 1 ∨ 2 < sl.num 3) then some 3
            else if sl.has 5 = true ∧ (sl.num 5 < 1 ∨ count < sl.num 5) then some 5
            else none))

/-- PRINT_DOCUMENT: a class above 1, an unknown document, an OPEN or DELETING one and a full queue are refused; otherwise the
lowest free entry waits with its copies clamped to 1 to 9 and its tray to 3, the document's print references grow by 1 and
the print holds of its pages by the copies. CANCEL_PRINT of an entry in the middle of a sheet sets its cancel mark with value
1; any other entry is removed with value 0; a free entry is refused with NO_ENTRY and a marked one with WRONG_STATE. The
removal of an entry whose document is kept and is not DELETING: each page loses a print hold for every copy that the entry
still owed it, the document one print reference, an inbound document takes its printed mark, the waiting slots of an entry in
hand take the mark that it is gone (R170) and its rendering ends, and nothing else changes; an inbound document with
automatic deletion, complete, not held and with no print reference left is deleted: what is left of its record is DELETING
with the keep flag clear. That an entry's arrival number after FFFFFFFFh is 0 is the model's choice (log 69). -/
def Obligations.PrintQueueCommands : Prop :=
  (∀ s : State, s.readyFor 0x49 4 = true →
    let sl := s.headSlot
    let d := sl.num 0
    let copies := max 1 (min 9 (sl.num 1))
    (1 < sl.num 3 → exec .printDocument s = .next (s.answered (Reply.path .range 3) s.carry))
    ∧ (sl.num 3 ≤ 1 → s.doc? d = none → exec .printDocument s = .next (s.answered (Reply.path .noEntry 0) s.carry))
    ∧ ∀ r, sl.num 3 ≤ 1 → s.doc? d = some r →
      (r.state = .opened ∨ r.state = .deleting →
        exec .printDocument s = .next (s.answered (Reply.path .wrongState 0) s.carry))
      ∧ (r.state ≠ .opened → r.state ≠ .deleting → s.freeEntry = none →
        exec .printDocument s = .next (s.answered (Reply.path .full 0) s.carry))
      ∧ ∀ e, r.state ≠ .opened → r.state ≠ .deleting → s.freeEntry = some e → r.livePages.Nodup →
        ∃ u, exec .printDocument s = .next (s.answered (Reply.doneOr
            (if sl.num 1 < 1 ∨ 9 < sl.num 1 then some 1 else if 3 < sl.num 2 then some 2 else none) .print e e) u)
          ∧ u = { s.carry with dju := { s.dju with docs := u.dju.docs }, psm := { s.psm with pages := u.psm.pages },
                               prn := { s.prn with entries := u.prn.entries,
                                                   arrival := (s.prn.arrival + 1) % 4294967296 }, dram := u.dram }
          ∧ u.entry? e = some
              { doc := d, copies, copiesDone := 0, tray := min 3 (sl.num 2), cls := sl.num 3,
                arrival := (s.prn.arrival + 1) % 4294967296, printing := false, position := 0, sheetNumber := 0,
                sheetLine := 0, cancelMark := false }
          ∧ (∀ k, k ≠ e → u.entry? k = s.entry? k)
          ∧ u.doc? d = some { r with printRefs := r.printRefs + 1 } ∧ (∀ k, k ≠ d → u.doc? k = s.doc? k)
          ∧ (∀ p, u.page? p = (s.page? p).map fun q =>
              if p ∈ r.livePages then { q with printHolds := q.printHolds + copies } else q)
          ∧ unchangedOutside ([(s.entryAddr e, 64), (s.docAddr d, 512)] ++ r.livePages.map fun p => (s.pageAddr p, 64))
              s.dram u.dram)
  ∧ (∀ s : State, s.readyFor 0x4A 1 = true →
    let e := s.headSlot.num 0
    (s.entry? e = none → exec .cancelPrint s = .next (s.answered (Reply.path .noEntry 0) s.carry))
    ∧ ∀ r, s.entry? e = some r →
      (r.cancelMark = true → exec .cancelPrint s = .next (s.answered (Reply.path .wrongState 0) s.carry))
      ∧ (r.cancelMark = false → r.printing = true → s.prn.sheetOpen = true →
        ∃ u, exec .cancelPrint s = .next (s.answered ⟨.done, .print, e, 1⟩ u)
          ∧ u = { s.carry with prn := { s.prn with entries := u.prn.entries }, dram := u.dram }
          ∧ u.entry? e = some { r with cancelMark := true } ∧ (∀ k, k ≠ e → u.entry? k = s.entry? k)
          ∧ unchangedOutside [(s.entryAddr e, 64)] s.dram u.dram)
      ∧ (r.cancelMark = false → ¬(r.printing = true ∧ s.prn.sheetOpen = true) →
        ∃ u, exec .cancelPrint s = .next (s.answered ⟨.done, .print, e, 0⟩ u)
          ∧ u.entry? e = none ∧ ∀ k, k ≠ e → u.entry? k = s.entry? k))
  ∧ (∀ (r : PrintEntry) (d : Doc) (s : State), s.readyFor 0x4A 1 = true →
      let e := s.headSlot.num 0
      s.entry? e = some r → r.cancelMark = false → ¬(r.printing = true ∧ s.prn.sheetOpen = true) → s.doc? r.doc = some d →
      d.livePages.Nodup → d.keep = true → d.state ≠ .deleting → (∀ p q, p ∈ d.livePages → s.page? p = some q → q.doc = r.doc) →
      let left (k : Nat) := r.copies - r.copiesDone - (if k < r.position then 1 else 0)
      let printed := d.printed || d.dir == .inbound
      let deletes := d.dir = .inbound ∧ d.autoDelete = true ∧ (d.state = .complete ∨ d.state = .incomplete) ∧ d.isHeld = false
        ∧ d.printRefs ≤ 1
      ∃ u, exec .cancelPrint s = .next (s.answered ⟨.done, .print, e, 0⟩ u)
        ∧ u.entry? e = none ∧ (∀ k, k ≠ e → u.entry? k = s.entry? k)
        ∧ u.prn = { s.prn with
            entries := u.prn.entries, slots := if r.printing then markLast e s.prn.slots else s.prn.slots,
            rendering := if r.printing then none else s.prn.rendering,
            sheetOpen := if r.printing then false else s.prn.sheetOpen }
        ∧ (¬deletes →
            u = { s.carry with prn := u.prn, psm := { s.psm with pages := u.psm.pages },
                               dju := { s.dju with docs := u.dju.docs }, dram := u.dram }
            ∧ u.doc? r.doc = some { d with printRefs := d.printRefs - 1, printed := printed }
            ∧ (∀ k, k ≠ r.doc → u.doc? k = s.doc? k)
            ∧ (∀ k p q, d.places[k]? = some (some p) → s.page? p = some q →
                u.page? p = some { q with printHolds := q.printHolds - left k })
            ∧ (∀ p, p ∉ d.livePages → u.page? p = s.page? p))
        ∧ (deletes → ∀ x, u.doc? r.doc = some x → x.state = .deleting ∧ x.keep = false))

/-- START_PRINT answers the print state before: in PRINTING it changes nothing, from STOPPING it resumes, and from STOPPED it
takes the stored profile and the geometry it gives, with an empty ring unless the geometry was the same, or is refused for a
slot count below 4 or slots of another width still to drain. STOP_PRINT answers the state before and stops at once between
sheets and through STOPPING in a sheet. With a held access: a held print read goes ahead with the word in DRAM when printing
stops with no slot filled, and stays held in a sheet while it is still an early read; an access held for another reason stays
held. -/
def Obligations.StartAndStopPrint : Prop :=
  (∀ s : State,
    let p := s.prn.profile
    let size := 16 + (p.width / 8 + 15) / 16 * 16
    let count := s.cfg.prnSize / size
    let sameWidth := s.rgw.printGeom.any fun g => g.width == p.width
    let threshold := (s.prn.active.map PrintProfile.threshold).getD 0
    (s.readyFor 0x4B 0 = true →
      (s.prn.state = .printing → exec .startPrint s = .next (s.answered (Reply.path .done 1) s.carry))
      ∧ (s.prn.state = .stopping → exec .startPrint s = .next (s.answered (Reply.path .done 2)
          { s.carry with prn := { s.prn with state := .printing } }))
      ∧ (s.prn.state = .stopped → count < 4 → exec .startPrint s = .next (s.answered (Reply.path .range count) s.carry))
      ∧ (s.prn.state = .stopped → 4 ≤ count → s.rgw.printGeom.isSome → sameWidth = false → s.prn.slots ≠ [] →
          exec .startPrint s = .next (s.answered (Reply.path .wrongState 0) s.carry))
      ∧ (s.prn.state = .stopped → 4 ≤ count → (s.rgw.printGeom = none ∨ sameWidth = true ∨ s.prn.slots = []) →
          let slots := if sameWidth then s.prn.slots else []
          exec .startPrint s = .next (s.answered (Reply.path .done 0)
            { s.carry with
                mad := { s.mad with urgent := decide (slots.length < min p.threshold count) },
                rgw := { s.rgw with printGeom := if sameWidth then s.rgw.printGeom else some ⟨p.width, size, count⟩ },
                prn := { s.prn with active := some { p with threshold := min p.threshold count }, state := .printing,
                                    fill := if sameWidth then s.prn.fill else 0,
                                    read := if sameWidth then s.prn.read else 0, slots := slots } })))
    ∧ (s.readyFor 0x4C 0 = true →
      (s.prn.state ≠ .printing → exec .stopPrint s = .next (s.answered (Reply.path .done s.prn.state.code) s.carry))
      ∧ (s.prn.state = .printing → s.smp.held = none →
          ∃ u, exec .stopPrint s = .next (s.answered (Reply.path .done 1) u)
            ∧ u = { s.carry with prn := { s.prn with state := if s.prn.sheetOpen then .stopping else .stopped },
                                 mad := { s.mad with urgent := (s.prn.sheetOpen
                                            && decide (s.prn.slots.length < threshold)) } })))
  ∧ (∀ (h : Held) (s : State), s.readyFor 0x4C 0 = true → s.prn.state = .printing → s.smp.held = some h →
      let threshold := (s.prn.active.map PrintProfile.threshold).getD 0
      let stopped : State :=
        { s.carry with prn := { s.prn with state := if s.prn.sheetOpen then .stopping else .stopped },
                       mad := { s.mad with urgent := s.prn.sheetOpen && decide (s.prn.slots.length < threshold) } }
      let early := s.prn.slots = [] ∧ ∃ r, s.printSlot h.access.off = some (s.prn.read, r)
      ((h.reason ≠ .print ∨ (s.prn.sheetOpen = true ∧ early)) →
          exec .stopPrint s = .next (s.answered (Reply.path .done 1) stopped))
      ∧ (h.reason = .print → s.prn.sheetOpen = false → s.prn.slots = [] →
          exec .stopPrint s = .next (s.answered (Reply.path .done 1)
            { stopped with smp := { s.smp with held := none, busData := Mem.word s.dram h.access.off } })))

/-! ## Commands of the Charge Unit -/

/-- SET_CLOCK: the seconds count is replaced, the tenths start from 0 with the full length of tenth 0, the week offset is
clamped to 604799, the clock is set, every destination in RETRY_WAIT has its next-try time moved by the change, the scheduler
has an occasion, and the answer carries the hour of the week. LOAD_BAND_HOURS: a day above 6 or an hour above 23 is refused
with RANGE; otherwise the bands of 1 to 12 hours of the week from the day and hour on, round the end of the week, are set from
the two-bit fields of word 3, and the answer carries the first hour. No other hour changes. LOAD_ZONE_RATE: a zone above 31, a
band above 3, or a second limit below the first, all clamped first, refuses the command with RANGE; otherwise rate record 4 ×
zone + band takes the seven clamped values, the answer carries its number, and nothing else changes. The bytes of the rate
record are the model's reading (log 12), and the next-try time moves with the clock without a bound (log 23). -/
def Obligations.TariffCommands : Prop :=
  (∀ s : State, s.readyFor 0x50 2 = true → s.ordered = true →
      let sl := s.headSlot
      let week := min 604799 (sl.num 1)
      ∃ u, exec .setClock s = .next (s.answered (Reply.doneOr (if 604799 < sl.num 1 then some 1 else none) .path 0
          ((sl.num 0 + week) / 3600 % 168)) u)
        ∧ u = { s.carry with chg := { s.chg with seconds := sl.num 0, tenths := 0, tenthCycles := 3277, weekOffset := week,
                                                 clockSet := true },
                             dju := { s.dju with dests := u.dju.dests, passDue := true }, dram := u.dram }
        ∧ (∀ k, u.dest? k = (s.dest? k).map fun t =>
            if t.state = .retryWait then { t with nextTry := t.nextTry + ((sl.num 0 : Int) - (s.chg.seconds : Int)) } else t)
        ∧ unchangedOutside (s.dju.dests.map fun e => (s.destAddr e.1, 64)) s.dram u.dram)
  ∧ (∀ s : State, s.readyFor 0x51 4 = true →
      let sl := s.headSlot
      let first := (24 * sl.num 0 + sl.num 1) % 168
      let count := max 1 (min 12 (sl.num 2))
      (6 < sl.num 0 → exec .loadBandHours s = .next (s.answered (Reply.path .range 0) s.carry))
      ∧ (sl.num 0 ≤ 6 → 23 < sl.num 1 → exec .loadBandHours s = .next (s.answered (Reply.path .range 1) s.carry))
      ∧ (sl.num 0 ≤ 6 → sl.num 1 ≤ 23 →
        ∃ u, exec .loadBandHours s = .next (s.answered (Reply.doneOr
            (if sl.num 2 < 1 ∨ 12 < sl.num 2 then some 2 else none) .path 0 first) u)
          ∧ u = { s.carry with chg := { s.chg with bands := u.chg.bands }, dram := u.dram }
          ∧ (∀ i, i < count → u.band ((first + i) % 168) = sl.field 3 (2 * i) 2
              ∧ Mem.num u.dram (s.por (0x34000 + (first + i) % 168)) 1 = sl.field 3 (2 * i) 2)
          ∧ (∀ h, (∀ i, i < count → (first + i) % 168 ≠ h) → u.band h = s.band h)
          ∧ unchangedOutside ((List.range count).map fun i => (s.por (0x34000 + (first + i) % 168), 1)) s.dram u.dram))
  ∧ (∀ s : State, s.readyFor 0x53 9 = true →
      let sl := s.headSlot
      let i := 4 * sl.num 0 + sl.num 1
      let c (p : Nat) := min 65535 (sl.num p)
      let r : Rate := { setUp := c 2, period := max 1 (min 36000 (sl.num 3)), n1 := c 4, n2 := c 5, a1 := c 6, a2 := c 7,
                        a3 := c 8 }
      (31 < sl.num 0 → exec .loadZoneRate s = .next (s.answered (Reply.path .range 0) s.carry))
      ∧ (sl.num 0 ≤ 31 → 3 < sl.num 1 → exec .loadZoneRate s = .next (s.answered (Reply.path .range 1) s.carry))
      ∧ (sl.num 0 ≤ 31 → sl.num 1 ≤ 3 → c 5 < c 4 → exec .loadZoneRate s = .next (s.answered (Reply.path .range 5) s.carry))
      ∧ (sl.num 0 ≤ 31 → sl.num 1 ≤ 3 → c 4 ≤ c 5 →
        let ranges : List (Nat × Nat × Nat) :=
          [(2, 0, 65535), (3, 1, 36000), (4, 0, 65535), (5, 0, 65535), (6, 0, 65535), (7, 0, 65535), (8, 0, 65535)]
        let clamped := (ranges.find? fun e => decide (sl.num e.1 < e.2.1 ∨ e.2.2 < sl.num e.1)).map Prod.fst
        ∃ u, exec .loadZoneRate s = .next (s.answered (Reply.doneOr clamped .path 0 i) u)
          ∧ u = { s.carry with chg := { s.chg with rates := u.chg.rates }, dram := u.dram }
          ∧ u.rate i = r ∧ (∀ k, k ≠ i → u.rate k = s.rate k)
          ∧ Mem.num u.dram (s.por (0x37000 + 16 * i + 2)) 2 = r.period
          ∧ unchangedOutside [(s.por (0x37000 + 16 * i), 16)] s.dram u.dram))

/-- LOAD_TARIFF_PREFIX, the write and the removal: a wrong count, character or options word refuses the command; a write
overwrites the record with this prefix in place or joins the table while it holds fewer than 256 (FULL otherwise); a removal
moves the last record into the freed place (NO_ENTRY without one), its 32 bytes as they stood in DRAM. A zone above 31 is
clamped. The bytes of a prefix record that a write sets are the model's reading and choice (logs 12 and 42), and so are the
zeros over the place that the moved record leaves (log 13). -/
def Obligations.LoadTariffPrefix : Prop :=
  ∀ (c : Instr) (s : State), s.readyFor 0x52 6 = true →
    let sl := s.headSlot
    let n := sl.num 0
    let cs := sl.chars 1 n
    c = (if sl.num 5 = 1 then .loadTariffPrefixRemove else .loadTariffPrefixWrite) →
    let ps := s.chg.prefixes
    let new : TariffPrefix := { count := n, chars := cs, zone := min 31 (sl.num 4) }
    let clamped : Option Nat := if 31 < sl.num 4 then some 4 else none
    let holds (p : TariffPrefix) : Bool := p.isValid && p.text == cs
    (n < 1 ∨ 12 < n → exec c s = .next (s.answered (Reply.path .range 0) s.carry))
    ∧ (1 ≤ n → n ≤ 12 →
      (∀ i, i < n → (∀ k, k < i → isPrefixChar (sl.char 1 k) = true) → isPrefixChar (sl.char 1 i) = false →
        exec c s = .next (s.answered (Reply.path .range (1 + i / 4)) s.carry))
      ∧ ((∀ i, i < n → isPrefixChar (sl.char 1 i) = true) →
        (1 < sl.num 5 → exec c s = .next (s.answered (Reply.path .range 5) s.carry))
        ∧ (sl.num 5 ≤ 1 →
          ((∀ p ∈ ps, holds p = false) →
            (sl.num 5 = 1 → exec c s = .next (s.answered (Reply.path .noEntry 1) s.carry))
            ∧ (sl.num 5 = 0 → 256 ≤ ps.length → exec c s = .next (s.answered (Reply.path .full 0) s.carry))
            ∧ (sl.num 5 = 0 → ps.length < 256 →
              ∃ u, exec c s = .next (s.answered (Reply.doneOr clamped .path 0 ps.length) u)
                ∧ u = { s.carry with chg := { s.chg with prefixes := ps ++ [new] }, dram := u.dram }
                ∧ Mem.bytes u.dram (s.por (0x35000 + 32 * ps.length)) 32 = new.bytes
                ∧ Mem.num u.dram (s.por 0x34840) 2 = ps.length + 1
                ∧ unchangedOutside [(s.por (0x35000 + 32 * ps.length), 32), (s.por 0x34840, 2)] s.dram u.dram))
          ∧ ∀ i p, ps[i]? = some p → holds p = true → (∀ k q, k < i → ps[k]? = some q → holds q = false) →
            ps.length ≤ 256 →
            (sl.num 5 = 0 →
              ∃ u, exec c s = .next (s.answered (Reply.doneOr clamped .path 0 i) u)
                ∧ u = { s.carry with chg := { s.chg with prefixes := ps.set i new }, dram := u.dram }
                ∧ Mem.bytes u.dram (s.por (0x35000 + 32 * i)) 32 = new.bytes
                ∧ unchangedOutside [(s.por (0x35000 + 32 * i), 32), (s.por 0x34840, 2)] s.dram u.dram)
            ∧ (sl.num 5 = 1 → ∀ last, ps[ps.length - 1]? = some last →
              ∃ u, exec c s = .next (s.answered (Reply.doneOr clamped .path 0 (ps.length - 1)) u)
                ∧ u = { s.carry with chg := { s.chg with prefixes := (ps.set i last).dropLast }, dram := u.dram }
                ∧ Mem.num u.dram (s.por 0x34840) 2 = ps.length - 1
                ∧ (i + 1 < ps.length → Mem.bytes u.dram (s.por (0x35000 + 32 * i)) 32
                    = Mem.bytes s.dram (s.por (0x35000 + 32 * (ps.length - 1))) 32)
                ∧ Mem.bytes u.dram (s.por (0x35000 + 32 * (ps.length - 1))) 32 = zeros 32
                ∧ unchangedOutside [(s.por (0x35000 + 32 * i), 32), (s.por (0x35000 + 32 * (ps.length - 1)), 32),
                    (s.por 0x34840, 2)] s.dram u.dram))))

/-- SET_ACCOUNT and CLEAR_SPENT. SET_ACCOUNT checks the number, the state code, the limit flag and, for UNUSED, that no call
runs; it replaces the state, the limit and the seconds per page, keeps the rest, tests the exhausted mark with
ACCOUNT_EXHAUSTED when it is newly exhausted, and answers the available amount. CLEAR_SPENT answers the spent amount and sets
it to 0, and arms the mark when something is available. The scheduler has an occasion. The places of the fields in the
account's record are the model's reading and choice (logs 12 and 71); that an UNUSED account without a limit has 0 available, and not an
unlimited amount, is the model's choice (log 67). -/
def Obligations.AccountCommands : Prop :=
  ∀ s : State,
    let sl := s.headSlot
    let i := sl.num 0
    let a := s.account i
    (s.readyFor 0x54 5 = true →
      (63 < i → exec .setAccount s = .next (s.answered (Reply.path .noEntry 0) s.carry))
      ∧ (i ≤ 63 → 2 < sl.num 1 → exec .setAccount s = .next (s.answered (Reply.path .range 1) s.carry))
      ∧ (i ≤ 63 → sl.num 1 ≤ 2 → 1 < sl.num 3 → exec .setAccount s = .next (s.answered (Reply.path .range 3) s.carry))
      ∧ (i ≤ 63 → sl.num 1 = 0 → sl.num 3 ≤ 1 → (∃ e ∈ s.chg.calls, e.2.account = i) →
          exec .setAccount s = .next (s.answered (Reply.path .wrongState 1) s.carry))
      ∧ (i ≤ 63 → sl.num 1 ≤ 2 → sl.num 3 ≤ 1 → (sl.num 1 = 0 → ∀ e ∈ s.chg.calls, e.2.account ≠ i) →
          let b : Account :=
            { a with state := if sl.num 1 = 0 then .unused else if sl.num 1 = 1 then .opened else .blocked,
                     limit := if sl.num 3 = 1 then none else some (sl.num 2),
                     secondsPerPage := max 10 (min 600 (sl.num 4)) }
          ∃ u w, exec .setAccount s = .next (s.answered (Reply.doneOr
                (if sl.num 4 < 10 ∨ 600 < sl.num 4 then some 4 else none) .account i b.availableValue) u)
            ∧ u = occasion (if a.armed = true ∧ b.covers 1 = false then post .accountExhausted .account i 0 b.spent w else w)
            ∧ w = { s.carry with chg := { s.chg with accounts := w.chg.accounts }, dram := w.dram }
            ∧ w.account i = { b with armed := b.covers 1 } ∧ (∀ k, k ≠ i → w.account k = s.account k)
            ∧ unchangedOutside [(s.por (0x38000 + 64 * i), 64)] s.dram w.dram))
    ∧ (s.readyFor 0x55 1 = true →
      (63 < i → exec .clearSpent s = .next (s.answered (Reply.path .noEntry 0) s.carry))
      ∧ (i ≤ 63 →
          let b : Account := { a with spent := 0 }
          ∃ u, exec .clearSpent s = .next (s.answered ⟨.done, .account, i, a.spent⟩ u)
            ∧ u = { s.carry with chg := { s.chg with accounts := u.chg.accounts },
                                 dju := { s.dju with passDue := true }, dram := u.dram }
            ∧ u.account i = { b with armed := a.armed || b.covers 1 } ∧ (∀ k, k ≠ i → u.account k = s.account k)
            ∧ Mem.num u.dram (s.por (0x38000 + 64 * i + 8)) 4 = 0
            ∧ unchangedOutside [(s.por (0x38000 + 64 * i), 64)] s.dram u.dram))

/-- ACK_CHARGE_LOG. With no record in use a sequence below next is answered DONE with 0, any other is refused with RANGE. With
n records in use, whose sequences run up to the one before next and pass from FFFFFFFFh to 1, the sequence of a record in use
frees it and all older ones, arms the near-full mark below 3840 and gives the scheduler an occasion; an older one changes
nothing and answers n; any other is refused with RANGE. That the oldest sequence is computed from the next sequence and the
count, for an adopted log too, is the model's reading (log 15). -/
def Obligations.AckChargeLog : Prop :=
  ∀ s : State, s.readyFor 0x56 1 = true →
    let q := s.headSlot.num 0
    let n := s.chg.logInUse
    let next := s.chg.logNext
    let oldest := if n < next then next - n else next + 4294967295 - n
    let wraps : Prop := 1 < next ∧ next ≤ n
    let inUse : Prop := (wraps ∧ (oldest ≤ q ∨ (1 ≤ q ∧ q < next))) ∨ (¬wraps ∧ oldest ≤ q ∧ q < oldest + n)
    let older : Prop := q = 0 ∨ (¬wraps ∧ q < oldest)
    (n = 0 → q < next → exec .ackChargeLog s = .next (s.answered (Reply.path .done 0) s.carry))
    ∧ (n = 0 → next ≤ q → exec .ackChargeLog s = .next (s.answered (Reply.path .range 0) s.carry))
    ∧ (0 < n → n ≤ 4096 → 1 ≤ next → next ≤ 4294967295 →
      (older → exec .ackChargeLog s = .next (s.answered (Reply.path .done n) s.carry))
      ∧ (¬older → ¬inUse → exec .ackChargeLog s = .next (s.answered (Reply.path .range 0) s.carry))
      ∧ ∀ left, inUse → ((wraps ∧ oldest ≤ q ∧ left = 4294967295 - q + (next - 1)) ∨ (wraps ∧ q < next ∧ left = next - 1 - q)
            ∨ (¬wraps ∧ left = oldest + n - 1 - q)) →
        ∃ u, exec .ackChargeLog s = .next (s.answered (Reply.path .done left) u)
          ∧ u = { s.carry with
              chg := { s.chg with logOldest := (s.chg.logOldest + (n - left)) % 4096, logInUse := left,
                                  nearArmed := s.chg.nearArmed || decide (left < 3840) },
              dju := { s.dju with passDue := true }, dram := u.dram }
          ∧ Mem.bytes u.dram (s.por 0x34800) 8
              = le 2 ((s.chg.logOldest + (n - left)) % 4096) ++ le 2 left ++ le 4 next
          ∧ unchangedOutside [(s.por 0x34800, 8)] s.dram u.dram)

/-! ## Raw slots, scanned lines and print slots -/

/-- A bus write to word r of raw slot j in RUN with a scan active, by any of the three rows of such a write. A write to any
word of a complete slot that is not taken is held with READY low and the scan hold limit; that this takes in the padding
behind the slot's last pixel word is the model's reading (log 20). Otherwise it reaches DRAM; the last pixel word of the slot
at the completion index completes that slot, that of another slot posts SCAN_ORDER, and an earlier word of the slot at the
completion index marks it started. SCAN_HOLD_EXPIRY: the held lapping write reaches DRAM, READY rises, and its slot takes an
overrun mark, once; with no access held, or one held for another reason, nothing happens. -/
def Obligations.RawSlots : Prop :=
  (∀ (off : BusAddr) (data : Word) (be : ByteEnables) (c : Instr) (g : RawGeom) (j r : Nat) (s : State),
      c = .busWrite off data be ∨ c = .rawSlotLastPixelWrite off data be ∨ c = .lappingWrite off data be →
      s.busReady off = true → s.mapPassed = true → be ≠ 0 → s.rgw.state = .run → g.slots * g.stride ≤ s.cfg.rawSize →
      s.rawSlot (wordOffset off) = some (g, j, r) →
      let waits := (j + g.slots - s.scn.take) % g.slots < s.scn.waiting
      (waits → exec c s = .next { s with smp := { s.smp with
          held := some ⟨⟨true, wordOffset off, data, be⟩, .scan j, s.cfg.scanHold⟩ } })
      ∧ (¬waits → ∃ u, StoresWord s u (wordOffset off) data be
          ∧ (r = g.win - 4 → j = s.scn.comp → exec c s = .next
              { u with scn := { s.scn with comp := (j + 1) % g.slots, waiting := s.scn.waiting + 1 },
                       rgw := { s.rgw with started := false } })
          ∧ (r = g.win - 4 → j ≠ s.scn.comp → exec c s = .next (post .scanOrder .document (s.scn.doc.getD 0) 0 j u))
          ∧ (r < g.win - 4 → j = s.scn.comp → s.scn.waiting < g.slots →
              exec c s = .next { u with rgw := { s.rgw with started := true } })
          ∧ (r < g.win - 4 → j ≠ s.scn.comp → exec c s = .next u)
          ∧ (g.win - 4 < r → exec c s = .next u)))
  ∧ (∀ s : State, s.smp.held = none → exec .scanHoldExpiry s = .next s)
  ∧ (∀ (h : Held) (j : Nat) (s : State), s.smp.held = some h →
      (h.reason = .scan j → (s.lapping h.access.off = some j) → (j = s.scn.comp → s.rgw.rawGeom.any (fun g =>
          decide (g.slots ≤ s.scn.waiting)) = true) →
        ∃ u, exec .scanHoldExpiry s = .next u
          ∧ u = { s with smp := { s.smp with held := none },
                         scn := { s.scn with overruns := if j ∈ s.scn.overruns then s.scn.overruns else s.scn.overruns ++ [j] },
                         dram := u.dram }
          ∧ (∀ i, i < 4 → Mem.get u.dram (h.access.off + i) = s.byteAfter h.access.off i h.access.data h.access.be)
          ∧ unchangedOutside [(h.access.off, 4)] s.dram u.dram)
      ∧ ((∀ j, h.reason ≠ .scan j) → exec .scanHoldExpiry s = .next s))

/-- SCAN_TAKE_SLOT, first with no access held. A slot with a void mark is passed over and loses its marks; in PAGE_FULL it is
no extra line (log 20). In PAGE_FULL a complete slot is taken and the first one posts EXTRA_LINES. IN_PAGE at STANDARD
resolution the first raw line of a pair is held. A line at FINE, or the second of a pair with the dots of both, is coded
against the reference line and stored behind the page's stream, with the segments it needs from the stack, and becomes the
reference. An overrun mark sets SCAN_OVERRUN. At the profile's height the page is sealed and the scan is in PAGE_FULL, or
between pages when it is CONTINUOUS. A line for which no segment is left ends the scan: the page is sealed TRUNCATED without
it, the segments given go back, and SCAN_FAULT is posted; that an overrun mark of its slot sets SCAN_OVERRUN on the page all
the same is the model's choice (log 60). BETWEEN_PAGES the slot opens the lowest free page record with one
segment and its line then goes into that page; a full document, page table or store is SCAN_FAULT instead. With no complete
slot nothing happens. With a lapping write held for the slot at the take index: the take of a void slot (log 20) or of a
further extra line releases it, and the write then does what it does on a slot not waiting: its last pixel word completes the
slot when it is the completion index and posts SCAN_ORDER when not, an earlier word of the completion slot marks it started.
A write held for another slot that still waits stays held when a void slot is passed over. In IN_PAGE the take leaves no
write of the taken slot held. -/
def Obligations.ScanTakeSlot : Prop :=
  (∀ (prof : Profile) (doc : Nat) (g : RawGeom) (s : State), s.rgw.state = .run → s.smp.held = none →
    s.scn.active = some prof → s.scn.doc = some doc → s.rgw.rawGeom = some g → s.scn.state ≠ .scanIdle →
    let k := s.scn.take
    let taken : Scn := { s.scn with take := (k + 1) % g.slots, waiting := s.scn.waiting - 1,
                                    overruns := s.scn.overruns.erase k, voids := s.scn.voids.erase k }
    let idle (c : Scn) : Scn := { c with state := .scanIdle, doc := none, active := none, mode := none, take := 0, comp := 0,
                                         waiting := 0, overruns := [], voids := [], page := none, half := none, ref := [],
                                         outLines := 0, rawLines := 0, streamLen := 0 }
    let fault (code : Nat) : State := post .scanFault .document doc code 0xFFFFFFFF
      { s with rgw := { s.rgw with rawGeom := none, started := false }, scn := idle s.scn }
    let events := [(s.cfg.evBase + 64 + 16 * s.ceu.evTail, 16), (s.cfg.evBase + 4, 4)]
    (s.scn.waiting = 0 → exec .scanTakeSlot s = .next s)
    ∧ (0 < s.scn.waiting → k ∈ s.scn.voids → exec .scanTakeSlot s = .next { s with scn := taken })
    ∧ (0 < s.scn.waiting → k ∉ s.scn.voids → s.scn.state = .pageFull → ∀ p lines, s.scn.lastSealed = some (p, lines) →
        exec .scanTakeSlot s = .next
          (if s.scn.extraPosted then { s with scn := taken }
           else post .extraLines .page p 0 k { s with scn := { taken with extraPosted := true } }))
    ∧ (0 < s.scn.waiting → k ∉ s.scn.voids → s.scn.state = .inPage → ∀ p r, s.scn.page = some p → s.page? p = some r →
        let dots := if prof.lineIsWhite s.scn.outLines then whiteLine prof.cls.dots else s.rawDots prof k
        let marked : PageRec := { r with scanOverrun := r.scanOverrun || decide (k ∈ s.scn.overruns) }
        let pageSpan := [(s.pageAddr p, 64)]
        (prof.res = .standard → s.scn.half = none →
          ∃ u, exec .scanTakeSlot s = .next u
            ∧ u = { s with scn := { taken with rawLines := s.scn.rawLines + 1,
                                               half := some (if prof.lineIsWhite s.scn.outLines then .unread else .dots dots) },
                           psm := { s.psm with pages := u.psm.pages }, dram := u.dram }
            ∧ u.page? p = some marked ∧ (∀ q, q ≠ p → u.page? q = s.page? q) ∧ unchangedOutside pageSpan s.dram u.dram)
        ∧ ∀ line, (prof.res = .fine ∧ line = dots) ∨ (prof.res = .standard ∧ s.scn.half = some .unread ∧ line = dots)
              ∨ (∃ first, prof.res = .standard ∧ s.scn.half = some (.dots first)
                  ∧ line = List.zipWith (fun a b => a || b) first dots) →
          let code := codeLine prof.cls.dots s.scn.ref line
          let len := s.scn.streamLen + code.length
          let more := segsFor len - r.chain.length
          let chain := r.chain ++ s.psm.stack.take more
          let coded : Scn := { taken with rawLines := s.scn.rawLines + 1, outLines := s.scn.outLines + 1, ref := line,
                                          streamLen := len, half := if prof.res = .fine then s.scn.half else none }
          let bytesSpan := chain.map fun i => (s.segAddr i, if more = 0 then 1020 else 1024)
          let kept (x : PageRec) : Prop := ∃ d, s.doc? x.doc = some d ∧ d.keep = true
            ∧ ∀ n, (s.line n).state = .dataWait → (s.line n).doc ≠ some x.doc
          (more ≤ s.psm.stack.length → chain.Nodup → s.scn.outLines + 1 < prof.height →
            ∃ u, exec .scanTakeSlot s = .next u
              ∧ u = { s with scn := coded, psm := { s.psm with pages := u.psm.pages, stack := s.psm.stack.drop more,
                                                               lowArmed := u.psm.lowArmed }, ceu := u.ceu, dram := u.dram }
              ∧ (more = 0 → u.psm.lowArmed = s.psm.lowArmed ∧ u.ceu = s.ceu)
              ∧ u.page? p = some { marked with chain := chain } ∧ (∀ q, q ≠ p → u.page? q = s.page? q)
              ∧ u.streamBytes chain s.scn.streamLen code.length = code
              ∧ unchangedOutside (bytesSpan ++ (if more = 0 then (if k ∈ s.scn.overruns then pageSpan else [])
                  else pageSpan ++ (s.por 0, 12) :: events)) s.dram u.dram)
          ∧ (more ≤ s.psm.stack.length → chain.Nodup → prof.height ≤ s.scn.outLines + 1 → len ≠ 0 →
            r.chain.length ≤ segsFor len → p < 1024 → kept r →
            ∃ u, exec .scanTakeSlot s = .next u
              ∧ u = { s with
                  scn := { coded with half := none, page := none, sealedCount := s.scn.sealedCount + 1, extraPosted := false,
                                      lastSealed := some (p, s.scn.outLines + 1),
                                      state := if s.scn.mode = some .single then .pageFull else .betweenPages },
                  psm := { s.psm with pages := u.psm.pages, stack := s.psm.stack.drop more, lowArmed := u.psm.lowArmed },
                  dju := { s.dju with passDue := true }, ceu := u.ceu, dram := u.dram }
              ∧ u.page? p = some { marked with
                  chain := chain, codedLen := len, lineCount := s.scn.outLines + 1,
                  check := crc16 (u.streamBytes chain 0 len), sealedTime := s.chg.seconds,
                  state := if marked.scanOverrun || marked.truncated then .damaged else .complete }
              ∧ (∀ q, q ≠ p → u.page? q = s.page? q) ∧ u.streamBytes chain s.scn.streamLen code.length = code
              ∧ unchangedOutside (bytesSpan ++ pageSpan ++ (if more = 0 then [] else (s.por 0, 12) :: events)) s.dram u.dram)
          ∧ (s.psm.stack.length < more → s.scn.outLines ≠ 0 → s.scn.streamLen ≠ 0 →
            r.chain.length = segsFor s.scn.streamLen → kept r →
            ∃ v, exec .scanTakeSlot s = .next (post .scanFault .document doc 0 p v)
              ∧ v = { s with
                  rgw := { s.rgw with rawGeom := none, started := false },
                  scn := { idle s.scn with sealedCount := s.scn.sealedCount + 1, extraPosted := false,
                                           lastSealed := some (p, s.scn.outLines) },
                  psm := { s.psm with pages := v.psm.pages, stack := s.psm.stack.reverse, lowArmed := v.psm.lowArmed },
                  dju := { s.dju with passDue := true }, ceu := v.ceu, dram := v.dram }
              ∧ (∃ check, v.page? p = some { marked with
                  truncated := true, state := .damaged, codedLen := s.scn.streamLen, lineCount := s.scn.outLines, check := check,
                  sealedTime := s.chg.seconds })
              ∧ (∀ q, q ≠ p → v.page? q = s.page? q)))
    ∧ (0 < s.scn.waiting → k ∉ s.scn.voids → s.scn.state = .betweenPages → s.scn.page = none → ∀ d, s.doc? doc = some d →
        (128 ≤ d.places.length → exec .scanTakeSlot s = .next (fault 2))
        ∧ (d.places.length < 128 → (∀ q, q < 1024 → (s.page? q).isSome) → exec .scanTakeSlot s = .next (fault 1))
        ∧ ∀ q, d.places.length < 128 → q < 1024 → s.page? q = none → (∀ x, x < q → (s.page? x).isSome) →
          (s.psm.stack = [] → exec .scanTakeSlot s = .next (fault 0))
          ∧ ∀ seg rest, s.psm.stack = seg :: rest →
            ∃ v, exec .scanTakeSlot s = exec .scanTakeSlot v
              ∧ v = { s with
                  scn := { s.scn with state := .inPage, page := some q, outLines := 0, rawLines := 0, half := none,
                                      ref := whiteLine prof.cls.dots, streamLen := 0 },
                  psm := { s.psm with pages := v.psm.pages, stack := rest, lowArmed := v.psm.lowArmed },
                  dju := { s.dju with docs := v.dju.docs }, ceu := v.ceu, dram := v.dram }
              ∧ v.page? q = some
                  { state := .filling, doc := doc, pos := d.places.length, dir := .outbound, cls := prof.cls, res := prof.res,
                    lineCount := 0, codedLen := 0, chain := [seg], check := 0, scanOverrun := false, truncated := false,
                    checkFail := false, decodeFault := false, sendHolds := s.openDests doc, printHolds := 0, sealedTime := 0 }
              ∧ (∀ x, x ≠ q → v.page? x = s.page? x)
              ∧ v.doc? doc = some { d with places := d.places ++ [some q] } ∧ (∀ x, x ≠ doc → v.doc? x = s.doc? x)
              ∧ unchangedOutside ([(s.pageAddr q, 64), (s.docAddr doc, 512), (s.segAddr seg + 1020, 4), (s.por 0, 12)]
                  ++ events) s.dram v.dram))
  ∧ (∀ (h : Held) (g : RawGeom) (r : Nat) (s : State), s.rgw.state = .run → s.scn.active.isSome → s.scn.doc.isSome →
      s.rgw.rawGeom = some g → s.smp.held = some h → h.reason = .scan s.scn.take →
      s.rawSlot h.access.off = some (g, s.scn.take, r) → 0 < s.scn.waiting → s.scn.waiting ≤ g.slots →
      (s.scn.take ∈ s.scn.voids ∨ (s.scn.state = .pageFull ∧ s.scn.extraPosted = true)) → s.scn.state ≠ .scanIdle →
      let k := s.scn.take
      let taken : State := { s with
        smp := { s.smp with held := none },
        scn := { s.scn with take := (k + 1) % g.slots, waiting := s.scn.waiting - 1, overruns := s.scn.overruns.erase k,
                            voids := s.scn.voids.erase k } }
      ∃ u, StoresWord taken u h.access.off h.access.data h.access.be
        ∧ exec .scanTakeSlot s = .next
          (if r = g.win - 4 then
            (if s.scn.comp = k then { u with scn := { u.scn with comp := (k + 1) % g.slots, waiting := s.scn.waiting },
                                             rgw := { s.rgw with started := false } }
             else post .scanOrder .document (s.scn.doc.getD 0) 0 k u)
           else if r < g.win - 4 ∧ s.scn.comp = k then { u with rgw := { s.rgw with started := true } }
           else u))
  ∧ (∀ (h : Held) (g : RawGeom) (j r : Nat) (s : State), s.rgw.state = .run → s.scn.active.isSome → s.scn.doc.isSome →
      s.rgw.rawGeom = some g → s.smp.held = some h → s.rawSlot h.access.off = some (g, j, r) → s.scn.take < g.slots →
      s.scn.waiting ≤ g.slots → 0 < s.scn.waiting → s.scn.take ∈ s.scn.voids → s.scn.state ≠ .scanIdle → ∀ i, h.reason = .scan i →
      j ≠ s.scn.take → (j + g.slots - s.scn.take) % g.slots < s.scn.waiting →
      exec .scanTakeSlot s = .next { s with
        scn := { s.scn with take := (s.scn.take + 1) % g.slots, waiting := s.scn.waiting - 1,
                            overruns := s.scn.overruns.erase s.scn.take, voids := s.scn.voids.erase s.scn.take } })
  ∧ (∀ (h : Held) (g : RawGeom) (r : Nat) (s : State), s.rgw.state = .run → s.scn.active.isSome → s.scn.doc.isSome →
      s.rgw.rawGeom = some g → s.smp.held = some h → h.reason = .scan s.scn.take →
      s.rawSlot h.access.off = some (g, s.scn.take, r) → 0 < s.scn.waiting → s.scn.waiting ≤ g.slots → s.scn.state = .inPage →
      ∃ u, exec .scanTakeSlot s = .next u ∧ u.smp = { s.smp with held := none })

/-- A bus read of a print slot of the geometry in force, in RUN with power, by either row. An early read (no slot filled,
printing started, the slot at the read index) is held with READY low and the print hold limit. The read of the last word of
the slot at the read index consumes a filled slot: the read index and the urgent flag move on, and PRINT_SHEET_DONE is posted
when the slot ends its sheet: its code is 1 when the sheet is its entry's last and 0 otherwise. That the last sheet is known
by the entry's removal at its end, or else by nothing being left of the entry as the slot is consumed, is the model's reading
(log 31). Any other read only returns its word, the substitute's while the slot is substituted.
PRINT_HOLD_EXPIRY of a held print read: the slot at the fill index is substituted and the read then finishes. With no sheet
in progress the substitute has no page and no document, and tray 0 (the model's choice, log 46), the slot joins the ring,
PRINT_UNDERRUN is posted with code 1 and the urgent flag is tested. With a sheet in progress (from its line 0 on: the model's
choice, log 45) and a page line still owed that ends neither the page nor the sheet, the substitute stands for the sheet's
next line: its tag has that line's tray, page, document, sheet and line, FIRST on line 0 and UNDERRUN, with DAMAGED, CROPPED
and CHECK_FAIL clear (the model's reading, log 32), PRINT_UNDERRUN has code 0, and the line is given up. With no access held,
or one held for another reason, nothing happens. -/
def Obligations.PrintSlots : Prop :=
  (∀ (off : BusAddr) (be : ByteEnables) (c : Instr) (g : PrintGeom) (j r : Nat) (s : State),
      c = .earlyRead off be ∨ c = .printSlotLastWordRead off be →
      s.busReady off = true → be ≠ 0 → s.rgw.state = .run → s.rgw.printGeom = some g →
      s.printSlot (wordOffset off) = some (j, r) →
      let word := match (s.slotRec j).bind SlotRec.substitute with
        | none => Mem.word s.dram (wordOffset off)
        | some t => BitVec.ofNat 32 (leNat ((t.bytes.drop r).take 4))
      let read : State := { s with smp := { s.smp with busData := word } }
      (s.prn.slots = [] → s.prn.state ≠ .stopped → j = s.prn.read →
        exec c s = .next { s with smp := { s.smp with
          held := some ⟨⟨false, wordOffset off, 0, be⟩, .print, s.cfg.printHold⟩ } })
      ∧ (s.prn.slots ≠ [] ∨ s.prn.state = .stopped ∨ j ≠ s.prn.read → (r + 4 ≠ slotBytes g.width ∨ j ≠ s.prn.read
            ∨ s.prn.slots = []) → exec c s = .next read)
      ∧ ∀ q qs, s.prn.slots = q :: qs → j = s.prn.read → r + 4 = slotBytes g.width →
          let u : State := { read with
            prn := { s.prn with slots := qs, read := (s.prn.read + 1) % g.slotCount },
            mad := { s.mad with urgent := (s.prn.state != .stopped
              && decide (qs.length < (s.prn.active.map PrintProfile.threshold).getD 0)) } }
          ((q.sheet = none ∨ q.ends = false) → exec c s = .next u)
          ∧ ∀ e doc sheet code, q.sheet = some (e, doc, sheet) → q.ends = true →
              (let gone : Prop := ∃ w, s.printingEntry = some (e, w) ∧ w.sheetNumber = sheet + 1
                ∧ ∀ d, s.doc? w.doc = some d → s.prn.sheetOpen = false ∧ s.prn.rendering = none ∧ d.isFinal = true
                  ∧ (∀ i p, w.position ≤ i → d.places[i]? ≠ some (some p)) ∧ (w.copies ≤ w.copiesDone + 1 ∨ d.livePages = [])
              (code = 1 ∧ (q.entryLast = true ∨ (q.entryGone = false ∧ gone)))
                ∨ (code = 0 ∧ q.entryLast = false ∧ (q.entryGone = true ∨ ¬gone))) →
              exec c s = .next (post .printSheetDone .print e code (doc + 256 * (sheet % 16777216)) u))
  ∧ (∀ s : State, s.smp.held = none → exec .printHoldExpiry s = .next s)
  ∧ (∀ (h : Held) (s : State), s.smp.held = some h →
      (h.reason ≠ .print → exec .printHoldExpiry s = .next s)
      ∧ (h.reason = .print →
        exec .printHoldExpiry s = .next (finishRead h.access.off (substitute s))
          ∧ (s.prn.sheetOpen = false →
            let w : State := { s with prn := { s.prn with slots := s.prn.slots ++ [blankSubstitute],
                                                          fill := (s.prn.fill + 1) % s.printSlots } }
            substitute s = testUrgent
              (post .printUnderrun .print ((s.printingEntry.map Prod.fst).getD 0) 1 s.prn.fill w)))
      ∧ blankSubstitute.sheet = none
      ∧ ∀ t, blankSubstitute.substitute = some t →
          t.underrun = true ∧ t.page = none ∧ t.doc = none ∧ t.sheet = 0 ∧ t.line = 0 ∧ t.tray = 0)
  ∧ (∀ (h : Held) (prof : PrintProfile) (g : PrintGeom) (s : State), s.smp.held = some h → h.reason = .print →
      s.rgw.state = .run → s.prn.active = some prof → s.rgw.printGeom = some g → s.prn.sheetOpen = true →
      ∀ e r n page line, s.printingEntry = some (e, r) → s.prn.rendering = some n → s.page? n.page = some page →
        n.cur = some line → 0 < line.owed → (line.last = true → 1 < line.owed) → r.sheetLine + 1 ≠ prof.height →
        let tag : Tag := { tray := r.tray, page := some n.page, sheet := r.sheetNumber - 1, line := r.sheetLine,
                           first := r.sheetLine == 0, last := false, underrun := true, damaged := false, cropped := false,
                           checkFail := false, doc := some r.doc }
        let slot : SlotRec := { substitute := some tag, sheet := some (e, r.doc, r.sheetNumber - 1), ends := false,
                                entryLast := false, entryGone := false }
        ∃ u, exec .printHoldExpiry s = .next (finishRead h.access.off u)
          ∧ u = { s with
              mad := { s.mad with urgent := s.prn.state != .stopped && decide (s.prn.slots.length + 1 < prof.threshold) },
              ceu := (post .printUnderrun .print e 0 s.prn.fill s).ceu,
              prn := { s.prn with entries := u.prn.entries, slots := s.prn.slots ++ [slot],
                                  fill := (s.prn.fill + 1) % g.slotCount,
                                  rendering := some { n with cur := some { line with owed := line.owed - 1 } } },
              dram := u.dram }
          ∧ u.entry? e = some { r with sheetLine := r.sheetLine + 1 } ∧ (∀ k, k ≠ e → u.entry? k = s.entry? k)
          ∧ unchangedOutside [(s.entryAddr e, 64), (s.cfg.evBase + 64 + 16 * s.ceu.evTail, 16), (s.cfg.evBase + 4, 4)]
              s.dram u.dram)

/-- PRN_TAKE_ENTRY in PRINTING with no entry in hand takes the entry first by class and then by arrival. With a sealed
page at its position its rendering and the entry's next sheet begin at once (the model's choice, log 45); with a FILLING
page only the printing mark changes. With no entry or one in hand nothing happens. PRN_RENDER_SHEET_LINE in the middle of
a sheet, with a page line owed that ends neither page nor sheet: the slot at the fill index takes its tag and dots, fill
index, sheet line and owed count move on, and the urgent flag is tested. In STOPPED nothing happens. The last line of a
page, in STOPPING or with nothing behind the page in a list that may grow: its slot is LAST, the page loses a print hold,
the entry goes to the next place, a STOPPING printer stops. A malformed line ends the page with DECODE_FAULT, DAMAGED and
PRINT_FAULT code 0 with its number. A check that differs gives CHECK_FAIL in tag and page record, DAMAGED and PRINT_FAULT
code 1 with the computed check; of a last line given up in the page record only. Between sheets, an entry in hand walks
over freed places, and at the end of a copy of a final list goes back to place 0, counts the copy and begins its next
sheet in the same step (logs 31 and 45). At the end of the last copy the entry is removed: its waiting slots take the mark
that it is gone (R170), and the document loses a print reference and, inbound, is marked printed. A cancel mark removes
the entry at the end of its sheet, with the print holds still owed. Both are stated where the removal does not delete the
document. A read held as early finishes when the slot at the read index is filled, not before. The model's choices too: an
entry whose page ends in STOPPING stays at its next place with the printer stopped, also after the last copy of a final
list (log 53); the dot from which a malformed line's slot is white (log 52); a second sheet line owed under a new profile
is rendered (log 54); a run byte above BFh (log 61). -/
def Obligations.Printing : Prop :=
  (∀ s : State, s.rgw.state = .run → s.prn.state = .printing → s.ordered = true →
      (s.prn.entries = [] ∨ s.printingEntry.isSome → exec .prnTakeEntry s = .next s)
      ∧ ∀ e r d p page, s.printingEntry = none → s.entry? e = some r →
          (∀ k q, s.entry? k = some q → k ≠ e → r.cls < q.cls ∨ (r.cls = q.cls ∧ r.arrival < q.arrival)) →
          s.prn.rendering = none → s.prn.sheetOpen = false → s.doc? r.doc = some d →
          d.places[r.position]? = some (some p) → s.page? p = some page →
          let begins := page.state != .filling
          ∃ u, exec .prnTakeEntry s = .next u
            ∧ u = { s with
                prn := { s.prn with entries := u.prn.entries, sheetOpen := begins,
                                    rendering := if begins then some
                                        { page := p, pos := 0, lineNo := 0, ref := whiteLine page.cls.dots, cur := none,
                                          damaged := page.state == .damaged } else none },
                dram := u.dram }
            ∧ u.entry? e = some { r with printing := true, sheetNumber := if begins then r.sheetNumber + 1 else r.sheetNumber,
                                         sheetLine := if begins then 0 else r.sheetLine }
            ∧ (∀ k, k ≠ e → u.entry? k = s.entry? k) ∧ unchangedOutside [(s.entryAddr e, 64)] s.dram u.dram)
  ∧ (∀ (prof : PrintProfile) (g : PrintGeom) (s : State), s.rgw.state = .run → s.mapPassed = true → s.prn.active = some prof →
      s.rgw.printGeom = some g → s.smp.held = none →
      (s.prn.state = .stopped → exec .prnRenderSheetLine s = .next s)
      ∧ ∀ e r n page line, s.prn.state ≠ .stopped → s.printingEntry = some (e, r) → s.prn.rendering = some n →
          s.page? n.page = some page → n.cur = some line → 0 < line.owed → (line.last = true → 1 < line.owed) →
          s.prn.sheetOpen = true → r.sheetLine + 1 ≠ prof.height → s.prn.slots.length < g.slotCount →
          s.prn.fill < g.slotCount → g.slotSize = slotBytes prof.width → g.slotCount * g.slotSize ≤ s.cfg.prnSize → e < 512 →
          let a := s.cfg.prnBase + s.prn.fill * g.slotSize
          let tag : Tag := { tray := r.tray, page := some n.page, sheet := r.sheetNumber - 1, line := r.sheetLine,
                             first := r.sheetLine == 0, last := false, underrun := false, damaged := n.damaged,
                             cropped := decide (prof.width < page.cls.dots), checkFail := false, doc := some r.doc }
          let slot : SlotRec := { substitute := none, sheet := some (e, r.doc, r.sheetNumber - 1), ends := false,
                                  entryLast := false, entryGone := false }
          ∃ u, exec .prnRenderSheetLine s = .next u
            ∧ u = { s with
                mad := { s.mad with urgent := decide (s.prn.slots.length + 1 < prof.threshold) },
                prn := { s.prn with entries := u.prn.entries, slots := s.prn.slots ++ [slot],
                                    fill := (s.prn.fill + 1) % g.slotCount,
                                    rendering := some { n with cur := some { line with owed := line.owed - 1 } } },
                dram := u.dram }
            ∧ u.entry? e = some { r with sheetLine := r.sheetLine + 1 } ∧ (∀ k, k ≠ e → u.entry? k = s.entry? k)
            ∧ Mem.bytes u.dram a 16 = tag.bytes
            ∧ Mem.bytes u.dram (a + 16) (slotBytes prof.width - 16) = prof.dataBytes line.dots
            ∧ unchangedOutside [(a, slotBytes prof.width), (s.entryAddr e, 64)] s.dram u.dram)
  ∧ (∀ (prof : PrintProfile) (g : PrintGeom) (s : State), s.rgw.state = .run → s.mapPassed = true → s.ordered = true →
      s.prn.active = some prof → s.rgw.printGeom = some g → s.prn.sheetOpen = true →
      ∀ e r n page, s.printingEntry = some (e, r) → r.cancelMark = false → s.prn.rendering = some n →
        s.prn.state = .stopping
          ∨ (s.prn.state = .printing ∧ ∃ d, s.doc? r.doc = some d ∧ d.isFinal = false ∧ d.places.length ≤ r.position + 1) →
        s.page? n.page = some page → (n.cur.all fun l => l.owed == 0) = true → page.res = .fine ∨ prof.repeats = 1 →
        2 ≤ page.printHolds →
        let dec := decodeLine page.cls.dots n.ref (s.streamBytes page.chain n.pos (page.codedLen - n.pos))
        let crc := crc16 (s.streamBytes page.chain 0 page.codedLen)
        let bad := !dec.malformed && crc != page.check
        let page' : PageRec := { page with decodeFault := page.decodeFault || dec.malformed, checkFail := page.checkFail || bad,
                                           state := if dec.malformed || bad then .damaged else page.state,
                                           printHolds := page.printHolds - 1 }
        dec.malformed = true ∨ page.codedLen ≤ n.pos + dec.used →
        (s.smp.held = none → s.ceu.evTail < s.cfg.recCount → s.prn.slots.length < g.slotCount → s.prn.fill < g.slotCount →
          g.slotSize = slotBytes prof.width → g.slotCount * g.slotSize ≤ s.cfg.prnSize → e < 512 → n.page < 1024 →
          let a := s.cfg.prnBase + s.prn.fill * g.slotSize
          let tag : Tag := { tray := r.tray, page := some n.page, sheet := r.sheetNumber - 1, line := r.sheetLine,
                             first := r.sheetLine == 0, last := true, underrun := false, damaged := n.damaged,
                             cropped := decide (prof.width < page.cls.dots), checkFail := bad, doc := some r.doc }
          let slot : SlotRec := { substitute := none, sheet := some (e, r.doc, r.sheetNumber - 1), ends := true,
                                  entryLast := false, entryGone := false }
          ∃ u, exec .prnRenderSheetLine s = .next u
            ∧ u = { s with
                mad := { s.mad with urgent := s.prn.state == .printing && decide (s.prn.slots.length + 1 < prof.threshold) },
                prn := { s.prn with entries := u.prn.entries, slots := s.prn.slots ++ [slot], rendering := none,
                                    fill := (s.prn.fill + 1) % g.slotCount, sheetOpen := false,
                                    state := if s.prn.state = .stopping then .stopped else .printing },
                psm := { s.psm with pages := u.psm.pages },
                ceu := (if dec.malformed then post .printFault .page n.page 0 n.lineNo s
                        else if bad then post .printFault .page n.page 1 crc.toNat s else s).ceu,
                dram := u.dram }
            ∧ u.entry? e = some { r with sheetLine := 0, position := r.position + 1 } ∧ (∀ k, k ≠ e → u.entry? k = s.entry? k)
            ∧ u.page? n.page = some page' ∧ (∀ p, p ≠ n.page → u.page? p = s.page? p)
            ∧ Mem.bytes u.dram a 16 = tag.bytes
            ∧ Mem.bytes u.dram (a + 16) (slotBytes prof.width - 16) = prof.dataBytes dec.dots
            ∧ unchangedOutside [(a, slotBytes prof.width), (s.entryAddr e, 64), (s.pageAddr n.page, 64),
                (s.cfg.evBase + 64 + 16 * s.ceu.evTail, 16), (s.cfg.evBase + 4, 4)] s.dram u.dram)
        ∧ ∀ h, s.smp.held = some h → h.reason = .print → dec.malformed = false →
            ∃ u, exec .printHoldExpiry s = .next (finishRead h.access.off u) ∧ u.page? n.page = some page'
              ∧ u.ceu = (post .printUnderrun .print e 0 s.prn.fill s).ceu)
  ∧ (∀ (e k p copies : Nat) (r : PrintEntry) (d : Doc) (page : PageRec) (s : State), s.rgw.state = .run → s.ordered = true →
      s.prn.state = .printing → s.prn.active.isSome → s.prn.sheetOpen = false → s.prn.rendering = none →
      s.printingEntry = some (e, r) → s.doc? r.doc = some d → d.places.length ≤ 128 → d.places[k]? = some (some p) →
      s.page? p = some page → page.state ≠ .filling →
      ((copies = r.copiesDone ∧ r.position ≤ k ∧ ∀ i, r.position ≤ i → i < k → d.places[i]? = some none)
        ∨ (copies = r.copiesDone + 1 ∧ copies < r.copies ∧ d.isFinal = true ∧ (∀ i, i < k → d.places[i]? = some none)
          ∧ ∀ i, r.position ≤ i → i < d.places.length → d.places[i]? = some none)) →
      ∃ v, exec .prnRenderSheetLine s = exec .prnRenderSheetLine v
        ∧ v = { s with prn := { s.prn with
            entries := v.prn.entries, sheetOpen := true,
            rendering := some { page := p, pos := 0, lineNo := 0, ref := whiteLine page.cls.dots, cur := none,
                                damaged := page.state == .damaged } }, dram := v.dram }
        ∧ v.entry? e = some { r with position := k, copiesDone := copies, sheetNumber := r.sheetNumber + 1, sheetLine := 0 }
        ∧ (∀ x, x ≠ e → v.entry? x = s.entry? x) ∧ unchangedOutside [(s.entryAddr e, 64)] s.dram v.dram)
  ∧ (∀ (e : Nat) (r : PrintEntry) (d : Doc) (s : State), s.rgw.state = .run → s.ordered = true → s.smp.held = none →
      s.prn.state = .printing → s.prn.active.isSome → s.prn.sheetOpen = false → s.prn.rendering = none →
      s.printingEntry = some (e, r) → (∀ k q, s.entry? k = some q → q.printing = true → k = e) → s.doc? r.doc = some d →
      d.places.length ≤ 128 → d.isFinal = true → r.copies ≤ r.copiesDone + 1 →
      (∀ i, r.position ≤ i → i < d.places.length → d.places[i]? = some none) →
      d.state ≠ .deleting → d.dir = .outbound ∨ d.autoDelete = false ∨ d.isHeld = true ∨ 1 < d.printRefs →
      ∃ u, exec .prnRenderSheetLine s = .next u
        ∧ u = { s with mad := u.mad, prn := { s.prn with entries := u.prn.entries, slots := markLast e s.prn.slots },
                       dju := { s.dju with docs := u.dju.docs }, dram := u.dram }
        ∧ u.entry? e = none ∧ (∀ x, x ≠ e → u.entry? x = s.entry? x)
        ∧ u.doc? r.doc = some { d with printRefs := d.printRefs - 1, printed := d.printed || d.dir == .inbound }
        ∧ (∀ x, x ≠ r.doc → u.doc? x = s.doc? x))
  ∧ (∀ (prof : PrintProfile) (e : Nat) (r : PrintEntry) (n : Rendering) (page : PageRec) (line : PageLine) (d : Doc) (s : State),
      s.rgw.state = .run → s.ordered = true → s.smp.held = none → s.prn.state ≠ .stopped → s.prn.active = some prof →
      s.prn.slots.length < s.printSlots → s.prn.sheetOpen = true → s.printingEntry = some (e, r) → r.cancelMark = true →
      (∀ k q, s.entry? k = some q → q.printing = true → k = e) → s.prn.rendering = some n → s.page? n.page = some page →
      n.cur = some line → 0 < line.owed → line.badCheck = none →
      (r.sheetLine + 1 = prof.height ∨ (line.last = true ∧ line.owed = 1)) → s.doc? r.doc = some d →
      d.places[r.position]? = some (some n.page) → r.copiesDone < r.copies → d.livePages.Nodup → d.keep = true →
      d.state ≠ .deleting → (∀ p q, p ∈ d.livePages → s.page? p = some q → q.doc = r.doc) →
      d.dir = .outbound ∨ d.autoDelete = false ∨ d.isHeld = true ∨ 1 < d.printRefs →
      let left (k : Nat) := r.copies - r.copiesDone - (if k < r.position then 1 else 0)
      let slot : SlotRec := { substitute := none, sheet := some (e, r.doc, r.sheetNumber - 1), ends := true,
                              entryLast := false, entryGone := false }
      ∃ u, exec .prnRenderSheetLine s = .next u
        ∧ u = { s with
            mad := u.mad, dram := u.dram, psm := { s.psm with pages := u.psm.pages },
            dju := { s.dju with docs := u.dju.docs },
            prn := { s.prn with entries := u.prn.entries, slots := markLast e (s.prn.slots ++ [slot]), rendering := none,
                                sheetOpen := false, fill := (s.prn.fill + 1) % s.printSlots,
                                state := if s.prn.state = .stopping then .stopped else .printing } }
        ∧ u.entry? e = none ∧ (∀ x, x ≠ e → u.entry? x = s.entry? x)
        ∧ u.doc? r.doc = some { d with printRefs := d.printRefs - 1, printed := d.printed || d.dir == .inbound }
        ∧ (∀ x, x ≠ r.doc → u.doc? x = s.doc? x)
        ∧ (∀ k p q, d.places[k]? = some (some p) → s.page? p = some q →
            u.page? p = some { q with printHolds := q.printHolds - left k })
        ∧ (∀ p, p ∉ d.livePages → u.page? p = s.page? p))
  ∧ (∀ (h : Held) (s u : State), s.rgw.state = .run → s.prn.state ≠ .stopped → s.prn.active.isSome → h.reason = .print →
      exec .prnRenderSheetLine { s with smp := { s.smp with held := none } } = .next u →
      let early := u.prn.state ≠ .stopped ∧ u.prn.slots = [] ∧ ∃ r, u.printSlot h.access.off = some (u.prn.read, r)
      (early → exec .prnRenderSheetLine { s with smp := { s.smp with held := some h } }
          = .next { u with smp := { u.smp with held := some h } })
      ∧ (¬early → exec .prnRenderSheetLine { s with smp := { s.smp with held := some h } }
            = .next (finishRead h.access.off u)
          ∧ ∀ j r q, u.printSlot h.access.off = some (j, r) → u.slotRec j = some q → q.substitute = none →
              r + 4 ≠ slotBytes ((u.rgw.printGeom.map PrintGeom.width).getD 0) →
              finishRead h.access.off u
                = { u with smp := { held := none, busData := Mem.word u.dram h.access.off } }))

/-! ## Time and scheduling -/

/-- TIME_BASE_TENTH and TIME_BASE_SECOND. A tenth advances the tenths round 0 to 9 with the length of the next tenth, and the
seconds, modulo 2^32, when the tenths return to 0; every running session timer loses a tenth unless a grace runs, which loses
it instead; every answered call gains a tenth of connected time; and a second brings an occasion when a destination's next-try
time has come. TIME_BASE_SECOND is the tenth that ends the second and acts only at tenth 9. That the rows of the time base
take the tenths off the timers is log 28, that TIME_BASE_SECOND acts only on the tenth that closes a second is log 33, that a
next-try time above FFFFFFFFh is not reached after the seconds wrap is log 57, and that the connected time has no bound is log
59: the model's choices. -/
def Obligations.TimeBase : Prop :=
  ∀ s : State, s.phase = .up → s.chg.tenths < 10 →
    let t := (s.chg.tenths + 1) % 10
    let seconds := if t = 0 then (s.chg.seconds + 1) % 4294967296 else s.chg.seconds
    (∃ u, exec .timeBaseTenth s = .next u
      ∧ u = { s with lne := { s.lne with lines := u.lne.lines, grace := s.lne.grace.map fun g => g - 1 },
                     chg := { s.chg with seconds := seconds, tenths := t, tenthCycles := if t < 8 then 3277 else 3276,
                                         calls := u.chg.calls },
                     dju := { s.dju with passDue := s.dju.passDue || ((t == 0) && s.dju.dests.any fun e =>
                       (e.2.state == .retryWait) && decide (e.2.nextTry ≤ (seconds : Int))) } }
      ∧ (∀ n, u.line n = if s.lne.grace = none ∧ (s.line n).timer.isSome
          then { s.line n with remaining := (s.line n).remaining - 1 } else s.line n)
      ∧ (∀ n, Tab.get? u.chg.calls n = (Tab.get? s.chg.calls n).map fun c =>
          if c.answered then { c with connected := c.connected + 1 } else c))
    ∧ (s.chg.tenths = 9 → exec .timeBaseSecond s = exec .timeBaseTenth s)
    ∧ (s.chg.tenths ≠ 9 → exec .timeBaseSecond s = .next s)

/-- The scheduler's order: the first eligible destination is an eligible one, and no eligible one comes before it by
priority, then submission number, then destination index; there is none exactly when no destination is eligible. The free
line is the lowest-numbered IDLE line whose plan allows outbound calls, while the outbound sessions are below the ceiling.
SCHEDULER_PASS with an occasion. Without a free line or an eligible destination the pass ends. With both, and the ceiling
reached by this call, one call starts: the CHG reserves the charge and a log slot, the destination is DIALLING on the
line, the job's sessions grow by 1 and a QUEUED job is ACTIVE, and the line sends SEIZE and enters SEIZING with its timer.
A destination is eligible exactly when it is PENDING or its next-try time has come (a time above FFFFFFFFh never comes:
log 57), its job is QUEUED or ACTIVE with fewer sessions than its spread, no outbound session runs to its digits, the
clock has been set, the account is open and its available amount covers the reservation, the charge log has room, and its
next page is sealed. The reservation is the charge, at the rate in force now, of the account's seconds for every place not
yet confirmed; the zone is that of the longest fitting prefix, the lowest-numbered of equal ones, and 31 without one. -/
def Obligations.Scheduling : Prop :=
  (∀ s : State,
      (∀ c, s.firstEligible = some c → (∃ e ∈ s.dju.dests, s.candidate e.1 e.2 = some c)
        ∧ ∀ e ∈ s.dju.dests, ∀ b, s.candidate e.1 e.2 = some b → ¬(b.priority < c.priority
            ∨ (b.priority = c.priority ∧ (b.submission < c.submission
              ∨ (b.submission = c.submission ∧ b.index < c.index)))))
      ∧ (s.firstEligible = none ↔ ∀ e ∈ s.dju.dests, s.candidate e.1 e.2 = none)
      ∧ (∀ n, s.freeLine = some n ↔ s.outboundCount < s.lne.ceiling ∧ (s.line n).state = .idle
          ∧ ((s.plan n).use = .outOnly ∨ (s.plan n).use = .both)
          ∧ ∀ m, m < n → ¬((s.line m).state = .idle ∧ ((s.plan m).use = .outOnly ∨ (s.plan m).use = .both))))
  ∧ (∀ s : State, s.rgw.state = .run → s.dju.passDue = true →
      let s0 : State := { s with dju := { s.dju with passDue := false } }
      (s.freeLine = none ∨ s.firstEligible = none → exec .schedulerPass s = .next s0)
      ∧ ∀ n c t j, s.freeLine = some n → s.firstEligible = some c → s.dest? c.dest = some t → s.job? t.job = some j →
          (s.line n).dir ≠ some .outbound → s.lne.ceiling ≤ s.outboundCount + 1 →
          let pages := ((s.doc? j.doc).map fun d => d.places.length - t.confirmed).getD 0
          let z := s.reservationOf j.account t.digits pages
          ∃ u, exec .schedulerPass s = .next u
            ∧ u = { s0 with lne := { s.lne with lines := u.lne.lines }, sli := (hand n .seize s).sli,
                            dju := { s0.dju with dests := u.dju.dests, jobs := u.dju.jobs },
                            chg := { s.chg with logReserved := s.chg.logReserved + 1, accounts := u.chg.accounts,
                                                calls := u.chg.calls }, dram := u.dram }
            ∧ u.line n = { LineRec.default with
                dir := some .outbound, dest := some c.dest, job := some t.job, doc := some j.doc, state := .seizing,
                timer := some .seize, remaining := s.lne.timers.seize }
            ∧ (∀ m, m ≠ n → u.line m = s.line m)
            ∧ u.dest? c.dest = some { t with state := .dialling, line := some n.val }
            ∧ (∀ k, k ≠ c.dest → u.dest? k = s.dest? k)
            ∧ u.job? t.job = some { j with sessions := j.sessions + 1, started := true,
                                           state := if j.state = .queued then .active else j.state }
            ∧ u.account j.account
                = { s.account j.account with reserved := (s.account j.account).reserved + z.2 }
            ∧ Tab.get? u.chg.calls n.val = some
                { account := j.account, job := t.job, destIndex := t.index, dial := t.digits.filter fun ch => ch != comma,
                  zone := z.1, reservation := z.2, answered := false, band := 0, rate := Rate.empty, answerTime := 0,
                  connected := 0 }
            ∧ unchangedOutside [(s.por (0x80 + 256 * n.val), 256), (s.destAddr c.dest, 64), (s.jobAddr t.job, 128),
                (s.por (0x38000 + 64 * j.account), 64)] s.dram u.dram)
  ∧ (∀ (s : State) (k : Nat) (t : Dest) (j : Job) (d : Doc), s.job? t.job = some j → s.doc? j.doc = some d →
      let pages := d.places.length - t.confirmed
      let z := s.reservationOf j.account t.digits pages
      let a := s.account j.account
      let dial := t.digits.filter fun ch => ch != comma
      let fits (p : TariffPrefix) : Bool := decide (1 ≤ p.count) && decide (p.count ≤ 12) && decide (p.count ≤ dial.length)
        && (p.chars.take p.count).all isPrefixChar && dial.take p.count == p.chars.take p.count
      let r := s.rate (4 * z.1 + s.band s.hour)
      let n := min ((pages * a.secondsPerPage * 10 + r.period - 1) / r.period) 65535
      (s.candidate k t = none ∨ s.candidate k t = some ⟨j.priority, j.submission, t.index, k⟩)
      ∧ ((s.candidate k t).isSome = true ↔
          (t.state = .pending ∨ (t.state = .retryWait ∧ t.nextTry ≤ (s.chg.seconds : Int)))
          ∧ (j.state = .queued ∨ j.state = .active) ∧ j.sessions < j.spread
          ∧ (∀ (m : Line) k' t', (s.line m).dir = some .outbound → (s.line m).dest = some k' → s.dest? k' = some t' →
              t'.digits ≠ t.digits)
          ∧ s.chg.clockSet = true ∧ a.state = .opened ∧ (∀ l, a.limit = some l → z.2 ≤ l - a.spent - a.reserved)
          ∧ s.chg.logInUse + s.chg.logReserved < 4096
          ∧ ∃ p q, d.places[t.confirmed]? = some (some p) ∧ s.page? p = some q ∧ q.state ≠ .filling)
      ∧ ((∀ p ∈ s.chg.prefixes, fits p = false) → z.1 = 31)
      ∧ (∀ i p, s.chg.prefixes[i]? = some p → fits p = true → (∀ q ∈ s.chg.prefixes, fits q = true → q.count ≤ p.count) →
          (∀ (h : Nat) (q : TariffPrefix), h < i → s.chg.prefixes[h]? = some q → fits q = true → q.count < p.count) → z.1 = p.zone)
      ∧ z.2 = r.setUp + r.a1 * min n r.n1 + r.a2 * (min n r.n2 - min n r.n1) + r.a3 * (n - min n r.n2))

/-! ## The shelf link -/

/-- The transmit queue: a handed message joins it while fewer than 32 messages are queued and none waits, and waits
otherwise; HANDING_TAKES_PLACE moves the message that waits longest into an open place, and does nothing without one.
TX_FRAME: the frame sent has E4h in slot 0 of an even frame and the service byte with the remote alarm in an odd one, the
data, message, valid and hold slots, and in slot 12 the marker 7Eh, the far-end report or the CRC-8 of the multiframe; the
frame number goes round 0 to 15. With nothing to send only the transmitter's own state changes, and the link status record
at the end of a multiframe. Before DRAM initialisation has ended no frame is sent. While it sends, the front message goes
out a byte a frame and leaves the queue with its last byte, and an announced block that the shelf does not hold goes out a
byte a frame; with its last byte the line goes on to its next block, or, with none left, hands PARTIAL_END and waits for
the shelf's reply. Slots 1 to 8 carry the lines' block bytes, slot 9 the message byte, slot 10 which data slots are valid
and slot 11 which inbound buffers are occupied. In every frame, the last of a multiframe among them, whatever message is
under way and however many blocks: each announced block that the shelf does not hold loses its byte or ends, the last byte
of a BLOCK message announces its line's block, and the lines whose blocks end hand their PARTIAL_END in line order, after
the message slot's byte (the model's choice, log 43); frame 15 also writes the link status record as it then is. -/
def Obligations.Transmitter : Prop :=
  (∀ s : State,
      (∀ (n : Line) (k : TxKind), hand n k s = { s with sli := (hand n k s).sli }
        ∧ (s.sli.handings = [] → s.sli.queue.length < 32 →
            (hand n k s).sli = { s.sli with queue := s.sli.queue ++ [k.msg n] })
        ∧ (s.sli.handings ≠ [] ∨ 32 ≤ s.sli.queue.length →
            (hand n k s).sli = { s.sli with handings := s.sli.handings ++ [k.msg n] }))
      ∧ (∀ m ms, s.sli.handings = m :: ms → s.sli.queue.length < 32 →
          exec .handingTakesPlace s = .next { s with sli := { s.sli with queue := s.sli.queue ++ [m], handings := ms } })
      ∧ (s.sli.handings = [] ∨ 32 ≤ s.sli.queue.length → exec .handingTakesPlace s = .next s))
  ∧ (∀ s : State,
      (s.phase ≠ .up ∨ s.sli.txRunning = false → exec .txFrame s = .next s)
      ∧ (s.phase = .up → s.sli.txRunning = true →
        let f := s.sli.txFrameNo
        let body := s.txSlots
        let crc := crc8 (if f = 0 then 0 else s.sli.txCrc) body
        let mark : Byte := if f = 0 then 0x7E else if f = 1 then (if s.sli.farEndDue then 0xFF else 0x00)
          else if f = 15 then crc else 0xFF
        let sends := s.linkUp = true ∧ s.sli.rxAlarm = false ∧ s.rgw.state ≠ .pass
        let slot0 : Byte := if f % 2 = 0 then 0xE4 else if s.linkUp = true ∧ s.rgw.state ≠ .pass then 0x3F else 0x7F
        let base : Sli := { s.sli with txFrameNo := (f + 1) % 16, txCrc := if f = 15 then 0 else crc8 crc [mark],
                                       txLast := slot0 :: body ++ [mark],
                                       farEndDue := if f = 1 then !s.linkUp else s.sli.farEndDue }
        ∃ u, exec .txFrame s = .next u
          ∧ u.sli.txLast = slot0 :: body ++ [mark] ∧ u.sli.txFrameNo = (f + 1) % 16
          ∧ (s.sli.queue = [] → s.sli.outBlocks = [] →
              u = { s with sli := base, dram := u.dram }
                ∧ (f ≠ 15 → u.dram = s.dram) ∧ unchangedOutside [(s.por 0x40, 24)] s.dram u.dram)
          ∧ (∀ m ms, s.sli.queue = m :: ms → s.sli.outBlocks = [] → sends → f ≠ 15 →
              u = { s with sli := { base with
                  queue := if s.sli.txPos + 1 < m.bytes.length then m :: ms else ms,
                  txPos := if s.sli.txPos + 1 < m.bytes.length then s.sli.txPos + 1 else 0 } })
          ∧ (∀ (n : Line) b, s.sli.queue = [] → s.sli.outBlocks = [(n.val, b)] → sends → b.announced = true →
              s.sli.shelfHold.getLsbD n.val = false → f ≠ 15 →
              let l := s.line n
              (b.sent + 1 < b.bytes.length →
                u = { s with sli := { base with outBlocks := [(n.val, { b with sent := b.sent + 1 })] } })
              ∧ (b.bytes.length ≤ b.sent + 1 → l.state = .sending → l.inFlight = true → l.toSend ≠ [] →
                u = { s with sli := { base with outBlocks := [] }, lne := { s.lne with lines := u.lne.lines } }
                ∧ (∀ m, m ≠ n → u.line m = s.line m)
                ∧ u.line n = { l with inFlight := false, timer := some .blockGap, remaining := s.lne.timers.blockGap })
              ∧ (b.bytes.length ≤ b.sent + 1 → l.state = .sending → l.inFlight = true → l.toSend = [] → s.sli.handings = [] →
                let k := s.endKindNow n
                u = { s with sli := { base with outBlocks := [],
                                                queue := [(TxKind.partialEnd l.partialPage l.blockCount k).msg n] },
                             lne := { s.lne with lines := u.lne.lines }, dram := u.dram }
                ∧ (∀ m, m ≠ n → u.line m = s.line m)
                ∧ u.line n = { l with inFlight := false, lastEnd := some k, state := .partialWait, timer := some .partialPage,
                                      remaining := s.lne.timers.partialPage }
                ∧ unchangedOutside [(s.por (0x80 + 256 * n.val), 256)] s.dram u.dram))
          ∧ (let sending := s.linkUp && !s.sli.rxAlarm && s.rgw.state != .pass
            let out (n : Line) := Tab.get? s.sli.outBlocks n.val
            let goes (n : Line) : Bool := sending && !s.sli.shelfHold.getLsbD n.val && (out n).any fun b => b.announced
            let ends (n : Line) : Bool := goes n && (out n).any fun b => decide (b.bytes.length ≤ b.sent + 1)
            let told (n : Line) : Bool := ends n && (s.line n).state == .sending && (s.line n).inFlight
            let closes (n : Line) : Bool := told n && (s.line n).toSend == []
            let last := sending && s.sli.queue.head?.any fun m => decide (m.bytes.length ≤ s.sli.txPos + 1)
            let left : State := { s with sli := { s.sli with queue := if last then s.sli.queue.tail else s.sli.queue } }
            let handed := (allLines.filter closes).foldl
              (fun v n => hand n (.partialEnd (s.line n).partialPage (s.line n).blockCount (s.endKindNow n)) v) left
            u = { s with lne := { s.lne with lines := u.lne.lines }, dram := u.dram,
                         sli := { base with outBlocks := u.sli.outBlocks, queue := handed.sli.queue,
                                            handings := handed.sli.handings,
                                            txPos := if last then 0 else if sending = true ∧ s.sli.queue ≠ []
                                              then s.sli.txPos + 1 else s.sli.txPos } }
            ∧ (∀ n : Line, Tab.get? u.sli.outBlocks n.val = (out n).bind fun b =>
                if ends n then none
                else if goes n then some { b with sent := b.sent + 1 }
                else if last = true ∧ (s.sli.queue.head?.bind fun m => m.blockOf) = some n.val then some { b with announced := true }
                else some b)
            ∧ (∀ n, u.line n =
                if closes n then { s.line n with inFlight := false, lastEnd := some (s.endKindNow n), state := .partialWait,
                                                 timer := some .partialPage, remaining := s.lne.timers.partialPage }
                else if told n then { s.line n with inFlight := false, timer := some .blockGap,
                                                    remaining := s.lne.timers.blockGap }
                else s.line n)
            ∧ (f = 15 → s.rgw.state ≠ .pass → Mem.bytes u.dram (s.por 0x40) 24 = u.linkStatusBytes)
            ∧ unchangedOutside ((if f = 15 then [(s.por 0x40, 24)] else [])
                ++ (allLines.filter closes).map fun n => (s.por (0x80 + 256 * n.val), 256)) s.dram u.dram)))
  ∧ (∀ (s : State) (n : Line),
      let out := Tab.get? s.sli.outBlocks n.val
      let sends := s.linkUp = true ∧ s.sli.rxAlarm = false ∧ s.rgw.state ≠ .pass
      let goes (b : OutBlock) : Prop := sends ∧ b.announced = true ∧ s.sli.shelfHold.getLsbD n.val = false
      s.txSlots.length = 11
      ∧ (∀ b, out = some b → goes b → s.txSlots[n.val]? = some (b.bytes.getD b.sent 0))
      ∧ ((∀ b, out = some b → ¬goes b) → s.txSlots[n.val]? = some 0)
      ∧ (∀ m ms, s.sli.queue = m :: ms → sends → s.txSlots[8]? = some (m.bytes.getD s.sli.txPos 0))
      ∧ (s.sli.queue = [] ∨ ¬sends → s.txSlots[8]? = some 0)
      ∧ (∀ v, s.txSlots[9]? = some v → (v.getLsbD n.val = true ↔ ∃ b, out = some b ∧ goes b))
      ∧ (∀ v, s.txSlots[10]? = some v →
          (v.getLsbD n.val = true ↔ (s.inLine n.val).complete = true ∨ (s.inLine n.val).occupied = true)))

/-- ALIGNMENT_BYTE_FOUND in HUNT takes the position and enters CHECK_SERVICE; RX_FRAME then enters CHECK_ALIGN on a service
byte with a clear zero flag, and on E4h after it waits one frame before SYNC; when that wait has run out SYNC is entered at
the frame that arrives, with multiframe synchronisation sought for 128 frames, and that frame is at once taken as an even
frame of SYNC. A failed check goes back to HUNT with the search one bit further on. In HUNT and HOLD_OFF a frame changes nothing. RX_FRAME in SYNC with multiframe synchronisation
still sought and no check due: a bad alignment byte in an even frame is counted, and the run that reaches the loss count ends
SYNC, into HUNT or HOLD_OFF by the auto setting; a bad service byte in an odd frame is counted in its run only while the
service check is on, and that run ends SYNC in the same way; a good service byte ends the run and sets the remote alarm as
received; a marker eight even frames after another brings the link up, with LINK_STATE posted. MF_SEARCH_TIMER_EXPIRY at the
end of the 128 frames loses SYNC into HUNT. In MF_SYNC with no check due: the run of bad alignment or checked service bytes
that reaches the loss count ends SYNC, and a second missed marker ends multiframe synchronisation alone, back to MF_SEARCH
with 128 frames. Either takes the link down: LINK_STATE is posted, what was in progress and what waited is dropped, IDLE
lines become UNAVAILABLE, and the grace starts when a line holds a session (log 28). A shorter run is counted, and the frame
does else what a good one does, at the place of a marker too, where a second missed marker after a bad alignment byte ends
multiframe synchronisation as after a good one. The received remote alarm rises and falls with its bit; at
its rise the announced blocks are given up and the transmission of the message in progress starts over. -/
def Obligations.Receiver : Prop :=
  (∀ (p : Nat) (slots : List Byte) (s : State), s.phase = .up → p < 104 → slots.length = 13 →
      let u0 := slots.getD 0 0
      (s.sli.frame = .hunt →
        ∃ u, exec (.alignmentByteFound p) s = .next u
          ∧ u = { s with sli := { s.sli with frame := .checkService, position := p, searchFrom := none, syncIn := none },
                         dram := u.dram } ∧ unchangedOutside [(s.por 0x40, 24)] s.dram u.dram)
      ∧ (s.sli.frame ≠ .hunt → exec (.alignmentByteFound p) s = .next s)
      ∧ (s.sli.frame = .hunt ∨ s.sli.frame = .holdOff → exec (.rxFrame slots) s = .next s)
      ∧ (s.sli.frame = .checkService →
        ∃ u, exec (.rxFrame slots) s = .next u
          ∧ u = { s with sli := { s.sli with
              frame := if u0.getLsbD 7 then .hunt else .checkAlign, syncIn := none,
              searchFrom := if u0.getLsbD 7 then some ((s.sli.position + 1) % 104) else s.sli.searchFrom }, dram := u.dram }
          ∧ unchangedOutside [(s.por 0x40, 24)] s.dram u.dram)
      ∧ (s.sli.frame = .checkAlign → s.sli.syncIn = none → u0 = 0xE4 →
          exec (.rxFrame slots) s = .next { s with sli := { s.sli with syncIn := some 1 } })
      ∧ (s.sli.frame = .checkAlign → s.sli.syncIn = none → u0 ≠ 0xE4 →
          ∃ u, exec (.rxFrame slots) s = .next u ∧ u.sli.frame = .hunt
            ∧ u.sli.searchFrom = some ((s.sli.position + 1) % 104))
      ∧ (∀ k, s.sli.frame = .checkAlign → s.sli.syncIn = some (k + 1) →
          exec (.rxFrame slots) s = .next { s with sli := { s.sli with syncIn := some k } })
      ∧ (s.sli.frame = .checkAlign → s.sli.syncIn = some 0 →
          ∃ v, v = { s with sli := { s.sli with frame := .sync, syncIn := none, rxOdd := false, alignRun := 0, serviceRun := 0,
                                                rxAlarm := false, mf := .mfSearch, mfTimer := 128, evenMarks := [],
                                                mfEndDue := false }, dram := v.dram }
            ∧ unchangedOutside [(s.por 0x40, 24)] s.dram v.dram
            ∧ (s.rgw.state ≠ .pass → Mem.bytes v.dram (s.por 0x40) 24 = v.linkStatusBytes)
            ∧ exec (.rxFrame slots) s = exec (.rxFrame slots) v
            ∧ (u0 = 0xE4 → exec (.rxFrame slots) s = .next { v with sli := { v.sli with
                rxOdd := true, mfTimer := 127, evenMarks := [slots.getD 12 0 == 0x7E] } })
            ∧ (u0 ≠ 0xE4 → 1 < s.sli.lossCount → exec (.rxFrame slots) s = .next { v with sli := { v.sli with
                rxOdd := true, mfTimer := 127, evenMarks := [slots.getD 12 0 == 0x7E],
                alignErrors := min (s.sli.alignErrors + 1) 65535, alignRun := 1 } })))
  ∧ (∀ (slots : List Byte) (s : State), s.phase = .up → slots.length = 13 → s.sli.frame = .sync → s.sli.mf = .mfSearch →
      let u0 := slots.getD 0 0
      let mark := slots.getD 12 0 == 0x7E
      let lost (st : FrameState) : Sli :=
        { s.sli with frame := st, losses := min (s.sli.losses + 1) 65535, alignRun := 0, serviceRun := 0, rxAlarm := false,
                     searchFrom := none, syncIn := none, mfTimer := 0, evenMarks := [], markMissed := false }
      (s.sli.mfEndDue = false → s.sli.rxOdd = false → u0 ≠ 0xE4 →
        (s.sli.alignRun + 1 < s.sli.lossCount → mark = false →
          exec (.rxFrame slots) s = .next { s with sli := { s.sli with
            rxOdd := true, alignErrors := min (s.sli.alignErrors + 1) 65535, alignRun := s.sli.alignRun + 1,
            mfTimer := s.sli.mfTimer - 1, evenMarks := (false :: s.sli.evenMarks).take 8 } })
        ∧ (s.sli.lossCount ≤ s.sli.alignRun + 1 →
          ∃ u, exec (.rxFrame slots) s = .next u
            ∧ u = { s with sli := { lost (if s.sli.autoResync then .hunt else .holdOff) with
                rxOdd := true, alignErrors := min (s.sli.alignErrors + 1) 65535 }, dram := u.dram }
            ∧ unchangedOutside [(s.por 0x40, 24)] s.dram u.dram))
      ∧ (s.sli.mfEndDue = false → s.sli.rxOdd = false → u0 = 0xE4 → mark = true → s.sli.evenMarks.getD 7 false = true →
          ∃ u, exec (.rxFrame slots) s = .next u ∧ u.linkUp = true ∧ u.sli.rxFrameNo = 1 ∧ u.lne.grace = none
            ∧ u.sli.lastChange = s.chg.seconds ∧ u.ceu = (post .linkState .link 0 1 s.sli.losses s).ceu)
      ∧ (s.sli.mfTimer = 0 →
          ∃ u, exec .mfSearchTimerExpiry s = .next u ∧ u = { s with sli := lost .hunt, dram := u.dram }
            ∧ unchangedOutside [(s.por 0x40, 24)] s.dram u.dram)
      ∧ (s.sli.mfTimer ≠ 0 → exec .mfSearchTimerExpiry s = .next s))
  ∧ (∀ (slots : List Byte) (s : State), s.phase = .up → slots.length = 13 → s.sli.frame = .sync → s.sli.mf = .mfSearch →
      s.sli.mfEndDue = false → s.sli.rxOdd = true →
      let u0 := slots.getD 0 0
      let bad := u0.getLsbD 7
      let run := s.sli.serviceRun + 1
      let seen : Sli := { s.sli with rxOdd := false, mfTimer := s.sli.mfTimer - 1 }
      (bad = false → exec (.rxFrame slots) s
          = .next { s with sli := { seen with serviceRun := 0, rxAlarm := u0.getLsbD 6 } })
      ∧ (bad = true → s.sli.serviceCheck = false → exec (.rxFrame slots) s = .next { s with sli := seen })
      ∧ (bad = true → s.sli.serviceCheck = true → run < s.sli.lossCount →
          exec (.rxFrame slots) s = .next { s with sli := { seen with serviceRun := run } })
      ∧ (bad = true → s.sli.serviceCheck = true → s.sli.lossCount ≤ run →
          ∃ u, exec (.rxFrame slots) s = .next u
            ∧ u = { s with sli := { s.sli with
                frame := if s.sli.autoResync then .hunt else .holdOff, rxOdd := false,
                losses := min (s.sli.losses + 1) 65535, alignRun := 0, serviceRun := 0, rxAlarm := false, searchFrom := none,
                syncIn := none, mfTimer := 0, evenMarks := [], markMissed := false }, dram := u.dram }
            ∧ unchangedOutside [(s.por 0x40, 24)] s.dram u.dram))
  ∧ (∀ (slots : List Byte) (s : State), s.phase = .up → slots.length = 13 → s.sli.frame = .sync → s.sli.mf = .mfSync →
      s.sli.mfEndDue = false →
      let u0 := slots.getD 0 0
      let mark := slots.getD 12 0 == 0x7E
      let marked : Prop := s.sli.rxFrameNo = 0 → mark = true ∨ s.sli.markMissed = false
      let state := if s.sli.autoResync then FrameState.hunt else .holdOff
      let alignRun := s.sli.alignRun + 1
      let serviceRun := if s.sli.serviceCheck then s.sli.serviceRun + 1 else s.sli.serviceRun
      let losses := min (s.sli.losses + 1) 65535
      let down (u : State) (st : FrameState) (lost : Nat) : Prop :=
        ∃ v, u = writeLinkStatus (post .linkState .link 0 0 lost v) ∧ v.sli.frame = st ∧ v.linkUp = false
          ∧ v.sli.losses = lost ∧ v.sli.lastChange = s.chg.seconds ∧ v.sli.farEndDue = true ∧ v.sli.asm = .gap
          ∧ v.sli.items = [] ∧ v.sli.mfEndDue = false ∧ (∀ k, (v.inLine k).opened = none ∧ (v.inLine k).complete = false)
          ∧ v.sli.txPos = 0
          ∧ v.sli.outBlocks = s.sli.outBlocks.filter (fun e => !e.2.announced)
          ∧ (∀ n, (s.line n).state = .idle → v.line n = { s.line n with state := .unavailable })
          ∧ (∀ n, (s.line n).state ≠ .idle → (s.line n).state ≠ .sending → v.line n = s.line n)
          ∧ v.lne.grace = if (allLines.any fun n => (s.line n).state.inSession) then some 20 else s.lne.grace
      (s.sli.rxOdd = false → u0 ≠ 0xE4 → s.sli.lossCount ≤ alignRun →
        ∃ u, exec (.rxFrame slots) s = .next u ∧ down u state losses
          ∧ u.sli.alignErrors = min (s.sli.alignErrors + 1) 65535)
      ∧ (s.sli.rxOdd = true → u0.getLsbD 7 = true → s.sli.serviceCheck = true → s.sli.lossCount ≤ serviceRun →
        ∃ u, exec (.rxFrame slots) s = .next u ∧ down u state losses)
      ∧ (s.sli.rxOdd = false → u0 = 0xE4 ∨ alignRun < s.sli.lossCount → s.sli.rxFrameNo = 0 → mark = false →
        s.sli.markMissed = true →
        ∃ u, exec (.rxFrame slots) s = .next u ∧ down u .sync s.sli.losses ∧ u.sli.mf = .mfSearch ∧ u.sli.mfTimer = 128
          ∧ u.sli.alignErrors = (if u0 = 0xE4 then s.sli.alignErrors else min (s.sli.alignErrors + 1) 65535)
          ∧ u.sli.alignRun = if u0 = 0xE4 then 0 else alignRun)
      ∧ (s.sli.rxOdd = false → u0 ≠ 0xE4 → alignRun < s.sli.lossCount → marked →
        ∃ w, exec (.rxFrame (0xE4 :: slots.drop 1)) s = .next w
          ∧ exec (.rxFrame slots) s = .next { w with sli := { w.sli with
              alignErrors := min (s.sli.alignErrors + 1) 65535, alignRun := alignRun } })
      ∧ (s.sli.rxOdd = true → u0.getLsbD 7 = true → s.sli.serviceCheck = false ∨ serviceRun < s.sli.lossCount →
        marked →
        ∃ w, exec (.rxFrame ((if s.sli.rxAlarm then 0x7F else 0x3F) :: slots.drop 1)) s = .next w
          ∧ exec (.rxFrame slots) s = .next { w with sli := { w.sli with serviceRun := serviceRun } })
      ∧ (s.sli.rxOdd = true → u0.getLsbD 7 = false → u0.getLsbD 6 = false →
        exec (.rxFrame slots) s = exec (.rxFrame slots) { s with sli := { s.sli with rxAlarm := false } })
      ∧ (s.sli.rxOdd = true → u0.getLsbD 7 = false → u0.getLsbD 6 = true → s.sli.rxAlarm = false →
        (∃ u, exec (.rxFrame slots) s = .next u ∧ u.sli.rxAlarm = true ∧ u.sli.txPos = 0
          ∧ u.sli.outBlocks = s.sli.outBlocks.filter (fun e => !e.2.announced))
        ∧ ((∀ e ∈ s.sli.outBlocks, e.2.announced = false) →
          exec (.rxFrame slots) s = exec (.rxFrame slots) { s with sli := { s.sli with rxAlarm := true, txPos := 0 } })))

/-- RX_MULTIFRAME_END: a check that matches delivers the message that waits for it and counts a far-end report FFh; a check
that fails counts a CRC error, owes the shelf a far-end report, marks what is in progress and drops what waited. With no
check due nothing happens. RX_BLOCK while the link is up opens a block on its line, with an overrun mark when the buffer is
occupied and no failure mark (the row stands for a message that checked good, log 30); a block number above 63 or a length
outside 1 to 256 opens none. Delivery: each message row does what the delivery of its message's bytes does; a message of an
unknown kind or for a line that does not exist does nothing, one for line FFh of LINE_READY or LINE_NOT_READY stands for
every line, and in PASS none acts. A frame in MF_SYNC with a good slot 0: the receiver's registers move on, and the byte of
slot 9 takes message assembly on from gap, skip or message; a message complete waits for the check, and a complete RX_BLOCK
opens its block at once, with the failure mark of its message. A byte in the slot of a valid line joins that line's open
block, which with its last byte is COMPLETE, holds the buffer and waits for the check, until the check or a release of the
buffer ends that. Several things that wait for one good check are taken as if each had a
check of its own, in the order in which they wait (what that order is for blocks of one frame is log 43). A block that waits
for a check that matches: a failed or overrun one is given up; any other one restarts the block gap timer of a RECEIVING line
(log 27), is given up when the line receives no page, its page is cut or the partial page is another, and else is on its way
into the page's store, with the segments it needs from the stack and the line's buffer occupied. When that would take the
stack below the scan reserve the session ends with STORE_FULL by ABANDON and CLEAR and the page is first sealed TRUNCATED with
the bytes kept, extended over the blocks present (log 26), or freed when there are none. That a block store still in progress
from before the link came up again gives way to a newer good block is the model's choice (log 72). -/
def Obligations.MultiframeCheckAndBlocks : Prop :=
  (∀ s : State,
    let closed (bad : Bool) : Tab InLine := s.sli.inLines.map fun e =>
      (e.1, { e.2 with complete := false,
                       opened := e.2.opened.map fun b => { b with failed := b.failed || (bad && b.touched), touched := false } })
    (s.sli.mfEndDue = false → exec .rxMultiframeEnd s = .next s)
    ∧ (s.sli.mfEndDue = true → s.sli.rxCrc = s.sli.rxCrcByte →
        let checked : State := { s with sli := { s.sli with
          mfEndDue := false, items := [], rxCrc := 0, inLines := closed false,
          farEndErrors := if s.sli.rxReport = 0xFF then min (s.sli.farEndErrors + 1) 65535 else s.sli.farEndErrors } }
        (s.sli.items = [] → exec .rxMultiframeEnd s = .next checked)
        ∧ ∀ m, s.sli.items = [.message m false] → exec .rxMultiframeEnd s = .next (deliverMessage m checked))
    ∧ (s.sli.mfEndDue = true → s.sli.rxCrc ≠ s.sli.rxCrcByte →
        exec .rxMultiframeEnd s = .next { s with sli := { s.sli with
          mfEndDue := false, items := [], rxCrc := 0, inLines := closed true,
          crcErrors := min (s.sli.crcErrors + 1) 65535, farEndDue := true,
          asmFailed := s.sli.asmFailed || s.sli.asm == .inMessage } })
    ∧ (∀ (n : Line) (pp blk : Byte) (len : BitVec 16),
        (s.linkUp = true → blk.toNat ≤ 63 → 1 ≤ len.toNat → len.toNat ≤ 256 →
          ∃ u, exec (.rxBlock n pp blk len) s = .next u
            ∧ u = { s with sli := { s.sli with inLines := u.sli.inLines } }
            ∧ (u.inLine n.val).complete = (s.inLine n.val).complete ∧ (u.inLine n.val).occupied = (s.inLine n.val).occupied
            ∧ (u.inLine n.val).opened = some
                { partialPage := pp.toNat, block := blk.toNat, len := len.toNat, count := 0,
                  overrun := (s.inLine n.val).complete || (s.inLine n.val).occupied, failed := false, touched := true,
                  bytes := [] }
            ∧ ∀ k, k ≠ n.val → u.inLine k = s.inLine k)
        ∧ (s.linkUp = false ∨ 63 < blk.toNat ∨ len.toNat < 1 ∨ 256 < len.toNat →
          exec (.rxBlock n pp blk len) s = .next s))
    ∧ (∀ (n : Line) (pp cls res kind cause count : Byte) (map : BitVec 64) (called ident : List Byte),
        called.length ≤ 8 → ident.length ≤ 20 → s.linkUp = true →
        let msg (k : Byte) (ps : List Byte) : List Byte := BitVec.ofNat 8 (3 + ps.length) :: k :: BitVec.ofNat 8 n.val :: ps
        let is (k : Byte) (ps : List Byte) (c : Instr) : Prop := exec c s = .next (deliverMessage (msg k ps) s)
        is 0x40 [] (.lineReady n) ∧ is 0x41 [] (.lineNotReady n) ∧ is 0x42 [] (.seized n) ∧ is 0x44 [] (.answered n)
        ∧ is 0x45 [] (.busy n) ∧ is 0x46 [] (.noAnswer n) ∧ is 0x47 [] (.notFax n) ∧ is 0x48 [] (.partialOk n)
        ∧ is 0x49 ((List.range 8).map fun i => map.extractLsb' (8 * i) 8) (.repeatBlocks n map)
        ∧ is 0x4A [] (.pageConfirmed n) ∧ is 0x4B [] (.pageRejected n) ∧ is 0x4C [cls, res] (.rxPageBegin n cls res)
        ∧ is 0x4E [pp, count, kind] (.rxPartialEnd n pp count kind) ∧ is 0x4F [cause] (.remoteClear n cause)
        ∧ is 0x50 [] (.cleared n)
        ∧ is 0x43 (BitVec.ofNat 8 called.length :: called ++ BitVec.ofNat 8 ident.length :: ident) (.ring n called ident))
    ∧ (∀ m, s.rgw.state = .pass → deliverMessage m s = s)
    ∧ (∀ m n k, m[2]? = some n → m[1]? = some k → (8 ≤ n.toNat ∧ (n ≠ 0xFF ∨ (k ≠ 0x40 ∧ k ≠ 0x41))) ∨ k.toNat < 0x40
        ∨ 0x50 < k.toNat → deliverMessage m s = s)
    ∧ (∀ k m, k = 0x40 ∨ k = 0x41 → m = [3, k, 0xFF] →
        deliverMessage m s = allLines.foldl (fun v n => deliverMessage [3, k, BitVec.ofNat 8 n.val] v) s)
    ∧ (∀ slots : List Byte, s.phase = .up → s.sli.frame = .sync → s.sli.mf = .mfSync → s.sli.mfEndDue = false →
        slots.length = 13 →
        let slot (i : Nat) : Byte := slots.getD i 0
        let f := s.sli.rxFrameNo
        let mark := slot 12 == 0x7E
        (if s.sli.rxOdd then (slot 0).getLsbD 7 = false ∧ (slot 0).getLsbD 6 = s.sli.rxAlarm else slot 0 = 0xE4) →
        (f = 0 → mark = true ∨ s.sli.markMissed = false) →
        let v : Sli := { s.sli with
          rxOdd := !s.sli.rxOdd, alignRun := if s.sli.rxOdd then s.sli.alignRun else 0,
          serviceRun := if s.sli.rxOdd then 0 else s.sli.serviceRun,
          evenMarks := if s.sli.rxOdd then s.sli.evenMarks else (mark :: s.sli.evenMarks).take 8,
          markMissed := if f = 0 then !mark else s.sli.markMissed,
          rxCrc := crc8 (if f = 0 then 0 else s.sli.rxCrc) ((slots.drop 1).take (if f = 15 then 11 else 12)),
          rxCrcByte := if f = 15 then slot 12 else s.sli.rxCrcByte, rxReport := if f = 1 then slot 12 else s.sli.rxReport,
          shelfHold := slot 11, rxFrameNo := (f + 1) % 16, mfEndDue := decide (f = 15) }
        let b := slot 9
        let m := s.sli.asmBytes ++ [b]
        (slot 10 = 0 →
          (s.sli.asm = .gap → exec (.rxFrame slots) s = .next { s with sli :=
            if b = 0 then v
            else if 3 ≤ b.toNat ∧ b.toNat ≤ 40 then
              { v with asm := .inMessage, asmLen := b.toNat, asmBytes := [b], asmFailed := false }
            else { v with asm := .skip } })
          ∧ (s.sli.asm = .skip → exec (.rxFrame slots) s = .next { s with sli := if b = 0 then { v with asm := .gap } else v })
          ∧ (s.sli.asm = .inMessage → m.length < s.sli.asmLen →
              exec (.rxFrame slots) s = .next { s with sli := { v with asmBytes := m } })
          ∧ (s.sli.asm = .inMessage → s.sli.asmLen ≤ m.length →
            let whole : Sli := { v with asm := .gap, asmLen := 0, asmBytes := [], asmFailed := false,
                                        items := s.sli.items ++ [.message m s.sli.asmFailed] }
            (m[1]? ≠ some 0x4D → exec (.rxFrame slots) s = .next { s with sli := whole })
            ∧ ∀ (n : Line) (x pp blk l0 l1 : Byte), m = [x, 0x4D, BitVec.ofNat 8 n.val, pp, blk, l0, l1] → blk.toNat ≤ 63 →
              1 ≤ l0.toNat + 256 * l1.toNat → l0.toNat + 256 * l1.toNat ≤ 256 →
              let fresh : InBlock :=
                { partialPage := pp.toNat, block := blk.toNat, len := l0.toNat + 256 * l1.toNat, count := 0,
                  overrun := (s.inLine n.val).complete || (s.inLine n.val).occupied, failed := s.sli.asmFailed, touched := true,
                  bytes := [] }
              ∃ u, exec (.rxFrame slots) s = .next u ∧ u = { s with sli := { whole with inLines := u.sli.inLines } }
                ∧ u.inLine n.val = { s.inLine n.val with opened := some fresh }
                ∧ ∀ k, k ≠ n.val → u.inLine k = s.inLine k))
        ∧ ∀ (n : Line) (blk : InBlock), slot 10 = BitVec.twoPow 8 n.val → b = 0 → s.sli.asm = .gap →
            (s.inLine n.val).opened = some blk →
            let got : InBlock := { blk with count := blk.count + 1, touched := true,
                                            bytes := if blk.overrun then blk.bytes else blk.bytes ++ [slot (n.val + 1)] }
            ∃ u, exec (.rxFrame slots) s = .next u
              ∧ u = { s with sli := { v with
                  inLines := u.sli.inLines,
                  items := if got.count < got.len then s.sli.items else s.sli.items ++ [.block n.val got] } }
              ∧ u.inLine n.val = (if got.count < got.len then { s.inLine n.val with opened := some got }
                  else { s.inLine n.val with opened := none, complete := true })
              ∧ ∀ k, k ≠ n.val → u.inLine k = s.inLine k))
  ∧ (∀ (i : RxItem) (is : List RxItem) (s : State), s.sli.mfEndDue = true → s.sli.rxCrc = s.sli.rxCrcByte →
      s.sli.items = i :: is → is ≠ [] →
      ∃ v w, exec .rxMultiframeEnd { s with sli := { s.sli with items := [i] } } = .next v
        ∧ exec .rxMultiframeEnd { v with sli := { v.sli with
            items := is, mfEndDue := true, rxCrc := v.sli.rxCrcByte, rxReport := 0 } } = .next w
        ∧ exec .rxMultiframeEnd s = .next { w with sli := { w.sli with rxReport := s.sli.rxReport } })
  ∧ (∀ (n : Line) (b : InBlock) (s : State), s.sli.mfEndDue = true → s.sli.rxCrc = s.sli.rxCrcByte →
      s.sli.items = [.block n.val b] →
      let l := s.line n
      let off := 16384 * b.partialPage + 256 * b.block
      let checked : Sli := { s.sli with
        mfEndDue := false, items := [], rxCrc := 0,
        inLines := s.sli.inLines.map fun e =>
          (e.1, { e.2 with complete := false, opened := e.2.opened.map fun x => { x with touched := false } }),
        farEndErrors := if s.sli.rxReport = 0xFF then min (s.sli.farEndErrors + 1) 65535 else s.sli.farEndErrors }
      let restarted : LineRec := if l.state = .receiving
        then { l with timer := some .blockGap, remaining := s.lne.timers.blockGap } else l
      let span := [(s.por (0x80 + 256 * n.val), 256)]
      let holds (u : State) (occupied : Bool) : Prop :=
        (u.inLine n.val).occupied = occupied ∧ (u.inLine n.val).complete = false
          ∧ (u.inLine n.val).opened = (s.inLine n.val).opened.map (fun x => { x with touched := false })
          ∧ ∀ k, k ≠ n.val → Tab.get? u.sli.inLines k = Tab.get? checked.inLines k
      (b.failed = true ∨ b.overrun = true → exec .rxMultiframeEnd s = .next { s with sli := checked })
      ∧ (b.failed = false → b.overrun = false →
        ((l.page = none ∨ ¬(l.state = .receiving ∨ l.state = .rxCheck) ∨ l.cut = true ∨ b.partialPage ≠ l.partialPage) →
          ∃ u, exec .rxMultiframeEnd s = .next u ∧ holds u false
            ∧ u = { s with sli := { checked with inLines := u.sli.inLines }, lne := { s.lne with lines := u.lne.lines } }
            ∧ u.line n = restarted ∧ ∀ m, m ≠ n → u.line m = s.line m)
        ∧ ∀ p r, l.page = some p → s.page? p = some r → l.state = .receiving ∨ l.state = .rxCheck → l.cut = false →
            b.partialPage = l.partialPage →
            let missing := segsFor (off + b.bytes.length) - r.chain.length
            (missing = 0 ∨ s.psm.scanReserve + missing ≤ s.freeCount →
              ∃ u, exec .rxMultiframeEnd s = .next u ∧ holds u true
                ∧ u = { s with sli := { checked with inLines := u.sli.inLines }, lne := { s.lne with lines := u.lne.lines },
                               psm := { s.psm with pages := u.psm.pages, stack := s.psm.stack.drop missing,
                                                   lowArmed := u.psm.lowArmed }, ceu := u.ceu, dram := u.dram }
                ∧ u.line n = { restarted with storing := some { partialPage := b.partialPage, block := b.block,
                                                                bytes := b.bytes } }
                ∧ (∀ m, m ≠ n → u.line m = s.line m)
                ∧ u.page? p = some { r with chain := r.chain ++ s.psm.stack.take missing }
                ∧ (∀ q, q ≠ p → u.page? q = s.page? q)
                ∧ (missing = 0 → u.psm.lowArmed = s.psm.lowArmed ∧ u.ceu = s.ceu ∧ u.dram = s.dram))
            ∧ (0 < missing → s.freeCount < s.psm.scanReserve + missing → l.storing = none → ∀ doc kept,
              s.doc? r.doc = some doc → doc.keep = true → (∀ m, (s.line m).state = .dataWait → (s.line m).doc ≠ some r.doc) →
              l.KeepsEarly kept → p < 1024 →
              (∃ v, holds v false ∧ exec .rxMultiframeEnd s = .next (abandonLine n .storeFull v)
                ∧ ClosedEarly { s with sli := { checked with inLines := v.sli.inLines } } v n
                    { restarted with page := none, kept := kept } p kept r)
              ∧ (kept ≠ 0 → r.chain.length ≤ segsFor kept →
              let told := hand n .clear (hand n .abandon s)
              ∃ u, exec .rxMultiframeEnd s = .next u ∧ holds u false
                ∧ u = { s with sli := { checked with inLines := u.sli.inLines, queue := told.sli.queue,
                                                     handings := told.sli.handings },
                               lne := { s.lne with lines := u.lne.lines }, psm := { s.psm with pages := u.psm.pages },
                               dju := { s.dju with passDue := true }, dram := u.dram }
                ∧ u.line n = { l with page := none, kept := kept, state := .clearing, cause := some .storeFull,
                                      timer := some .clearing, remaining := 100 }
                ∧ (∀ m, m ≠ n → u.line m = s.line m)
                ∧ u.page? p = some { r with truncated := true, state := .damaged, codedLen := kept, lineCount := 0,
                                            check := crc16 (s.streamBytes r.chain 0 kept), sealedTime := s.chg.seconds }
                ∧ (∀ q, q ≠ p → u.page? q = s.page? q)
                ∧ unchangedOutside ((s.pageAddr p, 64) :: span) s.dram u.dram))))

/-! ## Line sessions -/

/-- LINE_READY makes an UNAVAILABLE line IDLE in RUN and gives the scheduler an occasion; LINE_NOT_READY makes an IDLE line
UNAVAILABLE. Only the line's record changes. While the link is down or the part is in PASS no message is acted on. The call
in progress: SEIZED in SEIZING hands DIAL with the outside prefix and the destination's digits and enters DIALLING; BUSY,
NO_ANSWER and NOT_FAX in DIALLING, and PAGE_REJECTED in PAGE_WAIT, hand CLEAR and enter CLEARING with their causes; each
starts the timer of the state it enters. In any other state but RECEIVING, where every message delivered for the line
restarts its block gap timer, none of them does anything. -/
def Obligations.CallProgress : Prop :=
  (∀ (n : Line) (s : State),
      (s.hears = false → exec (.lineReady n) s = .next s ∧ exec (.lineNotReady n) s = .next s)
      ∧ (s.hears = true → s.rgw.state = .run → (s.line n).state = .unavailable →
        ∃ u, exec (.lineReady n) s = .next u
          ∧ u = { s with lne := { s.lne with lines := u.lne.lines }, dju := { s.dju with passDue := true }, dram := u.dram }
          ∧ u.line n = { s.line n with state := .idle } ∧ (∀ m, m ≠ n → u.line m = s.line m)
          ∧ Mem.get u.dram (s.por (0x80 + 256 * n.val)) = 0x01
          ∧ unchangedOutside [(s.por (0x80 + 256 * n.val), 256)] s.dram u.dram)
      ∧ (s.hears = true → (s.line n).state = .idle →
        exec (.lineReady n) s = .next s
          ∧ ∃ u, exec (.lineNotReady n) s = .next u
            ∧ u = { s with lne := { s.lne with lines := u.lne.lines }, dram := u.dram }
            ∧ u.line n = { s.line n with state := .unavailable } ∧ (∀ m, m ≠ n → u.line m = s.line m)
            ∧ Mem.get u.dram (s.por (0x80 + 256 * n.val)) = 0x00
            ∧ unchangedOutside [(s.por (0x80 + 256 * n.val), 256)] s.dram u.dram))
  ∧ (∀ (n : Line) (s : State), s.hears = true → (s.line n).state ≠ .receiving →
      ((s.line n).state = .seizing →
        ∃ u, exec (.seized n) s = .next u
          ∧ u = { s with sli := (hand n (.dial (s.dialOf n)) s).sli, lne := { s.lne with lines := u.lne.lines },
                         dram := u.dram }
          ∧ u.line n = { s.line n with state := .dialling, timer := some .answer, remaining := s.lne.timers.answer }
          ∧ (∀ m, m ≠ n → u.line m = s.line m)
          ∧ unchangedOutside [(s.por (0x80 + 256 * n.val), 256)] s.dram u.dram)
      ∧ ((s.line n).state ≠ .seizing → exec (.seized n) s = .next s)
      ∧ ∀ (c : Instr) (cause : Cause) (st : LineState),
          (c, cause, st) = (.busy n, .busy, .dialling) ∨ (c, cause, st) = (.noAnswer n, .noAnswer, .dialling)
            ∨ (c, cause, st) = (.notFax n, .notFax, .dialling) ∨ (c, cause, st) = (.pageRejected n, .pageRejected, .pageWait) →
          ((s.line n).state ≠ st → exec c s = .next s)
          ∧ ((s.line n).state = st →
            ∃ u, exec c s = .next u
              ∧ u = { s with sli := (hand n .clear s).sli, lne := { s.lne with lines := u.lne.lines }, dram := u.dram }
              ∧ u.line n = { s.line n with state := .clearing, cause := some cause, timer := some .clearing,
                                           remaining := 100 }
              ∧ (∀ m, m ≠ n → u.line m = s.line m)
              ∧ unchangedOutside [(s.por (0x80 + 256 * n.val), 256)] s.dram u.dram))

/-- ANSWERED in DIALLING with the destination's next page sealed: the call record is marked answered with the band, rate and
time of the answer, the destination is SENDING, SESSION_PARAMS is handed before the first page of the session, and the line
sends every block of the first partial page. BLOCK_BUFFER_FILLED on a SENDING line with a block still to send and the line's
outbound buffer free: the block is the next 256 bytes or fewer of the page's stream, BLOCK is handed, and in DRAM only the
line's record changes. Otherwise nothing happens. ANSWERED with a next page longer than 256 partial pages marks call and
destination in the same way and ends the session with PAGE_REJECTED, by ABANDON and CLEAR, before any SESSION_PARAMS (log
24). The answer time is kept modulo 2^32 (log 51). -/
def Obligations.SendingPages : Prop :=
  (∀ (n : Line) (s : State) (k d p : Nat) (t : Dest) (doc : Doc) (r : PageRec), s.hears = true →
      (s.line n).state = .dialling → (s.line n).dest = some k → s.dest? k = some t → (s.line n).doc = some d →
      s.doc? d = some doc → doc.places[t.confirmed]? = some (some p) → s.page? p = some r → r.state ≠ .filling →
      r.codedLen ≤ 4194304 → (s.line n).lastParams = none →
      let parts := (r.codedLen + 16383) / 16384
      let count := if 1 < parts then 64 else (r.codedLen + 255) / 256
      let left := if doc.state = .opened ∨ doc.state = .receiving then 0xFF else doc.places.length - t.confirmed
      ∃ u, exec (.answered n) s = .next u
        ∧ u = { s with sli := (hand n (.sessionParams r.cls r.res left) s).sli, lne := { s.lne with lines := u.lne.lines },
                       dju := { s.dju with dests := u.dju.dests }, chg := { s.chg with calls := u.chg.calls },
                       dram := u.dram }
        ∧ u.line n = { s.line n with
            answered := true, answerTime := (s.chg.seconds * 10 + s.chg.tenths) % 4294967296, state := .sending,
            page := some p, pagePos := t.confirmed, rounds := 0, partialPage := 0, blockCount := count,
            toSend := List.range count, inFlight := false, lastParams := some (r.cls, r.res), timer := some .blockGap,
            remaining := s.lne.timers.blockGap }
        ∧ (∀ m, m ≠ n → u.line m = s.line m)
        ∧ u.dest? k = some { t with state := .sending } ∧ (∀ k', k' ≠ k → u.dest? k' = s.dest? k')
        ∧ Tab.get? u.chg.calls n.val = (Tab.get? s.chg.calls n.val).map (fun c =>
            { c with answered := true, band := s.band s.hour, rate := s.rate (4 * c.zone + s.band s.hour),
                     answerTime := s.chg.seconds, connected := 0 })
        ∧ unchangedOutside [(s.por (0x80 + 256 * n.val), 256), (s.destAddr k, 64)] s.dram u.dram)
  ∧ (∀ (n : Line) (s : State),
      ((s.line n).state ≠ .sending ∨ (s.line n).inFlight = true ∨ (s.line n).toSend = []
        ∨ (Tab.get? s.sli.outBlocks n.val).isSome → exec (.blockBufferFilled n) s = .next s)
      ∧ ∀ b bs p r, (s.line n).state = .sending → (s.line n).inFlight = false → (s.line n).toSend = b :: bs →
          Tab.get? s.sli.outBlocks n.val = none → (s.line n).page = some p → s.page? p = some r →
          let off := 16384 * (s.line n).partialPage + 256 * b
          let len := min 256 (r.codedLen - off)
          let buf : OutBlock := { bytes := s.streamBytes r.chain off len, announced := false, sent := 0 }
          let filled : State := { s with sli := { s.sli with outBlocks := Tab.set s.sli.outBlocks n.val buf } }
          ∃ u, exec (.blockBufferFilled n) s = .next u
            ∧ u = { s with sli := (hand n (.block (s.line n).partialPage b len) filled).sli,
                           lne := { s.lne with lines := u.lne.lines }, dram := u.dram }
            ∧ u.line n = { s.line n with toSend := bs, inFlight := true } ∧ (∀ m, m ≠ n → u.line m = s.line m)
            ∧ unchangedOutside [(s.por (0x80 + 256 * n.val), 256)] s.dram u.dram)
  ∧ (∀ (n : Line) (s : State) (k d p : Nat) (t : Dest) (doc : Doc) (r : PageRec), s.hears = true →
      (s.line n).state = .dialling → (s.line n).dest = some k → s.dest? k = some t → (s.line n).doc = some d →
      s.doc? d = some doc → doc.places[t.confirmed]? = some (some p) → s.page? p = some r → r.state ≠ .filling →
      4194304 < r.codedLen →
      ∃ u, exec (.answered n) s = .next u
        ∧ u = { s with sli := (hand n .clear (hand n .abandon s)).sli, lne := { s.lne with lines := u.lne.lines },
                       dju := { s.dju with dests := u.dju.dests }, chg := { s.chg with calls := u.chg.calls },
                       dram := u.dram }
        ∧ u.line n = { s.line n with
            answered := true, answerTime := (s.chg.seconds * 10 + s.chg.tenths) % 4294967296, page := some p,
            pagePos := t.confirmed, rounds := 0, state := .clearing, cause := some .pageRejected, timer := some .clearing,
            remaining := 100 }
        ∧ (∀ m, m ≠ n → u.line m = s.line m)
        ∧ u.dest? k = some { t with state := .sending } ∧ (∀ x, x ≠ k → u.dest? x = s.dest? x)
        ∧ Tab.get? u.chg.calls n.val = (Tab.get? s.chg.calls n.val).map (fun c =>
            { c with answered := true, band := s.band s.hour, rate := s.rate (4 * c.zone + s.band s.hour),
                     answerTime := s.chg.seconds, connected := 0 })
        ∧ unchangedOutside [(s.por (0x80 + 256 * n.val), 256), (s.destAddr k, 64)] s.dram u.dram)

/-- The shelf's replies to a partial page, in PARTIAL_WAIT. PARTIAL_OK clears the repeat rounds and goes on to the next
partial page, or waits for the page's confirmation after its last. REPEAT counts a round; the fifth gives the page up with
REPEAT_LIMIT; before that the listed blocks of the partial page are sent again, and with none listed PARTIAL_END is handed
again. In any other state neither does anything. PAGE_CONFIRMED in PAGE_WAIT: the destination has one page more confirmed and
the confirmed page, when it is a page of that document, one send hold less. A next page that is sealed is taken and sent,
with SESSION_PARAMS before it when its class or resolution is new, and one longer than 256 partial pages ends the session
with PAGE_REJECTED, by ABANDON and CLEAR (log 24). With a next page still FILLING, or with no further place in a document
that may still grow, the line enters DATA_WAIT with its timer and has no page in hand there (log 24). With no further place
in a final list the destination is SENT, DEST_DONE is posted, CLEAR is handed, after ABANDON unless the last page ended the
document, and the line clears. In any other state but RECEIVING nothing happens. While no page is in hand the page
position, the partial page, the rounds and the block fields keep what they last held (the model's choice, log 66). -/
def Obligations.ShelfReplies : Prop :=
  (∀ (n : Line) (map : BitVec 64) (s : State), s.hears = true →
      let l := s.line n
      let span := [(s.por (0x80 + 256 * n.val), 256)]
      (l.state ≠ .partialWait → l.state ≠ .receiving →
        exec (.partialOk n) s = .next s ∧ exec (.repeatBlocks n map) s = .next s)
      ∧ (l.state = .partialWait → l.lastEnd ≠ some .more →
        ∃ u, exec (.partialOk n) s = .next u ∧ u = { s with lne := { s.lne with lines := u.lne.lines }, dram := u.dram }
          ∧ u.line n = { l with rounds := 0, state := .pageWait, timer := some .pageConfirm,
                                remaining := s.lne.timers.pageConfirm }
          ∧ (∀ m, m ≠ n → u.line m = s.line m) ∧ unchangedOutside span s.dram u.dram)
      ∧ (l.state = .partialWait → l.lastEnd = some .more → ∀ p r, l.page = some p → s.page? p = some r →
        let q := l.partialPage + 1
        let count := if q + 1 < (r.codedLen + 16383) / 16384 then 64 else (r.codedLen - 16384 * q + 255) / 256
        ∃ u, exec (.partialOk n) s = .next u ∧ u = { s with lne := { s.lne with lines := u.lne.lines }, dram := u.dram }
          ∧ u.line n = { l with rounds := 0, state := .sending, partialPage := q, blockCount := count,
                                toSend := List.range count, inFlight := false, timer := some .blockGap,
                                remaining := s.lne.timers.blockGap }
          ∧ (∀ m, m ≠ n → u.line m = s.line m) ∧ unchangedOutside span s.dram u.dram)
      ∧ (l.state = .partialWait → 4 ≤ l.rounds →
        ∃ u, exec (.repeatBlocks n map) s = .next u
          ∧ u = { s with sli := (hand n .clear (hand n .abandon s)).sli, lne := { s.lne with lines := u.lne.lines },
                         dram := u.dram }
          ∧ u.line n = { l with rounds := l.rounds + 1, state := .clearing, cause := some .repeatLimit,
                                timer := some .clearing, remaining := 100 }
          ∧ (∀ m, m ≠ n → u.line m = s.line m) ∧ unchangedOutside span s.dram u.dram)
      ∧ (l.state = .partialWait → l.rounds < 4 → ∀ b bs, ((List.range l.blockCount).filter fun b => map.getLsbD b) = b :: bs →
        ∃ u, exec (.repeatBlocks n map) s = .next u
          ∧ u = { s with lne := { s.lne with lines := u.lne.lines }, dram := u.dram }
          ∧ u.line n = { l with rounds := l.rounds + 1, state := .sending, toSend := b :: bs, inFlight := false,
                                timer := some .blockGap, remaining := s.lne.timers.blockGap }
          ∧ (∀ m, m ≠ n → u.line m = s.line m) ∧ unchangedOutside span s.dram u.dram)
      ∧ (l.state = .partialWait → l.rounds < 4 → ((List.range l.blockCount).filter fun b => map.getLsbD b) = [] →
        ∀ p r d doc, l.page = some p → s.page? p = some r → l.doc = some d → s.doc? d = some doc →
        let kind : EndKind := if l.partialPage + 1 < (r.codedLen + 16383) / 16384 then .more
          else if doc.state ≠ .opened ∧ doc.state ≠ .receiving ∧ l.pagePos + 1 = doc.places.length then .docEnd else .pageEnd
        ∃ u, exec (.repeatBlocks n map) s = .next u
          ∧ u = { s with sli := (hand n (.partialEnd l.partialPage l.blockCount kind) s).sli,
                         lne := { s.lne with lines := u.lne.lines }, dram := u.dram }
          ∧ u.line n = { l with rounds := l.rounds + 1, state := .partialWait, lastEnd := some kind,
                                timer := some .partialPage, remaining := s.lne.timers.partialPage }
          ∧ (∀ m, m ≠ n → u.line m = s.line m) ∧ unchangedOutside span s.dram u.dram))
  ∧ (∀ (n : Line) (s : State), s.hears = true →
      ((s.line n).state ≠ .pageWait → (s.line n).state ≠ .receiving → exec (.pageConfirmed n) s = .next s)
      ∧ ∀ k d p t j doc r, (s.line n).state = .pageWait → (s.line n).dest = some k → s.dest? k = some t →
          (s.line n).doc = some d → s.job? t.job = some j → j.doc = d → s.doc? d = some doc → doc.keep = true →
          doc.places[t.confirmed]? = some (some p) → s.page? p = some r → r.doc = d → 1 ≤ r.sendHolds →
          let grows := doc.state = .opened ∨ doc.state = .receiving
          let next := doc.places[t.confirmed + 1]?
          let spans := [(s.por (0x80 + 256 * n.val), 256), (s.destAddr k, 64), (s.pageAddr p, 64)]
          let moved (u : State) : Prop :=
            u = { s with sli := u.sli, lne := { s.lne with lines := u.lne.lines }, dju := { s.dju with dests := u.dju.dests },
                         psm := { s.psm with pages := u.psm.pages }, dram := u.dram }
            ∧ (∀ m, m ≠ n → u.line m = s.line m)
            ∧ u.dest? k = some { t with confirmed := t.confirmed + 1 } ∧ (∀ k', k' ≠ k → u.dest? k' = s.dest? k')
            ∧ u.page? p = some { r with sendHolds := r.sendHolds - 1 } ∧ (∀ q, q ≠ p → u.page? q = s.page? q)
            ∧ unchangedOutside spans s.dram u.dram
          ((next = none ∧ grows) ∨ (∃ q rq, next = some (some q) ∧ s.page? q = some rq ∧ rq.state = .filling) →
            ∃ u, exec (.pageConfirmed n) s = .next u ∧ moved u ∧ u.sli = s.sli
              ∧ u.line n = { s.line n with page := none, state := .dataWait, timer := some .dataWait,
                                           remaining := s.lne.timers.dataWait })
          ∧ (∀ q rq, next = some (some q) → s.page? q = some rq → rq.state ≠ .filling → rq.codedLen ≤ 4194304 →
            let count := if 1 < (rq.codedLen + 16383) / 16384 then 64 else (rq.codedLen + 255) / 256
            let left := if grows then 0xFF else doc.places.length - (t.confirmed + 1)
            ∃ u, exec (.pageConfirmed n) s = .next u ∧ moved u
              ∧ u.sli = (if (s.line n).lastParams = some (rq.cls, rq.res) then s
                  else hand n (.sessionParams rq.cls rq.res left) s).sli
              ∧ u.line n = { s.line n with
                  page := some q, pagePos := t.confirmed + 1, rounds := 0, partialPage := 0, blockCount := count,
                  toSend := List.range count, inFlight := false, lastParams := some (rq.cls, rq.res), state := .sending,
                  timer := some .blockGap, remaining := s.lne.timers.blockGap })
          ∧ (∀ q rq, next = some (some q) → s.page? q = some rq → rq.state ≠ .filling → 4194304 < rq.codedLen →
            ∃ u, exec (.pageConfirmed n) s = .next u ∧ moved u ∧ u.sli = (hand n .clear (hand n .abandon s)).sli
              ∧ u.line n = { s.line n with page := some q, pagePos := t.confirmed + 1, rounds := 0, state := .clearing,
                                           cause := some .pageRejected, timer := some .clearing, remaining := 100 })
          ∧ (next = none → ¬grows →
            ∃ u, exec (.pageConfirmed n) s = .next u
              ∧ u = { s with
                  sli := (hand n .clear (if (s.line n).lastEnd = some .docEnd then s else hand n .abandon s)).sli,
                  lne := { s.lne with lines := u.lne.lines },
                  dju := { s.dju with dests := u.dju.dests, jobs := u.dju.jobs },
                  psm := { s.psm with pages := u.psm.pages },
                  ceu := (postTagged .destDone .destination k j.tag 0 (t.confirmed + 1) s).ceu, dram := u.dram }
              ∧ u.line n = { s.line n with page := none, state := .clearing, cause := some .normal, timer := some .clearing,
                                           remaining := 100 }
              ∧ (∀ m, m ≠ n → u.line m = s.line m)
              ∧ u.dest? k = some { t with confirmed := t.confirmed + 1, state := .sent, cancelMark := false }
              ∧ (∀ k', k' ≠ k → u.dest? k' = s.dest? k')
              ∧ u.job? t.job = some { j with sent := j.sent + 1 } ∧ (∀ j', j' ≠ t.job → u.job? j' = s.job? j')
              ∧ u.page? p = some { r with sendHolds := r.sendHolds - 1 } ∧ (∀ q, q ≠ p → u.page? q = s.page? q)
              ∧ unchangedOutside (spans ++ [(s.jobAddr t.job, 128), (s.cfg.evBase + 64 + 16 * s.ceu.evTail, 16),
                  (s.cfg.evBase + 4, 4)]) s.dram u.dram))

/-- RING with up to 8 digits and 20 characters of identity. Its route is the first route in record order that has its called
digits, character for character, and the default route when none has them or they are absent. On a line that is neither IDLE
nor SEIZING (whatever its use: the model's choice, log 44), on one whose plan takes no calls, or on a call that the answer
decision refuses, REFUSE is handed and RING_REFUSED posted with its code; in RECEIVING the block gap timer restarts before
(the model's reading, log 27). An answered call gets the lowest free document,
held as the filter says, and an entry when it has copies and is not held; the line enters ANSWERING, ANSWER is handed and
RING posted; of DRAM only the bytes of the document, the entry and the line's record change, and then those of the event. A
RING on a SEIZING line ends that outbound session first: the reservation is released, the destination is
PENDING again with cause SEIZE_LOST, its job has one session less, and the RING then does what it does on an IDLE line with a
default record of cause SEIZE_LOST. That the line passes through that record, and that an answered call's record keeps the
line's last cause, is the model's reading (log 25); that an entry's arrival number after FFFFFFFFh is 0 is its choice (log
69). -/
def Obligations.RingDecision : Prop :=
  ∀ (n : Line) (called ident : List Byte) (s : State), s.hears = true → called.length ≤ 8 → ident.length ≤ 20 →
    let refused (why : RingRefusal) (u : State) : State := post .ringRefused .line n.val why.code u.freeCount u
    let r := s.routeOf called
    ((s.line n).state ≠ .idle → (s.line n).state ≠ .seizing → (s.line n).state ≠ .receiving →
      exec (.ring n called ident) s = .next (refused .lineNotIdle (hand n .refuse s)))
    ∧ ((s.line n).state = .receiving →
      ∃ v, exec (.ring n called ident) s = .next (refused .lineNotIdle (hand n .refuse v))
        ∧ v = { s with lne := { s.lne with lines := v.lne.lines } }
        ∧ v.line n = { s.line n with timer := some .blockGap, remaining := s.lne.timers.blockGap }
        ∧ ∀ m, m ≠ n → v.line m = s.line m)
    ∧ ((called = [] ∨ ∀ q ∈ s.rxr.routes, q.isFor called = false) → r = s.rxr.defaultRoute)
    ∧ (∀ (i : Nat) (q : Route), s.rxr.routes[i]? = some q → called ≠ [] → called.all isDigit = true → q.digitCount = called.length →
        q.digits.take q.digitCount = called →
        (∀ (k : Nat) (x : Route), k < i → s.rxr.routes[k]? = some x → x.digits.take x.digitCount ≠ called) → r = q)
    ∧ ((∃ ch ∈ called, isDigit ch = false) → r = s.rxr.defaultRoute)
    ∧ ((s.line n).state = .idle → (s.plan n).use = .disabled ∨ (s.plan n).use = .outOnly →
      exec (.ring n called ident) s = .next (refused .lineUse (hand n .refuse s)))
    ∧ ((s.line n).state = .idle → (s.plan n).use = .inOnly ∨ (s.plan n).use = .both →
      (s.freeCount < s.psm.lowWater →
        exec (.ring n called ident) s = .next (refused .lowStore (hand n .refuse s)))
      ∧ (s.psm.lowWater ≤ s.freeCount → s.emptyPages < 8 →
        exec (.ring n called ident) s = .next (refused .pageRecords (hand n .refuse s)))
      ∧ (s.psm.lowWater ≤ s.freeCount → 8 ≤ s.emptyPages → s.freeDoc = none →
        exec (.ring n called ident) s = .next (refused .noDocument (hand n .refuse s)))
      ∧ (s.psm.lowWater ≤ s.freeCount → 8 ≤ s.emptyPages → s.freeDoc.isSome → 0 < r.copies → s.freeEntry = none →
        exec (.ring n called ident) s = .next (refused .printQueueFull (hand n .refuse s)))
      ∧ ∀ d, s.psm.lowWater ≤ s.freeCount → 8 ≤ s.emptyPages → s.freeDoc = some d → (0 < r.copies → s.freeEntry.isSome) →
        let held := s.isHeld r ident
        let prints := decide (0 < r.copies) && !held
        ∃ u, exec (.ring n called ident) s = .next (post .ring .line n.val (if held then 1 else 0) d u)
          ∧ u = { s with sli := (hand n .answer s).sli, lne := { s.lne with lines := u.lne.lines },
                         dju := { s.dju with docs := u.dju.docs },
                         prn := { s.prn with entries := u.prn.entries, arrival := u.prn.arrival }, dram := u.dram }
          ∧ u.doc? d = some
              { dir := .inbound, state := .receiving, places := [], keep := true, isHeld := held, desk := r.desk,
                tray := r.tray, ident := ident, called := called, line := n.val, created := s.chg.seconds, jobRefs := 0,
                printRefs := if prints then 1 else 0, copies := r.copies, printClass := r.printClass,
                autoDelete := r.autoDelete, printed := false }
          ∧ (∀ k, k ≠ d → u.doc? k = s.doc? k)
          ∧ (prints = false → u.prn = s.prn)
          ∧ (∀ e, prints = true → s.freeEntry = some e → u.entry? e = some
              { doc := d, copies := r.copies, copiesDone := 0, tray := r.tray, cls := r.printClass,
                arrival := (s.prn.arrival + 1) % 4294967296, printing := false, position := 0, sheetNumber := 0,
                sheetLine := 0, cancelMark := false })
          ∧ (∀ e, (prints = true → s.freeEntry ≠ some e) → u.entry? e = s.entry? e)
          ∧ u.line n = { LineRec.default with dir := some .inbound, doc := some d, state := .answering,
                                              cause := (s.line n).cause, timer := some .answering, remaining := s.lne.timers.answering }
          ∧ (∀ m, m ≠ n → u.line m = s.line m)
          ∧ unchangedOutside ([(s.docAddr d, 512), (s.por (0x80 + 256 * n.val), 256)]
              ++ if prints then s.freeEntry.toList.map fun e => (s.entryAddr e, 64) else []) s.dram u.dram
          ∧ unchangedOutside [(s.cfg.evBase + 64 + 16 * s.ceu.evTail, 16), (s.cfg.evBase + 4, 4)] u.dram
              (post .ring .line n.val (if held then 1 else 0) d u).dram)
    ∧ (∀ k t j c, (s.line n).state = .seizing → (s.line n).dir = some .outbound → (s.line n).storing = none →
        (s.line n).dest = some k → (s.line n).job = some t.job → s.dest? k = some t → t.state ≠ .sent → t.cancelMark = false →
        s.job? t.job = some j → Tab.get? s.chg.calls n.val = some c → c.answered = false →
        let a := s.account c.account
        let freed := a.reserved - c.reservation
        ∃ v, exec (.ring n called ident) s = exec (.ring n called ident) v
          ∧ v = { s with lne := { s.lne with lines := v.lne.lines },
                         dju := { s.dju with dests := v.dju.dests, jobs := v.dju.jobs, passDue := true },
                         chg := { s.chg with logReserved := s.chg.logReserved - 1, accounts := v.chg.accounts,
                                             calls := v.chg.calls }, dram := v.dram }
          ∧ v.line n = { LineRec.default with state := .idle, cause := some .seizeLost }
          ∧ (∀ m, m ≠ n → v.line m = s.line m)
          ∧ v.dest? k = some { t with state := .pending, lastCause := some .seizeLost }
          ∧ (∀ x, x ≠ k → v.dest? x = s.dest? x)
          ∧ v.job? t.job = some { j with sessions := j.sessions - 1 } ∧ (∀ x, x ≠ t.job → v.job? x = s.job? x)
          ∧ Tab.get? v.chg.calls n.val = none ∧ (∀ x, x ≠ n.val → Tab.get? v.chg.calls x = Tab.get? s.chg.calls x)
          ∧ v.account c.account = { a with
              reserved := freed,
              armed := a.armed || (a.state != .unused && a.limit.all fun l => decide (1 ≤ l - a.spent - freed)) }
          ∧ (∀ x, x ≠ c.account → v.account x = s.account x)
          ∧ unchangedOutside [(s.por (0x80 + 256 * n.val), 256), (s.destAddr k, 64), (s.jobAddr t.job, 128),
              (s.por (0x38000 + 64 * c.account), 64)] s.dram v.dram)

/-- RX_PAGE_BEGIN in ANSWERING or RECEIVING with no page open, codes of their sets, room in the document and an EMPTY page
record: the lowest-numbered one becomes a FILLING inbound page at the end of the document's list with the print holds of
its entries, and the line is RECEIVING its partial page 0. A code outside its set does nothing in ANSWERING. A full
document ends the session with PAGE_LIMIT, a full page table with STORE_FULL, by ABANDON and CLEAR. With a page open, that
page is first sealed TRUNCATED with the bytes kept, extended over the blocks present from its partial page's start unless it
was cut already (log 26), or freed when there are none. RX_PARTIAL_END of the partial page being received, with no block on its way to the store. With every block
below the count present, and full but for the last, RX_PARTIAL_OK is handed; after "more follow" the next partial page is
received, after a page or document end the page is sealed and the line waits for the next one or clears. With blocks
missing and fewer than four rounds, RX_REPEAT names them and the round counts; after the fourth the page is cut at the
first missing block, TRUNCATED, and RX_PARTIAL_OK accepts it damaged, as it does for every later partial page of a cut
page; a page or document end then closes the page with its fixed kept length: it is sealed, DAMAGED when TRUNCATED is set,
or freed as its document's last place when that length is 0. That the record's block count is 0 until an RX_PARTIAL_END
gives one, and stays as it was after a good check, is the model's choice (log 58). A wrong partial page, count or end kind
is ignored but restarts the block gap timer, as every message in RECEIVING does (logs 26 and 27). BLOCK_STORED of a block
on its way into a page whose chain covers it: the block's bytes stand in the page's stream at the block's place and every
other byte of the stream stays, the block is present with its length, and the inbound buffer is released, whatever waits for
a judgement. With an RX_PARTIAL_END waiting for the store, its partial page is then checked and answered as above: with
RX_REPEAT, with RX_PARTIAL_OK, or accepted damaged, and its end kind acts. Without a block on its way nothing happens. That
the record of a line without a page in hand keeps the position and partial page of the page closed last is the model's
choice (log 66), and so is that the release frees the buffer also when a store from before the link came up again ends beside
a newer block (log 72). -/
def Obligations.ReceivingPages : Prop :=
  (∀ (n : Line) (cls res : Byte) (s : State), s.hears = true → (s.line n).state = .answering ∨ (s.line n).state = .receiving →
      ((s.line n).state = .answering → 2 < cls.toNat ∨ 1 < res.toNat → exec (.rxPageBegin n cls res) s = .next s)
      ∧ ∀ d doc p w q, widthClassOf cls.toNat = some w → resolutionOf res.toNat = some q → (s.line n).page = none →
          (s.line n).storing = none → (s.line n).doc = some d → s.doc? d = some doc → doc.places.length < 128 →
          p < 1024 → s.page? p = none → (∀ k, k < p → (s.page? k).isSome) →
          ∃ u, exec (.rxPageBegin n cls res) s = .next u
            ∧ u = { s with lne := { s.lne with lines := u.lne.lines }, dju := { s.dju with docs := u.dju.docs },
                           psm := { s.psm with pages := u.psm.pages }, dram := u.dram }
            ∧ u.page? p = some
                { state := .filling, doc := d, pos := doc.places.length, dir := .inbound, cls := w, res := q, lineCount := 0,
                  codedLen := 0, chain := [], check := 0, scanOverrun := false, truncated := false, checkFail := false,
                  decodeFault := false, sendHolds := 0, printHolds := ((s.prn.entries.filter fun e => e.2.doc == d).map
                    fun e => e.2.copies - e.2.copiesDone).sum, sealedTime := 0 }
            ∧ (∀ k, k ≠ p → u.page? k = s.page? k)
            ∧ u.doc? d = some { doc with places := doc.places ++ [some p] } ∧ (∀ k, k ≠ d → u.doc? k = s.doc? k)
            ∧ u.line n = { s.line n with
                state := .receiving, page := some p, pagePos := doc.places.length, partialPage := 0, blockMap := [],
                rounds := 0, kept := 0, cut := false, blockCount := 0, timer := some .blockGap,
                remaining := s.lne.timers.blockGap }
            ∧ (∀ m, m ≠ n → u.line m = s.line m)
            ∧ unchangedOutside [(s.por (0x80 + 256 * n.val), 256), (s.pageAddr p, 64), (s.docAddr d, 512), (s.por 0, 12)]
                s.dram u.dram)
  ∧ (∀ (n : Line) (cls res : Byte) (s : State) (d : Nat) (doc : Doc), s.hears = true →
      (s.line n).state = .answering ∨ (s.line n).state = .receiving → cls.toNat ≤ 2 → res.toNat ≤ 1 →
      (s.line n).page = none → (s.line n).storing = none → (s.line n).doc = some d → s.doc? d = some doc →
      ∀ cause, (cause = .pageLimit ∧ 128 ≤ doc.places.length)
          ∨ (cause = .storeFull ∧ doc.places.length < 128 ∧ ∀ k, k < 1024 → (s.page? k).isSome) →
        ∃ u, exec (.rxPageBegin n cls res) s = .next u
          ∧ u = { s with sli := (hand n .clear (hand n .abandon s)).sli, lne := { s.lne with lines := u.lne.lines },
                         dram := u.dram }
          ∧ u.line n = { s.line n with state := .clearing, cause := some cause, timer := some .clearing, remaining := 100 }
          ∧ (∀ m, m ≠ n → u.line m = s.line m) ∧ unchangedOutside [(s.por (0x80 + 256 * n.val), 256)] s.dram u.dram)
  ∧ (∀ (n : Line) (cls res : Byte) (s : State) (p kept : Nat) (r : PageRec) (doc : Doc), s.hears = true →
      (s.line n).state = .receiving → cls.toNat ≤ 2 → res.toNat ≤ 1 → (s.line n).page = some p → s.page? p = some r →
      p < 1024 → (s.line n).storing = none → s.doc? r.doc = some doc → doc.keep = true →
      (∀ m, (s.line m).state = .dataWait → (s.line m).doc ≠ some r.doc) → (s.line n).KeepsEarly kept →
      ∃ v, exec (.rxPageBegin n cls res) s = exec (.rxPageBegin n cls res) v
        ∧ ClosedEarly s v n { s.line n with page := none, kept := kept, timer := some .blockGap,
                                            remaining := s.lne.timers.blockGap } p kept r)
  ∧ (∀ (n : Line) (pp count kind : Byte) (p : Nat) (s : State), s.hears = true → (s.line n).state = .receiving →
      (s.line n).page = some p → (s.line n).storing = none → (s.line n).cut = false →
      let l := { s.line n with timer := some .blockGap, remaining := s.lne.timers.blockGap }
      let c := count.toNat
      let bad (b : Nat) : Bool :=
        match Tab.get? l.blockMap b with
        | none => true
        | some len => decide (b + 1 < c ∧ len < 256)
      let missing := (List.range c).filter bad
      let span := [(s.por (0x80 + 256 * n.val), 256)]
      (pp.toNat ≠ l.partialPage ∨ c < 1 ∨ 64 < c ∨ 2 < kind.toNat ∨ (kind = 0 ∧ c ≠ 64) →
        ∃ u, exec (.rxPartialEnd n pp count kind) s = .next u
          ∧ u = { s with lne := { s.lne with lines := u.lne.lines }, dram := u.dram } ∧ u.line n = l
          ∧ (∀ m, m ≠ n → u.line m = s.line m) ∧ unchangedOutside span s.dram u.dram)
      ∧ (pp.toNat = l.partialPage → c = 64 → kind = 0 → missing = [] →
        ∃ u, exec (.rxPartialEnd n pp count kind) s = .next u
          ∧ u = { s with sli := (hand n (.rxPartialOk false) s).sli, lne := { s.lne with lines := u.lne.lines },
                         dram := u.dram }
          ∧ u.line n = { l with blockCount := 64, checking := none, rounds := 0, partialPage := l.partialPage + 1,
                                blockMap := [],
                                kept := 16384 * l.partialPage + ((List.range 64).map fun b => Tab.getD l.blockMap b 0).sum }
          ∧ (∀ m, m ≠ n → u.line m = s.line m) ∧ unchangedOutside span s.dram u.dram)
      ∧ (pp.toNat = l.partialPage → 1 ≤ c → c ≤ 64 → kind.toNat ≤ 2 → (kind = 0 → c = 64) → missing ≠ [] → l.rounds < 4 →
        ∃ u, exec (.rxPartialEnd n pp count kind) s = .next u
          ∧ u = { s with sli := (hand n (.rxRepeat missing) s).sli, lne := { s.lne with lines := u.lne.lines },
                         dram := u.dram }
          ∧ u.line n = { l with blockCount := c, checking := none, rounds := l.rounds + 1 }
          ∧ (∀ m, m ≠ n → u.line m = s.line m) ∧ unchangedOutside span s.dram u.dram)
      ∧ (∀ r b bs, pp.toNat = l.partialPage → c = 64 → kind = 0 → missing = b :: bs → 4 ≤ l.rounds → s.page? p = some r →
        ∃ u, exec (.rxPartialEnd n pp count kind) s = .next u
          ∧ u = { s with sli := (hand n (.rxPartialOk true) s).sli, lne := { s.lne with lines := u.lne.lines },
                         psm := { s.psm with pages := u.psm.pages }, dram := u.dram }
          ∧ u.line n = { l with blockCount := 64, checking := none, rounds := 0, partialPage := l.partialPage + 1,
                                blockMap := [], kept := 16384 * l.partialPage + 256 * b, cut := true }
          ∧ (∀ m, m ≠ n → u.line m = s.line m)
          ∧ u.page? p = some { r with truncated := true } ∧ (∀ q, q ≠ p → u.page? q = s.page? q)
          ∧ unchangedOutside ((s.pageAddr p, 64) :: span) s.dram u.dram)
      ∧ (pp.toNat = l.partialPage → 1 ≤ c → c ≤ 64 → kind = 1 ∨ kind = 2 → missing = [] → p < 1024 → ∀ r doc,
        s.page? p = some r → s.doc? r.doc = some doc → doc.keep = true →
        (∀ m, (s.line m).state = .dataWait → (s.line m).doc ≠ some r.doc) →
        let kept := 16384 * l.partialPage + ((List.range c).map fun b => Tab.getD l.blockMap b 0).sum
        kept ≠ 0 →
        let told := hand n (.rxPartialOk false) s
        let closed : LineRec := { l with blockCount := c, checking := none, rounds := 0, kept := kept, page := none }
        ∃ u, exec (.rxPartialEnd n pp count kind) s = .next u
          ∧ u = { s with sli := (if kind = 1 then told else hand n .clear told).sli, lne := { s.lne with lines := u.lne.lines },
                         psm := { s.psm with pages := u.psm.pages, stack := u.psm.stack, lowArmed := u.psm.lowArmed },
                         dju := { s.dju with passDue := true }, ceu := u.ceu, dram := u.dram }
          ∧ u.line n = (if kind = 1 then closed
              else { closed with state := .clearing, cause := some .normal, timer := some .clearing, remaining := 100 })
          ∧ (∀ m, m ≠ n → u.line m = s.line m)
          ∧ (∃ check, u.page? p = some { r with
                codedLen := kept, lineCount := 0, chain := r.chain.take (segsFor kept), check := check,
                sealedTime := s.chg.seconds, state := if r.scanOverrun || r.truncated then .damaged else .complete }
              ∧ (r.chain.length ≤ segsFor kept → check = crc16 (s.streamBytes r.chain 0 kept)))
          ∧ (∀ q, q ≠ p → u.page? q = s.page? q)
          ∧ unchangedOutside ([(s.por (0x80 + 256 * n.val), 256), (s.pageAddr p, 64), (s.por 0, 12),
                (s.cfg.evBase + 64 + 16 * s.ceu.evTail, 16), (s.cfg.evBase + 4, 4)]
              ++ (r.chain.map fun i => (s.segAddr i + 1020, 4))
              ++ (List.range r.chain.length).map fun i => (s.por (0x79000 + 2 * (s.freeCount + i)), 2)) s.dram u.dram))
  ∧ (∀ (n : Line) (pp count : Byte) (p : Nat) (s : State), s.hears = true → (s.line n).state = .receiving →
      (s.line n).page = some p → (s.line n).storing = none → (s.line n).cut = true → pp.toNat = (s.line n).partialPage →
      count = 64 →
      ∃ u, exec (.rxPartialEnd n pp count 0) s = .next u
        ∧ u = { s with sli := (hand n (.rxPartialOk true) s).sli, lne := { s.lne with lines := u.lne.lines }, dram := u.dram }
        ∧ u.line n = { s.line n with blockCount := 64, checking := none, rounds := 0, blockMap := [],
                                     partialPage := (s.line n).partialPage + 1, timer := some .blockGap,
                                     remaining := s.lne.timers.blockGap }
        ∧ (∀ m, m ≠ n → u.line m = s.line m) ∧ unchangedOutside [(s.por (0x80 + 256 * n.val), 256)] s.dram u.dram)
  ∧ (∀ (n : Line) (pp count kind : Byte) (p kept : Nat) (r r' : PageRec) (doc : Doc) (s : State), s.hears = true →
      (s.line n).state = .receiving → (s.line n).page = some p → (s.line n).storing = none → p < 1024 → s.page? p = some r →
      s.doc? r.doc = some doc → doc.keep = true → (∀ m, (s.line m).state = .dataWait → (s.line m).doc ≠ some r.doc) →
      let l := { s.line n with timer := some .blockGap, remaining := s.lne.timers.blockGap }
      let c := count.toNat
      let bad (b : Nat) : Bool :=
        match Tab.get? l.blockMap b with
        | none => true
        | some len => decide (b + 1 < c ∧ len < 256)
      pp.toNat = l.partialPage → 1 ≤ c → c ≤ 64 → kind = 1 ∨ kind = 2 →
      (l.cut = true ∧ kept = l.kept ∧ r' = r)
        ∨ (l.cut = false ∧ 4 ≤ l.rounds ∧ r' = { r with truncated := true }
          ∧ ∃ b, ((List.range c).filter bad).head? = some b ∧ kept = 16384 * l.partialPage + 256 * b) →
      let told := hand n (.rxPartialOk true) s
      let closed : LineRec := { l with blockCount := c, checking := none, kept := kept, cut := true, page := none }
      let spans := [(s.por (0x80 + 256 * n.val), 256), (s.pageAddr p, 64), (s.por 0, 12),
            (s.cfg.evBase + 64 + 16 * s.ceu.evTail, 16), (s.cfg.evBase + 4, 4)]
          ++ (List.range r.chain.length).map fun i => (s.por (0x79000 + 2 * (s.freeCount + i)), 2)
      ∃ u, exec (.rxPartialEnd n pp count kind) s = .next u
        ∧ u = { s with sli := (if kind = 1 then told else hand n .clear told).sli, lne := { s.lne with lines := u.lne.lines },
                       psm := { s.psm with pages := u.psm.pages, stack := u.psm.stack, lowArmed := u.psm.lowArmed },
                       dju := { s.dju with docs := u.dju.docs, passDue := u.dju.passDue }, ceu := u.ceu, dram := u.dram }
        ∧ u.line n = (if kind = 1 then closed
            else { closed with state := .clearing, cause := some .normal, timer := some .clearing, remaining := 100 })
        ∧ (∀ m, m ≠ n → u.line m = s.line m) ∧ (∀ q, q ≠ p → u.page? q = s.page? q)
        ∧ (kept ≠ 0 →
          (∃ check, u.page? p = some { r' with
              codedLen := kept, lineCount := 0, chain := r.chain.take (segsFor kept), check := check,
              sealedTime := s.chg.seconds, state := if r'.scanOverrun || r'.truncated then .damaged else .complete }
            ∧ (r.chain.length ≤ segsFor kept → check = crc16 (s.streamBytes r.chain 0 kept)))
          ∧ u.dju = { s.dju with passDue := true }
          ∧ unchangedOutside (spans ++ r.chain.map fun i => (s.segAddr i + 1020, 4)) s.dram u.dram)
        ∧ (kept = 0 →
          u.page? p = none ∧ u.psm.stack = r.chain.reverse ++ s.psm.stack
          ∧ u.dju.passDue = s.dju.passDue ∧ u.doc? r.doc = some { doc with places := doc.places.dropLast }
          ∧ (∀ d, d ≠ r.doc → u.doc? d = s.doc? d)
          ∧ unchangedOutside ((s.docAddr r.doc, 512) :: spans) s.dram u.dram))
  ∧ (∀ (n : Line) (s : State),
      ((s.line n).storing = none → exec (.blockStored n) s = .next s)
      ∧ ∀ b p r, (s.line n).storing = some b → (s.line n).page = some p → s.page? p = some r → r.chain.Nodup →
          16384 * b.partialPage + 256 * b.block + b.bytes.length ≤ 1020 * r.chain.length →
          let off := 16384 * b.partialPage + 256 * b.block
          let span := [(s.por (0x80 + 256 * n.val), 256)]
          ∃ v, v = { s with sli := { s.sli with inLines := v.sli.inLines }, lne := { s.lne with lines := v.lne.lines },
                            dram := v.dram }
            ∧ v.streamBytes r.chain off b.bytes.length = b.bytes
            ∧ (∀ i, i < 1020 * r.chain.length → i < off ∨ off + b.bytes.length ≤ i →
                Mem.get v.dram (s.streamAddr r.chain i) = Mem.get s.dram (s.streamAddr r.chain i))
            ∧ v.line n = { s.line n with storing := none, checking := none,
                                         blockMap := Tab.set (s.line n).blockMap b.block b.bytes.length }
            ∧ (∀ m, m ≠ n → v.line m = s.line m)
            ∧ v.inLine n.val = { s.inLine n.val with complete := false, occupied := false }
            ∧ (∀ k, k ≠ n.val → v.inLine k = s.inLine k)
            ∧ unchangedOutside (span ++ r.chain.map fun i => (s.segAddr i, 1020)) s.dram v.dram
            ∧ ((s.line n).checking = none → exec (.blockStored n) s = .next v)
            ∧ ∀ c k, (s.line n).checking = some (c, k) →
              let l := v.line n
              let bad (b : Nat) : Bool :=
                match Tab.get? l.blockMap b with
                | none => true
                | some len => decide (b + 1 < c ∧ len < 256)
              let missing := (List.range c).filter bad
              let again : LineRec := { l with state := .receiving, timer := some .blockGap, remaining := s.lne.timers.blockGap }
              (l.cut = false → missing ≠ [] → l.rounds < 4 →
                ∃ u, exec (.blockStored n) s = .next u
                  ∧ u = { v with sli := (hand n (.rxRepeat missing) v).sli, lne := { s.lne with lines := u.lne.lines },
                                 dram := u.dram }
                  ∧ u.line n = { again with rounds := l.rounds + 1 } ∧ (∀ m, m ≠ n → u.line m = s.line m)
                  ∧ unchangedOutside span v.dram u.dram)
              ∧ ∀ damaged rounds kept r', (l.cut = true ∧ damaged = true ∧ rounds = l.rounds ∧ kept = l.kept ∧ r' = r)
                  ∨ (l.cut = false ∧ missing = [] ∧ damaged = false ∧ rounds = 0 ∧ r' = r
                    ∧ kept = 16384 * l.partialPage + ((List.range c).map fun b => Tab.getD l.blockMap b 0).sum)
                  ∨ (l.cut = false ∧ 4 ≤ l.rounds ∧ damaged = true ∧ rounds = l.rounds ∧ r' = { r with truncated := true }
                    ∧ ∃ b, missing.head? = some b ∧ kept = 16384 * l.partialPage + 256 * b) →
                let told := hand n (.rxPartialOk damaged) v
                (k = .more →
                  ∃ u, exec (.blockStored n) s = .next u
                    ∧ u = { v with sli := told.sli, lne := { s.lne with lines := u.lne.lines },
                                   psm := { s.psm with pages := u.psm.pages }, dram := u.dram }
                    ∧ u.line n = { again with partialPage := l.partialPage + 1, blockMap := [], rounds := 0, kept := kept,
                                              cut := damaged }
                    ∧ (∀ m, m ≠ n → u.line m = s.line m) ∧ u.page? p = some r' ∧ (∀ q, q ≠ p → u.page? q = s.page? q)
                    ∧ unchangedOutside ((s.pageAddr p, 64) :: span) v.dram u.dram)
                ∧ (k ≠ .more → p < 1024 → ∀ doc, s.doc? r.doc = some doc → doc.keep = true →
                  (∀ m, (s.line m).state = .dataWait → (s.line m).doc ≠ some r.doc) →
                  let closed : LineRec := { again with rounds := rounds, kept := kept, cut := damaged, page := none }
                  let spans := span ++ [(s.pageAddr p, 64), (s.por 0, 12), (s.cfg.evBase + 64 + 16 * s.ceu.evTail, 16),
                      (s.cfg.evBase + 4, 4)]
                    ++ (List.range r.chain.length).map fun i => (s.por (0x79000 + 2 * (s.freeCount + i)), 2)
                  ∃ u, exec (.blockStored n) s = .next u
                    ∧ u = { v with sli := (if k = .pageEnd then told else hand n .clear told).sli,
                                   lne := { s.lne with lines := u.lne.lines },
                                   psm := { s.psm with pages := u.psm.pages, stack := u.psm.stack, lowArmed := u.psm.lowArmed },
                                   dju := { s.dju with docs := u.dju.docs, passDue := u.dju.passDue }, ceu := u.ceu,
                                   dram := u.dram }
                    ∧ u.line n = (if k = .pageEnd then closed
                        else { closed with state := .clearing, cause := some .normal, timer := some .clearing,
                                           remaining := 100 })
                    ∧ (∀ m, m ≠ n → u.line m = s.line m) ∧ (∀ q, q ≠ p → u.page? q = s.page? q)
                    ∧ (kept ≠ 0 →
                      (∃ check, u.page? p = some { r' with
                          codedLen := kept, lineCount := 0, chain := r.chain.take (segsFor kept), check := check,
                          sealedTime := s.chg.seconds,
                          state := if r'.scanOverrun || r'.truncated then .damaged else .complete }
                        ∧ (r.chain.length ≤ segsFor kept → check = crc16 (v.streamBytes r.chain 0 kept)))
                      ∧ u.dju = { s.dju with passDue := true }
                      ∧ unchangedOutside (spans ++ r.chain.map fun i => (s.segAddr i + 1020, 4)) v.dram u.dram)
                    ∧ (kept = 0 →
                      u.page? p = none ∧ u.psm.stack = r.chain.reverse ++ s.psm.stack
                      ∧ u.dju.passDue = s.dju.passDue ∧ u.doc? r.doc = some { doc with places := doc.places.dropLast }
                      ∧ (∀ d, d ≠ r.doc → u.doc? d = s.doc? d)
                      ∧ unchangedOutside ((s.docAddr r.doc, 512) :: spans) v.dram u.dram)))

/-- The ends of sessions: REMOTE_CLEAR, LINE_NOT_READY, and in CLEARING CLEARED and the expired clearing timer. The line's
record takes its defaults (log 25) with the cause of the end, a line in CLEARING keeping its own, and is IDLE, or UNAVAILABLE
after LINE_NOT_READY. A line without a session is not touched by the first, and one outside CLEARING not by the last two.
SESSION_TIMER_EXPIRY of a timer that has run out while no grace runs: DATA_WAIT is given up with DATA_NOT_READY, and every
other timed state but CLEARING is cleared with TIMEOUT. The clearing timer's expiry has its own row, and the grace's drops
the handings and the unannounced blocks (log 28). GRACE_EXPIRY when the grace has run out drops the waiting messages and ends
the grace and, with no session on any line, changes nothing else; with sessions, every one of them ends, each such line is
UNAVAILABLE with its record's defaults, and no other line is touched; when no line is in DATA_WAIT the cause is LINK_LOST, or
a line's own in CLEARING. Each of these rows ends the session by one procedure, endSession; the grace's ends are composed of
it in the statement on the ends of calls. What it does to an inbound session with no block on its way to the store, for every
cause and every state the line goes to, so for each of these ends: a page still open is first sealed TRUNCATED with the bytes
kept, extended over the blocks present (log 26), its other segments going back to the stack, or freed when there are none; the
document becomes COMPLETE when the cause is NORMAL and the page closed last kept bytes (log 26), and PARTIAL otherwise,
DOC_RECEIVED is posted with its live pages, held mark and desk, and the scheduler has an occasion when a page was sealed or
the line becomes IDLE; a printed document with automatic deletion that is not held and has no print reference is deleted: what
is left of its record is DELETING with the keep flag clear. What a session's end does to its call and its destination is the
statement on the ends of calls. -/
def Obligations.SessionEndsAndTimers : Prop :=
  (∀ (n : Line) (b : Byte) (s : State),
      let l := s.line n
      let own (cause : Cause) : Cause := if l.state = .clearing then l.cause.getD cause else cause
      let ends (c : Instr) (cause : Cause) (st : LineState) : Prop :=
        ∃ u, exec c s = .next u ∧ u = endSession n cause st s
          ∧ u.line n = { LineRec.default with state := st, cause := some cause }
          ∧ u.pending = s.pending ∧ u.phase = s.phase ∧ u.mad = s.mad ∧ u.rxr = s.rxr ∧ u.rgw.state = s.rgw.state
          ∧ u.rgw.copy = s.rgw.copy ∧ u.lne.plan = s.lne.plan ∧ u.lne.timers = s.lne.timers
      (s.hears = true → l.state.inSession = true →
        ends (.remoteClear n b) (own .remoteClear) .idle ∧ ends (.lineNotReady n) (own .lineDisabled) .unavailable)
      ∧ (s.hears = true → l.state.inSession = false → exec (.remoteClear n b) s = .next s)
      ∧ (s.hears = true → l.state = .clearing → ends (.cleared n) (own .normal) .idle)
      ∧ (s.hears = true → l.state ≠ .clearing → l.state ≠ .receiving → exec (.cleared n) s = .next s)
      ∧ (l.state = .clearing → l.timer.isSome → l.remaining = 0 → s.lne.grace = none →
          ends (.clearingTimerExpiry n) (own .normal) .idle)
      ∧ (l.timer = none ∨ l.remaining ≠ 0 ∨ s.lne.grace ≠ none ∨ l.state ≠ .clearing →
          exec (.clearingTimerExpiry n) s = .next s))
  ∧ (∀ (n : Line) (s : State),
      let l := s.line n
      let out := l.timer.isSome = true ∧ l.remaining = 0 ∧ s.lne.grace = none
      let dropped : State := { s with
        lne := { s.lne with grace := none },
        sli := { s.sli with queue := [], txPos := 0, handings := [],
                            outBlocks := s.sli.outBlocks.filter fun e => e.2.announced } }
      (¬out → exec (.sessionTimerExpiry n) s = .next s)
      ∧ (out → l.state = .dataWait ∨ l.state ∈ [.seizing, .dialling, .sending, .partialWait, .pageWait, .answering, .receiving] →
          ∃ u, exec (.sessionTimerExpiry n) s = .next u
            ∧ u = { s with sli := if l.state = .dataWait then (hand n .clear (hand n .abandon s)).sli else (hand n .clear s).sli,
                           lne := { s.lne with lines := u.lne.lines }, dram := u.dram }
            ∧ u.line n = { l with state := .clearing, timer := some .clearing, remaining := 100,
                                  cause := some (if l.state = .dataWait then .dataNotReady else .timeout) }
            ∧ (∀ m, m ≠ n → u.line m = s.line m)
            ∧ unchangedOutside [(s.por (0x80 + 256 * n.val), 256)] s.dram u.dram)
      ∧ (s.lne.grace ≠ some 0 → exec .graceExpiry s = .next s)
      ∧ (s.lne.grace = some 0 →
          exec .graceExpiry s = .next (endAllSessions .linkLost dropped)
          ∧ ((∀ m, (s.line m).state.inSession = false) → endAllSessions .linkLost dropped = dropped)
          ∧ ∀ u, exec .graceExpiry s = .next u → ∀ m,
              ((s.line m).state.inSession = true →
                ∃ c, u.line m = { LineRec.default with state := .unavailable, cause := some c })
              ∧ ((s.line m).state.inSession = false → u.line m = s.line m)))
  ∧ (∀ s : State, s.lne.grace = some 0 → (∀ m, (s.line m).state ≠ .dataWait) →
      ∃ u, exec .graceExpiry s = .next u
        ∧ ∀ m, (s.line m).state.inSession = true →
            u.line m = { LineRec.default with
              state := .unavailable,
              cause := some (if (s.line m).state = .clearing then (s.line m).cause.getD .linkLost else .linkLost) })
  ∧ (∀ (n : Line) (d : Nat) (doc : Doc) (cause : Cause) (dst : LineState) (s : State),
      (s.line n).dir = some .inbound → (s.line n).storing = none → (s.line n).doc = some d → s.doc? d = some doc →
      let u := endSession n cause dst s
      let whole := cause = .normal ∧ (s.line n).kept ≠ 0
      let st : DocState := if whole then .complete else .incomplete
      let told := post .docReceived .document d (if whole then 0 else 1)
        (doc.livePages.length + 256 * (if doc.isHeld then 1 else 0) + 65536 * doc.desk) s
      let deletes := doc.autoDelete = true ∧ doc.isHeld = false ∧ doc.printed = true ∧ doc.printRefs = 0
      let spans := [(s.por (0x80 + 256 * n.val), 256), (s.docAddr d, 512), (s.cfg.evBase + 64 + 16 * s.ceu.evTail, 16),
        (s.cfg.evBase + 4, 4)]
      u.line n = { LineRec.default with state := dst, cause := some cause }
      ∧ (¬deletes →
        ((s.line n).page = none →
          u = { s with lne := { s.lne with lines := u.lne.lines }, ceu := told.ceu, dram := u.dram,
                       dju := { s.dju with docs := u.dju.docs, passDue := s.dju.passDue || decide (dst = .idle) } }
            ∧ (∀ m, m ≠ n → u.line m = s.line m) ∧ u.doc? d = some { doc with state := st }
            ∧ (∀ x, x ≠ d → u.doc? x = s.doc? x) ∧ unchangedOutside spans s.dram u.dram)
        ∧ ∀ p r kept, (s.line n).page = some p → s.page? p = some r → r.doc = d → doc.keep = true →
            (s.line n).KeepsEarly kept → kept ≠ 0 → r.chain.length ≤ segsFor kept → p < 1024 →
            (∀ m, (s.line m).state = .dataWait → (s.line m).doc ≠ some d) →
            u = { s with lne := { s.lne with lines := u.lne.lines }, psm := { s.psm with pages := u.psm.pages },
                         dju := { s.dju with docs := u.dju.docs, passDue := true }, ceu := told.ceu, dram := u.dram }
              ∧ (∀ m, m ≠ n → u.line m = s.line m) ∧ u.doc? d = some { doc with state := st }
              ∧ (∀ x, x ≠ d → u.doc? x = s.doc? x)
              ∧ u.page? p = some { r with truncated := true, state := .damaged, codedLen := kept, lineCount := 0,
                                          check := crc16 (s.streamBytes r.chain 0 kept),
                                          sealedTime := s.chg.seconds }
              ∧ (∀ q, q ≠ p → u.page? q = s.page? q)
              ∧ unchangedOutside ((s.pageAddr p, 64) :: spans) s.dram u.dram)
      ∧ (∀ p r kept, (s.line n).page = some p → s.page? p = some r → r.doc = d → doc.keep = true →
          (s.line n).KeepsEarly kept → p < 1024 → (∀ m, (s.line m).state = .dataWait → (s.line m).doc ≠ some d) →
          ∃ v, u = endSession n cause dst v ∧ ClosedEarly s v n { s.line n with page := none } p kept r)
      ∧ (deletes → (s.line n).page = none → ∀ x, u.doc? d = some x → x.state = .deleting ∧ x.keep = false))

/-- Every end of an outbound session that its line sees through its own rows or through the grace is one procedure, endSession,
with a cause and the state the line goes to: CLEARED and the expired clearing timer in CLEARING and REMOTE_CLEAR leave it IDLE,
LINE_NOT_READY and the grace UNAVAILABLE; outside CLEARING the cause is REMOTE_CLEAR, LINE_DISABLED or LINK_LOST, and in
CLEARING the session's own (R124, R136, R143). GRACE_EXPIRY ends the sessions line by line, lowest first (log 48), each in the
state that the ends before it leave. That procedure, for every cause and every such state, on a line that holds an outbound
session, its destination, job and call record: the line takes the record's defaults (log 25) with the cause, its call record
is gone, and no other line, destination, job, account or call changes. An unanswered call is released: its reservation and log slot come free and an account with an
amount available is armed. After a cause that counts as an attempt the destination waits by the base wait doubled for each
attempt, at most 1800 seconds, with the generator's jitter, while attempts are left; after SEIZE_LOST it is PENDING; with
none left, or after NOT_FAX, it is FAILED, and with a cancel mark or after CANCELLED it is CANCELLED: its send holds then
come off the pages not confirmed, its job counts it and DEST_DONE is posted. At the end of a job's last session the job
ends with its destinations: JOB_DONE is posted with its counts and the document loses a job reference, or, when the job
asks for automatic deletion, is deleted: what is left of its record is DELETING with the keep flag clear (for a document
not DELETING already). An answered call is settled: the log record of the next sequence is written with the charge of the
connected time, LOG_NEAR_FULL and CHARGE_POSTED are posted, the account's spent amount, calls and reservation change,
ACCOUNT_EXHAUSTED is posted when nothing is left, and the destination holds the sequence. A destination that is not SENT
then moves as after an unanswered call (while its document is not being scanned). The record's bytes follow logs 12 and
42. The model's readings and choices: LOG_NEAR_FULL comes before CHARGE_POSTED (log 15), an attempt counts under a cancel
mark (log 23), the next-try time has no bound (log 57), nor has the connected time, which stands mod 2^32 in the log
record (log 59), a SENT destination takes the cause of the end as its last cause (log 49), and one that is not SENT moves
so also when it has confirmed a whole final list (log 62). -/
def Obligations.CallEnds : Prop :=
  (∀ (n : Line) (c : Instr) (cause : Cause) (dst : LineState) (s : State), EndsSession s n c cause dst →
      exec c s = .next (endSession n cause dst s))
  ∧ (∀ (n : Line) (cause : Cause) (s : State), (s.line n).state.inSession = true →
      (∀ m : Line, m.val < n.val → (s.line m).state.inSession = false) →
      let own := if (s.line n).state = .clearing then (s.line n).cause.getD cause else cause
      endAllSessions cause s = endAllSessions cause (endSession n own .unavailable s))
  ∧ (∀ s : State, s.lne.grace = some 0 →
      exec .graceExpiry s = .next (endAllSessions .linkLost (dropMessages { s with lne := { s.lne with grace := none } })))
  ∧ (∀ (n : Line) (cause : Cause) (dst : LineState) (s : State) (k : Nat) (t : Dest) (j : Job) (c : CallRec),
      (s.line n).dir = some .outbound → (s.line n).storing = none → (s.line n).dest = some k →
      (s.line n).job = some t.job → s.dest? k = some t → s.job? t.job = some j → Tab.get? s.chg.calls n.val = some c →
      let u := endSession n cause dst s
      let a := s.account c.account
      let freed := a.reserved - c.reservation
      let covers (x : Account) : Bool := x.state != .unused && x.limit.all fun l => decide (1 ≤ l - x.spent - x.reserved)
      let counts := [Cause.busy, .noAnswer, .remoteClear, .timeout, .repeatLimit, .pageRejected, .linkLost, .dataNotReady,
        .lineDisabled, .notFax].contains cause
      let tries := if counts then t.attempts + 1 else t.attempts
      let spans := [(s.por (0x80 + 256 * n.val), 256), (s.destAddr k, 64), (s.jobAddr t.job, 128),
        (s.por (0x38000 + 64 * c.account), 64)]
      let others (u : State) : Prop := (∀ m, m ≠ n → u.line m = s.line m) ∧ (∀ x, x ≠ k → u.dest? x = s.dest? x)
        ∧ (∀ x, x ≠ t.job → u.job? x = s.job? x) ∧ (∀ x, x ≠ c.account → u.account x = s.account x)
        ∧ (∀ x, x ≠ n.val → Tab.get? u.chg.calls x = Tab.get? s.chg.calls x)
      let ended (u : State) : Prop := u.line n = { LineRec.default with state := dst, cause := some cause }
        ∧ Tab.get? u.chg.calls n.val = none ∧ others u
      let released (u : State) : Prop := u.chg = { s.chg with logReserved := s.chg.logReserved - 1, accounts := u.chg.accounts,
                                                              calls := u.chg.calls }
        ∧ u.account c.account = { a with reserved := freed, armed := a.armed || covers { a with reserved := freed } }
      let lastOne := s.ordered = true ∧ j.sessions ≤ 1 ∧ ∀ x q, s.dest? x = some q → q.job = t.job → x ≠ k → q.isFinal = true
      let closes (u told : State) (q : Job) : Prop := u.job? t.job = none ∧ (∀ x q, s.dest? x = some q → q.job = t.job → u.dest? x = none)
        ∧ u.line n = { LineRec.default with state := dst, cause := some cause } ∧ Tab.get? u.chg.calls n.val = none
        ∧ ∀ d, s.doc? j.doc = some d →
            (j.autoDelete = true → d.state ≠ .deleting → ∀ x, u.doc? j.doc = some x → x.state = .deleting ∧ x.keep = false)
            ∧ (j.autoDelete = false → d.state ≠ .deleting →
              u.ceu = (postTagged .jobDone .job t.job j.tag (if j.state = .cancelled then 2 else 0)
                (q.sent + 256 * q.failed + 65536 * q.cancelled) told).ceu
              ∧ u.doc? j.doc = some { d with jobRefs := d.jobRefs - 1 } ∧ (∀ x, x ≠ j.doc → u.doc? x = s.doc? x)
              ∧ (∀ x, x ≠ t.job → u.job? x = s.job? x) ∧ (∀ m, m ≠ n → u.line m = s.line m)
              ∧ ∀ x q, s.dest? x = some q → q.job ≠ t.job → u.dest? x = some q)
      (c.answered = false → t.state ≠ .sent → t.cancelMark = false →
        (cause = .seizeLost →
          ended u ∧ released u
            ∧ u = { s with lne := { s.lne with lines := u.lne.lines }, chg := u.chg, dram := u.dram,
                           dju := { s.dju with dests := u.dju.dests, jobs := u.dju.jobs, passDue := true } }
            ∧ u.dest? k = some { t with state := .pending, lastCause := some cause }
            ∧ u.job? t.job = some { j with sessions := j.sessions - 1 } ∧ unchangedOutside spans s.dram u.dram)
        ∧ (counts = true → cause ≠ .notFax → tries < s.dju.maxAttempts →
          let gen := (s.dju.gen * 25173 + 13849) % 65536
          let wait := min (s.dju.baseWait * 2 ^ (tries - 1)) 1800 + gen % s.dju.baseWait
          ended u ∧ released u
            ∧ u = { s with lne := { s.lne with lines := u.lne.lines }, chg := u.chg, dram := u.dram,
                           dju := { s.dju with dests := u.dju.dests, jobs := u.dju.jobs, gen := gen, passDue := true } }
            ∧ u.dest? k = some { t with state := .retryWait, attempts := tries, lastCause := some cause,
                                        nextTry := (s.chg.seconds : Int) + wait }
            ∧ u.job? t.job = some { j with sessions := j.sessions - 1 } ∧ unchangedOutside spans s.dram u.dram))
      ∧ (∀ st d, c.answered = false → t.state ≠ .sent → st = (if t.cancelMark ∨ cause = .cancelled then .cancelled else .failed) →
        t.cancelMark = true ∨ cause = .cancelled ∨ cause = .notFax ∨ (counts = true ∧ s.dju.maxAttempts ≤ tries) →
        s.doc? j.doc = some d → d.keep = true → ((d.places.drop t.confirmed).filterMap id).Nodup →
        (∀ p r, some p ∈ d.places.drop t.confirmed → s.page? p = some r → r.doc = j.doc) →
        let counted : Job := { j with sessions := j.sessions - 1,
                                      failed := if st = .failed then j.failed + 1 else j.failed,
                                      cancelled := if st = .failed then j.cancelled else j.cancelled + 1 }
        let told := postTagged .destDone .destination k j.tag (if st = .failed then 1 else 2) t.confirmed s
        (1 < j.sessions →
          ended u ∧ released u
            ∧ u = { s with lne := { s.lne with lines := u.lne.lines }, chg := u.chg, psm := { s.psm with pages := u.psm.pages },
                           dju := { s.dju with dests := u.dju.dests, jobs := u.dju.jobs, passDue := true },
                           ceu := told.ceu, dram := u.dram }
            ∧ u.dest? k = some { t with state := st, attempts := tries, lastCause := some cause, cancelMark := false }
            ∧ u.job? t.job = some counted
            ∧ (∀ p, u.page? p = (s.page? p).map fun r =>
                if some p ∈ d.places.drop t.confirmed then { r with sendHolds := r.sendHolds - 1 } else r)
            ∧ unchangedOutside (spans ++ (s.cfg.evBase + 64 + 16 * s.ceu.evTail, 16) :: (s.cfg.evBase + 4, 4)
                :: ((d.places.drop t.confirmed).filterMap id).map fun p => (s.pageAddr p, 64)) s.dram u.dram)
        ∧ (lastOne → closes u told counted))
      ∧ (∀ t' gen, c.answered = true → s.mapPassed = true → s.ceu.evTail < s.cfg.recCount →
        c.account < 64 → k < 1024 → t.job < 64 →
        (t.state = .sent ∧ gen = s.dju.gen ∧ t' = { t with lastCause := some cause, logSeq := some s.chg.logNext })
          ∨ (t.state ≠ .sent ∧ t.cancelMark = false ∧ counts = true ∧ cause ≠ .notFax ∧ tries < s.dju.maxAttempts
              ∧ gen = (s.dju.gen * 25173 + 13849) % 65536
              ∧ t' = { t with
                  state := .retryWait, attempts := tries, lastCause := some cause, logSeq := some s.chg.logNext,
                  nextTry := (s.chg.seconds : Int)
                    + (min (s.dju.baseWait * 2 ^ (tries - 1)) 1800 + gen % s.dju.baseWait : Nat) }) →
        let seq := s.chg.logNext
        let slot := (s.chg.logOldest + s.chg.logInUse) % 4096
        let rate := c.rate
        let count := min ((c.connected + rate.period - 1) / rate.period) 65535
        let charge := rate.setUp + rate.a1 * min count rate.n1 + rate.a2 * (min count rate.n2 - min count rate.n1)
          + rate.a3 * (count - min count rate.n2)
        let a' : Account := { a with reserved := freed, spent := min (a.spent + charge) 0xFFFFFFFF,
                                     calls := min (a.calls + 1) 0xFFFFFFFF }
        let near := s.chg.nearArmed && decide (3840 ≤ s.chg.logInUse + 1)
        let s1 := if near then post .logNearFull .log s.chg.logOldest 0 (s.chg.logInUse + 1) s else s
        let s2 := post .chargePosted .log slot cause.code seq s1
        let s3 := if a.armed && !covers a' then post .accountExhausted .account c.account 0 a'.spent s2 else s2
        (1 < j.sessions ∨ t.state ≠ .sent →
        ended u
          ∧ u = { s with lne := { s.lne with lines := u.lne.lines }, ceu := s3.ceu, dram := u.dram,
                         dju := { s.dju with dests := u.dju.dests, jobs := u.dju.jobs, gen := gen, passDue := true },
                         chg := { s.chg with accounts := u.chg.accounts, calls := u.chg.calls,
                                             logInUse := s.chg.logInUse + 1, logNext := if seq = 0xFFFFFFFF then 1 else seq + 1,
                                             logReserved := s.chg.logReserved - 1, nearArmed := s.chg.nearArmed && !near } }
          ∧ u.account c.account = { a' with armed := covers a' }
          ∧ u.dest? k = some t'
          ∧ u.job? t.job = some { j with sessions := j.sessions - 1 }
          ∧ Mem.bytes u.dram (s.por (0x39000 + 64 * slot)) 64 = le 4 seq ++ u8 c.account ++ u8 n.val ++ u8 c.job ++ u8 c.destIndex
              ++ u8 c.dial.length ++ u8 c.zone ++ u8 c.band ++ u8 cause.code ++ padTo 12 c.dial ++ le 4 c.answerTime
              ++ le 4 c.connected ++ le 2 count ++ [0, 0] ++ le 4 charge ++ zeros 24
          ∧ Mem.num u.dram (s.por 0x34800) 2 = s.chg.logOldest % 65536
          ∧ unchangedOutside (spans ++ [(s.por (0x39000 + 64 * slot), 64), (s.por 0x34800, 8),
              (s.cfg.evBase + 64, 16 * s.cfg.recCount), (s.cfg.evBase + 4, 4)]) s.dram u.dram)
        ∧ (lastOne → t.state = .sent → closes u s3 j))
      ∧ (c.answered = true → t.state ≠ .sent → s.scn.doc ≠ some j.doc →
        let v := endSession n cause dst
          { s with chg := { s.chg with calls := Tab.set s.chg.calls n.val { c with answered := false } } }
        (∀ x, u.dest? x = (v.dest? x).map fun q => if x = k then { q with logSeq := some s.chg.logNext } else q)
          ∧ u.dju.jobs = v.dju.jobs ∧ u.dju.docs = v.dju.docs ∧ u.dju.gen = v.dju.gen ∧ u.psm = v.psm ∧ u.lne = v.lne
          ∧ u.sli = v.sli))
end

