-- ==== Sys2Proof/Laws/State.lean ====
section
/-! SUPPORT. The fields that each named update of the state leaves as they were: one lemma per field per update, true by
`rfl`, so that no later proof unfolds a record update. -/

namespace Sys2Proof.Machine

@[simp] theorem State.store_pending (s : State) (a : Nat) (bs : List Byte) : (s.store a bs).pending = s.pending := rfl
@[simp] theorem State.store_phase (s : State) (a : Nat) (bs : List Byte) : (s.store a bs).phase = s.phase := rfl
@[simp] theorem State.store_smp (s : State) (a : Nat) (bs : List Byte) : (s.store a bs).smp = s.smp := rfl
@[simp] theorem State.store_rgw (s : State) (a : Nat) (bs : List Byte) : (s.store a bs).rgw = s.rgw := rfl
@[simp] theorem State.store_mad (s : State) (a : Nat) (bs : List Byte) : (s.store a bs).mad = s.mad := rfl
@[simp] theorem State.store_ceu (s : State) (a : Nat) (bs : List Byte) : (s.store a bs).ceu = s.ceu := rfl
@[simp] theorem State.store_scn (s : State) (a : Nat) (bs : List Byte) : (s.store a bs).scn = s.scn := rfl
@[simp] theorem State.store_psm (s : State) (a : Nat) (bs : List Byte) : (s.store a bs).psm = s.psm := rfl
@[simp] theorem State.store_dju (s : State) (a : Nat) (bs : List Byte) : (s.store a bs).dju = s.dju := rfl
@[simp] theorem State.store_sli (s : State) (a : Nat) (bs : List Byte) : (s.store a bs).sli = s.sli := rfl
@[simp] theorem State.store_lne (s : State) (a : Nat) (bs : List Byte) : (s.store a bs).lne = s.lne := rfl
@[simp] theorem State.store_rxr (s : State) (a : Nat) (bs : List Byte) : (s.store a bs).rxr = s.rxr := rfl
@[simp] theorem State.store_prn (s : State) (a : Nat) (bs : List Byte) : (s.store a bs).prn = s.prn := rfl
@[simp] theorem State.store_chg (s : State) (a : Nat) (bs : List Byte) : (s.store a bs).chg = s.chg := rfl

@[simp] theorem State.clear_pending (s : State) (a n : Nat) : (s.clear a n).pending = s.pending := rfl
@[simp] theorem State.clear_phase (s : State) (a n : Nat) : (s.clear a n).phase = s.phase := rfl
@[simp] theorem State.clear_smp (s : State) (a n : Nat) : (s.clear a n).smp = s.smp := rfl
@[simp] theorem State.clear_rgw (s : State) (a n : Nat) : (s.clear a n).rgw = s.rgw := rfl
@[simp] theorem State.clear_mad (s : State) (a n : Nat) : (s.clear a n).mad = s.mad := rfl
@[simp] theorem State.clear_ceu (s : State) (a n : Nat) : (s.clear a n).ceu = s.ceu := rfl
@[simp] theorem State.clear_scn (s : State) (a n : Nat) : (s.clear a n).scn = s.scn := rfl
@[simp] theorem State.clear_psm (s : State) (a n : Nat) : (s.clear a n).psm = s.psm := rfl
@[simp] theorem State.clear_dju (s : State) (a n : Nat) : (s.clear a n).dju = s.dju := rfl
@[simp] theorem State.clear_sli (s : State) (a n : Nat) : (s.clear a n).sli = s.sli := rfl
@[simp] theorem State.clear_lne (s : State) (a n : Nat) : (s.clear a n).lne = s.lne := rfl
@[simp] theorem State.clear_rxr (s : State) (a n : Nat) : (s.clear a n).rxr = s.rxr := rfl
@[simp] theorem State.clear_prn (s : State) (a n : Nat) : (s.clear a n).prn = s.prn := rfl
@[simp] theorem State.clear_chg (s : State) (a n : Nat) : (s.clear a n).chg = s.chg := rfl

@[simp] theorem State.carry_pending (s : State) : s.carry.pending = s.pending := rfl
@[simp] theorem State.carry_phase (s : State) : s.carry.phase = s.phase := rfl
@[simp] theorem State.carry_smp (s : State) : s.carry.smp = s.smp := rfl
@[simp] theorem State.carry_rgw (s : State) : s.carry.rgw = s.rgw := rfl
@[simp] theorem State.carry_mad (s : State) : s.carry.mad = s.mad := rfl
@[simp] theorem State.carry_scn (s : State) : s.carry.scn = s.scn := rfl
@[simp] theorem State.carry_psm (s : State) : s.carry.psm = s.psm := rfl
@[simp] theorem State.carry_dju (s : State) : s.carry.dju = s.dju := rfl
@[simp] theorem State.carry_sli (s : State) : s.carry.sli = s.sli := rfl
@[simp] theorem State.carry_lne (s : State) : s.carry.lne = s.lne := rfl
@[simp] theorem State.carry_rxr (s : State) : s.carry.rxr = s.rxr := rfl
@[simp] theorem State.carry_prn (s : State) : s.carry.prn = s.prn := rfl
@[simp] theorem State.carry_chg (s : State) : s.carry.chg = s.chg := rfl
@[simp] theorem State.carry_dram (s : State) : s.carry.dram = s.dram := rfl

@[simp] theorem occasion_pending (s : State) : (occasion s).pending = s.pending := rfl
@[simp] theorem occasion_phase (s : State) : (occasion s).phase = s.phase := rfl
@[simp] theorem occasion_smp (s : State) : (occasion s).smp = s.smp := rfl
@[simp] theorem occasion_rgw (s : State) : (occasion s).rgw = s.rgw := rfl
@[simp] theorem occasion_mad (s : State) : (occasion s).mad = s.mad := rfl
@[simp] theorem occasion_ceu (s : State) : (occasion s).ceu = s.ceu := rfl
@[simp] theorem occasion_scn (s : State) : (occasion s).scn = s.scn := rfl
@[simp] theorem occasion_psm (s : State) : (occasion s).psm = s.psm := rfl
@[simp] theorem occasion_sli (s : State) : (occasion s).sli = s.sli := rfl
@[simp] theorem occasion_lne (s : State) : (occasion s).lne = s.lne := rfl
@[simp] theorem occasion_rxr (s : State) : (occasion s).rxr = s.rxr := rfl
@[simp] theorem occasion_prn (s : State) : (occasion s).prn = s.prn := rfl
@[simp] theorem occasion_chg (s : State) : (occasion s).chg = s.chg := rfl
@[simp] theorem occasion_dram (s : State) : (occasion s).dram = s.dram := rfl

@[simp] theorem writeStatus_pending (st : Status) (v : Nat) (s : State) : (writeStatus st v s).pending = s.pending := rfl
@[simp] theorem writeStatus_phase (st : Status) (v : Nat) (s : State) : (writeStatus st v s).phase = s.phase := rfl
@[simp] theorem writeStatus_smp (st : Status) (v : Nat) (s : State) : (writeStatus st v s).smp = s.smp := rfl
@[simp] theorem writeStatus_rgw (st : Status) (v : Nat) (s : State) : (writeStatus st v s).rgw = s.rgw := rfl
@[simp] theorem writeStatus_mad (st : Status) (v : Nat) (s : State) : (writeStatus st v s).mad = s.mad := rfl
@[simp] theorem writeStatus_ceu (st : Status) (v : Nat) (s : State) : (writeStatus st v s).ceu = s.ceu := rfl
@[simp] theorem writeStatus_scn (st : Status) (v : Nat) (s : State) : (writeStatus st v s).scn = s.scn := rfl
@[simp] theorem writeStatus_psm (st : Status) (v : Nat) (s : State) : (writeStatus st v s).psm = s.psm := rfl
@[simp] theorem writeStatus_dju (st : Status) (v : Nat) (s : State) : (writeStatus st v s).dju = s.dju := rfl
@[simp] theorem writeStatus_sli (st : Status) (v : Nat) (s : State) : (writeStatus st v s).sli = s.sli := rfl
@[simp] theorem writeStatus_lne (st : Status) (v : Nat) (s : State) : (writeStatus st v s).lne = s.lne := rfl
@[simp] theorem writeStatus_rxr (st : Status) (v : Nat) (s : State) : (writeStatus st v s).rxr = s.rxr := rfl
@[simp] theorem writeStatus_prn (st : Status) (v : Nat) (s : State) : (writeStatus st v s).prn = s.prn := rfl
@[simp] theorem writeStatus_chg (st : Status) (v : Nat) (s : State) : (writeStatus st v s).chg = s.chg := rfl

@[simp] theorem writePathStatus_pending (s : State) : (writePathStatus s).pending = s.pending := rfl
@[simp] theorem writePathStatus_phase (s : State) : (writePathStatus s).phase = s.phase := rfl
@[simp] theorem writePathStatus_smp (s : State) : (writePathStatus s).smp = s.smp := rfl
@[simp] theorem writePathStatus_rgw (s : State) : (writePathStatus s).rgw = s.rgw := rfl
@[simp] theorem writePathStatus_mad (s : State) : (writePathStatus s).mad = s.mad := rfl
@[simp] theorem writePathStatus_ceu (s : State) : (writePathStatus s).ceu = s.ceu := rfl
@[simp] theorem writePathStatus_scn (s : State) : (writePathStatus s).scn = s.scn := rfl
@[simp] theorem writePathStatus_psm (s : State) : (writePathStatus s).psm = s.psm := rfl
@[simp] theorem writePathStatus_dju (s : State) : (writePathStatus s).dju = s.dju := rfl
@[simp] theorem writePathStatus_sli (s : State) : (writePathStatus s).sli = s.sli := rfl
@[simp] theorem writePathStatus_lne (s : State) : (writePathStatus s).lne = s.lne := rfl
@[simp] theorem writePathStatus_rxr (s : State) : (writePathStatus s).rxr = s.rxr := rfl
@[simp] theorem writePathStatus_prn (s : State) : (writePathStatus s).prn = s.prn := rfl
@[simp] theorem writePathStatus_chg (s : State) : (writePathStatus s).chg = s.chg := rfl

@[simp] theorem putPage_pending (p : Nat) (r : PageRec) (s : State) : (putPage p r s).pending = s.pending := rfl
@[simp] theorem putPage_phase (p : Nat) (r : PageRec) (s : State) : (putPage p r s).phase = s.phase := rfl
@[simp] theorem putPage_smp (p : Nat) (r : PageRec) (s : State) : (putPage p r s).smp = s.smp := rfl
@[simp] theorem putPage_rgw (p : Nat) (r : PageRec) (s : State) : (putPage p r s).rgw = s.rgw := rfl
@[simp] theorem putPage_mad (p : Nat) (r : PageRec) (s : State) : (putPage p r s).mad = s.mad := rfl
@[simp] theorem putPage_ceu (p : Nat) (r : PageRec) (s : State) : (putPage p r s).ceu = s.ceu := rfl
@[simp] theorem putPage_scn (p : Nat) (r : PageRec) (s : State) : (putPage p r s).scn = s.scn := rfl
@[simp] theorem putPage_dju (p : Nat) (r : PageRec) (s : State) : (putPage p r s).dju = s.dju := rfl
@[simp] theorem putPage_sli (p : Nat) (r : PageRec) (s : State) : (putPage p r s).sli = s.sli := rfl
@[simp] theorem putPage_lne (p : Nat) (r : PageRec) (s : State) : (putPage p r s).lne = s.lne := rfl
@[simp] theorem putPage_rxr (p : Nat) (r : PageRec) (s : State) : (putPage p r s).rxr = s.rxr := rfl
@[simp] theorem putPage_prn (p : Nat) (r : PageRec) (s : State) : (putPage p r s).prn = s.prn := rfl
@[simp] theorem putPage_chg (p : Nat) (r : PageRec) (s : State) : (putPage p r s).chg = s.chg := rfl

@[simp] theorem clearPage_pending (p : Nat) (s : State) : (clearPage p s).pending = s.pending := rfl
@[simp] theorem clearPage_phase (p : Nat) (s : State) : (clearPage p s).phase = s.phase := rfl
@[simp] theorem clearPage_smp (p : Nat) (s : State) : (clearPage p s).smp = s.smp := rfl
@[simp] theorem clearPage_rgw (p : Nat) (s : State) : (clearPage p s).rgw = s.rgw := rfl
@[simp] theorem clearPage_mad (p : Nat) (s : State) : (clearPage p s).mad = s.mad := rfl
@[simp] theorem clearPage_ceu (p : Nat) (s : State) : (clearPage p s).ceu = s.ceu := rfl
@[simp] theorem clearPage_scn (p : Nat) (s : State) : (clearPage p s).scn = s.scn := rfl
@[simp] theorem clearPage_dju (p : Nat) (s : State) : (clearPage p s).dju = s.dju := rfl
@[simp] theorem clearPage_sli (p : Nat) (s : State) : (clearPage p s).sli = s.sli := rfl
@[simp] theorem clearPage_lne (p : Nat) (s : State) : (clearPage p s).lne = s.lne := rfl
@[simp] theorem clearPage_rxr (p : Nat) (s : State) : (clearPage p s).rxr = s.rxr := rfl
@[simp] theorem clearPage_prn (p : Nat) (s : State) : (clearPage p s).prn = s.prn := rfl
@[simp] theorem clearPage_chg (p : Nat) (s : State) : (clearPage p s).chg = s.chg := rfl

@[simp] theorem putDoc_pending (d : Nat) (r : Doc) (s : State) : (putDoc d r s).pending = s.pending := rfl
@[simp] theorem putDoc_phase (d : Nat) (r : Doc) (s : State) : (putDoc d r s).phase = s.phase := rfl
@[simp] theorem putDoc_smp (d : Nat) (r : Doc) (s : State) : (putDoc d r s).smp = s.smp := rfl
@[simp] theorem putDoc_rgw (d : Nat) (r : Doc) (s : State) : (putDoc d r s).rgw = s.rgw := rfl
@[simp] theorem putDoc_mad (d : Nat) (r : Doc) (s : State) : (putDoc d r s).mad = s.mad := rfl
@[simp] theorem putDoc_ceu (d : Nat) (r : Doc) (s : State) : (putDoc d r s).ceu = s.ceu := rfl
@[simp] theorem putDoc_scn (d : Nat) (r : Doc) (s : State) : (putDoc d r s).scn = s.scn := rfl
@[simp] theorem putDoc_psm (d : Nat) (r : Doc) (s : State) : (putDoc d r s).psm = s.psm := rfl
@[simp] theorem putDoc_sli (d : Nat) (r : Doc) (s : State) : (putDoc d r s).sli = s.sli := rfl
@[simp] theorem putDoc_lne (d : Nat) (r : Doc) (s : State) : (putDoc d r s).lne = s.lne := rfl
@[simp] theorem putDoc_rxr (d : Nat) (r : Doc) (s : State) : (putDoc d r s).rxr = s.rxr := rfl
@[simp] theorem putDoc_prn (d : Nat) (r : Doc) (s : State) : (putDoc d r s).prn = s.prn := rfl
@[simp] theorem putDoc_chg (d : Nat) (r : Doc) (s : State) : (putDoc d r s).chg = s.chg := rfl

@[simp] theorem clearDoc_pending (d : Nat) (s : State) : (clearDoc d s).pending = s.pending := rfl
@[simp] theorem clearDoc_phase (d : Nat) (s : State) : (clearDoc d s).phase = s.phase := rfl
@[simp] theorem clearDoc_smp (d : Nat) (s : State) : (clearDoc d s).smp = s.smp := rfl
@[simp] theorem clearDoc_rgw (d : Nat) (s : State) : (clearDoc d s).rgw = s.rgw := rfl
@[simp] theorem clearDoc_mad (d : Nat) (s : State) : (clearDoc d s).mad = s.mad := rfl
@[simp] theorem clearDoc_ceu (d : Nat) (s : State) : (clearDoc d s).ceu = s.ceu := rfl
@[simp] theorem clearDoc_scn (d : Nat) (s : State) : (clearDoc d s).scn = s.scn := rfl
@[simp] theorem clearDoc_psm (d : Nat) (s : State) : (clearDoc d s).psm = s.psm := rfl
@[simp] theorem clearDoc_sli (d : Nat) (s : State) : (clearDoc d s).sli = s.sli := rfl
@[simp] theorem clearDoc_lne (d : Nat) (s : State) : (clearDoc d s).lne = s.lne := rfl
@[simp] theorem clearDoc_rxr (d : Nat) (s : State) : (clearDoc d s).rxr = s.rxr := rfl
@[simp] theorem clearDoc_prn (d : Nat) (s : State) : (clearDoc d s).prn = s.prn := rfl
@[simp] theorem clearDoc_chg (d : Nat) (s : State) : (clearDoc d s).chg = s.chg := rfl

@[simp] theorem putJob_pending (j : Nat) (r : Job) (s : State) : (putJob j r s).pending = s.pending := rfl
@[simp] theorem putJob_phase (j : Nat) (r : Job) (s : State) : (putJob j r s).phase = s.phase := rfl
@[simp] theorem putJob_smp (j : Nat) (r : Job) (s : State) : (putJob j r s).smp = s.smp := rfl
@[simp] theorem putJob_rgw (j : Nat) (r : Job) (s : State) : (putJob j r s).rgw = s.rgw := rfl
@[simp] theorem putJob_mad (j : Nat) (r : Job) (s : State) : (putJob j r s).mad = s.mad := rfl
@[simp] theorem putJob_ceu (j : Nat) (r : Job) (s : State) : (putJob j r s).ceu = s.ceu := rfl
@[simp] theorem putJob_scn (j : Nat) (r : Job) (s : State) : (putJob j r s).scn = s.scn := rfl
@[simp] theorem putJob_psm (j : Nat) (r : Job) (s : State) : (putJob j r s).psm = s.psm := rfl
@[simp] theorem putJob_sli (j : Nat) (r : Job) (s : State) : (putJob j r s).sli = s.sli := rfl
@[simp] theorem putJob_lne (j : Nat) (r : Job) (s : State) : (putJob j r s).lne = s.lne := rfl
@[simp] theorem putJob_rxr (j : Nat) (r : Job) (s : State) : (putJob j r s).rxr = s.rxr := rfl
@[simp] theorem putJob_prn (j : Nat) (r : Job) (s : State) : (putJob j r s).prn = s.prn := rfl
@[simp] theorem putJob_chg (j : Nat) (r : Job) (s : State) : (putJob j r s).chg = s.chg := rfl

@[simp] theorem clearJob_pending (j : Nat) (s : State) : (clearJob j s).pending = s.pending := rfl
@[simp] theorem clearJob_phase (j : Nat) (s : State) : (clearJob j s).phase = s.phase := rfl
@[simp] theorem clearJob_smp (j : Nat) (s : State) : (clearJob j s).smp = s.smp := rfl
@[simp] theorem clearJob_rgw (j : Nat) (s : State) : (clearJob j s).rgw = s.rgw := rfl
@[simp] theorem clearJob_mad (j : Nat) (s : State) : (clearJob j s).mad = s.mad := rfl
@[simp] theorem clearJob_ceu (j : Nat) (s : State) : (clearJob j s).ceu = s.ceu := rfl
@[simp] theorem clearJob_scn (j : Nat) (s : State) : (clearJob j s).scn = s.scn := rfl
@[simp] theorem clearJob_psm (j : Nat) (s : State) : (clearJob j s).psm = s.psm := rfl
@[simp] theorem clearJob_sli (j : Nat) (s : State) : (clearJob j s).sli = s.sli := rfl
@[simp] theorem clearJob_lne (j : Nat) (s : State) : (clearJob j s).lne = s.lne := rfl
@[simp] theorem clearJob_rxr (j : Nat) (s : State) : (clearJob j s).rxr = s.rxr := rfl
@[simp] theorem clearJob_prn (j : Nat) (s : State) : (clearJob j s).prn = s.prn := rfl
@[simp] theorem clearJob_chg (j : Nat) (s : State) : (clearJob j s).chg = s.chg := rfl

@[simp] theorem putDest_pending (k : Nat) (r : Dest) (s : State) : (putDest k r s).pending = s.pending := rfl
@[simp] theorem putDest_phase (k : Nat) (r : Dest) (s : State) : (putDest k r s).phase = s.phase := rfl
@[simp] theorem putDest_smp (k : Nat) (r : Dest) (s : State) : (putDest k r s).smp = s.smp := rfl
@[simp] theorem putDest_rgw (k : Nat) (r : Dest) (s : State) : (putDest k r s).rgw = s.rgw := rfl
@[simp] theorem putDest_mad (k : Nat) (r : Dest) (s : State) : (putDest k r s).mad = s.mad := rfl
@[simp] theorem putDest_ceu (k : Nat) (r : Dest) (s : State) : (putDest k r s).ceu = s.ceu := rfl
@[simp] theorem putDest_scn (k : Nat) (r : Dest) (s : State) : (putDest k r s).scn = s.scn := rfl
@[simp] theorem putDest_psm (k : Nat) (r : Dest) (s : State) : (putDest k r s).psm = s.psm := rfl
@[simp] theorem putDest_sli (k : Nat) (r : Dest) (s : State) : (putDest k r s).sli = s.sli := rfl
@[simp] theorem putDest_lne (k : Nat) (r : Dest) (s : State) : (putDest k r s).lne = s.lne := rfl
@[simp] theorem putDest_rxr (k : Nat) (r : Dest) (s : State) : (putDest k r s).rxr = s.rxr := rfl
@[simp] theorem putDest_prn (k : Nat) (r : Dest) (s : State) : (putDest k r s).prn = s.prn := rfl
@[simp] theorem putDest_chg (k : Nat) (r : Dest) (s : State) : (putDest k r s).chg = s.chg := rfl

@[simp] theorem clearDest_pending (k : Nat) (s : State) : (clearDest k s).pending = s.pending := rfl
@[simp] theorem clearDest_phase (k : Nat) (s : State) : (clearDest k s).phase = s.phase := rfl
@[simp] theorem clearDest_smp (k : Nat) (s : State) : (clearDest k s).smp = s.smp := rfl
@[simp] theorem clearDest_rgw (k : Nat) (s : State) : (clearDest k s).rgw = s.rgw := rfl
@[simp] theorem clearDest_mad (k : Nat) (s : State) : (clearDest k s).mad = s.mad := rfl
@[simp] theorem clearDest_ceu (k : Nat) (s : State) : (clearDest k s).ceu = s.ceu := rfl
@[simp] theorem clearDest_scn (k : Nat) (s : State) : (clearDest k s).scn = s.scn := rfl
@[simp] theorem clearDest_psm (k : Nat) (s : State) : (clearDest k s).psm = s.psm := rfl
@[simp] theorem clearDest_sli (k : Nat) (s : State) : (clearDest k s).sli = s.sli := rfl
@[simp] theorem clearDest_lne (k : Nat) (s : State) : (clearDest k s).lne = s.lne := rfl
@[simp] theorem clearDest_rxr (k : Nat) (s : State) : (clearDest k s).rxr = s.rxr := rfl
@[simp] theorem clearDest_prn (k : Nat) (s : State) : (clearDest k s).prn = s.prn := rfl
@[simp] theorem clearDest_chg (k : Nat) (s : State) : (clearDest k s).chg = s.chg := rfl

@[simp] theorem putFilter_pending (b : BitVec 256) (s : State) : (putFilter b s).pending = s.pending := rfl
@[simp] theorem putFilter_phase (b : BitVec 256) (s : State) : (putFilter b s).phase = s.phase := rfl
@[simp] theorem putFilter_smp (b : BitVec 256) (s : State) : (putFilter b s).smp = s.smp := rfl
@[simp] theorem putFilter_rgw (b : BitVec 256) (s : State) : (putFilter b s).rgw = s.rgw := rfl
@[simp] theorem putFilter_mad (b : BitVec 256) (s : State) : (putFilter b s).mad = s.mad := rfl
@[simp] theorem putFilter_ceu (b : BitVec 256) (s : State) : (putFilter b s).ceu = s.ceu := rfl
@[simp] theorem putFilter_scn (b : BitVec 256) (s : State) : (putFilter b s).scn = s.scn := rfl
@[simp] theorem putFilter_psm (b : BitVec 256) (s : State) : (putFilter b s).psm = s.psm := rfl
@[simp] theorem putFilter_dju (b : BitVec 256) (s : State) : (putFilter b s).dju = s.dju := rfl
@[simp] theorem putFilter_sli (b : BitVec 256) (s : State) : (putFilter b s).sli = s.sli := rfl
@[simp] theorem putFilter_lne (b : BitVec 256) (s : State) : (putFilter b s).lne = s.lne := rfl
@[simp] theorem putFilter_prn (b : BitVec 256) (s : State) : (putFilter b s).prn = s.prn := rfl
@[simp] theorem putFilter_chg (b : BitVec 256) (s : State) : (putFilter b s).chg = s.chg := rfl

@[simp] theorem putDefaultRoute_pending (r : Route) (s : State) : (putDefaultRoute r s).pending = s.pending := rfl
@[simp] theorem putDefaultRoute_phase (r : Route) (s : State) : (putDefaultRoute r s).phase = s.phase := rfl
@[simp] theorem putDefaultRoute_smp (r : Route) (s : State) : (putDefaultRoute r s).smp = s.smp := rfl
@[simp] theorem putDefaultRoute_rgw (r : Route) (s : State) : (putDefaultRoute r s).rgw = s.rgw := rfl
@[simp] theorem putDefaultRoute_mad (r : Route) (s : State) : (putDefaultRoute r s).mad = s.mad := rfl
@[simp] theorem putDefaultRoute_ceu (r : Route) (s : State) : (putDefaultRoute r s).ceu = s.ceu := rfl
@[simp] theorem putDefaultRoute_scn (r : Route) (s : State) : (putDefaultRoute r s).scn = s.scn := rfl
@[simp] theorem putDefaultRoute_psm (r : Route) (s : State) : (putDefaultRoute r s).psm = s.psm := rfl
@[simp] theorem putDefaultRoute_dju (r : Route) (s : State) : (putDefaultRoute r s).dju = s.dju := rfl
@[simp] theorem putDefaultRoute_sli (r : Route) (s : State) : (putDefaultRoute r s).sli = s.sli := rfl
@[simp] theorem putDefaultRoute_lne (r : Route) (s : State) : (putDefaultRoute r s).lne = s.lne := rfl
@[simp] theorem putDefaultRoute_prn (r : Route) (s : State) : (putDefaultRoute r s).prn = s.prn := rfl
@[simp] theorem putDefaultRoute_chg (r : Route) (s : State) : (putDefaultRoute r s).chg = s.chg := rfl

@[simp] theorem putEntry_pending (e : Nat) (r : PrintEntry) (s : State) : (putEntry e r s).pending = s.pending := rfl
@[simp] theorem putEntry_phase (e : Nat) (r : PrintEntry) (s : State) : (putEntry e r s).phase = s.phase := rfl
@[simp] theorem putEntry_smp (e : Nat) (r : PrintEntry) (s : State) : (putEntry e r s).smp = s.smp := rfl
@[simp] theorem putEntry_rgw (e : Nat) (r : PrintEntry) (s : State) : (putEntry e r s).rgw = s.rgw := rfl
@[simp] theorem putEntry_mad (e : Nat) (r : PrintEntry) (s : State) : (putEntry e r s).mad = s.mad := rfl
@[simp] theorem putEntry_ceu (e : Nat) (r : PrintEntry) (s : State) : (putEntry e r s).ceu = s.ceu := rfl
@[simp] theorem putEntry_scn (e : Nat) (r : PrintEntry) (s : State) : (putEntry e r s).scn = s.scn := rfl
@[simp] theorem putEntry_psm (e : Nat) (r : PrintEntry) (s : State) : (putEntry e r s).psm = s.psm := rfl
@[simp] theorem putEntry_dju (e : Nat) (r : PrintEntry) (s : State) : (putEntry e r s).dju = s.dju := rfl
@[simp] theorem putEntry_sli (e : Nat) (r : PrintEntry) (s : State) : (putEntry e r s).sli = s.sli := rfl
@[simp] theorem putEntry_lne (e : Nat) (r : PrintEntry) (s : State) : (putEntry e r s).lne = s.lne := rfl
@[simp] theorem putEntry_rxr (e : Nat) (r : PrintEntry) (s : State) : (putEntry e r s).rxr = s.rxr := rfl
@[simp] theorem putEntry_chg (e : Nat) (r : PrintEntry) (s : State) : (putEntry e r s).chg = s.chg := rfl

@[simp] theorem clearEntry_pending (e : Nat) (s : State) : (clearEntry e s).pending = s.pending := rfl
@[simp] theorem clearEntry_phase (e : Nat) (s : State) : (clearEntry e s).phase = s.phase := rfl
@[simp] theorem clearEntry_smp (e : Nat) (s : State) : (clearEntry e s).smp = s.smp := rfl
@[simp] theorem clearEntry_rgw (e : Nat) (s : State) : (clearEntry e s).rgw = s.rgw := rfl
@[simp] theorem clearEntry_mad (e : Nat) (s : State) : (clearEntry e s).mad = s.mad := rfl
@[simp] theorem clearEntry_ceu (e : Nat) (s : State) : (clearEntry e s).ceu = s.ceu := rfl
@[simp] theorem clearEntry_scn (e : Nat) (s : State) : (clearEntry e s).scn = s.scn := rfl
@[simp] theorem clearEntry_psm (e : Nat) (s : State) : (clearEntry e s).psm = s.psm := rfl
@[simp] theorem clearEntry_dju (e : Nat) (s : State) : (clearEntry e s).dju = s.dju := rfl
@[simp] theorem clearEntry_sli (e : Nat) (s : State) : (clearEntry e s).sli = s.sli := rfl
@[simp] theorem clearEntry_lne (e : Nat) (s : State) : (clearEntry e s).lne = s.lne := rfl
@[simp] theorem clearEntry_rxr (e : Nat) (s : State) : (clearEntry e s).rxr = s.rxr := rfl
@[simp] theorem clearEntry_chg (e : Nat) (s : State) : (clearEntry e s).chg = s.chg := rfl

@[simp] theorem putBand_pending (h b : Nat) (s : State) : (putBand h b s).pending = s.pending := rfl
@[simp] theorem putBand_phase (h b : Nat) (s : State) : (putBand h b s).phase = s.phase := rfl
@[simp] theorem putBand_smp (h b : Nat) (s : State) : (putBand h b s).smp = s.smp := rfl
@[simp] theorem putBand_rgw (h b : Nat) (s : State) : (putBand h b s).rgw = s.rgw := rfl
@[simp] theorem putBand_mad (h b : Nat) (s : State) : (putBand h b s).mad = s.mad := rfl
@[simp] theorem putBand_ceu (h b : Nat) (s : State) : (putBand h b s).ceu = s.ceu := rfl
@[simp] theorem putBand_scn (h b : Nat) (s : State) : (putBand h b s).scn = s.scn := rfl
@[simp] theorem putBand_psm (h b : Nat) (s : State) : (putBand h b s).psm = s.psm := rfl
@[simp] theorem putBand_dju (h b : Nat) (s : State) : (putBand h b s).dju = s.dju := rfl
@[simp] theorem putBand_sli (h b : Nat) (s : State) : (putBand h b s).sli = s.sli := rfl
@[simp] theorem putBand_lne (h b : Nat) (s : State) : (putBand h b s).lne = s.lne := rfl
@[simp] theorem putBand_rxr (h b : Nat) (s : State) : (putBand h b s).rxr = s.rxr := rfl
@[simp] theorem putBand_prn (h b : Nat) (s : State) : (putBand h b s).prn = s.prn := rfl

@[simp] theorem putRate_pending (i : Nat) (r : Rate) (s : State) : (putRate i r s).pending = s.pending := rfl
@[simp] theorem putRate_phase (i : Nat) (r : Rate) (s : State) : (putRate i r s).phase = s.phase := rfl
@[simp] theorem putRate_smp (i : Nat) (r : Rate) (s : State) : (putRate i r s).smp = s.smp := rfl
@[simp] theorem putRate_rgw (i : Nat) (r : Rate) (s : State) : (putRate i r s).rgw = s.rgw := rfl
@[simp] theorem putRate_mad (i : Nat) (r : Rate) (s : State) : (putRate i r s).mad = s.mad := rfl
@[simp] theorem putRate_ceu (i : Nat) (r : Rate) (s : State) : (putRate i r s).ceu = s.ceu := rfl
@[simp] theorem putRate_scn (i : Nat) (r : Rate) (s : State) : (putRate i r s).scn = s.scn := rfl
@[simp] theorem putRate_psm (i : Nat) (r : Rate) (s : State) : (putRate i r s).psm = s.psm := rfl
@[simp] theorem putRate_dju (i : Nat) (r : Rate) (s : State) : (putRate i r s).dju = s.dju := rfl
@[simp] theorem putRate_sli (i : Nat) (r : Rate) (s : State) : (putRate i r s).sli = s.sli := rfl
@[simp] theorem putRate_lne (i : Nat) (r : Rate) (s : State) : (putRate i r s).lne = s.lne := rfl
@[simp] theorem putRate_rxr (i : Nat) (r : Rate) (s : State) : (putRate i r s).rxr = s.rxr := rfl
@[simp] theorem putRate_prn (i : Nat) (r : Rate) (s : State) : (putRate i r s).prn = s.prn := rfl

@[simp] theorem putAccount_pending (i : Nat) (a : Account) (s : State) : (putAccount i a s).pending = s.pending := rfl
@[simp] theorem putAccount_phase (i : Nat) (a : Account) (s : State) : (putAccount i a s).phase = s.phase := rfl
@[simp] theorem putAccount_smp (i : Nat) (a : Account) (s : State) : (putAccount i a s).smp = s.smp := rfl
@[simp] theorem putAccount_rgw (i : Nat) (a : Account) (s : State) : (putAccount i a s).rgw = s.rgw := rfl
@[simp] theorem putAccount_mad (i : Nat) (a : Account) (s : State) : (putAccount i a s).mad = s.mad := rfl
@[simp] theorem putAccount_ceu (i : Nat) (a : Account) (s : State) : (putAccount i a s).ceu = s.ceu := rfl
@[simp] theorem putAccount_scn (i : Nat) (a : Account) (s : State) : (putAccount i a s).scn = s.scn := rfl
@[simp] theorem putAccount_psm (i : Nat) (a : Account) (s : State) : (putAccount i a s).psm = s.psm := rfl
@[simp] theorem putAccount_dju (i : Nat) (a : Account) (s : State) : (putAccount i a s).dju = s.dju := rfl
@[simp] theorem putAccount_sli (i : Nat) (a : Account) (s : State) : (putAccount i a s).sli = s.sli := rfl
@[simp] theorem putAccount_lne (i : Nat) (a : Account) (s : State) : (putAccount i a s).lne = s.lne := rfl
@[simp] theorem putAccount_rxr (i : Nat) (a : Account) (s : State) : (putAccount i a s).rxr = s.rxr := rfl
@[simp] theorem putAccount_prn (i : Nat) (a : Account) (s : State) : (putAccount i a s).prn = s.prn := rfl

@[simp] theorem putLogState_pending (o u n : Nat) (s : State) : (putLogState o u n s).pending = s.pending := rfl
@[simp] theorem putLogState_phase (o u n : Nat) (s : State) : (putLogState o u n s).phase = s.phase := rfl
@[simp] theorem putLogState_smp (o u n : Nat) (s : State) : (putLogState o u n s).smp = s.smp := rfl
@[simp] theorem putLogState_rgw (o u n : Nat) (s : State) : (putLogState o u n s).rgw = s.rgw := rfl
@[simp] theorem putLogState_mad (o u n : Nat) (s : State) : (putLogState o u n s).mad = s.mad := rfl
@[simp] theorem putLogState_ceu (o u n : Nat) (s : State) : (putLogState o u n s).ceu = s.ceu := rfl
@[simp] theorem putLogState_scn (o u n : Nat) (s : State) : (putLogState o u n s).scn = s.scn := rfl
@[simp] theorem putLogState_psm (o u n : Nat) (s : State) : (putLogState o u n s).psm = s.psm := rfl
@[simp] theorem putLogState_dju (o u n : Nat) (s : State) : (putLogState o u n s).dju = s.dju := rfl
@[simp] theorem putLogState_sli (o u n : Nat) (s : State) : (putLogState o u n s).sli = s.sli := rfl
@[simp] theorem putLogState_lne (o u n : Nat) (s : State) : (putLogState o u n s).lne = s.lne := rfl
@[simp] theorem putLogState_rxr (o u n : Nat) (s : State) : (putLogState o u n s).rxr = s.rxr := rfl
@[simp] theorem putLogState_prn (o u n : Nat) (s : State) : (putLogState o u n s).prn = s.prn := rfl

@[simp] theorem writeTrailer_pending (i n : Nat) (s : State) : (writeTrailer i n s).pending = s.pending := rfl
@[simp] theorem writeTrailer_phase (i n : Nat) (s : State) : (writeTrailer i n s).phase = s.phase := rfl
@[simp] theorem writeTrailer_smp (i n : Nat) (s : State) : (writeTrailer i n s).smp = s.smp := rfl
@[simp] theorem writeTrailer_rgw (i n : Nat) (s : State) : (writeTrailer i n s).rgw = s.rgw := rfl
@[simp] theorem writeTrailer_mad (i n : Nat) (s : State) : (writeTrailer i n s).mad = s.mad := rfl
@[simp] theorem writeTrailer_ceu (i n : Nat) (s : State) : (writeTrailer i n s).ceu = s.ceu := rfl
@[simp] theorem writeTrailer_scn (i n : Nat) (s : State) : (writeTrailer i n s).scn = s.scn := rfl
@[simp] theorem writeTrailer_psm (i n : Nat) (s : State) : (writeTrailer i n s).psm = s.psm := rfl
@[simp] theorem writeTrailer_dju (i n : Nat) (s : State) : (writeTrailer i n s).dju = s.dju := rfl
@[simp] theorem writeTrailer_sli (i n : Nat) (s : State) : (writeTrailer i n s).sli = s.sli := rfl
@[simp] theorem writeTrailer_lne (i n : Nat) (s : State) : (writeTrailer i n s).lne = s.lne := rfl
@[simp] theorem writeTrailer_rxr (i n : Nat) (s : State) : (writeTrailer i n s).rxr = s.rxr := rfl
@[simp] theorem writeTrailer_prn (i n : Nat) (s : State) : (writeTrailer i n s).prn = s.prn := rfl
@[simp] theorem writeTrailer_chg (i n : Nat) (s : State) : (writeTrailer i n s).chg = s.chg := rfl

@[simp] theorem pushSegment_pending (s : State) (seg : Nat) : (pushSegment s seg).pending = s.pending := rfl
@[simp] theorem pushSegment_phase (s : State) (seg : Nat) : (pushSegment s seg).phase = s.phase := rfl
@[simp] theorem pushSegment_smp (s : State) (seg : Nat) : (pushSegment s seg).smp = s.smp := rfl
@[simp] theorem pushSegment_rgw (s : State) (seg : Nat) : (pushSegment s seg).rgw = s.rgw := rfl
@[simp] theorem pushSegment_mad (s : State) (seg : Nat) : (pushSegment s seg).mad = s.mad := rfl
@[simp] theorem pushSegment_ceu (s : State) (seg : Nat) : (pushSegment s seg).ceu = s.ceu := rfl
@[simp] theorem pushSegment_scn (s : State) (seg : Nat) : (pushSegment s seg).scn = s.scn := rfl
@[simp] theorem pushSegment_dju (s : State) (seg : Nat) : (pushSegment s seg).dju = s.dju := rfl
@[simp] theorem pushSegment_sli (s : State) (seg : Nat) : (pushSegment s seg).sli = s.sli := rfl
@[simp] theorem pushSegment_lne (s : State) (seg : Nat) : (pushSegment s seg).lne = s.lne := rfl
@[simp] theorem pushSegment_rxr (s : State) (seg : Nat) : (pushSegment s seg).rxr = s.rxr := rfl
@[simp] theorem pushSegment_prn (s : State) (seg : Nat) : (pushSegment s seg).prn = s.prn := rfl
@[simp] theorem pushSegment_chg (s : State) (seg : Nat) : (pushSegment s seg).chg = s.chg := rfl

@[simp] theorem writeLine_pending (n : Line) (s : State) : (writeLine n s).pending = s.pending := rfl
@[simp] theorem writeLine_phase (n : Line) (s : State) : (writeLine n s).phase = s.phase := rfl
@[simp] theorem writeLine_smp (n : Line) (s : State) : (writeLine n s).smp = s.smp := rfl
@[simp] theorem writeLine_rgw (n : Line) (s : State) : (writeLine n s).rgw = s.rgw := rfl
@[simp] theorem writeLine_mad (n : Line) (s : State) : (writeLine n s).mad = s.mad := rfl
@[simp] theorem writeLine_ceu (n : Line) (s : State) : (writeLine n s).ceu = s.ceu := rfl
@[simp] theorem writeLine_scn (n : Line) (s : State) : (writeLine n s).scn = s.scn := rfl
@[simp] theorem writeLine_psm (n : Line) (s : State) : (writeLine n s).psm = s.psm := rfl
@[simp] theorem writeLine_dju (n : Line) (s : State) : (writeLine n s).dju = s.dju := rfl
@[simp] theorem writeLine_sli (n : Line) (s : State) : (writeLine n s).sli = s.sli := rfl
@[simp] theorem writeLine_lne (n : Line) (s : State) : (writeLine n s).lne = s.lne := rfl
@[simp] theorem writeLine_rxr (n : Line) (s : State) : (writeLine n s).rxr = s.rxr := rfl
@[simp] theorem writeLine_prn (n : Line) (s : State) : (writeLine n s).prn = s.prn := rfl
@[simp] theorem writeLine_chg (n : Line) (s : State) : (writeLine n s).chg = s.chg := rfl

@[simp] theorem setLine_pending (n : Line) (r : LineRec) (s : State) : (setLine n r s).pending = s.pending := rfl
@[simp] theorem setLine_phase (n : Line) (r : LineRec) (s : State) : (setLine n r s).phase = s.phase := rfl
@[simp] theorem setLine_smp (n : Line) (r : LineRec) (s : State) : (setLine n r s).smp = s.smp := rfl
@[simp] theorem setLine_rgw (n : Line) (r : LineRec) (s : State) : (setLine n r s).rgw = s.rgw := rfl
@[simp] theorem setLine_mad (n : Line) (r : LineRec) (s : State) : (setLine n r s).mad = s.mad := rfl
@[simp] theorem setLine_ceu (n : Line) (r : LineRec) (s : State) : (setLine n r s).ceu = s.ceu := rfl
@[simp] theorem setLine_scn (n : Line) (r : LineRec) (s : State) : (setLine n r s).scn = s.scn := rfl
@[simp] theorem setLine_psm (n : Line) (r : LineRec) (s : State) : (setLine n r s).psm = s.psm := rfl
@[simp] theorem setLine_dju (n : Line) (r : LineRec) (s : State) : (setLine n r s).dju = s.dju := rfl
@[simp] theorem setLine_sli (n : Line) (r : LineRec) (s : State) : (setLine n r s).sli = s.sli := rfl
@[simp] theorem setLine_rxr (n : Line) (r : LineRec) (s : State) : (setLine n r s).rxr = s.rxr := rfl
@[simp] theorem setLine_prn (n : Line) (r : LineRec) (s : State) : (setLine n r s).prn = s.prn := rfl
@[simp] theorem setLine_chg (n : Line) (r : LineRec) (s : State) : (setLine n r s).chg = s.chg := rfl
@[simp] theorem setLine_dram (n : Line) (r : LineRec) (s : State) : (setLine n r s).dram = s.dram := rfl

@[simp] theorem setInLine_pending (n : Nat) (r : InLine) (s : State) : (setInLine n r s).pending = s.pending := rfl
@[simp] theorem setInLine_phase (n : Nat) (r : InLine) (s : State) : (setInLine n r s).phase = s.phase := rfl
@[simp] theorem setInLine_smp (n : Nat) (r : InLine) (s : State) : (setInLine n r s).smp = s.smp := rfl
@[simp] theorem setInLine_rgw (n : Nat) (r : InLine) (s : State) : (setInLine n r s).rgw = s.rgw := rfl
@[simp] theorem setInLine_mad (n : Nat) (r : InLine) (s : State) : (setInLine n r s).mad = s.mad := rfl
@[simp] theorem setInLine_ceu (n : Nat) (r : InLine) (s : State) : (setInLine n r s).ceu = s.ceu := rfl
@[simp] theorem setInLine_scn (n : Nat) (r : InLine) (s : State) : (setInLine n r s).scn = s.scn := rfl
@[simp] theorem setInLine_psm (n : Nat) (r : InLine) (s : State) : (setInLine n r s).psm = s.psm := rfl
@[simp] theorem setInLine_dju (n : Nat) (r : InLine) (s : State) : (setInLine n r s).dju = s.dju := rfl
@[simp] theorem setInLine_lne (n : Nat) (r : InLine) (s : State) : (setInLine n r s).lne = s.lne := rfl
@[simp] theorem setInLine_rxr (n : Nat) (r : InLine) (s : State) : (setInLine n r s).rxr = s.rxr := rfl
@[simp] theorem setInLine_prn (n : Nat) (r : InLine) (s : State) : (setInLine n r s).prn = s.prn := rfl
@[simp] theorem setInLine_chg (n : Nat) (r : InLine) (s : State) : (setInLine n r s).chg = s.chg := rfl
@[simp] theorem setInLine_dram (n : Nat) (r : InLine) (s : State) : (setInLine n r s).dram = s.dram := rfl

@[simp] theorem releaseBuffer_pending (n : Nat) (s : State) : (releaseBuffer n s).pending = s.pending := rfl
@[simp] theorem releaseBuffer_phase (n : Nat) (s : State) : (releaseBuffer n s).phase = s.phase := rfl
@[simp] theorem releaseBuffer_smp (n : Nat) (s : State) : (releaseBuffer n s).smp = s.smp := rfl
@[simp] theorem releaseBuffer_rgw (n : Nat) (s : State) : (releaseBuffer n s).rgw = s.rgw := rfl
@[simp] theorem releaseBuffer_mad (n : Nat) (s : State) : (releaseBuffer n s).mad = s.mad := rfl
@[simp] theorem releaseBuffer_ceu (n : Nat) (s : State) : (releaseBuffer n s).ceu = s.ceu := rfl
@[simp] theorem releaseBuffer_scn (n : Nat) (s : State) : (releaseBuffer n s).scn = s.scn := rfl
@[simp] theorem releaseBuffer_psm (n : Nat) (s : State) : (releaseBuffer n s).psm = s.psm := rfl
@[simp] theorem releaseBuffer_dju (n : Nat) (s : State) : (releaseBuffer n s).dju = s.dju := rfl
@[simp] theorem releaseBuffer_lne (n : Nat) (s : State) : (releaseBuffer n s).lne = s.lne := rfl
@[simp] theorem releaseBuffer_rxr (n : Nat) (s : State) : (releaseBuffer n s).rxr = s.rxr := rfl
@[simp] theorem releaseBuffer_prn (n : Nat) (s : State) : (releaseBuffer n s).prn = s.prn := rfl
@[simp] theorem releaseBuffer_chg (n : Nat) (s : State) : (releaseBuffer n s).chg = s.chg := rfl
@[simp] theorem releaseBuffer_dram (n : Nat) (s : State) : (releaseBuffer n s).dram = s.dram := rfl

@[simp] theorem storeAccess_pending (a : BusAccess) (s : State) : (storeAccess a s).pending = s.pending := rfl
@[simp] theorem storeAccess_phase (a : BusAccess) (s : State) : (storeAccess a s).phase = s.phase := rfl
@[simp] theorem storeAccess_smp (a : BusAccess) (s : State) : (storeAccess a s).smp = s.smp := rfl
@[simp] theorem storeAccess_rgw (a : BusAccess) (s : State) : (storeAccess a s).rgw = s.rgw := rfl
@[simp] theorem storeAccess_mad (a : BusAccess) (s : State) : (storeAccess a s).mad = s.mad := rfl
@[simp] theorem storeAccess_ceu (a : BusAccess) (s : State) : (storeAccess a s).ceu = s.ceu := rfl
@[simp] theorem storeAccess_scn (a : BusAccess) (s : State) : (storeAccess a s).scn = s.scn := rfl
@[simp] theorem storeAccess_psm (a : BusAccess) (s : State) : (storeAccess a s).psm = s.psm := rfl
@[simp] theorem storeAccess_dju (a : BusAccess) (s : State) : (storeAccess a s).dju = s.dju := rfl
@[simp] theorem storeAccess_sli (a : BusAccess) (s : State) : (storeAccess a s).sli = s.sli := rfl
@[simp] theorem storeAccess_lne (a : BusAccess) (s : State) : (storeAccess a s).lne = s.lne := rfl
@[simp] theorem storeAccess_rxr (a : BusAccess) (s : State) : (storeAccess a s).rxr = s.rxr := rfl
@[simp] theorem storeAccess_prn (a : BusAccess) (s : State) : (storeAccess a s).prn = s.prn := rfl
@[simp] theorem storeAccess_chg (a : BusAccess) (s : State) : (storeAccess a s).chg = s.chg := rfl

@[simp] theorem testUrgent_pending (s : State) : (testUrgent s).pending = s.pending := rfl
@[simp] theorem testUrgent_phase (s : State) : (testUrgent s).phase = s.phase := rfl
@[simp] theorem testUrgent_smp (s : State) : (testUrgent s).smp = s.smp := rfl
@[simp] theorem testUrgent_rgw (s : State) : (testUrgent s).rgw = s.rgw := rfl
@[simp] theorem testUrgent_ceu (s : State) : (testUrgent s).ceu = s.ceu := rfl
@[simp] theorem testUrgent_scn (s : State) : (testUrgent s).scn = s.scn := rfl
@[simp] theorem testUrgent_psm (s : State) : (testUrgent s).psm = s.psm := rfl
@[simp] theorem testUrgent_dju (s : State) : (testUrgent s).dju = s.dju := rfl
@[simp] theorem testUrgent_sli (s : State) : (testUrgent s).sli = s.sli := rfl
@[simp] theorem testUrgent_lne (s : State) : (testUrgent s).lne = s.lne := rfl
@[simp] theorem testUrgent_rxr (s : State) : (testUrgent s).rxr = s.rxr := rfl
@[simp] theorem testUrgent_prn (s : State) : (testUrgent s).prn = s.prn := rfl
@[simp] theorem testUrgent_chg (s : State) : (testUrgent s).chg = s.chg := rfl
@[simp] theorem testUrgent_dram (s : State) : (testUrgent s).dram = s.dram := rfl

@[simp] theorem writeRecord_pending (e : Event) (s : State) : (writeRecord e s).pending = s.pending := rfl
@[simp] theorem writeRecord_phase (e : Event) (s : State) : (writeRecord e s).phase = s.phase := rfl
@[simp] theorem writeRecord_smp (e : Event) (s : State) : (writeRecord e s).smp = s.smp := rfl
@[simp] theorem writeRecord_rgw (e : Event) (s : State) : (writeRecord e s).rgw = s.rgw := rfl
@[simp] theorem writeRecord_mad (e : Event) (s : State) : (writeRecord e s).mad = s.mad := rfl
@[simp] theorem writeRecord_scn (e : Event) (s : State) : (writeRecord e s).scn = s.scn := rfl
@[simp] theorem writeRecord_psm (e : Event) (s : State) : (writeRecord e s).psm = s.psm := rfl
@[simp] theorem writeRecord_dju (e : Event) (s : State) : (writeRecord e s).dju = s.dju := rfl
@[simp] theorem writeRecord_sli (e : Event) (s : State) : (writeRecord e s).sli = s.sli := rfl
@[simp] theorem writeRecord_lne (e : Event) (s : State) : (writeRecord e s).lne = s.lne := rfl
@[simp] theorem writeRecord_rxr (e : Event) (s : State) : (writeRecord e s).rxr = s.rxr := rfl
@[simp] theorem writeRecord_prn (e : Event) (s : State) : (writeRecord e s).prn = s.prn := rfl
@[simp] theorem writeRecord_chg (e : Event) (s : State) : (writeRecord e s).chg = s.chg := rfl

@[simp] theorem moveRecord_pending (b i l : Nat) (s : State) : (moveRecord b i l s).pending = s.pending := rfl
@[simp] theorem moveRecord_phase (b i l : Nat) (s : State) : (moveRecord b i l s).phase = s.phase := rfl
@[simp] theorem moveRecord_smp (b i l : Nat) (s : State) : (moveRecord b i l s).smp = s.smp := rfl
@[simp] theorem moveRecord_rgw (b i l : Nat) (s : State) : (moveRecord b i l s).rgw = s.rgw := rfl
@[simp] theorem moveRecord_mad (b i l : Nat) (s : State) : (moveRecord b i l s).mad = s.mad := rfl
@[simp] theorem moveRecord_ceu (b i l : Nat) (s : State) : (moveRecord b i l s).ceu = s.ceu := rfl
@[simp] theorem moveRecord_scn (b i l : Nat) (s : State) : (moveRecord b i l s).scn = s.scn := rfl
@[simp] theorem moveRecord_psm (b i l : Nat) (s : State) : (moveRecord b i l s).psm = s.psm := rfl
@[simp] theorem moveRecord_dju (b i l : Nat) (s : State) : (moveRecord b i l s).dju = s.dju := rfl
@[simp] theorem moveRecord_sli (b i l : Nat) (s : State) : (moveRecord b i l s).sli = s.sli := rfl
@[simp] theorem moveRecord_lne (b i l : Nat) (s : State) : (moveRecord b i l s).lne = s.lne := rfl
@[simp] theorem moveRecord_rxr (b i l : Nat) (s : State) : (moveRecord b i l s).rxr = s.rxr := rfl
@[simp] theorem moveRecord_prn (b i l : Nat) (s : State) : (moveRecord b i l s).prn = s.prn := rfl
@[simp] theorem moveRecord_chg (b i l : Nat) (s : State) : (moveRecord b i l s).chg = s.chg := rfl

@[simp] theorem putRoute_pending (i : Nat) (r : Route) (s : State) : (putRoute i r s).pending = s.pending := rfl
@[simp] theorem putRoute_phase (i : Nat) (r : Route) (s : State) : (putRoute i r s).phase = s.phase := rfl
@[simp] theorem putRoute_smp (i : Nat) (r : Route) (s : State) : (putRoute i r s).smp = s.smp := rfl
@[simp] theorem putRoute_rgw (i : Nat) (r : Route) (s : State) : (putRoute i r s).rgw = s.rgw := rfl
@[simp] theorem putRoute_mad (i : Nat) (r : Route) (s : State) : (putRoute i r s).mad = s.mad := rfl
@[simp] theorem putRoute_ceu (i : Nat) (r : Route) (s : State) : (putRoute i r s).ceu = s.ceu := rfl
@[simp] theorem putRoute_scn (i : Nat) (r : Route) (s : State) : (putRoute i r s).scn = s.scn := rfl
@[simp] theorem putRoute_psm (i : Nat) (r : Route) (s : State) : (putRoute i r s).psm = s.psm := rfl
@[simp] theorem putRoute_dju (i : Nat) (r : Route) (s : State) : (putRoute i r s).dju = s.dju := rfl
@[simp] theorem putRoute_sli (i : Nat) (r : Route) (s : State) : (putRoute i r s).sli = s.sli := rfl
@[simp] theorem putRoute_lne (i : Nat) (r : Route) (s : State) : (putRoute i r s).lne = s.lne := rfl
@[simp] theorem putRoute_prn (i : Nat) (r : Route) (s : State) : (putRoute i r s).prn = s.prn := rfl
@[simp] theorem putRoute_chg (i : Nat) (r : Route) (s : State) : (putRoute i r s).chg = s.chg := rfl

@[simp] theorem dropRoute_pending (i : Nat) (s : State) : (dropRoute i s).pending = s.pending := rfl
@[simp] theorem dropRoute_phase (i : Nat) (s : State) : (dropRoute i s).phase = s.phase := rfl
@[simp] theorem dropRoute_smp (i : Nat) (s : State) : (dropRoute i s).smp = s.smp := rfl
@[simp] theorem dropRoute_rgw (i : Nat) (s : State) : (dropRoute i s).rgw = s.rgw := rfl
@[simp] theorem dropRoute_mad (i : Nat) (s : State) : (dropRoute i s).mad = s.mad := rfl
@[simp] theorem dropRoute_ceu (i : Nat) (s : State) : (dropRoute i s).ceu = s.ceu := rfl
@[simp] theorem dropRoute_scn (i : Nat) (s : State) : (dropRoute i s).scn = s.scn := rfl
@[simp] theorem dropRoute_psm (i : Nat) (s : State) : (dropRoute i s).psm = s.psm := rfl
@[simp] theorem dropRoute_dju (i : Nat) (s : State) : (dropRoute i s).dju = s.dju := rfl
@[simp] theorem dropRoute_sli (i : Nat) (s : State) : (dropRoute i s).sli = s.sli := rfl
@[simp] theorem dropRoute_lne (i : Nat) (s : State) : (dropRoute i s).lne = s.lne := rfl
@[simp] theorem dropRoute_prn (i : Nat) (s : State) : (dropRoute i s).prn = s.prn := rfl
@[simp] theorem dropRoute_chg (i : Nat) (s : State) : (dropRoute i s).chg = s.chg := rfl

@[simp] theorem putPrefix_pending (i : Nat) (p : TariffPrefix) (s : State) : (putPrefix i p s).pending = s.pending := rfl
@[simp] theorem putPrefix_phase (i : Nat) (p : TariffPrefix) (s : State) : (putPrefix i p s).phase = s.phase := rfl
@[simp] theorem putPrefix_smp (i : Nat) (p : TariffPrefix) (s : State) : (putPrefix i p s).smp = s.smp := rfl
@[simp] theorem putPrefix_rgw (i : Nat) (p : TariffPrefix) (s : State) : (putPrefix i p s).rgw = s.rgw := rfl
@[simp] theorem putPrefix_mad (i : Nat) (p : TariffPrefix) (s : State) : (putPrefix i p s).mad = s.mad := rfl
@[simp] theorem putPrefix_ceu (i : Nat) (p : TariffPrefix) (s : State) : (putPrefix i p s).ceu = s.ceu := rfl
@[simp] theorem putPrefix_scn (i : Nat) (p : TariffPrefix) (s : State) : (putPrefix i p s).scn = s.scn := rfl
@[simp] theorem putPrefix_psm (i : Nat) (p : TariffPrefix) (s : State) : (putPrefix i p s).psm = s.psm := rfl
@[simp] theorem putPrefix_dju (i : Nat) (p : TariffPrefix) (s : State) : (putPrefix i p s).dju = s.dju := rfl
@[simp] theorem putPrefix_sli (i : Nat) (p : TariffPrefix) (s : State) : (putPrefix i p s).sli = s.sli := rfl
@[simp] theorem putPrefix_lne (i : Nat) (p : TariffPrefix) (s : State) : (putPrefix i p s).lne = s.lne := rfl
@[simp] theorem putPrefix_rxr (i : Nat) (p : TariffPrefix) (s : State) : (putPrefix i p s).rxr = s.rxr := rfl
@[simp] theorem putPrefix_prn (i : Nat) (p : TariffPrefix) (s : State) : (putPrefix i p s).prn = s.prn := rfl

@[simp] theorem dropPrefix_pending (i : Nat) (s : State) : (dropPrefix i s).pending = s.pending := rfl
@[simp] theorem dropPrefix_phase (i : Nat) (s : State) : (dropPrefix i s).phase = s.phase := rfl
@[simp] theorem dropPrefix_smp (i : Nat) (s : State) : (dropPrefix i s).smp = s.smp := rfl
@[simp] theorem dropPrefix_rgw (i : Nat) (s : State) : (dropPrefix i s).rgw = s.rgw := rfl
@[simp] theorem dropPrefix_mad (i : Nat) (s : State) : (dropPrefix i s).mad = s.mad := rfl
@[simp] theorem dropPrefix_ceu (i : Nat) (s : State) : (dropPrefix i s).ceu = s.ceu := rfl
@[simp] theorem dropPrefix_scn (i : Nat) (s : State) : (dropPrefix i s).scn = s.scn := rfl
@[simp] theorem dropPrefix_psm (i : Nat) (s : State) : (dropPrefix i s).psm = s.psm := rfl
@[simp] theorem dropPrefix_dju (i : Nat) (s : State) : (dropPrefix i s).dju = s.dju := rfl
@[simp] theorem dropPrefix_sli (i : Nat) (s : State) : (dropPrefix i s).sli = s.sli := rfl
@[simp] theorem dropPrefix_lne (i : Nat) (s : State) : (dropPrefix i s).lne = s.lne := rfl
@[simp] theorem dropPrefix_rxr (i : Nat) (s : State) : (dropPrefix i s).rxr = s.rxr := rfl
@[simp] theorem dropPrefix_prn (i : Nat) (s : State) : (dropPrefix i s).prn = s.prn := rfl

/-! ## What the updates set -/

@[simp] theorem State.store_dram (s : State) (a : Nat) (bs : List Byte) :
    (s.store a bs).dram = Mem.write s.dram a bs := rfl
@[simp] theorem State.clear_dram (s : State) (a n : Nat) : (s.clear a n).dram = Mem.clear s.dram a n := rfl
@[simp] theorem State.carry_carrying (s : State) : s.carry.ceu.carrying = true := rfl
@[simp] theorem occasion_passDue (s : State) : (occasion s).dju.passDue = true := rfl
@[simp] theorem putPage_pages (p : Nat) (r : PageRec) (s : State) :
    (putPage p r s).psm.pages = Tab.set s.psm.pages p r := rfl
@[simp] theorem putDoc_docs (d : Nat) (r : Doc) (s : State) : (putDoc d r s).dju.docs = Tab.set s.dju.docs d r := rfl
@[simp] theorem putJob_jobs (j : Nat) (r : Job) (s : State) : (putJob j r s).dju.jobs = Tab.set s.dju.jobs j r := rfl
@[simp] theorem putDest_dests (k : Nat) (r : Dest) (s : State) :
    (putDest k r s).dju.dests = Tab.set s.dju.dests k r := rfl
@[simp] theorem putEntry_entries (e : Nat) (r : PrintEntry) (s : State) :
    (putEntry e r s).prn.entries = Tab.set s.prn.entries e r := rfl
@[simp] theorem putAccount_accounts (i : Nat) (a : Account) (s : State) :
    (putAccount i a s).chg.accounts = Tab.set s.chg.accounts i a := rfl
@[simp] theorem putRate_rates (i : Nat) (r : Rate) (s : State) : (putRate i r s).chg.rates = Tab.set s.chg.rates i r := rfl
@[simp] theorem putRoute_rxr (i : Nat) (r : Route) (s : State) :
    (putRoute i r s).rxr = { s.rxr with routes := setRecord i r s.rxr.routes } := rfl
@[simp] theorem dropRoute_rxr (i : Nat) (s : State) :
    (dropRoute i s).rxr = { s.rxr with routes := removeRecord i s.rxr.routes } := rfl
@[simp] theorem putPrefix_chg (i : Nat) (p : TariffPrefix) (s : State) :
    (putPrefix i p s).chg = { s.chg with prefixes := setRecord i p s.chg.prefixes } := rfl
@[simp] theorem dropPrefix_chg (i : Nat) (s : State) :
    (dropPrefix i s).chg = { s.chg with prefixes := removeRecord i s.chg.prefixes } := rfl
@[simp] theorem setLine_lines (n : Line) (r : LineRec) (s : State) :
    (setLine n r s).lne.lines = Tab.set s.lne.lines n.val r := rfl

end Sys2Proof.Machine
end

