-- ==== Sys2Proof/Laws/Table.lean ====
section
/-! SUPPORT. What the sparse tables and DRAM do: reading after writing, what a write leaves alone, and the canonical form of
DRAM, which every memory operation keeps. -/

namespace Sys2Proof.Machine

/-! ## Sparse tables -/

theorem Tab.get?_append {α : Type} (t u : Tab α) (k : Nat) :
    Tab.get? (t ++ u) k = (Tab.get? t k).or (Tab.get? u k) := by
  induction t with
  | nil => simp [Tab.get?]
  | cons e t ih =>
    simp only [List.cons_append, Tab.get?]
    split <;> simp_all

theorem Tab.get?_below {α : Type} (t : Tab α) (b k : Nat) :
    Tab.get? (Tab.below t b) k = if k < b then Tab.get? t k else none := by
  induction t with
  | nil => simp [Tab.below, Tab.get?]
  | cons e t ih =>
    simp only [Tab.below, List.filter_cons] at *
    by_cases h : e.1 < b
    · simp [h, Tab.get?]; split <;> simp_all
    · simp only [h, decide_false, Bool.false_eq_true, if_false, ih, Tab.get?]
      split
      · rw [if_neg (by omega)]
      · rfl

theorem Tab.get?_from {α : Type} (t : Tab α) (b k : Nat) :
    Tab.get? (Tab.from t b) k = if b ≤ k then Tab.get? t k else none := by
  induction t with
  | nil => simp [Tab.from, Tab.get?]
  | cons e t ih =>
    simp only [Tab.from, List.filter_cons] at *
    by_cases h : b ≤ e.1
    · simp [h, Tab.get?]; split <;> simp_all
    · simp only [h, decide_false, Bool.false_eq_true, if_false, ih, Tab.get?]
      split
      · rw [if_neg (by omega)]
      · rfl

/-- Reading record `j` after record `k` is set. -/
theorem Tab.get?_set {α : Type} (t : Tab α) (k j : Nat) (v : α) :
    Tab.get? (Tab.set t k v) j = if j = k then some v else Tab.get? t j := by
  simp only [Tab.set, Tab.get?_append, Tab.get?_below, Tab.get?, Tab.get?_from]
  rcases Nat.lt_trichotomy j k with h | h | h
  · have : j ≠ k := by omega
    have : k ≠ j := by omega
    have : ¬ k + 1 ≤ j := by omega
    simp [*]
  · simp [h]
  · have h1 : j ≠ k := by omega
    have h2 : k ≠ j := by omega
    have h3 : ¬ j < k := by omega
    have h4 : k + 1 ≤ j := by omega
    simp [h1, h2, h3, h4]

@[simp] theorem Tab.get?_set_self {α : Type} (t : Tab α) (k : Nat) (v : α) : Tab.get? (Tab.set t k v) k = some v := by
  simp [Tab.get?_set]

theorem Tab.get?_set_of_ne {α : Type} (t : Tab α) {k j : Nat} (v : α) (h : j ≠ k) :
    Tab.get? (Tab.set t k v) j = Tab.get? t j := by simp [Tab.get?_set, h]

/-- Reading record `j` after record `k` is erased. -/
theorem Tab.get?_erase {α : Type} (t : Tab α) (k j : Nat) :
    Tab.get? (Tab.erase t k) j = if j = k then none else Tab.get? t j := by
  simp only [Tab.erase, Tab.get?_append, Tab.get?_below, Tab.get?_from]
  rcases Nat.lt_trichotomy j k with h | h | h
  · have : j ≠ k := by omega
    have : ¬ k + 1 ≤ j := by omega
    simp [*]
  · simp [h]
  · have h1 : j ≠ k := by omega
    have h3 : ¬ j < k := by omega
    have h4 : k + 1 ≤ j := by omega
    simp [h1, h3, h4]

@[simp] theorem Tab.getD_set_self {α : Type} (t : Tab α) (k : Nat) (v d : α) : Tab.getD (Tab.set t k v) k d = v := by
  simp [Tab.getD]

theorem Tab.getD_set_of_ne {α : Type} (t : Tab α) {k j : Nat} (v d : α) (h : j ≠ k) :
    Tab.getD (Tab.set t k v) j d = Tab.getD t j d := by simp [Tab.getD, Tab.get?_set, h]

/-! ## Reading DRAM -/

/-- Reading a line's inbound block state after setting it. -/
@[simp] theorem inLine_setInLine (n : Nat) (r : InLine) (s : State) : (setInLine n r s).inLine n = r := by
  simp [State.inLine, setInLine]

/-- Setting one line's inbound block state leaves the others'. -/
theorem inLine_setInLine_of_ne {n k : Nat} (r : InLine) (s : State) (h : k ≠ n) : (setInLine n r s).inLine k = s.inLine k := by
  simp [State.inLine, setInLine, Tab.getD_set_of_ne _ _ _ h]

/-- What a release of the inbound buffer does: the line's state becomes NONE, or stays OPEN (R120). -/
@[simp] theorem inLine_releaseBuffer (n : Nat) (s : State) :
    (releaseBuffer n s).inLine n = { s.inLine n with complete := false, occupied := false } := by
  simp [releaseBuffer]

/-- After a release the inbound buffer is free (R120). -/
@[simp] theorem bufferOccupied_releaseBuffer (n : Nat) (s : State) : (releaseBuffer n s).bufferOccupied n = false := by
  simp [State.bufferOccupied]

theorem Mem.get_nil (a : Nat) : Mem.get [] a = 0 := rfl

theorem Mem.get_eq (m : Mem) (a : Nat) : Mem.get m a = (Tab.get? m a).getD 0 := by
  induction m with
  | nil => rfl
  | cons e m ih => simp only [Mem.get, Tab.get?]; split <;> simp_all

theorem Mem.get?_cells (bs : List Byte) (b a : Nat) :
    Tab.get? (Mem.cells b bs) a = if b ≤ a ∧ bs.getD (a - b) 0 ≠ 0 then some (bs.getD (a - b) 0) else none := by
  induction bs generalizing b with
  | nil => simp [Mem.cells, Tab.get?]
  | cons x bs ih =>
    simp only [Mem.cells]
    rcases Nat.lt_trichotomy a b with h | h | h
    · have h1 : ¬ b ≤ a := by omega
      have h2 : ¬ b + 1 ≤ a := by omega
      have h3 : b ≠ a := by omega
      split <;> simp [Tab.get?, ih, h1, h2, h3]
    · subst h
      by_cases hx : x = 0
      · subst hx; simp [ih]
      · rw [if_neg hx, if_pos (by simpa using hx)]; simp [Tab.get?]
    · obtain ⟨k, rfl⟩ : ∃ k, a = b + 1 + k := ⟨a - b - 1, by omega⟩
      have h3 : b ≠ b + 1 + k := by omega
      have h4 : b + 1 + k - b = k + 1 := by omega
      have h5 : b + 1 + k - (b + 1) = k := by omega
      have h6 : b ≤ b + 1 + k := by omega
      split <;> simp [Tab.get?, ih, h3, h4, h5, h6]

/-- Reading a byte of DRAM after a write: the written bytes, and every other byte as before. -/
theorem Mem.get_write (m : Mem) (b : Nat) (bs : List Byte) (a : Nat) :
    Mem.get (Mem.write m b bs) a = if b ≤ a ∧ a < b + bs.length then bs.getD (a - b) 0 else Mem.get m a := by
  have hf := Tab.get?_from m (b + bs.length) a
  have hb := Tab.get?_below m b a
  simp only [Tab.from, Tab.below] at hf hb
  simp only [Mem.get_eq, Mem.write, Tab.get?_append, Mem.get?_cells, hf, hb]
  rcases Nat.lt_or_ge a b with h | h
  · have h1 : ¬ b ≤ a := by omega
    have h2 : ¬ b + bs.length ≤ a := by omega
    simp [h, h1, h2]
  · have h1 : ¬ a < b := by omega
    rcases Nat.lt_or_ge a (b + bs.length) with h2 | h2
    · have h3 : ¬ b + bs.length ≤ a := by omega
      by_cases hz : bs.getD (a - b) 0 = 0
      · simp only [h, h1, h2, h3, hz]; simp
      · rw [if_neg h1, if_pos ⟨h, hz⟩, if_neg h3, if_pos ⟨h, h2⟩]; rfl
    · have h3 : ¬ a < b + bs.length := by omega
      have h4 : bs.length ≤ a - b := by omega
      simp [h, h1, h2, h3, h4]

theorem Mem.get_write_of_lt (m : Mem) {b a : Nat} (bs : List Byte) (h : a < b) :
    Mem.get (Mem.write m b bs) a = Mem.get m a := by
  rw [Mem.get_write, if_neg (by omega)]

theorem Mem.get_write_of_ge (m : Mem) {b a : Nat} (bs : List Byte) (h : b + bs.length ≤ a) :
    Mem.get (Mem.write m b bs) a = Mem.get m a := by
  rw [Mem.get_write, if_neg (by omega)]

/-- Reading a byte of DRAM after a stretch has been made 00h. -/
theorem Mem.get_clear (m : Mem) (b n a : Nat) :
    Mem.get (Mem.clear m b n) a = if b ≤ a ∧ a < b + n then 0 else Mem.get m a := by
  have hf := Tab.get?_from m (b + n) a
  have hb := Tab.get?_below m b a
  simp only [Tab.from, Tab.below] at hf hb
  simp only [Mem.get_eq, Mem.clear, Tab.get?_append, hf, hb]
  rcases Nat.lt_or_ge a b with h | h
  · have h1 : ¬ b ≤ a := by omega
    have h2 : ¬ b + n ≤ a := by omega
    simp [h, h1, h2]
  · have h1 : ¬ a < b := by omega
    rcases Nat.lt_or_ge a (b + n) with h2 | h2
    · have h3 : ¬ b + n ≤ a := by omega
      simp [h, h1, h2, h3]
    · have h3 : ¬ a < b + n := by omega
      simp [h1, h2, h3]

/-- A stretch of DRAM that a write does not reach reads as before. -/
theorem Mem.bytes_write_of_disjoint (m : Mem) (b : Nat) (bs : List Byte) (a n : Nat)
    (h : a + n ≤ b ∨ b + bs.length ≤ a) : Mem.bytes (Mem.write m b bs) a n = Mem.bytes m a n := by
  induction n generalizing a with
  | zero => rfl
  | succ n ih =>
    simp only [Mem.bytes]
    rw [Mem.get_write, if_neg (by omega), ih (a + 1) (by omega)]

/-- What a write puts down is what reading it back gives. -/
theorem Mem.bytes_write_self (m : Mem) (b : Nat) (bs : List Byte) : Mem.bytes (Mem.write m b bs) b bs.length = bs := by
  have key : ∀ n k, k + n = bs.length → Mem.bytes (Mem.write m b bs) (b + k) n = bs.drop k := by
    intro n
    induction n with
    | zero => intro k hk; simp [Mem.bytes, List.drop_eq_nil_of_le (by omega : bs.length ≤ k)]
    | succ n ih =>
      intro k hk
      have hlt : k < bs.length := by omega
      simp only [Mem.bytes]
      rw [Mem.get_write, if_pos (by omega), show b + k + 1 = b + (k + 1) by omega, ih (k + 1) (by omega),
        List.drop_eq_getElem_cons hlt]
      simp [hlt]
  simpa using key bs.length 0 (by omega)

/-! ## Byte order -/

@[simp] theorem le_length (n v : Nat) : (le n v).length = n := by
  induction n generalizing v with
  | zero => rfl
  | succ n ih => simp [le, ih]

/-- The bytes of a number, read back. -/
theorem leNat_le (n v : Nat) : leNat (le n v) = v % 256 ^ n := by
  induction n generalizing v with
  | zero => simp [le, leNat, Nat.mod_one]
  | succ n ih =>
    simp only [le, leNat, ih, BitVec.toNat_ofNat]
    rw [show (2 : Nat) ^ 8 = 256 from rfl, Nat.pow_succ', Nat.mod_mul (a := 256)]

theorem Mem.num_write_self (m : Mem) (b n v : Nat) : Mem.num (Mem.write m b (le n v)) b n = v % 256 ^ n := by
  have h := Mem.bytes_write_self m b (le n v)
  simp only [le_length] at h
  rw [Mem.num, h, leNat_le]

theorem Mem.num_write_of_disjoint (m : Mem) (b : Nat) (bs : List Byte) (a n : Nat)
    (h : a + n ≤ b ∨ b + bs.length ≤ a) : Mem.num (Mem.write m b bs) a n = Mem.num m a n := by
  rw [Mem.num, Mem.num, Mem.bytes_write_of_disjoint m b bs a n h]

/-! ## A record that moves -/

@[simp] theorem Mem.bytes_length (m : Mem) (a n : Nat) : (Mem.bytes m a n).length = n := by
  induction n generalizing a with
  | zero => rfl
  | succ n ih => simp [Mem.bytes, ih]

/-- All that a move of the last record to the place of an earlier one does to DRAM: the earlier place takes the moved record's
bytes as they stand, the last place becomes zeros, and every other byte stays (R147, R178). -/
theorem moveRecord_dram (base : Nat) {i last : Nat} (hi : i < last) (s : State) :
    Mem.bytes (moveRecord base i last s).dram (base + 32 * i) 32 = Mem.bytes s.dram (base + 32 * last) 32
    ∧ Mem.bytes (moveRecord base i last s).dram (base + 32 * last) 32 = zeros 32
    ∧ ∀ a n, (a + n ≤ base + 32 * i ∨ base + 32 * i + 32 ≤ a) → (a + n ≤ base + 32 * last ∨ base + 32 * last + 32 ≤ a) →
        Mem.bytes (moveRecord base i last s).dram a n = Mem.bytes s.dram a n := by
  refine ⟨?_, Mem.bytes_write_self _ _ (zeros 32), fun a n h1 h2 => ?_⟩
  · rw [moveRecord, State.store_dram, Mem.bytes_write_of_disjoint _ _ _ _ _ (by simp [zeros]; omega), State.store_dram]
    simpa using Mem.bytes_write_self s.dram (base + 32 * i) (Mem.bytes s.dram (base + 32 * last) 32)
  · rw [moveRecord, State.store_dram, Mem.bytes_write_of_disjoint _ _ _ _ _ (by simpa [zeros] using h2), State.store_dram,
      Mem.bytes_write_of_disjoint _ _ _ _ _ (by simpa using h1)]

/-! ## The canonical form of DRAM -/

/-- The canonical form, as a property of the list. -/
theorem Mem.wf_iff (m : Mem) : Mem.wf m = true ↔ m.Pairwise (fun c d => c.1 < d.1) ∧ ∀ c ∈ m, c.2 ≠ 0 := by
  induction m with
  | nil => simp [Mem.wf]
  | cons c m ih =>
    cases m with
    | nil => simp [Mem.wf]
    | cons d m =>
      simp only [Mem.wf, Bool.and_eq_true, ih, bne_iff_ne, decide_eq_true_eq]
      constructor
      · rintro ⟨⟨hc, hcd⟩, hp, hz⟩
        refine ⟨List.pairwise_cons.2 ⟨?_, hp⟩, ?_⟩
        · intro x hx
          rcases List.mem_cons.1 hx with rfl | hx
          · exact hcd
          · exact Nat.lt_trans hcd ((List.pairwise_cons.1 hp).1 x hx)
        · intro x hx
          rcases List.mem_cons.1 hx with rfl | hx
          · exact hc
          · exact hz x hx
      · rintro ⟨hp, hz⟩
        have h1 := List.pairwise_cons.1 hp
        exact ⟨⟨hz _ (by simp), h1.1 _ (by simp)⟩, h1.2, fun x hx => hz x (List.mem_cons_of_mem _ hx)⟩

theorem Mem.mem_cells {b : Nat} {bs : List Byte} {c : Host.Cell} (h : c ∈ Mem.cells b bs) :
    b ≤ c.1 ∧ c.1 < b + bs.length ∧ c.2 ≠ 0 := by
  induction bs generalizing b with
  | nil => simp [Mem.cells] at h
  | cons x bs ih =>
    simp only [Mem.cells] at h
    simp only [List.length_cons]
    split at h
    · have := ih h; exact ⟨by omega, by omega, this.2.2⟩
    · rcases List.mem_cons.1 h with rfl | h
      · exact ⟨Nat.le_refl _, by simp, by assumption⟩
      · have := ih h; exact ⟨by omega, by omega, this.2.2⟩

theorem Mem.pairwise_cells (b : Nat) (bs : List Byte) : (Mem.cells b bs).Pairwise fun c d => c.1 < d.1 := by
  induction bs generalizing b with
  | nil => simp [Mem.cells]
  | cons x bs ih =>
    simp only [Mem.cells]
    split
    · exact ih _
    · refine List.pairwise_cons.2 ⟨fun d hd => ?_, ih _⟩
      have := Mem.mem_cells hd
      simp only
      omega

/-- A write keeps the canonical form. -/
theorem Mem.wf_write {m : Mem} (h : Mem.wf m = true) (b : Nat) (bs : List Byte) : Mem.wf (Mem.write m b bs) = true := by
  rw [Mem.wf_iff] at h ⊢
  obtain ⟨hp, hz⟩ := h
  refine ⟨?_, ?_⟩
  · rw [Mem.write, List.pairwise_append, List.pairwise_append]
    refine ⟨⟨hp.sublist List.filter_sublist, Mem.pairwise_cells b bs, ?_⟩, hp.sublist List.filter_sublist, ?_⟩
    · intro c hc d hd
      have := Mem.mem_cells hd
      simp at hc
      omega
    · intro c hc d hd
      simp at hd
      rcases List.mem_append.1 hc with hc | hc
      · simp at hc; omega
      · have := Mem.mem_cells hc; omega
  · intro c hc
    rw [Mem.write] at hc
    rcases List.mem_append.1 hc with hc | hc
    · rcases List.mem_append.1 hc with hc | hc
      · exact hz c (List.mem_of_mem_filter hc)
      · exact (Mem.mem_cells hc).2.2
    · exact hz c (List.mem_of_mem_filter hc)

/-- Making a stretch 00h keeps the canonical form. -/
theorem Mem.wf_clear {m : Mem} (h : Mem.wf m = true) (b n : Nat) : Mem.wf (Mem.clear m b n) = true := by
  rw [Mem.wf_iff] at h ⊢
  obtain ⟨hp, hz⟩ := h
  refine ⟨?_, ?_⟩
  · rw [Mem.clear, List.pairwise_append]
    refine ⟨hp.sublist List.filter_sublist, hp.sublist List.filter_sublist, ?_⟩
    intro c hc d hd
    simp at hc hd
    omega
  · intro c hc
    rw [Mem.clear] at hc
    rcases List.mem_append.1 hc with hc | hc <;> exact hz c (List.mem_of_mem_filter hc)

/-! ## Tables in order -/

theorem Tab.rising_iff {α : Type} (t : Tab α) : Tab.rising t = true ↔ t.Pairwise fun a b => a.1 < b.1 := by
  simp [Tab.rising]

/-- Setting a record keeps a table in order. -/
theorem Tab.rising_set {α : Type} {t : Tab α} (h : Tab.rising t = true) (k : Nat) (v : α) :
    Tab.rising (Tab.set t k v) = true := by
  rw [Tab.rising_iff] at h ⊢
  refine List.pairwise_append.2 ⟨h.filter _, List.pairwise_cons.2 ⟨fun e he => ?_, h.filter _⟩, fun a ha b hb => ?_⟩
  · have := List.of_mem_filter he; simp at this; omega
  · have ha := List.of_mem_filter ha
    simp at ha
    rcases List.mem_cons.1 hb with rfl | hb
    · exact ha
    · have hb := List.of_mem_filter hb; simp at hb; omega

/-- Removing a record keeps a table in order. -/
theorem Tab.rising_erase {α : Type} {t : Tab α} (h : Tab.rising t = true) (k : Nat) : Tab.rising (Tab.erase t k) = true := by
  rw [Tab.rising_iff] at h ⊢
  refine List.pairwise_append.2 ⟨h.filter _, h.filter _, fun a ha b hb => ?_⟩
  have ha := List.of_mem_filter ha
  have hb := List.of_mem_filter hb
  simp at ha hb
  omega

@[simp] theorem Tab.rising_nil {α : Type} : Tab.rising ([] : Tab α) = true := by simp [Tab.rising]

/-- In an ordered table the number of each entry names its record. -/
theorem Tab.get?_of_mem {α : Type} {t : Tab α} (h : Tab.rising t = true) {k : Nat} {v : α} (hm : (k, v) ∈ t) :
    Tab.get? t k = some v := by
  rw [Tab.rising_iff] at h
  induction t with
  | nil => cases hm
  | cons e t ih =>
    rw [List.pairwise_cons] at h
    rcases List.mem_cons.1 hm with rfl | hm
    · simp [Tab.get?]
    · have := h.1 _ hm
      rw [Tab.get?, if_neg (by simp at this; omega)]
      exact ih h.2 hm

/-! ## Bytes outside a span -/

/-- A write changes nothing outside its bytes. -/
theorem unchangedOutside_write (m : Mem) (a : Nat) (bs : List Byte) :
    unchangedOutside [(a, bs.length)] m (Mem.write m a bs) := by
  intro b hb
  have := hb _ (List.mem_singleton_self _)
  simp [within] at this
  by_cases h : b < a
  · exact Mem.get_write_of_lt m bs h
  · exact Mem.get_write_of_ge m bs (this (by omega))

/-- What is unchanged outside some spans is unchanged outside more. -/
theorem unchangedOutside.mono {sp sq : List (Nat × Nat)} {m m' : Mem} (h : unchangedOutside sp m m')
    (hs : ∀ r ∈ sp, ∀ a, within a r.1 r.2 = true → ∃ q ∈ sq, within a q.1 q.2 = true) : unchangedOutside sq m m' := by
  intro a ha
  refine h a fun r hr => ?_
  cases hw : within a r.1 r.2
  · rfl
  · obtain ⟨q, hq, e⟩ := hs r hr a hw
    rw [ha q hq] at e
    cases e

/-- Two changes in turn. -/
theorem unchangedOutside.trans {sp sq : List (Nat × Nat)} {m m' m'' : Mem} (h : unchangedOutside sp m m')
    (h' : unchangedOutside sq m' m'') : unchangedOutside (sp ++ sq) m m'' := fun a ha =>
  (h' a fun r hr => ha r (List.mem_append_right _ hr)).trans (h a fun r hr => ha r (List.mem_append_left _ hr))

/-- Nothing is listed right after power-on. -/
theorem State.reset_dram_wf : Mem.wf State.reset.dram = true := by decide

end Sys2Proof.Machine
end

