-- ==== Sys2Proof/Laws/Keeps.lean ====
section
/-! SUPPORT. What every operation of the model leaves alone: the queue of waiting commands, the canonical form of DRAM and
the order of the tables; and,
but for the few operations whose work it is, the power state with the region map, the time base and the receiver's
synchronisation. One lemma per operation; a claim about every step chains them. -/

set_option linter.unusedTactic false
set_option linter.unreachableTactic false
set_option linter.unusedSimpArgs false

namespace Sys2Proof.Machine

/-- Which of the three kinds of state a relation says are kept. -/
structure Kept where
  map : Bool
  time : Bool
  link : Bool

/-- State `t` keeps of state `s` the queue of commands, the canonical form of DRAM and the kinds of state that `k` names. -/
structure Keeps (k : Kept) (s t : State) : Prop where
  pending : t.pending = s.pending
  map : k.map = true → t.phase = s.phase ∧ t.mad.window = s.mad.window ∧ t.rgw.state = s.rgw.state ∧ t.rgw.copy = s.rgw.copy
    ∧ t.rgw.validating = s.rgw.validating
  time : k.time = true → t.chg.seconds = s.chg.seconds ∧ t.chg.tenths = s.chg.tenths ∧ t.chg.tenthCycles = s.chg.tenthCycles
  link : k.link = true → t.sli.frame = s.sli.frame ∧ t.sli.mf = s.sli.mf ∧ t.sli.rxAlarm = s.sli.rxAlarm
  wf : Mem.wf s.dram = true → Mem.wf t.dram = true
  ord : s.ordered = true → t.ordered = true

theorem Keeps.refl (k : Kept) (s : State) : Keeps k s s :=
  ⟨rfl, fun _ => ⟨rfl, rfl, rfl, rfl, rfl⟩, fun _ => ⟨rfl, rfl, rfl⟩, fun _ => ⟨rfl, rfl, rfl⟩, id, id⟩

variable {k : Kept} {s0 : State}

/-- A record update that leaves DRAM alone. -/
theorem Keeps.upd {s : State} {pending : List Instr} {phase : Phase} {smp : Smp} {rgw : Rgw} {mad : Mad} {ceu : Ceu}
    {scn : Scn} {psm : Psm} {dju : Dju} {sli : Sli} {lne : Lne} {rxr : Rxr} {prn : Prn} {chg : Chg} {dram : Mem}
    (hp : pending = s.pending) (h : Keeps k s0 s)
    (hm : k.map = true → phase = s.phase ∧ mad.window = s.mad.window ∧ rgw.state = s.rgw.state ∧ rgw.copy = s.rgw.copy
      ∧ rgw.validating = s.rgw.validating)
    (ht : k.time = true → chg.seconds = s.chg.seconds ∧ chg.tenths = s.chg.tenths ∧ chg.tenthCycles = s.chg.tenthCycles)
    (hl : k.link = true → sli.frame = s.sli.frame ∧ sli.mf = s.sli.mf ∧ sli.rxAlarm = s.sli.rxAlarm)
    (hd : dram = s.dram)
    (ho : s.ordered = true → (Tab.rising psm.pages && Tab.rising dju.docs && Tab.rising dju.jobs && Tab.rising dju.dests
      && Tab.rising prn.entries) = true) :
    Keeps k s0 ⟨pending, phase, smp, rgw, mad, ceu, scn, psm, dju, sli, lne, rxr, prn, chg, dram⟩ := by
  subst hp hd
  refine ⟨h.pending, fun e => ?_, fun e => ?_, fun e => ?_, h.wf, fun e => ho (h.ord e)⟩
  · have := hm e; have := h.map e; simp_all
  · have := ht e; have := h.time e; simp_all
  · have := hl e; have := h.link e; simp_all

theorem keeps_store {s : State} {a : Nat} {bs : List Byte} (h : Keeps k s0 s) : Keeps k s0 (s.store a bs) :=
  ⟨h.pending, h.map, h.time, h.link, fun e => Mem.wf_write (h.wf e) a bs, h.ord⟩

theorem keeps_clear {s : State} {a n : Nat} (h : Keeps k s0 s) : Keeps k s0 (s.clear a n) :=
  ⟨h.pending, h.map, h.time, h.link, fun e => Mem.wf_clear (h.wf e) a n, h.ord⟩

theorem keeps_carry {s : State} (h : Keeps k s0 s) : Keeps k s0 s.carry :=
  ⟨h.pending, h.map, h.time, h.link, h.wf, h.ord⟩

/-- A fold of an operation that keeps what `k` names. -/
theorem Keeps.foldl {α : Type} {l : List α} {f : State → α → State} {s : State} (h : Keeps k s0 s)
    (hf : ∀ t x, Keeps k s0 t → Keeps k s0 (f t x)) : Keeps k s0 (l.foldl f s) := by
  induction l generalizing s with
  | nil => exact h
  | cons x l ih => exact ih (hf s x h)

theorem keeps_writeStatus {st : Status} {value : Nat} {s : State}
    (h : Keeps k s0 s) : Keeps k s0 (writeStatus st value s) := by
  unfold writeStatus
  repeat' first
    | with_reducible assumption | with_reducible apply keeps_store | split | rfl
    | exact fun _ => ⟨rfl, rfl, rfl, rfl, rfl⟩ | exact fun _ => ⟨rfl, rfl, rfl⟩ | exact id
    | with_reducible apply Keeps.foldl | intro _ | dsimp only | with_reducible apply Keeps.upd

theorem keeps_writeRecord {e : Event} {s : State} (h : Keeps k s0 s) : Keeps k s0 (writeRecord e s) := by
  unfold writeRecord
  extract_lets v1 v2 v3 v4
  have h2 : Keeps k s0 v2 := by
    dsimp only [v2]
    repeat' first
      | with_reducible assumption | with_reducible apply keeps_store | split | rfl
      | exact fun _ => ⟨rfl, rfl, rfl, rfl, rfl⟩ | exact fun _ => ⟨rfl, rfl, rfl⟩ | exact id
      | with_reducible apply Keeps.foldl | intro _ | dsimp only | with_reducible apply Keeps.upd
  try clear_value v2
  have h3 : Keeps k s0 v3 := by
    dsimp only [v3]
    repeat' first
      | with_reducible assumption | with_reducible apply keeps_store | split | rfl
      | exact fun _ => ⟨rfl, rfl, rfl, rfl, rfl⟩ | exact fun _ => ⟨rfl, rfl, rfl⟩ | exact id
      | with_reducible apply Keeps.foldl | intro _ | dsimp only | with_reducible apply Keeps.upd
  try clear_value v3
  repeat' first
    | with_reducible assumption | with_reducible apply keeps_store | split | rfl
    | exact fun _ => ⟨rfl, rfl, rfl, rfl, rfl⟩ | exact fun _ => ⟨rfl, rfl, rfl⟩ | exact id
    | with_reducible apply Keeps.foldl | intro _ | dsimp only | with_reducible apply Keeps.upd

theorem keeps_deliverEvent {e : Event} {s : State} (h : Keeps k s0 s) : Keeps k s0 (deliverEvent e s) := by
  unfold deliverEvent
  extract_lets v1
  repeat' first
    | with_reducible assumption | with_reducible apply keeps_writeRecord | split | rfl
    | exact fun _ => ⟨rfl, rfl, rfl, rfl, rfl⟩ | exact fun _ => ⟨rfl, rfl, rfl⟩ | exact id
    | with_reducible apply Keeps.foldl | intro _ | dsimp only | with_reducible apply Keeps.upd

theorem keeps_postTagged {kind : EventKind} {src : SourceKind} {idx tag code value : Nat} {s : State}
    (h : Keeps k s0 s) : Keeps k s0 (postTagged kind src idx tag code value s) := by
  unfold postTagged
  repeat' first
    | with_reducible assumption | with_reducible apply keeps_deliverEvent | split | rfl
    | exact fun _ => ⟨rfl, rfl, rfl, rfl, rfl⟩ | exact fun _ => ⟨rfl, rfl, rfl⟩ | exact id
    | with_reducible apply Keeps.foldl | intro _ | dsimp only | with_reducible apply Keeps.upd

theorem keeps_post {kind : EventKind} {src : SourceKind} {idx code value : Nat} {s : State}
    (h : Keeps k s0 s) : Keeps k s0 (post kind src idx code value s) := by
  unfold post
  repeat' first
    | with_reducible assumption | with_reducible apply keeps_postTagged | split | rfl
    | exact fun _ => ⟨rfl, rfl, rfl, rfl, rfl⟩ | exact fun _ => ⟨rfl, rfl, rfl⟩ | exact id
    | with_reducible apply Keeps.foldl | intro _ | dsimp only | with_reducible apply Keeps.upd

theorem keeps_drainQueue (es : List Event) {s : State} (h : Keeps k s0 s) : Keeps k s0 (drainQueue es s) := by
  induction es generalizing s with
  | nil =>
    unfold drainQueue
    repeat' first
      | with_reducible assumption | split | rfl | exact fun _ => ⟨rfl, rfl, rfl, rfl, rfl⟩
      | exact fun _ => ⟨rfl, rfl, rfl⟩ | exact id | with_reducible apply Keeps.foldl | intro _ | dsimp only
      | with_reducible apply Keeps.upd
  | cons e es ih =>
    unfold drainQueue
    repeat' first
      | with_reducible assumption | with_reducible apply ih | with_reducible apply keeps_writeRecord | split | rfl
      | exact fun _ => ⟨rfl, rfl, rfl, rfl, rfl⟩ | exact fun _ => ⟨rfl, rfl, rfl⟩ | exact id
      | with_reducible apply Keeps.foldl | intro _ | dsimp only | with_reducible apply Keeps.upd

theorem keeps_placeWithdrawn {s : State} (h : Keeps k s0 s) : Keeps k s0 (placeWithdrawn s) := by
  unfold placeWithdrawn
  extract_lets v1
  repeat' first
    | with_reducible assumption | with_reducible apply keeps_deliverEvent | split | rfl
    | exact fun _ => ⟨rfl, rfl, rfl, rfl, rfl⟩ | exact fun _ => ⟨rfl, rfl, rfl⟩ | exact id
    | with_reducible apply Keeps.foldl | intro _ | dsimp only | with_reducible apply Keeps.upd

theorem keeps_serveQueue {s : State} (h : Keeps k s0 s) : Keeps k s0 (serveQueue s) := by
  unfold serveQueue
  repeat' first
    | with_reducible assumption | with_reducible apply keeps_placeWithdrawn | with_reducible apply keeps_drainQueue
    | split | rfl | exact fun _ => ⟨rfl, rfl, rfl, rfl, rfl⟩ | exact fun _ => ⟨rfl, rfl, rfl⟩ | exact id
    | with_reducible apply Keeps.foldl | intro _ | dsimp only | with_reducible apply Keeps.upd

theorem keeps_finishCommand {tag : Nat} {r : Reply} {s : State}
    (h : Keeps k s0 s) : Keeps k s0 (finishCommand tag r s) := by
  unfold finishCommand
  extract_lets v1 v2 v3 v4 v5 v6
  have h3 : Keeps k s0 v3 := by
    dsimp only [v3]
    repeat' first
      | with_reducible assumption | with_reducible apply keeps_store | with_reducible apply keeps_postTagged | split
      | rfl | exact fun _ => ⟨rfl, rfl, rfl, rfl, rfl⟩ | exact fun _ => ⟨rfl, rfl, rfl⟩ | exact id
      | with_reducible apply Keeps.foldl | intro _ | dsimp only | with_reducible apply Keeps.upd
  try clear_value v3
  have h4 : Keeps k s0 v4 := by
    dsimp only [v4]
    repeat' first
      | with_reducible assumption | with_reducible apply keeps_store | with_reducible apply keeps_postTagged | split
      | rfl | exact fun _ => ⟨rfl, rfl, rfl, rfl, rfl⟩ | exact fun _ => ⟨rfl, rfl, rfl⟩ | exact id
      | with_reducible apply Keeps.foldl | intro _ | dsimp only | with_reducible apply Keeps.upd
  try clear_value v4
  have h5 : Keeps k s0 v5 := by
    dsimp only [v5]
    repeat' first
      | with_reducible assumption | with_reducible apply keeps_store | with_reducible apply keeps_postTagged | split
      | rfl | exact fun _ => ⟨rfl, rfl, rfl, rfl, rfl⟩ | exact fun _ => ⟨rfl, rfl, rfl⟩ | exact id
      | with_reducible apply Keeps.foldl | intro _ | dsimp only | with_reducible apply Keeps.upd
  try clear_value v5
  repeat' first
    | with_reducible assumption | with_reducible apply keeps_store | with_reducible apply keeps_postTagged | split
    | rfl | exact fun _ => ⟨rfl, rfl, rfl, rfl, rfl⟩ | exact fun _ => ⟨rfl, rfl, rfl⟩ | exact id
    | with_reducible apply Keeps.foldl | intro _ | dsimp only | with_reducible apply Keeps.upd

theorem keeps_checkedBody {need : Nat} {sl : Slot} {body : Slot → State → State × Reply} {s : State} (h : Keeps k s0 s)
    (hb : Keeps k s0 (body sl s).1) : Keeps k s0 (checkedBody need sl body s).1 := by
  unfold checkedBody
  repeat' first
    | with_reducible assumption | split | rfl | exact fun _ => ⟨rfl, rfl, rfl, rfl, rfl⟩
    | exact fun _ => ⟨rfl, rfl, rfl⟩ | exact id | with_reducible apply Keeps.foldl | intro _ | dsimp only
    | with_reducible apply Keeps.upd

theorem keeps_carryOut {sl : Slot} {work : State → State × Reply} {s : State} (h : Keeps k s0 s)
    (hw : ∀ t, Keeps k s0 t → Keeps k s0 (work t).1) : Keeps k s0 (carryOut sl work s) := by
  unfold carryOut; exact keeps_finishCommand (hw _ (keeps_carry h))

theorem keeps_takeIf {kind need : Nat} {mine : Slot → Bool} {body : Slot → State → State × Reply} {s : State}
    (h : Keeps k s0 s) (hb : ∀ sl t, Keeps k s0 t → Keeps k s0 (body sl t).1) :
    Keeps k s0 (takeIf kind need mine body s) := by
  unfold takeIf; split
  · exact keeps_carryOut h fun t ht => keeps_checkedBody ht (hb _ t ht)
  · exact h

theorem keeps_take {kind need : Nat} {body : Slot → State → State × Reply} {s : State}
    (h : Keeps k s0 s) (hb : ∀ sl t, Keeps k s0 t → Keeps k s0 (body sl t).1) :
    Keeps k s0 (take kind need body s) := keeps_takeIf h hb

theorem keeps_writePathStatus {s : State} (h : Keeps k s0 s) : Keeps k s0 (writePathStatus s) := by
  unfold writePathStatus
  repeat' first
    | with_reducible assumption | with_reducible apply keeps_store | split | rfl
    | exact fun _ => ⟨rfl, rfl, rfl, rfl, rfl⟩ | exact fun _ => ⟨rfl, rfl, rfl⟩ | exact id
    | with_reducible apply Keeps.foldl | intro _ | dsimp only | with_reducible apply Keeps.upd

theorem keeps_putPage {p : Nat} {r : PageRec} {s : State} (h : Keeps k s0 s) : Keeps k s0 (putPage p r s) := by
  unfold putPage
  extract_lets v1
  repeat' first
    | with_reducible assumption | with_reducible apply keeps_store | split | rfl
    | exact fun _ => ⟨rfl, rfl, rfl, rfl, rfl⟩ | exact fun _ => ⟨rfl, rfl, rfl⟩
    | exact fun e => by (try dsimp only [v1]); simp_all [State.ordered, Tab.rising_set, Tab.rising_erase] | exact id
    | with_reducible apply Keeps.foldl | intro _ | dsimp only | with_reducible apply Keeps.upd

theorem keeps_clearPage {p : Nat} {s : State} (h : Keeps k s0 s) : Keeps k s0 (clearPage p s) := by
  unfold clearPage
  extract_lets v1
  repeat' first
    | with_reducible assumption | with_reducible apply keeps_store | split | rfl
    | exact fun _ => ⟨rfl, rfl, rfl, rfl, rfl⟩ | exact fun _ => ⟨rfl, rfl, rfl⟩
    | exact fun e => by (try dsimp only [v1]); simp_all [State.ordered, Tab.rising_set, Tab.rising_erase] | exact id
    | with_reducible apply Keeps.foldl | intro _ | dsimp only | with_reducible apply Keeps.upd

theorem keeps_modifyPage {p : Nat} {f : PageRec → PageRec} {s : State}
    (h : Keeps k s0 s) : Keeps k s0 (modifyPage p f s) := by
  unfold modifyPage
  repeat' first
    | with_reducible assumption | with_reducible apply keeps_putPage | split | rfl
    | exact fun _ => ⟨rfl, rfl, rfl, rfl, rfl⟩ | exact fun _ => ⟨rfl, rfl, rfl⟩ | exact id
    | with_reducible apply Keeps.foldl | intro _ | dsimp only | with_reducible apply Keeps.upd

theorem keeps_putDoc {d : Nat} {r : Doc} {s : State} (h : Keeps k s0 s) : Keeps k s0 (putDoc d r s) := by
  unfold putDoc
  extract_lets v1
  repeat' first
    | with_reducible assumption | with_reducible apply keeps_store | split | rfl
    | exact fun _ => ⟨rfl, rfl, rfl, rfl, rfl⟩ | exact fun _ => ⟨rfl, rfl, rfl⟩
    | exact fun e => by (try dsimp only [v1]); simp_all [State.ordered, Tab.rising_set, Tab.rising_erase] | exact id
    | with_reducible apply Keeps.foldl | intro _ | dsimp only | with_reducible apply Keeps.upd

theorem keeps_clearDoc {d : Nat} {s : State} (h : Keeps k s0 s) : Keeps k s0 (clearDoc d s) := by
  unfold clearDoc
  extract_lets v1
  repeat' first
    | with_reducible assumption | with_reducible apply keeps_store | split | rfl
    | exact fun _ => ⟨rfl, rfl, rfl, rfl, rfl⟩ | exact fun _ => ⟨rfl, rfl, rfl⟩
    | exact fun e => by (try dsimp only [v1]); simp_all [State.ordered, Tab.rising_set, Tab.rising_erase] | exact id
    | with_reducible apply Keeps.foldl | intro _ | dsimp only | with_reducible apply Keeps.upd

theorem keeps_modifyDoc {d : Nat} {f : Doc → Doc} {s : State} (h : Keeps k s0 s) : Keeps k s0 (modifyDoc d f s) := by
  unfold modifyDoc
  repeat' first
    | with_reducible assumption | with_reducible apply keeps_putDoc | split | rfl
    | exact fun _ => ⟨rfl, rfl, rfl, rfl, rfl⟩ | exact fun _ => ⟨rfl, rfl, rfl⟩ | exact id
    | with_reducible apply Keeps.foldl | intro _ | dsimp only | with_reducible apply Keeps.upd

theorem keeps_putJob {j : Nat} {r : Job} {s : State} (h : Keeps k s0 s) : Keeps k s0 (putJob j r s) := by
  unfold putJob
  extract_lets v1
  repeat' first
    | with_reducible assumption | with_reducible apply keeps_store | split | rfl
    | exact fun _ => ⟨rfl, rfl, rfl, rfl, rfl⟩ | exact fun _ => ⟨rfl, rfl, rfl⟩
    | exact fun e => by (try dsimp only [v1]); simp_all [State.ordered, Tab.rising_set, Tab.rising_erase] | exact id
    | with_reducible apply Keeps.foldl | intro _ | dsimp only | with_reducible apply Keeps.upd

theorem keeps_clearJob {j : Nat} {s : State} (h : Keeps k s0 s) : Keeps k s0 (clearJob j s) := by
  unfold clearJob
  extract_lets v1
  repeat' first
    | with_reducible assumption | with_reducible apply keeps_store | split | rfl
    | exact fun _ => ⟨rfl, rfl, rfl, rfl, rfl⟩ | exact fun _ => ⟨rfl, rfl, rfl⟩
    | exact fun e => by (try dsimp only [v1]); simp_all [State.ordered, Tab.rising_set, Tab.rising_erase] | exact id
    | with_reducible apply Keeps.foldl | intro _ | dsimp only | with_reducible apply Keeps.upd

theorem keeps_modifyJob {j : Nat} {f : Job → Job} {s : State} (h : Keeps k s0 s) : Keeps k s0 (modifyJob j f s) := by
  unfold modifyJob
  repeat' first
    | with_reducible assumption | with_reducible apply keeps_putJob | split | rfl
    | exact fun _ => ⟨rfl, rfl, rfl, rfl, rfl⟩ | exact fun _ => ⟨rfl, rfl, rfl⟩ | exact id
    | with_reducible apply Keeps.foldl | intro _ | dsimp only | with_reducible apply Keeps.upd

theorem keeps_putDest {d : Nat} {r : Dest} {s : State} (h : Keeps k s0 s) : Keeps k s0 (putDest d r s) := by
  unfold putDest
  extract_lets v1
  repeat' first
    | with_reducible assumption | with_reducible apply keeps_store | split | rfl
    | exact fun _ => ⟨rfl, rfl, rfl, rfl, rfl⟩ | exact fun _ => ⟨rfl, rfl, rfl⟩
    | exact fun e => by (try dsimp only [v1]); simp_all [State.ordered, Tab.rising_set, Tab.rising_erase] | exact id
    | with_reducible apply Keeps.foldl | intro _ | dsimp only | with_reducible apply Keeps.upd

theorem keeps_clearDest {d : Nat} {s : State} (h : Keeps k s0 s) : Keeps k s0 (clearDest d s) := by
  unfold clearDest
  extract_lets v1
  repeat' first
    | with_reducible assumption | with_reducible apply keeps_store | split | rfl
    | exact fun _ => ⟨rfl, rfl, rfl, rfl, rfl⟩ | exact fun _ => ⟨rfl, rfl, rfl⟩
    | exact fun e => by (try dsimp only [v1]); simp_all [State.ordered, Tab.rising_set, Tab.rising_erase] | exact id
    | with_reducible apply Keeps.foldl | intro _ | dsimp only | with_reducible apply Keeps.upd

theorem keeps_modifyDest {d : Nat} {f : Dest → Dest} {s : State}
    (h : Keeps k s0 s) : Keeps k s0 (modifyDest d f s) := by
  unfold modifyDest
  repeat' first
    | with_reducible assumption | with_reducible apply keeps_putDest | split | rfl
    | exact fun _ => ⟨rfl, rfl, rfl, rfl, rfl⟩ | exact fun _ => ⟨rfl, rfl, rfl⟩ | exact id
    | with_reducible apply Keeps.foldl | intro _ | dsimp only | with_reducible apply Keeps.upd

theorem keeps_writeLine {n : Line} {s : State} (h : Keeps k s0 s) : Keeps k s0 (writeLine n s) := by
  unfold writeLine
  repeat' first
    | with_reducible assumption | with_reducible apply keeps_store | split | rfl
    | exact fun _ => ⟨rfl, rfl, rfl, rfl, rfl⟩ | exact fun _ => ⟨rfl, rfl, rfl⟩ | exact id
    | with_reducible apply Keeps.foldl | intro _ | dsimp only | with_reducible apply Keeps.upd

theorem keeps_setLine {n : Line} {r : LineRec} {s : State} (h : Keeps k s0 s) : Keeps k s0 (setLine n r s) := by
  unfold setLine
  extract_lets v1
  repeat' first
    | with_reducible assumption | split | rfl | exact fun _ => ⟨rfl, rfl, rfl, rfl, rfl⟩
    | exact fun _ => ⟨rfl, rfl, rfl⟩ | exact id | with_reducible apply Keeps.foldl | intro _ | dsimp only
    | with_reducible apply Keeps.upd

theorem keeps_modifyLine {n : Line} {f : LineRec → LineRec} {s : State}
    (h : Keeps k s0 s) : Keeps k s0 (modifyLine n f s) := by
  unfold modifyLine
  extract_lets v1
  repeat' first
    | with_reducible assumption | with_reducible apply keeps_setLine | with_reducible apply keeps_writeLine | split
    | rfl | exact fun _ => ⟨rfl, rfl, rfl, rfl, rfl⟩ | exact fun _ => ⟨rfl, rfl, rfl⟩ | exact id
    | with_reducible apply Keeps.foldl | intro _ | dsimp only | with_reducible apply Keeps.upd

theorem keeps_writeLinkStatus {s : State} (h : Keeps k s0 s) : Keeps k s0 (writeLinkStatus s) := by
  unfold writeLinkStatus
  repeat' first
    | with_reducible assumption | with_reducible apply keeps_store | split | rfl
    | exact fun _ => ⟨rfl, rfl, rfl, rfl, rfl⟩ | exact fun _ => ⟨rfl, rfl, rfl⟩ | exact id
    | with_reducible apply Keeps.foldl | intro _ | dsimp only | with_reducible apply Keeps.upd

theorem keeps_moveRecord {base i last : Nat} {s : State} (h : Keeps k s0 s) : Keeps k s0 (moveRecord base i last s) := by
  unfold moveRecord
  repeat' first
    | with_reducible assumption | with_reducible apply keeps_store | split | rfl
    | exact fun _ => ⟨rfl, rfl, rfl, rfl, rfl⟩ | exact fun _ => ⟨rfl, rfl, rfl⟩ | exact id
    | with_reducible apply Keeps.foldl | intro _ | dsimp only | with_reducible apply Keeps.upd

theorem keeps_setRoutes {routes : List Route} {s : State} (h : Keeps k s0 s) : Keeps k s0 (setRoutes routes s) := by
  unfold setRoutes
  repeat' first
    | with_reducible assumption | with_reducible apply keeps_store | split | rfl
    | exact fun _ => ⟨rfl, rfl, rfl, rfl, rfl⟩ | exact fun _ => ⟨rfl, rfl, rfl⟩ | exact id
    | with_reducible apply Keeps.foldl | intro _ | dsimp only | with_reducible apply Keeps.upd

theorem keeps_putRoute {i : Nat} {r : Route} {s : State} (h : Keeps k s0 s) : Keeps k s0 (putRoute i r s) := by
  unfold putRoute
  repeat' first
    | with_reducible assumption | with_reducible apply keeps_store | with_reducible apply keeps_setRoutes | split | rfl
    | exact fun _ => ⟨rfl, rfl, rfl, rfl, rfl⟩ | exact fun _ => ⟨rfl, rfl, rfl⟩ | exact id
    | with_reducible apply Keeps.foldl | intro _ | dsimp only | with_reducible apply Keeps.upd

theorem keeps_dropRoute {i : Nat} {s : State} (h : Keeps k s0 s) : Keeps k s0 (dropRoute i s) := by
  unfold dropRoute
  repeat' first
    | with_reducible assumption | with_reducible apply keeps_moveRecord | with_reducible apply keeps_setRoutes | split | rfl
    | exact fun _ => ⟨rfl, rfl, rfl, rfl, rfl⟩ | exact fun _ => ⟨rfl, rfl, rfl⟩ | exact id
    | with_reducible apply Keeps.foldl | intro _ | dsimp only | with_reducible apply Keeps.upd

theorem keeps_putFilter {bins : BitVec 256} {s : State} (h : Keeps k s0 s) : Keeps k s0 (putFilter bins s) := by
  unfold putFilter
  extract_lets v1
  repeat' first
    | with_reducible assumption | with_reducible apply keeps_store | split | rfl
    | exact fun _ => ⟨rfl, rfl, rfl, rfl, rfl⟩ | exact fun _ => ⟨rfl, rfl, rfl⟩ | exact id
    | with_reducible apply Keeps.foldl | intro _ | dsimp only | with_reducible apply Keeps.upd

theorem keeps_putDefaultRoute {r : Route} {s : State} (h : Keeps k s0 s) : Keeps k s0 (putDefaultRoute r s) := by
  unfold putDefaultRoute
  extract_lets v1
  repeat' first
    | with_reducible assumption | with_reducible apply keeps_store | split | rfl
    | exact fun _ => ⟨rfl, rfl, rfl, rfl, rfl⟩ | exact fun _ => ⟨rfl, rfl, rfl⟩ | exact id
    | with_reducible apply Keeps.foldl | intro _ | dsimp only | with_reducible apply Keeps.upd

theorem keeps_putEntry {e : Nat} {r : PrintEntry} {s : State} (h : Keeps k s0 s) : Keeps k s0 (putEntry e r s) := by
  unfold putEntry
  extract_lets v1
  repeat' first
    | with_reducible assumption | with_reducible apply keeps_store | split | rfl
    | exact fun _ => ⟨rfl, rfl, rfl, rfl, rfl⟩ | exact fun _ => ⟨rfl, rfl, rfl⟩
    | exact fun e => by (try dsimp only [v1]); simp_all [State.ordered, Tab.rising_set, Tab.rising_erase] | exact id
    | with_reducible apply Keeps.foldl | intro _ | dsimp only | with_reducible apply Keeps.upd

theorem keeps_clearEntry {e : Nat} {s : State} (h : Keeps k s0 s) : Keeps k s0 (clearEntry e s) := by
  unfold clearEntry
  extract_lets v1
  repeat' first
    | with_reducible assumption | with_reducible apply keeps_store | split | rfl
    | exact fun _ => ⟨rfl, rfl, rfl, rfl, rfl⟩ | exact fun _ => ⟨rfl, rfl, rfl⟩
    | exact fun e => by (try dsimp only [v1]); simp_all [State.ordered, Tab.rising_set, Tab.rising_erase] | exact id
    | with_reducible apply Keeps.foldl | intro _ | dsimp only | with_reducible apply Keeps.upd

theorem keeps_modifyEntry {e : Nat} {f : PrintEntry → PrintEntry} {s : State}
    (h : Keeps k s0 s) : Keeps k s0 (modifyEntry e f s) := by
  unfold modifyEntry
  repeat' first
    | with_reducible assumption | with_reducible apply keeps_putEntry | split | rfl
    | exact fun _ => ⟨rfl, rfl, rfl, rfl, rfl⟩ | exact fun _ => ⟨rfl, rfl, rfl⟩ | exact id
    | with_reducible apply Keeps.foldl | intro _ | dsimp only | with_reducible apply Keeps.upd

theorem keeps_putBand {hr b : Nat} {s : State} (h : Keeps k s0 s) : Keeps k s0 (putBand hr b s) := by
  unfold putBand
  extract_lets v1
  repeat' first
    | with_reducible assumption | with_reducible apply keeps_store | split | rfl
    | exact fun _ => ⟨rfl, rfl, rfl, rfl, rfl⟩ | exact fun _ => ⟨rfl, rfl, rfl⟩ | exact id
    | with_reducible apply Keeps.foldl | intro _ | dsimp only | with_reducible apply Keeps.upd

theorem keeps_setPrefixes {ps : List TariffPrefix} {s : State} (h : Keeps k s0 s) : Keeps k s0 (setPrefixes ps s) := by
  unfold setPrefixes
  repeat' first
    | with_reducible assumption | with_reducible apply keeps_store | split | rfl
    | exact fun _ => ⟨rfl, rfl, rfl, rfl, rfl⟩ | exact fun _ => ⟨rfl, rfl, rfl⟩ | exact id
    | with_reducible apply Keeps.foldl | intro _ | dsimp only | with_reducible apply Keeps.upd

theorem keeps_putPrefix {i : Nat} {p : TariffPrefix} {s : State} (h : Keeps k s0 s) : Keeps k s0 (putPrefix i p s) := by
  unfold putPrefix
  repeat' first
    | with_reducible assumption | with_reducible apply keeps_store | with_reducible apply keeps_setPrefixes | split | rfl
    | exact fun _ => ⟨rfl, rfl, rfl, rfl, rfl⟩ | exact fun _ => ⟨rfl, rfl, rfl⟩ | exact id
    | with_reducible apply Keeps.foldl | intro _ | dsimp only | with_reducible apply Keeps.upd

theorem keeps_dropPrefix {i : Nat} {s : State} (h : Keeps k s0 s) : Keeps k s0 (dropPrefix i s) := by
  unfold dropPrefix
  repeat' first
    | with_reducible assumption | with_reducible apply keeps_moveRecord | with_reducible apply keeps_setPrefixes | split | rfl
    | exact fun _ => ⟨rfl, rfl, rfl, rfl, rfl⟩ | exact fun _ => ⟨rfl, rfl, rfl⟩ | exact id
    | with_reducible apply Keeps.foldl | intro _ | dsimp only | with_reducible apply Keeps.upd

theorem keeps_putRate {i : Nat} {r : Rate} {s : State} (h : Keeps k s0 s) : Keeps k s0 (putRate i r s) := by
  unfold putRate
  extract_lets v1
  repeat' first
    | with_reducible assumption | with_reducible apply keeps_store | split | rfl
    | exact fun _ => ⟨rfl, rfl, rfl, rfl, rfl⟩ | exact fun _ => ⟨rfl, rfl, rfl⟩ | exact id
    | with_reducible apply Keeps.foldl | intro _ | dsimp only | with_reducible apply Keeps.upd

theorem keeps_putAccount {i : Nat} {a : Account} {s : State} (h : Keeps k s0 s) : Keeps k s0 (putAccount i a s) := by
  unfold putAccount
  extract_lets v1
  repeat' first
    | with_reducible assumption | with_reducible apply keeps_store | split | rfl
    | exact fun _ => ⟨rfl, rfl, rfl, rfl, rfl⟩ | exact fun _ => ⟨rfl, rfl, rfl⟩ | exact id
    | with_reducible apply Keeps.foldl | intro _ | dsimp only | with_reducible apply Keeps.upd

theorem keeps_putLogState {oldest inUse next : Nat} {s : State}
    (h : Keeps k s0 s) : Keeps k s0 (putLogState oldest inUse next s) := by
  unfold putLogState
  extract_lets v1
  repeat' first
    | with_reducible assumption | with_reducible apply keeps_store | split | rfl
    | exact fun _ => ⟨rfl, rfl, rfl, rfl, rfl⟩ | exact fun _ => ⟨rfl, rfl, rfl⟩ | exact id
    | with_reducible apply Keeps.foldl | intro _ | dsimp only | with_reducible apply Keeps.upd

theorem keeps_testLowMark {s : State} (h : Keeps k s0 s) : Keeps k s0 (testLowMark s) := by
  unfold testLowMark
  extract_lets v1
  repeat' first
    | with_reducible assumption | with_reducible apply keeps_post | split | rfl
    | exact fun _ => ⟨rfl, rfl, rfl, rfl, rfl⟩ | exact fun _ => ⟨rfl, rfl, rfl⟩ | exact id
    | with_reducible apply Keeps.foldl | intro _ | dsimp only | with_reducible apply Keeps.upd

theorem keeps_freeCountChanged {s : State} (h : Keeps k s0 s) : Keeps k s0 (freeCountChanged s) := by
  unfold freeCountChanged
  repeat' first
    | with_reducible assumption | with_reducible apply keeps_testLowMark | with_reducible apply keeps_writePathStatus
    | split | rfl | exact fun _ => ⟨rfl, rfl, rfl, rfl, rfl⟩ | exact fun _ => ⟨rfl, rfl, rfl⟩ | exact id
    | with_reducible apply Keeps.foldl | intro _ | dsimp only | with_reducible apply Keeps.upd

theorem keeps_writeTrailer {i next : Nat} {s : State} (h : Keeps k s0 s) : Keeps k s0 (writeTrailer i next s) := by
  unfold writeTrailer
  repeat' first
    | with_reducible assumption | with_reducible apply keeps_store | split | rfl
    | exact fun _ => ⟨rfl, rfl, rfl, rfl, rfl⟩ | exact fun _ => ⟨rfl, rfl, rfl⟩ | exact id
    | with_reducible apply Keeps.foldl | intro _ | dsimp only | with_reducible apply Keeps.upd

theorem keeps_giveSegment {p : Nat} {s t : State} (h : Keeps k s0 s) (e : giveSegment p s = some t) : Keeps k s0 t := by
  unfold giveSegment at e
  split at e
  · cases e
    repeat' first
      | with_reducible assumption | with_reducible apply keeps_freeCountChanged | with_reducible apply keeps_putPage
      | with_reducible apply keeps_writeTrailer | split | rfl | exact fun _ => ⟨rfl, rfl, rfl, rfl, rfl⟩
      | exact fun _ => ⟨rfl, rfl, rfl⟩ | exact id | with_reducible apply Keeps.foldl | intro _ | dsimp only
      | with_reducible apply Keeps.upd
  · cases e

theorem keeps_giveSegments (p n : Nat) {s : State} (h : Keeps k s0 s) : Keeps k s0 (giveSegments p n s).1 := by
  induction n generalizing s with
  | zero => exact h
  | succ n ih =>
    unfold giveSegments
    split
    · exact h
    · exact ih (keeps_giveSegment h ‹_›)

theorem keeps_pushSegment {seg : Nat} {s : State} (h : Keeps k s0 s) : Keeps k s0 (pushSegment s seg) := by
  unfold pushSegment
  extract_lets v1 v2
  have h1 : Keeps k s0 v1 := by
    dsimp only [v1]
    repeat' first
      | with_reducible assumption | with_reducible apply keeps_store | split | rfl
      | exact fun _ => ⟨rfl, rfl, rfl, rfl, rfl⟩ | exact fun _ => ⟨rfl, rfl, rfl⟩ | exact id
      | with_reducible apply Keeps.foldl | intro _ | dsimp only | with_reducible apply Keeps.upd
  try clear_value v1
  repeat' first
    | with_reducible assumption | with_reducible apply keeps_store | split | rfl
    | exact fun _ => ⟨rfl, rfl, rfl, rfl, rfl⟩ | exact fun _ => ⟨rfl, rfl, rfl⟩ | exact id
    | with_reducible apply Keeps.foldl | intro _ | dsimp only | with_reducible apply Keeps.upd

theorem keeps_pushSegments {segs : List Nat} {s : State} (h : Keeps k s0 s) : Keeps k s0 (pushSegments segs s) := by
  unfold pushSegments
  repeat' first
    | with_reducible assumption | with_reducible apply keeps_pushSegment | split | rfl
    | exact fun _ => ⟨rfl, rfl, rfl, rfl, rfl⟩ | exact fun _ => ⟨rfl, rfl, rfl⟩ | exact id
    | with_reducible apply Keeps.foldl | intro _ | dsimp only | with_reducible apply Keeps.upd

theorem keeps_writeStretches (segs : List Nat) (o : Nat) (bs : List Byte) {s : State} (h : Keeps k s0 s) :
    Keeps k s0 (writeStretches segs o bs s) := by
  induction segs generalizing o bs s with
  | nil => exact h
  | cons seg segs ih => unfold writeStretches; exact ih _ _ (keeps_store h)

theorem keeps_writeStream {chain : List Nat} {o : Nat} {bs : List Byte} {s : State}
    (h : Keeps k s0 s) : Keeps k s0 (writeStream chain o bs s) := by
  unfold writeStream
  repeat' first
    | with_reducible assumption | with_reducible apply keeps_writeStretches | split | rfl
    | exact fun _ => ⟨rfl, rfl, rfl, rfl, rfl⟩ | exact fun _ => ⟨rfl, rfl, rfl⟩ | exact id
    | with_reducible apply Keeps.foldl | intro _ | dsimp only | with_reducible apply Keeps.upd

theorem keeps_testDocFree {d : Nat} {s : State} (h : Keeps k s0 s) : Keeps k s0 (testDocFree d s) := by
  unfold testDocFree
  repeat' first
    | with_reducible assumption | with_reducible apply keeps_clearDoc | split | rfl
    | exact fun _ => ⟨rfl, rfl, rfl, rfl, rfl⟩ | exact fun _ => ⟨rfl, rfl, rfl⟩ | exact id
    | with_reducible apply Keeps.foldl | intro _ | dsimp only | with_reducible apply Keeps.upd

theorem keeps_leaveFreedPlace {d p : Nat} {s : State} (h : Keeps k s0 s) : Keeps k s0 (leaveFreedPlace d p s) := by
  unfold leaveFreedPlace
  repeat' first
    | with_reducible assumption | with_reducible apply keeps_testDocFree | with_reducible apply keeps_modifyDoc
    | split | rfl | exact fun _ => ⟨rfl, rfl, rfl, rfl, rfl⟩ | exact fun _ => ⟨rfl, rfl, rfl⟩ | exact id
    | with_reducible apply Keeps.foldl | intro _ | dsimp only | with_reducible apply Keeps.upd

theorem keeps_dropLastPlace {d : Nat} {s : State} (h : Keeps k s0 s) : Keeps k s0 (dropLastPlace d s) := by
  unfold dropLastPlace
  repeat' first
    | with_reducible assumption | with_reducible apply keeps_modifyDoc | split | rfl
    | exact fun _ => ⟨rfl, rfl, rfl, rfl, rfl⟩ | exact fun _ => ⟨rfl, rfl, rfl⟩ | exact id
    | with_reducible apply Keeps.foldl | intro _ | dsimp only | with_reducible apply Keeps.upd

theorem keeps_startPage {d : Nat} {dir : Dir} {cls : WidthClass} {res : Resolution} {s : State} {r : Nat × State}
    (h : Keeps k s0 s) (e : startPage d dir cls res s = some r) : Keeps k s0 r.2 := by
  unfold startPage at e
  split at e
  · cases e
    repeat' first
      | with_reducible assumption | with_reducible apply keeps_putDoc | with_reducible apply keeps_writePathStatus
      | with_reducible apply keeps_putPage | split | rfl | exact fun _ => ⟨rfl, rfl, rfl, rfl, rfl⟩
      | exact fun _ => ⟨rfl, rfl, rfl⟩ | exact id | with_reducible apply Keeps.foldl | intro _ | dsimp only
      | with_reducible apply Keeps.upd
  · cases e

theorem keeps_startPage_pair {d p : Nat} {dir : Dir} {cls : WidthClass} {res : Resolution} {s t : State}
    (h : Keeps k s0 s) (e : startPage d dir cls res s = some (p, t)) : Keeps k s0 t := keeps_startPage h e

theorem keeps_releasePage {p : Nat} {r : PageRec} {s : State}
    (h : Keeps k s0 s) : Keeps k s0 (releasePage p r s) := by
  unfold releasePage
  repeat' first
    | with_reducible assumption | with_reducible apply keeps_writePathStatus | with_reducible apply keeps_clearPage
    | with_reducible apply keeps_freeCountChanged | with_reducible apply keeps_pushSegments | split | rfl
    | exact fun _ => ⟨rfl, rfl, rfl, rfl, rfl⟩ | exact fun _ => ⟨rfl, rfl, rfl⟩ | exact id
    | with_reducible apply Keeps.foldl | intro _ | dsimp only | with_reducible apply Keeps.upd

theorem keeps_testPageFree {p : Nat} {s : State} (h : Keeps k s0 s) : Keeps k s0 (testPageFree p s) := by
  unfold testPageFree
  repeat' first
    | with_reducible assumption | with_reducible apply keeps_leaveFreedPlace | with_reducible apply keeps_releasePage
    | split | rfl | exact fun _ => ⟨rfl, rfl, rfl, rfl, rfl⟩ | exact fun _ => ⟨rfl, rfl, rfl⟩ | exact id
    | with_reducible apply Keeps.foldl | intro _ | dsimp only | with_reducible apply Keeps.upd

theorem keeps_changeSendHolds {p : Nat} {delta : Int} {s : State}
    (h : Keeps k s0 s) : Keeps k s0 (changeSendHolds p delta s) := by
  unfold changeSendHolds
  repeat' first
    | with_reducible assumption | with_reducible apply keeps_putPage | with_reducible apply keeps_testPageFree | split
    | rfl | exact fun _ => ⟨rfl, rfl, rfl, rfl, rfl⟩ | exact fun _ => ⟨rfl, rfl, rfl⟩ | exact id
    | with_reducible apply Keeps.foldl | intro _ | dsimp only | with_reducible apply Keeps.upd

theorem keeps_changePrintHolds {p : Nat} {delta : Int} {s : State}
    (h : Keeps k s0 s) : Keeps k s0 (changePrintHolds p delta s) := by
  unfold changePrintHolds
  repeat' first
    | with_reducible assumption | with_reducible apply keeps_putPage | with_reducible apply keeps_testPageFree | split
    | rfl | exact fun _ => ⟨rfl, rfl, rfl, rfl, rfl⟩ | exact fun _ => ⟨rfl, rfl, rfl⟩ | exact id
    | with_reducible apply Keeps.foldl | intro _ | dsimp only | with_reducible apply Keeps.upd

theorem keeps_markTruncated {p : Nat} {s : State} (h : Keeps k s0 s) : Keeps k s0 (markTruncated p s) := by
  unfold markTruncated
  repeat' first
    | with_reducible assumption | with_reducible apply keeps_modifyPage | split | rfl
    | exact fun _ => ⟨rfl, rfl, rfl, rfl, rfl⟩ | exact fun _ => ⟨rfl, rfl, rfl⟩ | exact id
    | with_reducible apply Keeps.foldl | intro _ | dsimp only | with_reducible apply Keeps.upd

theorem keeps_abandonPage {p : Nat} {s : State} (h : Keeps k s0 s) : Keeps k s0 (abandonPage p s) := by
  unfold abandonPage
  repeat' first
    | with_reducible assumption | with_reducible apply keeps_dropLastPlace | with_reducible apply keeps_releasePage
    | split | rfl | exact fun _ => ⟨rfl, rfl, rfl, rfl, rfl⟩ | exact fun _ => ⟨rfl, rfl, rfl⟩ | exact id
    | with_reducible apply Keeps.foldl | intro _ | dsimp only | with_reducible apply Keeps.upd

theorem keeps_trimPage {p lc : Nat} {s : State} (h : Keeps k s0 s) : Keeps k s0 (trimPage p lc s) := by
  unfold trimPage
  repeat' first
    | with_reducible assumption | with_reducible apply keeps_pushSegments | with_reducible apply keeps_writeTrailer
    | with_reducible apply keeps_freeCountChanged | with_reducible apply keeps_putPage | split | rfl
    | exact fun _ => ⟨rfl, rfl, rfl, rfl, rfl⟩ | exact fun _ => ⟨rfl, rfl, rfl⟩ | exact id
    | with_reducible apply Keeps.foldl | intro _ | dsimp only | with_reducible apply Keeps.upd

theorem keeps_sealRecord {p lc lines : Nat} {s : State}
    (h : Keeps k s0 s) : Keeps k s0 (sealRecord p lc lines s) := by
  unfold sealRecord
  repeat' first
    | with_reducible assumption | with_reducible apply keeps_modifyPage | with_reducible apply keeps_trimPage | split
    | rfl | exact fun _ => ⟨rfl, rfl, rfl, rfl, rfl⟩ | exact fun _ => ⟨rfl, rfl, rfl⟩ | exact id
    | with_reducible apply Keeps.foldl | intro _ | dsimp only | with_reducible apply Keeps.upd

theorem keeps_occasion {s : State} (h : Keeps k s0 s) : Keeps k s0 (occasion s) := by
  unfold occasion
  extract_lets v1
  repeat' first
    | with_reducible assumption | split | rfl | exact fun _ => ⟨rfl, rfl, rfl, rfl, rfl⟩
    | exact fun _ => ⟨rfl, rfl, rfl⟩ | exact id | with_reducible apply Keeps.foldl | intro _ | dsimp only
    | with_reducible apply Keeps.upd

theorem keeps_testExhausted {i : Nat} {s : State} (h : Keeps k s0 s) : Keeps k s0 (testExhausted i s) := by
  unfold testExhausted
  extract_lets v1
  repeat' first
    | with_reducible assumption | with_reducible apply keeps_post | with_reducible apply keeps_putAccount | split
    | rfl | exact fun _ => ⟨rfl, rfl, rfl, rfl, rfl⟩ | exact fun _ => ⟨rfl, rfl, rfl⟩ | exact id
    | with_reducible apply Keeps.foldl | intro _ | dsimp only | with_reducible apply Keeps.upd

theorem keeps_testNearFull {s : State} (h : Keeps k s0 s) : Keeps k s0 (testNearFull s) := by
  unfold testNearFull
  extract_lets v1
  repeat' first
    | with_reducible assumption | with_reducible apply keeps_post | split | rfl
    | exact fun _ => ⟨rfl, rfl, rfl, rfl, rfl⟩ | exact fun _ => ⟨rfl, rfl, rfl⟩ | exact id
    | with_reducible apply Keeps.foldl | intro _ | dsimp only | with_reducible apply Keeps.upd

theorem keeps_reserveCall {n : Line} {account job destIndex : Nat} {digits : List Byte} {pages : Nat} {s : State}
    (h : Keeps k s0 s) : Keeps k s0 (reserveCall n account job destIndex digits pages s) := by
  unfold reserveCall
  extract_lets v1 v2 v3 v4 v5
  have h3 : Keeps k s0 v3 := by
    dsimp only [v3]
    repeat' first
      | with_reducible assumption | with_reducible apply keeps_putAccount | split | rfl
      | exact fun _ => ⟨rfl, rfl, rfl, rfl, rfl⟩ | exact fun _ => ⟨rfl, rfl, rfl⟩ | exact id
      | with_reducible apply Keeps.foldl | intro _ | dsimp only | with_reducible apply Keeps.upd
  try clear_value v3
  repeat' first
    | with_reducible assumption | with_reducible apply keeps_putAccount | split | rfl
    | exact fun _ => ⟨rfl, rfl, rfl, rfl, rfl⟩ | exact fun _ => ⟨rfl, rfl, rfl⟩ | exact id
    | with_reducible apply Keeps.foldl | intro _ | dsimp only | with_reducible apply Keeps.upd

theorem keeps_answerCall {n : Line} {s : State} (h : Keeps k s0 s) : Keeps k s0 (answerCall n s) := by
  unfold answerCall
  extract_lets v1 v2
  repeat' first
    | with_reducible assumption | split | rfl | exact fun _ => ⟨rfl, rfl, rfl, rfl, rfl⟩
    | exact fun _ => ⟨rfl, rfl, rfl⟩ | exact id | with_reducible apply Keeps.foldl | intro _ | dsimp only
    | with_reducible apply Keeps.upd

theorem keeps_dropCall {n : Line} {s : State} (h : Keeps k s0 s) : Keeps k s0 (dropCall n s) := by
  unfold dropCall
  extract_lets v1
  repeat' first
    | with_reducible assumption | split | rfl | exact fun _ => ⟨rfl, rfl, rfl, rfl, rfl⟩
    | exact fun _ => ⟨rfl, rfl, rfl⟩ | exact id | with_reducible apply Keeps.foldl | intro _ | dsimp only
    | with_reducible apply Keeps.upd

theorem keeps_settleCall {n : Line} {c : CallRec} {cause : Cause} {s : State}
    (h : Keeps k s0 s) : Keeps k s0 (settleCall n c cause s).1 := by
  unfold settleCall
  extract_lets v1 v2 v3 v4 v5 v6 v7 v8
  have h3 : Keeps k s0 v3 := by
    dsimp only [v3]
    repeat' first
      | with_reducible assumption | with_reducible apply keeps_store | with_reducible apply keeps_testNearFull
      | with_reducible apply keeps_putLogState | with_reducible apply keeps_putAccount
      | with_reducible apply keeps_post | split | rfl | exact fun _ => ⟨rfl, rfl, rfl, rfl, rfl⟩
      | exact fun _ => ⟨rfl, rfl, rfl⟩ | exact id | with_reducible apply Keeps.foldl | intro _ | dsimp only
      | with_reducible apply Keeps.upd
  try clear_value v3
  have h5 : Keeps k s0 v5 := by
    dsimp only [v5]
    repeat' first
      | with_reducible assumption | with_reducible apply keeps_store | with_reducible apply keeps_testNearFull
      | with_reducible apply keeps_putLogState | with_reducible apply keeps_putAccount
      | with_reducible apply keeps_post | split | rfl | exact fun _ => ⟨rfl, rfl, rfl, rfl, rfl⟩
      | exact fun _ => ⟨rfl, rfl, rfl⟩ | exact id | with_reducible apply Keeps.foldl | intro _ | dsimp only
      | with_reducible apply Keeps.upd
  try clear_value v5
  have h6 : Keeps k s0 v6 := by
    dsimp only [v6]
    repeat' first
      | with_reducible assumption | with_reducible apply keeps_store | with_reducible apply keeps_testNearFull
      | with_reducible apply keeps_putLogState | with_reducible apply keeps_putAccount
      | with_reducible apply keeps_post | split | rfl | exact fun _ => ⟨rfl, rfl, rfl, rfl, rfl⟩
      | exact fun _ => ⟨rfl, rfl, rfl⟩ | exact id | with_reducible apply Keeps.foldl | intro _ | dsimp only
      | with_reducible apply Keeps.upd
  try clear_value v6
  have h8 : Keeps k s0 v8 := by
    dsimp only [v8]
    repeat' first
      | with_reducible assumption | with_reducible apply keeps_store | with_reducible apply keeps_testNearFull
      | with_reducible apply keeps_putLogState | with_reducible apply keeps_putAccount
      | with_reducible apply keeps_post | split | rfl | exact fun _ => ⟨rfl, rfl, rfl, rfl, rfl⟩
      | exact fun _ => ⟨rfl, rfl, rfl⟩ | exact id | with_reducible apply Keeps.foldl | intro _ | dsimp only
      | with_reducible apply Keeps.upd
  try clear_value v8
  repeat' first
    | with_reducible assumption | with_reducible apply keeps_store | with_reducible apply keeps_testNearFull
    | with_reducible apply keeps_putLogState | with_reducible apply keeps_putAccount | with_reducible apply keeps_post
    | split | rfl | exact fun _ => ⟨rfl, rfl, rfl, rfl, rfl⟩ | exact fun _ => ⟨rfl, rfl, rfl⟩ | exact id
    | with_reducible apply Keeps.foldl | intro _ | dsimp only | with_reducible apply Keeps.upd

theorem keeps_settleEnd {n : Line} {c : CallRec} {s : State} (h : Keeps k s0 s) : Keeps k s0 (settleEnd n c s) := by
  unfold settleEnd
  repeat' first
    | with_reducible assumption | with_reducible apply keeps_occasion | with_reducible apply keeps_dropCall
    | with_reducible apply keeps_testExhausted | split | rfl | exact fun _ => ⟨rfl, rfl, rfl, rfl, rfl⟩
    | exact fun _ => ⟨rfl, rfl, rfl⟩ | exact id | with_reducible apply Keeps.foldl | intro _ | dsimp only
    | with_reducible apply Keeps.upd

theorem keeps_releaseCall {n : Line} {c : CallRec} {s : State}
    (h : Keeps k s0 s) : Keeps k s0 (releaseCall n c s) := by
  unfold releaseCall
  extract_lets v1 v2 v3
  have h2 : Keeps k s0 v2 := by
    dsimp only [v2]
    repeat' first
      | with_reducible assumption | with_reducible apply keeps_putAccount | with_reducible apply keeps_occasion
      | with_reducible apply keeps_dropCall | split | rfl | exact fun _ => ⟨rfl, rfl, rfl, rfl, rfl⟩
      | exact fun _ => ⟨rfl, rfl, rfl⟩ | exact id | with_reducible apply Keeps.foldl | intro _ | dsimp only
      | with_reducible apply Keeps.upd
  try clear_value v2
  repeat' first
    | with_reducible assumption | with_reducible apply keeps_putAccount | with_reducible apply keeps_occasion
    | with_reducible apply keeps_dropCall | split | rfl | exact fun _ => ⟨rfl, rfl, rfl, rfl, rfl⟩
    | exact fun _ => ⟨rfl, rfl, rfl⟩ | exact id | with_reducible apply Keeps.foldl | intro _ | dsimp only
    | with_reducible apply Keeps.upd

theorem keeps_shiftNextTry {change : Int} {s : State} (h : Keeps k s0 s) : Keeps k s0 (shiftNextTry change s) := by
  unfold shiftNextTry
  repeat' first
    | with_reducible assumption | with_reducible apply keeps_modifyDest | split | rfl
    | exact fun _ => ⟨rfl, rfl, rfl, rfl, rfl⟩ | exact fun _ => ⟨rfl, rfl, rfl⟩ | exact id
    | with_reducible apply Keeps.foldl | intro _ | dsimp only | with_reducible apply Keeps.upd

theorem keeps_setClock {sl : Slot} {s : State}
    (h : Keeps k s0 s) (hk : k.time = false) : Keeps k s0 (setClock sl s).1 := by
  unfold setClock
  extract_lets v1 v2 v3 v4 v5 v6
  have h5 : Keeps k s0 v5 := by
    dsimp only [v5]
    repeat' first
      | with_reducible assumption | with_reducible apply keeps_occasion | with_reducible apply keeps_shiftNextTry
      | split | rfl | exact fun _ => ⟨rfl, rfl, rfl, rfl, rfl⟩ | exact fun _ => ⟨rfl, rfl, rfl⟩
      | exact fun e => absurd (hk.symm.trans e) Bool.false_ne_true | exact id | with_reducible apply Keeps.foldl
      | intro _ | dsimp only | with_reducible apply Keeps.upd
  try clear_value v5
  have h6 : Keeps k s0 v6 := by
    dsimp only [v6]
    repeat' first
      | with_reducible assumption | with_reducible apply keeps_occasion | with_reducible apply keeps_shiftNextTry
      | split | rfl | exact fun _ => ⟨rfl, rfl, rfl, rfl, rfl⟩ | exact fun _ => ⟨rfl, rfl, rfl⟩
      | exact fun e => absurd (hk.symm.trans e) Bool.false_ne_true | exact id | with_reducible apply Keeps.foldl
      | intro _ | dsimp only | with_reducible apply Keeps.upd
  try clear_value v6
  repeat' first
    | with_reducible assumption | with_reducible apply keeps_occasion | with_reducible apply keeps_shiftNextTry
    | split | rfl | exact fun _ => ⟨rfl, rfl, rfl, rfl, rfl⟩ | exact fun _ => ⟨rfl, rfl, rfl⟩
    | exact fun e => absurd (hk.symm.trans e) Bool.false_ne_true | exact id | with_reducible apply Keeps.foldl
    | intro _ | dsimp only | with_reducible apply Keeps.upd

theorem keeps_loadBandHours {sl : Slot} {s : State} (h : Keeps k s0 s) : Keeps k s0 (loadBandHours sl s).1 := by
  unfold loadBandHours
  extract_lets v1 v2 v3 v4 v5
  have h5 : Keeps k s0 v5 := by
    dsimp only [v5]
    repeat' first
      | with_reducible assumption | with_reducible apply keeps_putBand | split | rfl
      | exact fun _ => ⟨rfl, rfl, rfl, rfl, rfl⟩ | exact fun _ => ⟨rfl, rfl, rfl⟩ | exact id
      | with_reducible apply Keeps.foldl | intro _ | dsimp only | with_reducible apply Keeps.upd
  try clear_value v5
  repeat' first
    | with_reducible assumption | with_reducible apply keeps_putBand | split | rfl
    | exact fun _ => ⟨rfl, rfl, rfl, rfl, rfl⟩ | exact fun _ => ⟨rfl, rfl, rfl⟩ | exact id
    | with_reducible apply Keeps.foldl | intro _ | dsimp only | with_reducible apply Keeps.upd

theorem keeps_loadTariffPrefix {sl : Slot} {s : State} (h : Keeps k s0 s) : Keeps k s0 (loadTariffPrefix sl s).1 := by
  unfold loadTariffPrefix
  extract_lets v1 v2 v3 v4 v5
  repeat' first
    | with_reducible assumption | with_reducible apply keeps_putPrefix | with_reducible apply keeps_dropPrefix | split | rfl
    | exact fun _ => ⟨rfl, rfl, rfl, rfl, rfl⟩ | exact fun _ => ⟨rfl, rfl, rfl⟩ | exact id
    | with_reducible apply Keeps.foldl | intro _ | dsimp only | with_reducible apply Keeps.upd

theorem keeps_loadZoneRate {sl : Slot} {s : State} (h : Keeps k s0 s) : Keeps k s0 (loadZoneRate sl s).1 := by
  unfold loadZoneRate
  extract_lets v1 v2 v3 v4
  repeat' first
    | with_reducible assumption | with_reducible apply keeps_putRate | split | rfl
    | exact fun _ => ⟨rfl, rfl, rfl, rfl, rfl⟩ | exact fun _ => ⟨rfl, rfl, rfl⟩ | exact id
    | with_reducible apply Keeps.foldl | intro _ | dsimp only | with_reducible apply Keeps.upd

theorem keeps_setAccount {sl : Slot} {s : State} (h : Keeps k s0 s) : Keeps k s0 (setAccount sl s).1 := by
  unfold setAccount
  extract_lets v1 v2 v3 v4 v5
  have h5 : Keeps k s0 v5 := by
    dsimp only [v5]
    repeat' first
      | with_reducible assumption | with_reducible apply keeps_occasion | with_reducible apply keeps_testExhausted
      | with_reducible apply keeps_putAccount | split | rfl | exact fun _ => ⟨rfl, rfl, rfl, rfl, rfl⟩
      | exact fun _ => ⟨rfl, rfl, rfl⟩ | exact id | with_reducible apply Keeps.foldl | intro _ | dsimp only
      | with_reducible apply Keeps.upd
  try clear_value v5
  repeat' first
    | with_reducible assumption | with_reducible apply keeps_occasion | with_reducible apply keeps_testExhausted
    | with_reducible apply keeps_putAccount | split | rfl | exact fun _ => ⟨rfl, rfl, rfl, rfl, rfl⟩
    | exact fun _ => ⟨rfl, rfl, rfl⟩ | exact id | with_reducible apply Keeps.foldl | intro _ | dsimp only
    | with_reducible apply Keeps.upd

theorem keeps_clearSpent {sl : Slot} {s : State} (h : Keeps k s0 s) : Keeps k s0 (clearSpent sl s).1 := by
  unfold clearSpent
  extract_lets v1 v2
  repeat' first
    | with_reducible assumption | with_reducible apply keeps_occasion | with_reducible apply keeps_putAccount | split
    | rfl | exact fun _ => ⟨rfl, rfl, rfl, rfl, rfl⟩ | exact fun _ => ⟨rfl, rfl, rfl⟩ | exact id
    | with_reducible apply Keeps.foldl | intro _ | dsimp only | with_reducible apply Keeps.upd

theorem keeps_rearmNearFull {s : State} (h : Keeps k s0 s) : Keeps k s0 (rearmNearFull s) := by
  unfold rearmNearFull
  extract_lets v1
  repeat' first
    | with_reducible assumption | split | rfl | exact fun _ => ⟨rfl, rfl, rfl, rfl, rfl⟩
    | exact fun _ => ⟨rfl, rfl, rfl⟩ | exact id | with_reducible apply Keeps.foldl | intro _ | dsimp only
    | with_reducible apply Keeps.upd

theorem keeps_ackChargeLog {sl : Slot} {s : State} (h : Keeps k s0 s) : Keeps k s0 (ackChargeLog sl s).1 := by
  unfold ackChargeLog
  extract_lets v1 v2 v3 v4 v5 v6 v7
  have h7 : Keeps k s0 v7 := by
    dsimp only [v7]
    repeat' first
      | with_reducible assumption | with_reducible apply keeps_occasion | with_reducible apply keeps_rearmNearFull
      | with_reducible apply keeps_putLogState | split | rfl | exact fun _ => ⟨rfl, rfl, rfl, rfl, rfl⟩
      | exact fun _ => ⟨rfl, rfl, rfl⟩ | exact id | with_reducible apply Keeps.foldl | intro _ | dsimp only
      | with_reducible apply Keeps.upd
  try clear_value v7
  repeat' first
    | with_reducible assumption | with_reducible apply keeps_occasion | with_reducible apply keeps_rearmNearFull
    | with_reducible apply keeps_putLogState | split | rfl | exact fun _ => ⟨rfl, rfl, rfl, rfl, rfl⟩
    | exact fun _ => ⟨rfl, rfl, rfl⟩ | exact id | with_reducible apply Keeps.foldl | intro _ | dsimp only
    | with_reducible apply Keeps.upd

theorem keeps_hand {n : Line} {q : TxKind} {s : State} (h : Keeps k s0 s) : Keeps k s0 (hand n q s) := by
  unfold hand
  extract_lets v1
  repeat' first
    | with_reducible assumption | split | rfl | exact fun _ => ⟨rfl, rfl, rfl, rfl, rfl⟩
    | exact fun _ => ⟨rfl, rfl, rfl⟩ | exact id | with_reducible apply Keeps.foldl | intro _ | dsimp only
    | with_reducible apply Keeps.upd

theorem keeps_handAbandonClear {n : Line} {s : State} (h : Keeps k s0 s) : Keeps k s0 (handAbandonClear n s) := by
  unfold handAbandonClear
  repeat' first
    | with_reducible assumption | with_reducible apply keeps_hand | with_reducible apply keeps_clear | split | rfl
    | exact fun _ => ⟨rfl, rfl, rfl, rfl, rfl⟩ | exact fun _ => ⟨rfl, rfl, rfl⟩ | exact id
    | with_reducible apply Keeps.foldl | intro _ | dsimp only | with_reducible apply Keeps.upd

theorem keeps_dropMessages {s : State} (h : Keeps k s0 s) : Keeps k s0 (dropMessages s) := by
  unfold dropMessages
  extract_lets v1
  repeat' first
    | with_reducible assumption | split | rfl | exact fun _ => ⟨rfl, rfl, rfl, rfl, rfl⟩
    | exact fun _ => ⟨rfl, rfl, rfl⟩ | exact id | with_reducible apply Keeps.foldl | intro _ | dsimp only
    | with_reducible apply Keeps.upd

theorem keeps_placeHanding {s : State} (h : Keeps k s0 s) : Keeps k s0 (placeHanding s) := by
  unfold placeHanding
  extract_lets v1
  repeat' first
    | with_reducible assumption | split | rfl | exact fun _ => ⟨rfl, rfl, rfl, rfl, rfl⟩
    | exact fun _ => ⟨rfl, rfl, rfl⟩ | exact id | with_reducible apply Keeps.foldl | intro _ | dsimp only
    | with_reducible apply Keeps.upd

theorem keeps_joinHolds {d p : Nat} {s : State} (h : Keeps k s0 s) : Keeps k s0 (joinHolds d p s) := by
  unfold joinHolds
  repeat' first
    | with_reducible assumption | with_reducible apply keeps_modifyPage | split | rfl
    | exact fun _ => ⟨rfl, rfl, rfl, rfl, rfl⟩ | exact fun _ => ⟨rfl, rfl, rfl⟩ | exact id
    | with_reducible apply Keeps.foldl | intro _ | dsimp only | with_reducible apply Keeps.upd

theorem keeps_takeHoldsOff {q : Nat} {s : State} (h : Keeps k s0 s) : Keeps k s0 (takeHoldsOff q s) := by
  unfold takeHoldsOff
  repeat' first
    | with_reducible assumption | with_reducible apply keeps_changeSendHolds | split | rfl
    | exact fun _ => ⟨rfl, rfl, rfl, rfl, rfl⟩ | exact fun _ => ⟨rfl, rfl, rfl⟩ | exact id
    | with_reducible apply Keeps.foldl | intro _ | dsimp only | with_reducible apply Keeps.upd

theorem keeps_finishDest {q : Nat} {st : DestState} {s : State}
    (h : Keeps k s0 s) : Keeps k s0 (finishDest q st s) := by
  unfold finishDest
  repeat' first
    | with_reducible assumption | with_reducible apply keeps_putDest | with_reducible apply keeps_modifyJob
    | with_reducible apply keeps_postTagged | split | rfl | exact fun _ => ⟨rfl, rfl, rfl, rfl, rfl⟩
    | exact fun _ => ⟨rfl, rfl, rfl⟩ | exact id | with_reducible apply Keeps.foldl | intro _ | dsimp only
    | with_reducible apply Keeps.upd

theorem keeps_destSent {q : Nat} {s : State} (h : Keeps k s0 s) : Keeps k s0 (destSent q s) := by
  unfold destSent
  repeat' first
    | with_reducible assumption | with_reducible apply keeps_finishDest | split | rfl
    | exact fun _ => ⟨rfl, rfl, rfl, rfl, rfl⟩ | exact fun _ => ⟨rfl, rfl, rfl⟩ | exact id
    | with_reducible apply Keeps.foldl | intro _ | dsimp only | with_reducible apply Keeps.upd

theorem keeps_destGivenUp {q : Nat} {st : DestState} {s : State}
    (h : Keeps k s0 s) : Keeps k s0 (destGivenUp q st s) := by
  unfold destGivenUp
  repeat' first
    | with_reducible assumption | with_reducible apply keeps_finishDest | with_reducible apply keeps_takeHoldsOff
    | split | rfl | exact fun _ => ⟨rfl, rfl, rfl, rfl, rfl⟩ | exact fun _ => ⟨rfl, rfl, rfl⟩ | exact id
    | with_reducible apply Keeps.foldl | intro _ | dsimp only | with_reducible apply Keeps.upd

theorem keeps_endJob {j : Nat} {r : Job} {s : State} (h : Keeps k s0 s) : Keeps k s0 (endJob j r s) := by
  unfold endJob
  extract_lets v1 v2 v3
  have h1 : Keeps k s0 v1 := by
    dsimp only [v1]
    repeat' first
      | with_reducible assumption | with_reducible apply keeps_postTagged | with_reducible apply keeps_clearDest
      | with_reducible apply keeps_clearJob | with_reducible apply keeps_testDocFree
      | with_reducible apply keeps_modifyDoc | split | rfl | exact fun _ => ⟨rfl, rfl, rfl, rfl, rfl⟩
      | exact fun _ => ⟨rfl, rfl, rfl⟩ | exact id | with_reducible apply Keeps.foldl | intro _ | dsimp only
      | with_reducible apply Keeps.upd
  try clear_value v1
  have h2 : Keeps k s0 v2 := by
    dsimp only [v2]
    repeat' first
      | with_reducible assumption | with_reducible apply keeps_postTagged | with_reducible apply keeps_clearDest
      | with_reducible apply keeps_clearJob | with_reducible apply keeps_testDocFree
      | with_reducible apply keeps_modifyDoc | split | rfl | exact fun _ => ⟨rfl, rfl, rfl, rfl, rfl⟩
      | exact fun _ => ⟨rfl, rfl, rfl⟩ | exact id | with_reducible apply Keeps.foldl | intro _ | dsimp only
      | with_reducible apply Keeps.upd
  try clear_value v2
  have h3 : Keeps k s0 v3 := by
    dsimp only [v3]
    repeat' first
      | with_reducible assumption | with_reducible apply keeps_postTagged | with_reducible apply keeps_clearDest
      | with_reducible apply keeps_clearJob | with_reducible apply keeps_testDocFree
      | with_reducible apply keeps_modifyDoc | split | rfl | exact fun _ => ⟨rfl, rfl, rfl, rfl, rfl⟩
      | exact fun _ => ⟨rfl, rfl, rfl⟩ | exact id | with_reducible apply Keeps.foldl | intro _ | dsimp only
      | with_reducible apply Keeps.upd
  try clear_value v3
  repeat' first
    | with_reducible assumption | with_reducible apply keeps_postTagged | with_reducible apply keeps_clearDest
    | with_reducible apply keeps_clearJob | with_reducible apply keeps_testDocFree
    | with_reducible apply keeps_modifyDoc | split | rfl | exact fun _ => ⟨rfl, rfl, rfl, rfl, rfl⟩
    | exact fun _ => ⟨rfl, rfl, rfl⟩ | exact id | with_reducible apply Keeps.foldl | intro _ | dsimp only
    | with_reducible apply Keeps.upd

theorem keeps_testJobEnd {j : Nat} {s : State} (h : Keeps k s0 s) : Keeps k s0 (testJobEnd j s) := by
  unfold testJobEnd
  repeat' first
    | with_reducible assumption | with_reducible apply keeps_endJob | split | rfl
    | exact fun _ => ⟨rfl, rfl, rfl, rfl, rfl⟩ | exact fun _ => ⟨rfl, rfl, rfl⟩ | exact id
    | with_reducible apply Keeps.foldl | intro _ | dsimp only | with_reducible apply Keeps.upd

theorem keeps_toRetryWait {q a : Nat} {s : State} (h : Keeps k s0 s) : Keeps k s0 (toRetryWait q a s) := by
  unfold toRetryWait
  extract_lets v1 v2 v3
  repeat' first
    | with_reducible assumption | with_reducible apply keeps_modifyDest | split | rfl
    | exact fun _ => ⟨rfl, rfl, rfl, rfl, rfl⟩ | exact fun _ => ⟨rfl, rfl, rfl⟩ | exact id
    | with_reducible apply Keeps.foldl | intro _ | dsimp only | with_reducible apply Keeps.upd

theorem keeps_moveDest {q : Nat} {cause : Cause} {s : State}
    (h : Keeps k s0 s) : Keeps k s0 (moveDest q cause s) := by
  unfold moveDest
  repeat' first
    | with_reducible assumption | with_reducible apply keeps_putDest | with_reducible apply keeps_destGivenUp
    | with_reducible apply keeps_modifyDest | with_reducible apply keeps_toRetryWait | split | rfl
    | exact fun _ => ⟨rfl, rfl, rfl, rfl, rfl⟩ | exact fun _ => ⟨rfl, rfl, rfl⟩ | exact id
    | with_reducible apply Keeps.foldl | intro _ | dsimp only | with_reducible apply Keeps.upd

theorem keeps_destSessionEnd {q : Nat} {cause : Cause} {s : State}
    (h : Keeps k s0 s) : Keeps k s0 (destSessionEnd q cause s) := by
  unfold destSessionEnd
  repeat' first
    | with_reducible assumption | with_reducible apply keeps_modifyJob | with_reducible apply keeps_moveDest
    | with_reducible apply keeps_modifyDest | split | rfl | exact fun _ => ⟨rfl, rfl, rfl, rfl, rfl⟩
    | exact fun _ => ⟨rfl, rfl, rfl⟩ | exact id | with_reducible apply Keeps.foldl | intro _ | dsimp only
    | with_reducible apply Keeps.upd

theorem keeps_destSequence {q seq : Nat} {s : State} (h : Keeps k s0 s) : Keeps k s0 (destSequence q seq s) := by
  unfold destSequence
  repeat' first
    | with_reducible assumption | with_reducible apply keeps_modifyDest | split | rfl
    | exact fun _ => ⟨rfl, rfl, rfl, rfl, rfl⟩ | exact fun _ => ⟨rfl, rfl, rfl⟩ | exact id
    | with_reducible apply Keeps.foldl | intro _ | dsimp only | with_reducible apply Keeps.upd

theorem keeps_destConfirms {q : Nat} {s : State} (h : Keeps k s0 s) : Keeps k s0 (destConfirms q s) := by
  unfold destConfirms
  repeat' first
    | with_reducible assumption | with_reducible apply keeps_putDest | with_reducible apply keeps_changeSendHolds
    | split | rfl | exact fun _ => ⟨rfl, rfl, rfl, rfl, rfl⟩ | exact fun _ => ⟨rfl, rfl, rfl⟩ | exact id
    | with_reducible apply Keeps.foldl | intro _ | dsimp only | with_reducible apply Keeps.upd

theorem keeps_discardJobs {s : State} (h : Keeps k s0 s) : Keeps k s0 (discardJobs s) := by
  unfold discardJobs
  extract_lets v1 v2 v3 v4 v5
  have h2 : Keeps k s0 v2 := by
    dsimp only [v2]
    repeat' first
      | with_reducible assumption | with_reducible apply keeps_modifyDest | with_reducible apply keeps_takeHoldsOff
      | split | rfl | exact fun _ => ⟨rfl, rfl, rfl, rfl, rfl⟩ | exact fun _ => ⟨rfl, rfl, rfl⟩
      | exact fun e => by dsimp only [v5]; simp_all [State.ordered] | exact id | with_reducible apply Keeps.foldl
      | intro _ | dsimp only | with_reducible apply Keeps.upd
  try clear_value v2
  have h4 : Keeps k s0 v4 := by
    dsimp only [v4]
    repeat' first
      | with_reducible assumption | with_reducible apply keeps_modifyDest | with_reducible apply keeps_takeHoldsOff
      | split | rfl | exact fun _ => ⟨rfl, rfl, rfl, rfl, rfl⟩ | exact fun _ => ⟨rfl, rfl, rfl⟩
      | exact fun e => by dsimp only [v5]; simp_all [State.ordered] | exact id | with_reducible apply Keeps.foldl
      | intro _ | dsimp only | with_reducible apply Keeps.upd
  try clear_value v4
  repeat' first
    | with_reducible assumption | with_reducible apply keeps_modifyDest | with_reducible apply keeps_takeHoldsOff
    | split | rfl | exact fun _ => ⟨rfl, rfl, rfl, rfl, rfl⟩ | exact fun _ => ⟨rfl, rfl, rfl⟩
    | exact fun e => by dsimp only [v5]; simp_all [State.ordered] | exact id | with_reducible apply Keeps.foldl
    | intro _ | dsimp only | with_reducible apply Keeps.upd

theorem keeps_enterState {n : Line} {st : LineState} {f : LineRec → LineRec} {s : State}
    (h : Keeps k s0 s) : Keeps k s0 (enterState n st f s) := by
  unfold enterState
  repeat' first
    | with_reducible assumption | with_reducible apply keeps_modifyLine | split | rfl
    | exact fun _ => ⟨rfl, rfl, rfl, rfl, rfl⟩ | exact fun _ => ⟨rfl, rfl, rfl⟩ | exact id
    | with_reducible apply Keeps.foldl | intro _ | dsimp only | with_reducible apply Keeps.upd

theorem keeps_restartTimer {n : Line} {s : State} (h : Keeps k s0 s) : Keeps k s0 (restartTimer n s) := by
  unfold restartTimer
  repeat' first
    | with_reducible assumption | with_reducible apply keeps_modifyLine | split | rfl
    | exact fun _ => ⟨rfl, rfl, rfl, rfl, rfl⟩ | exact fun _ => ⟨rfl, rfl, rfl⟩ | exact id
    | with_reducible apply Keeps.foldl | intro _ | dsimp only | with_reducible apply Keeps.upd

theorem keeps_clearLine {n : Line} {cause : Cause} {s : State}
    (h : Keeps k s0 s) : Keeps k s0 (clearLine n cause s) := by
  unfold clearLine
  repeat' first
    | with_reducible assumption | with_reducible apply keeps_enterState | with_reducible apply keeps_hand
    | with_reducible apply keeps_clear | split | rfl | exact fun _ => ⟨rfl, rfl, rfl, rfl, rfl⟩
    | exact fun _ => ⟨rfl, rfl, rfl⟩ | exact id | with_reducible apply Keeps.foldl | intro _ | dsimp only
    | with_reducible apply Keeps.upd

theorem keeps_abandonLine {n : Line} {cause : Cause} {s : State}
    (h : Keeps k s0 s) : Keeps k s0 (abandonLine n cause s) := by
  unfold abandonLine
  repeat' first
    | with_reducible assumption | with_reducible apply keeps_clearLine | with_reducible apply keeps_hand | split | rfl
    | exact fun _ => ⟨rfl, rfl, rfl, rfl, rfl⟩ | exact fun _ => ⟨rfl, rfl, rfl⟩ | exact id
    | with_reducible apply Keeps.foldl | intro _ | dsimp only | with_reducible apply Keeps.upd

theorem keeps_sendPartial {n : Line} {p : Nat} {s : State} (h : Keeps k s0 s) : Keeps k s0 (sendPartial n p s) := by
  unfold sendPartial
  extract_lets v1
  repeat' first
    | with_reducible assumption | with_reducible apply keeps_enterState | split | rfl
    | exact fun _ => ⟨rfl, rfl, rfl, rfl, rfl⟩ | exact fun _ => ⟨rfl, rfl, rfl⟩ | exact id
    | with_reducible apply Keeps.foldl | intro _ | dsimp only | with_reducible apply Keeps.upd

theorem keeps_announcePage {n : Line} {d : Doc} {q : Nat} {r : PageRec} {s : State}
    (h : Keeps k s0 s) : Keeps k s0 (announcePage n d q r s) := by
  unfold announcePage
  repeat' first
    | with_reducible assumption | with_reducible apply keeps_modifyLine | with_reducible apply keeps_hand | split
    | rfl | exact fun _ => ⟨rfl, rfl, rfl, rfl, rfl⟩ | exact fun _ => ⟨rfl, rfl, rfl⟩ | exact id
    | with_reducible apply Keeps.foldl | intro _ | dsimp only | with_reducible apply Keeps.upd

theorem keeps_takePage {n : Line} {d : Doc} {q p : Nat} {r : PageRec} {s : State}
    (h : Keeps k s0 s) : Keeps k s0 (takePage n d q p r s) := by
  unfold takePage
  extract_lets v1
  have h1 : Keeps k s0 v1 := by
    dsimp only [v1]
    repeat' first
      | with_reducible assumption | with_reducible apply keeps_modifyLine | with_reducible apply keeps_abandonLine
      | with_reducible apply keeps_sendPartial | with_reducible apply keeps_announcePage | split | rfl
      | exact fun _ => ⟨rfl, rfl, rfl, rfl, rfl⟩ | exact fun _ => ⟨rfl, rfl, rfl⟩ | exact id
      | with_reducible apply Keeps.foldl | intro _ | dsimp only | with_reducible apply Keeps.upd
  try clear_value v1
  repeat' first
    | with_reducible assumption | with_reducible apply keeps_modifyLine | with_reducible apply keeps_abandonLine
    | with_reducible apply keeps_sendPartial | with_reducible apply keeps_announcePage | split | rfl
    | exact fun _ => ⟨rfl, rfl, rfl, rfl, rfl⟩ | exact fun _ => ⟨rfl, rfl, rfl⟩ | exact id
    | with_reducible apply Keeps.foldl | intro _ | dsimp only | with_reducible apply Keeps.upd

theorem keeps_waitForData {n : Line} {s : State} (h : Keeps k s0 s) : Keeps k s0 (waitForData n s) := by
  unfold waitForData
  repeat' first
    | with_reducible assumption | with_reducible apply keeps_enterState | split | rfl
    | exact fun _ => ⟨rfl, rfl, rfl, rfl, rfl⟩ | exact fun _ => ⟨rfl, rfl, rfl⟩ | exact id
    | with_reducible apply Keeps.foldl | intro _ | dsimp only | with_reducible apply Keeps.upd

theorem keeps_allPagesSent {n : Line} {s : State} (h : Keeps k s0 s) : Keeps k s0 (allPagesSent n s) := by
  unfold allPagesSent
  extract_lets v1 v2
  have h1 : Keeps k s0 v1 := by
    dsimp only [v1]
    repeat' first
      | with_reducible assumption | with_reducible apply keeps_hand | with_reducible apply keeps_destSent
      | with_reducible apply keeps_clearLine | split | rfl | exact fun _ => ⟨rfl, rfl, rfl, rfl, rfl⟩
      | exact fun _ => ⟨rfl, rfl, rfl⟩ | exact id | with_reducible apply Keeps.foldl | intro _ | dsimp only
      | with_reducible apply Keeps.upd
  try clear_value v1
  have h2 : Keeps k s0 v2 := by
    dsimp only [v2]
    repeat' first
      | with_reducible assumption | with_reducible apply keeps_hand | with_reducible apply keeps_destSent
      | with_reducible apply keeps_clearLine | split | rfl | exact fun _ => ⟨rfl, rfl, rfl, rfl, rfl⟩
      | exact fun _ => ⟨rfl, rfl, rfl⟩ | exact id | with_reducible apply Keeps.foldl | intro _ | dsimp only
      | with_reducible apply Keeps.upd
  try clear_value v2
  repeat' first
    | with_reducible assumption | with_reducible apply keeps_hand | with_reducible apply keeps_destSent
    | with_reducible apply keeps_clearLine | split | rfl | exact fun _ => ⟨rfl, rfl, rfl, rfl, rfl⟩
    | exact fun _ => ⟨rfl, rfl, rfl⟩ | exact id | with_reducible apply Keeps.foldl | intro _ | dsimp only
    | with_reducible apply Keeps.upd

theorem keeps_nextPlace {n : Line} {s : State} (h : Keeps k s0 s) : Keeps k s0 (nextPlace n s) := by
  unfold nextPlace
  repeat' first
    | with_reducible assumption | with_reducible apply keeps_takePage | with_reducible apply keeps_waitForData
    | with_reducible apply keeps_allPagesSent | split | rfl | exact fun _ => ⟨rfl, rfl, rfl, rfl, rfl⟩
    | exact fun _ => ⟨rfl, rfl, rfl⟩ | exact id | with_reducible apply Keeps.foldl | intro _ | dsimp only
    | with_reducible apply Keeps.upd

theorem keeps_recheckLines {d : Nat} {s : State} (h : Keeps k s0 s) : Keeps k s0 (recheckLines d s) := by
  refine Keeps.foldl h fun t n ht => ?_
  split
  · exact keeps_nextPlace ht
  · exact ht

theorem keeps_handPartialEnd {n : Line} {s : State} (h : Keeps k s0 s) : Keeps k s0 (handPartialEnd n s) := by
  unfold handPartialEnd
  extract_lets v1 v2
  repeat' first
    | with_reducible assumption | with_reducible apply keeps_enterState | with_reducible apply keeps_hand | split
    | rfl | exact fun _ => ⟨rfl, rfl, rfl, rfl, rfl⟩ | exact fun _ => ⟨rfl, rfl, rfl⟩ | exact id
    | with_reducible apply Keeps.foldl | intro _ | dsimp only | with_reducible apply Keeps.upd

theorem keeps_blockFinished {n : Line} {s : State} (h : Keeps k s0 s) : Keeps k s0 (blockFinished n s) := by
  unfold blockFinished
  extract_lets v1
  repeat' first
    | with_reducible assumption | with_reducible apply keeps_handPartialEnd | with_reducible apply keeps_modifyLine
    | with_reducible apply keeps_restartTimer | split | rfl | exact fun _ => ⟨rfl, rfl, rfl, rfl, rfl⟩
    | exact fun _ => ⟨rfl, rfl, rfl⟩ | exact id | with_reducible apply Keeps.foldl | intro _ | dsimp only
    | with_reducible apply Keeps.upd

theorem keeps_fillBlock {n : Line} {s : State} (h : Keeps k s0 s) : Keeps k s0 (fillBlock n s) := by
  unfold fillBlock
  extract_lets v1 v2
  repeat' first
    | with_reducible assumption | with_reducible apply keeps_hand | with_reducible apply keeps_modifyLine | split
    | rfl | exact fun _ => ⟨rfl, rfl, rfl, rfl, rfl⟩ | exact fun _ => ⟨rfl, rfl, rfl⟩ | exact id
    | with_reducible apply Keeps.foldl | intro _ | dsimp only | with_reducible apply Keeps.upd

theorem keeps_endRequested {n : Line} {s : State} (h : Keeps k s0 s) : Keeps k s0 (endRequested n s) := by
  unfold endRequested
  repeat' first
    | with_reducible assumption | with_reducible apply keeps_clearLine | with_reducible apply keeps_abandonLine
    | split | rfl | exact fun _ => ⟨rfl, rfl, rfl, rfl, rfl⟩ | exact fun _ => ⟨rfl, rfl, rfl⟩ | exact id
    | with_reducible apply Keeps.foldl | intro _ | dsimp only | with_reducible apply Keeps.upd

theorem keeps_startSession {n : Line} {q : Nat} {d : Dest} {doc : Nat} {s : State}
    (h : Keeps k s0 s) : Keeps k s0 (startSession n q d doc s) := by
  unfold startSession
  extract_lets v1 v2
  have h2 : Keeps k s0 v2 := by
    dsimp only [v2]
    repeat' first
      | with_reducible assumption | with_reducible apply keeps_setLine | with_reducible apply keeps_enterState
      | with_reducible apply keeps_hand | split | rfl | exact fun _ => ⟨rfl, rfl, rfl, rfl, rfl⟩
      | exact fun _ => ⟨rfl, rfl, rfl⟩ | exact id | with_reducible apply Keeps.foldl | intro _ | dsimp only
      | with_reducible apply Keeps.upd
  try clear_value v2
  repeat' first
    | with_reducible assumption | with_reducible apply keeps_setLine | with_reducible apply keeps_enterState
    | with_reducible apply keeps_hand | split | rfl | exact fun _ => ⟨rfl, rfl, rfl, rfl, rfl⟩
    | exact fun _ => ⟨rfl, rfl, rfl⟩ | exact id | with_reducible apply Keeps.foldl | intro _ | dsimp only
    | with_reducible apply Keeps.upd

theorem keeps_onSeized {n : Line} {s : State} (h : Keeps k s0 s) : Keeps k s0 (onSeized n s) := by
  unfold onSeized
  repeat' first
    | with_reducible assumption | with_reducible apply keeps_enterState | with_reducible apply keeps_hand | split
    | rfl | exact fun _ => ⟨rfl, rfl, rfl, rfl, rfl⟩ | exact fun _ => ⟨rfl, rfl, rfl⟩ | exact id
    | with_reducible apply Keeps.foldl | intro _ | dsimp only | with_reducible apply Keeps.upd

theorem keeps_onCallFailed {n : Line} {cause : Cause} {s : State}
    (h : Keeps k s0 s) : Keeps k s0 (onCallFailed n cause s) := by
  unfold onCallFailed
  repeat' first
    | with_reducible assumption | with_reducible apply keeps_clearLine | split | rfl
    | exact fun _ => ⟨rfl, rfl, rfl, rfl, rfl⟩ | exact fun _ => ⟨rfl, rfl, rfl⟩ | exact id
    | with_reducible apply Keeps.foldl | intro _ | dsimp only | with_reducible apply Keeps.upd

theorem keeps_onAnswered {n : Line} {s : State} (h : Keeps k s0 s) : Keeps k s0 (onAnswered n s) := by
  unfold onAnswered
  extract_lets v1 v2
  have h1 : Keeps k s0 v1 := by
    dsimp only [v1]
    repeat' first
      | with_reducible assumption | with_reducible apply keeps_answerCall | with_reducible apply keeps_modifyLine
      | with_reducible apply keeps_modifyDest | with_reducible apply keeps_nextPlace | split | rfl
      | exact fun _ => ⟨rfl, rfl, rfl, rfl, rfl⟩ | exact fun _ => ⟨rfl, rfl, rfl⟩ | exact id
      | with_reducible apply Keeps.foldl | intro _ | dsimp only | with_reducible apply Keeps.upd
  try clear_value v1
  have h2 : Keeps k s0 v2 := by
    dsimp only [v2]
    repeat' first
      | with_reducible assumption | with_reducible apply keeps_answerCall | with_reducible apply keeps_modifyLine
      | with_reducible apply keeps_modifyDest | with_reducible apply keeps_nextPlace | split | rfl
      | exact fun _ => ⟨rfl, rfl, rfl, rfl, rfl⟩ | exact fun _ => ⟨rfl, rfl, rfl⟩ | exact id
      | with_reducible apply Keeps.foldl | intro _ | dsimp only | with_reducible apply Keeps.upd
  try clear_value v2
  repeat' first
    | with_reducible assumption | with_reducible apply keeps_answerCall | with_reducible apply keeps_modifyLine
    | with_reducible apply keeps_modifyDest | with_reducible apply keeps_nextPlace | split | rfl
    | exact fun _ => ⟨rfl, rfl, rfl, rfl, rfl⟩ | exact fun _ => ⟨rfl, rfl, rfl⟩ | exact id
    | with_reducible apply Keeps.foldl | intro _ | dsimp only | with_reducible apply Keeps.upd

theorem keeps_onPartialOk {n : Line} {s : State} (h : Keeps k s0 s) : Keeps k s0 (onPartialOk n s) := by
  unfold onPartialOk
  extract_lets v1 v2
  have h2 : Keeps k s0 v2 := by
    dsimp only [v2]
    repeat' first
      | with_reducible assumption | with_reducible apply keeps_modifyLine | with_reducible apply keeps_sendPartial
      | with_reducible apply keeps_enterState | split | rfl | exact fun _ => ⟨rfl, rfl, rfl, rfl, rfl⟩
      | exact fun _ => ⟨rfl, rfl, rfl⟩ | exact id | with_reducible apply Keeps.foldl | intro _ | dsimp only
      | with_reducible apply Keeps.upd
  try clear_value v2
  repeat' first
    | with_reducible assumption | with_reducible apply keeps_modifyLine | with_reducible apply keeps_sendPartial
    | with_reducible apply keeps_enterState | split | rfl | exact fun _ => ⟨rfl, rfl, rfl, rfl, rfl⟩
    | exact fun _ => ⟨rfl, rfl, rfl⟩ | exact id | with_reducible apply Keeps.foldl | intro _ | dsimp only
    | with_reducible apply Keeps.upd

theorem keeps_onRepeat {n : Line} {map : BitVec 64} {s : State}
    (h : Keeps k s0 s) : Keeps k s0 (onRepeat n map s) := by
  unfold onRepeat
  extract_lets v1 v2
  have h2 : Keeps k s0 v2 := by
    dsimp only [v2]
    repeat' first
      | with_reducible assumption | with_reducible apply keeps_modifyLine | with_reducible apply keeps_abandonLine
      | with_reducible apply keeps_handPartialEnd | with_reducible apply keeps_enterState | split | rfl
      | exact fun _ => ⟨rfl, rfl, rfl, rfl, rfl⟩ | exact fun _ => ⟨rfl, rfl, rfl⟩ | exact id
      | with_reducible apply Keeps.foldl | intro _ | dsimp only | with_reducible apply Keeps.upd
  try clear_value v2
  repeat' first
    | with_reducible assumption | with_reducible apply keeps_modifyLine | with_reducible apply keeps_abandonLine
    | with_reducible apply keeps_handPartialEnd | with_reducible apply keeps_enterState | split | rfl
    | exact fun _ => ⟨rfl, rfl, rfl, rfl, rfl⟩ | exact fun _ => ⟨rfl, rfl, rfl⟩ | exact id
    | with_reducible apply Keeps.foldl | intro _ | dsimp only | with_reducible apply Keeps.upd

theorem keeps_onPageConfirmed {n : Line} {s : State} (h : Keeps k s0 s) : Keeps k s0 (onPageConfirmed n s) := by
  unfold onPageConfirmed
  extract_lets v1
  have h1 : Keeps k s0 v1 := by
    dsimp only [v1]
    repeat' first
      | with_reducible assumption | with_reducible apply keeps_destConfirms | with_reducible apply keeps_nextPlace
      | with_reducible apply keeps_modifyLine | split | rfl | exact fun _ => ⟨rfl, rfl, rfl, rfl, rfl⟩
      | exact fun _ => ⟨rfl, rfl, rfl⟩ | exact id | with_reducible apply Keeps.foldl | intro _ | dsimp only
      | with_reducible apply Keeps.upd
  try clear_value v1
  repeat' first
    | with_reducible assumption | with_reducible apply keeps_destConfirms | with_reducible apply keeps_nextPlace
    | with_reducible apply keeps_modifyLine | split | rfl | exact fun _ => ⟨rfl, rfl, rfl, rfl, rfl⟩
    | exact fun _ => ⟨rfl, rfl, rfl⟩ | exact id | with_reducible apply Keeps.foldl | intro _ | dsimp only
    | with_reducible apply Keeps.upd

theorem keeps_onPageRejected {n : Line} {s : State} (h : Keeps k s0 s) : Keeps k s0 (onPageRejected n s) := by
  unfold onPageRejected
  repeat' first
    | with_reducible assumption | with_reducible apply keeps_clearLine | split | rfl
    | exact fun _ => ⟨rfl, rfl, rfl, rfl, rfl⟩ | exact fun _ => ⟨rfl, rfl, rfl⟩ | exact id
    | with_reducible apply Keeps.foldl | intro _ | dsimp only | with_reducible apply Keeps.upd

theorem keeps_giveUpPage {d p : Nat} {s : State} (h : Keeps k s0 s) : Keeps k s0 (giveUpPage d p s) := by
  unfold giveUpPage
  repeat' first
    | with_reducible assumption | with_reducible apply keeps_recheckLines | with_reducible apply keeps_abandonPage
    | split | rfl | exact fun _ => ⟨rfl, rfl, rfl, rfl, rfl⟩ | exact fun _ => ⟨rfl, rfl, rfl⟩ | exact id
    | with_reducible apply Keeps.foldl | intro _ | dsimp only | with_reducible apply Keeps.upd

theorem keeps_sealPage {p lc lines : Nat} {s : State} (h : Keeps k s0 s) : Keeps k s0 (sealPage p lc lines s) := by
  unfold sealPage
  repeat' first
    | with_reducible assumption | with_reducible apply keeps_giveUpPage | with_reducible apply keeps_testPageFree
    | with_reducible apply keeps_occasion | with_reducible apply keeps_recheckLines
    | with_reducible apply keeps_sealRecord | split | rfl | exact fun _ => ⟨rfl, rfl, rfl, rfl, rfl⟩
    | exact fun _ => ⟨rfl, rfl, rfl⟩ | exact id | with_reducible apply Keeps.foldl | intro _ | dsimp only
    | with_reducible apply Keeps.upd

theorem keeps_setStoreLimits {sl : Slot} {s : State} (h : Keeps k s0 s) : Keeps k s0 (setStoreLimits sl s).1 := by
  unfold setStoreLimits
  extract_lets v1 v2 v3 v4 v5 v6 v7
  repeat' first
    | with_reducible assumption | split | rfl | exact fun _ => ⟨rfl, rfl, rfl, rfl, rfl⟩
    | exact fun _ => ⟨rfl, rfl, rfl⟩ | exact id | with_reducible apply Keeps.foldl | intro _ | dsimp only
    | with_reducible apply Keeps.upd

theorem keeps_setScanProfile {sl : Slot} {s : State} (h : Keeps k s0 s) : Keeps k s0 (setScanProfile sl s).1 := by
  unfold setScanProfile
  extract_lets v1 v2
  repeat' first
    | with_reducible assumption | split | rfl | exact fun _ => ⟨rfl, rfl, rfl, rfl, rfl⟩
    | exact fun _ => ⟨rfl, rfl, rfl⟩ | exact id | with_reducible apply Keeps.foldl | intro _ | dsimp only
    | with_reducible apply Keeps.upd

theorem keeps_storeAccess {a : BusAccess} {s : State} (h : Keeps k s0 s) : Keeps k s0 (storeAccess a s) := by
  unfold storeAccess
  repeat' first
    | with_reducible assumption | with_reducible apply keeps_store | split | rfl
    | exact fun _ => ⟨rfl, rfl, rfl, rfl, rfl⟩ | exact fun _ => ⟨rfl, rfl, rfl⟩ | exact id
    | with_reducible apply Keeps.foldl | intro _ | dsimp only | with_reducible apply Keeps.upd

theorem keeps_lastPixelReport {g : RawGeom} {j : Nat} {s : State}
    (h : Keeps k s0 s) : Keeps k s0 (lastPixelReport g j s) := by
  unfold lastPixelReport
  extract_lets v1 v2
  repeat' first
    | with_reducible assumption | with_reducible apply keeps_post | split | rfl
    | exact fun _ => ⟨rfl, rfl, rfl, rfl, rfl⟩ | exact fun _ => ⟨rfl, rfl, rfl⟩ | exact id
    | with_reducible apply Keeps.foldl | intro _ | dsimp only | with_reducible apply Keeps.upd

theorem keeps_rawWatch {off : Nat} {s : State} (h : Keeps k s0 s) : Keeps k s0 (rawWatch off s) := by
  unfold rawWatch
  extract_lets v1
  repeat' first
    | with_reducible assumption | with_reducible apply keeps_lastPixelReport | split | rfl
    | exact fun _ => ⟨rfl, rfl, rfl, rfl, rfl⟩ | exact fun _ => ⟨rfl, rfl, rfl⟩ | exact id
    | with_reducible apply Keeps.foldl | intro _ | dsimp only | with_reducible apply Keeps.upd

theorem keeps_passWrite {a : BusAccess} {s : State} (h : Keeps k s0 s) : Keeps k s0 (passWrite a s) := by
  unfold passWrite
  repeat' first
    | with_reducible assumption | with_reducible apply keeps_rawWatch | with_reducible apply keeps_storeAccess | split
    | rfl | exact fun _ => ⟨rfl, rfl, rfl, rfl, rfl⟩ | exact fun _ => ⟨rfl, rfl, rfl⟩ | exact id
    | with_reducible apply Keeps.foldl | intro _ | dsimp only | with_reducible apply Keeps.upd

theorem keeps_releaseScanHold {s : State} (h : Keeps k s0 s) : Keeps k s0 (releaseScanHold s) := by
  unfold releaseScanHold
  extract_lets v1
  repeat' first
    | with_reducible assumption | with_reducible apply keeps_passWrite | split | rfl
    | exact fun _ => ⟨rfl, rfl, rfl, rfl, rfl⟩ | exact fun _ => ⟨rfl, rfl, rfl⟩ | exact id
    | with_reducible apply Keeps.foldl | intro _ | dsimp only | with_reducible apply Keeps.upd

theorem keeps_advanceTake {s : State} (h : Keeps k s0 s) : Keeps k s0 (advanceTake s) := by
  unfold advanceTake
  extract_lets v1 v2 v3
  repeat' first
    | with_reducible assumption | with_reducible apply keeps_releaseScanHold | with_reducible apply keeps_take | split
    | rfl | exact fun _ => ⟨rfl, rfl, rfl, rfl, rfl⟩ | exact fun _ => ⟨rfl, rfl, rfl⟩ | exact id
    | with_reducible apply Keeps.foldl | intro _ | dsimp only | with_reducible apply Keeps.upd

theorem keeps_voidStarted {s : State} (h : Keeps k s0 s) : Keeps k s0 (voidStarted s) := by
  unfold voidStarted
  extract_lets v1
  repeat' first
    | with_reducible assumption | split | rfl | exact fun _ => ⟨rfl, rfl, rfl, rfl, rfl⟩
    | exact fun _ => ⟨rfl, rfl, rfl⟩ | exact id | with_reducible apply Keeps.foldl | intro _ | dsimp only
    | with_reducible apply Keeps.upd

theorem keeps_endScan {s : State} (h : Keeps k s0 s) : Keeps k s0 (endScan s) := by
  unfold endScan
  extract_lets v1 v2
  repeat' first
    | with_reducible assumption | with_reducible apply keeps_releaseScanHold | with_reducible apply keeps_take | split
    | rfl | exact fun _ => ⟨rfl, rfl, rfl, rfl, rfl⟩ | exact fun _ => ⟨rfl, rfl, rfl⟩ | exact id
    | with_reducible apply Keeps.foldl | intro _ | dsimp only | with_reducible apply Keeps.upd

theorem keeps_sealOpenPage {s : State} (h : Keeps k s0 s) : Keeps k s0 (sealOpenPage s) := by
  unfold sealOpenPage
  extract_lets v1 v2
  repeat' first
    | with_reducible assumption | with_reducible apply keeps_sealPage | split | rfl
    | exact fun _ => ⟨rfl, rfl, rfl, rfl, rfl⟩ | exact fun _ => ⟨rfl, rfl, rfl⟩ | exact id
    | with_reducible apply Keeps.foldl | intro _ | dsimp only | with_reducible apply Keeps.upd

theorem keeps_faultPage {s : State} (h : Keeps k s0 s) : Keeps k s0 (faultPage s).1 := by
  unfold faultPage
  extract_lets v1
  repeat' first
    | with_reducible assumption | with_reducible apply keeps_giveUpPage | with_reducible apply keeps_sealOpenPage
    | with_reducible apply keeps_markTruncated | split | rfl | exact fun _ => ⟨rfl, rfl, rfl, rfl, rfl⟩
    | exact fun _ => ⟨rfl, rfl, rfl⟩ | exact id | with_reducible apply Keeps.foldl | intro _ | dsimp only
    | with_reducible apply Keeps.upd

theorem keeps_scanFault {f : ScanFault} {s : State} (h : Keeps k s0 s) : Keeps k s0 (scanFault f s) := by
  unfold scanFault
  extract_lets v1 v2 v3
  have h3 : Keeps k s0 v3.1 := by
    dsimp only [v3]
    repeat' first
      | with_reducible assumption | with_reducible apply keeps_faultPage | with_reducible apply keeps_post
      | with_reducible apply keeps_endScan | split | rfl | exact fun _ => ⟨rfl, rfl, rfl, rfl, rfl⟩
      | exact fun _ => ⟨rfl, rfl, rfl⟩ | exact id | with_reducible apply Keeps.foldl | intro _ | dsimp only
      | with_reducible apply Keeps.upd
  try clear_value v3
  repeat' first
    | with_reducible assumption | with_reducible apply keeps_faultPage | with_reducible apply keeps_post
    | with_reducible apply keeps_endScan | split | rfl | exact fun _ => ⟨rfl, rfl, rfl, rfl, rfl⟩
    | exact fun _ => ⟨rfl, rfl, rfl⟩ | exact id | with_reducible apply Keeps.foldl | intro _ | dsimp only
    | with_reducible apply Keeps.upd

theorem keeps_appendLine {dots : List Bool} {s : State} (h : Keeps k s0 s) : Keeps k s0 (appendLine dots s) := by
  unfold appendLine
  repeat' first
    | with_reducible assumption | with_reducible apply keeps_giveSegments | with_reducible apply keeps_writeStream
    | with_reducible apply keeps_scanFault | split | rfl | exact fun _ => ⟨rfl, rfl, rfl, rfl, rfl⟩
    | exact fun _ => ⟨rfl, rfl, rfl⟩ | exact id | with_reducible apply Keeps.foldl | intro _ | dsimp only
    | with_reducible apply Keeps.upd

theorem keeps_testHeight {s : State} (h : Keeps k s0 s) : Keeps k s0 (testHeight s) := by
  unfold testHeight
  extract_lets v1 v2
  repeat' first
    | with_reducible assumption | with_reducible apply keeps_sealOpenPage | split | rfl
    | exact fun _ => ⟨rfl, rfl, rfl, rfl, rfl⟩ | exact fun _ => ⟨rfl, rfl, rfl⟩ | exact id
    | with_reducible apply Keeps.foldl | intro _ | dsimp only | with_reducible apply Keeps.upd

theorem keeps_takeLine {prof : Profile} {s : State} (h : Keeps k s0 s) : Keeps k s0 (takeLine prof s) := by
  unfold takeLine
  extract_lets v1 v2 v3 v4 v5 v6 v7 v8
  have h5 : Keeps k s0 v5 := by
    dsimp only [v5]
    repeat' first
      | with_reducible assumption | with_reducible apply keeps_modifyPage | with_reducible apply keeps_advanceTake
      | with_reducible apply keeps_testHeight | with_reducible apply keeps_appendLine | split | rfl
      | exact fun _ => ⟨rfl, rfl, rfl, rfl, rfl⟩ | exact fun _ => ⟨rfl, rfl, rfl⟩ | exact id
      | with_reducible apply Keeps.foldl | intro _ | dsimp only | with_reducible apply Keeps.upd
  try clear_value v5
  have h7 : Keeps k s0 v7 := by
    dsimp only [v7]
    repeat' first
      | with_reducible assumption | with_reducible apply keeps_modifyPage | with_reducible apply keeps_advanceTake
      | with_reducible apply keeps_testHeight | with_reducible apply keeps_appendLine | split | rfl
      | exact fun _ => ⟨rfl, rfl, rfl, rfl, rfl⟩ | exact fun _ => ⟨rfl, rfl, rfl⟩ | exact id
      | with_reducible apply Keeps.foldl | intro _ | dsimp only | with_reducible apply Keeps.upd
  try clear_value v7
  repeat' first
    | with_reducible assumption | with_reducible apply keeps_modifyPage | with_reducible apply keeps_advanceTake
    | with_reducible apply keeps_testHeight | with_reducible apply keeps_appendLine | split | rfl
    | exact fun _ => ⟨rfl, rfl, rfl, rfl, rfl⟩ | exact fun _ => ⟨rfl, rfl, rfl⟩ | exact id
    | with_reducible apply Keeps.foldl | intro _ | dsimp only | with_reducible apply Keeps.upd

theorem keeps_newPage {doc : Nat} {prof : Profile} {s : State}
    (h : Keeps k s0 s) : Keeps k s0 (newPage doc prof s) := by
  unfold newPage
  repeat' first
    | with_reducible assumption | with_reducible apply keeps_scanFault
    | with_reducible apply (keeps_startPage_pair (e := by assumption))
    | with_reducible apply (keeps_startPage (e := by assumption))
    | with_reducible apply (keeps_giveSegment (e := by assumption)) | with_reducible apply keeps_joinHolds | split
    | rfl | exact fun _ => ⟨rfl, rfl, rfl, rfl, rfl⟩ | exact fun _ => ⟨rfl, rfl, rfl⟩ | exact id
    | with_reducible apply Keeps.foldl | intro _ | dsimp only | with_reducible apply Keeps.upd

theorem keeps_extraLine {s : State} (h : Keeps k s0 s) : Keeps k s0 (extraLine s) := by
  unfold extraLine
  extract_lets v1 v2 v3
  have h2 : Keeps k s0 v2 := by
    dsimp only [v2]
    repeat' first
      | with_reducible assumption | with_reducible apply keeps_advanceTake | with_reducible apply keeps_post | split
      | rfl | exact fun _ => ⟨rfl, rfl, rfl, rfl, rfl⟩ | exact fun _ => ⟨rfl, rfl, rfl⟩ | exact id
      | with_reducible apply Keeps.foldl | intro _ | dsimp only | with_reducible apply Keeps.upd
  try clear_value v2
  repeat' first
    | with_reducible assumption | with_reducible apply keeps_advanceTake | with_reducible apply keeps_post | split
    | rfl | exact fun _ => ⟨rfl, rfl, rfl, rfl, rfl⟩ | exact fun _ => ⟨rfl, rfl, rfl⟩ | exact id
    | with_reducible apply Keeps.foldl | intro _ | dsimp only | with_reducible apply Keeps.upd

theorem keeps_takeSlot {s : State} (h : Keeps k s0 s) : Keeps k s0 (takeSlot s) := by
  unfold takeSlot
  repeat' first
    | with_reducible assumption | with_reducible apply keeps_advanceTake | with_reducible apply keeps_extraLine
    | with_reducible apply keeps_takeLine | with_reducible apply keeps_newPage | split | rfl
    | exact fun _ => ⟨rfl, rfl, rfl, rfl, rfl⟩ | exact fun _ => ⟨rfl, rfl, rfl⟩ | exact id
    | with_reducible apply Keeps.foldl | intro _ | dsimp only | with_reducible apply Keeps.upd

theorem keeps_takeSlots (n : Nat) {s : State} (h : Keeps k s0 s) : Keeps k s0 (takeSlots n s) := by
  induction n generalizing s with
  | zero => exact h
  | succ n ih => exact ih (keeps_takeSlot h)

theorem keeps_finishPage {s : State} (h : Keeps k s0 s) : Keeps k s0 (finishPage s) := by
  unfold finishPage
  extract_lets v1
  repeat' first
    | with_reducible assumption | with_reducible apply keeps_appendLine | with_reducible apply keeps_sealOpenPage
    | split | rfl | exact fun _ => ⟨rfl, rfl, rfl, rfl, rfl⟩ | exact fun _ => ⟨rfl, rfl, rfl⟩ | exact id
    | with_reducible apply Keeps.foldl | intro _ | dsimp only | with_reducible apply Keeps.upd

theorem keeps_beginScan {sl : Slot} {s : State} (h : Keeps k s0 s) : Keeps k s0 (beginScan sl s).1 := by
  unfold beginScan
  extract_lets v1 v2 v3 v4 v5
  repeat' first
    | with_reducible assumption | with_reducible apply keeps_take | split | rfl
    | exact fun _ => ⟨rfl, rfl, rfl, rfl, rfl⟩ | exact fun _ => ⟨rfl, rfl, rfl⟩ | exact id
    | with_reducible apply Keeps.foldl | intro _ | dsimp only | with_reducible apply Keeps.upd

theorem keeps_toBoundary {s : State} (h : Keeps k s0 s) : Keeps k s0 (toBoundary s) := by
  unfold toBoundary
  extract_lets v1
  repeat' first
    | with_reducible assumption | with_reducible apply keeps_finishPage | with_reducible apply keeps_takeSlots
    | with_reducible apply keeps_voidStarted | split | rfl | exact fun _ => ⟨rfl, rfl, rfl, rfl, rfl⟩
    | exact fun _ => ⟨rfl, rfl, rfl⟩ | exact id | with_reducible apply Keeps.foldl | intro _ | dsimp only
    | with_reducible apply Keeps.upd

theorem keeps_endPage {sl : Slot} {s : State} (h : Keeps k s0 s) : Keeps k s0 (endPage sl s).1 := by
  unfold endPage
  extract_lets v1 v2 v3 v4 v5
  have h2 : Keeps k s0 v2 := by
    dsimp only [v2]
    repeat' first
      | with_reducible assumption | with_reducible apply keeps_toBoundary | split | rfl
      | exact fun _ => ⟨rfl, rfl, rfl, rfl, rfl⟩ | exact fun _ => ⟨rfl, rfl, rfl⟩ | exact id
      | with_reducible apply Keeps.foldl | intro _ | dsimp only | with_reducible apply Keeps.upd
  try clear_value v2
  have h3 : Keeps k s0 v3 := by
    dsimp only [v3]
    repeat' first
      | with_reducible assumption | with_reducible apply keeps_toBoundary | split | rfl
      | exact fun _ => ⟨rfl, rfl, rfl, rfl, rfl⟩ | exact fun _ => ⟨rfl, rfl, rfl⟩ | exact id
      | with_reducible apply Keeps.foldl | intro _ | dsimp only | with_reducible apply Keeps.upd
  try clear_value v3
  have h5 : Keeps k s0 v5 := by
    dsimp only [v5]
    repeat' first
      | with_reducible assumption | with_reducible apply keeps_toBoundary | split | rfl
      | exact fun _ => ⟨rfl, rfl, rfl, rfl, rfl⟩ | exact fun _ => ⟨rfl, rfl, rfl⟩ | exact id
      | with_reducible apply Keeps.foldl | intro _ | dsimp only | with_reducible apply Keeps.upd
  try clear_value v5
  repeat' first
    | with_reducible assumption | with_reducible apply keeps_toBoundary | split | rfl
    | exact fun _ => ⟨rfl, rfl, rfl, rfl, rfl⟩ | exact fun _ => ⟨rfl, rfl, rfl⟩ | exact id
    | with_reducible apply Keeps.foldl | intro _ | dsimp only | with_reducible apply Keeps.upd

theorem keeps_endScanCommand {sl : Slot} {s : State} (h : Keeps k s0 s) : Keeps k s0 (endScanCommand sl s).1 := by
  unfold endScanCommand
  extract_lets v1
  have h1 : Keeps k s0 v1 := by
    dsimp only [v1]
    repeat' first
      | with_reducible assumption | with_reducible apply keeps_toBoundary | with_reducible apply keeps_endScan | split
      | rfl | exact fun _ => ⟨rfl, rfl, rfl, rfl, rfl⟩ | exact fun _ => ⟨rfl, rfl, rfl⟩ | exact id
      | with_reducible apply Keeps.foldl | intro _ | dsimp only | with_reducible apply Keeps.upd
  try clear_value v1
  repeat' first
    | with_reducible assumption | with_reducible apply keeps_toBoundary | with_reducible apply keeps_endScan | split
    | rfl | exact fun _ => ⟨rfl, rfl, rfl, rfl, rfl⟩ | exact fun _ => ⟨rfl, rfl, rfl⟩ | exact id
    | with_reducible apply Keeps.foldl | intro _ | dsimp only | with_reducible apply Keeps.upd

theorem keeps_cutScan {s : State} (h : Keeps k s0 s) : Keeps k s0 (cutScan s) := by
  unfold cutScan
  repeat' first
    | with_reducible assumption | with_reducible apply keeps_endScan | with_reducible apply keeps_finishPage | split
    | rfl | exact fun _ => ⟨rfl, rfl, rfl, rfl, rfl⟩ | exact fun _ => ⟨rfl, rfl, rfl⟩ | exact id
    | with_reducible apply Keeps.foldl | intro _ | dsimp only | with_reducible apply Keeps.upd

theorem keeps_idleSent {j places : Nat} {s : State} (h : Keeps k s0 s) : Keeps k s0 (idleSent j places s) := by
  unfold idleSent
  repeat' first
    | with_reducible assumption | with_reducible apply keeps_destSent | split | rfl
    | exact fun _ => ⟨rfl, rfl, rfl, rfl, rfl⟩ | exact fun _ => ⟨rfl, rfl, rfl⟩ | exact id
    | with_reducible apply Keeps.foldl | intro _ | dsimp only | with_reducible apply Keeps.upd

theorem keeps_listFinal {test : Nat → State → State} {d : Nat} {s : State} (h : Keeps k s0 s)
    (ht : ∀ j t, Keeps k s0 t → Keeps k s0 (test j t)) : Keeps k s0 (listFinal test d s) := by
  unfold listFinal
  exact keeps_occasion (keeps_recheckLines (Keeps.foldl h fun t j hj => ht j _ (keeps_idleSent hj)))

theorem keeps_beginDelete {d : Nat} {s : State} (h : Keeps k s0 s) : Keeps k s0 (beginDelete d s) := by
  unfold beginDelete
  extract_lets v1 v2
  have h1 : Keeps k s0 v1 := by
    dsimp only [v1]
    repeat' first
      | with_reducible assumption | with_reducible apply keeps_cutScan | with_reducible apply keeps_modifyDoc
      | with_reducible apply keeps_testPageFree | split | rfl | exact fun _ => ⟨rfl, rfl, rfl, rfl, rfl⟩
      | exact fun _ => ⟨rfl, rfl, rfl⟩ | exact id | with_reducible apply Keeps.foldl | intro _ | dsimp only
      | with_reducible apply Keeps.upd
  try clear_value v1
  have h2 : Keeps k s0 v2 := by
    dsimp only [v2]
    repeat' first
      | with_reducible assumption | with_reducible apply keeps_cutScan | with_reducible apply keeps_modifyDoc
      | with_reducible apply keeps_testPageFree | split | rfl | exact fun _ => ⟨rfl, rfl, rfl, rfl, rfl⟩
      | exact fun _ => ⟨rfl, rfl, rfl⟩ | exact id | with_reducible apply Keeps.foldl | intro _ | dsimp only
      | with_reducible apply Keeps.upd
  try clear_value v2
  repeat' first
    | with_reducible assumption | with_reducible apply keeps_cutScan | with_reducible apply keeps_modifyDoc
    | with_reducible apply keeps_testPageFree | split | rfl | exact fun _ => ⟨rfl, rfl, rfl, rfl, rfl⟩
    | exact fun _ => ⟨rfl, rfl, rfl⟩ | exact id | with_reducible apply Keeps.foldl | intro _ | dsimp only
    | with_reducible apply Keeps.upd

theorem keeps_finishDelete {d : Nat} {s : State} (h : Keeps k s0 s) : Keeps k s0 (finishDelete d s) := by
  unfold finishDelete; exact keeps_testDocFree (keeps_listFinal h fun _ _ => keeps_testJobEnd)

theorem keeps_deleteDoc {d : Nat} {s : State} (h : Keeps k s0 s) : Keeps k s0 (deleteDoc d s) := by
  unfold deleteDoc
  repeat' first
    | with_reducible assumption | with_reducible apply keeps_finishDelete | with_reducible apply keeps_beginDelete
    | split | rfl | exact fun _ => ⟨rfl, rfl, rfl, rfl, rfl⟩ | exact fun _ => ⟨rfl, rfl, rfl⟩ | exact id
    | with_reducible apply Keeps.foldl | intro _ | dsimp only | with_reducible apply Keeps.upd

theorem keeps_testJob {j : Nat} {s : State} (h : Keeps k s0 s) : Keeps k s0 (testJob j s) := by
  unfold testJob
  repeat' first
    | with_reducible assumption | with_reducible apply keeps_endJob | with_reducible apply keeps_deleteDoc | split
    | rfl | exact fun _ => ⟨rfl, rfl, rfl, rfl, rfl⟩ | exact fun _ => ⟨rfl, rfl, rfl⟩ | exact id
    | with_reducible apply Keeps.foldl | intro _ | dsimp only | with_reducible apply Keeps.upd

theorem keeps_testAutoDelete {d : Nat} {s : State} (h : Keeps k s0 s) : Keeps k s0 (testAutoDelete d s) := by
  unfold testAutoDelete
  repeat' first
    | with_reducible assumption | with_reducible apply keeps_deleteDoc | split | rfl
    | exact fun _ => ⟨rfl, rfl, rfl, rfl, rfl⟩ | exact fun _ => ⟨rfl, rfl, rfl⟩ | exact id
    | with_reducible apply Keeps.foldl | intro _ | dsimp only | with_reducible apply Keeps.upd

theorem keeps_openDocument {sl : Slot} {s : State} (h : Keeps k s0 s) : Keeps k s0 (openDocument sl s).1 := by
  unfold openDocument
  repeat' first
    | with_reducible assumption | with_reducible apply keeps_putDoc | split | rfl
    | exact fun _ => ⟨rfl, rfl, rfl, rfl, rfl⟩ | exact fun _ => ⟨rfl, rfl, rfl⟩ | exact id
    | with_reducible apply Keeps.foldl | intro _ | dsimp only | with_reducible apply Keeps.upd

theorem keeps_closeDocument {sl : Slot} {s : State} (h : Keeps k s0 s) : Keeps k s0 (closeDocument sl s).1 := by
  have hl : ∀ d t, Keeps k s0 t → Keeps k s0 (listFinal testJob d t) := fun d t ht => keeps_listFinal ht fun _ _ => keeps_testJob
  unfold closeDocument
  repeat' first
    | with_reducible assumption | with_reducible apply hl | with_reducible apply keeps_putDoc | split | rfl
    | exact fun _ => ⟨rfl, rfl, rfl, rfl, rfl⟩ | exact fun _ => ⟨rfl, rfl, rfl⟩ | exact id
    | with_reducible apply Keeps.foldl | intro _ | dsimp only | with_reducible apply Keeps.upd

theorem keeps_deleteDocument {sl : Slot} {s : State} (h : Keeps k s0 s) : Keeps k s0 (deleteDocument sl s).1 := by
  unfold deleteDocument
  extract_lets v1 v2 v3
  have h2 : Keeps k s0 v2 := by
    dsimp only [v2]
    repeat' first
      | with_reducible assumption | with_reducible apply keeps_beginDelete | with_reducible apply keeps_finishDelete
      | split | rfl | exact fun _ => ⟨rfl, rfl, rfl, rfl, rfl⟩ | exact fun _ => ⟨rfl, rfl, rfl⟩ | exact id
      | with_reducible apply Keeps.foldl | intro _ | dsimp only | with_reducible apply Keeps.upd
  try clear_value v2
  repeat' first
    | with_reducible assumption | with_reducible apply keeps_beginDelete | with_reducible apply keeps_finishDelete
    | split | rfl | exact fun _ => ⟨rfl, rfl, rfl, rfl, rfl⟩ | exact fun _ => ⟨rfl, rfl, rfl⟩ | exact id
    | with_reducible apply Keeps.foldl | intro _ | dsimp only | with_reducible apply Keeps.upd

theorem keeps_giveDests (job i : Nat) (ks : List Nat) (dss : List (List Byte)) {s : State} (h : Keeps k s0 s) :
    Keeps k s0 (giveDests job i ks dss s) := by
  induction ks generalizing i dss s with
  | nil => exact h
  | cons q ks ih =>
    cases dss with
    | nil => exact h
    | cons ds dss => exact ih _ _ (keeps_putDest h)

theorem keeps_acceptJob {sl : Slot} {j : Nat} {ds : List (List Byte)} {s : State}
    (h : Keeps k s0 s) : Keeps k s0 (acceptJob sl j ds s) := by
  unfold acceptJob
  extract_lets v1 v2 v3 v4 v5 v6 v7 v8
  have h5 : Keeps k s0 v5 := by
    dsimp only [v5]
    repeat' first
      | with_reducible assumption | with_reducible apply keeps_putJob | with_reducible apply keeps_giveDests
      | with_reducible apply keeps_take | with_reducible apply keeps_modifyDoc | with_reducible apply keeps_occasion
      | with_reducible apply keeps_changeSendHolds | split | rfl | exact fun _ => ⟨rfl, rfl, rfl, rfl, rfl⟩
      | exact fun _ => ⟨rfl, rfl, rfl⟩ | exact id | with_reducible apply Keeps.foldl | intro _ | dsimp only
      | with_reducible apply Keeps.upd
  try clear_value v5
  have h6 : Keeps k s0 v6 := by
    dsimp only [v6]
    repeat' first
      | with_reducible assumption | with_reducible apply keeps_putJob | with_reducible apply keeps_giveDests
      | with_reducible apply keeps_take | with_reducible apply keeps_modifyDoc | with_reducible apply keeps_occasion
      | with_reducible apply keeps_changeSendHolds | split | rfl | exact fun _ => ⟨rfl, rfl, rfl, rfl, rfl⟩
      | exact fun _ => ⟨rfl, rfl, rfl⟩ | exact id | with_reducible apply Keeps.foldl | intro _ | dsimp only
      | with_reducible apply Keeps.upd
  try clear_value v6
  have h7 : Keeps k s0 v7 := by
    dsimp only [v7]
    repeat' first
      | with_reducible assumption | with_reducible apply keeps_putJob | with_reducible apply keeps_giveDests
      | with_reducible apply keeps_take | with_reducible apply keeps_modifyDoc | with_reducible apply keeps_occasion
      | with_reducible apply keeps_changeSendHolds | split | rfl | exact fun _ => ⟨rfl, rfl, rfl, rfl, rfl⟩
      | exact fun _ => ⟨rfl, rfl, rfl⟩ | exact id | with_reducible apply Keeps.foldl | intro _ | dsimp only
      | with_reducible apply Keeps.upd
  try clear_value v7
  repeat' first
    | with_reducible assumption | with_reducible apply keeps_putJob | with_reducible apply keeps_giveDests
    | with_reducible apply keeps_take | with_reducible apply keeps_modifyDoc | with_reducible apply keeps_occasion
    | with_reducible apply keeps_changeSendHolds | split | rfl | exact fun _ => ⟨rfl, rfl, rfl, rfl, rfl⟩
    | exact fun _ => ⟨rfl, rfl, rfl⟩ | exact id | with_reducible apply Keeps.foldl | intro _ | dsimp only
    | with_reducible apply Keeps.upd

theorem keeps_submitJob {sl : Slot} {s : State} (h : Keeps k s0 s) : Keeps k s0 (submitJob sl s).1 := by
  unfold submitJob
  repeat' first
    | with_reducible assumption | with_reducible apply keeps_acceptJob | split | rfl
    | exact fun _ => ⟨rfl, rfl, rfl, rfl, rfl⟩ | exact fun _ => ⟨rfl, rfl, rfl⟩ | exact id
    | with_reducible apply Keeps.foldl | intro _ | dsimp only | with_reducible apply Keeps.upd

theorem keeps_cancelDest {q : Nat} {s : State} (h : Keeps k s0 s) : Keeps k s0 (cancelDest q s) := by
  unfold cancelDest
  repeat' first
    | with_reducible assumption | with_reducible apply keeps_destGivenUp | with_reducible apply keeps_putDest
    | with_reducible apply keeps_endRequested | split | rfl | exact fun _ => ⟨rfl, rfl, rfl, rfl, rfl⟩
    | exact fun _ => ⟨rfl, rfl, rfl⟩ | exact id | with_reducible apply Keeps.foldl | intro _ | dsimp only
    | with_reducible apply Keeps.upd

theorem keeps_cancelJob {sl : Slot} {s : State} (h : Keeps k s0 s) : Keeps k s0 (cancelJob sl s).1 := by
  unfold cancelJob
  extract_lets v1
  repeat' first
    | with_reducible assumption | with_reducible apply keeps_putJob | with_reducible apply keeps_cancelDest
    | with_reducible apply keeps_testJob | split | rfl | exact fun _ => ⟨rfl, rfl, rfl, rfl, rfl⟩
    | exact fun _ => ⟨rfl, rfl, rfl⟩ | exact id | with_reducible apply Keeps.foldl | intro _ | dsimp only
    | with_reducible apply Keeps.upd

theorem keeps_cancelDestination {sl : Slot} {s : State}
    (h : Keeps k s0 s) : Keeps k s0 (cancelDestination sl s).1 := by
  unfold cancelDestination
  extract_lets v1
  repeat' first
    | with_reducible assumption | with_reducible apply keeps_testJob | with_reducible apply keeps_cancelDest | split
    | rfl | exact fun _ => ⟨rfl, rfl, rfl, rfl, rfl⟩ | exact fun _ => ⟨rfl, rfl, rfl⟩ | exact id
    | with_reducible apply Keeps.foldl | intro _ | dsimp only | with_reducible apply Keeps.upd

theorem keeps_holdJob {sl : Slot} {s : State} (h : Keeps k s0 s) : Keeps k s0 (holdJob sl s).1 := by
  unfold holdJob
  repeat' first
    | with_reducible assumption | with_reducible apply keeps_putJob | split | rfl
    | exact fun _ => ⟨rfl, rfl, rfl, rfl, rfl⟩ | exact fun _ => ⟨rfl, rfl, rfl⟩ | exact id
    | with_reducible apply Keeps.foldl | intro _ | dsimp only | with_reducible apply Keeps.upd

theorem keeps_releaseJob {sl : Slot} {s : State} (h : Keeps k s0 s) : Keeps k s0 (releaseJob sl s).1 := by
  unfold releaseJob
  repeat' first
    | with_reducible assumption | with_reducible apply keeps_occasion | with_reducible apply keeps_putJob | split
    | rfl | exact fun _ => ⟨rfl, rfl, rfl, rfl, rfl⟩ | exact fun _ => ⟨rfl, rfl, rfl⟩ | exact id
    | with_reducible apply Keeps.foldl | intro _ | dsimp only | with_reducible apply Keeps.upd

theorem keeps_setRetryPolicy {sl : Slot} {s : State} (h : Keeps k s0 s) : Keeps k s0 (setRetryPolicy sl s).1 := by
  unfold setRetryPolicy
  extract_lets v1 v2 v3
  repeat' first
    | with_reducible assumption | split | rfl | exact fun _ => ⟨rfl, rfl, rfl, rfl, rfl⟩
    | exact fun _ => ⟨rfl, rfl, rfl⟩ | exact id | with_reducible apply Keeps.foldl | intro _ | dsimp only
    | with_reducible apply Keeps.upd

theorem keeps_startCall {n : Line} {q : Nat} {s : State} (h : Keeps k s0 s) : Keeps k s0 (startCall n q s) := by
  unfold startCall
  repeat' first
    | with_reducible assumption | with_reducible apply keeps_reserveCall | with_reducible apply keeps_putDest
    | with_reducible apply keeps_startSession | with_reducible apply keeps_putJob | split | rfl
    | exact fun _ => ⟨rfl, rfl, rfl, rfl, rfl⟩ | exact fun _ => ⟨rfl, rfl, rfl⟩ | exact id
    | with_reducible apply Keeps.foldl | intro _ | dsimp only | with_reducible apply Keeps.upd

theorem keeps_schedule (n : Nat) {s : State} (h : Keeps k s0 s) : Keeps k s0 (schedule n s) := by
  induction n generalizing s with
  | zero => exact h
  | succ n ih =>
    unfold schedule
    split
    · exact ih (keeps_startCall h)
    · exact h

theorem keeps_createEntry {e d copies tray cls : Nat} {s : State}
    (h : Keeps k s0 s) : Keeps k s0 (createEntry e d copies tray cls s) := by
  unfold createEntry
  extract_lets v1 v2 v3 v4 v5
  have h4 : Keeps k s0 v4 := by
    dsimp only [v4]
    repeat' first
      | with_reducible assumption | with_reducible apply keeps_putEntry | with_reducible apply keeps_modifyDoc
      | with_reducible apply keeps_changePrintHolds | split | rfl | exact fun _ => ⟨rfl, rfl, rfl, rfl, rfl⟩
      | exact fun _ => ⟨rfl, rfl, rfl⟩ | exact id | with_reducible apply Keeps.foldl | intro _ | dsimp only
      | with_reducible apply Keeps.upd
  try clear_value v4
  have h5 : Keeps k s0 v5 := by
    dsimp only [v5]
    repeat' first
      | with_reducible assumption | with_reducible apply keeps_putEntry | with_reducible apply keeps_modifyDoc
      | with_reducible apply keeps_changePrintHolds | split | rfl | exact fun _ => ⟨rfl, rfl, rfl, rfl, rfl⟩
      | exact fun _ => ⟨rfl, rfl, rfl⟩ | exact id | with_reducible apply Keeps.foldl | intro _ | dsimp only
      | with_reducible apply Keeps.upd
  try clear_value v5
  repeat' first
    | with_reducible assumption | with_reducible apply keeps_putEntry | with_reducible apply keeps_modifyDoc
    | with_reducible apply keeps_changePrintHolds | split | rfl | exact fun _ => ⟨rfl, rfl, rfl, rfl, rfl⟩
    | exact fun _ => ⟨rfl, rfl, rfl⟩ | exact id | with_reducible apply Keeps.foldl | intro _ | dsimp only
    | with_reducible apply Keeps.upd

theorem keeps_joinPrintHolds {d p : Nat} {s : State} (h : Keeps k s0 s) : Keeps k s0 (joinPrintHolds d p s) := by
  unfold joinPrintHolds
  extract_lets v1
  repeat' first
    | with_reducible assumption | with_reducible apply keeps_modifyPage | split | rfl
    | exact fun _ => ⟨rfl, rfl, rfl, rfl, rfl⟩ | exact fun _ => ⟨rfl, rfl, rfl⟩ | exact id
    | with_reducible apply Keeps.foldl | intro _ | dsimp only | with_reducible apply Keeps.upd

theorem keeps_dropPrintHolds {e : PrintEntry} {s : State} (h : Keeps k s0 s) : Keeps k s0 (dropPrintHolds e s) := by
  unfold dropPrintHolds
  repeat' first
    | with_reducible assumption | with_reducible apply keeps_changePrintHolds | split | rfl
    | exact fun _ => ⟨rfl, rfl, rfl, rfl, rfl⟩ | exact fun _ => ⟨rfl, rfl, rfl⟩ | exact id
    | with_reducible apply Keeps.foldl | intro _ | dsimp only | with_reducible apply Keeps.upd

theorem keeps_removeEntry {e : Nat} {cancelled : Bool} {s : State}
    (h : Keeps k s0 s) : Keeps k s0 (removeEntry e cancelled s) := by
  unfold removeEntry
  repeat' first
    | with_reducible assumption | with_reducible apply keeps_dropPrintHolds | with_reducible apply keeps_clearEntry
    | with_reducible apply keeps_testDocFree | with_reducible apply keeps_modifyDoc
    | with_reducible apply keeps_testAutoDelete | split | rfl | exact fun _ => ⟨rfl, rfl, rfl, rfl, rfl⟩
    | exact fun _ => ⟨rfl, rfl, rfl⟩ | exact id | with_reducible apply Keeps.foldl | intro _ | dsimp only
    | with_reducible apply Keeps.upd

theorem keeps_printDocument {sl : Slot} {s : State} (h : Keeps k s0 s) : Keeps k s0 (printDocument sl s).1 := by
  unfold printDocument
  extract_lets v1 v2 v3
  repeat' first
    | with_reducible assumption | with_reducible apply keeps_createEntry | split | rfl
    | exact fun _ => ⟨rfl, rfl, rfl, rfl, rfl⟩ | exact fun _ => ⟨rfl, rfl, rfl⟩ | exact id
    | with_reducible apply Keeps.foldl | intro _ | dsimp only | with_reducible apply Keeps.upd

theorem keeps_cancelPrint {sl : Slot} {s : State} (h : Keeps k s0 s) : Keeps k s0 (cancelPrint sl s).1 := by
  unfold cancelPrint
  extract_lets v1
  repeat' first
    | with_reducible assumption | with_reducible apply keeps_putEntry | with_reducible apply keeps_removeEntry | split
    | rfl | exact fun _ => ⟨rfl, rfl, rfl, rfl, rfl⟩ | exact fun _ => ⟨rfl, rfl, rfl⟩ | exact id
    | with_reducible apply Keeps.foldl | intro _ | dsimp only | with_reducible apply Keeps.upd

theorem keeps_loadRoute {sl : Slot} {s : State} (h : Keeps k s0 s) : Keeps k s0 (loadRoute sl s).1 := by
  unfold loadRoute
  extract_lets v1 v2 v3 v4 v5 v6 v7
  repeat' first
    | with_reducible assumption | with_reducible apply keeps_putRoute | with_reducible apply keeps_dropRoute | split | rfl
    | exact fun _ => ⟨rfl, rfl, rfl, rfl, rfl⟩ | exact fun _ => ⟨rfl, rfl, rfl⟩ | exact id
    | with_reducible apply Keeps.foldl | intro _ | dsimp only | with_reducible apply Keeps.upd

theorem keeps_setDefaultRoute {sl : Slot} {s : State} (h : Keeps k s0 s) : Keeps k s0 (setDefaultRoute sl s).1 := by
  unfold setDefaultRoute
  extract_lets v1 v2 v3
  repeat' first
    | with_reducible assumption | with_reducible apply keeps_putDefaultRoute | split | rfl
    | exact fun _ => ⟨rfl, rfl, rfl, rfl, rfl⟩ | exact fun _ => ⟨rfl, rfl, rfl⟩ | exact id
    | with_reducible apply Keeps.foldl | intro _ | dsimp only | with_reducible apply Keeps.upd

theorem keeps_setFilterBin {sl : Slot} {s : State} (h : Keeps k s0 s) : Keeps k s0 (setFilterBin sl s).1 := by
  unfold setFilterBin
  extract_lets v1 v2
  repeat' first
    | with_reducible assumption | with_reducible apply keeps_putFilter | split | rfl
    | exact fun _ => ⟨rfl, rfl, rfl, rfl, rfl⟩ | exact fun _ => ⟨rfl, rfl, rfl⟩ | exact id
    | with_reducible apply Keeps.foldl | intro _ | dsimp only | with_reducible apply Keeps.upd

theorem keeps_postRefused {n : Line} {why : RingRefusal} {s : State}
    (h : Keeps k s0 s) : Keeps k s0 (postRefused n why s) := by
  unfold postRefused
  repeat' first
    | with_reducible assumption | with_reducible apply keeps_post | split | rfl
    | exact fun _ => ⟨rfl, rfl, rfl, rfl, rfl⟩ | exact fun _ => ⟨rfl, rfl, rfl⟩ | exact id
    | with_reducible apply Keeps.foldl | intro _ | dsimp only | with_reducible apply Keeps.upd

theorem keeps_answerDoc {n : Line} {d : Nat} {r : Route} {called ident : List Byte} {s : State}
    (h : Keeps k s0 s) : Keeps k s0 (answerDoc n d r called ident s) := by
  unfold answerDoc
  extract_lets v1 v2
  have h2 : Keeps k s0 v2 := by
    dsimp only [v2]
    repeat' first
      | with_reducible assumption | with_reducible apply keeps_putDoc | with_reducible apply keeps_createEntry | split
      | rfl | exact fun _ => ⟨rfl, rfl, rfl, rfl, rfl⟩ | exact fun _ => ⟨rfl, rfl, rfl⟩ | exact id
      | with_reducible apply Keeps.foldl | intro _ | dsimp only | with_reducible apply Keeps.upd
  try clear_value v2
  repeat' first
    | with_reducible assumption | with_reducible apply keeps_putDoc | with_reducible apply keeps_createEntry | split
    | rfl | exact fun _ => ⟨rfl, rfl, rfl, rfl, rfl⟩ | exact fun _ => ⟨rfl, rfl, rfl⟩ | exact id
    | with_reducible apply Keeps.foldl | intro _ | dsimp only | with_reducible apply Keeps.upd

theorem keeps_releaseHeld {sl : Slot} {s : State} (h : Keeps k s0 s) : Keeps k s0 (releaseHeld sl s).1 := by
  unfold releaseHeld
  extract_lets v1
  repeat' first
    | with_reducible assumption | with_reducible apply keeps_testAutoDelete | with_reducible apply keeps_putDoc
    | with_reducible apply keeps_createEntry | split | rfl | exact fun _ => ⟨rfl, rfl, rfl, rfl, rfl⟩
    | exact fun _ => ⟨rfl, rfl, rfl⟩ | exact id | with_reducible apply Keeps.foldl | intro _ | dsimp only
    | with_reducible apply Keeps.upd

theorem keeps_endInbound {d : Nat} {whole : Bool} {s : State}
    (h : Keeps k s0 s) : Keeps k s0 (endInbound d whole s) := by
  unfold endInbound
  repeat' first
    | with_reducible assumption | with_reducible apply keeps_testAutoDelete | with_reducible apply keeps_post
    | with_reducible apply keeps_putDoc | split | rfl | exact fun _ => ⟨rfl, rfl, rfl, rfl, rfl⟩
    | exact fun _ => ⟨rfl, rfl, rfl⟩ | exact id | with_reducible apply Keeps.foldl | intro _ | dsimp only
    | with_reducible apply Keeps.upd

theorem keeps_setInLine {n : Nat} {r : InLine} {s : State} (h : Keeps k s0 s) : Keeps k s0 (setInLine n r s) := by
  unfold setInLine
  extract_lets v1
  repeat' first
    | with_reducible assumption | split | rfl | exact fun _ => ⟨rfl, rfl, rfl, rfl, rfl⟩
    | exact fun _ => ⟨rfl, rfl, rfl⟩ | exact id | with_reducible apply Keeps.foldl | intro _ | dsimp only
    | with_reducible apply Keeps.upd

theorem keeps_releaseBuffer {n : Nat} {s : State} (h : Keeps k s0 s) : Keeps k s0 (releaseBuffer n s) := by
  unfold releaseBuffer
  extract_lets v1
  repeat' first
    | with_reducible assumption | with_reducible apply keeps_setInLine | split | rfl
    | exact fun _ => ⟨rfl, rfl, rfl, rfl, rfl⟩ | exact fun _ => ⟨rfl, rfl, rfl⟩ | exact id
    | with_reducible apply Keeps.foldl | intro _ | dsimp only | with_reducible apply Keeps.upd

theorem keeps_giveUpStore {n : Line} {s : State} (h : Keeps k s0 s) : Keeps k s0 (giveUpStore n s) := by
  unfold giveUpStore
  extract_lets v1
  repeat' first
    | with_reducible assumption | with_reducible apply keeps_releaseBuffer | with_reducible apply keeps_setLine
    | split | rfl | exact fun _ => ⟨rfl, rfl, rfl, rfl, rfl⟩ | exact fun _ => ⟨rfl, rfl, rfl⟩ | exact id
    | with_reducible apply Keeps.foldl | intro _ | dsimp only | with_reducible apply Keeps.upd

theorem keeps_closePage {n : Line} {s : State} (h : Keeps k s0 s) : Keeps k s0 (closePage n s) := by
  unfold closePage
  repeat' first
    | with_reducible assumption | with_reducible apply keeps_sealPage | with_reducible apply keeps_modifyLine | split
    | rfl | exact fun _ => ⟨rfl, rfl, rfl, rfl, rfl⟩ | exact fun _ => ⟨rfl, rfl, rfl⟩ | exact id
    | with_reducible apply Keeps.foldl | intro _ | dsimp only | with_reducible apply Keeps.upd

theorem keeps_closeEarly {n : Line} {s : State} (h : Keeps k s0 s) : Keeps k s0 (closeEarly n s) := by
  unfold closeEarly
  extract_lets v1 v2
  have h1 : Keeps k s0 v1 := by
    dsimp only [v1]
    repeat' first
      | with_reducible assumption | with_reducible apply keeps_giveUpStore | with_reducible apply keeps_sealPage
      | with_reducible apply keeps_markTruncated | with_reducible apply keeps_modifyLine | split | rfl
      | exact fun _ => ⟨rfl, rfl, rfl, rfl, rfl⟩ | exact fun _ => ⟨rfl, rfl, rfl⟩ | exact id
      | with_reducible apply Keeps.foldl | intro _ | dsimp only | with_reducible apply Keeps.upd
  try clear_value v1
  repeat' first
    | with_reducible assumption | with_reducible apply keeps_giveUpStore | with_reducible apply keeps_sealPage
    | with_reducible apply keeps_markTruncated | with_reducible apply keeps_modifyLine | split | rfl
    | exact fun _ => ⟨rfl, rfl, rfl, rfl, rfl⟩ | exact fun _ => ⟨rfl, rfl, rfl⟩ | exact id
    | with_reducible apply Keeps.foldl | intro _ | dsimp only | with_reducible apply Keeps.upd

theorem keeps_beginPage {n : Line} {cls : WidthClass} {res : Resolution} {s : State}
    (h : Keeps k s0 s) : Keeps k s0 (beginPage n cls res s) := by
  unfold beginPage
  extract_lets v1
  have h1 : Keeps k s0 v1 := by
    dsimp only [v1]
    repeat' first
      | with_reducible assumption | with_reducible apply keeps_closeEarly | with_reducible apply keeps_abandonLine
      | with_reducible apply (keeps_startPage_pair (e := by assumption))
      | with_reducible apply (keeps_startPage (e := by assumption)) | with_reducible apply keeps_enterState
      | with_reducible apply keeps_joinPrintHolds | split | rfl | exact fun _ => ⟨rfl, rfl, rfl, rfl, rfl⟩
      | exact fun _ => ⟨rfl, rfl, rfl⟩ | exact id | with_reducible apply Keeps.foldl | intro _ | dsimp only
      | with_reducible apply Keeps.upd
  try clear_value v1
  repeat' first
    | with_reducible assumption | with_reducible apply keeps_closeEarly | with_reducible apply keeps_abandonLine
    | with_reducible apply (keeps_startPage_pair (e := by assumption))
    | with_reducible apply (keeps_startPage (e := by assumption)) | with_reducible apply keeps_enterState
    | with_reducible apply keeps_joinPrintHolds | split | rfl | exact fun _ => ⟨rfl, rfl, rfl, rfl, rfl⟩
    | exact fun _ => ⟨rfl, rfl, rfl⟩ | exact id | with_reducible apply Keeps.foldl | intro _ | dsimp only
    | with_reducible apply Keeps.upd

theorem keeps_onRxPageBegin {n : Line} {cls res : Nat} {s : State}
    (h : Keeps k s0 s) : Keeps k s0 (onRxPageBegin n cls res s) := by
  unfold onRxPageBegin
  repeat' first
    | with_reducible assumption | with_reducible apply keeps_beginPage | split | rfl
    | exact fun _ => ⟨rfl, rfl, rfl, rfl, rfl⟩ | exact fun _ => ⟨rfl, rfl, rfl⟩ | exact id
    | with_reducible apply Keeps.foldl | intro _ | dsimp only | with_reducible apply Keeps.upd

theorem keeps_storeExhausted {n : Line} {s : State} (h : Keeps k s0 s) : Keeps k s0 (storeExhausted n s) := by
  unfold storeExhausted
  repeat' first
    | with_reducible assumption | with_reducible apply keeps_abandonLine | with_reducible apply keeps_closeEarly
    | with_reducible apply keeps_releaseBuffer | split | rfl | exact fun _ => ⟨rfl, rfl, rfl, rfl, rfl⟩
    | exact fun _ => ⟨rfl, rfl, rfl⟩ | exact id | with_reducible apply Keeps.foldl | intro _ | dsimp only
    | with_reducible apply Keeps.upd

theorem keeps_goodBlock {n : Line} {pp b : Nat} {bytes : List Byte} {s : State}
    (h : Keeps k s0 s) : Keeps k s0 (goodBlock n pp b bytes s) := by
  unfold goodBlock
  extract_lets v1 v2
  have h1 : Keeps k s0 v1 := by
    dsimp only [v1]
    repeat' first
      | with_reducible assumption | with_reducible apply keeps_restartTimer | with_reducible apply keeps_giveSegments
      | with_reducible apply keeps_setLine | with_reducible apply keeps_storeExhausted
      | with_reducible apply keeps_releaseBuffer | split | rfl | exact fun _ => ⟨rfl, rfl, rfl, rfl, rfl⟩
      | exact fun _ => ⟨rfl, rfl, rfl⟩ | exact id | with_reducible apply Keeps.foldl | intro _ | dsimp only
      | with_reducible apply Keeps.upd
  try clear_value v1
  repeat' first
    | with_reducible assumption | with_reducible apply keeps_restartTimer | with_reducible apply keeps_giveSegments
    | with_reducible apply keeps_setLine | with_reducible apply keeps_storeExhausted
    | with_reducible apply keeps_releaseBuffer | split | rfl | exact fun _ => ⟨rfl, rfl, rfl, rfl, rfl⟩
    | exact fun _ => ⟨rfl, rfl, rfl⟩ | exact id | with_reducible apply Keeps.foldl | intro _ | dsimp only
    | with_reducible apply Keeps.upd

theorem keeps_afterPartialOk {n : Line} {q : EndKind} {s : State}
    (h : Keeps k s0 s) : Keeps k s0 (afterPartialOk n q s) := by
  unfold afterPartialOk
  repeat' first
    | with_reducible assumption | with_reducible apply keeps_enterState | with_reducible apply keeps_closePage
    | with_reducible apply keeps_clearLine | split | rfl | exact fun _ => ⟨rfl, rfl, rfl, rfl, rfl⟩
    | exact fun _ => ⟨rfl, rfl, rfl⟩ | exact id | with_reducible apply Keeps.foldl | intro _ | dsimp only
    | with_reducible apply Keeps.upd

theorem keeps_checkPartial {n : Line} {c : Nat} {q : EndKind} {s : State}
    (h : Keeps k s0 s) : Keeps k s0 (checkPartial n c q s) := by
  unfold checkPartial
  extract_lets v1 v2 v3 v4
  have h3 : Keeps k s0 v3 := by
    dsimp only [v3]
    repeat' first
      | with_reducible assumption | with_reducible apply keeps_afterPartialOk | with_reducible apply keeps_hand
      | with_reducible apply keeps_modifyLine | with_reducible apply keeps_enterState
      | with_reducible apply keeps_markTruncated | split | rfl | exact fun _ => ⟨rfl, rfl, rfl, rfl, rfl⟩
      | exact fun _ => ⟨rfl, rfl, rfl⟩ | exact id | with_reducible apply Keeps.foldl | intro _ | dsimp only
      | with_reducible apply Keeps.upd
  try clear_value v3
  have h4 : Keeps k s0 v4 := by
    dsimp only [v4]
    repeat' first
      | with_reducible assumption | with_reducible apply keeps_afterPartialOk | with_reducible apply keeps_hand
      | with_reducible apply keeps_modifyLine | with_reducible apply keeps_enterState
      | with_reducible apply keeps_markTruncated | split | rfl | exact fun _ => ⟨rfl, rfl, rfl, rfl, rfl⟩
      | exact fun _ => ⟨rfl, rfl, rfl⟩ | exact id | with_reducible apply Keeps.foldl | intro _ | dsimp only
      | with_reducible apply Keeps.upd
  try clear_value v4
  repeat' first
    | with_reducible assumption | with_reducible apply keeps_afterPartialOk | with_reducible apply keeps_hand
    | with_reducible apply keeps_modifyLine | with_reducible apply keeps_enterState
    | with_reducible apply keeps_markTruncated | split | rfl | exact fun _ => ⟨rfl, rfl, rfl, rfl, rfl⟩
    | exact fun _ => ⟨rfl, rfl, rfl⟩ | exact id | with_reducible apply Keeps.foldl | intro _ | dsimp only
    | with_reducible apply Keeps.upd

theorem keeps_onRxPartialEnd {n : Line} {pp c kind : Nat} {s : State}
    (h : Keeps k s0 s) : Keeps k s0 (onRxPartialEnd n pp c kind s) := by
  unfold onRxPartialEnd
  extract_lets v1
  repeat' first
    | with_reducible assumption | with_reducible apply keeps_enterState | with_reducible apply keeps_checkPartial
    | with_reducible apply keeps_setLine | split | rfl | exact fun _ => ⟨rfl, rfl, rfl, rfl, rfl⟩
    | exact fun _ => ⟨rfl, rfl, rfl⟩ | exact id | with_reducible apply Keeps.foldl | intro _ | dsimp only
    | with_reducible apply Keeps.upd

theorem keeps_blockStored {n : Line} {s : State} (h : Keeps k s0 s) : Keeps k s0 (blockStored n s) := by
  unfold blockStored
  extract_lets v1
  repeat' first
    | with_reducible assumption | with_reducible apply keeps_writeStream | with_reducible apply keeps_releaseBuffer
    | with_reducible apply keeps_modifyLine | with_reducible apply keeps_checkPartial
    | with_reducible apply keeps_setLine | split | rfl | exact fun _ => ⟨rfl, rfl, rfl, rfl, rfl⟩
    | exact fun _ => ⟨rfl, rfl, rfl⟩ | exact id | with_reducible apply Keeps.foldl | intro _ | dsimp only
    | with_reducible apply Keeps.upd

theorem keeps_endCall {n : Line} {cause : Cause} {s : State} (h : Keeps k s0 s) : Keeps k s0 (endCall n cause s) := by
  unfold endCall
  repeat' first
    | with_reducible assumption | with_reducible apply keeps_settleCall | with_reducible apply keeps_destSequence
    | with_reducible apply keeps_settleEnd | with_reducible apply keeps_releaseCall | split | rfl
    | exact fun _ => ⟨rfl, rfl, rfl, rfl, rfl⟩ | exact fun _ => ⟨rfl, rfl, rfl⟩ | exact id
    | with_reducible apply Keeps.foldl | intro _ | dsimp only | with_reducible apply Keeps.upd

theorem keeps_endReports {n : Line} {cause : Cause} {s : State}
    (h : Keeps k s0 s) : Keeps k s0 (endReports n cause s) := by
  unfold endReports
  extract_lets v1 v2 v3
  have h2 : Keeps k s0 v2 := by
    dsimp only [v2]
    repeat' first
      | with_reducible assumption | with_reducible apply keeps_closeEarly | with_reducible apply keeps_endInbound
      | with_reducible apply keeps_occasion | with_reducible apply keeps_endCall | with_reducible apply keeps_testJob
      | with_reducible apply keeps_destSessionEnd | split | rfl | exact fun _ => ⟨rfl, rfl, rfl, rfl, rfl⟩
      | exact fun _ => ⟨rfl, rfl, rfl⟩ | exact id | with_reducible apply Keeps.foldl | intro _ | dsimp only
      | with_reducible apply Keeps.upd
  try clear_value v2
  have h3 : Keeps k s0 v3 := by
    dsimp only [v3]
    repeat' first
      | with_reducible assumption | with_reducible apply keeps_closeEarly | with_reducible apply keeps_endInbound
      | with_reducible apply keeps_occasion | with_reducible apply keeps_endCall | with_reducible apply keeps_testJob
      | with_reducible apply keeps_destSessionEnd | split | rfl | exact fun _ => ⟨rfl, rfl, rfl, rfl, rfl⟩
      | exact fun _ => ⟨rfl, rfl, rfl⟩ | exact id | with_reducible apply Keeps.foldl | intro _ | dsimp only
      | with_reducible apply Keeps.upd
  try clear_value v3
  repeat' first
    | with_reducible assumption | with_reducible apply keeps_closeEarly | with_reducible apply keeps_endInbound
    | with_reducible apply keeps_occasion | with_reducible apply keeps_endCall | with_reducible apply keeps_testJob
    | with_reducible apply keeps_destSessionEnd | split | rfl | exact fun _ => ⟨rfl, rfl, rfl, rfl, rfl⟩
    | exact fun _ => ⟨rfl, rfl, rfl⟩ | exact id | with_reducible apply Keeps.foldl | intro _ | dsimp only
    | with_reducible apply Keeps.upd

theorem keeps_endSession {n : Line} {cause : Cause} {dst : LineState} {s : State}
    (h : Keeps k s0 s) : Keeps k s0 (endSession n cause dst s) := by
  unfold endSession
  extract_lets v1 v2 v3
  have h1 : Keeps k s0 v1 := by
    dsimp only [v1]
    repeat' first
      | with_reducible assumption | with_reducible apply keeps_giveUpStore | with_reducible apply keeps_endReports
      | with_reducible apply keeps_writeLine | with_reducible apply keeps_setLine
      | with_reducible apply keeps_occasion | split | rfl | exact fun _ => ⟨rfl, rfl, rfl, rfl, rfl⟩
      | exact fun _ => ⟨rfl, rfl, rfl⟩ | exact id | with_reducible apply Keeps.foldl | intro _ | dsimp only
      | with_reducible apply Keeps.upd
  try clear_value v1
  have h3 : Keeps k s0 v3 := by
    dsimp only [v3]
    repeat' first
      | with_reducible assumption | with_reducible apply keeps_giveUpStore | with_reducible apply keeps_endReports
      | with_reducible apply keeps_writeLine | with_reducible apply keeps_setLine
      | with_reducible apply keeps_occasion | split | rfl | exact fun _ => ⟨rfl, rfl, rfl, rfl, rfl⟩
      | exact fun _ => ⟨rfl, rfl, rfl⟩ | exact id | with_reducible apply Keeps.foldl | intro _ | dsimp only
      | with_reducible apply Keeps.upd
  try clear_value v3
  repeat' first
    | with_reducible assumption | with_reducible apply keeps_giveUpStore | with_reducible apply keeps_endReports
    | with_reducible apply keeps_writeLine | with_reducible apply keeps_setLine | with_reducible apply keeps_occasion
    | split | rfl | exact fun _ => ⟨rfl, rfl, rfl, rfl, rfl⟩ | exact fun _ => ⟨rfl, rfl, rfl⟩ | exact id
    | with_reducible apply Keeps.foldl | intro _ | dsimp only | with_reducible apply Keeps.upd

theorem keeps_onLineReady {n : Line} {s : State} (h : Keeps k s0 s) : Keeps k s0 (onLineReady n s) := by
  unfold onLineReady
  repeat' first
    | with_reducible assumption | with_reducible apply keeps_occasion | with_reducible apply keeps_modifyLine | split
    | rfl | exact fun _ => ⟨rfl, rfl, rfl, rfl, rfl⟩ | exact fun _ => ⟨rfl, rfl, rfl⟩ | exact id
    | with_reducible apply Keeps.foldl | intro _ | dsimp only | with_reducible apply Keeps.upd

theorem keeps_onLineNotReady {n : Line} {s : State} (h : Keeps k s0 s) : Keeps k s0 (onLineNotReady n s) := by
  unfold onLineNotReady
  repeat' first
    | with_reducible assumption | with_reducible apply keeps_modifyLine | with_reducible apply keeps_endSession
    | split | rfl | exact fun _ => ⟨rfl, rfl, rfl, rfl, rfl⟩ | exact fun _ => ⟨rfl, rfl, rfl⟩ | exact id
    | with_reducible apply Keeps.foldl | intro _ | dsimp only | with_reducible apply Keeps.upd

theorem keeps_onRemoteClear {n : Line} {s : State} (h : Keeps k s0 s) : Keeps k s0 (onRemoteClear n s) := by
  unfold onRemoteClear
  repeat' first
    | with_reducible assumption | with_reducible apply keeps_endSession | split | rfl
    | exact fun _ => ⟨rfl, rfl, rfl, rfl, rfl⟩ | exact fun _ => ⟨rfl, rfl, rfl⟩ | exact id
    | with_reducible apply Keeps.foldl | intro _ | dsimp only | with_reducible apply Keeps.upd

theorem keeps_onCleared {n : Line} {s : State} (h : Keeps k s0 s) : Keeps k s0 (onCleared n s) := by
  unfold onCleared
  repeat' first
    | with_reducible assumption | with_reducible apply keeps_endSession | split | rfl
    | exact fun _ => ⟨rfl, rfl, rfl, rfl, rfl⟩ | exact fun _ => ⟨rfl, rfl, rfl⟩ | exact id
    | with_reducible apply Keeps.foldl | intro _ | dsimp only | with_reducible apply Keeps.upd

theorem keeps_refuseRing {n : Line} {why : RingRefusal} {s : State}
    (h : Keeps k s0 s) : Keeps k s0 (refuseRing n why s) := by
  unfold refuseRing
  repeat' first
    | with_reducible assumption | with_reducible apply keeps_postRefused | with_reducible apply keeps_hand | split
    | rfl | exact fun _ => ⟨rfl, rfl, rfl, rfl, rfl⟩ | exact fun _ => ⟨rfl, rfl, rfl⟩ | exact id
    | with_reducible apply Keeps.foldl | intro _ | dsimp only | with_reducible apply Keeps.upd

theorem keeps_decideRing {n : Line} {called ident : List Byte} {s : State}
    (h : Keeps k s0 s) : Keeps k s0 (decideRing n called ident s) := by
  unfold decideRing
  extract_lets v1 v2
  repeat' first
    | with_reducible assumption | with_reducible apply keeps_answerDoc | with_reducible apply keeps_hand
    | with_reducible apply keeps_setLine | with_reducible apply keeps_enterState | with_reducible apply keeps_post
    | with_reducible apply keeps_refuseRing | split | rfl | exact fun _ => ⟨rfl, rfl, rfl, rfl, rfl⟩
    | exact fun _ => ⟨rfl, rfl, rfl⟩ | exact id | with_reducible apply Keeps.foldl | intro _ | dsimp only
    | with_reducible apply Keeps.upd

theorem keeps_ringOnIdle {n : Line} {called ident : List Byte} {s : State}
    (h : Keeps k s0 s) : Keeps k s0 (ringOnIdle n called ident s) := by
  unfold ringOnIdle
  repeat' first
    | with_reducible assumption | with_reducible apply keeps_decideRing | with_reducible apply keeps_refuseRing
    | split | rfl | exact fun _ => ⟨rfl, rfl, rfl, rfl, rfl⟩ | exact fun _ => ⟨rfl, rfl, rfl⟩ | exact id
    | with_reducible apply Keeps.foldl | intro _ | dsimp only | with_reducible apply Keeps.upd

theorem keeps_onRing {n : Line} {called ident : List Byte} {s : State}
    (h : Keeps k s0 s) : Keeps k s0 (onRing n called ident s) := by
  unfold onRing
  repeat' first
    | with_reducible assumption | with_reducible apply keeps_ringOnIdle | with_reducible apply keeps_endSession
    | with_reducible apply keeps_refuseRing | split | rfl | exact fun _ => ⟨rfl, rfl, rfl, rfl, rfl⟩
    | exact fun _ => ⟨rfl, rfl, rfl⟩ | exact id | with_reducible apply Keeps.foldl | intro _ | dsimp only
    | with_reducible apply Keeps.upd

theorem keeps_timerExpires {n : Line} {s : State} (h : Keeps k s0 s) : Keeps k s0 (timerExpires n s) := by
  unfold timerExpires
  repeat' first
    | with_reducible assumption | with_reducible apply keeps_abandonLine | with_reducible apply keeps_clearLine
    | split | rfl | exact fun _ => ⟨rfl, rfl, rfl, rfl, rfl⟩ | exact fun _ => ⟨rfl, rfl, rfl⟩ | exact id
    | with_reducible apply Keeps.foldl | intro _ | dsimp only | with_reducible apply Keeps.upd

theorem keeps_lneLinkDown {s : State} (h : Keeps k s0 s) : Keeps k s0 (lneLinkDown s) := by
  unfold lneLinkDown
  extract_lets t
  have ht : Keeps k s0 t := Keeps.foldl h fun t n ht => by
    split
    · exact keeps_modifyLine ht
    · exact ht
  clear_value t
  split
  · exact ht
  · exact Keeps.upd rfl ht (fun _ => ⟨rfl, rfl, rfl, rfl, rfl⟩) (fun _ => ⟨rfl, rfl, rfl⟩) (fun _ => ⟨rfl, rfl, rfl⟩) rfl id

theorem keeps_lneLinkUp {s : State} (h : Keeps k s0 s) : Keeps k s0 (lneLinkUp s) := by
  unfold lneLinkUp
  extract_lets v1
  repeat' first
    | with_reducible assumption | split | rfl | exact fun _ => ⟨rfl, rfl, rfl, rfl, rfl⟩
    | exact fun _ => ⟨rfl, rfl, rfl⟩ | exact id | with_reducible apply Keeps.foldl | intro _ | dsimp only
    | with_reducible apply Keeps.upd

theorem keeps_endAllSessions {cause : Cause} {s : State} (h : Keeps k s0 s) : Keeps k s0 (endAllSessions cause s) := by
  refine Keeps.foldl h fun t n ht => ?_
  split
  · exact keeps_endSession ht
  · exact ht

theorem keeps_handWithdraw {n : Line} {s : State} (h : Keeps k s0 s) : Keeps k s0 (handWithdraw n s) := by
  unfold handWithdraw
  repeat' first
    | with_reducible assumption | with_reducible apply keeps_hand | with_reducible apply keeps_handAbandonClear
    | with_reducible apply keeps_clear | split | rfl | exact fun _ => ⟨rfl, rfl, rfl, rfl, rfl⟩
    | exact fun _ => ⟨rfl, rfl, rfl⟩ | exact id | with_reducible apply Keeps.foldl | intro _ | dsimp only
    | with_reducible apply Keeps.upd

theorem keeps_withdrawLines {s : State} (h : Keeps k s0 s) : Keeps k s0 (withdrawLines s) := by
  unfold withdrawLines
  extract_lets t
  have ht : Keeps k s0 t := Keeps.foldl h fun t n ht => by
    split
    · exact keeps_endSession (keeps_handWithdraw ht)
    · split
      · exact keeps_modifyLine ht
      · exact ht
  clear_value t
  exact Keeps.upd rfl ht (fun _ => ⟨rfl, rfl, rfl, rfl, rfl⟩) (fun _ => ⟨rfl, rfl, rfl⟩) (fun _ => ⟨rfl, rfl, rfl⟩) rfl id

theorem keeps_setLinePlan {sl : Slot} {s : State} (h : Keeps k s0 s) : Keeps k s0 (setLinePlan sl s).1 := by
  unfold setLinePlan
  extract_lets v1 v2
  repeat' first
    | with_reducible assumption | with_reducible apply keeps_occasion | split | rfl
    | exact fun _ => ⟨rfl, rfl, rfl, rfl, rfl⟩ | exact fun _ => ⟨rfl, rfl, rfl⟩ | exact id
    | with_reducible apply Keeps.foldl | intro _ | dsimp only | with_reducible apply Keeps.upd

theorem keeps_setLineTimers {sl : Slot} {s : State} (h : Keeps k s0 s) : Keeps k s0 (setLineTimers sl s).1 := by
  unfold setLineTimers
  extract_lets v1 v2 v3 v4
  repeat' first
    | with_reducible assumption | split | rfl | exact fun _ => ⟨rfl, rfl, rfl, rfl, rfl⟩
    | exact fun _ => ⟨rfl, rfl, rfl⟩ | exact id | with_reducible apply Keeps.foldl | intro _ | dsimp only
    | with_reducible apply Keeps.upd

theorem keeps_testUrgent {s : State} (h : Keeps k s0 s) : Keeps k s0 (testUrgent s) := by
  unfold testUrgent
  extract_lets v1 v2
  repeat' first
    | with_reducible assumption | split | rfl | exact fun _ => ⟨rfl, rfl, rfl, rfl, rfl⟩
    | exact fun _ => ⟨rfl, rfl, rfl⟩ | exact id | with_reducible apply Keeps.foldl | intro _ | dsimp only
    | with_reducible apply Keeps.upd

theorem keeps_consume {s : State} (h : Keeps k s0 s) : Keeps k s0 (consume s) := by
  unfold consume
  extract_lets v1
  repeat' first
    | with_reducible assumption | with_reducible apply keeps_testUrgent | with_reducible apply keeps_post | split
    | rfl | exact fun _ => ⟨rfl, rfl, rfl, rfl, rfl⟩ | exact fun _ => ⟨rfl, rfl, rfl⟩ | exact id
    | with_reducible apply Keeps.foldl | intro _ | dsimp only | with_reducible apply Keeps.upd

theorem keeps_readWatch {off : Nat} {s : State} (h : Keeps k s0 s) : Keeps k s0 (readWatch off s) := by
  unfold readWatch
  repeat' first
    | with_reducible assumption | with_reducible apply keeps_consume | split | rfl
    | exact fun _ => ⟨rfl, rfl, rfl, rfl, rfl⟩ | exact fun _ => ⟨rfl, rfl, rfl⟩ | exact id
    | with_reducible apply Keeps.foldl | intro _ | dsimp only | with_reducible apply Keeps.upd

theorem keeps_finishRead {off : Nat} {s : State} (h : Keeps k s0 s) : Keeps k s0 (finishRead off s) := by
  unfold finishRead
  extract_lets v1
  repeat' first
    | with_reducible assumption | with_reducible apply keeps_readWatch | split | rfl
    | exact fun _ => ⟨rfl, rfl, rfl, rfl, rfl⟩ | exact fun _ => ⟨rfl, rfl, rfl⟩ | exact id
    | with_reducible apply Keeps.foldl | intro _ | dsimp only | with_reducible apply Keeps.upd

theorem keeps_releasePrintHold {s : State} (h : Keeps k s0 s) : Keeps k s0 (releasePrintHold s) := by
  unfold releasePrintHold
  repeat' first
    | with_reducible assumption | with_reducible apply keeps_finishRead | split | rfl
    | exact fun _ => ⟨rfl, rfl, rfl, rfl, rfl⟩ | exact fun _ => ⟨rfl, rfl, rfl⟩ | exact id
    | with_reducible apply Keeps.foldl | intro _ | dsimp only | with_reducible apply Keeps.upd

theorem keeps_walk (n : Nat) {s : State} (h : Keeps k s0 s) : Keeps k s0 (walk n s) := by
  induction n generalizing s with
  | zero => exact h
  | succ n ih =>
    unfold walk
    repeat' first
      | with_reducible assumption | with_reducible apply ih | with_reducible apply keeps_putEntry
      | with_reducible apply keeps_removeEntry | split | rfl | exact fun _ => ⟨rfl, rfl, rfl, rfl, rfl⟩
      | exact fun _ => ⟨rfl, rfl, rfl⟩ | exact id | with_reducible apply Keeps.foldl | intro _ | dsimp only
      | with_reducible apply Keeps.upd

theorem keeps_beginRendering {s : State} (h : Keeps k s0 s) : Keeps k s0 (beginRendering s) := by
  unfold beginRendering
  extract_lets v1
  repeat' first
    | with_reducible assumption | split | rfl | exact fun _ => ⟨rfl, rfl, rfl, rfl, rfl⟩
    | exact fun _ => ⟨rfl, rfl, rfl⟩ | exact id | with_reducible apply Keeps.foldl | intro _ | dsimp only
    | with_reducible apply Keeps.upd
theorem keeps_beginSheet {s : State} (h : Keeps k s0 s) : Keeps k s0 (beginSheet s) := by
  unfold beginSheet
  repeat' first
    | with_reducible assumption | with_reducible apply keeps_putEntry | split | rfl
    | exact fun _ => ⟨rfl, rfl, rfl, rfl, rfl⟩ | exact fun _ => ⟨rfl, rfl, rfl⟩ | exact id | dsimp only
    | with_reducible apply Keeps.upd

theorem keeps_settle {s : State} (h : Keeps k s0 s) : Keeps k s0 (settle s) := by
  unfold settle
  split
  · refine keeps_beginSheet (keeps_beginRendering ?_)
    split
    · exact keeps_walk 1200 h
    · exact h
  · exact h

theorem keeps_takeEntry {s : State} (h : Keeps k s0 s) : Keeps k s0 (takeEntry s) := by
  unfold takeEntry
  repeat' first
    | with_reducible assumption | with_reducible apply keeps_settle | with_reducible apply keeps_putEntry | split
    | rfl | exact fun _ => ⟨rfl, rfl, rfl, rfl, rfl⟩ | exact fun _ => ⟨rfl, rfl, rfl⟩ | exact id
    | with_reducible apply Keeps.foldl | intro _ | dsimp only | with_reducible apply Keeps.upd

theorem keeps_decodeFault {p line : Nat} {s : State} (h : Keeps k s0 s) : Keeps k s0 (decodeFault p line s) := by
  unfold decodeFault
  repeat' first
    | with_reducible assumption | with_reducible apply keeps_post | with_reducible apply keeps_modifyPage | split
    | rfl | exact fun _ => ⟨rfl, rfl, rfl, rfl, rfl⟩ | exact fun _ => ⟨rfl, rfl, rfl⟩ | exact id
    | with_reducible apply Keeps.foldl | intro _ | dsimp only | with_reducible apply Keeps.upd

theorem keeps_checkFault {p : Nat} {crc : BitVec 16} {b : Bool} {s : State}
    (h : Keeps k s0 s) : Keeps k s0 (checkFault p crc b s) := by
  unfold checkFault
  extract_lets v1
  have h1 : Keeps k s0 v1 := keeps_modifyPage h
  split
  · exact h1
  · exact keeps_post h1

theorem keeps_decodeNext {prof : PrintProfile} {g : Rendering} {r : PageRec} {s : State} (h : Keeps k s0 s) :
    Keeps k s0 (decodeNext prof g r s).2.2 := by
  unfold decodeNext
  repeat' first
    | with_reducible assumption | with_reducible apply keeps_decodeFault | split | rfl
    | exact fun _ => ⟨rfl, rfl, rfl, rfl, rfl⟩ | exact fun _ => ⟨rfl, rfl, rfl⟩ | exact id
    | with_reducible apply Keeps.foldl | intro _ | dsimp only | with_reducible apply Keeps.upd

theorem keeps_owedLine {prof : PrintProfile} {g : Rendering} {r : PageRec} {s : State} (h : Keeps k s0 s) :
    Keeps k s0 (owedLine prof g r s).2.2 := by
  unfold owedLine
  repeat' first
    | with_reducible assumption | with_reducible apply keeps_decodeNext | split | rfl
    | exact fun _ => ⟨rfl, rfl, rfl, rfl, rfl⟩ | exact fun _ => ⟨rfl, rfl, rfl⟩ | exact id
    | with_reducible apply Keeps.foldl | intro _ | dsimp only | with_reducible apply Keeps.upd

theorem keeps_nextSheetLine {prof : PrintProfile} {s t : State} {l : SheetLine} (h : Keeps k s0 s)
    (e : nextSheetLine prof s = some (l, t)) : Keeps k s0 t := by
  unfold nextSheetLine at e
  split at e
  · split at e
    · cases e
    · cases e; exact keeps_owedLine h
  · cases e

theorem keeps_endPageCopy {l : SheetLine} {b : Bool} {s : State}
    (h : Keeps k s0 s) : Keeps k s0 (endPageCopy l b s) := by
  unfold endPageCopy
  extract_lets v1 v2 v3 v4
  have h1 : Keeps k s0 v1 := by
    dsimp only [v1]
    split
    · exact h
    · exact keeps_checkFault h
  clear_value v1
  repeat' first
    | with_reducible assumption | with_reducible apply keeps_modifyEntry | with_reducible apply keeps_changePrintHolds
    | rfl | exact fun _ => ⟨rfl, rfl, rfl, rfl, rfl⟩ | exact fun _ => ⟨rfl, rfl, rfl⟩ | exact id | dsimp only
    | with_reducible apply Keeps.upd

theorem keeps_endSheet {l : SheetLine} {s : State} (h : Keeps k s0 s) : Keeps k s0 (endSheet l s) := by
  unfold endSheet
  extract_lets v1 v2
  have h1 : Keeps k s0 v1 := by
    dsimp only [v1]
    repeat' first
      | with_reducible assumption | with_reducible apply keeps_removeEntry | split | rfl
      | exact fun _ => ⟨rfl, rfl, rfl, rfl, rfl⟩ | exact fun _ => ⟨rfl, rfl, rfl⟩ | exact id
      | with_reducible apply Keeps.foldl | intro _ | dsimp only | with_reducible apply Keeps.upd
  try clear_value v1
  repeat' first
    | with_reducible assumption | with_reducible apply keeps_removeEntry | split | rfl
    | exact fun _ => ⟨rfl, rfl, rfl, rfl, rfl⟩ | exact fun _ => ⟨rfl, rfl, rfl⟩ | exact id
    | with_reducible apply Keeps.foldl | intro _ | dsimp only | with_reducible apply Keeps.upd

theorem keeps_handled {l : SheetLine} {b : Bool} {s : State} (h : Keeps k s0 s) : Keeps k s0 (handled l b s) := by
  unfold handled
  extract_lets v1 v2 v3 v4 v5 v6 v7 v8 v9
  have h2 : Keeps k s0 v2 := by
    dsimp only [v2]
    repeat' first
      | with_reducible assumption | with_reducible apply keeps_putEntry | with_reducible apply keeps_endPageCopy
      | with_reducible apply keeps_endSheet | with_reducible apply keeps_settle | split | rfl
      | exact fun _ => ⟨rfl, rfl, rfl, rfl, rfl⟩ | exact fun _ => ⟨rfl, rfl, rfl⟩ | exact id
      | with_reducible apply Keeps.foldl | intro _ | dsimp only | with_reducible apply Keeps.upd
  try clear_value v2
  have h7 : Keeps k s0 v7 := by
    dsimp only [v7]
    repeat' first
      | with_reducible assumption | with_reducible apply keeps_putEntry | with_reducible apply keeps_endPageCopy
      | with_reducible apply keeps_endSheet | with_reducible apply keeps_settle | split | rfl
      | exact fun _ => ⟨rfl, rfl, rfl, rfl, rfl⟩ | exact fun _ => ⟨rfl, rfl, rfl⟩ | exact id
      | with_reducible apply Keeps.foldl | intro _ | dsimp only | with_reducible apply Keeps.upd
  try clear_value v7
  have h8 : Keeps k s0 v8 := by
    dsimp only [v8]
    repeat' first
      | with_reducible assumption | with_reducible apply keeps_putEntry | with_reducible apply keeps_endPageCopy
      | with_reducible apply keeps_endSheet | with_reducible apply keeps_settle | split | rfl
      | exact fun _ => ⟨rfl, rfl, rfl, rfl, rfl⟩ | exact fun _ => ⟨rfl, rfl, rfl⟩ | exact id
      | with_reducible apply Keeps.foldl | intro _ | dsimp only | with_reducible apply Keeps.upd
  try clear_value v8
  have h9 : Keeps k s0 v9 := by
    dsimp only [v9]
    repeat' first
      | with_reducible assumption | with_reducible apply keeps_putEntry | with_reducible apply keeps_endPageCopy
      | with_reducible apply keeps_endSheet | with_reducible apply keeps_settle | split | rfl
      | exact fun _ => ⟨rfl, rfl, rfl, rfl, rfl⟩ | exact fun _ => ⟨rfl, rfl, rfl⟩ | exact id
      | with_reducible apply Keeps.foldl | intro _ | dsimp only | with_reducible apply Keeps.upd
  try clear_value v9
  repeat' first
    | with_reducible assumption | with_reducible apply keeps_putEntry | with_reducible apply keeps_endPageCopy
    | with_reducible apply keeps_endSheet | with_reducible apply keeps_settle | split | rfl
    | exact fun _ => ⟨rfl, rfl, rfl, rfl, rfl⟩ | exact fun _ => ⟨rfl, rfl, rfl⟩ | exact id
    | with_reducible apply Keeps.foldl | intro _ | dsimp only | with_reducible apply Keeps.upd

theorem keeps_fillSlot {r : SlotRec} {s : State} (h : Keeps k s0 s) : Keeps k s0 (fillSlot r s) := by
  unfold fillSlot
  extract_lets v1
  repeat' first
    | with_reducible assumption | split | rfl | exact fun _ => ⟨rfl, rfl, rfl, rfl, rfl⟩
    | exact fun _ => ⟨rfl, rfl, rfl⟩ | exact id | with_reducible apply Keeps.foldl | intro _ | dsimp only
    | with_reducible apply Keeps.upd

theorem keeps_writeSheetLine {prof : PrintProfile} {s : State}
    (h : Keeps k s0 s) : Keeps k s0 (writeSheetLine prof s) := by
  unfold writeSheetLine
  split
  · split
    · exact h
    · rename_i e
      exact keeps_handled (keeps_fillSlot (keeps_store (keeps_store (keeps_nextSheetLine h e))))
  · exact h

theorem keeps_renderStep {s : State} (h : Keeps k s0 s) : Keeps k s0 (renderStep s) := by
  unfold renderStep
  repeat' first
    | with_reducible assumption | with_reducible apply keeps_releasePrintHold | with_reducible apply keeps_testUrgent
    | with_reducible apply keeps_writeSheetLine | with_reducible apply keeps_beginRendering
    | with_reducible apply keeps_settle | split | rfl | exact fun _ => ⟨rfl, rfl, rfl, rfl, rfl⟩
    | exact fun _ => ⟨rfl, rfl, rfl⟩ | exact id | with_reducible apply Keeps.foldl | intro _ | dsimp only
    | with_reducible apply Keeps.upd

theorem keeps_substitute {s : State} (h : Keeps k s0 s) : Keeps k s0 (substitute s) := by
  unfold substitute
  dsimp only
  split
  · rename_i l t e
    obtain ⟨prof, -, e⟩ := Option.bind_eq_some_iff.mp e
    exact keeps_testUrgent (keeps_handled (keeps_post (keeps_fillSlot (keeps_nextSheetLine h e))))
  · exact keeps_testUrgent (keeps_post (keeps_fillSlot h))

theorem keeps_printHoldExpiry {s : State} (h : Keeps k s0 s) : Keeps k s0 (printHoldExpiry s) := by
  unfold printHoldExpiry
  repeat' first
    | with_reducible assumption | with_reducible apply keeps_finishRead | with_reducible apply keeps_substitute
    | split | rfl | exact fun _ => ⟨rfl, rfl, rfl, rfl, rfl⟩ | exact fun _ => ⟨rfl, rfl, rfl⟩ | exact id
    | with_reducible apply Keeps.foldl | intro _ | dsimp only | with_reducible apply Keeps.upd

theorem keeps_setPrintProfile {sl : Slot} {s : State} (h : Keeps k s0 s) : Keeps k s0 (setPrintProfile sl s).1 := by
  unfold setPrintProfile
  extract_lets v1 v2 v3 v4 v5 v6 v7 v8 v9 v10
  repeat' first
    | with_reducible assumption | split | rfl | exact fun _ => ⟨rfl, rfl, rfl, rfl, rfl⟩
    | exact fun _ => ⟨rfl, rfl, rfl⟩ | exact id | with_reducible apply Keeps.foldl | intro _ | dsimp only
    | with_reducible apply Keeps.upd

theorem keeps_takeGeometry {s : State} (h : Keeps k s0 s) : Keeps k s0 (takeGeometry s) := by
  unfold takeGeometry
  extract_lets v1 v2 v3 v4 v5 v6 v7
  have h5 : Keeps k s0 v5 := by
    dsimp only [v5]
    repeat' first
      | with_reducible assumption | split | rfl | exact fun _ => ⟨rfl, rfl, rfl, rfl, rfl⟩
      | exact fun _ => ⟨rfl, rfl, rfl⟩ | exact id | with_reducible apply Keeps.foldl | intro _ | dsimp only
      | with_reducible apply Keeps.upd
  try clear_value v5
  repeat' first
    | with_reducible assumption | split | rfl | exact fun _ => ⟨rfl, rfl, rfl, rfl, rfl⟩
    | exact fun _ => ⟨rfl, rfl, rfl⟩ | exact id | with_reducible apply Keeps.foldl | intro _ | dsimp only
    | with_reducible apply Keeps.upd

theorem keeps_startPrint {sl : Slot} {s : State} (h : Keeps k s0 s) : Keeps k s0 (startPrint sl s).1 := by
  unfold startPrint
  extract_lets v1 v2
  repeat' first
    | with_reducible assumption | with_reducible apply keeps_testUrgent | with_reducible apply keeps_takeGeometry
    | split | rfl | exact fun _ => ⟨rfl, rfl, rfl, rfl, rfl⟩ | exact fun _ => ⟨rfl, rfl, rfl⟩ | exact id
    | with_reducible apply Keeps.foldl | intro _ | dsimp only | with_reducible apply Keeps.upd

theorem keeps_stopPrint {sl : Slot} {s : State} (h : Keeps k s0 s) : Keeps k s0 (stopPrint sl s).1 := by
  unfold stopPrint
  extract_lets v1 v2 v3
  repeat' first
    | with_reducible assumption | with_reducible apply keeps_releasePrintHold | with_reducible apply keeps_testUrgent
    | split | rfl | exact fun _ => ⟨rfl, rfl, rfl, rfl, rfl⟩ | exact fun _ => ⟨rfl, rfl, rfl⟩ | exact id
    | with_reducible apply Keeps.foldl | intro _ | dsimp only | with_reducible apply Keeps.upd

theorem keeps_withdrawPrint {s : State} (h : Keeps k s0 s) : Keeps k s0 (withdrawPrint s) := by
  unfold withdrawPrint
  extract_lets v1 v2
  repeat' first
    | with_reducible assumption | with_reducible apply keeps_releasePrintHold | with_reducible apply keeps_substitute
    | split | rfl | exact fun _ => ⟨rfl, rfl, rfl, rfl, rfl⟩ | exact fun _ => ⟨rfl, rfl, rfl⟩ | exact id
    | with_reducible apply Keeps.foldl | intro _ | dsimp only | with_reducible apply Keeps.upd

theorem keeps_deliver {n : Line} {act : State → State} {s : State} (h : Keeps k s0 s)
    (ha : ∀ t, Keeps k s0 t → Keeps k s0 (act t)) : Keeps k s0 (deliver n act s) := by
  unfold deliver
  split
  · exact h
  · apply ha; split
    · exact keeps_restartTimer h
    · exact h

theorem keeps_delivered {n : Line} {act : State → State} {s : State} (h : Keeps k s0 s)
    (ha : ∀ t, Keeps k s0 t → Keeps k s0 (act t)) : Keeps k s0 (delivered n act s) := by
  unfold delivered
  split
  · exact keeps_deliver h ha
  · exact h

theorem keeps_messageAct {m : List Byte} {n : Line} {f : State → State} (e : messageAct m n = some f) {s : State}
    (h : Keeps k s0 s) : Keeps k s0 (f s) := by
  unfold messageAct at e
  dsimp only at e
  split at e <;>
    first
    | (split at e <;> cases e; first
        | exact keeps_onLineReady h | exact keeps_onLineNotReady h | exact keeps_onSeized h | exact keeps_onAnswered h
        | exact keeps_onCallFailed h | exact keeps_onPartialOk h | exact keeps_onRepeat h | exact keeps_onPageConfirmed h
        | exact keeps_onPageRejected h | exact keeps_onRxPageBegin h | exact keeps_onRxPartialEnd h
        | exact keeps_onRemoteClear h | exact keeps_onCleared h)
    | (simp only [Option.map_eq_some_iff] at e; obtain ⟨_, _, rfl⟩ := e; first | exact keeps_onRing h | exact h)
    | cases e

theorem keeps_deliverTo {m : List Byte} {n : Line} {s : State} (h : Keeps k s0 s) : Keeps k s0 (deliverTo m s n) := by
  unfold deliverTo
  split
  · exact h
  · exact keeps_deliver h fun t ht => keeps_messageAct ‹_› ht

theorem keeps_deliverMessage {m : List Byte} {s : State} (h : Keeps k s0 s) : Keeps k s0 (deliverMessage m s) := by
  unfold deliverMessage
  repeat' first
    | with_reducible assumption | with_reducible apply keeps_deliverTo | split | rfl
    | exact fun _ => ⟨rfl, rfl, rfl, rfl, rfl⟩ | exact fun _ => ⟨rfl, rfl, rfl⟩ | exact id
    | with_reducible apply Keeps.foldl | intro _ | dsimp only | with_reducible apply Keeps.upd

theorem keeps_openBlock {n pp b len : Nat} {failed : Bool} {s : State}
    (h : Keeps k s0 s) : Keeps k s0 (openBlock n pp b len failed s) := by
  unfold openBlock
  extract_lets v1 v2
  repeat' first
    | with_reducible assumption | with_reducible apply keeps_setInLine | split | rfl
    | exact fun _ => ⟨rfl, rfl, rfl, rfl, rfl⟩ | exact fun _ => ⟨rfl, rfl, rfl⟩ | exact id
    | with_reducible apply Keeps.foldl | intro _ | dsimp only | with_reducible apply Keeps.upd

theorem keeps_suspendSending {s : State} (h : Keeps k s0 s) : Keeps k s0 (suspendSending s) := by
  unfold suspendSending
  extract_lets v1 v2 v3
  have h3 : Keeps k s0 v3 := by
    dsimp only [v3]
    repeat' first
      | with_reducible assumption | with_reducible apply keeps_blockFinished | split | rfl
      | exact fun _ => ⟨rfl, rfl, rfl, rfl, rfl⟩ | exact fun _ => ⟨rfl, rfl, rfl⟩ | exact id
      | with_reducible apply Keeps.foldl | intro _ | dsimp only | with_reducible apply Keeps.upd
  try clear_value v3
  repeat' first
    | with_reducible assumption | with_reducible apply keeps_blockFinished | split | rfl
    | exact fun _ => ⟨rfl, rfl, rfl, rfl, rfl⟩ | exact fun _ => ⟨rfl, rfl, rfl⟩ | exact id
    | with_reducible apply Keeps.foldl | intro _ | dsimp only | with_reducible apply Keeps.upd

theorem keeps_postLinkState {s : State} (h : Keeps k s0 s) : Keeps k s0 (postLinkState s) := by
  unfold postLinkState
  repeat' first
    | with_reducible assumption | with_reducible apply keeps_post | split | rfl
    | exact fun _ => ⟨rfl, rfl, rfl, rfl, rfl⟩ | exact fun _ => ⟨rfl, rfl, rfl⟩ | exact id
    | with_reducible apply Keeps.foldl | intro _ | dsimp only | with_reducible apply Keeps.upd

theorem keeps_linkDown {s : State} (h : Keeps k s0 s) : Keeps k s0 (linkDown s) := by
  unfold linkDown
  extract_lets v1 v2
  have h2 : Keeps k s0 v2 := by
    dsimp only [v2]
    repeat' first
      | with_reducible assumption | with_reducible apply keeps_writeLinkStatus
      | with_reducible apply keeps_postLinkState | with_reducible apply keeps_lneLinkDown
      | with_reducible apply keeps_suspendSending | split | rfl | exact fun _ => ⟨rfl, rfl, rfl, rfl, rfl⟩
      | exact fun _ => ⟨rfl, rfl, rfl⟩ | exact id | with_reducible apply Keeps.foldl | intro _ | dsimp only
      | with_reducible apply Keeps.upd
  try clear_value v2
  repeat' first
    | with_reducible assumption | with_reducible apply keeps_writeLinkStatus
    | with_reducible apply keeps_postLinkState | with_reducible apply keeps_lneLinkDown
    | with_reducible apply keeps_suspendSending | split | rfl | exact fun _ => ⟨rfl, rfl, rfl, rfl, rfl⟩
    | exact fun _ => ⟨rfl, rfl, rfl⟩ | exact id | with_reducible apply Keeps.foldl | intro _ | dsimp only
    | with_reducible apply Keeps.upd

theorem keeps_linkGoesUp {s : State} (h : Keeps k s0 s) (hk : k.link = false) : Keeps k s0 (linkGoesUp s) := by
  unfold linkGoesUp
  extract_lets v1 v2
  have h2 : Keeps k s0 v2 := by
    dsimp only [v2]
    repeat' first
      | with_reducible assumption | with_reducible apply keeps_writeLinkStatus
      | with_reducible apply keeps_postLinkState | with_reducible apply keeps_lneLinkUp | split | rfl
      | exact fun _ => ⟨rfl, rfl, rfl, rfl, rfl⟩ | exact fun _ => ⟨rfl, rfl, rfl⟩
      | exact fun e => absurd (hk.symm.trans e) Bool.false_ne_true | exact id | with_reducible apply Keeps.foldl
      | intro _ | dsimp only | with_reducible apply Keeps.upd
  try clear_value v2
  repeat' first
    | with_reducible assumption | with_reducible apply keeps_writeLinkStatus
    | with_reducible apply keeps_postLinkState | with_reducible apply keeps_lneLinkUp | split | rfl
    | exact fun _ => ⟨rfl, rfl, rfl, rfl, rfl⟩ | exact fun _ => ⟨rfl, rfl, rfl⟩
    | exact fun e => absurd (hk.symm.trans e) Bool.false_ne_true | exact id | with_reducible apply Keeps.foldl
    | intro _ | dsimp only | with_reducible apply Keeps.upd

theorem keeps_frameLoss {st : FrameState} {s : State}
    (h : Keeps k s0 s) (hk : k.link = false) : Keeps k s0 (frameLoss st s) := by
  unfold frameLoss
  extract_lets v1 v2 v3
  have h3 : Keeps k s0 v3 := by
    dsimp only [v3]
    repeat' first
      | with_reducible assumption | with_reducible apply keeps_linkDown | with_reducible apply keeps_writeLinkStatus
      | split | rfl | exact fun _ => ⟨rfl, rfl, rfl, rfl, rfl⟩ | exact fun _ => ⟨rfl, rfl, rfl⟩
      | exact fun e => absurd (hk.symm.trans e) Bool.false_ne_true | exact id | with_reducible apply Keeps.foldl
      | intro _ | dsimp only | with_reducible apply Keeps.upd
  try clear_value v3
  repeat' first
    | with_reducible assumption | with_reducible apply keeps_linkDown | with_reducible apply keeps_writeLinkStatus
    | split | rfl | exact fun _ => ⟨rfl, rfl, rfl, rfl, rfl⟩ | exact fun _ => ⟨rfl, rfl, rfl⟩
    | exact fun e => absurd (hk.symm.trans e) Bool.false_ne_true | exact id | with_reducible apply Keeps.foldl
    | intro _ | dsimp only | with_reducible apply Keeps.upd

theorem keeps_messageSent {s : State} (h : Keeps k s0 s) : Keeps k s0 (messageSent s) := by
  unfold messageSent
  extract_lets v1
  repeat' first
    | with_reducible assumption | split | rfl | exact fun _ => ⟨rfl, rfl, rfl, rfl, rfl⟩
    | exact fun _ => ⟨rfl, rfl, rfl⟩ | exact id | with_reducible apply Keeps.foldl | intro _ | dsimp only
    | with_reducible apply Keeps.upd

theorem keeps_blockByteSent {n : Line} {s : State} (h : Keeps k s0 s) : Keeps k s0 (blockByteSent s n) := by
  unfold blockByteSent
  extract_lets v1
  repeat' first
    | with_reducible assumption | with_reducible apply keeps_blockFinished | split | rfl
    | exact fun _ => ⟨rfl, rfl, rfl, rfl, rfl⟩ | exact fun _ => ⟨rfl, rfl, rfl⟩ | exact id
    | with_reducible apply Keeps.foldl | intro _ | dsimp only | with_reducible apply Keeps.upd

theorem keeps_txFrame {s : State} (h : Keeps k s0 s) : Keeps k s0 (txFrame s) := by
  unfold txFrame
  extract_lets v1 v2 v3 v4 v5 v6 v7 v8 v9
  have h8 : Keeps k s0 v8 := by
    dsimp only [v8]
    repeat' first
      | with_reducible assumption | with_reducible apply keeps_blockByteSent | with_reducible apply keeps_messageSent
      | with_reducible apply keeps_writeLinkStatus | split | rfl | exact fun _ => ⟨rfl, rfl, rfl, rfl, rfl⟩
      | exact fun _ => ⟨rfl, rfl, rfl⟩ | exact id | with_reducible apply Keeps.foldl | intro _ | dsimp only
      | with_reducible apply Keeps.upd
  try clear_value v8
  have h9 : Keeps k s0 v9 := by
    dsimp only [v9]
    repeat' first
      | with_reducible assumption | with_reducible apply keeps_blockByteSent | with_reducible apply keeps_messageSent
      | with_reducible apply keeps_writeLinkStatus | split | rfl | exact fun _ => ⟨rfl, rfl, rfl, rfl, rfl⟩
      | exact fun _ => ⟨rfl, rfl, rfl⟩ | exact id | with_reducible apply Keeps.foldl | intro _ | dsimp only
      | with_reducible apply Keeps.upd
  try clear_value v9
  repeat' first
    | with_reducible assumption | with_reducible apply keeps_blockByteSent | with_reducible apply keeps_messageSent
    | with_reducible apply keeps_writeLinkStatus | split | rfl | exact fun _ => ⟨rfl, rfl, rfl, rfl, rfl⟩
    | exact fun _ => ⟨rfl, rfl, rfl⟩ | exact id | with_reducible apply Keeps.foldl | intro _ | dsimp only
    | with_reducible apply Keeps.upd

theorem keeps_checkFailed {s : State} (h : Keeps k s0 s) (hk : k.link = false) : Keeps k s0 (checkFailed s) := by
  unfold checkFailed
  extract_lets v1
  repeat' first
    | with_reducible assumption | with_reducible apply keeps_writeLinkStatus | split | rfl
    | exact fun _ => ⟨rfl, rfl, rfl, rfl, rfl⟩ | exact fun _ => ⟨rfl, rfl, rfl⟩
    | exact fun e => absurd (hk.symm.trans e) Bool.false_ne_true | exact id | with_reducible apply Keeps.foldl
    | intro _ | dsimp only | with_reducible apply Keeps.upd

theorem keeps_evenSlot0 {b : Byte} {s : State}
    (h : Keeps k s0 s) (hk : k.link = false) : Keeps k s0 (evenSlot0 b s) := by
  unfold evenSlot0
  extract_lets v1 v2
  have h2 : Keeps k s0 v2 := by
    dsimp only [v2]
    repeat' first
      | with_reducible assumption | with_reducible apply keeps_frameLoss | split | rfl
      | exact fun _ => ⟨rfl, rfl, rfl, rfl, rfl⟩ | exact fun _ => ⟨rfl, rfl, rfl⟩
      | exact fun e => absurd (hk.symm.trans e) Bool.false_ne_true | exact id | with_reducible apply Keeps.foldl
      | intro _ | dsimp only | with_reducible apply Keeps.upd
  try clear_value v2
  repeat' first
    | with_reducible assumption | with_reducible apply keeps_frameLoss | split | rfl
    | exact fun _ => ⟨rfl, rfl, rfl, rfl, rfl⟩ | exact fun _ => ⟨rfl, rfl, rfl⟩
    | exact fun e => absurd (hk.symm.trans e) Bool.false_ne_true | exact id | with_reducible apply Keeps.foldl
    | intro _ | dsimp only | with_reducible apply Keeps.upd

theorem keeps_oddSlot0 {b : Byte} {s : State}
    (h : Keeps k s0 s) (hk : k.link = false) : Keeps k s0 (oddSlot0 b s) := by
  unfold oddSlot0
  extract_lets v1 v2 v3
  have h2 : Keeps k s0 v2 := by
    dsimp only [v2]
    repeat' first
      | with_reducible assumption | with_reducible apply keeps_suspendSending | with_reducible apply keeps_frameLoss
      | split | rfl | exact fun _ => ⟨rfl, rfl, rfl, rfl, rfl⟩ | exact fun _ => ⟨rfl, rfl, rfl⟩
      | exact fun e => absurd (hk.symm.trans e) Bool.false_ne_true | exact id | with_reducible apply Keeps.foldl
      | intro _ | dsimp only | with_reducible apply Keeps.upd
  try clear_value v2
  have h3 : Keeps k s0 v3 := by
    dsimp only [v3]
    repeat' first
      | with_reducible assumption | with_reducible apply keeps_suspendSending | with_reducible apply keeps_frameLoss
      | split | rfl | exact fun _ => ⟨rfl, rfl, rfl, rfl, rfl⟩ | exact fun _ => ⟨rfl, rfl, rfl⟩
      | exact fun e => absurd (hk.symm.trans e) Bool.false_ne_true | exact id | with_reducible apply Keeps.foldl
      | intro _ | dsimp only | with_reducible apply Keeps.upd
  try clear_value v3
  repeat' first
    | with_reducible assumption | with_reducible apply keeps_suspendSending | with_reducible apply keeps_frameLoss
    | split | rfl | exact fun _ => ⟨rfl, rfl, rfl, rfl, rfl⟩ | exact fun _ => ⟨rfl, rfl, rfl⟩
    | exact fun e => absurd (hk.symm.trans e) Bool.false_ne_true | exact id | with_reducible apply Keeps.foldl
    | intro _ | dsimp only | with_reducible apply Keeps.upd

theorem keeps_blockByte {n : Line} {b : Byte} {s : State} (h : Keeps k s0 s) : Keeps k s0 (blockByte s n b) := by
  unfold blockByte
  extract_lets v1 v2
  repeat' first
    | with_reducible assumption | with_reducible apply keeps_setInLine | split | rfl
    | exact fun _ => ⟨rfl, rfl, rfl, rfl, rfl⟩ | exact fun _ => ⟨rfl, rfl, rfl⟩ | exact id
    | with_reducible apply Keeps.foldl | intro _ | dsimp only | with_reducible apply Keeps.upd

theorem keeps_messageComplete {m : List Byte} {failed : Bool} {s : State}
    (h : Keeps k s0 s) : Keeps k s0 (messageComplete m failed s) := by
  unfold messageComplete
  extract_lets v1 v2
  have h2 : Keeps k s0 v2 := by
    dsimp only [v2]
    repeat' first
      | with_reducible assumption | with_reducible apply keeps_openBlock | split | rfl
      | exact fun _ => ⟨rfl, rfl, rfl, rfl, rfl⟩ | exact fun _ => ⟨rfl, rfl, rfl⟩ | exact id
      | with_reducible apply Keeps.foldl | intro _ | dsimp only | with_reducible apply Keeps.upd
  try clear_value v2
  repeat' first
    | with_reducible assumption | with_reducible apply keeps_openBlock | split | rfl
    | exact fun _ => ⟨rfl, rfl, rfl, rfl, rfl⟩ | exact fun _ => ⟨rfl, rfl, rfl⟩ | exact id
    | with_reducible apply Keeps.foldl | intro _ | dsimp only | with_reducible apply Keeps.upd

theorem keeps_messageByte {b : Byte} {s : State} (h : Keeps k s0 s) : Keeps k s0 (messageByte b s) := by
  unfold messageByte
  extract_lets v1 v2
  repeat' first
    | with_reducible assumption | with_reducible apply keeps_messageComplete | split | rfl
    | exact fun _ => ⟨rfl, rfl, rfl, rfl, rfl⟩ | exact fun _ => ⟨rfl, rfl, rfl⟩ | exact id
    | with_reducible apply Keeps.foldl | intro _ | dsimp only | with_reducible apply Keeps.upd

theorem keeps_judgeBlock {n : Nat} {b : InBlock} {s : State} (h : Keeps k s0 s) : Keeps k s0 (judgeBlock n b s) := by
  unfold judgeBlock
  extract_lets v1
  repeat' first
    | with_reducible assumption | with_reducible apply keeps_goodBlock | with_reducible apply keeps_setInLine | split
    | rfl | exact fun _ => ⟨rfl, rfl, rfl, rfl, rfl⟩ | exact fun _ => ⟨rfl, rfl, rfl⟩ | exact id
    | with_reducible apply Keeps.foldl | intro _ | dsimp only | with_reducible apply Keeps.upd

theorem keeps_takeItem {i : RxItem} {s : State} (h : Keeps k s0 s) : Keeps k s0 (takeItem s i) := by
  unfold takeItem
  repeat' first
    | with_reducible assumption | with_reducible apply keeps_deliverMessage | with_reducible apply keeps_judgeBlock
    | split | rfl | exact fun _ => ⟨rfl, rfl, rfl, rfl, rfl⟩ | exact fun _ => ⟨rfl, rfl, rfl⟩ | exact id
    | with_reducible apply Keeps.foldl | intro _ | dsimp only | with_reducible apply Keeps.upd

theorem keeps_closeCheck {failed : Bool} {s : State} (h : Keeps k s0 s) : Keeps k s0 (closeCheck failed s) := by
  unfold closeCheck
  extract_lets v1
  repeat' first
    | with_reducible assumption | split | rfl | exact fun _ => ⟨rfl, rfl, rfl, rfl, rfl⟩
    | exact fun _ => ⟨rfl, rfl, rfl⟩ | exact id | with_reducible apply Keeps.foldl | intro _ | dsimp only
    | with_reducible apply Keeps.upd

theorem keeps_checkMatches {s : State} (h : Keeps k s0 s) : Keeps k s0 (checkMatches s) := by
  unfold checkMatches
  extract_lets v1 v2 v3
  have h2 : Keeps k s0 v2 := by
    dsimp only [v2]
    repeat' first
      | with_reducible assumption | with_reducible apply keeps_closeCheck | with_reducible apply keeps_takeItem
      | split | rfl | exact fun _ => ⟨rfl, rfl, rfl, rfl, rfl⟩ | exact fun _ => ⟨rfl, rfl, rfl⟩ | exact id
      | with_reducible apply Keeps.foldl | intro _ | dsimp only | with_reducible apply Keeps.upd
  try clear_value v2
  repeat' first
    | with_reducible assumption | with_reducible apply keeps_closeCheck | with_reducible apply keeps_takeItem | split
    | rfl | exact fun _ => ⟨rfl, rfl, rfl, rfl, rfl⟩ | exact fun _ => ⟨rfl, rfl, rfl⟩ | exact id
    | with_reducible apply Keeps.foldl | intro _ | dsimp only | with_reducible apply Keeps.upd

theorem keeps_checkFails {s : State} (h : Keeps k s0 s) : Keeps k s0 (checkFails s) := by
  unfold checkFails
  extract_lets v1 v2
  have h1 : Keeps k s0 v1 := by
    dsimp only [v1]
    repeat' first
      | with_reducible assumption | with_reducible apply keeps_closeCheck | split | rfl
      | exact fun _ => ⟨rfl, rfl, rfl, rfl, rfl⟩ | exact fun _ => ⟨rfl, rfl, rfl⟩ | exact id
      | with_reducible apply Keeps.foldl | intro _ | dsimp only | with_reducible apply Keeps.upd
  try clear_value v1
  repeat' first
    | with_reducible assumption | with_reducible apply keeps_closeCheck | split | rfl
    | exact fun _ => ⟨rfl, rfl, rfl, rfl, rfl⟩ | exact fun _ => ⟨rfl, rfl, rfl⟩ | exact id
    | with_reducible apply Keeps.foldl | intro _ | dsimp only | with_reducible apply Keeps.upd

theorem keeps_multiframeEnd {s : State} (h : Keeps k s0 s) : Keeps k s0 (multiframeEnd s) := by
  unfold multiframeEnd
  repeat' first
    | with_reducible assumption | with_reducible apply keeps_checkMatches | with_reducible apply keeps_checkFails
    | split | rfl | exact fun _ => ⟨rfl, rfl, rfl, rfl, rfl⟩ | exact fun _ => ⟨rfl, rfl, rfl⟩ | exact id
    | with_reducible apply Keeps.foldl | intro _ | dsimp only | with_reducible apply Keeps.upd

theorem keeps_mfContents {slots : List Byte} {s : State} (h : Keeps k s0 s) : Keeps k s0 (mfContents slots s) := by
  unfold mfContents
  extract_lets v1 v2 v3 v4 v5 v6 v7 v8
  have h5 : Keeps k s0 v5 := by
    dsimp only [v5]
    repeat' first
      | with_reducible assumption | with_reducible apply keeps_take | with_reducible apply keeps_blockByte
      | with_reducible apply keeps_messageByte | split | rfl | exact fun _ => ⟨rfl, rfl, rfl, rfl, rfl⟩
      | exact fun _ => ⟨rfl, rfl, rfl⟩ | exact id | with_reducible apply Keeps.foldl | intro _ | dsimp only
      | with_reducible apply Keeps.upd
  try clear_value v5
  have h6 : Keeps k s0 v6 := by
    dsimp only [v6]
    repeat' first
      | with_reducible assumption | with_reducible apply keeps_take | with_reducible apply keeps_blockByte
      | with_reducible apply keeps_messageByte | split | rfl | exact fun _ => ⟨rfl, rfl, rfl, rfl, rfl⟩
      | exact fun _ => ⟨rfl, rfl, rfl⟩ | exact id | with_reducible apply Keeps.foldl | intro _ | dsimp only
      | with_reducible apply Keeps.upd
  try clear_value v6
  have h7 : Keeps k s0 v7 := by
    dsimp only [v7]
    repeat' first
      | with_reducible assumption | with_reducible apply keeps_take | with_reducible apply keeps_blockByte
      | with_reducible apply keeps_messageByte | split | rfl | exact fun _ => ⟨rfl, rfl, rfl, rfl, rfl⟩
      | exact fun _ => ⟨rfl, rfl, rfl⟩ | exact id | with_reducible apply Keeps.foldl | intro _ | dsimp only
      | with_reducible apply Keeps.upd
  try clear_value v7
  repeat' first
    | with_reducible assumption | with_reducible apply keeps_take | with_reducible apply keeps_blockByte
    | with_reducible apply keeps_messageByte | split | rfl | exact fun _ => ⟨rfl, rfl, rfl, rfl, rfl⟩
    | exact fun _ => ⟨rfl, rfl, rfl⟩ | exact id | with_reducible apply Keeps.foldl | intro _ | dsimp only
    | with_reducible apply Keeps.upd

theorem keeps_mfLost {s : State} (h : Keeps k s0 s) (hk : k.link = false) : Keeps k s0 (mfLost s) := by
  unfold mfLost
  extract_lets v1
  repeat' first
    | with_reducible assumption | with_reducible apply keeps_linkDown | split | rfl
    | exact fun _ => ⟨rfl, rfl, rfl, rfl, rfl⟩ | exact fun _ => ⟨rfl, rfl, rfl⟩
    | exact fun e => absurd (hk.symm.trans e) Bool.false_ne_true | exact id | with_reducible apply Keeps.foldl
    | intro _ | dsimp only | with_reducible apply Keeps.upd

theorem keeps_noteMark {mark : Bool} {s : State} (h : Keeps k s0 s) : Keeps k s0 (noteMark mark s) := by
  unfold noteMark
  extract_lets v1
  repeat' first
    | with_reducible assumption | with_reducible apply keeps_take | split | rfl
    | exact fun _ => ⟨rfl, rfl, rfl, rfl, rfl⟩ | exact fun _ => ⟨rfl, rfl, rfl⟩ | exact id
    | with_reducible apply Keeps.foldl | intro _ | dsimp only | with_reducible apply Keeps.upd

theorem keeps_mfFrame {slots : List Byte} {odd : Bool} {s : State}
    (h : Keeps k s0 s) (hk : k.link = false) : Keeps k s0 (mfFrame slots odd s) := by
  unfold mfFrame
  extract_lets v1 v2 v3 v4 v5 v6
  have h3 : Keeps k s0 v3 := by
    dsimp only [v3]
    repeat' first
      | with_reducible assumption | with_reducible apply keeps_mfContents | with_reducible apply keeps_linkGoesUp
      | with_reducible apply keeps_noteMark | with_reducible apply keeps_mfLost | split | rfl
      | exact fun _ => ⟨rfl, rfl, rfl, rfl, rfl⟩ | exact fun _ => ⟨rfl, rfl, rfl⟩
      | exact fun e => absurd (hk.symm.trans e) Bool.false_ne_true | exact id | with_reducible apply Keeps.foldl
      | intro _ | dsimp only | with_reducible apply Keeps.upd
  try clear_value v3
  have h5 : Keeps k s0 v5 := by
    dsimp only [v5]
    repeat' first
      | with_reducible assumption | with_reducible apply keeps_mfContents | with_reducible apply keeps_linkGoesUp
      | with_reducible apply keeps_noteMark | with_reducible apply keeps_mfLost | split | rfl
      | exact fun _ => ⟨rfl, rfl, rfl, rfl, rfl⟩ | exact fun _ => ⟨rfl, rfl, rfl⟩
      | exact fun e => absurd (hk.symm.trans e) Bool.false_ne_true | exact id | with_reducible apply Keeps.foldl
      | intro _ | dsimp only | with_reducible apply Keeps.upd
  try clear_value v5
  repeat' first
    | with_reducible assumption | with_reducible apply keeps_mfContents | with_reducible apply keeps_linkGoesUp
    | with_reducible apply keeps_noteMark | with_reducible apply keeps_mfLost | split | rfl
    | exact fun _ => ⟨rfl, rfl, rfl, rfl, rfl⟩ | exact fun _ => ⟨rfl, rfl, rfl⟩
    | exact fun e => absurd (hk.symm.trans e) Bool.false_ne_true | exact id | with_reducible apply Keeps.foldl
    | intro _ | dsimp only | with_reducible apply Keeps.upd

theorem keeps_syncFrame {slots : List Byte} {s : State}
    (h : Keeps k s0 s) (hk : k.link = false) : Keeps k s0 (syncFrame slots s) := by
  unfold syncFrame
  extract_lets v1 v2 v3 v4 v5
  have h1 : Keeps k s0 v1 := by
    dsimp only [v1]
    repeat' first
      | with_reducible assumption | with_reducible apply keeps_multiframeEnd | with_reducible apply keeps_oddSlot0
      | with_reducible apply keeps_evenSlot0 | with_reducible apply keeps_mfFrame | split | rfl
      | exact fun _ => ⟨rfl, rfl, rfl, rfl, rfl⟩ | exact fun _ => ⟨rfl, rfl, rfl⟩
      | exact fun e => absurd (hk.symm.trans e) Bool.false_ne_true | exact id | with_reducible apply Keeps.foldl
      | intro _ | dsimp only | with_reducible apply Keeps.upd
  try clear_value v1
  have h4 : Keeps k s0 v4 := by
    dsimp only [v4]
    repeat' first
      | with_reducible assumption | with_reducible apply keeps_multiframeEnd | with_reducible apply keeps_oddSlot0
      | with_reducible apply keeps_evenSlot0 | with_reducible apply keeps_mfFrame | split | rfl
      | exact fun _ => ⟨rfl, rfl, rfl, rfl, rfl⟩ | exact fun _ => ⟨rfl, rfl, rfl⟩
      | exact fun e => absurd (hk.symm.trans e) Bool.false_ne_true | exact id | with_reducible apply Keeps.foldl
      | intro _ | dsimp only | with_reducible apply Keeps.upd
  try clear_value v4
  have h5 : Keeps k s0 v5 := by
    dsimp only [v5]
    repeat' first
      | with_reducible assumption | with_reducible apply keeps_multiframeEnd | with_reducible apply keeps_oddSlot0
      | with_reducible apply keeps_evenSlot0 | with_reducible apply keeps_mfFrame | split | rfl
      | exact fun _ => ⟨rfl, rfl, rfl, rfl, rfl⟩ | exact fun _ => ⟨rfl, rfl, rfl⟩
      | exact fun e => absurd (hk.symm.trans e) Bool.false_ne_true | exact id | with_reducible apply Keeps.foldl
      | intro _ | dsimp only | with_reducible apply Keeps.upd
  try clear_value v5
  repeat' first
    | with_reducible assumption | with_reducible apply keeps_multiframeEnd | with_reducible apply keeps_oddSlot0
    | with_reducible apply keeps_evenSlot0 | with_reducible apply keeps_mfFrame | split | rfl
    | exact fun _ => ⟨rfl, rfl, rfl, rfl, rfl⟩ | exact fun _ => ⟨rfl, rfl, rfl⟩
    | exact fun e => absurd (hk.symm.trans e) Bool.false_ne_true | exact id | with_reducible apply Keeps.foldl
    | intro _ | dsimp only | with_reducible apply Keeps.upd

theorem keeps_enterSync {s : State} (h : Keeps k s0 s) (hk : k.link = false) : Keeps k s0 (enterSync s) := by
  unfold enterSync
  extract_lets v1
  repeat' first
    | with_reducible assumption | with_reducible apply keeps_writeLinkStatus | split | rfl
    | exact fun _ => ⟨rfl, rfl, rfl, rfl, rfl⟩ | exact fun _ => ⟨rfl, rfl, rfl⟩
    | exact fun e => absurd (hk.symm.trans e) Bool.false_ne_true | exact id | with_reducible apply Keeps.foldl
    | intro _ | dsimp only | with_reducible apply Keeps.upd

theorem keeps_rxFrame {slots : List Byte} {s : State}
    (h : Keeps k s0 s) (hk : k.link = false) : Keeps k s0 (rxFrame slots s) := by
  unfold rxFrame
  extract_lets v1
  repeat' first
    | with_reducible assumption | with_reducible apply keeps_writeLinkStatus | with_reducible apply keeps_checkFailed
    | with_reducible apply keeps_syncFrame | with_reducible apply keeps_enterSync | split | rfl
    | exact fun _ => ⟨rfl, rfl, rfl, rfl, rfl⟩ | exact fun _ => ⟨rfl, rfl, rfl⟩
    | exact fun e => absurd (hk.symm.trans e) Bool.false_ne_true | exact id | with_reducible apply Keeps.foldl
    | intro _ | dsimp only | with_reducible apply Keeps.upd

theorem keeps_linkSetup {sl : Slot} {s : State} (h : Keeps k s0 s) : Keeps k s0 (linkSetup sl s).1 := by
  unfold linkSetup
  extract_lets v1 v2 v3
  repeat' first
    | with_reducible assumption | split | rfl | exact fun _ => ⟨rfl, rfl, rfl, rfl, rfl⟩
    | exact fun _ => ⟨rfl, rfl, rfl⟩ | exact id | with_reducible apply Keeps.foldl | intro _ | dsimp only
    | with_reducible apply Keeps.upd

theorem keeps_linkResync {sl : Slot} {s : State}
    (h : Keeps k s0 s) (hk : k.link = false) : Keeps k s0 (linkResync sl s).1 := by
  unfold linkResync
  extract_lets v1 v2
  repeat' first
    | with_reducible assumption | with_reducible apply keeps_frameLoss | with_reducible apply keeps_writeLinkStatus
    | split | rfl | exact fun _ => ⟨rfl, rfl, rfl, rfl, rfl⟩ | exact fun _ => ⟨rfl, rfl, rfl⟩
    | exact fun e => absurd (hk.symm.trans e) Bool.false_ne_true | exact id | with_reducible apply Keeps.foldl
    | intro _ | dsimp only | with_reducible apply Keeps.upd

theorem keeps_clearLinkCounters {sl : Slot} {s : State}
    (h : Keeps k s0 s) : Keeps k s0 (clearLinkCounters sl s).1 := by
  unfold clearLinkCounters
  extract_lets v1
  repeat' first
    | with_reducible assumption | with_reducible apply keeps_writeLinkStatus | split | rfl
    | exact fun _ => ⟨rfl, rfl, rfl, rfl, rfl⟩ | exact fun _ => ⟨rfl, rfl, rfl⟩ | exact id
    | with_reducible apply Keeps.foldl | intro _ | dsimp only | with_reducible apply Keeps.upd

theorem keeps_tickTimers {s : State} (h : Keeps k s0 s) : Keeps k s0 (tickTimers s) := by
  unfold tickTimers
  extract_lets v1
  repeat' first
    | with_reducible assumption | split | rfl | exact fun _ => ⟨rfl, rfl, rfl, rfl, rfl⟩
    | exact fun _ => ⟨rfl, rfl, rfl⟩ | exact id | with_reducible apply Keeps.foldl | intro _ | dsimp only
    | with_reducible apply Keeps.upd

theorem keeps_tickCalls {s : State} (h : Keeps k s0 s) : Keeps k s0 (tickCalls s) := by
  unfold tickCalls
  extract_lets v1
  repeat' first
    | with_reducible assumption | split | rfl | exact fun _ => ⟨rfl, rfl, rfl, rfl, rfl⟩
    | exact fun _ => ⟨rfl, rfl, rfl⟩ | exact id | with_reducible apply Keeps.foldl | intro _ | dsimp only
    | with_reducible apply Keeps.upd

theorem keeps_secondPassed {s : State} (h : Keeps k s0 s) : Keeps k s0 (secondPassed s) := by
  unfold secondPassed
  repeat' first
    | with_reducible assumption | with_reducible apply keeps_occasion | split | rfl
    | exact fun _ => ⟨rfl, rfl, rfl, rfl, rfl⟩ | exact fun _ => ⟨rfl, rfl, rfl⟩ | exact id
    | with_reducible apply Keeps.foldl | intro _ | dsimp only | with_reducible apply Keeps.upd

theorem keeps_tenthEnds {s : State} (h : Keeps k s0 s) (hk : k.time = false) : Keeps k s0 (tenthEnds s) := by
  unfold tenthEnds
  extract_lets v1 v2 v3 v4 v5
  have h1 : Keeps k s0 v1 := by
    dsimp only [v1]
    repeat' first
      | with_reducible assumption | with_reducible apply keeps_tickCalls | with_reducible apply keeps_tickTimers
      | with_reducible apply keeps_secondPassed | split | rfl | exact fun _ => ⟨rfl, rfl, rfl, rfl, rfl⟩
      | exact fun _ => ⟨rfl, rfl, rfl⟩ | exact fun e => absurd (hk.symm.trans e) Bool.false_ne_true | exact id
      | with_reducible apply Keeps.foldl | intro _ | dsimp only | with_reducible apply Keeps.upd
  try clear_value v1
  have h4 : Keeps k s0 v4 := by
    dsimp only [v4]
    repeat' first
      | with_reducible assumption | with_reducible apply keeps_tickCalls | with_reducible apply keeps_tickTimers
      | with_reducible apply keeps_secondPassed | split | rfl | exact fun _ => ⟨rfl, rfl, rfl, rfl, rfl⟩
      | exact fun _ => ⟨rfl, rfl, rfl⟩ | exact fun e => absurd (hk.symm.trans e) Bool.false_ne_true | exact id
      | with_reducible apply Keeps.foldl | intro _ | dsimp only | with_reducible apply Keeps.upd
  try clear_value v4
  repeat' first
    | with_reducible assumption | with_reducible apply keeps_tickCalls | with_reducible apply keeps_tickTimers
    | with_reducible apply keeps_secondPassed | split | rfl | exact fun _ => ⟨rfl, rfl, rfl, rfl, rfl⟩
    | exact fun _ => ⟨rfl, rfl, rfl⟩ | exact fun e => absurd (hk.symm.trans e) Bool.false_ne_true | exact id
    | with_reducible apply Keeps.foldl | intro _ | dsimp only | with_reducible apply Keeps.upd

theorem keeps_commitAnchor {s : State} (h : Keeps k s0 s) (hk : k.map = false) : Keeps k s0 (commitAnchor s) := by
  unfold commitAnchor
  extract_lets v1 v2 v3
  have h2 : Keeps k s0 v2 := by
    dsimp only [v2]
    repeat' first
      | with_reducible assumption | with_reducible apply keeps_writeStatus | split | rfl
      | exact fun _ => ⟨rfl, rfl, rfl, rfl, rfl⟩ | exact fun _ => ⟨rfl, rfl, rfl⟩
      | exact fun e => absurd (hk.symm.trans e) Bool.false_ne_true | exact id | with_reducible apply Keeps.foldl
      | intro _ | dsimp only | with_reducible apply Keeps.upd
  try clear_value v2
  repeat' first
    | with_reducible assumption | with_reducible apply keeps_writeStatus | split | rfl
    | exact fun _ => ⟨rfl, rfl, rfl, rfl, rfl⟩ | exact fun _ => ⟨rfl, rfl, rfl⟩
    | exact fun e => absurd (hk.symm.trans e) Bool.false_ne_true | exact id | with_reducible apply Keeps.foldl
    | intro _ | dsimp only | with_reducible apply Keeps.upd

theorem keeps_writeEmptyTables {s : State} (h : Keeps k s0 s) : Keeps k s0 (writeEmptyTables s) := by
  unfold writeEmptyTables
  exact keeps_putLogState (Keeps.foldl (Keeps.foldl (keeps_putDefaultRoute (keeps_clear (keeps_clear h)))
    fun t i ht => keeps_store ht) fun t i ht => keeps_store ht)

theorem keeps_clearTables {s : State} (h : Keeps k s0 s) : Keeps k s0 (clearTables s) := by
  unfold clearTables
  repeat' first
    | with_reducible assumption | with_reducible apply keeps_clear | split | rfl
    | exact fun _ => ⟨rfl, rfl, rfl, rfl, rfl⟩ | exact fun _ => ⟨rfl, rfl, rfl⟩ | exact id
    | with_reducible apply Keeps.foldl | intro _ | dsimp only | with_reducible apply Keeps.upd

theorem keeps_runEntryValues {s : State} (h : Keeps k s0 s) (hk : k.map = false) : Keeps k s0 (runEntryValues s) := by
  unfold runEntryValues
  extract_lets v1 v2 v3 v4
  repeat' first
    | with_reducible assumption | split | rfl | exact fun _ => ⟨rfl, rfl, rfl, rfl, rfl⟩
    | exact fun _ => ⟨rfl, rfl, rfl⟩ | exact fun e => absurd (hk.symm.trans e) Bool.false_ne_true | exact fun _ => rfl
    | exact id | with_reducible apply Keeps.foldl | intro _ | dsimp only | with_reducible apply Keeps.upd

theorem keeps_runEntryWrites {s : State} (h : Keeps k s0 s) : Keeps k s0 (runEntryWrites s) := by
  unfold runEntryWrites
  extract_lets v1 v2 v3 v4 v5
  have h1 : Keeps k s0 v1 := by
    dsimp only [v1]
    repeat' first
      | with_reducible assumption | with_reducible apply keeps_clearTables
      | with_reducible apply keeps_writeEmptyTables | with_reducible apply keeps_store
      | with_reducible apply keeps_writeLinkStatus | with_reducible apply keeps_writePathStatus
      | with_reducible apply keeps_writeLine | split | rfl | exact fun _ => ⟨rfl, rfl, rfl, rfl, rfl⟩
      | exact fun _ => ⟨rfl, rfl, rfl⟩ | exact id | with_reducible apply Keeps.foldl | intro _ | dsimp only
      | with_reducible apply Keeps.upd
  try clear_value v1
  have h2 : Keeps k s0 v2 := by
    dsimp only [v2]
    repeat' first
      | with_reducible assumption | with_reducible apply keeps_clearTables
      | with_reducible apply keeps_writeEmptyTables | with_reducible apply keeps_store
      | with_reducible apply keeps_writeLinkStatus | with_reducible apply keeps_writePathStatus
      | with_reducible apply keeps_writeLine | split | rfl | exact fun _ => ⟨rfl, rfl, rfl, rfl, rfl⟩
      | exact fun _ => ⟨rfl, rfl, rfl⟩ | exact id | with_reducible apply Keeps.foldl | intro _ | dsimp only
      | with_reducible apply Keeps.upd
  try clear_value v2
  have h3 : Keeps k s0 v3 := by
    dsimp only [v3]
    repeat' first
      | with_reducible assumption | with_reducible apply keeps_clearTables
      | with_reducible apply keeps_writeEmptyTables | with_reducible apply keeps_store
      | with_reducible apply keeps_writeLinkStatus | with_reducible apply keeps_writePathStatus
      | with_reducible apply keeps_writeLine | split | rfl | exact fun _ => ⟨rfl, rfl, rfl, rfl, rfl⟩
      | exact fun _ => ⟨rfl, rfl, rfl⟩ | exact id | with_reducible apply Keeps.foldl | intro _ | dsimp only
      | with_reducible apply Keeps.upd
  try clear_value v3
  have h4 : Keeps k s0 v4 := by
    dsimp only [v4]
    repeat' first
      | with_reducible assumption | with_reducible apply keeps_clearTables
      | with_reducible apply keeps_writeEmptyTables | with_reducible apply keeps_store
      | with_reducible apply keeps_writeLinkStatus | with_reducible apply keeps_writePathStatus
      | with_reducible apply keeps_writeLine | split | rfl | exact fun _ => ⟨rfl, rfl, rfl, rfl, rfl⟩
      | exact fun _ => ⟨rfl, rfl, rfl⟩ | exact id | with_reducible apply Keeps.foldl | intro _ | dsimp only
      | with_reducible apply Keeps.upd
  try clear_value v4
  have h5 : Keeps k s0 v5 := by
    dsimp only [v5]
    repeat' first
      | with_reducible assumption | with_reducible apply keeps_clearTables
      | with_reducible apply keeps_writeEmptyTables | with_reducible apply keeps_store
      | with_reducible apply keeps_writeLinkStatus | with_reducible apply keeps_writePathStatus
      | with_reducible apply keeps_writeLine | split | rfl | exact fun _ => ⟨rfl, rfl, rfl, rfl, rfl⟩
      | exact fun _ => ⟨rfl, rfl, rfl⟩ | exact id | with_reducible apply Keeps.foldl | intro _ | dsimp only
      | with_reducible apply Keeps.upd
  try clear_value v5
  repeat' first
    | with_reducible assumption | with_reducible apply keeps_clearTables
    | with_reducible apply keeps_writeEmptyTables | with_reducible apply keeps_store
    | with_reducible apply keeps_writeLinkStatus | with_reducible apply keeps_writePathStatus
    | with_reducible apply keeps_writeLine | split | rfl | exact fun _ => ⟨rfl, rfl, rfl, rfl, rfl⟩
    | exact fun _ => ⟨rfl, rfl, rfl⟩ | exact id | with_reducible apply Keeps.foldl | intro _ | dsimp only
    | with_reducible apply Keeps.upd

theorem keeps_announce {s : State} (h : Keeps k s0 s) : Keeps k s0 (announce s) := by
  unfold announce
  extract_lets v1 v2 v3
  have h1 : Keeps k s0 v1 := by
    dsimp only [v1]
    repeat' first
      | with_reducible assumption | with_reducible apply keeps_post | with_reducible apply keeps_writeStatus
      | with_reducible apply keeps_postLinkState | split | rfl | exact fun _ => ⟨rfl, rfl, rfl, rfl, rfl⟩
      | exact fun _ => ⟨rfl, rfl, rfl⟩ | exact id | with_reducible apply Keeps.foldl | intro _ | dsimp only
      | with_reducible apply Keeps.upd
  try clear_value v1
  have h3 : Keeps k s0 v3 := by
    dsimp only [v3]
    repeat' first
      | with_reducible assumption | with_reducible apply keeps_post | with_reducible apply keeps_writeStatus
      | with_reducible apply keeps_postLinkState | split | rfl | exact fun _ => ⟨rfl, rfl, rfl, rfl, rfl⟩
      | exact fun _ => ⟨rfl, rfl, rfl⟩ | exact id | with_reducible apply Keeps.foldl | intro _ | dsimp only
      | with_reducible apply Keeps.upd
  try clear_value v3
  repeat' first
    | with_reducible assumption | with_reducible apply keeps_post | with_reducible apply keeps_writeStatus
    | with_reducible apply keeps_postLinkState | split | rfl | exact fun _ => ⟨rfl, rfl, rfl, rfl, rfl⟩
    | exact fun _ => ⟨rfl, rfl, rfl⟩ | exact id | with_reducible apply Keeps.foldl | intro _ | dsimp only
    | with_reducible apply Keeps.upd

theorem keeps_startWithdraw {s : State} (h : Keeps k s0 s) (hk : k.map = false) : Keeps k s0 (startWithdraw s) := by
  unfold startWithdraw
  extract_lets v1 v2 v3 v4 v5
  have h2 : Keeps k s0 v2 := by
    dsimp only [v2]
    repeat' first
      | with_reducible assumption | with_reducible apply keeps_cutScan | with_reducible apply keeps_post
      | with_reducible apply keeps_withdrawLines | with_reducible apply keeps_discardJobs
      | with_reducible apply keeps_withdrawPrint | split | rfl | exact fun _ => ⟨rfl, rfl, rfl, rfl, rfl⟩
      | exact fun _ => ⟨rfl, rfl, rfl⟩ | exact fun e => absurd (hk.symm.trans e) Bool.false_ne_true | exact id
      | with_reducible apply Keeps.foldl | intro _ | dsimp only | with_reducible apply Keeps.upd
  try clear_value v2
  have h3 : Keeps k s0 v3 := by
    dsimp only [v3]
    repeat' first
      | with_reducible assumption | with_reducible apply keeps_cutScan | with_reducible apply keeps_post
      | with_reducible apply keeps_withdrawLines | with_reducible apply keeps_discardJobs
      | with_reducible apply keeps_withdrawPrint | split | rfl | exact fun _ => ⟨rfl, rfl, rfl, rfl, rfl⟩
      | exact fun _ => ⟨rfl, rfl, rfl⟩ | exact fun e => absurd (hk.symm.trans e) Bool.false_ne_true | exact id
      | with_reducible apply Keeps.foldl | intro _ | dsimp only | with_reducible apply Keeps.upd
  try clear_value v3
  have h5 : Keeps k s0 v5 := by
    dsimp only [v5]
    repeat' first
      | with_reducible assumption | with_reducible apply keeps_cutScan | with_reducible apply keeps_post
      | with_reducible apply keeps_withdrawLines | with_reducible apply keeps_discardJobs
      | with_reducible apply keeps_withdrawPrint | split | rfl | exact fun _ => ⟨rfl, rfl, rfl, rfl, rfl⟩
      | exact fun _ => ⟨rfl, rfl, rfl⟩ | exact fun e => absurd (hk.symm.trans e) Bool.false_ne_true | exact id
      | with_reducible apply Keeps.foldl | intro _ | dsimp only | with_reducible apply Keeps.upd
  try clear_value v5
  repeat' first
    | with_reducible assumption | with_reducible apply keeps_cutScan | with_reducible apply keeps_post
    | with_reducible apply keeps_withdrawLines | with_reducible apply keeps_discardJobs
    | with_reducible apply keeps_withdrawPrint | split | rfl | exact fun _ => ⟨rfl, rfl, rfl, rfl, rfl⟩
    | exact fun _ => ⟨rfl, rfl, rfl⟩ | exact fun e => absurd (hk.symm.trans e) Bool.false_ne_true | exact id
    | with_reducible apply Keeps.foldl | intro _ | dsimp only | with_reducible apply Keeps.upd

theorem keeps_runEntry {s : State} (h : Keeps k s0 s) (hk : k.map = false) : Keeps k s0 (runEntry s) := by
  unfold runEntry
  extract_lets v1
  have h1 : Keeps k s0 v1 := by
    dsimp only [v1]
    repeat' first
      | with_reducible assumption | with_reducible apply keeps_announce | with_reducible apply keeps_runEntryWrites
      | with_reducible apply keeps_runEntryValues | with_reducible apply keeps_startWithdraw | split | rfl
      | exact fun _ => ⟨rfl, rfl, rfl, rfl, rfl⟩ | exact fun _ => ⟨rfl, rfl, rfl⟩
      | exact fun e => absurd (hk.symm.trans e) Bool.false_ne_true | exact id | with_reducible apply Keeps.foldl
      | intro _ | dsimp only | with_reducible apply Keeps.upd
  try clear_value v1
  repeat' first
    | with_reducible assumption | with_reducible apply keeps_announce | with_reducible apply keeps_runEntryWrites
    | with_reducible apply keeps_runEntryValues | with_reducible apply keeps_startWithdraw | split | rfl
    | exact fun _ => ⟨rfl, rfl, rfl, rfl, rfl⟩ | exact fun _ => ⟨rfl, rfl, rfl⟩
    | exact fun e => absurd (hk.symm.trans e) Bool.false_ne_true | exact id | with_reducible apply Keeps.foldl
    | intro _ | dsimp only | with_reducible apply Keeps.upd

theorem keeps_endWithdraw {s : State} (h : Keeps k s0 s) (hk : k.map = false) : Keeps k s0 (endWithdraw s) := by
  unfold endWithdraw
  extract_lets v1 v2 v3 v4 v5
  have h1 : Keeps k s0 v1 := by
    dsimp only [v1]
    repeat' first
      | with_reducible assumption | with_reducible apply keeps_writeStatus | split | rfl
      | exact fun _ => ⟨rfl, rfl, rfl, rfl, rfl⟩ | exact fun _ => ⟨rfl, rfl, rfl⟩
      | exact fun e => absurd (hk.symm.trans e) Bool.false_ne_true | exact id | with_reducible apply Keeps.foldl
      | intro _ | dsimp only | with_reducible apply Keeps.upd
  try clear_value v1
  repeat' first
    | with_reducible assumption | with_reducible apply keeps_writeStatus | split | rfl
    | exact fun _ => ⟨rfl, rfl, rfl, rfl, rfl⟩ | exact fun _ => ⟨rfl, rfl, rfl⟩
    | exact fun e => absurd (hk.symm.trans e) Bool.false_ne_true | exact id | with_reducible apply Keeps.foldl
    | intro _ | dsimp only | with_reducible apply Keeps.upd

theorem keeps_commitWritten {s : State} (h : Keeps k s0 s) (hk : k.map = false) : Keeps k s0 (commitWritten s) := by
  unfold commitWritten
  extract_lets v1 v2
  repeat' first
    | with_reducible assumption | with_reducible apply keeps_commitAnchor | with_reducible apply keeps_startWithdraw
    | split | rfl | exact fun _ => ⟨rfl, rfl, rfl, rfl, rfl⟩ | exact fun _ => ⟨rfl, rfl, rfl⟩
    | exact fun e => absurd (hk.symm.trans e) Bool.false_ne_true | exact id | with_reducible apply Keeps.foldl
    | intro _ | dsimp only | with_reducible apply Keeps.upd

theorem keeps_postIndexBad {ring value : Nat} {s : State}
    (h : Keeps k s0 s) : Keeps k s0 (postIndexBad ring value s) := by
  unfold postIndexBad
  repeat' first
    | with_reducible assumption | with_reducible apply keeps_post | split | rfl
    | exact fun _ => ⟨rfl, rfl, rfl, rfl, rfl⟩ | exact fun _ => ⟨rfl, rfl, rfl⟩ | exact id
    | with_reducible apply Keeps.foldl | intro _ | dsimp only | with_reducible apply Keeps.upd

theorem keeps_tailWritten {v : Nat} {s : State} (h : Keeps k s0 s) : Keeps k s0 (tailWritten v s) := by
  unfold tailWritten
  extract_lets v1
  repeat' first
    | with_reducible assumption | with_reducible apply keeps_postIndexBad | split | rfl
    | exact fun _ => ⟨rfl, rfl, rfl, rfl, rfl⟩ | exact fun _ => ⟨rfl, rfl, rfl⟩ | exact id
    | with_reducible apply Keeps.foldl | intro _ | dsimp only | with_reducible apply Keeps.upd

theorem keeps_headWritten {v : Nat} {s : State} (h : Keeps k s0 s) : Keeps k s0 (headWritten v s) := by
  unfold headWritten
  extract_lets v1 v2
  repeat' first
    | with_reducible assumption | with_reducible apply keeps_postIndexBad | with_reducible apply keeps_serveQueue
    | split | rfl | exact fun _ => ⟨rfl, rfl, rfl, rfl, rfl⟩ | exact fun _ => ⟨rfl, rfl, rfl⟩ | exact id
    | with_reducible apply Keeps.foldl | intro _ | dsimp only | with_reducible apply Keeps.upd

theorem keeps_dropWrite {off : Nat} {s : State} (h : Keeps k s0 s) : Keeps k s0 (dropWrite off s) := by
  unfold dropWrite
  extract_lets v1 v2 v3
  have h3 : Keeps k s0 v3 := by
    dsimp only [v3]
    repeat' first
      | with_reducible assumption | with_reducible apply keeps_writePathStatus | with_reducible apply keeps_post
      | split | rfl | exact fun _ => ⟨rfl, rfl, rfl, rfl, rfl⟩ | exact fun _ => ⟨rfl, rfl, rfl⟩ | exact id
      | with_reducible apply Keeps.foldl | intro _ | dsimp only | with_reducible apply Keeps.upd
  try clear_value v3
  repeat' first
    | with_reducible assumption | with_reducible apply keeps_writePathStatus | with_reducible apply keeps_post | split
    | rfl | exact fun _ => ⟨rfl, rfl, rfl, rfl, rfl⟩ | exact fun _ => ⟨rfl, rfl, rfl⟩ | exact id
    | with_reducible apply Keeps.foldl | intro _ | dsimp only | with_reducible apply Keeps.upd

theorem keeps_regionWrite {a : BusAccess} {s : State}
    (h : Keeps k s0 s) (hk : k.map = false) : Keeps k s0 (regionWrite a s) := by
  unfold regionWrite
  extract_lets v1 v2
  have h1 : Keeps k s0 v1 := by
    dsimp only [v1]
    repeat' first
      | with_reducible assumption | with_reducible apply keeps_commitWritten | with_reducible apply keeps_storeAccess
      | with_reducible apply keeps_dropWrite | with_reducible apply keeps_tailWritten
      | with_reducible apply keeps_headWritten | with_reducible apply keeps_passWrite | split | rfl
      | exact fun _ => ⟨rfl, rfl, rfl, rfl, rfl⟩ | exact fun _ => ⟨rfl, rfl, rfl⟩
      | exact fun e => absurd (hk.symm.trans e) Bool.false_ne_true | exact id | with_reducible apply Keeps.foldl
      | intro _ | dsimp only | with_reducible apply Keeps.upd
  try clear_value v1
  repeat' first
    | with_reducible assumption | with_reducible apply keeps_commitWritten | with_reducible apply keeps_storeAccess
    | with_reducible apply keeps_dropWrite | with_reducible apply keeps_tailWritten
    | with_reducible apply keeps_headWritten | with_reducible apply keeps_passWrite | split | rfl
    | exact fun _ => ⟨rfl, rfl, rfl, rfl, rfl⟩ | exact fun _ => ⟨rfl, rfl, rfl⟩
    | exact fun e => absurd (hk.symm.trans e) Bool.false_ne_true | exact id | with_reducible apply Keeps.foldl
    | intro _ | dsimp only | with_reducible apply Keeps.upd

theorem keeps_windowWrite {a : BusAccess} {s : State}
    (h : Keeps k s0 s) (hk : k.map = false) : Keeps k s0 (windowWrite a s) := by
  unfold windowWrite
  extract_lets v1
  have h1 : Keeps k s0 v1 := by
    dsimp only [v1]
    repeat' first
      | with_reducible assumption | with_reducible apply keeps_storeAccess | with_reducible apply keeps_commitWritten
      | with_reducible apply keeps_regionWrite | split | rfl | exact fun _ => ⟨rfl, rfl, rfl, rfl, rfl⟩
      | exact fun _ => ⟨rfl, rfl, rfl⟩ | exact fun e => absurd (hk.symm.trans e) Bool.false_ne_true | exact id
      | with_reducible apply Keeps.foldl | intro _ | dsimp only | with_reducible apply Keeps.upd
  try clear_value v1
  repeat' first
    | with_reducible assumption | with_reducible apply keeps_storeAccess | with_reducible apply keeps_commitWritten
    | with_reducible apply keeps_regionWrite | split | rfl | exact fun _ => ⟨rfl, rfl, rfl, rfl, rfl⟩
    | exact fun _ => ⟨rfl, rfl, rfl⟩ | exact fun e => absurd (hk.symm.trans e) Bool.false_ne_true | exact id
    | with_reducible apply Keeps.foldl | intro _ | dsimp only | with_reducible apply Keeps.upd

theorem keeps_writeAhead {a : BusAccess} {s : State}
    (h : Keeps k s0 s) (hk : k.map = false) : Keeps k s0 (writeAhead a s) := by
  unfold writeAhead
  repeat' first
    | with_reducible assumption | with_reducible apply keeps_windowWrite | split | rfl
    | exact fun _ => ⟨rfl, rfl, rfl, rfl, rfl⟩ | exact fun _ => ⟨rfl, rfl, rfl⟩
    | exact fun e => absurd (hk.symm.trans e) Bool.false_ne_true | exact id | with_reducible apply Keeps.foldl
    | intro _ | dsimp only | with_reducible apply Keeps.upd

theorem keeps_readAhead {a : BusAccess} {s : State} (h : Keeps k s0 s) : Keeps k s0 (readAhead a s) := by
  unfold readAhead
  extract_lets v1
  repeat' first
    | with_reducible assumption | with_reducible apply keeps_finishRead | split | rfl
    | exact fun _ => ⟨rfl, rfl, rfl, rfl, rfl⟩ | exact fun _ => ⟨rfl, rfl, rfl⟩ | exact id
    | with_reducible apply Keeps.foldl | intro _ | dsimp only | with_reducible apply Keeps.upd

theorem keeps_goAhead {a : BusAccess} {s : State}
    (h : Keeps k s0 s) (hk : k.map = false) : Keeps k s0 (goAhead a s) := by
  unfold goAhead
  repeat' first
    | with_reducible assumption | with_reducible apply keeps_writeAhead | with_reducible apply keeps_readAhead | split
    | rfl | exact fun _ => ⟨rfl, rfl, rfl, rfl, rfl⟩ | exact fun _ => ⟨rfl, rfl, rfl⟩
    | exact fun e => absurd (hk.symm.trans e) Bool.false_ne_true | exact id | with_reducible apply Keeps.foldl
    | intro _ | dsimp only | with_reducible apply Keeps.upd

theorem keeps_smpAccess {a : BusAccess} {s : State}
    (h : Keeps k s0 s) (hk : k.map = false) : Keeps k s0 (smpAccess a s) := by
  unfold smpAccess
  extract_lets v1
  repeat' first
    | with_reducible assumption | with_reducible apply keeps_goAhead | split | rfl
    | exact fun _ => ⟨rfl, rfl, rfl, rfl, rfl⟩ | exact fun _ => ⟨rfl, rfl, rfl⟩
    | exact fun e => absurd (hk.symm.trans e) Bool.false_ne_true | exact id | with_reducible apply Keeps.foldl
    | intro _ | dsimp only | with_reducible apply Keeps.upd

theorem keeps_smpWrite {off : BusAddr} {data : Word} {be : ByteEnables} {s : State}
    (h : Keeps k s0 s) (hk : k.map = false) : Keeps k s0 (smpWrite off data be s) := by
  unfold smpWrite
  repeat' first
    | with_reducible assumption | with_reducible apply keeps_smpAccess | split | rfl
    | exact fun _ => ⟨rfl, rfl, rfl, rfl, rfl⟩ | exact fun _ => ⟨rfl, rfl, rfl⟩
    | exact fun e => absurd (hk.symm.trans e) Bool.false_ne_true | exact id | with_reducible apply Keeps.foldl
    | intro _ | dsimp only | with_reducible apply Keeps.upd

theorem keeps_smpRead {off : BusAddr} {be : ByteEnables} {s : State} (h : Keeps k s0 s) :
    Keeps k s0 (smpRead off be s) := by
  unfold smpRead smpAccess
  split
  · exact h
  · split
    · exact h
    · exact Keeps.upd rfl h (fun _ => ⟨rfl, rfl, rfl, rfl, rfl⟩) (fun _ => ⟨rfl, rfl, rfl⟩) (fun _ => ⟨rfl, rfl, rfl⟩) rfl id
    · exact Keeps.upd rfl h (fun _ => ⟨rfl, rfl, rfl, rfl, rfl⟩) (fun _ => ⟨rfl, rfl, rfl⟩) (fun _ => ⟨rfl, rfl, rfl⟩) rfl id
    · unfold goAhead
      rw [if_neg (by simp)]
      exact keeps_readAhead h

theorem keeps_scanHoldExpiry {s : State} (h : Keeps k s0 s) : Keeps k s0 (scanHoldExpiry s) := by
  unfold scanHoldExpiry
  extract_lets v1 v2
  repeat' first
    | with_reducible assumption | with_reducible apply keeps_passWrite | split | rfl
    | exact fun _ => ⟨rfl, rfl, rfl, rfl, rfl⟩ | exact fun _ => ⟨rfl, rfl, rfl⟩ | exact id
    | with_reducible apply Keeps.foldl | intro _ | dsimp only | with_reducible apply Keeps.upd

theorem keeps_initialised {w : WindowSize} {s : State} (h : Keeps k s0 s) (hm : k.map = false) (ht : k.time = false) :
    Keeps k s0 (initialised w s) := by
  have hu : Keeps k s0 { s with phase := .up, mad := { s.mad with window := some w },
                                chg := { s.chg with seconds := 0, tenths := 0, tenthCycles := 3277 },
                                sli := { s.sli with txRunning := true, txFrameNo := 0 } } :=
    Keeps.upd rfl h (fun e => absurd (hm.symm.trans e) Bool.false_ne_true)
      (fun e => absurd (ht.symm.trans e) Bool.false_ne_true) (fun _ => ⟨rfl, rfl, rfl⟩) rfl id
  have hw := keeps_writeStatus (st := .reset) (value := 0) hu
  unfold initialised
  dsimp only at hw ⊢
  split
  · exact hw
  · exact keeps_goAhead (Keeps.upd rfl hw (fun _ => ⟨rfl, rfl, rfl, rfl, rfl⟩) (fun _ => ⟨rfl, rfl, rfl⟩)
      (fun _ => ⟨rfl, rfl, rfl⟩) rfl id) hm

theorem keeps_clearPathCount {sl : Slot} {s : State} (h : Keeps k s0 s) : Keeps k s0 (clearPathCount sl s).1 := by
  unfold clearPathCount
  extract_lets v1
  repeat' first
    | with_reducible assumption | with_reducible apply keeps_writePathStatus | split | rfl
    | exact fun _ => ⟨rfl, rfl, rfl, rfl, rfl⟩ | exact fun _ => ⟨rfl, rfl, rfl⟩ | exact id
    | with_reducible apply Keeps.foldl | intro _ | dsimp only | with_reducible apply Keeps.upd

end Sys2Proof.Machine
end

