-- ==== Sys2Proof/Laws/Exec.lean ====
section
/-! SUPPORT. What exec answers for each command, by name: the one lemma that a claim about a command starts from. -/

namespace Sys2Proof.Machine

theorem exec_powerOn (s : State) :
    exec .powerOn s = .next { State.reset with pending := s.pending } := rfl

theorem exec_resetnFall (s : State) :
    exec .resetnFall s =
      .next (if s.phase = .off
        then s
        else { State.reset with pending := s.pending, phase := .resetLow, smp := s.smp.resetn, dram := s.dram }) := rfl

theorem exec_resetnRise (s : State) :
    exec .resetnRise s = .next (if s.phase = .resetLow then { s with phase := .initialising } else s) := rfl

theorem exec_dramInitialisationEnd (w : WindowSize) (s : State) :
    exec (.dramInitialisationEnd w) s = .next (if s.phase = .initialising then initialised w s else s) := rfl

theorem exec_busWrite (off : BusAddr) (data : Word) (be : ByteEnables) (s : State) :
    exec (.busWrite off data be) s = .next (smpWrite off data be s) := rfl

theorem exec_partOwnedWrite (off : BusAddr) (data : Word) (be : ByteEnables) (s : State) :
    exec (.partOwnedWrite off data be) s = .next (smpWrite off data be s) := rfl

theorem exec_commit (data : Word) (be : ByteEnables) (s : State) :
    exec (.commit data be) s = .next (smpWrite 0x3C data be s) := rfl

theorem exec_runEntry (s : State) :
    exec .runEntry s = .next (if s.rgw.validating then runEntry s else s) := rfl

theorem exec_withdraw (data : Word) (be : ByteEnables) (s : State) :
    exec (.withdraw data be) s = .next (smpWrite 0x3C data be s) := rfl

theorem exec_withdrawEnd (s : State) :
    exec .withdrawEnd s =
      .next (if s.rgw.state = .withdrawing ∧ s.ceu.withdrawnWritten then endWithdraw s else s) := rfl

theorem exec_commandRingTailWrite (off : BusAddr) (data : Word) (be : ByteEnables) (s : State) :
    exec (.commandRingTailWrite off data be) s = .next (smpWrite off data be s) := rfl

theorem exec_eventRingHeadWrite (off : BusAddr) (data : Word) (be : ByteEnables) (s : State) :
    exec (.eventRingHeadWrite off data be) s = .next (smpWrite off data be s) := rfl

theorem exec_unknownCommandKind (s : State) :
    exec .unknownCommandKind s =
      .next (if s.canTake && !knownKinds.contains s.headSlot.kind
        then carryOut s.headSlot (fun s' => (s', Reply.path .badKind s.headSlot.kind)) s else s) := rfl

theorem exec_clearPathCount (s : State) :
    exec .clearPathCount s = .next (take 0x01 0 clearPathCount s) := rfl

theorem exec_setScanProfile (s : State) :
    exec .setScanProfile s = .next (take 0x10 0 setScanProfile s) := rfl

theorem exec_beginScan (s : State) :
    exec .beginScan s = .next (take 0x11 3 beginScan s) := rfl

theorem exec_endPage (s : State) :
    exec .endPage s = .next (take 0x12 1 endPage s) := rfl

theorem exec_endScan (s : State) :
    exec .endScan s = .next (take 0x13 1 endScanCommand s) := rfl

theorem exec_setStoreLimits (s : State) :
    exec .setStoreLimits s = .next (take 0x18 0 setStoreLimits s) := rfl

theorem exec_openDocument (s : State) :
    exec .openDocument s = .next (take 0x20 0 openDocument s) := rfl

theorem exec_closeDocument (s : State) :
    exec .closeDocument s = .next (take 0x21 1 closeDocument s) := rfl

theorem exec_deleteDocument (s : State) :
    exec .deleteDocument s = .next (take 0x22 1 deleteDocument s) := rfl

theorem exec_submitJob (s : State) :
    exec .submitJob s = .next (take 0x23 7 submitJob s) := rfl

theorem exec_cancelJob (s : State) :
    exec .cancelJob s = .next (take 0x24 1 cancelJob s) := rfl

theorem exec_cancelDestination (s : State) :
    exec .cancelDestination s = .next (take 0x25 2 cancelDestination s) := rfl

theorem exec_holdJob (s : State) :
    exec .holdJob s = .next (take 0x26 1 holdJob s) := rfl

theorem exec_releaseJob (s : State) :
    exec .releaseJob s = .next (take 0x27 1 releaseJob s) := rfl

theorem exec_setRetryPolicy (s : State) :
    exec .setRetryPolicy s = .next (take 0x28 0 setRetryPolicy s) := rfl

theorem exec_linkSetup (s : State) :
    exec .linkSetup s = .next (take 0x30 0 linkSetup s) := rfl

theorem exec_linkResync (s : State) :
    exec .linkResync s = .next (take 0x31 0 linkResync s) := rfl

theorem exec_clearLinkCounters (s : State) :
    exec .clearLinkCounters s = .next (take 0x32 0 clearLinkCounters s) := rfl

theorem exec_setLinePlan (s : State) :
    exec .setLinePlan s = .next (take 0x38 9 setLinePlan s) := rfl

theorem exec_setLineTimers (s : State) :
    exec .setLineTimers s = .next (take 0x39 0 setLineTimers s) := rfl

theorem exec_loadRouteWrite (s : State) :
    exec .loadRouteWrite s = .next (takeIf 0x40 7 (fun sl => !(sl.whole 7 && sl.flag 6 3)) loadRoute s) := rfl

theorem exec_loadRouteRemove (s : State) :
    exec .loadRouteRemove s = .next (takeIf 0x40 7 (fun sl => !(sl.whole 7 && !sl.flag 6 3)) loadRoute s) := rfl

theorem exec_setFilterBinClearBin (s : State) :
    exec .setFilterBinClearBin s = .next (takeIf 0x41 2 (filterRow 0) setFilterBin s) := rfl

theorem exec_setFilterBinSetBin (s : State) :
    exec .setFilterBinSetBin s = .next (takeIf 0x41 2 (filterRow 1) setFilterBin s) := rfl

theorem exec_setFilterBinClearEvery (s : State) :
    exec .setFilterBinClearEvery s = .next (takeIf 0x41 2 (filterRow 2) setFilterBin s) := rfl

theorem exec_setFilterBinSetEvery (s : State) :
    exec .setFilterBinSetEvery s = .next (takeIf 0x41 2 (filterRow 3) setFilterBin s) := rfl

theorem exec_setDefaultRoute (s : State) :
    exec .setDefaultRoute s = .next (take 0x42 4 setDefaultRoute s) := rfl

theorem exec_releaseHeld (s : State) :
    exec .releaseHeld s = .next (take 0x43 1 releaseHeld s) := rfl

theorem exec_setPrintProfile (s : State) :
    exec .setPrintProfile s = .next (take 0x48 0 setPrintProfile s) := rfl

theorem exec_printDocument (s : State) :
    exec .printDocument s = .next (take 0x49 4 printDocument s) := rfl

theorem exec_cancelPrint (s : State) :
    exec .cancelPrint s = .next (take 0x4A 1 cancelPrint s) := rfl

theorem exec_startPrint (s : State) :
    exec .startPrint s = .next (take 0x4B 0 startPrint s) := rfl

theorem exec_stopPrint (s : State) :
    exec .stopPrint s = .next (take 0x4C 0 stopPrint s) := rfl

theorem exec_setClock (s : State) :
    exec .setClock s = .next (take 0x50 2 setClock s) := rfl

theorem exec_loadBandHours (s : State) :
    exec .loadBandHours s = .next (take 0x51 4 loadBandHours s) := rfl

theorem exec_loadTariffPrefixWrite (s : State) :
    exec .loadTariffPrefixWrite s =
      .next (takeIf 0x52 6 (fun sl => !(sl.whole 6 && sl.num 5 == 1)) loadTariffPrefix s) := rfl

theorem exec_loadTariffPrefixRemove (s : State) :
    exec .loadTariffPrefixRemove s =
      .next (takeIf 0x52 6 (fun sl => !(sl.whole 6 && sl.num 5 == 0)) loadTariffPrefix s) := rfl

theorem exec_loadZoneRate (s : State) :
    exec .loadZoneRate s = .next (take 0x53 9 loadZoneRate s) := rfl

theorem exec_setAccount (s : State) :
    exec .setAccount s = .next (take 0x54 5 setAccount s) := rfl

theorem exec_clearSpent (s : State) :
    exec .clearSpent s = .next (take 0x55 1 clearSpent s) := rfl

theorem exec_ackChargeLog (s : State) :
    exec .ackChargeLog s = .next (take 0x56 1 ackChargeLog s) := rfl

theorem exec_rawSlotLastPixelWrite (off : BusAddr) (data : Word) (be : ByteEnables) (s : State) :
    exec (.rawSlotLastPixelWrite off data be) s = .next (smpWrite off data be s) := rfl

theorem exec_lappingWrite (off : BusAddr) (data : Word) (be : ByteEnables) (s : State) :
    exec (.lappingWrite off data be) s = .next (smpWrite off data be s) := rfl

theorem exec_scanHoldExpiry (s : State) :
    exec .scanHoldExpiry s = .next (scanHoldExpiry s) := rfl

theorem exec_scanTakeSlot (s : State) :
    exec .scanTakeSlot s = .next (if s.isRun then takeSlot s else s) := rfl

theorem exec_timeBaseTenth (s : State) :
    exec .timeBaseTenth s = .next (if s.phase = .up then tenthEnds s else s) := rfl

theorem exec_timeBaseSecond (s : State) :
    exec .timeBaseSecond s = .next (if s.phase = .up ∧ s.chg.tenths = 9 then tenthEnds s else s) := rfl

theorem exec_schedulerPass (s : State) :
    exec .schedulerPass s =
      .next (if s.isRun && s.dju.passDue
        then schedule 8 { s with dju := { s.dju with passDue := false } } else s) := rfl

theorem exec_txFrame (s : State) :
    exec .txFrame s = .next (if s.phase = .up ∧ s.sli.txRunning then txFrame s else s) := rfl

theorem exec_handingTakesPlace (s : State) :
    exec .handingTakesPlace s = .next (placeHanding s) := rfl

theorem exec_alignmentByteFound (p : Nat) (s : State) :
    exec (.alignmentByteFound p) s =
      .next (if s.phase = .up ∧ s.sli.frame = .hunt ∧ p < 104
        then writeLinkStatus { s with sli := { s.sli with frame := .checkService, position := p, searchFrom := none, syncIn := none } }
        else s) := rfl

theorem exec_rxFrame (slots : List Byte) (s : State) :
    exec (.rxFrame slots) s = .next (if s.phase = .up ∧ slots.length = 13 then rxFrame slots s else s) := rfl

theorem exec_mfSearchTimerExpiry (s : State) :
    exec .mfSearchTimerExpiry s =
      .next (if s.sli.frame = .sync ∧ s.sli.mf = .mfSearch ∧ s.sli.mfTimer = 0 then frameLoss .hunt s else s) := rfl

theorem exec_rxMultiframeEnd (s : State) :
    exec .rxMultiframeEnd s = .next (multiframeEnd s) := rfl

theorem exec_blockStored (n : Line) (s : State) :
    exec (.blockStored n) s = .next (blockStored n s) := rfl

theorem exec_blockBufferFilled (n : Line) (s : State) :
    exec (.blockBufferFilled n) s = .next (fillBlock n s) := rfl

theorem exec_rxBlock (n : Line) (pp : Byte) (blk : Byte) (len : BitVec 16) (s : State) :
    exec (.rxBlock n pp blk len) s =
      .next (if s.linkUp ∧ blk.toNat ≤ 63 ∧ 1 ≤ len.toNat ∧ len.toNat ≤ 256
        then openBlock n.val pp.toNat blk.toNat len.toNat false s else s) := rfl

theorem exec_lineReady (n : Line) (s : State) :
    exec (.lineReady n) s = .next (delivered n (onLineReady n) s) := rfl

theorem exec_lineNotReady (n : Line) (s : State) :
    exec (.lineNotReady n) s = .next (delivered n (onLineNotReady n) s) := rfl

theorem exec_seized (n : Line) (s : State) :
    exec (.seized n) s = .next (delivered n (onSeized n) s) := rfl

theorem exec_answered (n : Line) (s : State) :
    exec (.answered n) s = .next (delivered n (onAnswered n) s) := rfl

theorem exec_busy (n : Line) (s : State) :
    exec (.busy n) s = .next (delivered n (onCallFailed n .busy) s) := rfl

theorem exec_noAnswer (n : Line) (s : State) :
    exec (.noAnswer n) s = .next (delivered n (onCallFailed n .noAnswer) s) := rfl

theorem exec_notFax (n : Line) (s : State) :
    exec (.notFax n) s = .next (delivered n (onCallFailed n .notFax) s) := rfl

theorem exec_ring (n : Line) (called : List Byte) (ident : List Byte) (s : State) :
    exec (.ring n called ident) s = .next (delivered n (onRing n called ident) s) := rfl

theorem exec_partialOk (n : Line) (s : State) :
    exec (.partialOk n) s = .next (delivered n (onPartialOk n) s) := rfl

theorem exec_repeatBlocks (n : Line) (map : BitVec 64) (s : State) :
    exec (.repeatBlocks n map) s = .next (delivered n (onRepeat n map) s) := rfl

theorem exec_pageConfirmed (n : Line) (s : State) :
    exec (.pageConfirmed n) s = .next (delivered n (onPageConfirmed n) s) := rfl

theorem exec_pageRejected (n : Line) (s : State) :
    exec (.pageRejected n) s = .next (delivered n (onPageRejected n) s) := rfl

theorem exec_rxPageBegin (n : Line) (cls : Byte) (res : Byte) (s : State) :
    exec (.rxPageBegin n cls res) s = .next (delivered n (onRxPageBegin n cls.toNat res.toNat) s) := rfl

theorem exec_rxPartialEnd (n : Line) (pp : Byte) (count : Byte) (endKind : Byte) (s : State) :
    exec (.rxPartialEnd n pp count endKind) s =
      .next (delivered n (onRxPartialEnd n pp.toNat count.toNat endKind.toNat) s) := rfl

theorem exec_remoteClear (n : Line) (cause : Byte) (s : State) :
    exec (.remoteClear n cause) s = .next (delivered n (onRemoteClear n) s) := rfl

theorem exec_cleared (n : Line) (s : State) :
    exec (.cleared n) s = .next (delivered n (onCleared n) s) := rfl

theorem exec_sessionTimerExpiry (n : Line) (s : State) :
    exec (.sessionTimerExpiry n) s = .next (if s.timerOut n then timerExpires n s else s) := rfl

theorem exec_clearingTimerExpiry (n : Line) (s : State) :
    exec (.clearingTimerExpiry n) s = .next (if s.timerOut n then onCleared n s else s) := rfl

theorem exec_graceExpiry (s : State) :
    exec .graceExpiry s =
      .next (if s.lne.grace = some 0
        then endAllSessions .linkLost (dropMessages { s with lne := { s.lne with grace := none } }) else s) := rfl

theorem exec_prnTakeEntry (s : State) :
    exec .prnTakeEntry s = .next (takeEntry s) := rfl

theorem exec_prnRenderSheetLine (s : State) :
    exec .prnRenderSheetLine s = .next (renderStep s) := rfl

theorem exec_printSlotLastWordRead (off : BusAddr) (be : ByteEnables) (s : State) :
    exec (.printSlotLastWordRead off be) s = .next (smpRead off be s) := rfl

theorem exec_earlyRead (off : BusAddr) (be : ByteEnables) (s : State) :
    exec (.earlyRead off be) s = .next (smpRead off be s) := rfl

theorem exec_printHoldExpiry (s : State) :
    exec .printHoldExpiry s = .next (printHoldExpiry s) := rfl

theorem exec_powerFail (s : State) :
    exec .powerFail s = .next { State.reset with pending := s.pending, phase := .off } := rfl

end Sys2Proof.Machine
end

