-- ==== Sys2Proof/WellFormed.lean ====
section
/-! DEFINITION. Which commands are well formed: what a sender on the system memory bus, on the Shelf Link or on the pins can
send at all (1.1, R106, R107, Table 6-3). The meanings are total and do not rely on it. -/

namespace Sys2Proof

/-- A bus access starts at a word-aligned offset (1.1). -/
def BusAddr.isAligned (off : BusAddr) : Bool := off.toNat % 4 == 0

/-- The bit position of an alignment byte within the 104 bits of a frame (R106). -/
def isBitPosition (p : Nat) : Bool := decide (p < 104)

/-- A frame has thirteen slots (6.1). -/
def isFrame (slots : List Byte) : Bool := slots.length == 13

/-- A RING carries up to 8 called digits and up to 20 characters of identity (Table 6-3). -/
def isRing (called ident : List Byte) : Bool := decide (called.length ≤ 8) && decide (ident.length ≤ 20)

/-- The command is well formed. -/
def Instr.wellFormed : Instr → Bool
  | .busWrite off _ _ => BusAddr.isAligned off
  | .partOwnedWrite off _ _ => BusAddr.isAligned off
  | .commandRingTailWrite off _ _ => BusAddr.isAligned off
  | .eventRingHeadWrite off _ _ => BusAddr.isAligned off
  | .rawSlotLastPixelWrite off _ _ => BusAddr.isAligned off
  | .lappingWrite off _ _ => BusAddr.isAligned off
  | .printSlotLastWordRead off _ => BusAddr.isAligned off
  | .earlyRead off _ => BusAddr.isAligned off
  | .alignmentByteFound p => isBitPosition p
  | .rxFrame slots => isFrame slots
  | .ring _ called ident => isRing called ident
  | .powerOn => true
  | .resetnFall => true
  | .resetnRise => true
  | .dramInitialisationEnd _ => true
  | .commit _ _ => true
  | .runEntry => true
  | .withdraw _ _ => true
  | .withdrawEnd => true
  | .unknownCommandKind => true
  | .clearPathCount => true
  | .setScanProfile => true
  | .beginScan => true
  | .endPage => true
  | .endScan => true
  | .setStoreLimits => true
  | .openDocument => true
  | .closeDocument => true
  | .deleteDocument => true
  | .submitJob => true
  | .cancelJob => true
  | .cancelDestination => true
  | .holdJob => true
  | .releaseJob => true
  | .setRetryPolicy => true
  | .linkSetup => true
  | .linkResync => true
  | .clearLinkCounters => true
  | .setLinePlan => true
  | .setLineTimers => true
  | .loadRouteWrite => true
  | .loadRouteRemove => true
  | .setFilterBinClearBin => true
  | .setFilterBinSetBin => true
  | .setFilterBinClearEvery => true
  | .setFilterBinSetEvery => true
  | .setDefaultRoute => true
  | .releaseHeld => true
  | .setPrintProfile => true
  | .printDocument => true
  | .cancelPrint => true
  | .startPrint => true
  | .stopPrint => true
  | .setClock => true
  | .loadBandHours => true
  | .loadTariffPrefixWrite => true
  | .loadTariffPrefixRemove => true
  | .loadZoneRate => true
  | .setAccount => true
  | .clearSpent => true
  | .ackChargeLog => true
  | .scanHoldExpiry => true
  | .scanTakeSlot => true
  | .timeBaseTenth => true
  | .timeBaseSecond => true
  | .schedulerPass => true
  | .txFrame => true
  | .handingTakesPlace => true
  | .mfSearchTimerExpiry => true
  | .rxMultiframeEnd => true
  | .blockStored _ => true
  | .blockBufferFilled _ => true
  | .rxBlock _ _ _ _ => true
  | .lineReady _ => true
  | .lineNotReady _ => true
  | .seized _ => true
  | .answered _ => true
  | .busy _ => true
  | .noAnswer _ => true
  | .notFax _ => true
  | .partialOk _ => true
  | .repeatBlocks _ _ => true
  | .pageConfirmed _ => true
  | .pageRejected _ => true
  | .rxPageBegin _ _ _ => true
  | .rxPartialEnd _ _ _ _ => true
  | .remoteClear _ _ => true
  | .cleared _ => true
  | .sessionTimerExpiry _ => true
  | .clearingTimerExpiry _ => true
  | .graceExpiry => true
  | .prnTakeEntry => true
  | .prnRenderSheetLine => true
  | .printHoldExpiry => true
  | .powerFail => true

end Sys2Proof
end

