-- ==== Sys2Proof/Laws/PerInstr.lean ====
section
/-! SUPPORT. One fact for every row of the opcode table: each row has a well-formed command (the family Sendable), so no row is
ruled out by well-formedness. -/

namespace Sys2Proof.Laws

/-- Some command of the same row is well formed. -/
def Sendable.Statement (i : Instr) : Prop := ∃ j : Instr, j.ctorIdx = i.ctorIdx ∧ j.wellFormed = true

theorem Sendable.powerOn : Sendable.Statement .powerOn := ⟨.powerOn, rfl, by decide⟩

theorem Sendable.resetnFall : Sendable.Statement .resetnFall := ⟨.resetnFall, rfl, by decide⟩

theorem Sendable.resetnRise : Sendable.Statement .resetnRise := ⟨.resetnRise, rfl, by decide⟩

theorem Sendable.dramInitialisationEnd (w : WindowSize) : Sendable.Statement (.dramInitialisationEnd w) := ⟨.dramInitialisationEnd .mib32, rfl, by decide⟩

theorem Sendable.busWrite (off : BusAddr) (data : Word) (be : ByteEnables) : Sendable.Statement (.busWrite off data be) := ⟨.busWrite 0 0 0, rfl, by decide⟩

theorem Sendable.partOwnedWrite (off : BusAddr) (data : Word) (be : ByteEnables) : Sendable.Statement (.partOwnedWrite off data be) := ⟨.partOwnedWrite 0 0 0, rfl, by decide⟩

theorem Sendable.commit (data : Word) (be : ByteEnables) : Sendable.Statement (.commit data be) := ⟨.commit 0 0, rfl, by decide⟩

theorem Sendable.runEntry : Sendable.Statement .runEntry := ⟨.runEntry, rfl, by decide⟩

theorem Sendable.withdraw (data : Word) (be : ByteEnables) : Sendable.Statement (.withdraw data be) := ⟨.withdraw 0 0, rfl, by decide⟩

theorem Sendable.withdrawEnd : Sendable.Statement .withdrawEnd := ⟨.withdrawEnd, rfl, by decide⟩

theorem Sendable.commandRingTailWrite (off : BusAddr) (data : Word) (be : ByteEnables) : Sendable.Statement (.commandRingTailWrite off data be) := ⟨.commandRingTailWrite 0 0 0, rfl, by decide⟩

theorem Sendable.eventRingHeadWrite (off : BusAddr) (data : Word) (be : ByteEnables) : Sendable.Statement (.eventRingHeadWrite off data be) := ⟨.eventRingHeadWrite 0 0 0, rfl, by decide⟩

theorem Sendable.unknownCommandKind : Sendable.Statement .unknownCommandKind := ⟨.unknownCommandKind, rfl, by decide⟩

theorem Sendable.clearPathCount : Sendable.Statement .clearPathCount := ⟨.clearPathCount, rfl, by decide⟩

theorem Sendable.setScanProfile : Sendable.Statement .setScanProfile := ⟨.setScanProfile, rfl, by decide⟩

theorem Sendable.beginScan : Sendable.Statement .beginScan := ⟨.beginScan, rfl, by decide⟩

theorem Sendable.endPage : Sendable.Statement .endPage := ⟨.endPage, rfl, by decide⟩

theorem Sendable.endScan : Sendable.Statement .endScan := ⟨.endScan, rfl, by decide⟩

theorem Sendable.setStoreLimits : Sendable.Statement .setStoreLimits := ⟨.setStoreLimits, rfl, by decide⟩

theorem Sendable.openDocument : Sendable.Statement .openDocument := ⟨.openDocument, rfl, by decide⟩

theorem Sendable.closeDocument : Sendable.Statement .closeDocument := ⟨.closeDocument, rfl, by decide⟩

theorem Sendable.deleteDocument : Sendable.Statement .deleteDocument := ⟨.deleteDocument, rfl, by decide⟩

theorem Sendable.submitJob : Sendable.Statement .submitJob := ⟨.submitJob, rfl, by decide⟩

theorem Sendable.cancelJob : Sendable.Statement .cancelJob := ⟨.cancelJob, rfl, by decide⟩

theorem Sendable.cancelDestination : Sendable.Statement .cancelDestination := ⟨.cancelDestination, rfl, by decide⟩

theorem Sendable.holdJob : Sendable.Statement .holdJob := ⟨.holdJob, rfl, by decide⟩

theorem Sendable.releaseJob : Sendable.Statement .releaseJob := ⟨.releaseJob, rfl, by decide⟩

theorem Sendable.setRetryPolicy : Sendable.Statement .setRetryPolicy := ⟨.setRetryPolicy, rfl, by decide⟩

theorem Sendable.linkSetup : Sendable.Statement .linkSetup := ⟨.linkSetup, rfl, by decide⟩

theorem Sendable.linkResync : Sendable.Statement .linkResync := ⟨.linkResync, rfl, by decide⟩

theorem Sendable.clearLinkCounters : Sendable.Statement .clearLinkCounters := ⟨.clearLinkCounters, rfl, by decide⟩

theorem Sendable.setLinePlan : Sendable.Statement .setLinePlan := ⟨.setLinePlan, rfl, by decide⟩

theorem Sendable.setLineTimers : Sendable.Statement .setLineTimers := ⟨.setLineTimers, rfl, by decide⟩

theorem Sendable.loadRouteWrite : Sendable.Statement .loadRouteWrite := ⟨.loadRouteWrite, rfl, by decide⟩

theorem Sendable.loadRouteRemove : Sendable.Statement .loadRouteRemove := ⟨.loadRouteRemove, rfl, by decide⟩

theorem Sendable.setFilterBinClearBin : Sendable.Statement .setFilterBinClearBin := ⟨.setFilterBinClearBin, rfl, by decide⟩

theorem Sendable.setFilterBinSetBin : Sendable.Statement .setFilterBinSetBin := ⟨.setFilterBinSetBin, rfl, by decide⟩

theorem Sendable.setFilterBinClearEvery : Sendable.Statement .setFilterBinClearEvery := ⟨.setFilterBinClearEvery, rfl, by decide⟩

theorem Sendable.setFilterBinSetEvery : Sendable.Statement .setFilterBinSetEvery := ⟨.setFilterBinSetEvery, rfl, by decide⟩

theorem Sendable.setDefaultRoute : Sendable.Statement .setDefaultRoute := ⟨.setDefaultRoute, rfl, by decide⟩

theorem Sendable.releaseHeld : Sendable.Statement .releaseHeld := ⟨.releaseHeld, rfl, by decide⟩

theorem Sendable.setPrintProfile : Sendable.Statement .setPrintProfile := ⟨.setPrintProfile, rfl, by decide⟩

theorem Sendable.printDocument : Sendable.Statement .printDocument := ⟨.printDocument, rfl, by decide⟩

theorem Sendable.cancelPrint : Sendable.Statement .cancelPrint := ⟨.cancelPrint, rfl, by decide⟩

theorem Sendable.startPrint : Sendable.Statement .startPrint := ⟨.startPrint, rfl, by decide⟩

theorem Sendable.stopPrint : Sendable.Statement .stopPrint := ⟨.stopPrint, rfl, by decide⟩

theorem Sendable.setClock : Sendable.Statement .setClock := ⟨.setClock, rfl, by decide⟩

theorem Sendable.loadBandHours : Sendable.Statement .loadBandHours := ⟨.loadBandHours, rfl, by decide⟩

theorem Sendable.loadTariffPrefixWrite : Sendable.Statement .loadTariffPrefixWrite := ⟨.loadTariffPrefixWrite, rfl, by decide⟩

theorem Sendable.loadTariffPrefixRemove : Sendable.Statement .loadTariffPrefixRemove := ⟨.loadTariffPrefixRemove, rfl, by decide⟩

theorem Sendable.loadZoneRate : Sendable.Statement .loadZoneRate := ⟨.loadZoneRate, rfl, by decide⟩

theorem Sendable.setAccount : Sendable.Statement .setAccount := ⟨.setAccount, rfl, by decide⟩

theorem Sendable.clearSpent : Sendable.Statement .clearSpent := ⟨.clearSpent, rfl, by decide⟩

theorem Sendable.ackChargeLog : Sendable.Statement .ackChargeLog := ⟨.ackChargeLog, rfl, by decide⟩

theorem Sendable.rawSlotLastPixelWrite (off : BusAddr) (data : Word) (be : ByteEnables) : Sendable.Statement (.rawSlotLastPixelWrite off data be) := ⟨.rawSlotLastPixelWrite 0 0 0, rfl, by decide⟩

theorem Sendable.lappingWrite (off : BusAddr) (data : Word) (be : ByteEnables) : Sendable.Statement (.lappingWrite off data be) := ⟨.lappingWrite 0 0 0, rfl, by decide⟩

theorem Sendable.scanHoldExpiry : Sendable.Statement .scanHoldExpiry := ⟨.scanHoldExpiry, rfl, by decide⟩

theorem Sendable.scanTakeSlot : Sendable.Statement .scanTakeSlot := ⟨.scanTakeSlot, rfl, by decide⟩

theorem Sendable.timeBaseTenth : Sendable.Statement .timeBaseTenth := ⟨.timeBaseTenth, rfl, by decide⟩

theorem Sendable.timeBaseSecond : Sendable.Statement .timeBaseSecond := ⟨.timeBaseSecond, rfl, by decide⟩

theorem Sendable.schedulerPass : Sendable.Statement .schedulerPass := ⟨.schedulerPass, rfl, by decide⟩

theorem Sendable.txFrame : Sendable.Statement .txFrame := ⟨.txFrame, rfl, by decide⟩

theorem Sendable.handingTakesPlace : Sendable.Statement .handingTakesPlace := ⟨.handingTakesPlace, rfl, by decide⟩

theorem Sendable.alignmentByteFound (p : Nat) : Sendable.Statement (.alignmentByteFound p) := ⟨.alignmentByteFound 0, rfl, by decide⟩

theorem Sendable.rxFrame (slots : List Byte) : Sendable.Statement (.rxFrame slots) := ⟨.rxFrame (List.replicate 13 0), rfl, by decide⟩

theorem Sendable.mfSearchTimerExpiry : Sendable.Statement .mfSearchTimerExpiry := ⟨.mfSearchTimerExpiry, rfl, by decide⟩

theorem Sendable.rxMultiframeEnd : Sendable.Statement .rxMultiframeEnd := ⟨.rxMultiframeEnd, rfl, by decide⟩

theorem Sendable.blockStored (n : Line) : Sendable.Statement (.blockStored n) := ⟨.blockStored 0, rfl, by decide⟩

theorem Sendable.blockBufferFilled (n : Line) : Sendable.Statement (.blockBufferFilled n) := ⟨.blockBufferFilled 0, rfl, by decide⟩

theorem Sendable.rxBlock (n : Line) (pp blk : Byte) (len : BitVec 16) : Sendable.Statement (.rxBlock n pp blk len) := ⟨.rxBlock 0 0 0 0, rfl, by decide⟩

theorem Sendable.lineReady (n : Line) : Sendable.Statement (.lineReady n) := ⟨.lineReady 0, rfl, by decide⟩

theorem Sendable.lineNotReady (n : Line) : Sendable.Statement (.lineNotReady n) := ⟨.lineNotReady 0, rfl, by decide⟩

theorem Sendable.seized (n : Line) : Sendable.Statement (.seized n) := ⟨.seized 0, rfl, by decide⟩

theorem Sendable.answered (n : Line) : Sendable.Statement (.answered n) := ⟨.answered 0, rfl, by decide⟩

theorem Sendable.busy (n : Line) : Sendable.Statement (.busy n) := ⟨.busy 0, rfl, by decide⟩

theorem Sendable.noAnswer (n : Line) : Sendable.Statement (.noAnswer n) := ⟨.noAnswer 0, rfl, by decide⟩

theorem Sendable.notFax (n : Line) : Sendable.Statement (.notFax n) := ⟨.notFax 0, rfl, by decide⟩

theorem Sendable.ring (n : Line) (called ident : List Byte) : Sendable.Statement (.ring n called ident) := ⟨.ring 0 [] [], rfl, by decide⟩

theorem Sendable.partialOk (n : Line) : Sendable.Statement (.partialOk n) := ⟨.partialOk 0, rfl, by decide⟩

theorem Sendable.repeatBlocks (n : Line) (map : BitVec 64) : Sendable.Statement (.repeatBlocks n map) := ⟨.repeatBlocks 0 0, rfl, by decide⟩

theorem Sendable.pageConfirmed (n : Line) : Sendable.Statement (.pageConfirmed n) := ⟨.pageConfirmed 0, rfl, by decide⟩

theorem Sendable.pageRejected (n : Line) : Sendable.Statement (.pageRejected n) := ⟨.pageRejected 0, rfl, by decide⟩

theorem Sendable.rxPageBegin (n : Line) (cls res : Byte) : Sendable.Statement (.rxPageBegin n cls res) := ⟨.rxPageBegin 0 0 0, rfl, by decide⟩

theorem Sendable.rxPartialEnd (n : Line) (pp count endKind : Byte) : Sendable.Statement (.rxPartialEnd n pp count endKind) := ⟨.rxPartialEnd 0 0 0 0, rfl, by decide⟩

theorem Sendable.remoteClear (n : Line) (cause : Byte) : Sendable.Statement (.remoteClear n cause) := ⟨.remoteClear 0 0, rfl, by decide⟩

theorem Sendable.cleared (n : Line) : Sendable.Statement (.cleared n) := ⟨.cleared 0, rfl, by decide⟩

theorem Sendable.sessionTimerExpiry (n : Line) : Sendable.Statement (.sessionTimerExpiry n) := ⟨.sessionTimerExpiry 0, rfl, by decide⟩

theorem Sendable.clearingTimerExpiry (n : Line) : Sendable.Statement (.clearingTimerExpiry n) := ⟨.clearingTimerExpiry 0, rfl, by decide⟩

theorem Sendable.graceExpiry : Sendable.Statement .graceExpiry := ⟨.graceExpiry, rfl, by decide⟩

theorem Sendable.prnTakeEntry : Sendable.Statement .prnTakeEntry := ⟨.prnTakeEntry, rfl, by decide⟩

theorem Sendable.prnRenderSheetLine : Sendable.Statement .prnRenderSheetLine := ⟨.prnRenderSheetLine, rfl, by decide⟩

theorem Sendable.printSlotLastWordRead (off : BusAddr) (be : ByteEnables) : Sendable.Statement (.printSlotLastWordRead off be) := ⟨.printSlotLastWordRead 0 0, rfl, by decide⟩

theorem Sendable.earlyRead (off : BusAddr) (be : ByteEnables) : Sendable.Statement (.earlyRead off be) := ⟨.earlyRead 0 0, rfl, by decide⟩

theorem Sendable.printHoldExpiry : Sendable.Statement .printHoldExpiry := ⟨.printHoldExpiry, rfl, by decide⟩

theorem Sendable.powerFail : Sendable.Statement .powerFail := ⟨.powerFail, rfl, by decide⟩

end Sys2Proof.Laws
end

