-- ==== Sys2Proof/Laws/Segments.lean ====
section
/-! SUPPORT. What the Page Store Manager's operations do with the segments: each moves them between the free-segment stack and
the chains of the pages, and none loses one or makes one twice (R68). -/

namespace Sys2Proof.Machine

/-! ## Lists over a table -/

/-- A record that a number names is in the table. -/
theorem Tab.mem_of_get? {α : Type} {t : Tab α} {k : Nat} {v : α} (h : Tab.get? t k = some v) : (k, v) ∈ t := by
  induction t with
  | nil => cases h
  | cons e t ih =>
    rw [Tab.get?] at h
    split at h
    · rename_i he
      subst he
      cases h
      exact List.mem_cons_self
    · exact List.mem_cons_of_mem _ (ih h)

/-- A number without a record is on no entry of the table. -/
theorem Tab.ne_of_get? {α : Type} {t : Tab α} {k : Nat} (h : Tab.get? t k = none) : ∀ e ∈ t, e.1 ≠ k := by
  induction t with
  | nil => simp
  | cons e t ih =>
    rw [Tab.get?] at h
    split at h
    · cases h
    · rename_i he
      exact List.forall_mem_cons.2 ⟨he, ih h⟩

/-- Taking away a number without a record leaves the entries. -/
theorem Tab.erase_perm {α : Type} {t : Tab α} {k : Nat} (h : Tab.get? t k = none) : (Tab.erase t k).Perm t := by
  have hf : Tab.from t (k + 1) = t.filter fun e => !decide (e.1 < k) :=
    List.filter_congr fun e he => by
      have := Tab.ne_of_get? h e he
      rw [Bool.eq_iff_iff]
      simp only [decide_eq_true_eq, Bool.not_eq_true', decide_eq_false_iff_not]
      omega
  rw [Tab.erase, hf]
  exact List.filter_append_perm _ t

/-- In an ordered table, setting a record to what it is changes nothing. -/
theorem Tab.set_of_get? {α : Type} {t : Tab α} (h : Tab.rising t = true) {k : Nat} {v : α} (hk : Tab.get? t k = some v) :
    Tab.set t k v = t := by
  rw [Tab.rising_iff] at h
  induction t with
  | nil => cases hk
  | cons e t ih =>
    obtain ⟨ht, h⟩ := List.pairwise_cons.1 h
    rw [Tab.get?] at hk
    split at hk
    · rename_i he
      subst he
      cases hk
      have hb : Tab.below t e.1 = [] := List.filter_eq_nil_iff.2 fun x hx => by have := ht x hx; simp; omega
      have hf : Tab.from t (e.1 + 1) = t := List.filter_eq_self.2 fun x hx => by have := ht x hx; simp; omega
      have h1 : Tab.below (e :: t) e.1 = Tab.below t e.1 := by simp [Tab.below]
      have h2 : Tab.from (e :: t) (e.1 + 1) = Tab.from t (e.1 + 1) := by simp [Tab.from]
      rw [Tab.set, h1, h2, hb, hf]; rfl
    · have := ht _ (Tab.mem_of_get? hk)
      have h1 : Tab.below (e :: t) k = e :: Tab.below t k := List.filter_cons_of_pos (decide_eq_true this)
      have h2 : Tab.from (e :: t) (k + 1) = Tab.from t (k + 1) := List.filter_cons_of_neg (by simp only [decide_eq_true_eq]; omega)
      rw [Tab.set, h1, h2, List.cons_append]
      exact congrArg _ (ih h hk)

/-- A list made from the records of a table with record `k` set: what that record gives, and what the others give. -/
theorem Tab.flatMap_set {α β : Type} (t : Tab α) (k : Nat) (v : α) (f : Nat × α → List β) :
    ((Tab.set t k v).flatMap f).Perm (f (k, v) ++ (Tab.erase t k).flatMap f) := by
  simp only [Tab.set, Tab.erase, List.flatMap_append, List.flatMap_cons]
  exact List.perm_append_comm_assoc _ _ _

/-- A list made from the records of an ordered table: what record `k` gives, and what the others give. -/
theorem Tab.flatMap_of_get? {α β : Type} {t : Tab α} (h : Tab.rising t = true) {k : Nat} {v : α} (hk : Tab.get? t k = some v)
    (f : Nat × α → List β) : (t.flatMap f).Perm (f (k, v) ++ (Tab.erase t k).flatMap f) := by
  conv_lhs => rw [← Tab.set_of_get? h hk]
  exact Tab.flatMap_set t k v f

/-! ## The operations -/

/-- A posted event leaves the page store alone. -/
@[simp] theorem post_psm (k : EventKind) (src : SourceKind) (i c v : Nat) (s : State) : (post k src i c v s).psm = s.psm := by
  simp only [post, postTagged, deliverEvent]
  split
  · rfl
  · repeat' first | rfl | split

/-- The reports of a changed free count move no segment. -/
@[simp] theorem segments_freeCountChanged (s : State) : (freeCountChanged s).segments = s.segments := by
  simp only [freeCountChanged, testLowMark, State.segments]
  repeat' first | split | simp

theorem freeCountChanged_pages (s : State) : (freeCountChanged s).psm.pages = s.psm.pages := by
  simp only [freeCountChanged, testLowMark]
  repeat' first | split | simp

/-- A page record whose chain is another: the chain takes the old one's place. -/
theorem segments_putPage {s : State} (h : Tab.rising s.psm.pages = true) {p : Nat} {r : PageRec} (hp : s.page? p = some r)
    (r' : PageRec) : ∃ l, s.segments.Perm (s.psm.stack ++ (r.chain ++ l))
      ∧ (putPage p r' s).segments.Perm (s.psm.stack ++ (r'.chain ++ l)) :=
  ⟨_, (Tab.flatMap_of_get? h hp _).append_left _, (Tab.flatMap_set s.psm.pages p r' _).append_left _⟩

/-- A page record put back with its chain moves no segment. -/
theorem segments_putPage_same {s : State} (h : Tab.rising s.psm.pages = true) {p : Nat} {r : PageRec}
    (hp : s.page? p = some r) {r' : PageRec} (hc : r'.chain = r.chain) : (putPage p r' s).segments.Perm s.segments := by
  obtain ⟨l, h1, h2⟩ := segments_putPage h hp r'
  rw [hc] at h2
  exact h2.trans h1.symm

/-- A record given to a new page starts without a segment. -/
theorem segments_startPage {s t : State} {d p : Nat} {dir : Dir} {cls : WidthClass} {res : Resolution}
    (hs : startPage d dir cls res s = some (p, t)) : t.segments.Perm s.segments := by
  unfold startPage at hs
  split at hs
  · rename_i q doc hq _
    cases hs
    have hn : Tab.get? s.psm.pages p = none := by simpa using List.find?_some hq
    refine List.Perm.append_left _ ?_
    exact (Tab.flatMap_set s.psm.pages p _ _).trans ((Tab.erase_perm hn).flatMap_right _)
  · cases hs

/-- A segment given to a page goes from the stack to its chain. -/
theorem segments_giveSegment {s t : State} (h : Tab.rising s.psm.pages = true) {p : Nat} (hs : giveSegment p s = some t) :
    t.segments.Perm s.segments := by
  unfold giveSegment at hs
  split at hs
  · rename_i seg rest r hst hp
    cases hs
    rw [segments_freeCountChanged]
    set u := (match r.chain.getLast? with
      | none => writeTrailer seg chainEnd { s with psm := { s.psm with stack := rest } }
      | some l => writeTrailer l seg (writeTrailer seg chainEnd { s with psm := { s.psm with stack := rest } })) with hu
    have hpsm : u.psm = { s.psm with stack := rest } := by rw [hu]; split <;> rfl
    have hq : u.page? p = some r := by rw [State.page?, hpsm]; exact hp
    obtain ⟨l, h1, h2⟩ := segments_putPage (s := u) (by rw [hpsm]; exact h) hq { r with chain := r.chain ++ [seg] }
    have h3 : s.segments.Perm (seg :: u.segments) := by
      simp only [State.segments, hpsm, hst, List.cons_append]; exact List.Perm.refl _
    refine h2.trans ((?_ : List.Perm _ _).trans (h3.trans (h1.cons seg)).symm)
    simp only [List.append_assoc, List.singleton_append]
    rw [← List.append_assoc, ← List.append_assoc u.psm.stack r.chain l]
    exact List.perm_middle
  · cases hs

theorem pushSegments_pages (l : List Nat) (s : State) : (pushSegments l s).psm.pages = s.psm.pages := by
  induction l generalizing s with
  | nil => rfl
  | cons x l ih => exact ih (pushSegment s x)

/-- Segments pushed are then on the stack, the last of them on top. -/
theorem pushSegments_stack (l : List Nat) (s : State) : (pushSegments l s).psm.stack = l.reverse ++ s.psm.stack := by
  induction l generalizing s with
  | nil => rfl
  | cons x l ih =>
    rw [List.reverse_cons, List.append_assoc]
    exact ih (pushSegment s x)

/-- A page freed gives its segments back. -/
theorem segments_releasePage {s : State} (h : Tab.rising s.psm.pages = true) {p : Nat} {r : PageRec} (hp : s.page? p = some r) :
    (releasePage p r s).segments.Perm s.segments := by
  have hs : s.segments.Perm (s.psm.stack ++ (r.chain ++ (Tab.erase s.psm.pages p).flatMap fun e => e.2.chain)) :=
    (Tab.flatMap_of_get? h hp _).append_left _
  unfold releasePage
  split
  · rename_i hc
    rw [hc, List.nil_append] at hs
    exact hs.symm
  · rw [segments_freeCountChanged]
    have : (clearPage p (pushSegments r.chain s)).segments
        = r.chain.reverse ++ s.psm.stack ++ (Tab.erase s.psm.pages p).flatMap fun e => e.2.chain := by
      simp [State.segments, clearPage, pushSegments_stack, pushSegments_pages]
    rw [this]
    refine (List.Perm.append_right _ ?_).trans (List.append_assoc .. ▸ hs.symm)
    exact ((List.reverse_perm _).append_right _).trans List.perm_append_comm

/-- The segments that a sealed page does not need go back. -/
theorem segments_trimPage {s : State} (h : Tab.rising s.psm.pages = true) (p lc : Nat) :
    (trimPage p lc s).segments.Perm s.segments := by
  unfold trimPage
  split
  · exact List.Perm.refl _
  · rename_i r hp
    extract_lets keep extra v u
    split
    · exact List.Perm.refl _
    · rw [segments_freeCountChanged]
      have hpsm : u.psm = v.psm := by dsimp only [u]; split <;> rfl
      have hst : v.psm.stack = extra.reverse ++ s.psm.stack := pushSegments_stack extra s
      have hpg : u.psm.pages = s.psm.pages := by rw [hpsm]; exact pushSegments_pages extra s
      refine ((Tab.flatMap_set u.psm.pages p { r with chain := keep } _).append_left u.psm.stack).trans ?_
      refine List.Perm.trans ?_ ((Tab.flatMap_of_get? h hp _).append_left s.psm.stack).symm
      rw [hpg, hpsm, hst]
      have hc : r.chain = keep ++ extra := (List.take_append_drop _ _).symm
      simp only [hc, List.append_assoc]
      refine ((List.reverse_perm extra).append_right _).trans ?_
      rw [← List.append_assoc s.psm.stack keep, ← List.append_assoc s.psm.stack keep]
      exact List.perm_append_comm_assoc _ _ _

end Sys2Proof.Machine
end

