-- ==== Sys2Proof/Tests/Slice0.lean ====
section
/-! SUPPORT. The model's own tests: well-formedness, the spec's worked figures, and for every statement with hypotheses a
concrete state and operands that meet them, clause by clause. -/

namespace Sys2Proof.Tests

open Sys2Proof Sys2Proof.Machine

/-! ## Well-formedness: an ill-formed term for each check -/

theorem test_misaligned_access : Instr.wellFormed (.busWrite 2 0 15) = false ∧ Instr.wellFormed (.busWrite 4 0 15) = true := by
  decide

theorem test_misaligned_read : Instr.wellFormed (.earlyRead 1 15) = false ∧ Instr.wellFormed (.earlyRead 8 15) = true := by
  decide

theorem test_bit_position : Instr.wellFormed (.alignmentByteFound 104) = false ∧ Instr.wellFormed (.alignmentByteFound 103) = true := by
  decide

theorem test_frame_slots : Instr.wellFormed (.rxFrame [0xE4]) = false
    ∧ Instr.wellFormed (.rxFrame (List.replicate 13 0)) = true := by decide

theorem test_ring_digits : Instr.wellFormed (.ring 0 (List.replicate 9 0x31) []) = false
    ∧ Instr.wellFormed (.ring 0 (List.replicate 8 0x31) (List.replicate 20 0x41)) = true
    ∧ Instr.wellFormed (.ring 0 [] (List.replicate 21 0x41)) = false := by decide

theorem test_no_table_bits : decodeTableWord 32 0xE4 = none := rfl

/-! ## The spec's worked figures -/

/-- The page check of the bytes 31h to 39h (R66). -/
theorem test_page_check : crc16 [0x31, 0x32, 0x33, 0x34, 0x35, 0x36, 0x37, 0x38, 0x39] = 0x29B1#16 := by
  decide +kernel

/-- The CRC-8 of the same bytes (R105). -/
theorem test_crc8 : crc8 0 [0x31, 0x32, 0x33, 0x34, 0x35, 0x36, 0x37, 0x38, 0x39] = 0xF4#8 := by
  decide +kernel

/-- The bin of "PA" (R150). -/
theorem test_bin : binOf [0x50, 0x41] = 210 := by decide

/-- The hour of R177's example. -/
theorem test_hour : hourOfWeek 1000000 302400 = 25 := by decide

/-- The tone curve of Table 3-3. -/
def tone : Profile :=
  { Profile.default with s1 := 64, d1 := 40, s2 := 192, d2 := 220, k0 := 160, k1 := 360, k2 := 72, brightness := -10 }

/-- Table 3-3 and the figures below it. -/
theorem test_tone_curve : [0, 30, 100, 150, 200].map tone.bounded = [0, 9, 81, 151, 212]
    ∧ tone.curve 191 = 219 ∧ tone.curve 192 = 220 ∧ [30, 100, 150, 200].map tone.black = [true, true, false, false]
    ∧ { tone with hi := 200 }.bounded 240 = 200 := by decide

/-- Line 0 of the worked stream, in the RUNS form. -/
theorem test_runs_form : codeRuns 1728 [100, 120, 400, 403] = [0x03, 0x05, 0x00, 100, 20, 0x81, 0x18, 3, 0x85, 0x2D] := by
  decide

/-- Line 2 of the worked stream, in the DELTA form; a third shift of 10 dots does not apply. -/
theorem test_delta_form : codeDelta [101, 121, 399, 402] [100, 120, 400, 403] = some [0x02, 0x04, 0x00, 0x11, 0xFF]
    ∧ codeDelta [101, 121, 410, 413] [100, 120, 400, 403] = none := by decide

/-- The rate record of the worked charges. -/
def rate : Rate := { setUp := 120, period := 300, n1 := 4, n2 := 10, a1 := 35, a2 := 25, a3 := 20 }

/-- The worked charges of section 10.4. -/
theorem test_charges : [1800, 1847, 4000, 0, 300, 301].map (chargeOf rate) = [310, 335, 490, 120, 155, 190] := by decide

/-- The backoff example of section 5.3. -/
theorem test_backoff : nextGen 1 = 39022 ∧ nextGen 39022 = 61087 ∧ retryWait 60 1 (39022 % 60) = 82
    ∧ retryWait 60 2 (61087 % 60) = 127 := by decide

/-! ## Small states -/

/-- The region map of a board with a 32 MiB window. -/
def map : Anchor :=
  { format := 1, keep := false, cmdBase := 0x40, slotCount := 16, recCount := 64, evBase := 0x480, rawBase := 0x900,
    rawSize := 512, prnBase := 0x12100, prnSize := 0x5000, porBase := 0x100000, porSize := 0x140000, segCount := 256,
    scanHold := 200, printHold := 200 }

/-- RUN, with every table empty. -/
def run : State :=
  { State.reset with
      phase := .up, rgw := { Rgw.reset with state := .run, copy := some map }, mad := { window := some .mib32, urgent := false },
      psm := { Psm.reset with stack := List.range 256 }, ceu := { Ceu.reset with accepted := true } }

/-- PASS, with the DRAM initialised. -/
def pass : State := { run with rgw := Rgw.reset, ceu := Ceu.reset }

/-- RUN with one command slot to take. -/
def slot (kind count : Nat) (ps : List Nat) (s : State) : State :=
  { s with ceu := { s.ceu with head := 0, tail := 1 },
           dram := Mem.write s.dram 0x80 (le 2 kind ++ le 2 7 ++ u8 count ++ zeros 3 ++ ps.flatMap (le 4)) }

/-- The link up, and line 1 with this record. -/
def onLine (r : LineRec) (s : State) : State :=
  { s with sli := { s.sli with frame := .sync, mf := .mfSync }, lne := { s.lne with lines := [(1, r)] } }

/-- A document with these places. -/
def doc (dir : Dir) (st : DocState) (places : List (Option Nat)) : Doc :=
  { Doc.fresh dir st 5 with places := places, copies := 2 }

/-- A page of document 0 with a chain of two segments. -/
def page (st : PageState) : PageRec :=
  { state := st, doc := 0, pos := 0, dir := .outbound, cls := .a, res := .fine, lineCount := 3, codedLen := 1500,
    chain := [4, 9], check := 0, scanOverrun := false, truncated := false, checkFail := false, decodeFault := false,
    sendHolds := 1, printHolds := 0, sealedTime := 0 }

/-- A job on document 0. -/
def job (st : JobState) (sessions : Nat) : Job :=
  { state := st, doc := 0, account := 1, priority := 1, spread := 2, autoDelete := false, tag := 3, submission := 1,
    destCount := 2, sent := 0, failed := 0, cancelled := 0, sessions := sessions, started := false }

/-- A destination of job 0. -/
def dest (i : Nat) (st : DestState) : Dest :=
  { job := 0, index := i, digits := [0x34], state := st, attempts := 0, nextTry := 0, lastCause := none, confirmed := 0,
    line := none, logSeq := none, cancelMark := false }

/-- Documents, pages, jobs and destinations in RUN. -/
def work (docs : Tab Doc) (pages : Tab PageRec) (jobs : Tab Job) (dests : Tab Dest) : State :=
  { run with dju := { run.dju with docs := docs, jobs := jobs, dests := dests }, psm := { run.psm with pages := pages } }

/-- A print entry of document 0. -/
def entry (printing : Bool) : PrintEntry :=
  { doc := 0, copies := 1, copiesDone := 0, tray := 1, cls := 0, arrival := 1, printing := printing, position := 0,
    sheetNumber := 1, sheetLine := 4, cancelMark := false }

/-- The front command of the queue runs. -/
theorem test_step_takes_the_front : step { pass with pending := [.busWrite 0x1000 5 15, .txFrame] }
    = exec (.busWrite 0x1000 5 15) { pass with pending := [.txFrame] } := rfl

/-! ## Hypotheses met: the whole machine and the bus -/

theorem test_met_DramFormAndTableOrderKept : Mem.wf (slot 1 0 [] run).dram = true
    ∧ (work [(0, doc .outbound .opened [])] [] [] []).ordered = true
    ∧ ∃ t, step { slot 1 0 [] run with pending := [.clearPathCount] } = .next t := ⟨by decide, by decide, _, rfl⟩

/-- RUN with a closed document of one page and one freed place, two destinations of it, one in session on line 1, and a print
entry of two copies; the page has two segments of ten, and the holds given here. -/
def tied (send print : Nat) : State :=
  let s := onLine
    { LineRec.default with state := .dataWait, dir := some .outbound, dest := some 5, job := some 0, doc := some 0 }
    (work [(0, { doc .outbound .closed [some 3, none] with jobRefs := 1, printRefs := 1 })]
      [(3, { page .complete with sendHolds := send, printHolds := print })] [(0, job .active 1)]
      [(5, dest 0 .sending), (6, { dest 1 .pending with digits := [0x35] })])
  { s with rgw := { s.rgw with copy := some { map with segCount := 10 } },
           psm := { s.psm with stack := [0, 1, 2, 3, 5, 6, 7, 8] },
           prn := { s.prn with entries := [(0, { entry false with copies := 2 })] } }

theorem test_met_SegmentAndCallLawsKept : (tied 2 2).ordered = true ∧ (tied 2 2).segmentLaw = true ∧ (tied 2 2).callLaw = true
    ∧ run.segmentLaw = true ∧ ∃ t, step { tied 2 2 with pending := [.schedulerPass] } = .next t := by
  refine ⟨by decide, by decide, by decide, by decide +kernel, _, rfl⟩

theorem test_met_HoldLawKept : (tied 2 2).holdLaw = true ∧ (tied 1 2).holdLaw = false ∧ (tied 2 1).holdLaw = false
    ∧ run.holdLaw = true := by decide

theorem test_met_RegionMapLawKept : run.mapLaw = true ∧ pass.mapLaw = true ∧ run.mapPassed = true := by decide

theorem test_met_TimeAndReceiverLawsKept : run.timeLaw = true ∧ run.linkLaw = true
    ∧ (onLine LineRec.default run).linkLaw = true := by decide

/-- A read held with READY low. -/
def holding (why : HoldReason) : State :=
  { run with smp := { run.smp with held := some ⟨⟨false, 0x40, 0, 15⟩, why, 0⟩ } }

theorem test_met_PowerAndResetn : run.phase ≠ .off ∧ { run with phase := .resetLow }.phase = .resetLow
    ∧ State.reset.phase = .initialising ∧ (holding .reset).smp.held.map Held.reason = some .reset
    ∧ (holding .print).smp.held.map Held.reason = some .print ∧ (holding .reset).phase ≠ .off ∧ run.smp.held = none := by decide

theorem test_met_PlainWrites : pass.busReady 0x1000 = true ∧ wordOffset 0x1000 ≠ 0x3C
    ∧ run.busReady 0x1FFFFFC = true ∧ run.partOwned (wordOffset 0x1FFFFFC) = false ∧ run.rawSlot (wordOffset 0x1FFFFFC) = none
    ∧ wordOffset 0x1FFFFFC ≠ run.cfg.cmdBase ∧ wordOffset 0x1FFFFFC ≠ run.cfg.evBase := by decide

theorem test_met_PlainReadsAndTurnedAwayAccesses : run.busReady 0x1FFFFFC = true ∧ run.printSlot (wordOffset 0x1FFFFFC) = none
    ∧ run.windowBytes ≤ wordOffset 0x2000000 ∧ run.smp.held = none := by decide

theorem test_met_PartOwnedWriteDropped : run.partOwned (wordOffset 0x38) = true ∧ run.partOwned (wordOffset 0x44) = true
    ∧ run.partOwned (wordOffset 0x23FFFC) = true ∧ run.busReady 0x38 = true ∧ run.rgw.state ≠ .pass
    ∧ run.printSlot (wordOffset 0x38) = none := by decide

theorem test_met_CommitChecksAnchor : pass.busReady 0x3C = true ∧ pass.wordAfter 0x3C 1 15 = 1
    ∧ pass.wordAfter 0x3C 0x77777701 1 = 1 := by decide

/-- A validated anchor, with full tables standing in DRAM. -/
def entering (keep : Bool) : State :=
  { run with
      rgw := { Rgw.reset with copy := some { map with keep := keep }, validating := true },
      dram := Mem.write (Mem.write (Mem.write [] 0x12B820 [64]) 0x134802 [0, 16]) 0x134840 [0, 1] }

theorem test_met_RunEntry : (entering false).mapLaw = true ∧ (entering false).rgw.validating = true
    ∧ (entering true).mapLaw = true ∧ (entering true).rgw.noted = false ∧ (entering true).cfg.keep = true
    ∧ (entering false).cfg.keep = false
    ∧ Mem.num (entering true).dram ((entering true).por 0x2B820) 1 = 64
    ∧ Mem.num (entering true).dram ((entering true).por 0x34840) 2 = 256
    ∧ Mem.num (entering true).dram ((entering true).por 0x34802) 2 = 4096 := by decide +kernel

/-- A withdraw noted while the anchor was being checked. -/
theorem test_met_RunEntry_noted : let s : State := { entering false with rgw := { (entering false).rgw with noted := true } }
    s.mapLaw = true ∧ s.rgw.validating = true ∧ s.rgw.noted = true ∧ s.smp.held = none := by decide +kernel

theorem test_met_Withdraw : run.busReady 0x3C = true ∧ run.wordAfter 0x3C 0 15 = 0 ∧ run.mapPassed = true
    ∧ run.ceu.accepted = true ∧ run.scn.state = .scanIdle ∧ run.dju.dests = []
    ∧ (∀ n, (run.line n).state.inSession = false) ∧ run.wordAfter 0x3C 0xFFFFFF00 1 = 0
    ∧ { run with ceu := Ceu.reset }.ceu.accepted = false ∧ (entering false).busReady 0x3C = true
    ∧ { entering false with rgw := { (entering false).rgw with state := .pass } }.rgw.state = .pass := by decide +kernel

/-- A withdraw under way; `written` tells whether WITHDRAWN stands in the event ring. -/
def leaving (written : Bool) : State :=
  { run with rgw := { run.rgw with state := .withdrawing }, ceu := { run.ceu with withdrawnWritten := written } }

theorem test_met_WithdrawEnds : (leaving true).rgw.state = .withdrawing ∧ (leaving true).ceu.withdrawnWritten = true
    ∧ (leaving false).rgw.state = .withdrawing ∧ (leaving false).ceu.withdrawnWritten = false
    ∧ run.rgw.state ≠ .withdrawing := by decide

theorem test_withdraw_end : ∃ t, exec .withdrawEnd (leaving true) = .next t ∧ t.rgw.state = .pass ∧ t.ceu.attn = false :=
  ⟨_, rfl, rfl, rfl⟩

theorem test_met_RingIndexWrites : run.busReady 0x40 = true ∧ wordOffset 0x40 = run.cfg.cmdBase
    ∧ run.wordAfter 0x40 15 15 < run.cfg.slotCount ∧ run.cfg.slotCount ≤ run.wordAfter 0x40 16 15 := by decide

theorem test_met_RingIndexWrites_head : run.busReady 0x480 = true ∧ wordOffset 0x480 = run.cfg.evBase
    ∧ run.cfg.recCount ≤ run.wordAfter 0x480 64 15 ∧ run.unread < (1 + 64 - run.ceu.evHead) % 64
    ∧ run.wordAfter 0x480 0 15 = run.ceu.evHead := by decide

/-! ## Hypotheses met: commands and events -/

/-- An event. -/
def ring : Event := { kind := .ring, src := .line, idx := 0, tag := 0, code := 0, lost := 0, time := 0, value := 0 }

/-- A full event ring, with events queued. -/
def full (q : Nat) : State := { run with ceu := { run.ceu with evHead := 1, queue := List.replicate q ring } }

theorem test_met_EventStream : run.rgw.state ≠ .pass ∧ run.ringFull = false ∧ run.ceu.queue = [] ∧ (full 0).ringFull = true
    ∧ (full 31).ceu.queue.length < (full 31).openPlaces .ring ∧ (full 32).openPlaces .ring ≤ (full 32).ceu.queue.length
    ∧ (full 32).openPlaces .withdrawn ≤ (full 32).ceu.queue.length ∧ (full 2).ceu.queue ≠ []
    ∧ run.ceu.withdrawnHeld = none ∧ run.ceu.withdrawnWritten = false
    ∧ { full 2 with ceu := { (full 2).ceu with withdrawnWritten := true } }.ceu.withdrawnWritten = true := by decide

/-- A WITHDRAWN held back, with room in the ring, a place in the queue, and no place. -/
theorem test_met_EventStream_held :
    let e : Event := { ring with kind := .withdrawn }
    let held (s : State) : State := { s with ceu := { s.ceu with withdrawnHeld := some e } }
    let served (s : State) : State := serveQueue { held s with ceu := { (held s).ceu with withdrawnHeld := none } }
    (held run).ceu.withdrawnHeld = some e ∧ e.kind = .withdrawn ∧ (served run).ceu.withdrawnWritten = false
    ∧ (served run).ringFull = false ∧ (served run).ceu.queue = [] ∧ (served (full 2)).ringFull = true
    ∧ (served (full 2)).ceu.queue.length < (served (full 2)).openPlaces .withdrawn
    ∧ (served (full 32)).openPlaces .withdrawn ≤ (served (full 32)).ceu.queue.length
    ∧ (served { run with ceu := { run.ceu with withdrawnWritten := true } }).ceu.withdrawnWritten = true := by decide +kernel

theorem test_met_CommandDone : run.mapPassed = true ∧ run.ceu.queue.length < 32 ∧ run.ceu.evTail < run.cfg.recCount
    ∧ (full 31).ringFull = true ∧ (full 31).ceu.queue.length < 32 ∧ run.rgw.state ≠ .pass
    ∧ run.ceu.withdrawnWritten = false ∧ (full 31).ceu.withdrawnWritten = false := by decide

theorem test_met_CommandTaking : (Instr.beginScan, 0x11, 3) ∈ commandTable ∧ (slot 0x11 15 [] run).canTake = true
    ∧ (slot 0x11 15 [] run).headSlot.kind = 0x11 ∧ 14 < (slot 0x11 15 [] run).headSlot.count
    ∧ (slot 0x11 2 [] run).headSlot.count < 3 ∧ (slot 0x99 0 [] run).canTake = true
    ∧ (slot 0x99 0 [] run).headSlot.kind ∉ commandTable.map (fun r => r.2.1) ∧ run.ceu.head = run.ceu.tail := by decide

theorem test_met_ClearPathCount : (slot 0x01 0 [] run).readyFor 0x01 0 = true ∧ (slot 0x01 14 [] run).readyFor 0x01 0 = true := by
  decide

/-! ## Hypotheses met: page store and scan -/

theorem test_met_PageCodeRoundTrip : (whiteLine 1728).length = WidthClass.a.dots ∧ (whiteLine 2432).length = WidthClass.c.dots := ⟨List.length_replicate, List.length_replicate⟩

theorem test_met_SealedPageRecord : (work [] [(3, page .filling)] [] []).page? 3 = some (page .filling)
    ∧ (page .filling).state = .filling ∧ segsFor 1020 ≤ (page .filling).chain.length
    ∧ segsFor 2040 = (page .filling).chain.length := by decide

/-- A slot for SET_SCAN_PROFILE with these curve points and bounds out of order. -/
def curve (points : Nat) : State := slot 0x10 13 [0, 64, 64, 0, 0, 0, 0, 0, 0, 0, 0, points, 0xFF] run

theorem test_met_SetScanProfile : (slot 0x10 0 [] run).readyFor 0x10 0 = true ∧ (slot 0x10 0 [] run).headSlot.count = 0
    ∧ (slot 0x10 1 [4] run).readyFor 0x10 1 = true ∧ (slot 0x10 1 [3] run).headSlot.num 0 = 3
    ∧ (slot 0x10 13 [0, 0, 0, 0, 0, 0, 0, 0, 0, 0, 0, 0, 0x30000000] run).headSlot.field 12 28 2 = 3
    ∧ (slot 0x10 3 [0, 64, 32] run).headSlot.num 2 < (slot 0x10 3 [0, 64, 32] run).headSlot.num 1
    ∧ (curve 0x0000FF).headSlot.field 11 8 8 < (curve 0x0000FF).headSlot.field 11 0 8
    ∧ (curve 0xFF00).headSlot.field 11 0 8 ≤ (curve 0xFF00).headSlot.field 11 8 8
    ∧ (curve 0xFF00).headSlot.field 12 8 8 < (curve 0xFF00).headSlot.field 12 0 8
    ∧ Profile.default.win ≤ Profile.default.stride ∧ Profile.default.s1 ≤ Profile.default.s2
    ∧ Profile.default.lo ≤ Profile.default.hi := by decide

/-- A slot for BEGIN_SCAN of profile 0 on document 0. -/
def begin (d p m : Nat) (docs : Tab Doc) (stride : Nat) : State :=
  let s := work docs [] [] []
  slot 0x11 3 [d, p, m] { s with scn := { s.scn with profiles := [(0, { Profile.default with win := 64, stride := stride })] } }

theorem test_met_BeginScan : (begin 0 4 0 [] 64).readyFor 0x11 3 = true ∧ (begin 0 3 2 [] 64).readyFor 0x11 3 = true
    ∧ (begin 0 3 1 [] 64).doc? 0 = none ∧ (begin 0 0 1 [(0, doc .inbound .complete [])] 64).doc? 0 = some (doc .inbound .complete [])
    ∧ run.cfg.rawSize / 96 < 8 ∧ run.cfg.rawSize / 64 = 8
    ∧ (begin 0 0 1 [(0, doc .outbound .opened [])] 64).doc? 0 = some (doc .outbound .opened [])
    ∧ 16 ≤ run.freeCount ∧ run.emptyPages ≠ 0 ∧ { run with psm := Psm.reset }.freeCount < 16 := by decide +kernel

/-- The profile of a small scan. -/
def narrow : Profile := { Profile.default with win := 64, stride := 64, mt := 9 }

/-- A scan of document 0 between pages. -/
def scanning (kind : Nat) : State :=
  let s := work [(0, doc .outbound .opened []), (1, doc .outbound .opened [])] [] [] []
  let scn := { s.scn with state := .betweenPages, doc := some 0, active := some narrow, mode := some .single }
  slot kind 1 [0] { s with rgw := { s.rgw with rawGeom := some ⟨64, 8, 64⟩ }, scn := scn }

/-- The scan with page 3 open and 1500 bytes stored. -/
def ending (kind : Nat) : State :=
  let s := scanning kind
  { s with psm := { s.psm with pages := [(3, page .filling)] },
           scn := { s.scn with state := .inPage, page := some 3, streamLen := 1500, outLines := 3 } }

theorem test_met_EndPageAndEndScan : (scanning 0x12).readyFor 0x12 1 = true ∧ (scanning 0x13).readyFor 0x13 1 = true
    ∧ ((scanning 0x12).doc? 0).isSome ∧ (scanning 0x12).scn.doc = some 0 ∧ (scanning 0x13).scn.waiting = 0
    ∧ (scanning 0x13).scn.page = none ∧ (slot 0x12 1 [5] run).doc? 5 = none ∧ ((scanning 0x12).doc? 1).isSome
    ∧ (scanning 0x13).smp.held = none
    ∧ { (scanning 0x12).scn with state := .pageFull, lastSealed := some (3, 7) }.lastSealed = some (3, 7)
    ∧ (ending 0x13).readyFor 0x13 1 = true ∧ (ending 0x12).readyFor 0x12 1 = true ∧ (ending 0x12).scn.state = .inPage
    ∧ (ending 0x12).page? 3 = some (page .filling) ∧ (ending 0x12).scn.page = some 3 ∧ (ending 0x12).scn.streamLen ≠ 0
    ∧ (ending 0x12).scn.half = none ∧ (ending 0x12).scn.waiting = 0 ∧ (doc .outbound .opened []).keep = true
    ∧ (∀ n, ((ending 0x12).line n).state = .dataWait → ((ending 0x12).line n).doc ≠ some 0) := by decide

/-- END_SCAN of document 0 with a lapping write held. -/
theorem test_met_EndPageAndEndScan_held : let s : State := { scanning 0x13 with smp := (holding (.scan 0)).smp }
    s.readyFor 0x13 1 = true ∧ s.headSlot.num 0 = 0 ∧ (s.doc? 0).isSome ∧ s.scn.doc = some 0
    ∧ s.smp.held.map Held.reason = some (.scan 0) := by decide

/-- A write of the last pixel word of raw slot 0 held. -/
def lapped (s : State) : State := { s with smp := { s.smp with held := some ⟨⟨true, 0x93C, 5, 15⟩, .scan 0, 200⟩ } }

/-- END_SCAN in the middle of a page with one slot waiting, and in a full page, a lapping write held. -/
theorem test_met_EndPageAndEndScan_released :
    let s := lapped { ending 0x13 with scn := { (ending 0x13).scn with waiting := 1, comp := 1 } }
    let full := { scanning 0x13 with scn := { (scanning 0x13).scn with state := .pageFull } }
    s.readyFor 0x13 1 = true ∧ s.scn.doc = some 0 ∧ s.mapPassed = true ∧ s.ceu.evTail < s.cfg.recCount
    ∧ s.cfg.rawBase ≤ 0x93C ∧ 0x93C + 4 ≤ s.cfg.rawBase + s.cfg.rawSize ∧ s.scn.state = .inPage ∧ s.scn.waiting ≤ 1
    ∧ (∀ n, (s.line n).state ≠ .dataWait) ∧ s.page? 3 = some (page .filling) ∧ (doc .outbound .opened []).keep = true
    ∧ (∀ g ∈ s.psm.stack ++ (page .filling).chain, g < s.cfg.segCount) ∧ s.psm.stack.length + 2 ≤ 32768
    ∧ full.readyFor 0x13 1 = true ∧ full.scn.page = none ∧ full.scn.state = .pageFull := by decide +kernel

/-! ## Hypotheses met: documents and jobs -/

/-- DELETE_DOCUMENT of the scanned document, its page open and a lapping write held. -/
theorem test_met_CloseAndDeleteDocument_released :
    let s := lapped { ending 0x22 with dju := { (ending 0x22).dju with docs := [(0, doc .outbound .opened [some 3])] } }
    s.readyFor 0x22 1 = true ∧ s.doc? 0 = some (doc .outbound .opened [some 3]) ∧ s.scn.doc = some 0 ∧ s.scn.state ≠ .scanIdle
    ∧ s.mapPassed = true ∧ s.ceu.evTail < s.cfg.recCount ∧ s.cfg.rawBase ≤ 0x93C
    ∧ 0x93C + 4 ≤ s.cfg.rawBase + s.cfg.rawSize ∧ s.dju.jobs = [] ∧ (∀ n, (s.line n).state ≠ .dataWait)
    ∧ s.scn.page = some 3 ∧ 3 ∈ (doc .outbound .opened [some 3]).livePages ∧ s.page? 3 = some (page .filling)
    ∧ 1 ≤ (page .filling).sendHolds + (page .filling).printHolds ∧ s.scn.half = none ∧ s.scn.streamLen ≠ 0
    ∧ (∀ g ∈ (page .filling).chain, g < s.cfg.segCount) := by decide +kernel

theorem test_met_OpenDocument : (slot 0x20 0 [] run).readyFor 0x20 0 = true ∧ (slot 0x20 0 [] run).doc? 0 = none
    ∧ (work [(0, doc .outbound .opened [])] [] [] []).doc? 1 = none
    ∧ (∀ k, k < 1 → ((work [(0, doc .outbound .opened [])] [] [] []).doc? k).isSome) := by decide

theorem test_met_CloseAndDeleteDocument : (slot 0x21 1 [0] run).readyFor 0x21 1 = true ∧ run.doc? 0 = none
    ∧ (slot 0x21 1 [0] (work [(0, doc .outbound .opened [])] [] [] [])).doc? 0 = some (doc .outbound .opened [])
    ∧ run.scn.doc ≠ some 0 ∧ (∀ n, (run.line n).state ≠ .dataWait) ∧ (slot 0x22 1 [0] run).readyFor 0x22 1 = true
    ∧ (doc .outbound .opened []).livePages = [] ∧ (doc .outbound .opened []).jobRefs = 0 := by decide

/-- CLOSE_DOCUMENT with a job whose one idle destination has every place confirmed. -/
theorem test_met_CloseAndDeleteDocument_jobs :
    let s := slot 0x21 1 [0] (work [(0, doc .outbound .opened [])] [] [(0, job .active 0)] [(5, dest 0 .pending)])
    s.readyFor 0x21 1 = true ∧ s.ordered = true ∧ s.doc? 0 = some (doc .outbound .opened []) ∧ s.scn.doc ≠ some 0
    ∧ (∀ n, (s.line n).state ≠ .dataWait) ∧ s.job? 0 = some (job .active 0) ∧ (job .active 0).autoDelete = false
    ∧ s.dest? 5 = some (dest 0 .pending) ∧ (dest 0 .pending).isIdle = true ∧ (dest 0 .pending).confirmed = 0 := by decide

/-- DELETE_DOCUMENT with a live page without holds, and of the document being scanned with its page open. -/
theorem test_met_CloseAndDeleteDocument_pages :
    let q : PageRec := { page .complete with sendHolds := 0 }
    let s := slot 0x22 1 [0] (work [(0, doc .outbound .closed [some 3])] [(3, q)] [] [])
    (s.readyFor 0x22 1 = true ∧ s.ordered = true ∧ s.doc? 0 = some (doc .outbound .closed [some 3]) ∧ s.scn.doc ≠ some 0
      ∧ (doc .outbound .closed [some 3]).livePages = [3] ∧ s.page? 3 = some q ∧ q.doc = 0 ∧ (∀ n, (s.line n).state ≠ .dataWait))
    ∧ (ending 0x22).readyFor 0x22 1 = true ∧ (ending 0x22).scn.doc = some 0 ∧ (ending 0x22).scn.state ≠ .scanIdle
    ∧ (ending 0x22).doc? 0 = some (doc .outbound .opened []) ∧ (ending 0x22).scn.page = some 3
    ∧ (ending 0x22).page? 3 = some (page .filling) ∧ (ending 0x22).scn.active.isSome ∧ 1 ≤ (page .filling).sendHolds
    ∧ (ending 0x22).scn.half = none ∧ (ending 0x22).scn.streamLen ≠ 0 := by decide

/-- A state in which SUBMIT_JOB passes its checks, with one destination of one digit. -/
def submitting : State :=
  let s := work [(0, doc .outbound .opened [])] [] [] []
  let s := slot 0x23 7 [0, 0x1FFFFE0, 1, 1, 2, 1, 1]
    { s with chg := { s.chg with accounts := [(1, { Account.empty with state := .opened })] } }
  { s with dram := Mem.write s.dram 0x1FFFFE0 [1, 0, 0, 0, 0x34] }

theorem test_met_SubmitJob : submitting.readyFor 0x23 7 = true ∧ submitting.ordered = true
    ∧ submitting.headSlot.num 1 + 32 * submitting.headSlot.num 2 ≤ submitting.windowBytes
    ∧ submitting.doc? 0 = some (doc .outbound .opened []) ∧ (submitting.account 1).state ≠ .unused
    ∧ some [0x34] = entryDigits (submitting.listEntry (submitting.headSlot.num 1) 0) ∧ submitting.job? 0 = none
    ∧ (slot 0x23 7 [0, 0, 251, 1, 3, 1, 2] run).readyFor 0x23 7 = true
    ∧ (slot 0x23 7 [0, 0, 251, 1, 3, 1, 2] run).headSlot.num 4 = 3 ∧ (slot 0x23 7 [0, 0, 251, 1, 3, 1, 2] run).headSlot.num 6 = 2
    ∧ (slot 0x23 7 [0, 2, 250, 1, 2, 1, 1] run).headSlot.num 1 % 4 ≠ 0 ∧ run.doc? 0 = none
    ∧ { submitting with chg := run.chg }.account 1 = Account.empty ∧ Account.empty.state = .unused
    ∧ entryDigits ({ submitting with dram := [] }.listEntry 0x1FFFFE0 0) = none
    ∧ submitting.dju.dests.length + 1 ≤ 1024 := by decide +kernel

/-- A job with two destinations. -/
def jobs (r : Job) (a b : DestState) (kind : Nat) (ps : List Nat) : State :=
  slot kind 2 ps (work [(0, doc .outbound .closed [])] [] [(0, r)] [(5, dest 0 a), (6, dest 1 b)])

/-- A job with a destination that waits and one in session on line 1. -/
def calling (kind : Nat) : State :=
  onLine { LineRec.default with state := .dataWait, dir := some .outbound, dest := some 6 }
    (slot kind 2 [0, 1] (work [(0, doc .outbound .closed [])] [] [(0, job .active 1)]
      [(5, dest 0 .pending), (6, { dest 1 .sending with line := some 1 })]))

theorem test_met_CancelCommands : (jobs (job .active 0) .pending .retryWait 0x24 [0]).readyFor 0x24 1 = true
    ∧ (jobs (job .active 0) .pending .retryWait 0x24 [0]).job? 0 = some (job .active 0)
    ∧ (jobs (job .active 0) .pending .retryWait 0x24 [0]).ordered = true
    ∧ (dest 0 .pending).isIdle = true ∧ (dest 1 .retryWait).isIdle = true
    ∧ (jobs (job .cancelled 1) .sent .dialling 0x24 [0]).job? 0 = some (job .cancelled 1)
    ∧ (jobs (job .active 0) .pending .retryWait 0x25 [0, 1]).readyFor 0x25 2 = true
    ∧ (jobs (job .active 0) .pending .retryWait 0x25 [0, 2]).headSlot.num 1 = 2
    ∧ (jobs (job .active 0) .pending .retryWait 0x25 [0, 1]).dest? 6 = some (dest 1 .retryWait)
    ∧ (dest 1 .dialling).isIdle = false ∧ (dest 1 .dialling).isFinal = false ∧ (dest 1 .sent).isFinal = true
    ∧ (∀ n, (run.line n).dest ≠ some 6) := by decide

/-- CANCEL_JOB and CANCEL_DESTINATION of a job whose second destination is in session, held by line 1 alone. -/
theorem test_met_CancelCommands_in_session : (calling 0x24).readyFor 0x24 1 = true ∧ (calling 0x24).ordered = true
    ∧ (calling 0x24).job? 0 = some (job .active 1) ∧ (calling 0x24).dest? 6 = some { dest 1 .sending with line := some 1 }
    ∧ (calling 0x24).dest? 5 = some (dest 0 .pending) ∧ (∀ m, ((calling 0x24).line m).dest = some 6 ↔ m = 1)
    ∧ (calling 0x25).readyFor 0x25 2 = true ∧ ((calling 0x25).line 1).state = .dataWait := by decide

/-- The jobs above, on a kept document with one page that every destination holds. -/
theorem test_met_CancelCommands_holds :
    let s := slot 0x24 1 [0] (work [(0, doc .outbound .closed [some 3])] [(3, page .complete)] [(0, job .active 0)]
      [(5, dest 0 .pending), (6, dest 1 .retryWait)])
    s.readyFor 0x24 1 = true ∧ s.ordered = true ∧ s.job? 0 = some (job .active 0) ∧ (job .active 0).sessions = 0
    ∧ s.doc? 0 = some (doc .outbound .closed [some 3]) ∧ (doc .outbound .closed [some 3]).keep = true
    ∧ ((doc .outbound .closed [some 3]).places.filterMap id).Nodup ∧ s.page? 3 = some (page .complete)
    ∧ (page .complete).doc = 0 ∧ (s.dju.dests.filter fun e => e.2.job == 0 && e.2.isIdle).length = 2
    ∧ (job .active 0).autoDelete = false ∧ (calling 0x24).doc? 0 = some (doc .outbound .closed [])
    ∧ (job .active 1).sessions ≠ 0 := by decide

theorem test_met_HoldAndReleaseJob : (jobs (job .queued 0) .pending .pending 0x26 [0]).readyFor 0x26 1 = true
    ∧ (jobs (job .onHold 0) .pending .pending 0x27 [0]).readyFor 0x27 1 = true
    ∧ (jobs (job .onHold 0) .pending .pending 0x27 [0]).job? 0 = some (job .onHold 0) := by decide

theorem test_met_SettingsCommands : (slot 0x18 3 [4096, 4095, 0] run).readyFor 0x18 0 = true
    ∧ (slot 0x18 2 [4097, 4096] run).readyFor 0x18 0 = true ∧ (slot 0x28 2 [8, 9] run).readyFor 0x28 0 = true
    ∧ (slot 0x39 7 [] run).readyFor 0x39 0 = true ∧ (slot 0x30 2 [3, 1] run).readyFor 0x30 0 = true
    ∧ 1 < (slot 0x30 2 [3, 2] run).headSlot.num 1 ∧ 1 < (slot 0x30 3 [3, 1, 2] run).headSlot.num 2 := by decide

/-! ## Hypotheses met: link, lines and router -/

theorem test_met_LinkAndPlanCommands : (slot 0x31 0 [] run).readyFor 0x31 0 = true ∧ run.sli.frame ≠ .sync
    ∧ { run with sli := { run.sli with frame := .sync } }.sli.mf = .mfSearch ∧ (slot 0x32 0 [] run).readyFor 0x32 0 = true
    ∧ (slot 0x31 0 [] (onLine LineRec.default run)).readyFor 0x31 0 = true
    ∧ (slot 0x31 0 [] (onLine LineRec.default run)).linkUp = true ∧ run.sli.outBlocks = []
    ∧ (slot 0x38 9 [3, 0x913, 0x42, 0, 0, 0, 0, 0, 9] run).readyFor 0x38 9 = true
    ∧ (slot 0x38 9 [3, 4, 0, 0, 0, 0, 0, 0, 8] run).headSlot.field 1 0 4 = 4
    ∧ (slot 0x38 9 [0xA13] run).headSlot.field 0 8 4 = 10 := by decide

/-- A slot for LOAD_ROUTE with the digit 1. -/
def route (n opts : Nat) (rs : List Route) : State :=
  slot 0x40 7 [n, 0x31, 0, 32, 0, 0, opts] { run with rxr := { run.rxr with routes := rs } }

/-- A route for the digit 1. -/
def route1 : Route := { Route.default with digitCount := 1, digits := [0x31] }

theorem test_met_LoadRoute : (route 0 0 []).readyFor 0x40 7 = true ∧ (route 9 0 []).readyFor 0x40 7 = true
    ∧ (route 1 15 []).headSlot.num 6 = 15 ∧ (route 1 16 []).headSlot.num 6 = 16 ∧ (route 1 8 []).headSlot.flag 6 3 = true
    ∧ (route 1 7 []).headSlot.flag 6 3 = false ∧ isDigit ((route 1 0 []).headSlot.char 1 0) = true
    ∧ isDigit ((route 2 0 []).headSlot.char 1 1) = false ∧ route1.isFor [0x31] = true
    ∧ (route 1 0 [route1]).rxr.routes[0]? = some route1 := by decide

/-- A removal that moves route 1, with a byte 1Fh that no field holds, to the place of route 0. -/
theorem test_met_LoadRoute_moved :
    let s := route 1 8 [route1, { route1 with digits := [0x32] }]
    let s := { s with dram := Mem.write s.dram 0x12B03F [0x55] }
    s.readyFor 0x40 7 = true ∧ s.rxr.routes[0]? = some route1 ∧ s.rxr.routes.length ≤ 64 ∧ 0 + 1 < s.rxr.routes.length
    ∧ Mem.get s.dram (s.por 0x2B03F) = 0x55 := by decide

theorem test_met_SetDefaultRoute : (slot 0x42 4 [32, 4, 10, 7] run).readyFor 0x42 4 = true
    ∧ (slot 0x42 4 [32, 4, 10, 7] run).headSlot.num 3 ≤ 7 ∧ 7 < (slot 0x42 4 [31, 3, 9, 8] run).headSlot.num 3 := by decide

/-- A route for the called digit 1 behind one for the digit 2. -/
theorem test_met_SetDefaultRoute_matching :
    let s := slot 0x42 4 [32, 4, 10, 7] { run with rxr := { run.rxr with routes := [{ route1 with digits := [0x32] }, route1] } }
    s.readyFor 0x42 4 = true ∧ s.headSlot.num 3 ≤ 7 ∧ s.rxr.routes[1]? = some route1 ∧ ([0x31] : List Byte).all isDigit = true
    ∧ route1.digitCount = 1 ∧ route1.digits.take 1 = [0x31] ∧ ([0x32] : List Byte).take 1 ≠ [0x31]
    ∧ (∀ r ∈ s.rxr.routes, r.isFor [0x33] = false) := by decide

theorem test_met_SenderFilter : (slot 0x41 2 [255, 1] run).readyFor 0x41 2 = true ∧ (slot 0x41 2 [256, 0] run).headSlot.num 0 = 256
    ∧ (slot 0x41 2 [0, 4] run).headSlot.num 1 = 4 ∧ (slot 0x41 2 [0, 2] run).readyFor 0x41 2 = true
    ∧ (slot 0x41 2 [0, 3] run).readyFor 0x41 2 = true := by decide

/-- A held inbound document. -/
def heldDoc (copies : Nat) : Doc := { doc .inbound .complete [] with isHeld := true, copies := copies }

theorem test_met_ReleaseHeld : (slot 0x43 1 [0] (work [(0, heldDoc 1)] [] [] [])).readyFor 0x43 1 = true
    ∧ (work [(0, heldDoc 1)] [] [] []).doc? 0 = some (heldDoc 1) ∧ (heldDoc 0).copies = 0 ∧ (heldDoc 1).isHeld = true
    ∧ (heldDoc 1).state ≠ .deleting ∧ (heldDoc 1).livePages.Nodup ∧ (heldDoc 0).autoDelete = false
    ∧ run.freeEntry = some 0 ∧ run.doc? 0 = none := by decide +kernel

/-! ## Hypotheses met: printer commands and charging -/

theorem test_met_SetPrintProfile : (slot 0x48 6 [1728, 0, 100, 1, 1, 1] run).readyFor 0x48 0 = true
    ∧ 1 < (slot 0x48 6 [1728, 0, 100, 1, 2, 1] run).headSlot.num 4
    ∧ 0 < run.cfg.prnSize / (16 + (1728 / 8 + 15) / 16 * 16) := by decide

/-- A print entry in RUN. -/
def queued (r : PrintEntry) (sheet : Bool) : State :=
  { run with prn := { run.prn with entries := [(2, r)], sheetOpen := sheet } }

theorem test_met_PrintQueueCommands : (slot 0x49 4 [0, 9, 3, 1] (work [(0, heldDoc 1)] [] [] [])).readyFor 0x49 4 = true
    ∧ (slot 0x49 4 [0, 10, 4, 2] run).headSlot.num 3 = 2 ∧ run.freeEntry = some 0 ∧ (heldDoc 1).livePages.Nodup
    ∧ (slot 0x4A 1 [2] (queued (entry true) true)).readyFor 0x4A 1 = true
    ∧ (queued (entry true) true).entry? 2 = some (entry true) ∧ run.entry? 2 = none := by decide +kernel

/-- CANCEL_PRINT of an entry between sheets, of a plain document and of one that its removal deletes. -/
theorem test_met_PrintQueueCommands_removal :
    let d : Doc := { doc .inbound .complete [some 3] with printRefs := 1 }
    let s (d : Doc) : State := slot 0x4A 1 [2] { queued (entry true) false with
      dju := { run.dju with docs := [(0, d)] }, psm := { run.psm with pages := [(3, page .complete)] } }
    (s d).readyFor 0x4A 1 = true ∧ (s d).entry? 2 = some (entry true) ∧ (entry true).cancelMark = false
    ∧ (s d).prn.sheetOpen = false ∧ (s d).doc? 0 = some d ∧ d.livePages = [3] ∧ d.keep = true ∧ d.state = .complete
    ∧ (s d).page? 3 = some (page .complete) ∧ (page .complete).doc = 0 ∧ d.autoDelete = false
    ∧ (s { d with autoDelete := true }).doc? 0 = some { d with autoDelete := true } ∧ d.isHeld = false := by decide

theorem test_met_StartAndStopPrint : (slot 0x4B 0 [] run).readyFor 0x4B 0 = true ∧ run.prn.state = .stopped
    ∧ 4 ≤ run.cfg.prnSize / (16 + (1728 / 8 + 15) / 16 * 16) ∧ run.rgw.printGeom = none
    ∧ (slot 0x4C 0 [] run).readyFor 0x4C 0 = true ∧ run.smp.held = none := by decide

/-- STOP_PRINT with an early read held: between sheets, in a sheet, and with an access held for another reason. -/
theorem test_met_StartAndStopPrint_held :
    let h : Held := ⟨⟨false, 0x12100, 0, 15⟩, .print, 200⟩
    let s (sheet : Bool) (h : Held) : State := slot 0x4C 0 [] { run with
      smp := { run.smp with held := some h }, rgw := { run.rgw with printGeom := some ⟨1728, 240, 85⟩ },
      prn := { run.prn with state := .printing, active := some PrintProfile.default, sheetOpen := sheet } }
    (s false h).readyFor 0x4C 0 = true ∧ (s false h).prn.state = .printing ∧ (s false h).smp.held = some h
    ∧ (s false h).prn.slots = [] ∧ (s true h).prn.sheetOpen = true ∧ (s true h).printSlot h.access.off = some ((s true h).prn.read, 0)
    ∧ (s true { h with reason := .reset }).smp.held.map Held.reason = some .reset := by decide

theorem test_met_TariffCommands : (slot 0x50 2 [5, 604800] run).readyFor 0x50 2 = true ∧ run.ordered = true
    ∧ (slot 0x51 4 [6, 23, 12, 0xFFFFFF] run).readyFor 0x51 4 = true ∧ (slot 0x51 4 [7, 24, 13] run).headSlot.num 0 = 7
    ∧ (slot 0x53 9 [31, 3, 0, 0, 4, 4] run).readyFor 0x53 9 = true ∧ (slot 0x53 9 [32, 4, 0, 0, 5, 4] run).headSlot.num 0 = 32 := by
  decide

/-- A slot for LOAD_TARIFF_PREFIX with the prefix 1. -/
def prefix1 (n opts : Nat) (ps : List TariffPrefix) : State :=
  slot 0x52 6 [n, 0x31, 0, 0, 32, opts] { run with chg := { run.chg with prefixes := ps } }

theorem test_met_LoadTariffPrefix : (prefix1 1 0 []).readyFor 0x52 6 = true ∧ (prefix1 13 0 []).headSlot.num 0 = 13
    ∧ (prefix1 1 2 []).headSlot.num 5 = 2 ∧ isPrefixChar ((prefix1 1 0 []).headSlot.char 1 0) = true
    ∧ isPrefixChar ((prefix1 2 0 []).headSlot.char 1 1) = false
    ∧ ({ count := 1, chars := [0x31], zone := 3 } : TariffPrefix).isValid = true := by decide

theorem test_met_AccountCommands : (slot 0x54 5 [63, 2, 0, 1, 600] run).readyFor 0x54 5 = true
    ∧ (slot 0x54 5 [64, 3, 0, 2, 9] run).headSlot.num 0 = 64 ∧ (slot 0x55 1 [63] run).readyFor 0x55 1 = true := by decide

/-- A slot for ACK_CHARGE_LOG. -/
def ack (q n next : Nat) : State :=
  slot 0x56 1 [q] { run with chg := { run.chg with logInUse := n, logNext := next } }

theorem test_met_AckChargeLog : (ack 1 2 3).readyFor 0x56 1 = true ∧ (ack 2 2 3).headSlot.num 0 < (ack 2 2 3).chg.logNext
    ∧ (ack 4294967295 3 2).headSlot.num 0 = 4294967295 ∧ (ack 0 4096 1).chg.logInUse ≤ 4096 := by decide

/-! ## Hypotheses met: raw slots, print slots, time -/

/-- A scan with complete slots waiting. -/
def waiting (q : Nat) : State :=
  let s := scanning 0
  { s with scn := { s.scn with comp := q % 8, waiting := q } }

theorem test_met_RawSlots : (waiting 1).busReady 0x93C = true ∧ (waiting 1).rawSlot (wordOffset 0x93C) = some (⟨64, 8, 64⟩, 0, 60)
    ∧ (waiting 1).mapPassed = true ∧ (0 + 8 - (waiting 1).scn.take) % 8 < (waiting 1).scn.waiting
    ∧ ¬((1 + 8 - (waiting 1).scn.take) % 8 < (waiting 1).scn.waiting)
    ∧ (waiting 8).lapping 0x93C = some 0 ∧ (waiting 8).rgw.rawGeom.any (fun g => decide (g.slots ≤ 8)) = true := by decide

/-- A page open in the scan, with room in its chain. -/
def inPage : State :=
  let s := waiting 1
  { s with psm := { s.psm with pages := [(3, page .filling)] },
           scn := { s.scn with state := .inPage, page := some 3 } }

theorem test_met_ScanTakeSlot : inPage.scn.waiting = 1 ∧ inPage.page? 3 = some (page .filling) ∧ (page .filling).chain.Nodup
    ∧ inPage.scn.outLines + 1 < 2200 ∧ narrow.lineIsWhite 0 = true ∧ narrow.res = .fine ∧ inPage.scn.take ∉ inPage.scn.voids
    ∧ codeLine 1728 [] [] = [0x00] ∧ (waiting 0).scn.waiting = 0 ∧ inPage.rgw.rawGeom = some ⟨64, 8, 64⟩
    ∧ inPage.smp.held = none := by decide

/-- The cases of a slot taken: a void slot, an extra line, a line of a STANDARD pair, a page at its height, a full store, and
BETWEEN_PAGES a new page, a full document and a full page table. -/
theorem test_met_ScanTakeSlot_cases : 0 ∈ { (waiting 1).scn with voids := [0] }.voids ∧ 0 < (waiting 1).scn.waiting
    ∧ { (waiting 1).scn with state := .pageFull, lastSealed := some (3, 7) }.lastSealed = some (3, 7)
    ∧ { narrow with res := .standard }.res = .standard ∧ inPage.scn.half = none
    ∧ { narrow with height := 1 }.height ≤ inPage.scn.outLines + 1
    ∧ segsFor (inPage.scn.streamLen + 1) ≤ (page .filling).chain.length
    ∧ { inPage.psm with stack := [] }.stack.length < segsFor (2040 + 1) - (page .filling).chain.length
    ∧ (page .filling).chain.length = segsFor 2040 ∧ inPage.doc? 0 = some (doc .outbound .opened [])
    ∧ (doc .outbound .opened []).keep = true ∧ (waiting 1).scn.state = .betweenPages ∧ (waiting 1).scn.page = none
    ∧ (waiting 1).page? 0 = none ∧ (waiting 1).psm.stack ≠ [] ∧ (doc .outbound .opened []).places.length < 128
    ∧ 128 ≤ (doc .outbound .opened (List.replicate 128 none)).places.length := by decide +kernel

/-- A lapping write held for the void slot that is taken, for the slot behind it, and for the slot of a line. -/
theorem test_met_ScanTakeSlot_held :
    let held (off j : Nat) (s : State) : State := { s with smp := { s.smp with held := some ⟨⟨true, off, 5, 15⟩, .scan j, 200⟩ } }
    let void (q off j : Nat) : State := held off j { waiting q with scn := { (waiting q).scn with voids := [0] } }
    (void 1 0x93C 0).rawSlot 0x93C = some (⟨64, 8, 64⟩, (void 1 0x93C 0).scn.take, 60) ∧ 0 < (void 1 0x93C 0).scn.waiting
    ∧ (void 1 0x93C 0).scn.waiting ≤ 8 ∧ (void 1 0x93C 0).scn.take ∈ (void 1 0x93C 0).scn.voids
    ∧ (void 1 0x93C 0).scn.active.isSome ∧ (void 1 0x93C 0).scn.doc.isSome ∧ (void 1 0x93C 0).scn.state ≠ .scanIdle
    ∧ (void 2 0x97C 1).rawSlot 0x97C = some (⟨64, 8, 64⟩, 1, 60) ∧ 1 ≠ (void 2 0x97C 1).scn.take
    ∧ (1 + 8 - (void 2 0x97C 1).scn.take) % 8 < (void 2 0x97C 1).scn.waiting
    ∧ (held 0x93C 0 inPage).rawSlot 0x93C = some (⟨64, 8, 64⟩, inPage.scn.take, 60) ∧ inPage.scn.state = .inPage := by decide

/-- Printing, with the slots filled so far. -/
def printing (slots : List SlotRec) : State :=
  { run with rgw := { run.rgw with printGeom := some ⟨1728, 240, 85⟩ },
             prn := { run.prn with state := .printing, active := some PrintProfile.default, slots := slots, entries := [(2, entry true)] } }

theorem test_met_PrintSlots : (printing []).busReady 0x12100 = true ∧ (printing []).printSlot (wordOffset 0x12100) = some (0, 0)
    ∧ (printing []).printSlot (wordOffset 0x121EC) = some (0, 236) ∧ slotBytes 1728 = 240
    ∧ { run with smp := { run.smp with held := some ⟨⟨false, 0x12100, 0, 15⟩, .print, 200⟩ } }.smp.held
        = some ⟨⟨false, 0x12100, 0, 15⟩, .print, 200⟩ ∧ (printing []).prn.sheetOpen = false := by decide

/-- The last word of a filled slot that ends a sheet, known as its entry's last, of an entry that is gone, and of one that goes on. -/
theorem test_met_PrintSlots_codes :
    let q (last gone : Bool) : SlotRec := { substitute := none, sheet := some (2, 0, 7), ends := true, entryLast := last, entryGone := gone }
    (printing [q true false]).busReady 0x121EC = true ∧ (printing [q true false]).printSlot (wordOffset 0x121EC) = some (0, 236)
    ∧ (printing [q true false]).prn.read = 0 ∧ 236 + 4 = slotBytes 1728 ∧ (printing [q true false]).rgw.state = .run
    ∧ (printing [q false true]).prn.slots = [q false true] ∧ (printing [q false false]).printingEntry = some (2, entry true)
    ∧ (entry true).sheetNumber ≠ 7 + 1 := by decide

/-- A page line in hand with two sheet lines owed. -/
def rendering : State :=
  let s := printing []
  { s with psm := { s.psm with pages := [(3, page .complete)] },
           prn := { s.prn with sheetOpen := true,
                               rendering := some { page := 3, pos := 0, lineNo := 1, ref := [], damaged := false,
                                                   cur := some { dots := [], owed := 2, last := false, badCheck := none } } } }

/-- A print read held with a sheet in progress and a line still owed. -/
theorem test_met_PrintSlots_substitute : { rendering with smp := (holding .print).smp }.smp.held.map Held.reason = some .print
    ∧ rendering.prn.sheetOpen = true ∧ rendering.printingEntry = some (2, entry true)
    ∧ (rendering.prn.rendering.bind Rendering.cur).map PageLine.owed = some 2
    ∧ (entry true).sheetLine + 1 ≠ PrintProfile.default.height := by decide

/-- A page with nothing of it left in hand while the printer stops. -/
def lastLine : State :=
  let s := rendering
  { s with psm := { s.psm with pages := [(3, { page .complete with printHolds := 2, codedLen := 1 })] },
           prn := { s.prn with state := .stopping, rendering := some { page := 3, pos := 0, lineNo := 1, ref := [], damaged := false, cur := none } } }

theorem test_met_Printing : rendering.mapPassed = true ∧ rendering.printingEntry = some (2, entry true)
    ∧ (entry true).sheetLine + 1 ≠ PrintProfile.default.height ∧ rendering.prn.fill < 85 ∧ 85 * 240 ≤ rendering.cfg.prnSize
    ∧ (printing []).ordered = true ∧ { printing [] with prn := { (printing []).prn with entries := [(2, entry false)] } }.printingEntry = none
    ∧ (work [(0, doc .inbound .complete [some 3])] [] [] []).doc? 0 = some (doc .inbound .complete [some 3])
    ∧ rendering.smp.held = none ∧ rendering.prn.sheetOpen = true := by decide

/-- The last line of a page: the printer stops or the list may still grow, no line is in hand, and the page has two holds. -/
theorem test_met_Printing_last_line : lastLine.prn.state = .stopping ∧ lastLine.printingEntry = some (2, entry true)
    ∧ (entry true).cancelMark = false ∧ lastLine.ordered = true ∧ lastLine.mapPassed = true
    ∧ lastLine.page? 3 = some { page .complete with printHolds := 2, codedLen := 1 }
    ∧ (page .complete).res = .fine ∧ (page .complete).codedLen ≤ 1500 + 1 ∧ lastLine.ceu.evTail < lastLine.cfg.recCount
    ∧ (doc .outbound .opened [some 3]).isFinal = false ∧ (doc .outbound .opened [some 3]).places.length ≤ 0 + 1 := by decide

/-- An entry in hand with no sheet in progress: a freed place before a sealed page, and the end of a copy and of the last one. -/
theorem test_met_Printing_walk :
    let s (places : List (Option Nat)) : State := { printing [] with
      dju := { run.dju with docs := [(0, doc .outbound .closed places)] }, psm := { run.psm with pages := [(3, page .complete)] } }
    (s [none, some 3]).printingEntry = some (2, entry true) ∧ (s [none, some 3]).doc? 0 = some (doc .outbound .closed [none, some 3])
    ∧ (doc .outbound .closed [none, some 3]).places[1]? = some (some 3) ∧ (s [none, some 3]).page? 3 = some (page .complete)
    ∧ (s [none]).prn.sheetOpen = false ∧ (s [none]).prn.rendering = none ∧ (s [none]).prn.active.isSome
    ∧ (s [none]).ordered = true ∧ (s [none]).smp.held = none ∧ (doc .outbound .closed [none]).isFinal = true
    ∧ (entry true).copies ≤ (entry true).copiesDone + 1 ∧ (doc .outbound .closed [none]).dir = .outbound
    ∧ (0 + 1 < { entry true with copies := 2 }.copies ∧ { entry true with position := 1 }.position = 1) := by decide

/-- A cancel mark at the last sheet line of a page, and a read held while the line is written. -/
theorem test_met_Printing_cancel :
    let e : PrintEntry := { entry true with cancelMark := true }
    let l : PageLine := { dots := [], owed := 1, last := true, badCheck := none }
    let g : Rendering := { page := 3, pos := 0, lineNo := 1, ref := [], damaged := false, cur := some l }
    let s : State := { rendering with
      dju := { run.dju with docs := [(0, doc .outbound .closed [some 3])] },
      prn := { rendering.prn with entries := [(2, e)], rendering := some g } }
    s.ordered = true ∧ s.smp.held = none ∧ s.prn.state ≠ .stopped ∧ s.prn.slots.length < s.printSlots ∧ s.prn.sheetOpen = true
    ∧ s.printingEntry = some (2, e) ∧ s.page? 3 = some (page .complete) ∧ s.doc? 0 = some (doc .outbound .closed [some 3])
    ∧ (doc .outbound .closed [some 3]).places[0]? = some (some 3) ∧ e.copiesDone < e.copies ∧ (page .complete).doc = 0
    ∧ { rendering with smp := (holding .print).smp }.smp.held.map Held.reason = some .print ∧ rendering.prn.active.isSome := by
  decide

theorem test_met_TimeBase : run.phase = .up ∧ run.chg.tenths < 10 ∧ { run with chg := { run.chg with tenths := 9 } }.chg.tenths < 10 := by
  decide

/-- A destination that can be called, and an IDLE line. -/
def eligible : State :=
  let s := work [(0, doc .outbound .closed [some 3])] [(3, page .complete)] [(0, job .queued 0)] [(5, dest 0 .pending)]
  { s with dju := { s.dju with passDue := true },
           lne := { s.lne with ceiling := 1, lines := [(1, { LineRec.default with state := .idle })] },
           chg := { s.chg with clockSet := true, accounts := [(1, { Account.empty with state := .opened, limit := none })] } }

theorem test_met_Scheduling : eligible.freeLine = some 1 ∧ eligible.firstEligible.map Candidate.dest = some 5
    ∧ eligible.lne.ceiling ≤ eligible.outboundCount + 1 ∧ run.freeLine = none ∧ run.firstEligible = none
    ∧ eligible.job? 0 = some (job .queued 0) ∧ eligible.doc? 0 = some (doc .outbound .closed [some 3])
    ∧ (eligible.candidate 5 (dest 0 .pending)).isSome = true ∧ eligible.chg.prefixes = [] := by decide

/-! ## Hypotheses met: the link and the sessions -/

/-- Line 1 with the last byte of an announced block to send and these blocks left. -/
def sendingBlock (left : List Nat) : State :=
  let s := onLine { LineRec.default with state := .sending, page := some 3, toSend := left, inFlight := true } run
  { s with sli := { s.sli with txRunning := true, txFrameNo := 14, outBlocks := [(1, { bytes := [7, 8], announced := true, sent := 1 })] } }

theorem test_met_Transmitter : { run with sli := { run.sli with txRunning := true } }.sli.txRunning = true ∧ run.sli.txRunning = false
    ∧ run.sli.queue.length < 32 ∧ run.sli.handings = [] ∧ run.sli.queue = [] ∧ run.sli.outBlocks = []
    ∧ (sendingBlock []).linkUp = true ∧ (sendingBlock []).sli.rxAlarm = false ∧ (sendingBlock []).rgw.state ≠ .pass
    ∧ (sendingBlock []).sli.outBlocks = [(1, { bytes := [7, 8], announced := true, sent := 1 })]
    ∧ (sendingBlock []).sli.shelfHold.getLsbD 1 = false ∧ ((sendingBlock []).line 1).inFlight = true
    ∧ ((sendingBlock [2]).line 1).toSend ≠ [] ∧ ((sendingBlock [2]).line 1).state = .sending
    ∧ (TxKind.clear.msg 1).bytes ≠ [] := by decide

/-- Frame 15 with the last byte of a BLOCK message for line 2 and the last bytes of the blocks of lines 0 and 1. -/
theorem test_met_Transmitter_together :
    let b : OutBlock := { bytes := [7, 8], announced := true, sent := 1 }
    let s := sendingBlock []
    let s : State := { s with sli := { s.sli with
      txFrameNo := 15, queue := [(TxKind.block 0 1 256).msg 2], txPos := 6,
      outBlocks := [(0, b), (1, b), (2, { b with announced := false, sent := 0 })] } }
    s.phase = .up ∧ s.sli.txRunning = true ∧ s.linkUp = true ∧ s.sli.rxAlarm = false ∧ s.sli.txFrameNo = 15
    ∧ (s.sli.queue.head?.map fun m => m.bytes.length) = some (s.sli.txPos + 1)
    ∧ (s.sli.queue.head?.bind fun m => m.blockOf) = some 2 ∧ s.sli.shelfHold.getLsbD 0 = false
    ∧ (s.line 1).state = .sending ∧ (s.line 1).inFlight = true ∧ (s.line 1).toSend = [] ∧ s.rgw.state ≠ .pass := by decide

theorem test_met_Receiver : run.phase = .up ∧ run.sli.frame = .hunt ∧ (0x80 : Byte).getLsbD 7 = true
    ∧ { run with sli := { run.sli with frame := .sync } }.sli.mf = .mfSearch ∧ run.sli.alignRun + 1 < run.sli.lossCount
    ∧ (List.replicate 13 (0 : Byte)).length = 13 := by decide

/-- Odd frames while multiframe synchronisation is sought, and in MF_SYNC the runs at their end, a second missed marker and the
remote alarm. -/
theorem test_met_Receiver_sync :
    let s (mf : MfState) : State := { run with sli := { run.sli with
      frame := .sync, mf := mf, rxOdd := true, serviceCheck := true, alignRun := 3, serviceRun := 3, markMissed := true } }
    (s .mfSearch).phase = .up ∧ (s .mfSearch).sli.mf = .mfSearch ∧ (s .mfSearch).sli.mfEndDue = false
    ∧ (s .mfSearch).sli.lossCount ≤ (s .mfSearch).sli.serviceRun + 1 ∧ (0x80 : Byte).getLsbD 7 = true
    ∧ (s .mfSync).sli.mf = .mfSync ∧ (s .mfSync).sli.lossCount ≤ (s .mfSync).sli.alignRun + 1 ∧ (s .mfSync).sli.rxFrameNo = 0
    ∧ run.sli.alignRun + 1 < run.sli.lossCount ∧ { run.sli with rxFrameNo := 3 }.rxFrameNo ≠ 0
    ∧ (0x40 : Byte).getLsbD 6 = true ∧ (0x40 : Byte).getLsbD 7 = false ∧ run.sli.rxAlarm = false ∧ run.sli.outBlocks = [] := by decide

/-- The wait before SYNC, running and run out, and a frame at the place of a marker with a bad alignment byte below the loss
count, the marker being the first or the second that is missed. -/
theorem test_met_Receiver_entry :
    let waits (k : Nat) : State := { run with sli := { run.sli with frame := .checkAlign, syncIn := some k } }
    let first (missed : Bool) : State := { run with sli := { run.sli with frame := .sync, mf := .mfSync, markMissed := missed } }
    (waits 1).sli.syncIn = some (0 + 1) ∧ (waits 0).sli.frame = .checkAlign ∧ (waits 0).sli.syncIn = some 0
    ∧ 1 < (waits 0).sli.lossCount ∧ (waits 0).rgw.state ≠ .pass ∧ (first true).phase = .up ∧ (first true).sli.mf = .mfSync
    ∧ (first true).sli.mfEndDue = false ∧ (first true).sli.rxOdd = false
    ∧ (first true).sli.alignRun + 1 < (first true).sli.lossCount
    ∧ (first true).sli.rxFrameNo = 0 ∧ (first true).sli.markMissed = true ∧ (first false).sli.markMissed = false
    ∧ (List.replicate 13 (0 : Byte)).getD 12 0 ≠ 0x7E := by decide

/-- The link in MF_SYNC with message assembly in this state and a block open on line 1. -/
def assembling (a : Assembly) (bytes : List Byte) : State :=
  let s := onLine LineRec.default run
  let b : InBlock := { partialPage := 0, block := 0, len := 2, count := 1, overrun := false, failed := false, touched := false, bytes := [9] }
  { s with sli := { s.sli with asm := a, asmLen := 3, asmBytes := bytes, inLines := [(1, { (s.inLine 1) with opened := some b })] } }

theorem test_met_MultiframeCheckAndBlocks : { run with sli := { run.sli with mfEndDue := true } }.sli.mfEndDue = true
    ∧ run.sli.rxCrc = run.sli.rxCrcByte ∧ (onLine LineRec.default run).linkUp = true ∧ (63 : Byte).toNat ≤ 63
    ∧ (256 : BitVec 16).toNat = 256 ∧ pass.rgw.state = .pass ∧ ([3, 0x40, 0xFF] : List Byte)[2]? = some 0xFF
    ∧ ([3, 0x44, 8] : List Byte)[2]? = some 8 := by decide

/-- A frame with a good slot 0, in each state of message assembly, and one with a byte of line 1's open block. -/
theorem test_met_MultiframeCheckAndBlocks_frames : (assembling .gap []).phase = .up ∧ (assembling .gap []).sli.mf = .mfSync
    ∧ (assembling .gap []).sli.mfEndDue = false ∧ (assembling .gap []).sli.rxOdd = false
    ∧ (assembling .skip []).sli.asm = .skip ∧ ([3] ++ [(0x40 : Byte)]).length < (assembling .inMessage [3]).sli.asmLen
    ∧ (assembling .inMessage [3, 0x40]).sli.asmLen ≤ ([3, 0x40] ++ [(0xFF : Byte)]).length
    ∧ (0xE4 :: List.replicate 12 (0 : Byte)).length = 13 ∧ BitVec.twoPow 8 1 = (2 : Byte)
    ∧ ((assembling .gap []).inLine 1).opened.map InBlock.len = some 2 := by decide

/-- A page of document 0 that is received on line 1, and a good block of it, waiting for a check that matches. -/
def judged (stack : List Nat) (b : InBlock) : State :=
  let s := onLine { LineRec.default with state := .receiving, dir := some .inbound, doc := some 0, page := some 3, kept := 2040 }
    (work [(0, doc .inbound .receiving [some 3])] [(3, page .filling)] [] [])
  { s with psm := { s.psm with stack := stack }, sli := { s.sli with mfEndDue := true, items := [.block 1 b] } }

/-- Two things waiting for one check, and a block that is bad, taken, given up for another partial page, or without room. -/
theorem test_met_MultiframeCheckAndBlocks_judgement :
    let b : InBlock := { partialPage := 0, block := 0, len := 2, count := 2, overrun := false, failed := false, touched := false, bytes := [9, 8] }
    let far : InBlock := { b with block := 63 }
    (judged [7] b).sli.mfEndDue = true ∧ (judged [7] b).sli.rxCrc = (judged [7] b).sli.rxCrcByte
    ∧ (judged [7] b).sli.items = [.block (1 : Line).val b] ∧ { b with failed := true }.failed = true
    ∧ ((judged [7] b).line 1).page = some 3 ∧ (judged [7] b).page? 3 = some (page .filling)
    ∧ ((judged [7] b).line 1).state = .receiving ∧ ((judged [7] b).line 1).cut = false
    ∧ segsFor (0 + b.bytes.length) - (page .filling).chain.length = 0 ∧ { b with partialPage := 1 }.partialPage ≠ 0
    ∧ 0 < segsFor (256 * 63 + far.bytes.length) - (page .filling).chain.length
    ∧ (judged [7] far).freeCount < (judged [7] far).psm.scanReserve + 1 ∧ ((judged [7] far).line 1).blockMap = []
    ∧ ((judged [7] far).line 1).kept ≠ 0 ∧ (page .filling).chain.length ≤ segsFor ((judged [7] far).line 1).kept
    ∧ (judged [7] far).doc? 0 = some (doc .inbound .receiving [some 3]) ∧ (doc .inbound .receiving [some 3]).keep = true
    ∧ ((judged [7] far).line 1).storing = none ∧ [RxItem.block 1 b] ≠ [] := by decide +kernel

theorem test_met_CallProgress : (onLine LineRec.default run).hears = true ∧ run.hears = false
    ∧ ((onLine { LineRec.default with state := .dialling } run).line 1).state = .dialling
    ∧ ((onLine { LineRec.default with state := .idle } run).line 1).state = .idle := by decide

/-- A line in a state of an outbound session of destination 5. -/
def session (st : LineState) (r : LineRec) : State :=
  onLine { r with state := st, dir := some .outbound, dest := some 5, doc := some 0 }
    (work [(0, doc .outbound .opened [some 3])] [(3, page .complete)] [(0, job .active 1)] [(5, dest 0 .dialling)])

theorem test_met_SendingPages : (session .dialling LineRec.default).dest? 5 = some (dest 0 .dialling)
    ∧ (session .dialling LineRec.default).doc? 0 = some (doc .outbound .opened [some 3])
    ∧ (doc .outbound .opened [some 3]).places[0]? = some (some 3) ∧ (page .complete).codedLen ≤ 4194304
    ∧ ((session .dialling LineRec.default).line 1).lastParams = none
    ∧ ((session .sending { LineRec.default with page := some 3, toSend := [5] }).line 1).toSend = [5]
    ∧ Tab.get? run.sli.outBlocks 1 = none := by decide

/-- A page longer than 256 partial pages, met by ANSWERED and by PAGE_CONFIRMED. -/
theorem test_met_SendingPages_long : 4194304 < { page .complete with codedLen := 4194305 }.codedLen
    ∧ (session .dialling LineRec.default).hears = true ∧ ((session .dialling LineRec.default).line 1).state = .dialling
    ∧ ((session .dialling LineRec.default).line 1).dest = some 5 ∧ ((session .dialling LineRec.default).line 1).doc = some 0
    ∧ (doc .outbound .opened [some 3, some 4]).places[0 + 1]? = some (some 4) ∧ (page .complete).state ≠ .filling := by decide

theorem test_met_ShelfReplies : ((session .partialWait { LineRec.default with rounds := 4 }).line 1).rounds = 4
    ∧ ((session .partialWait { LineRec.default with lastEnd := some .more, page := some 3 }).line 1).lastEnd = some .more
    ∧ ((List.range 2).filter fun b => (2 : BitVec 64).getLsbD b) = [1]
    ∧ ((List.range 2).filter fun b => (4 : BitVec 64).getLsbD b) = []
    ∧ (session .pageWait LineRec.default).job? 0 = some (job .active 1) ∧ (doc .outbound .opened [some 3]).keep = true
    ∧ (page .complete).doc = 0 ∧ 1 ≤ (page .complete).sendHolds := by decide

/-- PAGE_CONFIRMED with no place behind the page, in a list that grows and in a final one, and with a page sealed behind it. -/
theorem test_met_ShelfReplies_next_page : (session .pageWait LineRec.default).hears = true
    ∧ ((session .pageWait LineRec.default).line 1).dest = some 5 ∧ (job .active 1).doc = 0
    ∧ (doc .outbound .opened [some 3]).places[1]? = none ∧ (doc .outbound .opened [some 3]).state = .opened
    ∧ (doc .outbound .closed [some 3]).state ≠ .opened ∧ (doc .outbound .closed [some 3]).state ≠ .receiving
    ∧ (doc .outbound .opened [some 3, some 4]).places[1]? = some (some 4)
    ∧ (work [] [(3, page .complete), (4, page .complete)] [] []).page? 4 = some (page .complete)
    ∧ (page .complete).codedLen ≤ 4194304 ∧ (page .filling).state = .filling := by decide

/-- An IDLE line and a store that answers calls. -/
def ringing (use : LineUse) (stack : Nat) : State :=
  let s := onLine { LineRec.default with state := .idle } run
  { s with lne := { s.lne with plan := [(1, ⟨use, []⟩)] }, psm := { s.psm with stack := List.range stack } }

/-- Line 1 in a state of an outbound call to destination 5, with its call record. -/
def inCall (st : LineState) (cause : Cause) (answered : Bool) (d : DestState) : State :=
  let s := session st { LineRec.default with job := some 0, cause := some cause }
  let c : CallRec := { account := 1, job := 0, destIndex := 0, dial := [0x34], zone := 31, reservation := 5, answered := answered,
                       band := 0, rate := Rate.empty, answerTime := 0, connected := 10 }
  { s with dju := { s.dju with jobs := [(0, job .active 2)], dests := [(5, dest 0 d)] }, chg := { s.chg with calls := [(1, c)] } }

theorem test_met_RingDecision : ((ringing .inOnly 256).plan 1).use = .inOnly ∧ ((ringing .disabled 256).plan 1).use = .disabled
    ∧ (ringing .both 255).freeCount < (ringing .both 255).psm.lowWater ∧ (ringing .both 256).psm.lowWater ≤ (ringing .both 256).freeCount
    ∧ 8 ≤ (ringing .both 256).emptyPages ∧ (ringing .both 256).freeDoc = some 0 ∧ ((ringing .both 256).routeOf []).copies = 0
    ∧ (ringing .both 256).hears = true := by decide +kernel

/-- A RING on a RECEIVING line, and one whose called digits a route has. -/
theorem test_met_RingDecision_receiving :
    let s := onLine { LineRec.default with state := .receiving, dir := some .inbound } run
    let routed : State := { ringing .both 256 with rxr := { run.rxr with routes := [route1] } }
    s.hears = true ∧ (s.line 1).state = .receiving ∧ routed.hears = true ∧ routed.rxr.routes[0]? = some route1
    ∧ route1.digits.take route1.digitCount = [0x31] ∧ ([0x31] : List Byte).all isDigit = true
    ∧ (∀ q ∈ routed.rxr.routes, q.isFor [0x32] = false) := by decide +kernel

/-- A RING on a SEIZING line with its destination, job and call record. -/
theorem test_met_RingDecision_seizing : (inCall .seizing .normal false .dialling).hears = true
    ∧ ((inCall .seizing .normal false .dialling).line 1).storing = none
    ∧ ((inCall .seizing .normal false .dialling).line 1).job = some 0
    ∧ (inCall .seizing .normal false .dialling).dest? 5 = some (dest 0 .dialling) ∧ (dest 0 .dialling).cancelMark = false
    ∧ (Tab.get? (inCall .seizing .normal false .dialling).chg.calls 1).map CallRec.answered = some false := by decide

theorem test_met_CallEnds : (inCall .clearing .busy false .dialling).hears = true
    ∧ ((inCall .clearing .busy false .dialling).line 1).cause = some .busy
    ∧ ((inCall .clearing .busy false .dialling).line 1).state = .clearing
    ∧ (inCall .clearing .busy false .dialling).dest? 5 = some (dest 0 .dialling)
    ∧ (inCall .clearing .busy false .dialling).job? 0 = some (job .active 2) ∧ 1 < (job .active 2).sessions
    ∧ 0 + 1 < run.dju.maxAttempts ∧ { run.dju with maxAttempts := 1 }.maxAttempts ≤ 0 + 1
    ∧ (inCall .clearing .busy false .dialling).doc? 0 = some (doc .outbound .opened [some 3])
    ∧ (([some 3] : List (Option Nat)).filterMap id).Nodup ∧ (page .complete).doc = 0
    ∧ (Tab.get? (inCall .clearing .normal true .sent).chg.calls 1).map CallRec.answered = some true
    ∧ (inCall .clearing .normal true .sent).dest? 5 = some (dest 0 .sent)
    ∧ (inCall .clearing .normal true .sent).mapPassed = true
    ∧ (inCall .clearing .normal true .sent).ceu.evTail < (inCall .clearing .normal true .sent).cfg.recCount := by decide

/-- The call of a job's last session, and an answered call to a destination that is not SENT. -/
theorem test_met_CallEnds_last :
    let last (st : DestState) (answered : Bool) : State :=
      let s := inCall .clearing .busy answered st
      { s with dju := { s.dju with jobs := [(0, job .active 1)] } }
    (last .dialling false).hears = true ∧ (last .dialling false).ordered = true
    ∧ (last .dialling false).job? 0 = some (job .active 1) ∧ (job .active 1).sessions ≤ 1 ∧ (last .dialling false).dju.dests = [(5, dest 0 .dialling)]
    ∧ { (last .dialling false).dju with maxAttempts := 1 }.maxAttempts ≤ (dest 0 .dialling).attempts + 1
    ∧ (last .sent true).dest? 5 = some (dest 0 .sent) ∧ (job .active 1).autoDelete = false
    ∧ (inCall .clearing .busy true .sending).dest? 5 = some (dest 0 .sending) ∧ (dest 0 .sending).state ≠ .sent
    ∧ (Tab.get? (inCall .clearing .busy true .sending).chg.calls 1).map CallRec.answered = some true
    ∧ (inCall .clearing .busy true .sending).scn.doc ≠ some (job .active 2).doc := by decide

/-- The other ends of an outbound session: by the shelf on a line that sends, by the clearing timer, and by the grace. -/
theorem test_met_CallEnds_ends :
    let timed (s : State) : State := { s with lne := { s.lne with lines := s.lne.lines.map fun e => (e.1, { e.2 with timer := some .clearing }) } }
    let graced : State := { inCall .sending .normal true .sending with lne := { (inCall .sending .normal true .sending).lne with grace := some 0 } }
    EndsSession (inCall .sending .normal true .sending) 1 (.remoteClear 1 5) .remoteClear .idle
    ∧ EndsSession (inCall .dataWait .normal true .sending) 1 (.lineNotReady 1) .lineDisabled .unavailable
    ∧ EndsSession (inCall .clearing .busy false .dialling) 1 (.lineNotReady 1) .busy .unavailable
    ∧ EndsSession (inCall .clearing .busy false .dialling) 1 (.cleared 1) .busy .idle
    ∧ EndsSession (timed (inCall .clearing .busy false .dialling)) 1 (.clearingTimerExpiry 1) .busy .idle
    ∧ graced.lne.grace = some 0 ∧ (graced.line 1).state.inSession = true
    ∧ (∀ m : Line, m.val < (1 : Line).val → (graced.line m).state.inSession = false) := by
  refine ⟨.inl ⟨?_, ?_, ⟨5, rfl⟩, ?_, ?_⟩, .inr (.inl ?_), .inr (.inl ?_), .inr (.inr (.inl ?_)), .inr (.inr (.inr ?_)), ?_, ?_, ?_⟩ <;>
    decide +kernel

/-- A line that receives page 3 of document 0. -/
def receiving (r : LineRec) : State :=
  onLine { r with state := .receiving, dir := some .inbound, doc := some 0, page := some 3 }
    (work [(0, doc .inbound .receiving [some 3])] [(3, page .filling)] [] [])

/-- A line's blocks: block 0 whole, block 1 of 100 bytes. -/
def blocks : LineRec := { LineRec.default with blockMap := [(0, 256), (1, 100)] }

theorem test_met_ReceivingPages : widthClassOf (2 : Byte).toNat = some .c ∧ resolutionOf (1 : Byte).toNat = some .fine
    ∧ (onLine { LineRec.default with state := .answering, doc := some 0 } (work [(0, doc .inbound .receiving [])] [] [] [])).page? 0 = none
    ∧ (doc .inbound .receiving []).places.length < 128 ∧ ((receiving LineRec.default).line 1).storing = none
    ∧ (receiving LineRec.default).page? 3 = some (page .filling) ∧ (page .filling).chain.Nodup
    ∧ 16384 * 0 + 256 * 1 + 256 ≤ 1020 * (page .filling).chain.length
    ∧ ((receiving { LineRec.default with rounds := 3 }).line 1).rounds < 4 := by decide

/-- A full document, and a page in hand with block 0 whole and block 1 of 100 bytes: sealed by the next RX_PAGE_BEGIN, ended by
RX_PARTIAL_END with two blocks, cut in its fifth round, and cut already. -/
theorem test_met_ReceivingPages_ends : 128 ≤ (doc .inbound .receiving (List.replicate 128 none)).places.length
    ∧ (receiving blocks).hears = true ∧ ((receiving blocks).line 1).page = some 3 ∧ (doc .inbound .receiving [some 3]).keep = true
    ∧ (page .filling).doc = 0 ∧ Tab.get? ((receiving blocks).line 1).blockMap 0 = some 256
    ∧ (Tab.get? ((receiving blocks).line 1).blockMap 1).getD 0 = 100
    ∧ (∀ m, ((receiving blocks).line m).state = .dataWait → ((receiving blocks).line m).doc ≠ some 0)
    ∧ ((receiving blocks).line 1).cut = false ∧ ((receiving { blocks with cut := true }).line 1).cut = true
    ∧ 4 ≤ ((receiving { blocks with rounds := 4 }).line 1).rounds
    ∧ ((receiving { blocks with storing := none }).line 1).checking = none := by decide +kernel

/-- A page end of a page cut already, with bytes kept and with none, and in the fifth round of a page that lacks block 0. -/
theorem test_met_ReceivingPages_cut :
    let kept := receiving { blocks with cut := true, kept := 1500 }
    let none' := receiving { blocks with cut := true, kept := 0 }
    let late := receiving { LineRec.default with rounds := 4 }
    kept.hears = true ∧ (kept.line 1).state = .receiving ∧ (kept.line 1).page = some 3 ∧ (kept.line 1).storing = none
    ∧ kept.page? 3 = some (page .filling) ∧ kept.doc? 0 = some (doc .inbound .receiving [some 3])
    ∧ (doc .inbound .receiving [some 3]).keep = true ∧ (∀ m, (kept.line m).state ≠ .dataWait) ∧ (kept.line 1).cut = true
    ∧ (kept.line 1).kept ≠ 0 ∧ (none'.line 1).kept = 0 ∧ (none'.line 1).cut = true ∧ (late.line 1).cut = false
    ∧ 4 ≤ (late.line 1).rounds ∧ Tab.get? (late.line 1).blockMap 0 = none ∧ (late.line 1).partialPage = 0 := by decide +kernel

/-- A block on its way to the store while a check waits for it: the checks find a block missing, every block, a missing one in
the fifth round, and a page cut already. -/
theorem test_met_ReceivingPages_waiting :
    let b : StoringBlock := { partialPage := 0, block := 1, bytes := [7, 7] }
    let s (r : LineRec) (k : EndKind) (c : Nat) : State := receiving { r with storing := some b, checking := some (c, k) }
    let bad (m : Tab Nat) (c i : Nat) : Bool := match Tab.get? m i with | none => true | some l => decide (i + 1 < c ∧ l < 256)
    let found (r : LineRec) (c : Nat) : List Nat := (List.range c).filter (bad (Tab.set r.blockMap 1 2) c)
    ((s blocks .more 3).line 1).storing = some b ∧ ((s blocks .more 3).line 1).checking = some (3, .more)
    ∧ (s blocks .more 3).page? 3 = some (page .filling) ∧ (page .filling).chain.Nodup
    ∧ 16384 * b.partialPage + 256 * b.block + b.bytes.length ≤ 1020 * (page .filling).chain.length
    ∧ found blocks 3 = [1, 2] ∧ blocks.rounds < 4 ∧ blocks.cut = false ∧ found blocks 2 = []
    ∧ 4 ≤ { blocks with rounds := 4 }.rounds ∧ { blocks with cut := true, kept := 300 }.cut = true
    ∧ (doc .inbound .receiving [some 3]).keep = true
    ∧ (∀ m, ((s blocks .pageEnd 2).line m).state ≠ .dataWait) := by decide +kernel

/-- Block 0 whole and 100 bytes of block 1, no block, every block of a partial page, and a page cut already. -/
theorem keepsEarly_blocks : blocks.KeepsEarly 356 ∧ { LineRec.default with kept := 1500 }.KeepsEarly 1500
    ∧ { LineRec.default with partialPage := 1, blockMap := (List.range 64).map fun b => (b, 256) }.KeepsEarly 32768
    ∧ { blocks with cut := true, kept := 300 }.KeepsEarly 300 :=
  ⟨⟨1, 100, by decide⟩, ⟨0, 0, by decide⟩, ⟨64, 0, by decide⟩, ⟨1, 100, by decide⟩⟩

theorem test_met_ReceivingPages_early : (receiving blocks).hears = true ∧ ((receiving blocks).line 1).state = .receiving
    ∧ ((receiving blocks).line 1).page = some 3 ∧ (receiving blocks).page? 3 = some (page .filling)
    ∧ ((receiving blocks).line 1).storing = none
    ∧ (receiving blocks).doc? (page .filling).doc = some (doc .inbound .receiving [some 3])
    ∧ (doc .inbound .receiving [some 3]).keep = true ∧ (∀ m, ((receiving blocks).line m).state ≠ .dataWait)
    ∧ ((receiving blocks).line 1).KeepsEarly 356 :=
  ⟨by decide, by decide, by decide, by decide, by decide, by decide, by decide, by decide, keepsEarly_blocks.1⟩

/-- The stack is empty, so block 63 of a page with blocks 0 and 1 present finds no segment. -/
theorem test_met_MultiframeCheckAndBlocks_early :
    let b : InBlock := { partialPage := 0, block := 63, len := 2, count := 2, overrun := false, failed := false, touched := false, bytes := [9, 8] }
    let s : State := { receiving blocks with
      psm := { (receiving blocks).psm with stack := [] }, sli := { run.sli with mfEndDue := true, items := [.block 1 b] } }
    s.sli.mfEndDue = true ∧ s.sli.rxCrc = s.sli.rxCrcByte ∧ s.page? 3 = some (page .filling)
    ∧ 0 < segsFor (256 * 63 + b.bytes.length) - (page .filling).chain.length
    ∧ s.freeCount < s.psm.scanReserve + (segsFor (256 * 63 + b.bytes.length) - (page .filling).chain.length)
    ∧ (s.line 1).state = .receiving ∧ (s.line 1).cut = false ∧ (s.line 1).storing = none ∧ b.partialPage = (s.line 1).partialPage
    ∧ segsFor 356 < (page .filling).chain.length ∧ (s.line 1).KeepsEarly 356 :=
  ⟨by decide, by decide, by decide, by decide, by decide, by decide, by decide, by decide, by decide, by decide,
    keepsEarly_blocks.1⟩

theorem test_met_SessionEndsAndTimers_early :
    let s := receiving blocks
    (s.line 1).dir = some .inbound ∧ (s.line 1).doc = some 0 ∧ s.doc? 0 = some (doc .inbound .receiving [some 3])
    ∧ (page .filling).doc = 0 ∧ (s.line 1).KeepsEarly 356 :=
  ⟨by decide, by decide, by decide, rfl, keepsEarly_blocks.1⟩

theorem test_met_SessionEndsAndTimers : (receiving LineRec.default).hears = true ∧ LineState.receiving.inSession = true
    ∧ LineState.idle.inSession = false
    ∧ ((onLine { LineRec.default with state := .clearing, timer := some .clearing } run).line 1).timer.isSome
    ∧ run.lne.grace = none ∧ { run with lne := { run.lne with grace := some 0 } }.lne.grace = some 0
    ∧ (∀ m, (run.line m).state.inSession = false) := by decide

/-- An inbound session in CLEARING, after its last page and with a page open, and sessions at the end of the grace. -/
theorem test_met_SessionEndsAndTimers_inbound :
    let clearing (r : LineRec) : State := onLine { r with state := .clearing, dir := some .inbound, doc := some 0, cause := some .normal }
      (work [(0, doc .inbound .receiving [some 3])] [(3, page .filling)] [] [])
    let whole := clearing { LineRec.default with kept := 1500 }
    let cut := clearing { LineRec.default with kept := 1500, page := some 3 }
    let graced : State := { whole with lne := { whole.lne with grace := some 0 } }
    (whole.hears = true ∧ (whole.line 1).dir = some .inbound ∧ (whole.line 1).storing = none ∧ (whole.line 1).doc = some 0
      ∧ whole.doc? 0 = some (doc .inbound .receiving [some 3]) ∧ (whole.line 1).cause = some .normal ∧ (whole.line 1).kept ≠ 0
      ∧ (whole.line 1).page = none ∧ (doc .inbound .receiving [some 3]).autoDelete = false)
    ∧ (cut.line 1).page = some 3 ∧ cut.page? 3 = some (page .filling) ∧ (cut.line 1).blockMap = []
    ∧ (page .filling).chain.length ≤ segsFor (cut.line 1).kept ∧ (∀ m, (cut.line m).state ≠ .dataWait)
    ∧ graced.lne.grace = some 0 ∧ (∀ m, (graced.line m).state ≠ .dataWait) ∧ (graced.line 1).state.inSession = true
    ∧ { doc .inbound .receiving [] with autoDelete := true, printed := true }.printed = true := by decide +kernel

/-! ## One step each -/

/-- The state after one command. -/
def after (c : Instr) (s : State) : State :=
  match exec c s with
  | .next t => t
  | _ => s

/-- OPEN_DOCUMENT gives record 0 and its COMMAND_DONE carries source document 0, the slot's tag and result DONE (R31, R83). -/
theorem test_open_document : ((after .openDocument (slot 0x20 0 [] run)).doc? 0).isSome
    ∧ Mem.bytes (after .openDocument (slot 0x20 0 [] run)).dram 0x4C0 16 = [4, 4, 0, 0, 7, 0, 0, 0, 0, 0, 0, 0, 0, 0, 0, 0] := by
  decide +kernel

/-- A stray write to the command ring's head word is dropped and reported with its offset (R12). -/
theorem test_dropped_write : Mem.word (after (.partOwnedWrite 0x44 0xFFFFFFFF 15) run).dram 0x44 = 0
    ∧ Mem.bytes (after (.partOwnedWrite 0x44 0xFFFFFFFF 15) run).dram 0x4C0 16
        = [3, 9, 0, 0, 0, 0, 0, 0, 0, 0, 0, 0, 0x44, 0, 0, 0] := by decide +kernel

/-- A write of two bytes of a word (R1). -/
theorem test_byte_enables : Mem.word (after (.busWrite 0x1000 0xAABBCCDD 6) pass).dram 0x1000 = 0x00BBCC00 := by
  decide +kernel

/-- The tenth that ends a second (R175). -/
theorem test_second : (after .timeBaseSecond { run with chg := { run.chg with tenths := 9 } }).chg.seconds = 1
    ∧ (after .timeBaseSecond { run with chg := { run.chg with tenths := 9 } }).chg.tenths = 0 := by decide +kernel

/-- A RING on a DISABLED line: REFUSE is handed and RING_REFUSED carries code 1 (R138, R151). -/
theorem test_ring_refused : (after (.ring 1 [0x31] []) (ringing .disabled 256)).sli.queue.map TxMsg.bytes = [[3, 7, 1]]
    ∧ Mem.bytes (after (.ring 1 [0x31] []) (ringing .disabled 256)).dram 0x4C0 8 = [0x40, 1, 1, 0, 0, 0, 1, 0] := by
  decide +kernel

/-- A block that completes while the one before it is being stored is overrun; BLOCK_STORED releases the buffer, so the next
RX_BLOCK opens a block without an overrun mark (R120). -/
theorem test_release_with_block_waiting :
    let s := receiving { blocks with storing := some { partialPage := 0, block := 1, bytes := [7, 7] } }
    let s : State := { s with sli := { s.sli with inLines := [(1, { InLine.none with complete := true, occupied := true })] } }
    (((after (.rxBlock 1 0 2 2) s).inLine 1).opened.map InBlock.overrun) = some true
    ∧ (((after (.rxBlock 1 0 2 2) (after (.blockStored 1) s)).inLine 1).opened.map InBlock.overrun) = some false := by
  decide +kernel

/-- A lapping write is held, and its expiry lets it through with an overrun mark (R16, R42). -/
theorem test_lapping : (after (.lappingWrite 0x900 5 15) (waiting 1)).smp.held.isSome
    ∧ (after .scanHoldExpiry (after (.lappingWrite 0x900 5 15) (waiting 1))).scn.overruns = [0] := by decide +kernel

/-- A removal moves the last route's bytes as they stand, one that no field holds among them, and leaves zeros (R147). -/
theorem test_route_moves :
    let s := route 1 8 [route1, { route1 with digits := [0x32] }]
    let t := after .loadRouteRemove { s with dram := Mem.write s.dram 0x12B020 ([1, 0x32] ++ zeros 29 ++ [0x55]) }
    t.rxr.routes = [{ route1 with digits := [0x32] }] ∧ Mem.bytes t.dram 0x12B000 2 = [1, 0x32] ∧ Mem.get t.dram 0x12B01F = 0x55
    ∧ Mem.bytes t.dram 0x12B020 32 = zeros 32 := by decide +kernel

end Sys2Proof.Tests
end

section
/-! PROOFS. The memory path: a bus access that goes ahead, the path status record as it reads back, and a write to part-owned
memory (R1, R12, 11.6). -/

namespace Sys2Proof.Machine

/-! ## Bytes read back from inside a write -/

/-- A stretch of DRAM, cut in two. -/
theorem Mem.bytes_add (m : Mem) (a n k : Nat) : Mem.bytes m a (n + k) = Mem.bytes m a n ++ Mem.bytes m (a + n) k := by
  induction n generalizing a with
  | zero => simp [Mem.bytes]
  | succ n ih => rw [Nat.succ_add, Mem.bytes, ih, Mem.bytes, List.cons_append, Nat.add_right_comm, Nat.add_assoc a n 1]

/-- A field of a record that is written: what stands between the bytes before it and the bytes after it. -/
theorem Mem.bytes_write_field (m : Mem) (b : Nat) (pre field post : List Byte) :
    Mem.bytes (Mem.write m b (pre ++ (field ++ post))) (b + pre.length) field.length = field := by
  have whole := Mem.bytes_write_self m b (pre ++ (field ++ post))
  rw [List.length_append, List.length_append, Mem.bytes_add, Mem.bytes_add] at whole
  obtain ⟨-, rest⟩ := List.append_inj whole (by simp)
  exact (List.append_inj rest (by simp)).1

/-! ## The path status record (Table 11-6) -/

@[simp] theorem pathStatusBytes_length (s : State) : s.pathStatusBytes.length = 12 := rfl

/-- The dropped-write count as the record holds it. -/
theorem writePathStatus_droppedCount (s : State) :
    Mem.num (writePathStatus s).dram (s.por 0) 2 = s.rgw.droppedCount % 65536 := by
  have h := Mem.bytes_write_field s.dram (s.por 0) [] (le 2 s.rgw.droppedCount) (s.pathStatusBytes.drop 2)
  exact (congrArg leNat h).trans (leNat_le 2 _)

/-- The window size as the record holds it. -/
theorem writePathStatus_windowMiB (s : State) : Mem.bytes (writePathStatus s).dram (s.por 2) 1 = u8 s.windowMiB :=
  Mem.bytes_write_field s.dram (s.por 0) (s.pathStatusBytes.take 2) (u8 s.windowMiB) (s.pathStatusBytes.drop 3)

/-- The offset of the last dropped write as the record holds it. -/
theorem writePathStatus_lastDropped (s : State) :
    Mem.num (writePathStatus s).dram (s.por 4) 4 = orAbsent 0xFFFFFFFF s.rgw.lastDropped % 4294967296 := by
  have h := Mem.bytes_write_field s.dram (s.por 0) (s.pathStatusBytes.take 4)
    (le 4 (orAbsent 0xFFFFFFFF s.rgw.lastDropped)) (s.pathStatusBytes.drop 8)
  exact (congrArg leNat h).trans (leNat_le 4 _)

/-- The free segments and the empty page records as the record holds them. -/
theorem writePathStatus_freeCounts (s : State) :
    Mem.bytes (writePathStatus s).dram (s.por 8) 4 = le 2 s.freeCount ++ le 2 s.emptyPages :=
  Mem.bytes_write_field s.dram (s.por 0) (s.pathStatusBytes.take 8) (le 2 s.freeCount ++ le 2 s.emptyPages) []

/-- The record's twelve bytes are all that its writing changes in DRAM. -/
theorem unchangedOutside_writePathStatus (s : State) :
    unchangedOutside [(s.por 0, 12)] s.dram (writePathStatus s).dram :=
  unchangedOutside_write s.dram (s.por 0) s.pathStatusBytes

/-! ## Accesses that go ahead (R1, R2) -/

/-- A bus address takes 26 bits (Table 3-1), so its word fits a 32-bit field. -/
theorem wordOffset_lt (off : BusAddr) : wordOffset off < 4294967296 := by
  have := off.isLt
  unfold wordOffset
  omega

theorem State.busReady_iff (s : State) (off : BusAddr) :
    s.busReady off = true ↔ s.phase = .up ∧ s.smp.held = none ∧ wordOffset off < s.windowBytes := by
  simp [State.busReady, and_assoc]

/-- With the part up and no access held, an access goes ahead at once. -/
theorem smpAccess_of_up {s : State} (hup : s.phase = .up) (hheld : s.smp.held = none) (a : BusAccess) :
    smpAccess a s = goAhead a s := by
  simp [smpAccess, hup, hheld]

/-- A write that goes ahead inside the window reaches the RGW. -/
theorem smpWrite_of_ready {s : State} {off : BusAddr} {be : ByteEnables} (h : s.busReady off = true) (hbe : be ≠ 0)
    (data : Word) : smpWrite off data be s = windowWrite ⟨true, wordOffset off, data, be⟩ s := by
  obtain ⟨hup, hheld, hin⟩ := (State.busReady_iff s off).1 h
  rw [smpWrite, smpAccess_of_up hup hheld, goAhead, if_pos rfl, writeAhead, if_neg hbe, if_neg (Nat.not_le.2 hin)]

/-- A read of a word in no print slot finishes with DRAM's word, and the RGW reports nothing of it. -/
theorem finishRead_of_noPrintSlot {s : State} {off : Nat} (hheld : s.smp.held = none) (h : s.printSlot off = none) :
    finishRead off s = { s with smp := { s.smp with busData := Mem.word s.dram off } } := by
  have word : s.readWord off = Mem.word s.dram off := by simp [State.readWord, h]
  have unwatched (p : Smp) : readWatch off { s with smp := p } = { s with smp := p } := by
    have : State.printSlot { s with smp := p } off = none := h
    simp [readWatch, this]
  simp only [finishRead, word, unwatched, hheld]

/-- A bus read of a word of the window that lies in no print slot puts DRAM's word on the bus, and no more (R1). -/
theorem smpRead_of_noPrintSlot {s : State} {off : BusAddr} {be : ByteEnables} (h : s.busReady off = true) (hbe : be ≠ 0)
    (hslot : s.printSlot (wordOffset off) = none) :
    smpRead off be s = { s with smp := { s.smp with busData := Mem.word s.dram (wordOffset off) } } := by
  obtain ⟨hup, hheld, hin⟩ := (State.busReady_iff s off).1 h
  have notEarly : s.isEarly (wordOffset off) = false := by simp [State.isEarly, hslot]
  have ahead : smpRead off be s = finishRead (wordOffset off) s := by
    rw [smpRead, smpAccess_of_up hup hheld, goAhead, if_neg Bool.false_ne_true, readAhead, if_neg hbe,
      if_neg (Nat.not_le.2 hin), notEarly, if_neg Bool.false_ne_true]
  rw [ahead, finishRead_of_noPrintSlot hheld hslot]

/-! ## Dropped writes (R12) -/

/-- The RGW's state once a write to `off` has been dropped, before its event: the count, saturated, and the offset. -/
def noteDrop (off : Nat) (s : State) : State :=
  { s with rgw := { s.rgw with droppedCount := min (s.rgw.droppedCount + 1) 65535, lastDropped := some off } }

/-- A dropped write is noted and written to the path status record; the first one posts PROTECTED_WRITE. -/
theorem dropWrite_eq (off : Nat) (s : State) :
    dropWrite off s = if s.rgw.droppedCount = 0 then post .protectedWrite .path 0 0 off (writePathStatus (noteDrop off s))
      else writePathStatus (noteDrop off s) := rfl

/-- In RUN and WITHDRAWING a write to a part-owned word other than the commit word is dropped, and does no more. -/
theorem windowWrite_of_partOwned {s : State} {a : BusAccess} (hpass : s.rgw.state ≠ .pass) (hcommit : a.off ≠ 0x3C)
    (hown : s.partOwned a.off = true) : windowWrite a s = dropWrite a.off s := by
  rw [windowWrite, if_neg hpass, regionWrite, if_neg hcommit, if_pos hown]

/-- The path status record after a dropped write: the saturated count fits its two bytes and the offset its four. -/
theorem writePathStatus_noteDrop (off : BusAddr) (s : State) :
    Mem.num (writePathStatus (noteDrop (wordOffset off) s)).dram (s.por 0) 2 = min (s.rgw.droppedCount + 1) 65535
      ∧ Mem.num (writePathStatus (noteDrop (wordOffset off) s)).dram (s.por 4) 4 = wordOffset off := by
  refine ⟨(writePathStatus_droppedCount _).trans ?_, (writePathStatus_lastDropped _).trans ?_⟩
  · exact Nat.mod_eq_of_lt (by simp only [noteDrop]; omega)
  · exact Nat.mod_eq_of_lt (wordOffset_lt off)

/-- Settles O11: a ready write to part-owned memory is a dropped write, whose record reads back field by field, and a read of
a word in no print slot takes no notice of who owns it. -/
theorem partOwnedWriteDropped : Obligations.PartOwnedWriteDropped := by
  intro off data be s hready hpass hcommit hown hbe
  have dropped : smpWrite off data be s = dropWrite (wordOffset off) s :=
    (smpWrite_of_ready hready hbe data).trans (windowWrite_of_partOwned hpass hcommit hown)
  obtain ⟨count, offset⟩ := writePathStatus_noteDrop off s
  refine ⟨⟨writePathStatus (noteDrop (wordOffset off) s), ?_, rfl, count, offset, writePathStatus_windowMiB _,
    writePathStatus_freeCounts _, unchangedOutside_writePathStatus (noteDrop (wordOffset off) s)⟩, fun hslot => ⟨?_, ?_⟩⟩
  · rw [exec_partOwnedWrite, dropped, dropWrite_eq]
  · rw [exec_earlyRead, smpRead_of_noPrintSlot hready hbe hslot, Mem.word]
  · rw [exec_printSlotLastWordRead, exec_earlyRead]

end Sys2Proof.Machine
end

section
/-! PROOFS. SET_SCAN_PROFILE: a command that its row may take, the clamped parameters of a partial list, and a profile's fields
and refusals (R25 to R28, R43, R44). -/

namespace Sys2Proof.Machine

/-! ## A row that takes its slot (R24, R25, R29) -/

theorem State.readyFor_iff (s : State) (kind need : Nat) :
    s.readyFor kind need = true
      ↔ s.canTake = true ∧ s.headSlot.kind = kind ∧ need ≤ s.headSlot.count ∧ s.headSlot.count ≤ 14 := by
  simp [State.readyFor, and_assoc]

/-- A slot that is ready with `need` parameters or more: the row's own work answers it. -/
theorem take_of_readyFor {kind need supplied : Nat} {s : State} (h : s.readyFor kind supplied = true) (hneed : need ≤ supplied)
    (body : Slot → State → State × Reply) :
    take kind need body s = s.answered (body s.headSlot s.carry).2 (body s.headSlot s.carry).1 := by
  obtain ⟨htake, hkind, hsupplied, hmost⟩ := (s.readyFor_iff kind supplied).1 h
  have hcond : (s.canTake && s.headSlot.kind == kind && true) = true := by simp [htake, hkind]
  have hbody : checkedBody need s.headSlot body = body s.headSlot := by
    funext s'
    rw [checkedBody, if_neg (Nat.not_lt.2 hmost), if_neg (Nat.not_lt.2 (hneed.trans hsupplied))]
  rw [take, takeIf, if_pos hcond, hbody]
  rfl

/-! ## Clamping (R28) -/

@[simp] theorem clampNat_zero (hi v : Nat) : clampNat 0 hi v = min hi v := Nat.zero_max _

theorem eq_clampNat_iff {lo hi : Nat} (h : lo ≤ hi) (v : Nat) : v = clampNat lo hi v ↔ lo ≤ v ∧ v ≤ hi := by
  unfold clampNat
  omega

theorem clampInt_eq_iff {lo hi : Int} (h : lo ≤ hi) (v : Int) : clampInt lo hi v = v ↔ lo ≤ v ∧ v ≤ hi := by
  unfold clampInt
  omega

/-- Parameter `k` is supplied and its value `v` lies outside `lo` to `hi`, so clamping changes it. -/
def Slot.clamps (sl : Slot) (k lo hi v : Nat) : Bool := sl.has k && (decide (v < lo) || decide (hi < v))

/-- Clamping changes a half of word `k`, the low one kept in `lo` to `hi` and the high one in `lo'` to `hi'`. -/
def Slot.clampsHalves (sl : Slot) (k lo hi lo' hi' : Nat) : Bool :=
  sl.clamps k lo hi (sl.field k 0 16) || sl.clamps k lo' hi' (sl.field k 16 16)

/-- The candidate at the front of the list is the first clamped one when it is supplied and changed. -/
theorem firstClamped_supplied_cons (sl : Slot) (k v w : Nat) (l : List (Nat × Nat × Nat)) :
    firstClamped (sl.supplied ((k, v, w) :: l))
      = if sl.has k = true ∧ v ≠ w then some k else firstClamped (sl.supplied l) := by
  by_cases hk : sl.has k = true <;> by_cases hv : v = w <;> simp [Slot.supplied, firstClamped, hk, hv]

theorem firstClamped_supplied_clampNat (sl : Slot) (k : Nat) {lo hi : Nat} (h : lo ≤ hi) (v : Nat)
    (l : List (Nat × Nat × Nat)) :
    firstClamped (sl.supplied ((k, v, clampNat lo hi v) :: l))
      = if sl.clamps k lo hi v then some k else firstClamped (sl.supplied l) := by
  have hclamps : (sl.has k = true ∧ v ≠ clampNat lo hi v) ↔ sl.clamps k lo hi v = true := by
    simp only [Slot.clamps, ne_eq, eq_clampNat_iff h, Bool.and_eq_true, Bool.or_eq_true, decide_eq_true_eq]
    exact and_congr_right fun _ => by omega
  rw [firstClamped_supplied_cons, if_congr hclamps rfl rfl]

/-- A word that carries two clamped fields gives one position. -/
theorem firstClamped_supplied_halves (sl : Slot) (k : Nat) {lo hi lo' hi' : Nat} (h : lo ≤ hi) (h' : lo' ≤ hi')
    (l : List (Nat × Nat × Nat)) :
    firstClamped (sl.supplied ((k, sl.field k 0 16, clampNat lo hi (sl.field k 0 16))
        :: (k, sl.field k 16 16, clampNat lo' hi' (sl.field k 16 16)) :: l))
      = if sl.clampsHalves k lo hi lo' hi' then some k else firstClamped (sl.supplied l) := by
  rw [firstClamped_supplied_clampNat sl k h, firstClamped_supplied_clampNat sl k h', Slot.clampsHalves]
  cases sl.clamps k lo hi (sl.field k 0 16) <;> rfl

/-! ## Width classes (R44, 11.7) -/

theorem Slot.field_lt (sl : Slot) (p i n : Nat) : sl.field p i n < 2 ^ n := BitVec.isLt _

/-- Of the four codes of two bits, 3 alone is no width class. -/
theorem widthClassOf_two_bits {c : Nat} (h : c < 2 ^ 2) :
    widthClassOf c = if c = 3 then none else some (if c = 0 then .a else if c = 1 then .b else .c) := by
  interval_cases c <;> rfl

/-! ## The fields of the profile and the clamped parameters (R43) -/

/-- The width class as it stands after the command, when its code is not refused. -/
theorem orKept_widthClass {sl : Slot} (hcls : sl.has 12 = true → sl.field 12 28 2 ≠ 3) (kept : WidthClass) :
    sl.orKept 12 ((widthClassOf (sl.field 12 28 2)).getD kept) kept
      = if sl.has 12 then (if sl.field 12 28 2 = 0 then .a else if sl.field 12 28 2 = 1 then .b else .c) else kept := by
  unfold Slot.orKept
  split
  next h => rw [widthClassOf_two_bits (sl.field_lt 12 28 2), if_neg (hcls h), Option.getD_some]
  next => rfl

/-- The position that DONE_CLAMPED reports for SET_SCAN_PROFILE: x0 is clamped by the width and the side margins by the class
that the profile holds after the command. -/
theorem firstClamped_profileFields (sl : Slot) (p : Profile) :
    firstClamped (sl.supplied (profileFields sl p).2)
      = if sl.clamps 1 64 4096 (roundDown 4 (sl.num 1)) then some 1
        else if sl.clamps 2 32 65504 (roundDown 32 (sl.num 2)) then some 2
        else if sl.clampsHalves 3 0 ((profileFields sl p).1.win - 1) 1 4096 then some 3
        else if sl.clampsHalves 4 0 (profileFields sl p).1.cls.dots 0 (profileFields sl p).1.cls.dots then some 4
        else if sl.clampsHalves 5 0 4096 0 4096 then some 5
        else if sl.clampsHalves 6 0 4096 0 4096 then some 6
        else if sl.clampsHalves 7 0 4096 0 4096 then some 7
        else if sl.clampsHalves 8 0 4096 0 4096 then some 8
        else if sl.clampsHalves 9 0 4096 0 4096 then some 9
        else if sl.clamps 12 1 255 (sl.field 12 16 8) then some 12
        else if sl.has 13 = true ∧ ((sl.word 13).toInt < -128 ∨ 127 < (sl.word 13).toInt) then some 13
        else none := by
  have hbrightness : (sl.has 13 = true ∧ 0 ≠ if clampInt (-128) 127 (sl.word 13).toInt = (sl.word 13).toInt then 0 else 1)
      ↔ sl.has 13 = true ∧ ((sl.word 13).toInt < -128 ∨ 127 < (sl.word 13).toInt) := by
    refine and_congr_right fun _ => ?_
    simp only [clampInt_eq_iff (show (-128 : Int) ≤ 127 by decide)]
    split <;> omega
  simp only [profileFields, List.flatMap_cons, List.flatMap_nil, List.cons_append, List.nil_append, List.append_nil]
  rw [firstClamped_supplied_clampNat sl 1 (by decide), firstClamped_supplied_clampNat sl 2 (by decide),
    firstClamped_supplied_halves sl 3 (Nat.zero_le _) (by decide),
    firstClamped_supplied_halves sl 4 (Nat.zero_le _) (Nat.zero_le _),
    firstClamped_supplied_halves sl 5 (by decide) (by decide), firstClamped_supplied_halves sl 6 (by decide) (by decide),
    firstClamped_supplied_halves sl 7 (by decide) (by decide), firstClamped_supplied_halves sl 8 (by decide) (by decide),
    firstClamped_supplied_halves sl 9 (by decide) (by decide), firstClamped_supplied_clampNat sl 12 (by decide),
    firstClamped_supplied_cons sl 13, if_congr hbrightness rfl rfl]
  rfl

/-! ## The checks of SET_SCAN_PROFILE in their order (R27, R44) -/

theorem setScanProfile_of_count_zero {sl : Slot} (h : sl.count = 0) (s : State) :
    setScanProfile sl s = (s, Reply.path .done 0) := if_pos h

theorem setScanProfile_of_badNumber {sl : Slot} (hc : sl.count ≠ 0) (hi : 3 < sl.num 0) (s : State) :
    setScanProfile sl s = (s, Reply.path .range 0) := by
  rw [setScanProfile, if_neg hc, if_pos hi]

theorem setScanProfile_of_badClass {sl : Slot} (hc : sl.count ≠ 0) (hi : sl.num 0 ≤ 3) (h12 : sl.has 12 = true)
    (hcls : sl.field 12 28 2 = 3) (s : State) : setScanProfile sl s = (s, Reply.path .range 12) := by
  have hbad : sl.has 12 = true ∧ (widthClassOf (sl.field 12 28 2)).isNone = true := ⟨h12, by rw [hcls]; rfl⟩
  rw [setScanProfile, if_neg hc, if_neg (Nat.not_lt.2 hi), if_pos hbad]

/-- Past the first two checks, the three relations decide on the profile as it would stand. -/
theorem setScanProfile_of_goodClass {sl : Slot} (hc : sl.count ≠ 0) (hi : sl.num 0 ≤ 3)
    (hcls : sl.has 12 = true → sl.field 12 28 2 ≠ 3) {s : State} {q : Profile}
    (hq : (profileFields sl (s.profile (sl.num 0))).1 = q) :
    setScanProfile sl s =
      if q.stride < q.win then (s, Reply.path .range (if sl.has 2 then 2 else 1))
      else if q.s2 < q.s1 then (s, Reply.path .range 11)
      else if q.hi < q.lo then (s, Reply.path .range 12)
      else ({ s with scn := { s.scn with profiles := Tab.set s.scn.profiles (sl.num 0) q } },
        Reply.doneOr (firstClamped (sl.supplied (profileFields sl (s.profile (sl.num 0))).2)) .path 0 0) := by
  have hgood : ¬ (sl.has 12 = true ∧ (widthClassOf (sl.field 12 28 2)).isNone = true) := by
    rintro ⟨h12, hnone⟩
    rw [widthClassOf_two_bits (sl.field_lt 12 28 2), if_neg (hcls h12)] at hnone
    exact Bool.false_ne_true hnone
  subst hq
  rw [setScanProfile, if_neg hc, if_neg (Nat.not_lt.2 hi), if_neg hgood]

/-- Settles O24: the row takes the slot, and its work is read off check by check; the profile that the relations decide on is
the one with every supplied field rounded and clamped. -/
theorem Settled.setScanProfile : Obligations.SetScanProfile := by
  refine ⟨fun s h hcount => ?_, fun s h => ?_⟩
  · rw [exec_setScanProfile, take_of_readyFor h le_rfl, setScanProfile_of_count_zero hcount]
  intro sl i p win dots band q wrong halves clamped
  obtain ⟨-, -, hsupplied, -⟩ := (s.readyFor_iff 0x10 1).1 h
  have hcount : sl.count ≠ 0 := Nat.one_le_iff_ne_zero.1 hsupplied
  have answer {t : State} {r : Reply} (hbody : Machine.setScanProfile sl s.carry = (t, r)) :
      exec .setScanProfile s = .next (s.answered r t) := by
    rw [exec_setScanProfile, take_of_readyFor h (Nat.zero_le 1), hbody]
  refine ⟨fun hi => answer (setScanProfile_of_badNumber hcount hi _),
    fun hi h12 hcls => answer (setScanProfile_of_badClass hcount hi h12 hcls _), fun hi hcls => ?_⟩
  have hq : (profileFields sl p).1 = q := by
    simp only [profileFields, orKept_widthClass hcls, clampNat_zero]
    rfl
  have hclamped : firstClamped (sl.supplied (profileFields sl p).2) = clamped := by
    rw [firstClamped_profileFields, hq]
    rfl
  have hbody := setScanProfile_of_goodClass hcount hi hcls (s := s.carry) hq
  refine ⟨fun hstride => answer ?_, fun hstride hcurve => answer ?_, fun hstride hcurve hbounds => answer ?_,
    fun hstride hcurve hbounds => ⟨{ s.carry with scn := { s.scn with profiles := Tab.set s.scn.profiles i q } },
      answer ?_, rfl, Tab.getD_set_self _ _ _ _, fun j hj => Tab.getD_set_of_ne _ _ _ hj⟩⟩
  · rw [hbody, if_pos hstride]
  · rw [hbody, if_neg (Nat.not_lt.2 hstride), if_pos hcurve]
  · rw [hbody, if_neg (Nat.not_lt.2 hstride), if_neg (Nat.not_lt.2 hcurve), if_pos hbounds]
  · rw [hbody, if_neg (Nat.not_lt.2 hstride), if_neg (Nat.not_lt.2 hcurve), if_neg (Nat.not_lt.2 hbounds), ← hclamped]
    rfl

end Sys2Proof.Machine
end

section
/-! PROOFS. SET_DEFAULT_ROUTE: the route that a call takes, the three clamped parameters and the route record in DRAM (R146,
R148, R149, 11.6). -/

namespace Sys2Proof.Machine

/-! ## Which route a call takes (R149) -/

/-- A record is for the called digits exactly when it can match a call and its digits in use are those. -/
theorem Route.isFor_iff (r : Route) (called : List Byte) :
    r.isFor called = true ↔ r.isValid = true ∧ r.digits.take r.digitCount = called := by
  simp [Route.isFor]

/-- A record that holds one to eight called digits, and no other character, is a route for them. -/
theorem Route.isFor_of_digits {r : Route} {called : List Byte} (hlow : 1 ≤ called.length) (hhigh : called.length ≤ 8)
    (hdigits : called.all isDigit = true) (hcount : r.digitCount = called.length)
    (htake : r.digits.take r.digitCount = called) : r.isFor called = true := by
  refine (r.isFor_iff called).2 ⟨?_, htake⟩
  rw [Route.isValid, htake, hcount, decide_eq_true hlow, decide_eq_true hhigh, hdigits]
  rfl

/-- A call without called digits takes the default route. -/
theorem State.routeOf_nil (s : State) : s.routeOf [] = s.rxr.defaultRoute := if_pos rfl

/-- Called digits that no route has take the default route. -/
theorem State.routeOf_of_noRoute {s : State} {called : List Byte} (h : ∀ r ∈ s.rxr.routes, r.isFor called = false) :
    s.routeOf called = s.rxr.defaultRoute := by
  have hnone : s.rxr.routes.find? (fun r => r.isFor called) = none :=
    List.find?_eq_none.2 fun r hr => Bool.eq_false_iff.1 (h r hr)
  rw [State.routeOf, hnone, Option.getD_none, ite_self]

/-- Called digits take the first route, in record order, that is for them. -/
theorem State.routeOf_of_firstRoute {s : State} {called : List Byte} {i : Nat} {r : Route} (hcalled : called ≠ [])
    (hget : s.rxr.routes[i]? = some r) (hfor : r.isFor called = true)
    (hbefore : ∀ k q, k < i → s.rxr.routes[k]? = some q → q.isFor called = false) : s.routeOf called = r := by
  obtain ⟨hi, hr⟩ := List.getElem?_eq_some_iff.1 hget
  have hfind : s.rxr.routes.find? (fun q => q.isFor called) = some r := by
    refine List.find?_eq_some_iff_getElem.2 ⟨hfor, i, hi, hr, fun k hk => ?_⟩
    rw [hbefore k _ hk (List.getElem?_eq_getElem (hk.trans hi)), Bool.not_false]
  rw [State.routeOf, if_neg hcalled, hfind, Option.getD_some]

/-! ## Parameters (R28, 11.2) -/

/-- A parameter with no lower bound was clamped when it lies above the upper one. -/
theorem firstClamped_cons_min (k hi v : Nat) (l : List (Nat × Nat × Nat)) :
    firstClamped ((k, v, min hi v) :: l) = if hi < v then some k else firstClamped l := by
  have hkept : v = min hi v ↔ ¬ hi < v := by omega
  rw [firstClamped, if_congr hkept rfl rfl, ite_not]

/-- A field of one bit is the bit's value. -/
theorem Slot.bit_flag (sl : Slot) (p i : Nat) : bit (sl.flag p i) = sl.field p i 1 := by
  have hbit : (sl.word p).extractLsb' i 1 = BitVec.ofBool ((sl.word p).getLsbD i) := by
    ext j hj
    obtain rfl : j = 0 := Nat.lt_one_iff.1 hj
    simp
  rw [Slot.field, hbit, Slot.flag, BitVec.toNat_ofBool]
  cases (sl.word p).getLsbD i <;> rfl

/-! ## The route record (R146, 11.6) -/

@[simp] theorem padTo_length (n : Nat) (bs : List Byte) : (padTo n bs).length = n := by
  simp [padTo, zeros]

@[simp] theorem Route.bytes_length (r : Route) : r.bytes.length = 32 := by
  simp [Route.bytes, u8, zeros]

theorem putDefaultRoute_dram (r : Route) (s : State) :
    (putDefaultRoute r s).dram = Mem.write s.dram (s.por 0x2B840) r.bytes := rfl

/-- The default route's record holds the new route, byte for byte. -/
theorem putDefaultRoute_bytes (r : Route) (s : State) :
    Mem.bytes (putDefaultRoute r s).dram (s.por 0x2B840) 32 = r.bytes := by
  rw [putDefaultRoute_dram, ← r.bytes_length, Mem.bytes_write_self]

/-- The record's 32 bytes are all that a new default route changes in DRAM. -/
theorem unchangedOutside_putDefaultRoute (r : Route) (s : State) :
    unchangedOutside [(s.por 0x2B840, 32)] s.dram (putDefaultRoute r s).dram := by
  rw [putDefaultRoute_dram, ← r.bytes_length]
  exact unchangedOutside_write _ _ _

/-! ## SET_DEFAULT_ROUTE (R148) -/

theorem setDefaultRoute_of_badOptions {sl : Slot} (h : 7 < sl.num 3) (s : State) :
    setDefaultRoute sl s = (s, Reply.path .range 3) := if_pos h

/-- With no option outside the three choices, the new route is made of the clamped parameters, and the reply tells the first
one that clamping changed. -/
theorem setDefaultRoute_of_goodOptions {sl : Slot} (h : sl.num 3 ≤ 7) (s : State) :
    setDefaultRoute sl s =
      (putDefaultRoute
          { digitCount := 0, digits := [], desk := min 31 (sl.num 0), tray := min 3 (sl.num 1), copies := min 9 (sl.num 2),
            printClass := sl.field 3 0 1, filter := sl.flag 3 1, autoDelete := sl.flag 3 2 } s,
        Reply.doneZero
          (if 31 < sl.num 0 then some 0 else if 3 < sl.num 1 then some 1 else if 9 < sl.num 2 then some 2 else none)
          .path 0) := by
  simp only [setDefaultRoute, if_neg (Nat.not_lt.2 h), firstClamped_cons_min, clampNat_zero, Slot.bit_flag]
  rfl

/-- Settles O35: the row takes the slot; its work refuses the options or writes the new default route, and the routes in use,
which it leaves as they are, decide which calls take it. -/
theorem Settled.setDefaultRoute : Obligations.SetDefaultRoute := by
  intro s h sl new
  have answer {t : State} {r : Reply} (hbody : Machine.setDefaultRoute sl s.carry = (t, r)) :
      exec .setDefaultRoute s = .next (s.answered r t) := by
    rw [exec_setDefaultRoute, take_of_readyFor h le_rfl, hbody]
  refine ⟨fun hbad => answer (setDefaultRoute_of_badOptions hbad _), fun hgood =>
    ⟨putDefaultRoute new s.carry, answer (setDefaultRoute_of_goodOptions hgood _), rfl, State.routeOf_nil _,
      fun called hnone => State.routeOf_of_noRoute hnone, ?_, putDefaultRoute_bytes new s.carry,
      unchangedOutside_putDefaultRoute new s.carry⟩⟩
  intro called i r hget hlow hhigh hdigits hcount htake hbefore
  refine State.routeOf_of_firstRoute (List.length_pos_iff.1 hlow) hget
    (Route.isFor_of_digits hlow hhigh hdigits hcount htake) fun k q hk hq => ?_
  exact Bool.eq_false_iff.2 fun hfor => hbefore k q hk hq ((q.isFor_iff called).1 hfor).2

end Sys2Proof.Machine
end

section
/-! PROOFS. What each command keeps: which of the kinds of state of Laws/Keeps.lean a row of the table is free to change, and
that it keeps the others; with it, that every command answers, and that DRAM's form and the tables' order last. -/

namespace Sys2Proof.Machine

set_option Elab.async false

/-! ## The whole machine (log 1) -/

/-- Settles O1: both halves are the two equations of the definition of a step. -/
theorem stepRunsFrontCommand : Obligations.StepRunsFrontCommand := ⟨fun _ _ _ => rfl, fun _ => rfl⟩

/-! ## What each command keeps -/

/-- The kinds of state that a command leaves alone: the region map but for power, RESETn, RUN entry, the end of a withdraw and
bus writes; the time base but for power, RESETn, its own rows and SET_CLOCK; the receiver's synchronisation but for power,
RESETn, the receiver's rows and LINK_RESYNC. -/
def keptBy : Instr → Kept
  | .powerOn | .resetnFall | .powerFail => ⟨false, false, false⟩
  | .dramInitialisationEnd _ => ⟨false, false, true⟩
  | .resetnRise | .runEntry | .withdrawEnd => ⟨false, true, true⟩
  | .busWrite .. | .partOwnedWrite .. | .commit .. | .withdraw .. | .commandRingTailWrite .. | .eventRingHeadWrite ..
  | .rawSlotLastPixelWrite .. | .lappingWrite .. => ⟨false, true, true⟩
  | .timeBaseTenth | .timeBaseSecond | .setClock => ⟨true, false, true⟩
  | .alignmentByteFound _ | .rxFrame _ | .mfSearchTimerExpiry | .linkResync => ⟨true, true, false⟩
  | _ => ⟨true, true, true⟩

theorem keeps_ite {k : Kept} {p : Prop} [Decidable p] {s t u : State} (ht : Keeps k s t) (hu : Keeps k s u) :
    Keeps k s (if p then t else u) := by
  split
  · exact ht
  · exact hu

theorem State.reset_ordered : State.reset.ordered = true := by decide

/-- A part that starts afresh with DRAM as it was or with none of it keeps the queue of commands, and DRAM's form and the
tables' order hold of it. -/
theorem keeps_reset {s : State} (ph : Phase) (p : Smp) {m : Mem} (hm : Mem.wf s.dram = true → Mem.wf m = true) :
    Keeps ⟨false, false, false⟩ s { State.reset with pending := s.pending, phase := ph, smp := p, dram := m } :=
  ⟨rfl, nofun, nofun, nofun, hm, fun _ => State.reset_ordered⟩

/-- A change of the phase alone. -/
theorem keeps_phase {k : Kept} {s0 s : State} (ph : Phase) (h : Keeps k s0 s) (hk : k.map = false) :
    Keeps k s0 { s with phase := ph } :=
  ⟨h.pending, fun e => absurd (hk.symm.trans e) Bool.false_ne_true, h.time, h.link, h.wf, h.ord⟩

/-- A change of the link interface alone. -/
theorem keeps_sli {k : Kept} {s0 s : State} (l : Sli) (h : Keeps k s0 s) (hk : k.link = false) :
    Keeps k s0 { s with sli := l } :=
  ⟨h.pending, h.map, h.time, fun e => absurd (hk.symm.trans e) Bool.false_ne_true, h.wf, h.ord⟩

/-- A change of the lines alone. -/
theorem keeps_lne {k : Kept} {s0 s : State} (l : Lne) (h : Keeps k s0 s) : Keeps k s0 { s with lne := l } :=
  ⟨h.pending, h.map, h.time, h.link, h.wf, h.ord⟩

theorem keeps_passDue {k : Kept} {s0 s : State} (h : Keeps k s0 s) :
    Keeps k s0 { s with dju := { s.dju with passDue := false } } :=
  ⟨h.pending, h.map, h.time, h.link, h.wf, h.ord⟩

/-- What a command does in one lemma: it answers a next state, and that state keeps what the command leaves alone. -/
theorem exec_keeps (c : Instr) (s : State) : ∃ t, exec c s = .next t ∧ Keeps (keptBy c) s t := by
  have h := Keeps.refl (keptBy c) s
  cases c with
  | powerOn => exact ⟨_, exec_powerOn s, keeps_reset _ _ (fun _ => State.reset_dram_wf)⟩
  | resetnFall => exact ⟨_, exec_resetnFall s, keeps_ite h (keeps_reset _ _ id)⟩
  | resetnRise => exact ⟨_, exec_resetnRise s, keeps_ite (keeps_phase _ h rfl) h⟩
  | dramInitialisationEnd w => exact ⟨_, exec_dramInitialisationEnd w s, keeps_ite (keeps_initialised h rfl rfl) h⟩
  | busWrite off data be => exact ⟨_, exec_busWrite off data be s, keeps_smpWrite h rfl⟩
  | partOwnedWrite off data be => exact ⟨_, exec_partOwnedWrite off data be s, keeps_smpWrite h rfl⟩
  | commit data be => exact ⟨_, exec_commit data be s, keeps_smpWrite h rfl⟩
  | runEntry => exact ⟨_, exec_runEntry s, keeps_ite (keeps_runEntry h rfl) h⟩
  | withdraw data be => exact ⟨_, exec_withdraw data be s, keeps_smpWrite h rfl⟩
  | withdrawEnd => exact ⟨_, exec_withdrawEnd s, keeps_ite (keeps_endWithdraw h rfl) h⟩
  | commandRingTailWrite off data be => exact ⟨_, exec_commandRingTailWrite off data be s, keeps_smpWrite h rfl⟩
  | eventRingHeadWrite off data be => exact ⟨_, exec_eventRingHeadWrite off data be s, keeps_smpWrite h rfl⟩
  | unknownCommandKind => exact ⟨_, exec_unknownCommandKind s, keeps_ite (keeps_carryOut h fun _ ht => ht) h⟩
  | clearPathCount => exact ⟨_, exec_clearPathCount s, keeps_take h fun _ _ ht => keeps_clearPathCount ht⟩
  | setScanProfile => exact ⟨_, exec_setScanProfile s, keeps_take h fun _ _ ht => keeps_setScanProfile ht⟩
  | beginScan => exact ⟨_, exec_beginScan s, keeps_take h fun _ _ ht => keeps_beginScan ht⟩
  | endPage => exact ⟨_, exec_endPage s, keeps_take h fun _ _ ht => keeps_endPage ht⟩
  | endScan => exact ⟨_, exec_endScan s, keeps_take h fun _ _ ht => keeps_endScanCommand ht⟩
  | setStoreLimits => exact ⟨_, exec_setStoreLimits s, keeps_take h fun _ _ ht => keeps_setStoreLimits ht⟩
  | openDocument => exact ⟨_, exec_openDocument s, keeps_take h fun _ _ ht => keeps_openDocument ht⟩
  | closeDocument => exact ⟨_, exec_closeDocument s, keeps_take h fun _ _ ht => keeps_closeDocument ht⟩
  | deleteDocument => exact ⟨_, exec_deleteDocument s, keeps_take h fun _ _ ht => keeps_deleteDocument ht⟩
  | submitJob => exact ⟨_, exec_submitJob s, keeps_take h fun _ _ ht => keeps_submitJob ht⟩
  | cancelJob => exact ⟨_, exec_cancelJob s, keeps_take h fun _ _ ht => keeps_cancelJob ht⟩
  | cancelDestination => exact ⟨_, exec_cancelDestination s, keeps_take h fun _ _ ht => keeps_cancelDestination ht⟩
  | holdJob => exact ⟨_, exec_holdJob s, keeps_take h fun _ _ ht => keeps_holdJob ht⟩
  | releaseJob => exact ⟨_, exec_releaseJob s, keeps_take h fun _ _ ht => keeps_releaseJob ht⟩
  | setRetryPolicy => exact ⟨_, exec_setRetryPolicy s, keeps_take h fun _ _ ht => keeps_setRetryPolicy ht⟩
  | linkSetup => exact ⟨_, exec_linkSetup s, keeps_take h fun _ _ ht => keeps_linkSetup ht⟩
  | linkResync => exact ⟨_, exec_linkResync s, keeps_take h fun _ _ ht => keeps_linkResync ht rfl⟩
  | clearLinkCounters => exact ⟨_, exec_clearLinkCounters s, keeps_take h fun _ _ ht => keeps_clearLinkCounters ht⟩
  | setLinePlan => exact ⟨_, exec_setLinePlan s, keeps_take h fun _ _ ht => keeps_setLinePlan ht⟩
  | setLineTimers => exact ⟨_, exec_setLineTimers s, keeps_take h fun _ _ ht => keeps_setLineTimers ht⟩
  | loadRouteWrite => exact ⟨_, exec_loadRouteWrite s, keeps_takeIf h fun _ _ ht => keeps_loadRoute ht⟩
  | loadRouteRemove => exact ⟨_, exec_loadRouteRemove s, keeps_takeIf h fun _ _ ht => keeps_loadRoute ht⟩
  | setFilterBinClearBin => exact ⟨_, exec_setFilterBinClearBin s, keeps_takeIf h fun _ _ ht => keeps_setFilterBin ht⟩
  | setFilterBinSetBin => exact ⟨_, exec_setFilterBinSetBin s, keeps_takeIf h fun _ _ ht => keeps_setFilterBin ht⟩
  | setFilterBinClearEvery => exact ⟨_, exec_setFilterBinClearEvery s, keeps_takeIf h fun _ _ ht => keeps_setFilterBin ht⟩
  | setFilterBinSetEvery => exact ⟨_, exec_setFilterBinSetEvery s, keeps_takeIf h fun _ _ ht => keeps_setFilterBin ht⟩
  | setDefaultRoute => exact ⟨_, exec_setDefaultRoute s, keeps_take h fun _ _ ht => keeps_setDefaultRoute ht⟩
  | releaseHeld => exact ⟨_, exec_releaseHeld s, keeps_take h fun _ _ ht => keeps_releaseHeld ht⟩
  | setPrintProfile => exact ⟨_, exec_setPrintProfile s, keeps_take h fun _ _ ht => keeps_setPrintProfile ht⟩
  | printDocument => exact ⟨_, exec_printDocument s, keeps_take h fun _ _ ht => keeps_printDocument ht⟩
  | cancelPrint => exact ⟨_, exec_cancelPrint s, keeps_take h fun _ _ ht => keeps_cancelPrint ht⟩
  | startPrint => exact ⟨_, exec_startPrint s, keeps_take h fun _ _ ht => keeps_startPrint ht⟩
  | stopPrint => exact ⟨_, exec_stopPrint s, keeps_take h fun _ _ ht => keeps_stopPrint ht⟩
  | setClock => exact ⟨_, exec_setClock s, keeps_take h fun _ _ ht => keeps_setClock ht rfl⟩
  | loadBandHours => exact ⟨_, exec_loadBandHours s, keeps_take h fun _ _ ht => keeps_loadBandHours ht⟩
  | loadTariffPrefixWrite => exact ⟨_, exec_loadTariffPrefixWrite s, keeps_takeIf h fun _ _ ht => keeps_loadTariffPrefix ht⟩
  | loadTariffPrefixRemove => exact ⟨_, exec_loadTariffPrefixRemove s, keeps_takeIf h fun _ _ ht => keeps_loadTariffPrefix ht⟩
  | loadZoneRate => exact ⟨_, exec_loadZoneRate s, keeps_take h fun _ _ ht => keeps_loadZoneRate ht⟩
  | setAccount => exact ⟨_, exec_setAccount s, keeps_take h fun _ _ ht => keeps_setAccount ht⟩
  | clearSpent => exact ⟨_, exec_clearSpent s, keeps_take h fun _ _ ht => keeps_clearSpent ht⟩
  | ackChargeLog => exact ⟨_, exec_ackChargeLog s, keeps_take h fun _ _ ht => keeps_ackChargeLog ht⟩
  | rawSlotLastPixelWrite off data be => exact ⟨_, exec_rawSlotLastPixelWrite off data be s, keeps_smpWrite h rfl⟩
  | lappingWrite off data be => exact ⟨_, exec_lappingWrite off data be s, keeps_smpWrite h rfl⟩
  | scanHoldExpiry => exact ⟨_, exec_scanHoldExpiry s, keeps_scanHoldExpiry h⟩
  | scanTakeSlot => exact ⟨_, exec_scanTakeSlot s, keeps_ite (keeps_takeSlot h) h⟩
  | timeBaseTenth => exact ⟨_, exec_timeBaseTenth s, keeps_ite (keeps_tenthEnds h rfl) h⟩
  | timeBaseSecond => exact ⟨_, exec_timeBaseSecond s, keeps_ite (keeps_tenthEnds h rfl) h⟩
  | schedulerPass => exact ⟨_, exec_schedulerPass s, keeps_ite (keeps_schedule 8 (keeps_passDue h)) h⟩
  | txFrame => exact ⟨_, exec_txFrame s, keeps_ite (keeps_txFrame h) h⟩
  | handingTakesPlace => exact ⟨_, exec_handingTakesPlace s, keeps_placeHanding h⟩
  | alignmentByteFound p => exact ⟨_, exec_alignmentByteFound p s, keeps_ite (keeps_writeLinkStatus (keeps_sli _ h rfl)) h⟩
  | rxFrame slots => exact ⟨_, exec_rxFrame slots s, keeps_ite (keeps_rxFrame h rfl) h⟩
  | mfSearchTimerExpiry => exact ⟨_, exec_mfSearchTimerExpiry s, keeps_ite (keeps_frameLoss h rfl) h⟩
  | rxMultiframeEnd => exact ⟨_, exec_rxMultiframeEnd s, keeps_multiframeEnd h⟩
  | blockStored n => exact ⟨_, exec_blockStored n s, keeps_blockStored h⟩
  | blockBufferFilled n => exact ⟨_, exec_blockBufferFilled n s, keeps_fillBlock h⟩
  | rxBlock n pp blk len => exact ⟨_, exec_rxBlock n pp blk len s, keeps_ite (keeps_openBlock h) h⟩
  | lineReady n => exact ⟨_, exec_lineReady n s, keeps_delivered h fun _ ht => keeps_onLineReady ht⟩
  | lineNotReady n => exact ⟨_, exec_lineNotReady n s, keeps_delivered h fun _ ht => keeps_onLineNotReady ht⟩
  | seized n => exact ⟨_, exec_seized n s, keeps_delivered h fun _ ht => keeps_onSeized ht⟩
  | answered n => exact ⟨_, exec_answered n s, keeps_delivered h fun _ ht => keeps_onAnswered ht⟩
  | busy n => exact ⟨_, exec_busy n s, keeps_delivered h fun _ ht => keeps_onCallFailed ht⟩
  | noAnswer n => exact ⟨_, exec_noAnswer n s, keeps_delivered h fun _ ht => keeps_onCallFailed ht⟩
  | notFax n => exact ⟨_, exec_notFax n s, keeps_delivered h fun _ ht => keeps_onCallFailed ht⟩
  | ring n called ident => exact ⟨_, exec_ring n called ident s, keeps_delivered h fun _ ht => keeps_onRing ht⟩
  | partialOk n => exact ⟨_, exec_partialOk n s, keeps_delivered h fun _ ht => keeps_onPartialOk ht⟩
  | repeatBlocks n map => exact ⟨_, exec_repeatBlocks n map s, keeps_delivered h fun _ ht => keeps_onRepeat ht⟩
  | pageConfirmed n => exact ⟨_, exec_pageConfirmed n s, keeps_delivered h fun _ ht => keeps_onPageConfirmed ht⟩
  | pageRejected n => exact ⟨_, exec_pageRejected n s, keeps_delivered h fun _ ht => keeps_onPageRejected ht⟩
  | rxPageBegin n cls res => exact ⟨_, exec_rxPageBegin n cls res s, keeps_delivered h fun _ ht => keeps_onRxPageBegin ht⟩
  | rxPartialEnd n pp count endKind => exact ⟨_, exec_rxPartialEnd n pp count endKind s, keeps_delivered h fun _ ht => keeps_onRxPartialEnd ht⟩
  | remoteClear n cause => exact ⟨_, exec_remoteClear n cause s, keeps_delivered h fun _ ht => keeps_onRemoteClear ht⟩
  | cleared n => exact ⟨_, exec_cleared n s, keeps_delivered h fun _ ht => keeps_onCleared ht⟩
  | sessionTimerExpiry n => exact ⟨_, exec_sessionTimerExpiry n s, keeps_ite (keeps_timerExpires h) h⟩
  | clearingTimerExpiry n => exact ⟨_, exec_clearingTimerExpiry n s, keeps_ite (keeps_onCleared h) h⟩
  | graceExpiry => exact ⟨_, exec_graceExpiry s, keeps_ite (keeps_endAllSessions (keeps_dropMessages (keeps_lne _ h))) h⟩
  | prnTakeEntry => exact ⟨_, exec_prnTakeEntry s, keeps_takeEntry h⟩
  | prnRenderSheetLine => exact ⟨_, exec_prnRenderSheetLine s, keeps_renderStep h⟩
  | printSlotLastWordRead off be => exact ⟨_, exec_printSlotLastWordRead off be s, keeps_smpRead h⟩
  | earlyRead off be => exact ⟨_, exec_earlyRead off be s, keeps_smpRead h⟩
  | printHoldExpiry => exact ⟨_, exec_printHoldExpiry s, keeps_printHoldExpiry h⟩
  | powerFail => exact ⟨_, exec_powerFail s, keeps_reset _ _ (fun _ => State.reset_dram_wf)⟩

/-- An answer read back: the state that a command leads to keeps what the command leaves alone. -/
theorem keeps_of_exec {c : Instr} {s t : State} (h : exec c s = .next t) : Keeps (keptBy c) s t := by
  obtain ⟨u, hu, hk⟩ := exec_keeps c s
  cases hu.symm.trans h
  exact hk

/-- A step idles or runs the command at the front of the queue from the state without it. -/
theorem step_cases {s t : State} (h : step s = .next t) :
    t = s ∨ ∃ c rest, s.pending = c :: rest ∧ exec c { s with pending := rest } = .next t := by
  unfold step at h
  split at h
  · cases h
    exact .inl rfl
  · exact .inr ⟨_, _, ‹_›, h⟩

/-- A property that the queue of commands has no part in lasts through every step when every command keeps it. -/
theorem step_preserves {P : State → Prop} (hq : ∀ s q, P s → P { s with pending := q })
    (hexec : ∀ c s t, P s → exec c s = .next t → P t) {s t : State} (hs : P s) (h : step s = .next t) : P t := by
  obtain rfl | ⟨c, rest, -, hc⟩ := step_cases h
  · exact hs
  · exact hexec c _ t (hq s rest hs) hc

/-! ## Totality, DRAM's form and the order of the tables -/

/-- Settles O2: every command's answer is a next state that keeps the queue. -/
theorem everyCommandAnswers : Obligations.EveryCommandAnswers := fun c s =>
  let ⟨t, ht, hk⟩ := exec_keeps c s
  ⟨t, ht, hk.pending⟩

/-- Settles O3: every command keeps both, whatever kinds of state it changes. -/
theorem dramFormAndTableOrderKept : Obligations.DramFormAndTableOrderKept :=
  ⟨fun _ _ => step_preserves (P := fun s => Mem.wf s.dram = true) (fun _ _ => id) fun _ _ _ hs h => (keeps_of_exec h).wf hs,
    fun _ _ => step_preserves (P := fun s => s.ordered = true) (fun _ _ => id) fun _ _ _ hs h => (keeps_of_exec h).ord hs⟩

end Sys2Proof.Machine
end

section
/-! PROOFS. The law of operating state and region map (R3, R6, R9, R17, R18): the operations that commit an anchor, enter RUN,
start and end a withdraw, and the chain of bus writes down to them. -/

namespace Sys2Proof.Machine

set_option Elab.async false

/-- The law, read case by case: at rest in PASS there is no map; a validation waits in PASS with a passed map; in RUN and
WITHDRAWING the part is up with a passed map. -/
theorem State.mapLaw_iff (s : State) :
    s.mapLaw = true ↔
      (s.rgw.state = .pass ∧ s.rgw.validating = false ∧ s.rgw.copy = none)
        ∨ (s.phase = .up ∧ s.rgw.state = .pass ∧ s.rgw.validating = true ∧ s.mapPassed = true)
        ∨ (s.phase = .up ∧ s.rgw.state ≠ .pass ∧ s.rgw.validating = false ∧ s.mapPassed = true) := by
  unfold State.mapLaw
  cases s.rgw.state <;> cases s.rgw.validating <;> simp

/-- The law speaks of the region map's kinds of state alone. -/
theorem mapLaw_of_keeps {k : Kept} {s t : State} (hk : k.map = true) (h : Keeps k s t) (hs : s.mapLaw = true) :
    t.mapLaw = true := by
  obtain ⟨hphase, hwindow, hstate, hcopy, hvalidating⟩ := h.map hk
  simpa only [State.mapLaw, State.mapPassed, State.windowBytes, State.windowMiB, hphase, hwindow, hstate, hcopy,
    hvalidating] using hs

/-- All three kinds are kept. -/
def Kept.all : Kept := ⟨true, true, true⟩

theorem mapLaw_of_keepsAll {s t : State} (h : Keeps Kept.all s t) (hs : s.mapLaw = true) : t.mapLaw = true :=
  mapLaw_of_keeps rfl h hs

/-- The start of a withdraw changes the operating state, and then nothing of the map. -/
theorem keeps_startWithdraw_withdrawing (s : State) :
    Keeps Kept.all { s with rgw := { s.rgw with state := .withdrawing, noted := false } } (startWithdraw s) :=
  keeps_post <| keeps_withdrawLines <| keeps_discardJobs <| keeps_withdrawPrint <|
    Keeps.upd rfl (keeps_cutScan (Keeps.refl _ _)) (fun _ => ⟨rfl, rfl, rfl, rfl, rfl⟩) (fun _ => ⟨rfl, rfl, rfl⟩)
      (fun _ => ⟨rfl, rfl, rfl⟩) rfl id

/-- A withdraw that starts with a map in force keeps it. -/
theorem mapLaw_startWithdraw {s : State} (hs : s.mapLaw = true) (hrun : s.rgw.state ≠ .pass) :
    (startWithdraw s).mapLaw = true := by
  refine mapLaw_of_keepsAll (keeps_startWithdraw_withdrawing s) ((State.mapLaw_iff _).2 (.inr (.inr ?_)))
  obtain ⟨h, -⟩ | ⟨-, h, -⟩ | ⟨hup, -, hvalidating, hpassed⟩ := (State.mapLaw_iff s).1 hs
  · exact absurd h hrun
  · exact absurd h hrun
  · exact ⟨hup, RgwState.noConfusion, hvalidating, hpassed⟩

/-- RUN entry puts the validated map in force. -/
theorem mapLaw_runEntry {s : State} (hs : s.mapLaw = true) (hv : s.rgw.validating = true) : (runEntry s).mapLaw = true := by
  have hvalues : (runEntryValues s).mapLaw = true := by
    refine (State.mapLaw_iff _).2 (.inr (.inr ?_))
    obtain ⟨-, h, -⟩ | ⟨hup, -, -, hpassed⟩ | ⟨-, -, h, -⟩ := (State.mapLaw_iff s).1 hs
    · exact absurd (h.symm.trans hv) Bool.false_ne_true
    · refine ⟨hup, RgwState.noConfusion, rfl, ?_⟩
      cases hc : s.rgw.copy with
      | none => simp [State.mapPassed, hc] at hpassed
      | some a => simpa [State.mapPassed, runEntryValues, State.cfg, State.windowBytes, State.windowMiB, hc] using hpassed
    · exact absurd (h.symm.trans hv) Bool.false_ne_true
  have hkeeps : Keeps Kept.all (runEntryValues s) (announce (runEntryWrites (runEntryValues s))) :=
    keeps_announce (keeps_runEntryWrites (Keeps.refl _ _))
  have hlaw := mapLaw_of_keepsAll hkeeps hvalues
  obtain ⟨-, -, hstate, -, -⟩ := hkeeps.map rfl
  unfold runEntry
  dsimp only
  split
  · exact mapLaw_startWithdraw hlaw (by rw [hstate]; exact RgwState.noConfusion)
  · exact hlaw

/-- The end of a withdraw leaves no map. -/
theorem mapLaw_endWithdraw {s : State} (hs : s.mapLaw = true) (hw : s.rgw.state = .withdrawing) :
    (endWithdraw s).mapLaw = true := by
  refine (State.mapLaw_iff _).2 (.inl ⟨rfl, ?_, rfl⟩)
  obtain ⟨h, -⟩ | ⟨-, h, -⟩ | ⟨-, -, hvalidating, -⟩ := (State.mapLaw_iff s).1 hs
  · cases hw.symm.trans h
  · cases hw.symm.trans h
  · exact hvalidating

/-- An anchor without a fault has passed its checks; its hold limits were clamped as it was read. -/
theorem passed_of_fault_none {m m' : Mem} {w : Nat} (h : (readAnchor m).fault w m' = none) :
    (readAnchor m).passed w = true := by
  have hclamp (v : Nat) : 10 ≤ clampNat 10 1000 v ∧ clampNat 10 1000 v ≤ 1000 := by unfold clampNat; omega
  obtain ⟨hs1, hs2⟩ := hclamp (Mem.num m 0x2C 2)
  obtain ⟨hp1, hp2⟩ := hclamp (Mem.num m 0x2E 2)
  unfold Anchor.fault at h
  repeat' split at h <;> try cases h
  simp_all [Anchor.passed, readAnchor]

/-- A commit holds a map exactly when the anchor passes. -/
theorem mapLaw_commitAnchor {s : State} (hup : s.phase = .up) (hpass : s.rgw.state = .pass)
    (hv : s.rgw.validating = false) : (commitAnchor s).mapLaw = true := by
  unfold commitAnchor
  extract_lets a u
  split
  · exact (State.mapLaw_iff _).2 (.inl ⟨hpass, hv, rfl⟩)
  next h => exact (State.mapLaw_iff _).2 (.inr (.inl ⟨hup, hpass, rfl, passed_of_fault_none h⟩))

/-- A write of the commit word: a commit in PASS, the start of a withdraw in RUN, a note, or nothing. -/
theorem mapLaw_commitWritten {s : State} (hs : s.mapLaw = true) (hup : s.phase = .up) : (commitWritten s).mapLaw = true := by
  unfold commitWritten
  dsimp only
  split
  next hpass =>
    split
    · split <;> exact hs
    next hv =>
      split
      · exact mapLaw_commitAnchor hup hpass (Bool.eq_false_iff.2 hv)
      · exact hs
  next hrun =>
    split
    · split
      · exact mapLaw_startWithdraw hs (by rw [hrun]; exact RgwState.noConfusion)
      · exact hs
    · exact hs
  · exact hs

theorem mapLaw_windowWrite {a : BusAccess} {s : State} (hs : s.mapLaw = true) (hup : s.phase = .up) :
    (windowWrite a s).mapLaw = true := by
  have hkeeps := Keeps.refl Kept.all s
  have hstored : (storeAccess a s).mapLaw = true := mapLaw_of_keepsAll (keeps_storeAccess hkeeps) hs
  have hcommit : (commitWritten (storeAccess a s)).mapLaw = true := mapLaw_commitWritten hstored hup
  unfold windowWrite regionWrite
  dsimp only
  split
  · split
    · exact hcommit
    · exact hstored
  · split
    · exact hcommit
    · split
      · exact mapLaw_of_keepsAll (keeps_dropWrite hkeeps) hs
      · split
        · exact mapLaw_of_keepsAll (keeps_tailWritten (keeps_storeAccess hkeeps)) hs
        · split
          · exact mapLaw_of_keepsAll (keeps_headWritten (keeps_storeAccess hkeeps)) hs
          · split
            · exact hs
            · exact mapLaw_of_keepsAll (keeps_passWrite hkeeps) hs

theorem mapLaw_goAhead {a : BusAccess} {s : State} (hs : s.mapLaw = true) (hup : s.phase = .up) :
    (goAhead a s).mapLaw = true := by
  unfold goAhead writeAhead
  split
  · split
    · exact hs
    · split
      · exact hs
      · exact mapLaw_windowWrite hs hup
  · exact mapLaw_of_keepsAll (keeps_readAhead (Keeps.refl _ _)) hs

theorem mapLaw_smpWrite {off : BusAddr} {data : Word} {be : ByteEnables} {s : State} (hs : s.mapLaw = true) :
    (smpWrite off data be s).mapLaw = true := by
  unfold smpWrite smpAccess
  split
  · exact hs
  · split
    · exact hs
    · exact hs
    · exact hs
    next hup => exact mapLaw_goAhead hs hup

/-- Before DRAM initialisation ends there is neither a map nor a validation. -/
theorem mapLaw_of_not_up {s : State} (hs : s.mapLaw = true) (hup : s.phase ≠ .up) :
    s.rgw.state = .pass ∧ s.rgw.validating = false ∧ s.rgw.copy = none := by
  obtain h | ⟨h, -⟩ | ⟨h, -⟩ := (State.mapLaw_iff s).1 hs
  · exact h
  · exact absurd h hup
  · exact absurd h hup

theorem mapLaw_initialised {w : WindowSize} {s : State} (hs : s.mapLaw = true) (hi : s.phase = .initialising) :
    (initialised w s).mapLaw = true := by
  have hrest := mapLaw_of_not_up hs (by rw [hi]; exact Phase.noConfusion)
  unfold initialised
  dsimp only
  split
  · exact (State.mapLaw_iff _).2 (.inl hrest)
  · exact mapLaw_goAhead ((State.mapLaw_iff _).2 (.inl hrest)) rfl

/-- A part that starts afresh has no map. -/
theorem mapLaw_reset (q : List Instr) (ph : Phase) (p : Smp) (m : Mem) :
    { State.reset with pending := q, phase := ph, smp := p, dram := m }.mapLaw = true :=
  (State.mapLaw_iff _).2 (.inl ⟨rfl, rfl, rfl⟩)

/-- Every command keeps the law: the rows that may change the map one by one, the others because they leave it alone. -/
theorem mapLaw_exec {c : Instr} {s t : State} (hs : s.mapLaw = true) (h : exec c s = .next t) : t.mapLaw = true := by
  by_cases hk : (keptBy c).map = true
  · exact mapLaw_of_keeps hk (keeps_of_exec h) hs
  cases c with
  | powerOn => cases h; exact mapLaw_reset ..
  | powerFail => cases h; exact mapLaw_reset ..
  | resetnFall =>
    cases h
    split
    · exact hs
    · exact mapLaw_reset ..
  | resetnRise =>
    cases h
    split
    next hlow =>
      have hrest := mapLaw_of_not_up hs (by rw [hlow]; exact Phase.noConfusion)
      exact (State.mapLaw_iff _).2 (.inl hrest)
    · exact hs
  | dramInitialisationEnd w =>
    cases h
    split
    next hi => exact mapLaw_initialised hs hi
    · exact hs
  | runEntry =>
    cases h
    split
    next hv => exact mapLaw_runEntry hs hv
    · exact hs
  | withdrawEnd =>
    cases h
    split
    next hw => exact mapLaw_endWithdraw hs hw.1
    · exact hs
  | busWrite off data be => cases h; exact mapLaw_smpWrite hs
  | partOwnedWrite off data be => cases h; exact mapLaw_smpWrite hs
  | commit data be => cases h; exact mapLaw_smpWrite hs
  | withdraw data be => cases h; exact mapLaw_smpWrite hs
  | commandRingTailWrite off data be => cases h; exact mapLaw_smpWrite hs
  | eventRingHeadWrite off data be => cases h; exact mapLaw_smpWrite hs
  | rawSlotLastPixelWrite off data be => cases h; exact mapLaw_smpWrite hs
  | lappingWrite off data be => cases h; exact mapLaw_smpWrite hs
  | _ => exact absurd rfl hk

/-- Settles O5: the queue of commands has no part in the law, and every command keeps it. -/
theorem regionMapLawKept : Obligations.RegionMapLawKept := fun _ _ =>
  step_preserves (P := fun s => s.mapLaw = true) (fun _ _ => id) fun _ _ _ => mapLaw_exec

end Sys2Proof.Machine
end

section
/-! PROOFS. The laws of the time base (R175) and of the receiver (R106 to R112): the operations that move the tenths and
seconds, and those that change the frame state, the multiframe state or the received remote alarm. -/

namespace Sys2Proof.Machine

set_option Elab.async false

/-! ## The time base -/

theorem State.timeLaw_iff (s : State) :
    s.timeLaw = true ↔ s.chg.seconds < 4294967296 ∧ s.chg.tenths < 10 ∧ s.chg.tenthCycles = tenthLength s.chg.tenths := by
  simp [State.timeLaw, and_assoc]

theorem timeLaw_of_keeps {k : Kept} {s t : State} (hk : k.time = true) (h : Keeps k s t) (hs : s.timeLaw = true) :
    t.timeLaw = true := by
  obtain ⟨hseconds, htenths, hcycles⟩ := h.time hk
  simpa only [State.timeLaw, hseconds, htenths, hcycles] using hs

theorem timeLaw_of_keepsAll {s t : State} (h : Keeps Kept.all s t) (hs : s.timeLaw = true) : t.timeLaw = true :=
  timeLaw_of_keeps rfl h hs

/-- A tenth has the length of its place, and the seconds wrap. -/
theorem timeLaw_tenthEnds {s : State} (hs : s.timeLaw = true) : (tenthEnds s).timeLaw = true := by
  have hticked : (tickCalls (tickTimers s)).timeLaw = true :=
    timeLaw_of_keepsAll (keeps_tickCalls (keeps_tickTimers (Keeps.refl _ _))) hs
  obtain ⟨hseconds, -, -⟩ := (State.timeLaw_iff _).1 hticked
  unfold tenthEnds
  dsimp only
  split
  · exact timeLaw_of_keepsAll (keeps_secondPassed (Keeps.refl _ _))
      ((State.timeLaw_iff _).2 ⟨Nat.mod_lt _ (by decide), Nat.mod_lt _ (by decide), rfl⟩)
  · exact (State.timeLaw_iff _).2 ⟨hseconds, Nat.mod_lt _ (by decide), rfl⟩

/-- The end of DRAM initialisation starts the time base. -/
theorem timeLaw_initialised (w : WindowSize) (s : State) : (initialised w s).timeLaw = true := by
  have hstart : ∀ u : State, u.chg = { s.chg with seconds := 0, tenths := 0, tenthCycles := 3277 } → u.timeLaw = true :=
    fun u hu => (State.timeLaw_iff u).2 (by rw [hu]; exact ⟨(by decide : 0 < 4294967296), (by decide : 0 < 10), rfl⟩)
  unfold initialised
  dsimp only
  split
  · exact hstart _ rfl
  · exact timeLaw_of_keeps (k := ⟨false, true, true⟩) rfl (keeps_goAhead (Keeps.refl _ _) rfl) (hstart _ rfl)

/-- A command slot's row carries out its block's work or waits: what the work keeps of the state with the command being carried
out, and the answer keeps, the row keeps. -/
theorem takeIf_preserves {P : State → Prop} {kind need : Nat} {mine : Slot → Bool} {body : Slot → State → State × Reply}
    {s : State} (hs : P s) (hcarry : P s → P s.carry) (hbody : ∀ sl u, P u → P (body sl u).1)
    (hfinish : ∀ tag r u, P u → P (finishCommand tag r u)) : P (takeIf kind need mine body s) := by
  unfold takeIf carryOut checkedBody
  dsimp only
  split
  · refine hfinish _ _ _ ?_
    split
    · exact hcarry hs
    · split
      · exact hcarry hs
      · exact hbody _ _ (hcarry hs)
  · exact hs

/-- What every answer does to the time base is nothing. -/
theorem timeLaw_finishCommand {tag : Nat} {r : Reply} {s : State} (hs : s.timeLaw = true) :
    (finishCommand tag r s).timeLaw = true :=
  timeLaw_of_keepsAll (keeps_finishCommand (Keeps.refl _ _)) hs

theorem Slot.num_lt (sl : Slot) (p : Nat) : sl.num p < 4294967296 := (sl.word p).isLt

/-- SET_CLOCK sets a 32-bit seconds count and starts tenth 0. -/
theorem timeLaw_setClock (sl : Slot) (s : State) : (setClock sl s).1.timeLaw = true := by
  refine timeLaw_of_keepsAll (s := { s with chg := { s.chg with
    seconds := sl.num 0, tenths := 0, tenthCycles := 3277, weekOffset := clampNat 0 604799 (sl.num 1), clockSet := true } })
    (keeps_occasion (keeps_shiftNextTry (Keeps.refl _ _))) ?_
  exact (State.timeLaw_iff _).2 ⟨sl.num_lt 0, (by decide : 0 < 10), rfl⟩

/-- A part that starts afresh starts with tenth 0 of second 0, and its receiver searches. -/
theorem timeAndLinkLaw_reset (q : List Instr) (ph : Phase) (p : Smp) (m : Mem) :
    { State.reset with pending := q, phase := ph, smp := p, dram := m }.timeLaw = true
      ∧ { State.reset with pending := q, phase := ph, smp := p, dram := m }.linkLaw = true := ⟨rfl, rfl⟩

theorem timeLaw_exec {c : Instr} {s t : State} (hs : s.timeLaw = true) (h : exec c s = .next t) : t.timeLaw = true := by
  by_cases hk : (keptBy c).time = true
  · exact timeLaw_of_keeps hk (keeps_of_exec h) hs
  cases c with
  | powerOn => cases h; exact (timeAndLinkLaw_reset ..).1
  | powerFail => cases h; exact (timeAndLinkLaw_reset ..).1
  | resetnFall =>
    cases h
    split
    · exact hs
    · exact (timeAndLinkLaw_reset ..).1
  | dramInitialisationEnd w =>
    cases h
    split
    · exact timeLaw_initialised w s
    · exact hs
  | timeBaseTenth =>
    cases h
    split
    · exact timeLaw_tenthEnds hs
    · exact hs
  | timeBaseSecond =>
    cases h
    split
    · exact timeLaw_tenthEnds hs
    · exact hs
  | setClock =>
    cases h
    exact takeIf_preserves (P := fun u => u.timeLaw = true) hs id (fun sl u _ => timeLaw_setClock sl u)
      fun _ _ _ => timeLaw_finishCommand
  | _ => exact absurd rfl hk

/-! ## The receiver -/

theorem State.linkLaw_iff (s : State) :
    s.linkLaw = true ↔ s.sli.frame = .sync ∨ (s.sli.mf = .mfSearch ∧ s.sli.rxAlarm = false) := by
  simp [State.linkLaw]

theorem linkLaw_of_sync {s : State} (h : s.sli.frame = .sync) : s.linkLaw = true := (State.linkLaw_iff s).2 (.inl h)

theorem linkLaw_of_search {s : State} (hmf : s.sli.mf = .mfSearch) (ha : s.sli.rxAlarm = false) : s.linkLaw = true :=
  (State.linkLaw_iff s).2 (.inr ⟨hmf, ha⟩)

theorem linkLaw_of_keeps {k : Kept} {s t : State} (hk : k.link = true) (h : Keeps k s t) (hs : s.linkLaw = true) :
    t.linkLaw = true := by
  obtain ⟨hframe, hmf, halarm⟩ := h.link hk
  simpa only [State.linkLaw, hframe, hmf, halarm] using hs

theorem linkLaw_of_keepsAll {s t : State} (h : Keeps Kept.all s t) (hs : s.linkLaw = true) : t.linkLaw = true :=
  linkLaw_of_keeps rfl h hs

theorem frame_of_keepsAll {s t : State} (h : Keeps Kept.all s t) : t.sli.frame = s.sli.frame := (h.link rfl).1

/-- Outside SYNC the receiver has neither multiframe synchronisation nor a received alarm. -/
theorem search_of_not_sync {s : State} (hs : s.linkLaw = true) (hn : s.sli.frame ≠ .sync) :
    s.sli.mf = .mfSearch ∧ s.sli.rxAlarm = false := ((State.linkLaw_iff s).1 hs).resolve_left hn

/-- A loss of frame synchronisation ends multiframe synchronisation and clears the received alarm. -/
theorem linkLaw_frameLoss (st : FrameState) (s : State) : (frameLoss st s).linkLaw = true := by
  unfold frameLoss
  dsimp only
  split
  · exact linkLaw_of_keepsAll (keeps_linkDown (Keeps.refl _ _)) (linkLaw_of_search rfl rfl)
  · exact linkLaw_of_keepsAll (keeps_writeLinkStatus (Keeps.refl _ _)) (linkLaw_of_search rfl rfl)

/-- The entry to multiframe synchronisation and the loss of it alone stay within the frame state. -/
theorem linkGoesUp_frame (s : State) : (linkGoesUp s).sli.frame = s.sli.frame := by
  rw [linkGoesUp, frame_of_keepsAll (keeps_writeLinkStatus (keeps_postLinkState (keeps_lneLinkUp (Keeps.refl _ _))))]

theorem mfLost_frame (s : State) : (mfLost s).sli.frame = s.sli.frame := by
  rw [mfLost, frame_of_keepsAll (keeps_linkDown (Keeps.refl _ _))]

theorem mfContents_frame (slots : List Byte) (s : State) : (mfContents slots s).sli.frame = s.sli.frame :=
  frame_of_keepsAll (keeps_mfContents (Keeps.refl _ _))

theorem mfFrame_frame (slots : List Byte) (odd : Bool) (s : State) : (mfFrame slots odd s).sli.frame = s.sli.frame := by
  unfold mfFrame
  dsimp only
  split
  · split
    · rfl
    · split
      · rw [mfContents_frame, linkGoesUp_frame]; rfl
      · rfl
  · split
    · rw [mfLost_frame]; split <;> rfl
    · rw [mfContents_frame]
      split <;> split <;> rfl

theorem linkLaw_evenSlot0 (b : Byte) {s : State} (hs : s.linkLaw = true) : (evenSlot0 b s).linkLaw = true := by
  unfold evenSlot0
  dsimp only
  split
  · exact hs
  · split
    · exact linkLaw_frameLoss ..
    · exact hs

/-- The service byte of an odd frame may set the received alarm, in SYNC. -/
theorem linkLaw_oddSlot0 (b : Byte) {s : State} (hsync : s.sli.frame = .sync) : (oddSlot0 b s).linkLaw = true := by
  have hset (u : State) (hu : u.sli.frame = s.sli.frame) : u.linkLaw = true := linkLaw_of_sync (hu.trans hsync)
  unfold oddSlot0
  dsimp only
  split
  · split
    · exact linkLaw_of_keepsAll (keeps_suspendSending (Keeps.refl _ _)) (hset _ rfl)
    · exact hset _ rfl
  · split
    · split
      · exact linkLaw_frameLoss ..
      · exact hset _ rfl
    · exact hset _ rfl

theorem linkLaw_syncFrame (slots : List Byte) {s : State} (hsync : s.sli.frame = .sync) :
    (syncFrame slots s).linkLaw = true := by
  have hchecked : (multiframeEnd s).sli.frame = .sync :=
    (frame_of_keepsAll (keeps_multiframeEnd (Keeps.refl _ _))).trans hsync
  have hmultiframe (odd : Bool) (u : State) (hu : u.linkLaw = true) :
      (if u.sli.frame = .sync then mfFrame slots odd u else u).linkLaw = true := by
    split
    next h => exact linkLaw_of_sync ((mfFrame_frame ..).trans h)
    · exact hu
  unfold syncFrame
  refine hmultiframe _ _ ?_
  dsimp only
  split
  · exact linkLaw_oddSlot0 _ hchecked
  · exact linkLaw_evenSlot0 _ (linkLaw_of_sync hchecked)

theorem linkLaw_checkFailed {s : State} (h : s.sli.mf = .mfSearch ∧ s.sli.rxAlarm = false) : (checkFailed s).linkLaw = true :=
  linkLaw_of_keepsAll (keeps_writeLinkStatus (Keeps.refl _ _)) (linkLaw_of_search h.1 h.2)

theorem linkLaw_rxFrame (slots : List Byte) {s : State} (hs : s.linkLaw = true) : (rxFrame slots s).linkLaw = true := by
  unfold rxFrame
  dsimp only
  split
  · exact hs
  · exact hs
  next hframe =>
    have hsearch := search_of_not_sync hs (by rw [hframe]; exact FrameState.noConfusion)
    split
    · exact linkLaw_of_keepsAll (keeps_writeLinkStatus (Keeps.refl _ _)) (linkLaw_of_search hsearch.1 hsearch.2)
    · exact linkLaw_checkFailed hsearch
  next hframe =>
    have hsearch := search_of_not_sync hs (by rw [hframe]; exact FrameState.noConfusion)
    split
    · split
      · exact linkLaw_of_search hsearch.1 hsearch.2
      · exact linkLaw_checkFailed hsearch
    · exact linkLaw_syncFrame slots (frame_of_keepsAll (keeps_writeLinkStatus (Keeps.refl _ _)))
    · exact linkLaw_of_search hsearch.1 hsearch.2
  next hframe => exact linkLaw_syncFrame slots hframe

theorem linkLaw_linkResync (sl : Slot) {s : State} (hs : s.linkLaw = true) : (linkResync sl s).1.linkLaw = true := by
  have hsearched (h : s.sli.frame ≠ .sync) : (writeLinkStatus { s with sli :=
      { s.sli with frame := .hunt, searchFrom := none, syncIn := none } }).linkLaw = true :=
    have hsearch := search_of_not_sync hs h
    linkLaw_of_keepsAll (keeps_writeLinkStatus (Keeps.refl _ _)) (linkLaw_of_search hsearch.1 hsearch.2)
  unfold linkResync
  dsimp only
  split
  · exact linkLaw_frameLoss ..
  · exact hs
  · exact hsearched (by simp [*])
  · exact hsearched (by simp [*])
  · exact hsearched (by simp [*])

theorem linkLaw_exec {c : Instr} {s t : State} (hs : s.linkLaw = true) (h : exec c s = .next t) : t.linkLaw = true := by
  by_cases hk : (keptBy c).link = true
  · exact linkLaw_of_keeps hk (keeps_of_exec h) hs
  cases c with
  | powerOn => cases h; exact (timeAndLinkLaw_reset ..).2
  | powerFail => cases h; exact (timeAndLinkLaw_reset ..).2
  | resetnFall =>
    cases h
    split
    · exact hs
    · exact (timeAndLinkLaw_reset ..).2
  | alignmentByteFound p =>
    cases h
    split
    next hfound =>
      have hsearch := search_of_not_sync hs (by rw [hfound.2.1]; exact FrameState.noConfusion)
      exact linkLaw_of_keepsAll (keeps_writeLinkStatus (Keeps.refl _ _)) (linkLaw_of_search hsearch.1 hsearch.2)
    · exact hs
  | rxFrame slots =>
    cases h
    split
    · exact linkLaw_rxFrame slots hs
    · exact hs
  | mfSearchTimerExpiry =>
    cases h
    split
    · exact linkLaw_frameLoss ..
    · exact hs
  | linkResync =>
    cases h
    exact takeIf_preserves (P := fun u => u.linkLaw = true) hs id (fun sl u => linkLaw_linkResync sl)
      fun _ _ _ => linkLaw_of_keepsAll (keeps_finishCommand (Keeps.refl _ _))
  | _ => exact absurd rfl hk

/-- Settles O6: every command keeps each law by itself. -/
theorem timeAndReceiverLawsKept : Obligations.TimeAndReceiverLawsKept := fun _ _ htime hlink =>
  step_preserves (P := fun s => s.timeLaw = true ∧ s.linkLaw = true) (fun _ _ => id)
    (fun _ _ _ ⟨htime, hlink⟩ h => ⟨timeLaw_exec htime h, linkLaw_exec hlink h⟩) ⟨htime, hlink⟩

end Sys2Proof.Machine
end

section
/-! PROOFS. The state right after power-on: the laws hold of it, and its values are those of the Power-on columns. -/

namespace Sys2Proof.Machine

set_option Elab.async false

/-- The laws hold right after power-on: every table is empty and the part is in PASS. -/
theorem reset_laws :
    Mem.wf State.reset.dram = true ∧ State.reset.ordered = true ∧ State.reset.mapLaw = true ∧ State.reset.timeLaw = true
      ∧ State.reset.linkLaw = true ∧ State.reset.segmentLaw = true ∧ State.reset.callLaw = true
      ∧ State.reset.holdLaw = true := by
  decide

/-- A table without records gives every number the value without one. -/
theorem Tab.getD_nil {α : Type} (k : Nat) (d : α) : Tab.getD ([] : Tab α) k d = d := rfl

/-- Settles O7: the laws are evaluated, and each register of the one state is read off. -/
theorem powerOnState : Obligations.PowerOnState := by
  refine ⟨reset_laws, by decide, by decide, ?scn, by decide, by decide, ?sli, ?lne, ?rxr, by decide, ?chg⟩
  case scn => exact ⟨rfl, rfl, rfl, rfl, rfl, rfl, rfl, rfl, rfl, rfl, rfl, rfl, fun _ => rfl⟩
  case sli =>
    exact ⟨rfl, rfl, rfl, rfl, rfl, rfl, rfl, rfl, rfl, rfl, rfl, rfl, rfl, rfl, rfl, rfl, rfl, rfl, rfl, rfl, fun _ => rfl, rfl⟩
  case lne => exact ⟨fun _ => ⟨rfl, rfl, rfl, rfl, rfl⟩, rfl, rfl, rfl⟩
  case rxr => exact ⟨rfl, fun b => BitVec.getLsbD_zero, rfl⟩
  case chg =>
    exact ⟨rfl, rfl, rfl, rfl, fun _ => rfl, rfl, fun _ => rfl, fun _ => rfl, rfl, rfl, rfl, rfl, rfl, rfl⟩

end Sys2Proof.Machine
end

section
/-! PROOFS. Bus writes byte by byte: what the word holds after the enabled bytes are stored (R1, R193), plain writes and reads,
and accesses that are turned away (R2, R3). -/

namespace Sys2Proof.Machine

set_option Elab.async false

/-! ## Bytes of a word -/

theorem leNat_lt (bs : List Byte) : leNat bs < 256 ^ bs.length := by
  induction bs with
  | nil => simp [leNat]
  | cons b bs ih =>
    have := b.isLt
    simp only [leNat, List.length_cons, Nat.pow_succ]
    omega

/-- The bytes of the number that some bytes spell are those bytes. -/
theorem le_leNat (bs : List Byte) : le bs.length (leNat bs) = bs := by
  induction bs with
  | nil => rfl
  | cons b bs ih =>
    have hb : BitVec.ofNat 8 (b.toNat + 256 * leNat bs) = b := by
      have := b.isLt
      apply BitVec.eq_of_toNat_eq
      rw [BitVec.toNat_ofNat]
      omega
    have hrest : (b.toNat + 256 * leNat bs) / 256 = leNat bs := by
      have := b.isLt
      omega
    rw [List.length_cons, leNat, le, hb, hrest, ih]

/-- A number that fits `n` bytes is spelled by the `n` bytes that `le` gives it. -/
theorem eq_le_of_leNat {bs : List Byte} {v : Nat} (h : leNat bs = v) : bs = le bs.length v := by
  rw [← h, le_leNat]

theorem Mem.getElem_bytes (m : Mem) (a n i : Nat) (h : i < (Mem.bytes m a n).length) :
    (Mem.bytes m a n)[i] = Mem.get m (a + i) := by
  induction n generalizing a i with
  | zero => simp at h
  | succ n ih =>
    cases i with
    | zero => rfl
    | succ i =>
      have := ih (a + 1) i (by simpa using h)
      simpa [Mem.bytes, Nat.add_right_comm, Nat.add_assoc] using this

/-- One byte of a stretch of DRAM whose bytes are known. -/
theorem Mem.get_of_bytes {m : Mem} {a n : Nat} {bs : List Byte} (h : Mem.bytes m a n = bs) {i : Nat} (hi : i < n) :
    Mem.get m (a + i) = bs.getD i 0 := by
  subst h
  rw [List.getD_eq_getElem _ _ (by simpa using hi), Mem.getElem_bytes]

/-- The four bytes at an offset, written out. -/
theorem Mem.bytes_four (m : Mem) (a : Nat) :
    Mem.bytes m a 4 = [Mem.get m a, Mem.get m (a + 1), Mem.get m (a + 2), Mem.get m (a + 3)] := rfl

/-- Byte `i` of the word at an offset is DRAM's byte there. -/
theorem Mem.extract_word (m : Mem) (a : Nat) {i : Nat} (hi : i < 4) :
    (Mem.word m a).extractLsb' (8 * i) 8 = Mem.get m (a + i) := by
  have b0 := (Mem.get m a).isLt
  have b1 := (Mem.get m (a + 1)).isLt
  have b2 := (Mem.get m (a + 2)).isLt
  have b3 := (Mem.get m (a + 3)).isLt
  apply BitVec.eq_of_toNat_eq
  simp only [Mem.word, Mem.num, Mem.bytes_four, leNat, BitVec.extractLsb'_toNat, BitVec.toNat_ofNat, Nat.shiftRight_eq_div_pow]
  interval_cases i <;> norm_num <;> omega

/-! ## The enabled bytes reach DRAM (R1) -/

/-- The four bytes of the word at `off` after a bus write. -/
def State.bytesAfter (s : State) (off : Nat) (data : Word) (be : ByteEnables) : List Byte :=
  (List.range 4).map fun i => s.byteAfter off i data be

@[simp] theorem State.bytesAfter_length (s : State) (off : Nat) (data : Word) (be : ByteEnables) :
    (s.bytesAfter off data be).length = 4 := by
  simp [State.bytesAfter]

theorem State.wordAfter_eq (s : State) (off : Nat) (data : Word) (be : ByteEnables) :
    s.wordAfter off data be = leNat (s.bytesAfter off data be) := rfl

/-- The bytes that a bus write stores are the enabled ones of its data and DRAM's others. -/
theorem storeAccess_eq (w : Bool) (off : Nat) (data : Word) (be : ByteEnables) (s : State) :
    storeAccess ⟨w, off, data, be⟩ s = s.store off (s.bytesAfter off data be) := by
  have hbytes : ((List.range 4).map fun i => if be.getLsbD i then data.extractLsb' (8 * i) 8
      else (Mem.word s.dram off).extractLsb' (8 * i) 8) = s.bytesAfter off data be :=
    List.map_congr_left fun i hi => by
      rw [State.byteAfter, Mem.extract_word _ _ (by simpa using hi)]
  have hlt := leNat_lt (s.bytesAfter off data be)
  rw [storeAccess, mergeWord, hbytes, BitVec.toNat_ofNat, Nat.mod_eq_of_lt (by simpa using hlt)]
  rw [← s.bytesAfter_length off data be, le_leNat]

/-- After a bus write nothing but its word has changed, and that word byte by byte. -/
theorem storesWord_storeAccess (w : Bool) (off : Nat) (data : Word) (be : ByteEnables) (s : State) :
    StoresWord s (storeAccess ⟨w, off, data, be⟩ s) off data be := by
  have hself := Mem.bytes_write_self s.dram off (s.bytesAfter off data be)
  rw [storeAccess_eq]
  refine ⟨rfl, fun i hi => ?_, ?_⟩
  · rw [State.store_dram, Mem.get_of_bytes hself (by simpa using hi),
      List.getD_eq_getElem _ _ (by simpa using hi)]
    simp [State.bytesAfter]
  · have := unchangedOutside_write s.dram off (s.bytesAfter off data be)
    rwa [State.bytesAfter_length] at this

/-- The word that a bus write leaves, read back as a number. -/
theorem num_storeAccess (w : Bool) (off : Nat) (data : Word) (be : ByteEnables) (s : State) :
    Mem.num (storeAccess ⟨w, off, data, be⟩ s).dram off 4 = s.wordAfter off data be := by
  have hself := Mem.bytes_write_self s.dram off (s.bytesAfter off data be)
  rw [State.bytesAfter_length] at hself
  rw [storeAccess_eq, State.store_dram, Mem.num, hself, State.wordAfter_eq]

/-! ## Plain writes (R1, R5, R11) -/

theorem windowWrite_of_pass {s : State} {a : BusAccess} (hpass : s.rgw.state = .pass) :
    windowWrite a s = if a.off = 0x3C then commitWritten (storeAccess a s) else storeAccess a s := by
  rw [windowWrite, if_pos hpass]

theorem passWrite_of_noRawSlot {s : State} {a : BusAccess} (h : s.rawSlot a.off = none) : passWrite a s = storeAccess a s := by
  have : (storeAccess a s).rawSlot a.off = none := h
  simp [passWrite, rawWatch, this]

/-- Outside PASS a write to a word that nothing watches and no raw slot holds passes. -/
theorem windowWrite_of_plain {s : State} {a : BusAccess} (hpass : s.rgw.state ≠ .pass) (hown : s.partOwned a.off = false)
    (hcommit : a.off ≠ 0x3C) (hcmd : a.off ≠ s.cfg.cmdBase) (hev : a.off ≠ s.cfg.evBase) (hraw : s.rawSlot a.off = none) :
    windowWrite a s = storeAccess a s := by
  have hlap : s.lapping a.off = none := by simp [State.lapping, hraw]
  rw [windowWrite, if_neg hpass, regionWrite, if_neg hcommit, hown, if_neg Bool.false_ne_true,
    if_neg fun h => hcmd h.1, if_neg hev]
  simp only [hlap]
  exact passWrite_of_noRawSlot hraw

/-- Settles O9: a ready write is the RGW's, which lets a plain one pass. -/
theorem plainWrites : Obligations.PlainWrites := by
  refine ⟨fun off data be s hready hpass hcommit hbe => ?_,
    fun off data be s hready hpass hown hbe hcommit hcmd hev hraw => ?_⟩
  · refine ⟨_, ?_, storesWord_storeAccess true (wordOffset off) data be s⟩
    rw [exec_busWrite, smpWrite_of_ready hready hbe, windowWrite_of_pass hpass, if_neg hcommit]
  · refine ⟨_, ?_, storesWord_storeAccess true (wordOffset off) data be s⟩
    rw [exec_busWrite, smpWrite_of_ready hready hbe, windowWrite_of_plain hpass hown hcommit hcmd hev hraw]

/-! ## Reads, and accesses that are turned away (R1 to R3) -/

/-- While RESETn is low or the DRAM is being initialised an access is held. -/
theorem smpAccess_of_notReady {s : State} (hheld : s.smp.held = none) (hphase : s.phase = .resetLow ∨ s.phase = .initialising)
    (a : BusAccess) : smpAccess a s = { s with smp := { s.smp with held := some ⟨a, .reset, 0⟩ } } := by
  obtain h | h := hphase <;> simp [smpAccess, hheld, h]

theorem writeAhead_of_outside {s : State} {a : BusAccess} (h : s.windowBytes ≤ a.off) : writeAhead a s = s := by
  rw [writeAhead, if_pos h, ite_self]

theorem readAhead_of_outside {s : State} {a : BusAccess} (hbe : a.be ≠ 0) (h : s.windowBytes ≤ a.off) :
    readAhead a s = { s with smp := { s.smp with busData := 0 } } := by
  rw [readAhead, if_neg hbe, if_pos h]

/-- Settles O10: a ready read of a plain word finishes with DRAM's word; outside the window a write meets nothing and a read
zero; before the part is up every access is held. -/
theorem plainReadsAndTurnedAwayAccesses : Obligations.PlainReadsAndTurnedAwayAccesses := by
  refine ⟨fun off be s hready hbe hslot => ⟨?_, rfl⟩,
    fun off data be s hheld => ⟨fun hup hout => ⟨?_, fun hbe => ?_⟩, fun hphase => ⟨?_, ?_⟩⟩⟩
  · rw [exec_earlyRead, smpRead_of_noPrintSlot hready hbe hslot, Mem.word]
  · rw [exec_busWrite, smpWrite, smpAccess_of_up hup hheld, goAhead, if_pos rfl, writeAhead_of_outside hout]
  · have hread : smpRead off be s = { s with smp := { s.smp with busData := 0 } } := by
      rw [smpRead, smpAccess_of_up hup hheld, goAhead, if_neg Bool.false_ne_true, readAhead_of_outside hbe hout]
    exact ⟨congrArg _ hread, congrArg _ hread⟩
  · rw [exec_busWrite, smpWrite, smpAccess_of_notReady hheld hphase]
  · rw [exec_earlyRead, smpRead, smpAccess_of_notReady hheld hphase]

end Sys2Proof.Machine
end

section
/-! PROOFS. The event stream (R31 to R37) and the answer of a command (R25, R30): an event record in the ring, where an event
goes, and how the pending-event queue and a held-back WITHDRAWN are served. -/

namespace Sys2Proof.Machine

set_option Elab.async false

/-! ## Arithmetic of DRAM words -/

@[simp] theorem u8_length (v : Nat) : (u8 v).length = 1 := rfl

@[simp] theorem zeros_length (n : Nat) : (zeros n).length = n := List.length_replicate

theorem Mem.num_write_le4 (m : Mem) (b v : Nat) : Mem.num (Mem.write m b (le 4 v)) b 4 = v % 4294967296 :=
  Mem.num_write_self m b 4 v

/-! ## An event record in the ring (R32) -/

@[simp] theorem Event.bytes_length (e : Event) : e.bytes.length = 16 := rfl

/-- The CEU after a record has been written at its tail. -/
def Ceu.wrote (c : Ceu) (e : Event) (recCount : Nat) : Ceu :=
  { c with evTail := (c.evTail + 1) % recCount, attn := true, withdrawnWritten := c.withdrawnWritten || e.kind == .withdrawn }

theorem writeRecord_eq (e : Event) (s : State) :
    writeRecord e s = { s with ceu := s.ceu.wrote e s.cfg.recCount, dram := (writeRecord e s).dram } := rfl

theorem writeRecord_dram (e : Event) (s : State) :
    (writeRecord e s).dram = Mem.write (Mem.write s.dram (s.cfg.evBase + 64 + 16 * s.ceu.evTail) e.bytes) (s.cfg.evBase + 4)
      (le 4 ((s.ceu.evTail + 1) % s.cfg.recCount)) := rfl

@[simp] theorem writeRecord_ceu (e : Event) (s : State) : (writeRecord e s).ceu = s.ceu.wrote e s.cfg.recCount := rfl

theorem writeRecord_record (e : Event) (s : State) :
    Mem.bytes (writeRecord e s).dram (s.cfg.evBase + 64 + 16 * s.ceu.evTail) 16 = e.bytes := by
  rw [writeRecord_dram, Mem.bytes_write_of_disjoint _ _ _ _ _ (.inr (by simp; omega))]
  exact Mem.bytes_write_self _ _ e.bytes

theorem writeRecord_tailWord (e : Event) (s : State) :
    Mem.num (writeRecord e s).dram (s.cfg.evBase + 4) 4 = (s.ceu.evTail + 1) % s.cfg.recCount % 4294967296 :=
  Mem.num_write_le4 ..

theorem unchangedOutside_writeRecord (e : Event) (s : State) :
    unchangedOutside [(s.cfg.evBase + 64 + 16 * s.ceu.evTail, 16), (s.cfg.evBase + 4, 4)] s.dram (writeRecord e s).dram :=
  (unchangedOutside_write s.dram _ e.bytes).trans (unchangedOutside_write _ (s.cfg.evBase + 4) (le 4 _))

/-! ## Where an event goes (R32, R34, R35) -/

theorem deliverEvent_of_withdrawn {s : State} (h : s.ceu.withdrawnWritten = true) (e : Event) : deliverEvent e s = s := by
  rw [deliverEvent, if_pos h]

/-- With room in the ring and nothing queued the event is written. -/
theorem deliverEvent_of_room {s : State} (hw : s.ceu.withdrawnWritten = false) (hroom : s.ringFull = false)
    (hq : s.ceu.queue = []) (e : Event) :
    deliverEvent e s = writeRecord (s.kept e) { s with ceu := { s.ceu with discard := 0 } } := by
  simp [deliverEvent, hw, hroom, hq]

theorem deliverEvent_noRoom_cond {s : State} (h : s.ringFull = true ∨ s.ceu.queue ≠ []) :
    (!s.ringFull && s.ceu.queue.isEmpty) = false := by
  obtain h | h := h <;> simp [h]

/-- Otherwise the event joins the queue while a place is open to it. -/
theorem deliverEvent_of_place {s : State} (hw : s.ceu.withdrawnWritten = false) (h : s.ringFull = true ∨ s.ceu.queue ≠ [])
    {e : Event} (hplace : s.ceu.queue.length < s.openPlaces e.kind) :
    deliverEvent e s = { s with ceu := { s.ceu with queue := s.ceu.queue ++ [s.kept e], discard := 0 } } := by
  simp [deliverEvent, hw, deliverEvent_noRoom_cond h, hplace]

/-- With no place open a WITHDRAWN is held back. -/
theorem deliverEvent_of_heldBack {s : State} (hw : s.ceu.withdrawnWritten = false) (h : s.ringFull = true ∨ s.ceu.queue ≠ [])
    {e : Event} (hplace : s.openPlaces e.kind ≤ s.ceu.queue.length) (hk : e.kind = .withdrawn) :
    deliverEvent e s = { s with ceu := { s.ceu with withdrawnHeld := some e } } := by
  rw [deliverEvent, if_neg (by simp [hw]), if_neg (by simp [deliverEvent_noRoom_cond h]), if_neg (Nat.not_lt.2 hplace),
    if_pos hk]

/-- With no place open any other event is discarded and counted. -/
theorem deliverEvent_of_discarded {s : State} (hw : s.ceu.withdrawnWritten = false)
    (h : s.ringFull = true ∨ s.ceu.queue ≠ []) {e : Event} (hplace : s.openPlaces e.kind ≤ s.ceu.queue.length)
    (hk : e.kind ≠ .withdrawn) : deliverEvent e s = { s with ceu := { s.ceu with discard := min (s.ceu.discard + 1) 255 } } := by
  rw [deliverEvent, if_neg (by simp [hw]), if_neg (by simp [deliverEvent_noRoom_cond h]), if_neg (Nat.not_lt.2 hplace),
    if_neg hk]

/-- Wherever it goes, an event changes the CEU and DRAM alone. -/
theorem deliverEvent_frame (e : Event) (s : State) :
    deliverEvent e s = { s with ceu := (deliverEvent e s).ceu, dram := (deliverEvent e s).dram } := by
  unfold deliverEvent
  split
  · rfl
  · split
    · rfl
    · split
      · rfl
      · split <;> rfl

/-- The CEU after an event depends on the map, the CEU and the event alone. -/
theorem deliverEvent_ceu_congr {s t : State} (hr : t.rgw = s.rgw) (hc : t.ceu = s.ceu) (e : Event) :
    (deliverEvent e t).ceu = (deliverEvent e s).ceu := by
  have hcfg : t.cfg = s.cfg := by rw [State.cfg, hr, State.cfg]
  have hfull : t.ringFull = s.ringFull := by rw [State.ringFull, State.unread, hcfg, hc, State.ringFull, State.unread]
  have hopen : t.openPlaces e.kind = s.openPlaces e.kind := by rw [State.openPlaces, hc, State.openPlaces]
  have hkept : t.kept e = s.kept e := by rw [State.kept, hc, State.kept]
  unfold deliverEvent
  rw [hfull, hc, hopen, hkept]
  split
  · exact hc
  · split
    · rw [writeRecord_ceu, writeRecord_ceu]
      exact congrArg _ (congrArg Anchor.recCount hcfg)
    · split
      · rfl
      · split <;> rfl

theorem post_ceu_congr {s t : State} (hr : t.rgw = s.rgw) (hc : t.ceu = s.ceu) (hs : t.chg.seconds = s.chg.seconds)
    (kind : EventKind) (src : SourceKind) (idx code value : Nat) :
    (post kind src idx code value t).ceu = (post kind src idx code value s).ceu := by
  unfold post postTagged
  rw [hr, hs]
  split
  · exact hc
  · exact deliverEvent_ceu_congr hr hc _

theorem postTagged_of_notPass {s : State} (h : s.rgw.state ≠ .pass) (kind : EventKind) (src : SourceKind)
    (idx tag code value : Nat) :
    postTagged kind src idx tag code value s
      = deliverEvent { kind, src, idx, tag, code, lost := 0, time := s.chg.seconds, value } s := by
  rw [postTagged, if_neg h]

/-! ## Serving the queue (R33 to R35, R37) -/

/-- What the queue holds, and a WITHDRAWN held back, have no part in how a list of events is written out. -/
theorem drainQueue_queue (es q : List Event) (s : State) :
    drainQueue es { s with ceu := { s.ceu with queue := q } } = drainQueue es s := by
  induction es generalizing s with
  | nil => rfl
  | cons e es ih =>
    rw [drainQueue, drainQueue]
    refine if_congr Iff.rfl rfl (if_congr Iff.rfl rfl ?_)
    exact ih (writeRecord e s)

theorem drainQueue_withdrawnHeld (es : List Event) (w : Option Event) (s : State) :
    drainQueue es { s with ceu := { s.ceu with withdrawnHeld := w } }
      = { drainQueue es s with ceu := { (drainQueue es s).ceu with withdrawnHeld := w } } := by
  induction es generalizing s with
  | nil => rfl
  | cons e es ih =>
    rw [drainQueue, drainQueue]
    by_cases hw : s.ceu.withdrawnWritten = true
    · rw [if_pos hw, if_pos hw]
    · rw [if_neg hw, if_neg hw]
      by_cases hfull : s.ringFull = true
      · rw [if_pos hfull]
        exact if_pos hfull
      · rw [if_neg hfull]
        exact (if_neg hfull).trans (ih (writeRecord e s))

theorem drainQueue_keeps_withdrawnHeld (es : List Event) (s : State) :
    (drainQueue es s).ceu.withdrawnHeld = s.ceu.withdrawnHeld := by
  have h := congrArg (fun t : State => t.ceu.withdrawnHeld) (drainQueue_withdrawnHeld es s.ceu.withdrawnHeld s)
  exact h

theorem placeWithdrawn_of_none {s : State} (h : s.ceu.withdrawnHeld = none) : placeWithdrawn s = s := by
  rw [placeWithdrawn, h]

/-- With nothing held back, serving is writing out the queue. -/
theorem serveQueue_of_none {s : State} (h : s.ceu.withdrawnHeld = none) : serveQueue s = drainQueue s.ceu.queue s :=
  placeWithdrawn_of_none ((drainQueue_keeps_withdrawnHeld ..).trans h)

/-- A WITHDRAWN held back reaches the CEU again once the rest has been served without it. -/
theorem serveQueue_of_held {s : State} {e : Event} (h : s.ceu.withdrawnHeld = some e) :
    serveQueue s = deliverEvent e (serveQueue { s with ceu := { s.ceu with withdrawnHeld := none } }) := by
  have hheld : (drainQueue s.ceu.queue s).ceu.withdrawnHeld = some e := (drainQueue_keeps_withdrawnHeld ..).trans h
  have hnone : { s with ceu := { s.ceu with withdrawnHeld := none } }.ceu.withdrawnHeld = none := rfl
  rw [serveQueue_of_none hnone, drainQueue_withdrawnHeld, serveQueue, placeWithdrawn, hheld]

/-- Settles O18: the branches of the event's way in, and of the serving of the queue, one by one. -/
theorem eventStream : Obligations.EventStream := by
  refine ⟨?posted, fun s hheld => ⟨fun hw => ?lost, fun hw => ⟨fun hfull hq => ?_,
    fun e es hroom hq => ?_, fun hq => ?_⟩⟩, ?held⟩
  case posted =>
    intro kind src idx tag code value s hpass e t
    have ht : t = deliverEvent { kind, src, idx, tag, code, lost := 0, time := s.chg.seconds, value } s :=
      postTagged_of_notPass hpass ..
    rw [ht]
    refine ⟨fun hw => deliverEvent_of_withdrawn hw _, fun hw => ⟨deliverEvent_frame _ s, fun hroom hq => ?_, fun hfull =>
      ⟨?_, fun hplace => ?_, fun hplace hk => ?_, fun hplace hk => ?_⟩⟩⟩
    · rw [deliverEvent_of_room hw hroom hq]
      exact ⟨writeRecord_record e _, rfl, writeRecord_tailWord e _, rfl, rfl, hq, unchangedOutside_writeRecord e _⟩
    · rw [deliverEvent, if_neg (by simp [hw]), if_neg (by simp [deliverEvent_noRoom_cond hfull])]
      split
      · rfl
      · split <;> rfl
    · rw [deliverEvent_of_place hw hfull hplace]; rfl
    · rw [deliverEvent_of_heldBack hw hfull hplace hk]
    · rw [deliverEvent_of_discarded hw hfull hplace hk]
  case lost =>
    rw [serveQueue_of_none hheld]
    cases s.ceu.queue with
    | nil => rfl
    | cons e es => rw [drainQueue, if_pos hw]
  · rw [serveQueue_of_none hheld]
    obtain ⟨e, es, hes⟩ := List.exists_cons_of_ne_nil hq
    rw [hes, drainQueue, if_neg (by simp [hw]), if_pos hfull, ← hes]
  · have hrest := drainQueue_queue es es (writeRecord e s)
    have hserved := serveQueue_of_none (s := writeRecord e { s with ceu := { s.ceu with queue := es } }) hheld
    rw [serveQueue_of_none hheld, hserved, hq, drainQueue, if_neg (by simp [hw]), if_neg (by simp [hroom])]
    exact hrest.symm
  · rw [serveQueue_of_none hheld, hq, drainQueue, ← hq]
  case held =>
    intro e s hheld hkind v kept
    have hserve : serveQueue s = deliverEvent e v := serveQueue_of_held hheld
    rw [hserve]
    refine ⟨fun hw => deliverEvent_of_withdrawn hw e, fun hw => ⟨fun hroom hq => ?_, fun hfull => ⟨fun hplace => ?_,
      fun hplace => ?_⟩⟩⟩
    · dsimp only
      rw [deliverEvent_of_room hw hroom hq]
      refine ⟨?_, writeRecord_record kept _, writeRecord_tailWord kept _, unchangedOutside_writeRecord kept _⟩
      rw [writeRecord_eq]
      simp [Ceu.wrote, State.kept, hkind]
      rfl
    · exact deliverEvent_of_place hw hfull (hkind ▸ hplace)
    · exact deliverEvent_of_heldBack hw hfull (hkind ▸ hplace) hkind

/-! ## A map that passed its checks (R7) -/

/-- What the checks of a map give: the ring sizes, the window, and that the head word of the command ring lies apart from the
event ring. -/
theorem Anchor.passed_rings {a : Anchor} {w : Nat} (h : a.passed w = true) :
    (0 < a.slotCount ∧ a.slotCount ≤ 256) ∧ (0 < a.recCount ∧ a.recCount ≤ 1024)
      ∧ (a.cmdBase + (a.slotCount + 1) * 64 ≤ a.evBase ∨ a.evBase + (64 + 16 * a.recCount) ≤ a.cmdBase) := by
  simp only [Anchor.passed, Bool.and_eq_true] at h
  obtain ⟨⟨⟨⟨⟨⟨⟨⟨hformat, -⟩, -⟩, hapart⟩, -⟩, -⟩, -⟩, -⟩, -⟩ := h
  simp only [Anchor.formatOk, Bool.and_eq_true, List.contains_iff_mem, List.mem_cons, List.not_mem_nil, or_false] at hformat
  obtain ⟨⟨⟨⟨⟨⟨⟨-, hslots⟩, hrecs⟩, -⟩, -⟩, -⟩, -⟩, -⟩ := hformat
  simp only [Anchor.apartOk, Anchor.regions, allApart, apart, List.all_cons, Bool.and_eq_true, Bool.or_eq_true,
    decide_eq_true_eq] at hapart
  obtain ⟨-, ⟨hapart, -⟩, -⟩ := hapart
  exact ⟨by omega, by omega, hapart⟩

/-- A state whose map passed holds an anchor that did. -/
theorem State.cfg_passed {s : State} (h : s.mapPassed = true) : s.cfg.passed s.windowBytes = true := by
  unfold State.mapPassed at h
  unfold State.cfg
  split at h
  · cases h
  next hc => rw [hc]; exact h

/-! ## The answer of a command (R25, R30) -/

/-- The state as the answer's event finds it: the head has moved on and its word is written. -/
def State.headMoved (s : State) : State :=
  { s with ceu := { s.ceu with head := (s.ceu.head + 1) % s.cfg.slotCount },
           dram := Mem.write s.dram (s.cfg.cmdBase + 4) (le 4 ((s.ceu.head + 1) % s.cfg.slotCount)) }

theorem finishCommand_eq {s : State} (hpass : s.rgw.state ≠ .pass) (tag : Nat) (r : Reply) :
    finishCommand tag r s =
      (let u := deliverEvent { kind := .commandDone, src := r.src, idx := r.idx, tag, code := r.result.code, lost := 0,
                               time := s.chg.seconds, value := r.value } s.headMoved
      { u with ceu := { u.ceu with carrying := false } }) := by
  have h := postTagged_of_notPass (s := s.headMoved) hpass .commandDone r.src r.idx tag r.result.code r.value
  exact congrArg (fun u : State => { u with ceu := { u.ceu with carrying := false } }) h

/-- With a map that passed, the head word lies apart from the event ring's record at the tail and from its tail word. -/
theorem headWord_apart {u : State} (hmap : u.mapPassed = true) (htail : u.ceu.evTail < u.cfg.recCount) :
    (u.cfg.cmdBase + 4 + 4 ≤ u.cfg.evBase + 64 + 16 * u.ceu.evTail ∨ u.cfg.evBase + 64 + 16 * u.ceu.evTail + 16 ≤ u.cfg.cmdBase + 4)
      ∧ (u.cfg.cmdBase + 4 + 4 ≤ u.cfg.evBase + 4 ∨ u.cfg.evBase + 4 + 4 ≤ u.cfg.cmdBase + 4) := by
  obtain ⟨⟨hslots, -⟩, -, hapart⟩ := Anchor.passed_rings (State.cfg_passed hmap)
  omega

/-- The new head, as its word holds it. -/
theorem headMoved_headWord {u : State} (hmap : u.mapPassed = true) :
    Mem.num u.headMoved.dram (u.cfg.cmdBase + 4) 4 = (u.ceu.head + 1) % u.cfg.slotCount := by
  obtain ⟨⟨hslots, hmost⟩, -, -⟩ := Anchor.passed_rings (State.cfg_passed hmap)
  have hlt : (u.ceu.head + 1) % u.cfg.slotCount < 4294967296 := (Nat.mod_lt _ hslots).trans_le (by omega)
  exact (Mem.num_write_le4 ..).trans (Nat.mod_eq_of_lt hlt)

theorem unchangedOutside_headMoved (u : State) : unchangedOutside [(u.cfg.cmdBase + 4, 4)] u.dram u.headMoved.dram :=
  unchangedOutside_write _ _ (le 4 _)

/-- With ring or queue in the way, a COMMAND_DONE finds a place in a queue of fewer than 32. -/
theorem openPlaces_commandDone (s : State) : s.openPlaces .commandDone = 32 := by
  simp [State.openPlaces]

/-- Settles O19: the answer moves the head and delivers COMMAND_DONE, which goes into the ring or the queue. -/
theorem commandDone : Obligations.CommandDone := by
  intro r s u hmap hpass hw hlen htail e t
  have ht : t = { deliverEvent { e with lost := 0 } u.headMoved with
      ceu := { (deliverEvent { e with lost := 0 } u.headMoved).ceu with carrying := false } } :=
    finishCommand_eq hpass _ r
  have hheadWord := headMoved_headWord hmap
  have hheadFrame := unchangedOutside_headMoved u
  rw [ht]
  clear_value t
  by_cases hroom : u.ringFull = false ∧ u.ceu.queue = []
  · obtain ⟨hring, hq⟩ := hroom
    obtain ⟨hrecord, htailWord⟩ := headWord_apart hmap htail
    have hdeliver := deliverEvent_of_room (s := u.headMoved) hw hring hq { e with lost := 0 }
    have hframe := unchangedOutside_writeRecord e { u.headMoved with ceu := { u.headMoved.ceu with discard := 0 } }
    have hkept : u.headMoved.kept { e with lost := 0 } = e := rfl
    rw [hdeliver, hkept]
    refine ⟨rfl, rfl, ?_, rfl, rfl, rfl, fun _ => ⟨writeRecord_record e _, rfl, rfl, hq⟩, fun h => ?_, hheadFrame.trans hframe⟩
    · rw [writeRecord_dram, Mem.num_write_of_disjoint _ _ _ _ _ (by rw [le_length]; exact htailWord),
        Mem.num_write_of_disjoint _ _ _ _ _ (by rw [Event.bytes_length]; exact hrecord)]
      exact hheadWord
    · obtain h | h := h
      · exact absurd (hring.symm.trans h) Bool.false_ne_true
      · exact absurd hq h
  · have hfull : u.headMoved.ringFull = true ∨ u.headMoved.ceu.queue ≠ [] := by
      by_cases hring : u.ringFull = true
      · exact .inl hring
      · exact .inr fun hq => hroom ⟨Bool.eq_false_iff.2 hring, hq⟩
    have hdeliver := deliverEvent_of_place (s := u.headMoved) hw hfull (e := { e with lost := 0 })
      ((openPlaces_commandDone _).symm ▸ hlen)
    have hkept : u.headMoved.kept { e with lost := 0 } = e := rfl
    rw [hdeliver, hkept]
    exact ⟨rfl, rfl, hheadWord, rfl, rfl, rfl, fun h => absurd h hroom, fun _ => rfl,
      hheadFrame.mono fun q hq a ha => ⟨q, List.mem_cons.2 (.inl (List.mem_singleton.1 hq)), ha⟩⟩

end Sys2Proof.Machine
end

section
/-! PROOFS. How the CEU takes command slots (R22 to R29), the watched words of the two rings (R23, R33) and CLEAR_PATH_COUNT
(R13). -/

namespace Sys2Proof.Machine

set_option Elab.async false

/-! ## Taking a slot (R24, R29) -/

/-- Every row of the table of commands takes its slot through `takeIf`, and a slot with a wrong count is any row's of its
kind. -/
theorem exec_commandTable {c : Instr} {kind need : Nat} (h : (c, kind, need) ∈ commandTable) (s : State) :
    ∃ mine body, exec c s = .next (takeIf kind need mine body s)
      ∧ ∀ sl : Slot, 14 < sl.count ∨ sl.count < need → mine sl = true := by
  have hwhole (sl : Slot) (n : Nat) (hc : 14 < sl.count ∨ sl.count < n) : sl.whole n = false := by
    rw [Slot.whole, Bool.and_eq_false_iff, decide_eq_false_iff_not, decide_eq_false_iff_not]
    omega
  have hmine {mine : Slot → Bool} (hm : ∀ sl : Slot, sl.whole need = false → mine sl = true) :
      ∀ sl : Slot, 14 < sl.count ∨ sl.count < need → mine sl = true := fun sl hc => hm sl (hwhole sl need hc)
  simp only [commandTable, List.mem_cons, List.not_mem_nil, Prod.mk.injEq] at h
  iterate 41
    obtain ⟨rfl, rfl, rfl⟩ | h := h
    · exact ⟨_, _, rfl, hmine fun sl hsl => by simp [filterRow, hsl]⟩
  exact h.elim

theorem takeIf_of_refused {kind need : Nat} {mine : Slot → Bool} {s : State} (htake : s.canTake = true)
    (hkind : s.headSlot.kind = kind) (hmine : mine s.headSlot = true) (body : Slot → State → State × Reply) :
    takeIf kind need mine body s
      = s.answered (checkedBody need s.headSlot body s.carry).2 (checkedBody need s.headSlot body s.carry).1 := by
  rw [takeIf, if_pos (by simp [htake, hkind, hmine])]
  rfl

theorem takeIf_of_waits {kind need : Nat} {mine : Slot → Bool} {s : State}
    (h : s.canTake = false ∨ s.headSlot.kind ≠ kind) (body : Slot → State → State × Reply) :
    takeIf kind need mine body s = s := by
  rw [takeIf, if_neg]
  obtain h | h := h <;> simp [h]

/-- The CEU may not take a slot while one of its conditions does not hold. -/
theorem canTake_of_waits {s : State} (h : s.rgw.state ≠ .run ∨ s.ceu.accepted = false ∨ s.ceu.head = s.ceu.tail
    ∨ s.ceu.carrying = true ∨ s.ceu.queue ≠ []) : s.canTake = false := by
  obtain h | h | h | h | h := h <;> simp [State.canTake, State.isRun, h]

/-- The kinds of the table of commands are those that the part knows. -/
theorem knownKinds_iff (k : Nat) : k ∈ knownKinds ↔ k ∈ commandTable.map fun r => r.2.1 := by
  simp [knownKinds, commandTable]

/-- Settles O20: the checks of the count come before the body, and a row that may not take the slot leaves the state. -/
theorem commandTaking : Obligations.CommandTaking := by
  refine ⟨⟨fun c kind need s hc htake hkind => ⟨fun hmost => ?_, fun hmost hshort => ?_⟩, fun s htake hunknown => ?_⟩,
    fun c kind need s hc hwait => ?_, fun s hwait => ?_⟩
  · obtain ⟨mine, body, hexec, hmine⟩ := exec_commandTable hc s
    rw [hexec, takeIf_of_refused htake hkind (hmine _ (.inl hmost)), checkedBody, if_pos hmost]
  · obtain ⟨mine, body, hexec, hmine⟩ := exec_commandTable hc s
    rw [hexec, takeIf_of_refused htake hkind (hmine _ (.inr hshort)), checkedBody, if_neg (Nat.not_lt.2 hmost), if_pos hshort]
  · have hkind : knownKinds.contains s.headSlot.kind = false := by
      rw [← Bool.not_eq_true, List.contains_iff_mem, knownKinds_iff]
      exact hunknown
    rw [exec_unknownCommandKind, if_pos (by simp only [htake, hkind]; rfl)]
    rfl
  · obtain ⟨mine, body, hexec, -⟩ := exec_commandTable hc s
    rw [hexec, takeIf_of_waits]
    obtain h | h | h | h | h | h := hwait
    all_goals first | exact .inr h | exact .inl (canTake_of_waits (by simp [h]))
  · have hcond : (s.canTake && !knownKinds.contains s.headSlot.kind) = false := by
      obtain h | h | h | h | h | h := hwait
      case inr.inr.inr.inr.inr => simp [(knownKinds_iff _).2 h]
      all_goals rw [canTake_of_waits (by simp [h])]; rfl
    rw [exec_unknownCommandKind, hcond, if_neg Bool.false_ne_true]

/-! ## The watched words of the two rings (R23, R33) -/

/-- Outside PASS a write is one of a region, and one to a word that is not part-owned is not dropped. -/
theorem windowWrite_of_notOwned {s : State} {a : BusAccess} (hpass : s.rgw.state ≠ .pass)
    (hown : s.partOwned a.off = false) : windowWrite a s = regionWrite a s ∧ ¬ s.partOwned a.off = true :=
  ⟨by rw [windowWrite, if_neg hpass], by rw [hown]; exact Bool.false_ne_true⟩

/-- In RUN a write to the command ring tail word is stored, and the CEU looks at it. -/
theorem windowWrite_of_tailWord {s : State} {a : BusAccess} (hpass : s.rgw.state ≠ .pass) (hcommit : a.off ≠ 0x3C)
    (hown : s.partOwned a.off = false) (hoff : a.off = s.cfg.cmdBase) (hrun : s.isRun = true) :
    windowWrite a s = tailWritten (Mem.num (storeAccess a s).dram a.off 4) (storeAccess a s) := by
  obtain ⟨hregion, howned⟩ := windowWrite_of_notOwned hpass hown
  rw [hregion, regionWrite, if_neg hcommit, if_neg howned, if_pos ⟨hoff, hrun⟩]

/-- A write to the event ring head word is stored, and the CEU looks at it. -/
theorem windowWrite_of_headWord {s : State} {a : BusAccess} (hpass : s.rgw.state ≠ .pass) (hcommit : a.off ≠ 0x3C)
    (hown : s.partOwned a.off = false) (hcmd : a.off ≠ s.cfg.cmdBase) (hoff : a.off = s.cfg.evBase) :
    windowWrite a s = headWritten (Mem.num (storeAccess a s).dram a.off 4) (storeAccess a s) := by
  obtain ⟨hregion, howned⟩ := windowWrite_of_notOwned hpass hown
  rw [hregion, regionWrite, if_neg hcommit, if_neg howned, if_neg fun h => hcmd h.1, if_pos hoff]

/-- A write to a word that neither ring watches and that laps no waiting slot passes. -/
theorem windowWrite_of_unwatched {s : State} {a : BusAccess} (hpass : s.rgw.state ≠ .pass) (hcommit : a.off ≠ 0x3C)
    (hown : s.partOwned a.off = false) (hcmd : ¬ (a.off = s.cfg.cmdBase ∧ s.isRun = true)) (hev : a.off ≠ s.cfg.evBase)
    (hlap : s.lapping a.off = none) : windowWrite a s = passWrite a s := by
  obtain ⟨hregion, howned⟩ := windowWrite_of_notOwned hpass hown
  rw [hregion, regionWrite, if_neg hcommit, if_neg howned, if_neg hcmd, if_neg hev]
  simp only [hlap]

/-- Where the regions of a map that passed lie: past the anchor, each apart from the others. -/
theorem Anchor.passed_regions {a : Anchor} {w : Nat} (h : a.passed w = true) :
    (64 ≤ a.cmdBase ∧ 64 ≤ a.evBase ∧ 64 ≤ a.porBase)
      ∧ (a.cmdBase + (a.slotCount + 1) * 64 ≤ a.evBase ∨ a.evBase + (64 + 16 * a.recCount) ≤ a.cmdBase)
      ∧ (a.cmdBase + (a.slotCount + 1) * 64 ≤ a.porBase ∨ a.porBase + a.porSize ≤ a.cmdBase)
      ∧ (a.evBase + (64 + 16 * a.recCount) ≤ a.porBase ∨ a.porBase + a.porSize ≤ a.evBase) := by
  have hsize : a.porSize ≠ 0 := by
    intro e
    simp [Anchor.passed, Anchor.formatOk, e] at h
  obtain ⟨-, -, hcmdev⟩ := Anchor.passed_rings h
  simp only [Anchor.passed, Bool.and_eq_true] at h
  obtain ⟨⟨⟨⟨⟨⟨-, hapart⟩, -⟩, -⟩, -⟩, -⟩, -⟩ := h
  simp only [Anchor.apartOk, Anchor.regions, allApart, apart, List.all_cons, Bool.and_eq_true, Bool.or_eq_true,
    decide_eq_true_eq] at hapart
  obtain ⟨⟨hcmd, hev, -, -, hpor, -⟩, ⟨-, -, -, hcmdpor, -⟩, ⟨-, -, hevpor, -⟩, -⟩ := hapart
  exact ⟨⟨by omega, by omega, by omega⟩, hcmdev, hcmdpor, hevpor⟩

/-- With a map that passed, the index words that software writes are not part-owned. -/
theorem indexWords_notOwned {s : State} (hmap : s.mapPassed = true) :
    s.partOwned s.cfg.cmdBase = false ∧ s.partOwned s.cfg.evBase = false := by
  obtain ⟨⟨hslots, -⟩, ⟨hrecs, -⟩, -⟩ := Anchor.passed_rings (State.cfg_passed hmap)
  obtain ⟨⟨hcmd, hev, -⟩, hce, hcp, hep⟩ := Anchor.passed_regions (State.cfg_passed hmap)
  simp only [State.partOwned, Bool.or_eq_false_iff, Bool.and_eq_false_iff, decide_eq_false_iff_not, beq_eq_false_iff_ne]
  omega

/-- The tail word lies in no raw slot, as it lies in no scan ring; its write is watched by nothing else in WITHDRAWING. -/
theorem lapping_of_notRun {s : State} (h : s.isRun = false) (off : Nat) : s.lapping off = none := by
  unfold State.lapping
  split
  · rfl
  · simp [h]

theorem passWrite_of_notRun {s : State} {a : BusAccess} (h : s.rgw.state ≠ .run) : passWrite a s = storeAccess a s := by
  have hrun : (storeAccess a s).rgw.state ≠ .run := h
  unfold passWrite rawWatch
  split
  · rfl
  · rw [if_pos hrun]

/-- Settles O16: a ready write to one of the two words stores it and the CEU looks at the index it then holds. -/
theorem ringIndexWrites : Obligations.RingIndexWrites := by
  refine ⟨fun off data be s hready hmap hbe hoff hpass => ?_, fun off data be s hready hmap hbe hoff hpass => ?_,
    fun _ => ⟨rfl, rfl⟩⟩
  · obtain ⟨hown, -⟩ := indexWords_notOwned hmap
    obtain ⟨⟨hcmd, hev, -⟩, hapart, -, -⟩ := Anchor.passed_regions (State.cfg_passed hmap)
    obtain ⟨⟨hslots, -⟩, ⟨hrecs, -⟩, -⟩ := Anchor.passed_rings (State.cfg_passed hmap)
    intro v
    refine ⟨_, storesWord_storeAccess true s.cfg.cmdBase data be s, ?_⟩
    rw [exec_commandRingTailWrite, smpWrite_of_ready hready hbe, hoff]
    have hcommit : s.cfg.cmdBase ≠ 0x3C := by omega
    cases hstate : s.rgw.state with
    | pass => exact absurd hstate hpass
    | run =>
      rw [windowWrite_of_tailWord hpass hcommit hown rfl (by simp [State.isRun, hstate]), if_neg RgwState.noConfusion]
      dsimp only
      rw [num_storeAccess]
      rfl
    | withdrawing =>
      have hrun : s.isRun = false := by simp [State.isRun, hstate]
      rw [windowWrite_of_unwatched hpass hcommit hown (by simp [hrun]) (by dsimp only; omega) (lapping_of_notRun hrun _),
        if_pos rfl]
      exact congrArg _ (passWrite_of_notRun (by rw [hstate]; exact RgwState.noConfusion))
  · obtain ⟨-, hown⟩ := indexWords_notOwned hmap
    obtain ⟨⟨hcmd, hev, -⟩, hapart, -, -⟩ := Anchor.passed_regions (State.cfg_passed hmap)
    obtain ⟨⟨hslots, -⟩, ⟨hrecs, -⟩, -⟩ := Anchor.passed_rings (State.cfg_passed hmap)
    intro v n
    refine ⟨_, storesWord_storeAccess true s.cfg.evBase data be s, ?_⟩
    rw [exec_eventRingHeadWrite, smpWrite_of_ready hready hbe, hoff,
      windowWrite_of_headWord hpass (by dsimp only; omega) hown (by dsimp only; omega) rfl]
    dsimp only
    rw [num_storeAccess]
    rfl

/-! ## CLEAR_PATH_COUNT (R13) -/

/-- Settles O21: the count is cleared before the record is written, and a count of 0 makes the next dropped write post. -/
theorem Settled.clearPathCount : Obligations.ClearPathCount := by
  intro s h
  refine ⟨writePathStatus { s.carry with rgw := { s.rgw with droppedCount := 0 } }, ?_, rfl, Mem.bytes_write_self _ _ _,
    unchangedOutside_writePathStatus { s.carry with rgw := { s.rgw with droppedCount := 0 } }, fun off v hv => ⟨_, (dropWrite_eq off v).trans (if_pos (by rw [hv]; rfl))⟩⟩
  rw [exec_clearPathCount, take_of_readyFor h le_rfl]
  rfl

end Sys2Proof.Machine
end

section
/-! PROOFS. Power and RESETn (R3, R4), the arbiter and its urgent flag (R19, R20), COMMIT (R6 to R8) and the end of a withdraw
(R18). -/

namespace Sys2Proof.Machine

set_option Elab.async false

/-! ## The anchor status word (R8, Table 11-1) -/

theorem writeStatus_bytes (st : Status) (v : Nat) (s : State) :
    Mem.bytes (writeStatus st v s).dram 0x30 4
      = [BitVec.ofNat 8 (statusCode st), BitVec.ofNat 8 s.windowMiB, BitVec.ofNat 8 v, BitVec.ofNat 8 (v / 256)] :=
  Mem.bytes_write_self s.dram 0x30 (u8 (statusCode st) ++ u8 s.windowMiB ++ le 2 v)

theorem unchangedOutside_writeStatus (st : Status) (v : Nat) (s : State) :
    unchangedOutside [(0x30, 4)] s.dram (writeStatus st v s).dram :=
  unchangedOutside_write s.dram 0x30 (u8 (statusCode st) ++ u8 s.windowMiB ++ le 2 v)

/-- What two writes to the same span leave alone, one alone does. -/
theorem unchangedOutside.again {sp : List (Nat × Nat)} {m m' m'' : Mem} (h : unchangedOutside sp m m')
    (h' : unchangedOutside sp m' m'') : unchangedOutside sp m m'' := fun a ha => (h' a ha).trans (h a ha)

/-! ## Power and RESETn -/

/-- An access held for RESETn waits on; another ends, a read with a zero word. -/
theorem resetn_of_reset {p : Smp} {h : Held} (hp : p.held = some h) (hr : h.reason = .reset) : p.resetn = p := by
  simp [Smp.resetn, hp, hr]

theorem resetn_of_other {p : Smp} {h : Held} (hp : p.held = some h) (hr : h.reason ≠ .reset) :
    p.resetn = { held := none, busData := if h.access.isWrite then p.busData else 0 } := by
  simp [Smp.resetn, hp, hr]

theorem resetn_of_none {p : Smp} (hp : p.held = none) : p.resetn = p := by
  simp [Smp.resetn, hp]

/-- The first element that a test accepts, by its place. -/
theorem find?_eq_some_iff_place {α : Type} (l : List α) (p : α → Bool) (c : α) :
    l.find? p = some c ↔ ∃ i, l[i]? = some c ∧ p c = true ∧ ∀ (j : Nat) (d : α), j < i → l[j]? = some d → p d = false := by
  rw [List.find?_eq_some_iff_getElem]
  constructor
  · rintro ⟨hp, i, hi, rfl, hbefore⟩
    refine ⟨i, List.getElem?_eq_getElem hi, hp, fun j d hj hd => ?_⟩
    obtain ⟨hl, rfl⟩ := List.getElem?_eq_some_iff.1 hd
    simpa using hbefore j hj
  · rintro ⟨i, hc, hp, hbefore⟩
    obtain ⟨hi, rfl⟩ := List.getElem?_eq_some_iff.1 hc
    exact ⟨hp, i, hi, rfl, fun j hj => by simp [hbefore j _ hj (List.getElem?_eq_getElem (hj.trans hi))]⟩

/-- Every client is in the arbiter's order. -/
theorem mem_madOrder (urgent : Bool) (c : MadClient) : c ∈ madOrder urgent := by
  cases urgent <;> cases c <;> decide

theorem testUrgent_eq (s : State) :
    testUrgent s = { s with mad := { s.mad with urgent := (testUrgent s).mad.urgent } } := rfl

/-- Settles O8: each row by its condition; the arbiter is a search in its order; the flag is what its test computes. -/
theorem powerAndResetn : Obligations.PowerAndResetn := by
  refine ⟨fun s => ⟨rfl, rfl, fun hoff => ?_, fun hon => ⟨s.smp.resetn, ?_, fun h => resetn_of_none h,
      fun h hh hr => resetn_of_reset hh hr, fun h hh hr => ?_⟩, fun hlow => ?_, fun hhigh => ?_,
      fun c h t hc hh hr hexec => ?_, fun w => ⟨fun hi => ?_, fun hi => ?_⟩⟩,
    fun s waiting => ⟨?_, fun c => find?_eq_some_iff_place _ _ c⟩, fun s => ⟨rfl, ?_⟩⟩
  · rw [exec_resetnFall, if_pos hoff]
  · rw [exec_resetnFall, if_neg hon]
  · rw [resetn_of_other hh hr]
    exact ⟨rfl, rfl⟩
  · rw [exec_resetnRise, if_pos hlow]
  · rw [exec_resetnRise, if_neg hhigh]
  · obtain rfl | rfl := hc <;> cases hexec <;> split
    · exact hh
    · exact (congrArg Smp.held (resetn_of_reset hh hr)).trans hh
    · exact hh
    · exact hh
  · rw [exec_dramInitialisationEnd, if_neg hi]
  · rw [exec_dramInitialisationEnd, if_pos hi]
    exact ⟨_, rfl, rfl, writeStatus_bytes .reset 0 _, unchangedOutside_writeStatus .reset 0 _⟩
  · rw [State.madGrant, List.find?_eq_none]
    exact ⟨fun h c => by simpa using h c (mem_madOrder _ c), fun h c _ => by simp [h c]⟩
  · change (s.isRun && s.isPrinting && decide (s.waitingSlots < _)) = true ↔ _
    rw [Bool.and_eq_true, Bool.and_eq_true, decide_eq_true_iff, and_assoc]
    simp [State.isRun, State.isPrinting, State.waitingSlots]

/-! ## COMMIT (R6 to R8) -/

/-- A ready write to the commit word in PASS stores it and looks at the word. -/
theorem commit_of_pass {s : State} (hready : s.busReady 0x3C = true) (hpass : s.rgw.state = .pass) {be : ByteEnables}
    (hbe : be ≠ 0) (data : Word) :
    exec (.commit data be) s = .next (commitWritten (storeAccess ⟨true, 0x3C, data, be⟩ s)) := by
  rw [exec_commit, smpWrite_of_ready hready hbe, windowWrite_of_pass hpass]
  rfl

/-- A word that reads 1 has the bytes of 1. -/
theorem bytesAfter_of_wordAfter {s : State} {off : Nat} {data : Word} {be : ByteEnables} {v : Nat}
    (h : s.wordAfter off data be = v) : s.bytesAfter off data be = le 4 v := by
  rw [s.wordAfter_eq] at h
  have hbytes := eq_le_of_leNat h
  rwa [State.bytesAfter_length] at hbytes

theorem commitAnchor_of_fault {s : State} {k : Nat} {st : Status}
    (h : (readAnchor s.dram).fault s.windowBytes (writeStatus .checking 0 s).dram = some (k, st)) :
    commitAnchor s
      = writeStatus st k { writeStatus .checking 0 s with rgw := { s.rgw with copy := none, noted := false } } := by
  have h' : (readAnchor s.dram).fault (writeStatus .checking 0 s).windowBytes (writeStatus .checking 0 s).dram = some (k, st) := h
  simp only [commitAnchor, h']
  rfl

theorem commitAnchor_of_passed {s : State}
    (h : (readAnchor s.dram).fault s.windowBytes (writeStatus .checking 0 s).dram = none) :
    commitAnchor s
      = { writeStatus .checking 0 s with rgw := { s.rgw with copy := some (readAnchor s.dram), validating := true } } := by
  have h' : (readAnchor s.dram).fault (writeStatus .checking 0 s).windowBytes (writeStatus .checking 0 s).dram = none := h
  simp only [commitAnchor, h']
  rfl

/-- Settles O12: the stored word reads 1, so the anchor is checked; the two outcomes write status words alone. -/
theorem commitChecksAnchor : Obligations.CommitChecksAnchor := by
  intro data be s hready hpass hv hbe hone m m'
  set u := storeAccess ⟨true, 0x3C, data, be⟩ s with hu
  have hdram : u.dram = m := by
    rw [hu, storeAccess_eq, bytesAfter_of_wordAfter hone]
    rfl
  have hword : Mem.num u.dram 0x3C 4 = 1 := (num_storeAccess ..).trans hone
  have hcommit : commitWritten u = commitAnchor u := by
    have hpass' : u.rgw.state = .pass := hpass
    have hv' : u.rgw.validating = false := hv
    simp [commitWritten, hpass', hv', hword]
  have hstored : unchangedOutside [(0x3C, 4)] s.dram u.dram := (storesWord_storeAccess true 0x3C data be s).2.2
  have hchecking := unchangedOutside_writeStatus .checking 0 u
  have hcommitWord : Mem.bytes u.dram 0x3C 4 = [1, 0, 0, 0] := by
    rw [hdram]
    exact Mem.bytes_write_self s.dram 0x3C [1, 0, 0, 0]
  have hkeepsWord (st : Status) (v : Nat) (t : State) :
      Mem.bytes (writeStatus st v t).dram 0x3C 4 = Mem.bytes t.dram 0x3C 4 :=
    Mem.bytes_write_of_disjoint t.dram 0x30 (u8 (statusCode st) ++ u8 t.windowMiB ++ le 2 v) 0x3C 4
      (.inr (by simp))
  have hspans {d d' : Mem} (h : unchangedOutside [(0x3C, 4)] d d') {d'' : Mem} (h' : unchangedOutside [(0x30, 4)] d' d'') :
      unchangedOutside [(0x30, 4), (0x3C, 4)] d d'' :=
    (h.trans h').mono fun q hq a ha => ⟨q, by simpa [or_comm] using hq, ha⟩
  rw [commit_of_pass hready hpass hbe, ← hu, hcommit]
  have hfaultEq : (readAnchor m).fault s.windowBytes m'
      = (readAnchor u.dram).fault u.windowBytes (writeStatus .checking 0 u).dram := by
    rw [← hdram]
    have : m' = (writeStatus .checking 0 u).dram := by rw [writeStatus, State.store_dram, hdram]; rfl
    rw [this]
    rfl
  refine ⟨_, rfl, ?_⟩
  cases hfault : (readAnchor m).fault s.windowBytes m' with
  | none =>
    rw [commitAnchor_of_passed (hfaultEq.symm.trans hfault)]
    refine ⟨⟨by rw [hdram]; rfl, writeStatus_bytes .checking 0 u⟩, (hkeepsWord ..).trans hcommitWord, hspans hstored hchecking⟩
  | some f =>
    obtain ⟨k, st⟩ := f
    rw [commitAnchor_of_fault (hfaultEq.symm.trans hfault)]
    exact ⟨⟨rfl, writeStatus_bytes st k _⟩, (hkeepsWord ..).trans ((hkeepsWord ..).trans hcommitWord),
      hspans hstored (hchecking.again (unchangedOutside_writeStatus st k _))⟩

/-! ## The end of a withdraw (R18) -/

/-- The messages that wait for their check stay and the blocks go (log 29). -/
def messagesOnly (l : List RxItem) : List RxItem :=
  l.filter fun i => match i with | .message _ _ => true | .block _ _ => false

theorem messagesOnly_sublist (l : List RxItem) : (messagesOnly l).Sublist l := List.filter_sublist

theorem block_notMem_messagesOnly (l : List RxItem) (n : Nat) (b : InBlock) : .block n b ∉ messagesOnly l := by
  simp [messagesOnly]

theorem count_messagesOnly (l : List RxItem) (m : List Byte) (f : Bool) :
    (messagesOnly l).count (.message m f) = l.count (.message m f) :=
  List.count_filter rfl

/-- Settles O15: with WITHDRAWN in the ring the row ends the withdraw, and else it finds nothing to end. -/
theorem withdrawEnds : Obligations.WithdrawEnds := by
  refine ⟨fun s hstate hwritten => ⟨endWithdraw s, ?_, rfl, messagesOnly_sublist _, block_notMem_messagesOnly _,
    count_messagesOnly _, writeStatus_bytes .withdrawn 0 s, unchangedOutside_writeStatus .withdrawn 0 s⟩,
    fun s hstate hwritten => ?_, fun s hstate => ?_⟩
  · rw [exec_withdrawEnd, if_pos ⟨hstate, hwritten⟩]
  · rw [exec_withdrawEnd, if_neg (by simp [hwritten])]
  · rw [exec_withdrawEnd, if_neg fun h => hstate h.1]

end Sys2Proof.Machine
end

section
/-! PROOFS. The page code (R60 to R65): a line is drawn again from its transitions, the RUNS and the DELTA form decode to them,
and so does whichever form the coder chooses. -/

namespace Sys2Proof.Machine

set_option Elab.async false

/-! ## Lines and their transitions (R60) -/

/-- The transitions of dots from `d` on lie from `d` on, before the end. -/
theorem mem_transitionsFrom {d : Nat} {prev : Bool} {l : List Bool} {t : Nat} (h : t ∈ transitionsFrom d prev l) :
    d ≤ t ∧ t < d + l.length := by
  induction l generalizing d prev with
  | nil => cases h
  | cons x l ih =>
    rw [transitionsFrom] at h
    split at h
    · have := ih h
      simp only [List.length_cons]
      omega
    · rcases List.mem_cons.1 h with rfl | h
      · simp
      · have := ih h
        simp only [List.length_cons]
        omega

theorem pairwise_transitionsFrom (d : Nat) (prev : Bool) (l : List Bool) : (transitionsFrom d prev l).Pairwise (· < ·) := by
  induction l generalizing d prev with
  | nil => exact List.Pairwise.nil
  | cons x l ih =>
    rw [transitionsFrom]
    split
    · exact ih _ _
    · exact List.pairwise_cons.2 ⟨fun t ht => (mem_transitionsFrom ht).1, ih _ _⟩

theorem length_transitionsFrom_le (d : Nat) (prev : Bool) (l : List Bool) : (transitionsFrom d prev l).length ≤ l.length := by
  induction l generalizing d prev with
  | nil => simp [transitionsFrom]
  | cons x l ih =>
    rw [transitionsFrom, List.length_cons]
    split
    · exact (ih _ _).trans (Nat.le_succ _)
    · exact Nat.succ_le_succ (ih _ _)

/-- Dots are drawn again from their transitions. -/
theorem drawFrom_transitionsFrom (d : Nat) (prev : Bool) (l : List Bool) :
    drawFrom d prev (transitionsFrom d prev l) l.length = l := by
  induction l generalizing d prev with
  | nil => rfl
  | cons x l ih =>
    rw [transitionsFrom, List.length_cons]
    split
    next hx =>
      subst hx
      have hrest := ih (d + 1) x
      cases hts : transitionsFrom (d + 1) x l with
      | nil => rw [hts] at hrest; rw [drawFrom, hrest]
      | cons t ts =>
        have ht : t ≠ d := by
          have : t ∈ transitionsFrom (d + 1) x l := by rw [hts]; exact List.mem_cons_self
          have := (mem_transitionsFrom this).1
          omega
        rw [hts] at hrest
        rw [drawFrom]
        simp only [if_neg ht, hrest]
    next hx =>
      have hflip : (!prev) = x := by cases prev <;> cases x <;> simp_all
      rw [drawFrom]
      simp only [if_true, hflip, ih (d + 1) x]

theorem draw_transitions (line : List Bool) : draw line.length (transitions line) = line := drawFrom_transitionsFrom 0 false line

theorem drawFrom_nil (d : Nat) (c : Bool) (n : Nat) : drawFrom d c [] n = List.replicate n c := by
  induction n generalizing d with
  | zero => rfl
  | succ n ih => rw [drawFrom, ih, List.replicate_succ]

/-- A line without a transition is white. -/
theorem eq_whiteLine_of_transitions {line : List Bool} (h : transitions line = []) : line = whiteLine line.length := by
  have := draw_transitions line
  rw [h, draw, drawFrom_nil] at this
  exact this.symm

/-- What the drawer draws up to the next transition is one run, and from there on it goes on in the other colour. -/
theorem drawFrom_cons {d t : Nat} (hdt : d ≤ t) (c : Bool) {ts : List Nat} (hts : ∀ u ∈ ts, t < u) {n : Nat} (hn : t - d < n) :
    drawFrom d c (t :: ts) n = List.replicate (t - d) c ++ drawFrom t (!c) ts (n - (t - d)) := by
  obtain ⟨k, rfl⟩ := Nat.exists_eq_add_of_le hdt
  rw [Nat.add_sub_cancel_left] at hn ⊢
  induction k generalizing d n with
  | zero =>
    obtain ⟨m, rfl⟩ := Nat.exists_eq_succ_of_ne_zero (Nat.pos_iff_ne_zero.1 hn)
    cases ts with
    | nil => simp [drawFrom]
    | cons u ts =>
      have : u ≠ d := by
        have := hts u List.mem_cons_self
        omega
      simp [drawFrom, this]
  | succ k ih =>
    obtain ⟨m, rfl⟩ := Nat.exists_eq_add_of_lt hn
    have hne : d + (k + 1) ≠ d := by omega
    have hrest := ih (d := d + 1) (n := k + 1 + m) (by omega) (by simpa [Nat.add_right_comm, Nat.add_assoc] using hts) (by omega)
    have hd : d + 1 + k = d + (k + 1) := by omega
    rw [hd] at hrest
    rw [drawFrom]
    simp only [if_neg hne, hrest, List.replicate_succ, List.cons_append]
    congr 3
    omega

/-! ## The RUNS form (R63) -/

/-- The runs from dot `d` on. -/
def runsFrom (wout d : Nat) (ts : List Nat) : List Nat := List.zipWith (fun e s => e - s) (ts ++ [wout]) (d :: ts)

theorem runsOf_eq (wout : Nat) (ts : List Nat) : runsOf wout ts = runsFrom wout 0 ts := rfl

theorem runsFrom_nil (wout d : Nat) : runsFrom wout d [] = [wout - d] := rfl

theorem runsFrom_cons (wout d t : Nat) (ts : List Nat) : runsFrom wout d (t :: ts) = (t - d) :: runsFrom wout t ts := rfl

/-- One run read back. -/
theorem paintRuns_runBytes (n : Nat) (c : Bool) {run room : Nat} (hrun : run < 32768) (hroom : run ≤ room) (bs : List Byte) :
    paintRuns (n + 1) c room (runBytes run ++ bs)
      = (List.replicate run c ++ (paintRuns n (!c) (room - run) bs).1,
         (runBytes run).length + (paintRuns n (!c) (room - run) bs).2.1, (paintRuns n (!c) (room - run) bs).2.2) := by
  unfold runBytes
  split
  next h =>
    have hb : (BitVec.ofNat 8 run).toNat = run := by
      rw [BitVec.toNat_ofNat]
      omega
    simp only [u8, le, List.cons_append, List.nil_append, paintRuns, hb, if_pos h, if_pos hroom, List.length_singleton]
  next h =>
    have hb : (BitVec.ofNat 8 (0x80 + run / 256)).toNat = 0x80 + run / 256 := by
      rw [BitVec.toNat_ofNat]
      omega
    have hb2 : (BitVec.ofNat 8 (run % 256)).toNat = run % 256 := by
      rw [BitVec.toNat_ofNat]
      omega
    have hsum : (0x80 + run / 256 - 128) * 256 + run % 256 = run := by omega
    have hbig : ¬ 0x80 + run / 256 < 128 := by omega
    simp only [u8, le, List.cons_append, List.nil_append, paintRuns, hb, if_neg hbig, hb2, hsum, if_pos hroom, List.length_cons,
      List.length_nil]

/-- The runs of strictly rising transitions paint the line that has them, and fill it. -/
theorem paintRuns_runsFrom {wout : Nat} (hwout : wout < 32768) (bs : List Byte) (ts : List Nat) {d : Nat} (hd : d ≤ wout)
    (c : Bool) (hrise : ts.Pairwise (· < ·)) (hts : ∀ t ∈ ts, d ≤ t ∧ t < wout) :
    paintRuns (ts.length + 1) c (wout - d) ((runsFrom wout d ts).flatMap runBytes ++ bs)
      = (drawFrom d c ts (wout - d), ((runsFrom wout d ts).flatMap runBytes).length, true) := by
  induction ts generalizing d c with
  | nil =>
    rw [runsFrom_nil, List.flatMap_cons, List.flatMap_nil, List.append_nil, drawFrom_nil, List.length_nil,
      paintRuns_runBytes 0 c (by omega) le_rfl]
    simp [paintRuns]
  | cons t ts ih =>
    obtain ⟨hdt, htw⟩ := hts t List.mem_cons_self
    obtain ⟨hmin, hrise⟩ := List.pairwise_cons.1 hrise
    have hrest := ih htw.le (!c) hrise fun u hu => ⟨(hmin u hu).le, (hts u (List.mem_cons_of_mem _ hu)).2⟩
    have hroom : wout - d - (t - d) = wout - t := by omega
    rw [runsFrom_cons, List.flatMap_cons, List.append_assoc, List.length_cons,
      paintRuns_runBytes (ts.length + 1) c (by omega) (by omega), hroom, hrest, drawFrom_cons hdt c hmin (by omega), hroom,
      List.length_append]

theorem keepDots_self (line : List Bool) : keepDots line.length line.length line = line := by
  simp [keepDots]

theorem leNat_le2 {v : Nat} (h : v < 65536) : leNat (le 2 v) = v := by
  rw [leNat_le]
  exact Nat.mod_eq_of_lt h

/-- A RUNS line decodes to itself. -/
theorem decodeRuns_codeRuns {line : List Bool} (hlen : line.length < 32768) (ref : List Bool) (rest : List Byte) :
    decodeLine line.length ref (codeRuns line.length (transitions line) ++ rest)
      = ⟨line, (codeRuns line.length (transitions line)).length, false⟩ := by
  have hcount : (transitions line).length + 1 < 65536 := by
    have := length_transitionsFrom_le 0 false line
    unfold transitions
    omega
  have hpaint := paintRuns_runsFrom hlen rest (transitions line) (Nat.zero_le _) false (pairwise_transitionsFrom 0 false line)
    fun t ht => ⟨Nat.zero_le t, by simpa using (mem_transitionsFrom ht).2⟩
  rw [Nat.sub_zero] at hpaint
  have hdraw : drawFrom 0 false (transitions line) line.length = line := draw_transitions line
  have hread := leNat_le2 hcount
  rw [hdraw, ← runsOf_eq] at hpaint
  have hdecode : decodeRuns line.length (le 2 ((transitions line).length + 1)
      ++ ((runsOf line.length (transitions line)).flatMap runBytes ++ rest))
      = ⟨line, 2 + ((runsOf line.length (transitions line)).flatMap runBytes).length, false⟩ := by
    rw [decodeRuns, if_neg (by simp; omega)]
    have htake (l : List Byte) : (le 2 ((transitions line).length + 1) ++ l).take 2 = le 2 ((transitions line).length + 1) :=
      List.take_left' (le_length _ _)
    have hdrop (l : List Byte) : (le 2 ((transitions line).length + 1) ++ l).drop 2 = l := List.drop_left' (le_length _ _)
    simp only [htake, hdrop, hread, hpaint, keepDots_self, Bool.not_true]
  have hcode : codeRuns line.length (transitions line) ++ rest = (0x03 : Byte) :: (le 2 ((transitions line).length + 1)
      ++ ((runsOf line.length (transitions line)).flatMap runBytes ++ rest)) := by
    simp [codeRuns, u8, le]
  have hused : (codeRuns line.length (transitions line)).length
      = 2 + ((runsOf line.length (transitions line)).flatMap runBytes).length + 1 := by
    simp [codeRuns, u8, le]
    omega
  rw [hcode, decodeLine, hused]
  simp [hdecode]

/-! ## The DELTA form (R62) -/

/-- A shift read back from its four bits. -/
theorem nibbleShift_shiftNibble {x : Int} (h : -7 ≤ x ∧ x ≤ 7) : nibbleShift (shiftNibble x) = x := by
  unfold nibbleShift shiftNibble
  split <;> omega

theorem shiftNibble_lt (x : Int) : shiftNibble x < 16 := by
  unfold shiftNibble
  omega

/-- Two shifts read back from their byte. -/
theorem unpack_pair {x y : Nat} (hx : x < 16) (hy : y < 16) :
    (BitVec.ofNat 8 (16 * x + y)).toNat / 16 = x ∧ (BitVec.ofNat 8 (16 * x + y)).toNat % 16 = y := by
  rw [BitVec.toNat_ofNat]
  omega

/-- The shifts read back from their bytes; a shift without a partner is followed by a 0. -/
theorem unpackShifts_packShifts : (sh : List Int) → (∀ x ∈ sh, -7 ≤ x ∧ x ≤ 7) → ∃ l, unpackShifts (packShifts sh) = sh ++ l
  | [], _ => ⟨[], rfl⟩
  | [x], h => by
    obtain ⟨hx, -⟩ := unpack_pair (shiftNibble_lt x) (show 0 < 16 by decide)
    have hs := nibbleShift_shiftNibble (h x List.mem_cons_self)
    refine ⟨[nibbleShift ((BitVec.ofNat 8 (16 * shiftNibble x)).toNat % 16)], ?_⟩
    rw [Nat.add_zero] at hx
    rw [unpackShifts, packShifts, List.flatMap_cons, hx, hs]
    rfl
  | x :: y :: sh, h => by
    obtain ⟨hx, hy⟩ := unpack_pair (shiftNibble_lt x) (shiftNibble_lt y)
    have hxs := nibbleShift_shiftNibble (h x (by simp))
    have hys := nibbleShift_shiftNibble (h y (by simp))
    obtain ⟨l, hl⟩ := unpackShifts_packShifts sh fun z hz => h z (by simp [hz])
    refine ⟨l, ?_⟩
    unfold unpackShifts at hl ⊢
    rw [packShifts, List.flatMap_cons, hl, hx, hy, hxs, hys]
    rfl

theorem packShifts_length : (sh : List Int) → (packShifts sh).length = (sh.length + 1) / 2
  | [] => rfl
  | [_] => by simp [packShifts]
  | _ :: _ :: sh => by
    rw [packShifts, List.length_cons, packShifts_length sh]
    simp only [List.length_cons]
    omega

/-- The shifts of a line against its reference lead from the reference's transitions back to the line's. -/
theorem shiftTransitions_shifts {wout : Nat} (l : List Int) (ts rs : List Nat) (hlen : ts.length = rs.length) {prev : Int}
    (hrise : ts.Pairwise (· < ·)) (hts : ∀ t ∈ ts, prev < (t : Int) ∧ t < wout) :
    shiftTransitions wout prev rs (List.zipWith (fun (p r : Nat) => (p : Int) - (r : Int)) ts rs ++ l) = (ts, none) := by
  induction ts generalizing rs prev with
  | nil =>
    cases rs with
    | nil => simp [shiftTransitions]
    | cons r rs => cases hlen
  | cons t ts ih =>
    cases rs with
    | nil => cases hlen
    | cons r rs =>
      obtain ⟨hprev, hw⟩ := hts t List.mem_cons_self
      obtain ⟨hmin, hrise⟩ := List.pairwise_cons.1 hrise
      have hrest := ih rs (by simpa using hlen) (prev := (t : Int)) hrise fun u hu =>
        ⟨by have := hmin u hu; omega, (hts u (List.mem_cons_of_mem _ hu)).2⟩
      have hp : (r : Int) + ((t : Int) - (r : Int)) = (t : Int) := by omega
      have hcond : prev < (t : Int) ∧ 0 ≤ (t : Int) ∧ (t : Int) < (wout : Int) := by omega
      rw [List.zipWith_cons_cons, List.cons_append, shiftTransitions]
      simp only [hp, if_pos hcond, hrest, Int.toNat_natCast]

/-- What the DELTA form asks for. -/
theorem codeDelta_eq_some {ts rs : List Nat} {d : List Byte} (h : codeDelta ts rs = some d) :
    ts.length = rs.length ∧ ts ≠ []
      ∧ (∀ x ∈ List.zipWith (fun (p r : Nat) => (p : Int) - (r : Int)) ts rs, -7 ≤ x ∧ x ≤ 7)
      ∧ d = (0x02 : Byte) :: (le 2 ts.length ++ packShifts (List.zipWith (fun (p r : Nat) => (p : Int) - (r : Int)) ts rs)) := by
  unfold codeDelta deltaShifts at h
  dsimp only at h
  split at h
  next hcond =>
    obtain ⟨hlen, hne, hall⟩ := hcond
    cases h
    refine ⟨hlen, hne, fun x hx => ?_, rfl⟩
    have := List.all_eq_true.1 hall x hx
    simpa using this
  · cases h

/-- A DELTA line decodes to itself. -/
theorem decodeLine_codeDelta {line : List Bool} (hlen : line.length < 32768) {ref : List Bool} {d : List Byte}
    (h : codeDelta (transitions line) (transitions ref) = some d) (rest : List Byte) :
    decodeLine line.length ref (d ++ rest) = ⟨line, d.length, false⟩ := by
  obtain ⟨hcount, hne, hsmall, rfl⟩ := codeDelta_eq_some h
  set ts := transitions line with hts
  set sh := List.zipWith (fun (p r : Nat) => (p : Int) - (r : Int)) ts (transitions ref) with hsh
  have hshlen : sh.length = ts.length := by simp [hsh, ← hcount]
  have hpacked := packShifts_length sh
  rw [hshlen] at hpacked
  obtain ⟨l, hl⟩ := unpackShifts_packShifts sh hsmall
  have hshift : shiftTransitions line.length (-1) (transitions ref) (sh ++ l) = (ts, none) :=
    shiftTransitions_shifts l ts (transitions ref) hcount (pairwise_transitionsFrom 0 false line) fun t ht =>
      ⟨by omega, by simpa using (mem_transitionsFrom ht).2⟩
  have htslen : ts.length < 65536 := by
    have : ts.length ≤ line.length := length_transitionsFrom_le 0 false line
    omega
  have hpos : ts.length ≠ 0 := fun h0 => hne (List.length_eq_zero_iff.1 h0)
  have hread := leNat_le2 htslen
  have htake (x : List Byte) : (le 2 ts.length ++ x).take 2 = le 2 ts.length := List.take_left' (le_length _ _)
  have hdrop (x : List Byte) : (le 2 ts.length ++ x).drop 2 = x := List.drop_left' (le_length _ _)
  have hgot : (packShifts sh ++ rest).take ((ts.length + 1) / 2) = packShifts sh := List.take_left' hpacked
  have hall : (transitions ref).take (min ts.length (2 * ((ts.length + 1) / 2))) = transitions ref :=
    List.take_of_length_le (by omega)
  have hdecode : decodeDelta line.length ref (le 2 ts.length ++ (packShifts sh ++ rest))
      = ⟨line, 2 + (ts.length + 1) / 2, false⟩ := by
    rw [decodeDelta, if_neg (by simp; omega)]
    dsimp only
    rw [htake, hdrop, hread, if_neg (by omega), hgot, hpacked, hall, hl, hshift]
    dsimp only
    rw [if_neg (Nat.lt_irrefl _), hts, draw_transitions]
  rw [List.cons_append, List.append_assoc, decodeLine]
  simp [hdecode, hpacked]

/-! ## The coded line (R64) -/

theorem WidthClass.dots_lt (cls : WidthClass) : cls.dots < 32768 := by
  cases cls <;> decide

/-- Settles O22: the coder chooses WHITE, REPEAT, DELTA or RUNS, and each decodes to the line. -/
theorem pageCodeRoundTrip : Obligations.PageCodeRoundTrip := by
  intro cls ref line rest hlen
  have hmost : line.length < 32768 := hlen ▸ cls.dots_lt
  rw [← hlen]
  have hruns := decodeRuns_codeRuns hmost ref rest
  unfold codeLine
  dsimp only
  split
  next hwhite =>
    have hline := eq_whiteLine_of_transitions hwhite
    rw [List.singleton_append, decodeLine, if_pos rfl, ← hline]
    rfl
  · split
    next hrepeat =>
      subst hrepeat
      rw [List.singleton_append, decodeLine, if_neg (by decide), if_pos rfl]
      rfl
    · split
      next d hd =>
        rw [shorter]
        split
        · exact hruns
        · exact decodeLine_codeDelta hmost hd rest
      · exact hruns

end Sys2Proof.Machine
end

section
/-! PROOFS. The records that the part keeps in DRAM: how long each is, what a sequence of their writes leaves alone, and
several records of one table changed in turn (11.6, R193). -/

namespace Sys2Proof.Machine

set_option Elab.async false

/-! ## What a sequence of writes leaves alone -/

theorem unchangedOutside_refl (sp : List (Nat × Nat)) (m : Mem) : unchangedOutside sp m m := fun _ _ => rfl

/-- One more write into a span of the list. -/
theorem unchangedOutside.write {sp : List (Nat × Nat)} {m m' : Mem} (h : unchangedOutside sp m m') {a n : Nat} {bs : List Byte}
    (hmem : (a, n) ∈ sp) (hlen : bs.length ≤ n) : unchangedOutside sp m (Mem.write m' a bs) := by
  intro b hb
  have hout := hb (a, n) hmem
  simp only [within, Bool.and_eq_false_imp, decide_eq_true_eq, decide_eq_false_iff_not] at hout
  rw [Mem.get_write, if_neg (fun hin => hout hin.1 (by omega)), h b hb]

theorem unchangedOutside_store {s : State} {a n : Nat} {bs : List Byte} (hlen : bs.length ≤ n) :
    unchangedOutside [(a, n)] s.dram (s.store a bs).dram :=
  (unchangedOutside_refl _ _).write (List.mem_singleton_self _) hlen

/-- A longer list of spans says less. -/
theorem unchangedOutside.of_subset {sp sq : List (Nat × Nat)} {m m' : Mem} (h : unchangedOutside sp m m') (hs : sp ⊆ sq) :
    unchangedOutside sq m m' := fun a ha => h a fun r hr => ha r (hs hr)

/-! ## The length of each record -/

@[simp] theorem countedChars_length (n : Nat) (cs : List Byte) : (countedChars n cs).length = n + 1 := by
  simp [countedChars, Nat.add_comm]

@[simp] theorem presence_length (o : Option Nat) : (presence o).length = 1 := rfl

@[simp] theorem placeBytes_length (l : List (Option Nat)) : (placeBytes l).length = 256 := by
  simp [placeBytes]

@[simp] theorem PageRec.bytes_length (r : PageRec) : r.bytes.length = 32 := by simp [PageRec.bytes]

@[simp] theorem Doc.bytes_length (id : Nat) (d : Doc) : (d.bytes id).length = 512 := by
  unfold Doc.bytes
  simp only [List.length_append]
  simp only [placeBytes_length, countedChars_length, zeros_length]
  simp only [u8_length, le_length]

@[simp] theorem Job.bytes_length (j : Job) : j.bytes.length = 18 := by simp [Job.bytes]

@[simp] theorem Dest.bytes_length (d : Dest) : d.bytes.length = 49 := by simp [Dest.bytes]

@[simp] theorem PrintEntry.bytes_length (e : PrintEntry) : e.bytes.length = 23 := by simp [PrintEntry.bytes]

@[simp] theorem TariffPrefix.bytes_length (p : TariffPrefix) : p.bytes.length = 32 := by simp [TariffPrefix.bytes]

@[simp] theorem Rate.bytes_length (r : Rate) : r.bytes.length = 16 := by simp [Rate.bytes]

@[simp] theorem Account.bytes_length (a : Account) : a.bytes.length = 31 := by simp [Account.bytes]

/-! ## Destinations changed in turn -/

theorem modifyDest_of_none {s : State} {k : Nat} (h : s.dest? k = none) (f : Dest → Dest) : modifyDest k f s = s := by
  rw [modifyDest, h]

theorem modifyDest_of_some {s : State} {k : Nat} {t : Dest} (h : s.dest? k = some t) (f : Dest → Dest) :
    modifyDest k f s = putDest k (f t) s := by
  rw [modifyDest, h]

/-- A changed destination record: its number reads the change, every other number what it read. -/
theorem modifyDest_dest? (k j : Nat) (f : Dest → Dest) (s : State) :
    (modifyDest k f s).dest? j = if j = k then (s.dest? j).map f else s.dest? j := by
  cases h : s.dest? k with
  | none =>
    rw [modifyDest_of_none h]
    split
    next hj => rw [hj, h, Option.map_none]
    next => rfl
  | some t =>
    rw [modifyDest_of_some h]
    refine (Tab.get?_set s.dju.dests k j (f t)).trans (ite_congr rfl (fun hj => ?_) fun _ => rfl)
    rw [hj, h, Option.map_some]

/-- Only the destination table and DRAM change. -/
theorem modifyDest_frame (k : Nat) (f : Dest → Dest) (s : State) :
    ∃ ds m, modifyDest k f s = { s with dju := { s.dju with dests := ds }, dram := m } := by
  unfold modifyDest
  split
  · exact ⟨_, _, rfl⟩
  · exact ⟨_, _, rfl⟩

theorem unchangedOutside_modifyDest (k : Nat) (f : Dest → Dest) (s : State) :
    unchangedOutside [(s.destAddr k, 64)] s.dram (modifyDest k f s).dram := by
  unfold modifyDest
  split
  · exact unchangedOutside_refl _ _
  · exact (unchangedOutside_refl _ _).write (List.mem_singleton_self _) (by simp)

/-- Several destinations changed in turn, each once: what stands in every record, what else changes, and which bytes. -/
theorem modifyDests_eq (f : Dest → Dest) (l : List Nat) (hl : l.Nodup) (s : State) :
    ∃ ds m, l.foldl (fun s k => modifyDest k f s) s = { s with dju := { s.dju with dests := ds }, dram := m }
      ∧ (∀ j, Tab.get? ds j = if j ∈ l then (s.dest? j).map f else s.dest? j)
      ∧ unchangedOutside (l.map fun k => (s.destAddr k, 64)) s.dram m := by
  induction l generalizing s with
  | nil => exact ⟨s.dju.dests, s.dram, rfl, fun j => by simp [State.dest?], unchangedOutside_refl _ _⟩
  | cons k l ih =>
    obtain ⟨hk, hl⟩ := List.nodup_cons.1 hl
    obtain ⟨ds, m, heq, hget, hmem⟩ := ih hl (modifyDest k f s)
    obtain ⟨ds', m', hframe⟩ := modifyDest_frame k f s
    have hbytes := unchangedOutside_modifyDest k f s
    have hread := fun j => modifyDest_dest? k j f s
    rw [hframe] at heq hget hmem hbytes hread
    refine ⟨ds, m, ?_, fun j => ?_, hbytes.trans hmem⟩
    · rw [List.foldl_cons, hframe, heq]
    · rw [hget, hread]
      by_cases hj : j = k
      · simp [hj, hk]
      · simp [hj]

/-- The records of an ordered table that satisfy `p`: their numbers, each once. -/
theorem Tab.keysWhere_nodup {α : Type} {t : Tab α} (h : Tab.rising t = true) (p : α → Bool) : (Tab.keysWhere t p).Nodup := by
  have hp : (t.filter fun e => p e.2).Pairwise fun a b => a.1 < b.1 := ((Tab.rising_iff t).1 h).sublist List.filter_sublist
  exact List.pairwise_map.2 (hp.imp fun hab => Nat.ne_of_lt hab)

/-- The records of an ordered table that satisfy `p`, read by their numbers. -/
theorem Tab.mem_keysWhere {α : Type} {t : Tab α} (h : Tab.rising t = true) (p : α → Bool) (k : Nat) :
    k ∈ Tab.keysWhere t p ↔ ∃ v, Tab.get? t k = some v ∧ p v = true := by
  simp only [Tab.keysWhere, List.mem_map, List.mem_filter]
  constructor
  · rintro ⟨e, ⟨hmem, hp⟩, rfl⟩
    exact ⟨e.2, Tab.get?_of_mem h hmem, hp⟩
  · rintro ⟨v, hget, hp⟩
    exact ⟨(k, v), ⟨Tab.mem_of_get? hget, hp⟩, rfl⟩

theorem Tab.keysWhere_subset {α : Type} (t : Tab α) (p : α → Bool) : Tab.keysWhere t p ⊆ t.map Prod.fst :=
  List.map_subset _ List.filter_sublist.subset

theorem State.ordered_iff (s : State) :
    s.ordered = true ↔ Tab.rising s.psm.pages = true ∧ Tab.rising s.dju.docs = true ∧ Tab.rising s.dju.jobs = true
      ∧ Tab.rising s.dju.dests = true ∧ Tab.rising s.prn.entries = true := by
  simp [State.ordered, and_assoc]

end Sys2Proof.Machine
end

section
/-! PROOFS. SET_CLOCK, LOAD_BAND_HOURS and LOAD_ZONE_RATE: the clamped parameters, the next-try times that move with the
clock, the hours that are set one by one, and the rate record in DRAM (R96, R176, R177, R180). -/

namespace Sys2Proof.Machine

set_option Elab.async false

/-! ## Clamped parameters of a full list (R28) -/

/-- Of parameters that are each kept in a range, the first that lies outside its own was clamped first. -/
theorem firstClamped_ranges (num : Nat → Nat) (l : List (Nat × Nat × Nat)) (h : ∀ e ∈ l, e.2.1 ≤ e.2.2) :
    firstClamped (l.map fun e => (e.1, num e.1, clampNat e.2.1 e.2.2 (num e.1)))
      = (l.find? fun e => decide (num e.1 < e.2.1 ∨ e.2.2 < num e.1)).map Prod.fst := by
  induction l with
  | nil => rfl
  | cons e l ih =>
    have hkept : num e.1 = clampNat e.2.1 e.2.2 (num e.1) ↔ ¬ (num e.1 < e.2.1 ∨ e.2.2 < num e.1) := by
      rw [eq_clampNat_iff (h e List.mem_cons_self)]
      omega
    rw [List.map_cons, firstClamped, if_congr hkept rfl rfl, ite_not, List.find?_cons,
      ih fun q hq => h q (List.mem_cons_of_mem e hq)]
    by_cases hout : num e.1 < e.2.1 ∨ e.2.2 < num e.1 <;> simp [hout]

/-- One parameter that is kept in a range. -/
theorem firstClamped_one {lo hi : Nat} (h : lo ≤ hi) (k v : Nat) :
    firstClamped [(k, v, clampNat lo hi v)] = if v < lo ∨ hi < v then some k else none := by
  have hkept : v = clampNat lo hi v ↔ ¬ (v < lo ∨ hi < v) := by
    rw [eq_clampNat_iff h]
    omega
  rw [firstClamped, if_congr hkept rfl rfl, ite_not, firstClamped]

/-- A number field of a record that is written, read back. -/
theorem Mem.num_write_field (m : Mem) (b : Nat) (pre post : List Byte) (n v : Nat) :
    Mem.num (Mem.write m b (pre ++ (le n v ++ post))) (b + pre.length) n = v % 256 ^ n := by
  have h := Mem.bytes_write_field m b pre (le n v) post
  rw [le_length] at h
  rw [Mem.num, h, leNat_le]

/-! ## SET_CLOCK (R96, R176) -/

/-- The destinations that wait for a next try are moved, and no more than their records changes. -/
theorem shiftNextTry_eq (change : Int) (s : State) (h : Tab.rising s.dju.dests = true) :
    ∃ ds m, shiftNextTry change s = { s with dju := { s.dju with dests := ds }, dram := m }
      ∧ (∀ k, Tab.get? ds k
          = (s.dest? k).map fun t => if t.state = .retryWait then { t with nextTry := t.nextTry + change } else t)
      ∧ unchangedOutside (s.dju.dests.map fun e => (s.destAddr e.1, 64)) s.dram m := by
  let waits (d : Dest) : Bool := d.state == .retryWait
  obtain ⟨ds, m, heq, hget, hmem⟩ := modifyDests_eq (fun d => { d with nextTry := d.nextTry + change })
    (Tab.keysWhere s.dju.dests waits) (Tab.keysWhere_nodup h waits) s
  refine ⟨ds, m, heq, fun k => ?_, hmem.of_subset ?_⟩
  · rw [hget]
    cases hk : s.dest? k with
    | none => simp
    | some t =>
      have hiff : k ∈ Tab.keysWhere s.dju.dests waits ↔ t.state = .retryWait := by
        rw [Tab.mem_keysWhere h]
        simp [waits, show Tab.get? s.dju.dests k = some t from hk]
      by_cases hw : t.state = .retryWait <;> simp [hiff, hw]
  · have hspans : (s.dju.dests.map fun e => (s.destAddr e.1, 64))
        = (s.dju.dests.map Prod.fst).map fun k => (s.destAddr k, 64) := by
      rw [List.map_map]
      rfl
    rw [hspans]
    exact List.map_subset _ (Tab.keysWhere_subset _ _)

/-- The clock as SET_CLOCK sets it. -/
def State.clocked (sl : Slot) (s : State) : State :=
  { s with chg := { s.chg with seconds := sl.num 0, tenths := 0, tenthCycles := 3277,
                               weekOffset := min 604799 (sl.num 1), clockSet := true } }

theorem setClock_eq (sl : Slot) (s : State) :
    setClock sl s = (occasion (shiftNextTry ((sl.num 0 : Int) - (s.chg.seconds : Int)) (s.clocked sl)),
      Reply.doneOr (if 604799 < sl.num 1 then some 1 else none) .path 0
        (shiftNextTry ((sl.num 0 : Int) - (s.chg.seconds : Int)) (s.clocked sl)).hour) := by
  simp only [setClock, clampNat_zero, firstClamped_cons_min]
  rfl

/-! ## LOAD_BAND_HOURS (R177) -/

/-- The bands of `n` hours of the week from hour `first` on, set one by one. -/
def loadBands (first : Nat) (val : Nat → Nat) (n : Nat) (s : State) : State :=
  (List.range n).foldl (fun s i => putBand ((first + i) % 168) (val i) s) s

theorem loadBands_succ (first : Nat) (val : Nat → Nat) (n : Nat) (s : State) :
    loadBands first val (n + 1) s = putBand ((first + n) % 168) (val n) (loadBands first val n s) := by
  rw [loadBands, List.range_succ, List.foldl_append]
  rfl

theorem band_putBand (h b k : Nat) (s : State) : (putBand h b s).band k = if k = h then b else s.band k := by
  by_cases hk : k = h
  · rw [if_pos hk, hk]
    exact Tab.getD_set_self _ _ _ _
  · rw [if_neg hk]
    exact Tab.getD_set_of_ne _ _ _ hk

/-- Only the bands and DRAM change. -/
theorem loadBands_frame (first : Nat) (val : Nat → Nat) (n : Nat) (s : State) :
    ∃ bs m, loadBands first val n s = { s with chg := { s.chg with bands := bs }, dram := m } := by
  induction n with
  | zero => exact ⟨_, _, rfl⟩
  | succ n ih =>
    obtain ⟨bs, m, heq⟩ := ih
    rw [loadBands_succ, heq]
    exact ⟨_, _, rfl⟩

/-- The hours that are set hold their bands, in the table and in DRAM; no other hour and no other byte changes. -/
theorem loadBands_spec (first : Nat) {val : Nat → Nat} (hval : ∀ i, val i < 256) {n : Nat} (hn : n ≤ 168) (s : State) :
    (∀ i, i < n → (loadBands first val n s).band ((first + i) % 168) = val i
        ∧ Mem.num (loadBands first val n s).dram (s.por (0x34000 + (first + i) % 168)) 1 = val i)
      ∧ (∀ h, (∀ i, i < n → (first + i) % 168 ≠ h) → (loadBands first val n s).band h = s.band h)
      ∧ unchangedOutside ((List.range n).map fun i => (s.por (0x34000 + (first + i) % 168), 1)) s.dram
          (loadBands first val n s).dram := by
  induction n with
  | zero => exact ⟨fun i hi => absurd hi (Nat.not_lt_zero i), fun _ _ => rfl, unchangedOutside_refl _ _⟩
  | succ n ih =>
    obtain ⟨hset, hkept, hmem⟩ := ih (Nat.le_of_succ_le hn)
    have hpor : ∀ a, (loadBands first val n s).por a = s.por a := by
      obtain ⟨bs, m, heq⟩ := loadBands_frame first val n s
      rw [heq]
      exact fun _ => rfl
    have hdram : (loadBands first val (n + 1) s).dram
        = Mem.write (loadBands first val n s).dram (s.por (0x34000 + (first + n) % 168)) (u8 (val n)) := by
      rw [loadBands_succ, ← hpor]
      rfl
    refine ⟨fun i hi => ?_, fun h hh => ?_, ?_⟩
    · rw [hdram, loadBands_succ, band_putBand]
      by_cases hin : i = n
      · subst hin
        exact ⟨if_pos rfl, (Mem.num_write_self _ _ 1 _).trans (Nat.mod_eq_of_lt (hval i))⟩
      · have hi' : i < n := by omega
        have hne : (first + i) % 168 ≠ (first + n) % 168 := by omega
        rw [if_neg hne, Mem.num_write_of_disjoint _ _ _ _ _ (by simp only [State.por, u8_length]; omega)]
        exact hset i hi'
    · rw [loadBands_succ, band_putBand, if_neg (hh n (Nat.lt_succ_self n)).symm]
      exact hkept h fun i hi => hh i (Nat.lt_succ_of_lt hi)
    · rw [hdram]
      refine (hmem.of_subset (List.map_subset _ (List.range_subset.2 (Nat.le_succ n)))).write (n := 1) ?_ (by simp)
      exact List.mem_map_of_mem (f := fun i => (s.por (0x34000 + (first + i) % 168), 1)) (List.mem_range.2 (Nat.lt_succ_self n))

theorem loadBandHours_of_badDay {sl : Slot} (h : 6 < sl.num 0) (s : State) :
    loadBandHours sl s = (s, Reply.path .range 0) := if_pos h

theorem loadBandHours_of_badHour {sl : Slot} (hday : sl.num 0 ≤ 6) (h : 23 < sl.num 1) (s : State) :
    loadBandHours sl s = (s, Reply.path .range 1) := by
  rw [loadBandHours, if_neg (Nat.not_lt.2 hday), if_pos h]

theorem loadBandHours_of_good {sl : Slot} (hday : sl.num 0 ≤ 6) (hhour : sl.num 1 ≤ 23) (s : State) :
    loadBandHours sl s = (loadBands ((24 * sl.num 0 + sl.num 1) % 168) (fun i => sl.field 3 (2 * i) 2)
        (max 1 (min 12 (sl.num 2))) s,
      Reply.doneOr (if sl.num 2 < 1 ∨ 12 < sl.num 2 then some 2 else none) .path 0 ((24 * sl.num 0 + sl.num 1) % 168)) := by
  rw [loadBandHours, if_neg (Nat.not_lt.2 hday), if_neg (Nat.not_lt.2 hhour), firstClamped_one (by decide)]
  rfl

/-! ## LOAD_ZONE_RATE (R180) -/

theorem rate_putRate_self (i : Nat) (r : Rate) (s : State) : (putRate i r s).rate i = r := Tab.getD_set_self _ _ _ _

theorem rate_putRate_of_ne {i k : Nat} (r : Rate) (s : State) (h : k ≠ i) : (putRate i r s).rate k = s.rate k :=
  Tab.getD_set_of_ne _ _ _ h

/-- The period as the rate record holds it. -/
theorem putRate_period (i : Nat) (r : Rate) (s : State) :
    Mem.num (putRate i r s).dram (s.por (0x37000 + 16 * i + 2)) 2 = r.period % 65536 :=
  Mem.num_write_field s.dram (s.por (0x37000 + 16 * i)) (le 2 r.setUp)
    (le 2 r.n1 ++ le 2 r.n2 ++ le 2 r.a1 ++ le 2 r.a2 ++ le 2 r.a3 ++ zeros 2) 2 r.period

/-- The rate that LOAD_ZONE_RATE builds of its clamped parameters. -/
def Slot.rate (sl : Slot) : Rate :=
  { setUp := min 65535 (sl.num 2), period := max 1 (min 36000 (sl.num 3)), n1 := min 65535 (sl.num 4),
    n2 := min 65535 (sl.num 5), a1 := min 65535 (sl.num 6), a2 := min 65535 (sl.num 7), a3 := min 65535 (sl.num 8) }

/-- The parameters of LOAD_ZONE_RATE that are clamped, with their bounds. -/
def rateRanges : List (Nat × Nat × Nat) :=
  [(2, 0, 65535), (3, 1, 36000), (4, 0, 65535), (5, 0, 65535), (6, 0, 65535), (7, 0, 65535), (8, 0, 65535)]

/-- The checks of LOAD_ZONE_RATE in their order, and the rate that it stores when it passes them. -/
theorem loadZoneRate_eq (sl : Slot) (s : State) :
    loadZoneRate sl s =
      if 31 < sl.num 0 then (s, Reply.path .range 0)
      else if 3 < sl.num 1 then (s, Reply.path .range 1)
      else if sl.rate.n2 < sl.rate.n1 then (s, Reply.path .range 5)
      else (putRate (4 * sl.num 0 + sl.num 1) sl.rate s,
        Reply.doneOr ((rateRanges.find? fun e => decide (sl.num e.1 < e.2.1 ∨ e.2.2 < sl.num e.1)).map Prod.fst) .path 0
          (4 * sl.num 0 + sl.num 1)) := by
  rw [← firstClamped_ranges sl.num rateRanges (by decide)]
  simp only [loadZoneRate, clampNat_zero]
  rfl

/-- Settles O41: the three rows take the slot. The clock's destinations are moved as `shiftNextTry_eq` says, the hours are
those of `loadBands`, and the rate is the one of the clamped parameters. -/
theorem tariffCommands : Obligations.TariffCommands := by
  refine ⟨fun s h hord => ?_, fun s h => ?_, fun s h => ?_⟩
  · intro sl week
    obtain ⟨-, -, -, hdests, -⟩ := s.ordered_iff.1 hord
    obtain ⟨ds, m, heq, hget, hmem⟩ :=
      shiftNextTry_eq ((sl.num 0 : Int) - (s.chg.seconds : Int)) (s.carry.clocked sl) hdests
    have hbody := setClock_eq sl s.carry
    rw [State.carry_chg, heq] at hbody
    have hexec := exec_setClock s
    rw [take_of_readyFor h le_rfl, hbody] at hexec
    exact ⟨_, hexec, rfl, hget, hmem⟩
  · intro sl first count
    have answer {t : State} {r : Reply} (hbody : Machine.loadBandHours sl s.carry = (t, r)) :
        exec .loadBandHours s = .next (s.answered r t) := by
      rw [exec_loadBandHours, take_of_readyFor h le_rfl, hbody]
    refine ⟨fun hday => answer (loadBandHours_of_badDay hday _), fun hday hhour => answer (loadBandHours_of_badHour hday hhour _),
      fun hday hhour => ⟨_, answer (loadBandHours_of_good hday hhour _), ?_, ?_⟩⟩
    · obtain ⟨bs, m, heq⟩ := loadBands_frame first (fun i => sl.field 3 (2 * i) 2) count s.carry
      rw [heq]
      rfl
    · exact loadBands_spec first (fun i => (sl.field_lt 3 (2 * i) 2).trans (by decide)) (by omega) s.carry
  · intro sl i c r
    have answer {t : State} {q : Reply} (hbody : Machine.loadZoneRate sl s.carry = (t, q)) :
        exec .loadZoneRate s = .next (s.answered q t) := by
      rw [exec_loadZoneRate, take_of_readyFor h le_rfl, hbody]
    refine ⟨fun hzone => answer ?_, fun hzone hband => answer ?_, fun hzone hband hlimits => answer ?_,
      fun hzone hband hlimits => ?_⟩
    · rw [loadZoneRate_eq, if_pos hzone]
    · rw [loadZoneRate_eq, if_neg (Nat.not_lt.2 hzone), if_pos hband]
    · rw [loadZoneRate_eq, if_neg (Nat.not_lt.2 hzone), if_neg (Nat.not_lt.2 hband)]
      exact if_pos hlimits
    · intro ranges clamped
      refine ⟨putRate i sl.rate s.carry, answer ?_, rfl, rate_putRate_self i sl.rate s.carry,
        fun k hk => rate_putRate_of_ne sl.rate s.carry hk, ?_, unchangedOutside_store (by simp)⟩
      · rw [loadZoneRate_eq, if_neg (Nat.not_lt.2 hzone), if_neg (Nat.not_lt.2 hband)]
        exact if_neg (Nat.not_lt.2 hlimits)
      · refine (putRate_period i sl.rate s.carry).trans (Nat.mod_eq_of_lt ?_)
        change max 1 (min 36000 (sl.num 3)) < 65536
        omega

end Sys2Proof.Machine
end

section
/-! PROOFS. LOAD_ROUTE and LOAD_TARIFF_PREFIX: the checks of the characters, the record that holds them, and a table without
gaps as its count and records stand in DRAM (R147, R178, 11.6). -/

namespace Sys2Proof.Machine

set_option Elab.async false

/-- A slot that is ready and that the row takes: the row's own work answers it. -/
theorem takeIf_of_readyFor {kind need supplied : Nat} {s : State} (h : s.readyFor kind supplied = true)
    (hneed : need ≤ supplied) {mine : Slot → Bool} (hmine : mine s.headSlot = true) (body : Slot → State → State × Reply) :
    takeIf kind need mine body s = s.answered (body s.headSlot s.carry).2 (body s.headSlot s.carry).1 := by
  obtain ⟨htake, hkind, -, -⟩ := (s.readyFor_iff kind supplied).1 h
  rw [← take_of_readyFor h hneed body, take, takeIf, takeIf, if_pos (by simp [htake, hkind, hmine]),
    if_pos (by simp [htake, hkind])]

/-! ## Characters of the slot (R147, R178) -/

theorem Slot.chars_getElem? (sl : Slot) (p n i : Nat) : (sl.chars p n)[i]? = if i < n then some (sl.char p i) else none := by
  by_cases h : i < n <;> simp [Slot.chars, h]

theorem firstBadChar_of_good {ok : Byte → Bool} {sl : Slot} {p n : Nat} (h : ∀ i, i < n → ok (sl.char p i) = true) :
    firstBadChar ok (sl.chars p n) = none := by
  simpa [firstBadChar, Slot.chars] using h

theorem firstBadChar_of_bad {ok : Byte → Bool} {sl : Slot} {p n i : Nat} (hi : i < n)
    (hbefore : ∀ k, k < i → ok (sl.char p k) = true) (hbad : ok (sl.char p i) = false) :
    firstBadChar ok (sl.chars p n) = some i := by
  refine List.findIdx?_eq_some_iff_getElem.2 ⟨by simpa [Slot.chars] using hi, by simp [Slot.chars, hbad], fun k hk => ?_⟩
  simp [Slot.chars, hbefore k hk]

/-! ## The record that holds them -/

/-- The first record that satisfies `p`, by its number. -/
theorem findIdx?_of_first {α : Type} {p : α → Bool} {l : List α} {i : Nat} {a : α} (hget : l[i]? = some a) (hp : p a = true)
    (hbefore : ∀ k q, k < i → l[k]? = some q → p q = false) : l.findIdx? p = some i := by
  obtain ⟨hi, rfl⟩ := List.getElem?_eq_some_iff.1 hget
  refine List.findIdx?_eq_some_iff_getElem.2 ⟨hi, hp, fun k hk => ?_⟩
  rw [hbefore k _ hk (List.getElem?_eq_getElem (hk.trans hi))]
  exact Bool.false_ne_true

theorem findIdx?_of_none {α : Type} {p : α → Bool} {l : List α} (h : ∀ a ∈ l, p a = false) : l.findIdx? p = none :=
  List.findIdx?_eq_none_iff.2 h

/-! ## Tables without gaps (R147, R178) -/

theorem setRecord_inside {α : Type} {i : Nat} {l : List α} (h : i < l.length) (r : α) : setRecord i r l = l.set i r := if_pos h

theorem setRecord_behind {α : Type} (r : α) (l : List α) : setRecord l.length r l = l ++ [r] := if_neg (Nat.lt_irrefl _)

theorem removeRecord_eq {α : Type} {l : List α} {last : α} (h : l[l.length - 1]? = some last) (i : Nat) :
    removeRecord i l = (l.set i last).dropLast := by
  rw [removeRecord, List.getLast?_eq_getElem?, h]

theorem State.por_add (s : State) (a b : Nat) : s.por (a + b) = s.por a + b := (Nat.add_assoc _ a b).symm

/-- DRAM after the count of a table has changed and a record of it has been written behind the count's place. -/
theorem writeRecord_afterCount (m : Mem) {a k c : Nat} (countBytes : List Byte) (record : List Byte)
    (hk : countBytes.length = k) (hsep : c + k ≤ a ∨ a + record.length ≤ c) :
    Mem.bytes (Mem.write (Mem.write m c countBytes) a record) a record.length = record
      ∧ Mem.bytes (Mem.write (Mem.write m c countBytes) a record) c k = countBytes
      ∧ unchangedOutside [(a, record.length), (c, k)] m (Mem.write (Mem.write m c countBytes) a record) := by
  refine ⟨Mem.bytes_write_self _ _ _, ?_, ?_⟩
  · rw [Mem.bytes_write_of_disjoint _ _ _ _ _ hsep, ← hk, Mem.bytes_write_self]
  · exact ((unchangedOutside_refl _ m).write (n := k) (by simp) hk.le).write (by simp) le_rfl

/-- DRAM after the count of a table at `base` has changed and the last record has moved into the place of record `i`. -/
theorem moveRecord_afterCount (s : State) {base i last k c : Nat} (countBytes : List Byte) (hk : countBytes.length = k)
    (hsep : c + k ≤ base ∨ base + 32 * last + 32 ≤ c) (hi : i ≤ last) (t : State)
    (ht : t.dram = Mem.write s.dram c countBytes) :
    Mem.bytes (moveRecord base i last t).dram c k = countBytes
      ∧ (i < last → Mem.bytes (moveRecord base i last t).dram (base + 32 * i) 32 = Mem.bytes s.dram (base + 32 * last) 32)
      ∧ Mem.bytes (moveRecord base i last t).dram (base + 32 * last) 32 = zeros 32
      ∧ unchangedOutside [(base + 32 * i, 32), (base + 32 * last, 32), (c, k)] s.dram (moveRecord base i last t).dram := by
  have hlast : Mem.bytes t.dram (base + 32 * last) 32 = Mem.bytes s.dram (base + 32 * last) 32 := by
    rw [ht, Mem.bytes_write_of_disjoint _ _ _ _ _ (by omega)]
  refine ⟨?_, fun hlt => ?_, Mem.bytes_write_self _ _ (zeros 32), ?_⟩
  · rw [moveRecord, State.store_dram, State.store_dram, Mem.bytes_write_of_disjoint _ _ _ _ _ (by simp; omega),
      Mem.bytes_write_of_disjoint _ _ _ _ _ (by simp; omega), ht, ← hk, Mem.bytes_write_self]
  · rw [(moveRecord_dram base hlt t).1, hlast]
  · rw [moveRecord, State.store_dram, State.store_dram, ht]
    exact (((unchangedOutside_refl _ _).write (n := k) (by simp) hk.le).write (n := 32) (by simp) (by simp)).write (n := 32)
      (by simp) (by simp)

/-! ## LOAD_ROUTE (R147) -/

theorem routeFault_of_badCount {sl : Slot} (h : sl.num 0 < 1 ∨ 8 < sl.num 0) : routeFault sl = some (Reply.path .range 0) :=
  if_pos h

theorem routeFault_of_goodCount {sl : Slot} (hlow : 1 ≤ sl.num 0) (hhigh : sl.num 0 ≤ 8) {bad : Option Nat}
    (hbad : firstBadChar isDigit (sl.chars 1 (sl.num 0)) = bad) :
    routeFault sl = (bad.map fun i => Reply.path .range (1 + i / 4)).or
      (if 15 < sl.num 6 then some (Reply.path .range 6) else none) := by
  rw [routeFault, if_neg (by omega), hbad]
  cases bad <;> rfl

theorem loadRoute_of_fault {sl : Slot} {r : Reply} (h : routeFault sl = some r) (s : State) : loadRoute sl s = (s, r) := by
  rw [loadRoute, h]

/-- The route that LOAD_ROUTE builds of its clamped parameters. -/
def Slot.route (sl : Slot) : Route :=
  { digitCount := sl.num 0, digits := sl.chars 1 (sl.num 0), desk := min 31 (sl.num 3), tray := min 3 (sl.num 4),
    copies := min 9 (sl.num 5), printClass := sl.field 6 0 1, filter := sl.flag 6 1, autoDelete := sl.flag 6 2 }

/-- The first parameter of LOAD_ROUTE that was clamped. -/
def Slot.routeClamped (sl : Slot) : Option Nat :=
  if 31 < sl.num 3 then some 3 else if 3 < sl.num 4 then some 4 else if 9 < sl.num 5 then some 5 else none

theorem loadRoute_of_found {sl : Slot} (h : routeFault sl = none) {s : State} {i : Nat}
    (hfind : s.rxr.routes.findIdx? (fun r => r.isFor (sl.chars 1 (sl.num 0))) = some i) :
    loadRoute sl s = if sl.flag 6 3 then (dropRoute i s, Reply.doneOr sl.routeClamped .path 0 (s.rxr.routes.length - 1))
      else (putRoute i sl.route s, Reply.doneOr sl.routeClamped .path 0 i) := by
  simp only [loadRoute, h, hfind, clampNat_zero, firstClamped_cons_min, Slot.bit_flag]
  rfl

theorem loadRoute_of_notFound {sl : Slot} (h : routeFault sl = none) {s : State}
    (hfind : s.rxr.routes.findIdx? (fun r => r.isFor (sl.chars 1 (sl.num 0))) = none) :
    loadRoute sl s = if sl.flag 6 3 then (s, Reply.path .noEntry 1)
      else if 64 ≤ s.rxr.routes.length then (s, Reply.path .full 0)
      else (putRoute s.rxr.routes.length sl.route s, Reply.doneOr sl.routeClamped .path 0 s.rxr.routes.length) := by
  simp only [loadRoute, h, hfind, clampNat_zero, firstClamped_cons_min, Slot.bit_flag]
  rfl

theorem putRoute_frame {i : Nat} {r : Route} {s : State} {rs : List Route} (h : setRecord i r s.rxr.routes = rs) :
    putRoute i r s = { s with rxr := { s.rxr with routes := rs }, dram := (putRoute i r s).dram } := by
  subst h
  rfl

/-- The record and the count as a write leaves them in DRAM. -/
theorem putRoute_spec {i : Nat} (hi : i ≤ 63) (r : Route) (s : State) :
    Mem.bytes (putRoute i r s).dram (s.por (0x2B000 + 32 * i)) 32 = r.bytes
      ∧ Mem.num (putRoute i r s).dram (s.por 0x2B820) 1 = (setRecord i r s.rxr.routes).length % 256
      ∧ unchangedOutside [(s.por (0x2B000 + 32 * i), 32), (s.por 0x2B820, 1)] s.dram (putRoute i r s).dram := by
  have h := writeRecord_afterCount s.dram (a := s.por (0x2B000 + 32 * i)) (c := s.por 0x2B820)
    (u8 (setRecord i r s.rxr.routes).length) r.bytes rfl (.inr (by simp only [Route.bytes_length, State.por]; omega))
  rw [Route.bytes_length] at h
  obtain ⟨hrecord, hcount, hout⟩ := h
  exact ⟨hrecord, (congrArg leNat hcount).trans (leNat_le 1 _), hout⟩

theorem dropRoute_frame {i : Nat} {s : State} {rs : List Route} (h : removeRecord i s.rxr.routes = rs) :
    dropRoute i s = { s with rxr := { s.rxr with routes := rs }, dram := (dropRoute i s).dram } := by
  subst h
  rfl

/-- The freed place, the last place and the count as a removal leaves them in DRAM. -/
theorem dropRoute_spec {i : Nat} {s : State} (hi : i < s.rxr.routes.length) (hlen : s.rxr.routes.length ≤ 64) :
    Mem.num (dropRoute i s).dram (s.por 0x2B820) 1 = (removeRecord i s.rxr.routes).length % 256
      ∧ (i + 1 < s.rxr.routes.length → Mem.bytes (dropRoute i s).dram (s.por (0x2B000 + 32 * i)) 32
          = Mem.bytes s.dram (s.por (0x2B000 + 32 * (s.rxr.routes.length - 1))) 32)
      ∧ Mem.bytes (dropRoute i s).dram (s.por (0x2B000 + 32 * (s.rxr.routes.length - 1))) 32 = zeros 32
      ∧ unchangedOutside [(s.por (0x2B000 + 32 * i), 32), (s.por (0x2B000 + 32 * (s.rxr.routes.length - 1)), 32),
          (s.por 0x2B820, 1)] s.dram (dropRoute i s).dram := by
  simp only [State.por_add s 0x2B000]
  obtain ⟨hcount, hmoved, hzero, hout⟩ := moveRecord_afterCount s (base := s.por 0x2B000) (i := i)
    (last := s.rxr.routes.length - 1) (c := s.por 0x2B820) (u8 (removeRecord i s.rxr.routes).length) rfl
    (.inr (by simp only [State.por]; omega)) (by omega) (setRoutes (removeRecord i s.rxr.routes) s) rfl
  exact ⟨(congrArg leNat hcount).trans (leNat_le 1 _), fun h => hmoved (by omega), hzero, hout⟩

/-- Both rows of LOAD_ROUTE answer their slot with LOAD_ROUTE's work. -/
theorem exec_loadRoute {c : Instr} {s : State} (h : s.readyFor 0x40 7 = true)
    (hc : c = (if s.headSlot.flag 6 3 then .loadRouteRemove else .loadRouteWrite)) {t : State} {r : Reply}
    (hbody : loadRoute s.headSlot s.carry = (t, r)) : exec c s = .next (s.answered r t) := by
  by_cases hflag : s.headSlot.flag 6 3 = true
  · rw [hc, if_pos hflag, exec_loadRouteRemove, takeIf_of_readyFor h le_rfl (by simp only [hflag]; simp), hbody]
  · rw [hc, if_neg hflag, exec_loadRouteWrite,
      takeIf_of_readyFor h le_rfl (by simp only [Bool.not_eq_true] at hflag; simp only [hflag]; simp), hbody]

/-- Settles O34: the checks in their order, then the table's record as the search finds it, and DRAM as `putRoute_spec` and
`dropRoute_spec` describe it. -/
theorem Settled.loadRoute : Obligations.LoadRoute := by
  intro c s h sl n called remove hc rs new clamped
  have answer {t : State} {r : Reply} (hbody : Machine.loadRoute sl s.carry = (t, r)) : exec c s = .next (s.answered r t) :=
    exec_loadRoute h hc hbody
  refine ⟨fun hcount => answer (loadRoute_of_fault (routeFault_of_badCount hcount) _), fun hlow hhigh =>
    ⟨fun i hi hbefore hbad => answer (loadRoute_of_fault ?_ _), fun hgood => ?_⟩⟩
  · rw [routeFault_of_goodCount hlow hhigh (firstBadChar_of_bad hi hbefore hbad)]
    rfl
  have hfault := routeFault_of_goodCount hlow hhigh (firstBadChar_of_good hgood)
  refine ⟨fun hoptions => answer (loadRoute_of_fault (hfault.trans (if_pos hoptions)) _), fun hoptions => ?_⟩
  have hnone : routeFault sl = none := hfault.trans (if_neg (Nat.not_lt.2 hoptions))
  refine ⟨fun habsent => ?_, fun i r hget hfor hbefore hlen => ?_⟩
  · have hbody := loadRoute_of_notFound hnone (s := s.carry) (findIdx?_of_none habsent)
    refine ⟨fun hremove => answer (hbody.trans (if_pos hremove)), fun hwrite hfull => answer ?_, fun hwrite hroom => ?_⟩
    · rw [hbody, if_neg (Bool.eq_false_iff.1 hwrite)]
      exact if_pos hfull
    · obtain ⟨hrecord, hnum, hout⟩ := putRoute_spec (Nat.le_of_lt_succ hroom) new s.carry
      have hset : setRecord rs.length new rs = rs ++ [new] := setRecord_behind new rs
      refine ⟨putRoute rs.length new s.carry, answer ?_, putRoute_frame hset, hrecord, hnum.trans ?_, hout⟩
      · rw [hbody, if_neg (Bool.eq_false_iff.1 hwrite)]
        exact if_neg (Nat.not_le.2 hroom)
      · change (setRecord rs.length new rs).length % 256 = _
        rw [hset, List.length_append, List.length_singleton, Nat.mod_eq_of_lt (by omega)]
  · have hbody := loadRoute_of_found hnone (s := s.carry) (findIdx?_of_first hget hfor hbefore)
    obtain ⟨hi, -⟩ := List.getElem?_eq_some_iff.1 hget
    refine ⟨fun hwrite => ?_, fun hremove last hlast => ?_⟩
    · obtain ⟨hrecord, -, hout⟩ := putRoute_spec (Nat.le_of_lt_succ (hi.trans_le hlen)) new s.carry
      exact ⟨putRoute i new s.carry, answer (hbody.trans (if_neg (Bool.eq_false_iff.1 hwrite))),
        putRoute_frame (setRecord_inside hi new), hrecord, hout⟩
    · obtain ⟨hnum, hmoved, hzero, hout⟩ := dropRoute_spec (s := s.carry) hi hlen
      have hdrop : removeRecord i rs = (rs.set i last).dropLast := removeRecord_eq hlast i
      refine ⟨dropRoute i s.carry, answer (hbody.trans (if_pos hremove)), dropRoute_frame hdrop, hnum.trans ?_,
        hmoved, hzero, hout⟩
      change (removeRecord i rs).length % 256 = _
      rw [hdrop, List.length_dropLast, List.length_set, Nat.mod_eq_of_lt (by omega)]

end Sys2Proof.Machine
end

section
/-! PROOFS. LOAD_TARIFF_PREFIX: its checks, the record with the prefix, and the prefix table in DRAM (R178, 11.6). -/

namespace Sys2Proof.Machine

set_option Elab.async false

theorem prefixFault_of_badCount {sl : Slot} (h : sl.num 0 < 1 ∨ 12 < sl.num 0) : prefixFault sl = some (Reply.path .range 0) :=
  if_pos h

theorem prefixFault_of_goodCount {sl : Slot} (hlow : 1 ≤ sl.num 0) (hhigh : sl.num 0 ≤ 12) {bad : Option Nat}
    (hbad : firstBadChar isPrefixChar (sl.chars 1 (sl.num 0)) = bad) :
    prefixFault sl = (bad.map fun i => Reply.path .range (1 + i / 4)).or
      (if 1 < sl.num 5 then some (Reply.path .range 5) else none) := by
  rw [prefixFault, if_neg (by omega), hbad]
  cases bad <;> rfl

theorem loadTariffPrefix_of_fault {sl : Slot} {r : Reply} (h : prefixFault sl = some r) (s : State) :
    loadTariffPrefix sl s = (s, r) := by
  rw [loadTariffPrefix, h]

/-- The prefix record that LOAD_TARIFF_PREFIX builds. -/
def Slot.tariffPrefix (sl : Slot) : TariffPrefix :=
  { count := sl.num 0, chars := sl.chars 1 (sl.num 0), zone := min 31 (sl.num 4) }

/-- The parameter of LOAD_TARIFF_PREFIX that was clamped. -/
def Slot.zoneClamped (sl : Slot) : Option Nat := if 31 < sl.num 4 then some 4 else none

theorem loadTariffPrefix_of_found {sl : Slot} (h : prefixFault sl = none) {s : State} {i : Nat}
    (hfind : findPrefix (sl.chars 1 (sl.num 0)) s.chg.prefixes = some i) :
    loadTariffPrefix sl s = if sl.num 5 = 1 then
        (dropPrefix i s, Reply.doneOr sl.zoneClamped .path 0 (s.chg.prefixes.length - 1))
      else (putPrefix i sl.tariffPrefix s, Reply.doneOr sl.zoneClamped .path 0 i) := by
  simp only [loadTariffPrefix, h, hfind, clampNat_zero, firstClamped_cons_min]
  rfl

theorem loadTariffPrefix_of_notFound {sl : Slot} (h : prefixFault sl = none) {s : State}
    (hfind : findPrefix (sl.chars 1 (sl.num 0)) s.chg.prefixes = none) :
    loadTariffPrefix sl s = if sl.num 5 = 1 then (s, Reply.path .noEntry 1)
      else if 256 ≤ s.chg.prefixes.length then (s, Reply.path .full 0)
      else (putPrefix s.chg.prefixes.length sl.tariffPrefix s,
        Reply.doneOr sl.zoneClamped .path 0 s.chg.prefixes.length) := by
  simp only [loadTariffPrefix, h, hfind, clampNat_zero, firstClamped_cons_min]
  rfl

theorem putPrefix_frame {i : Nat} {p : TariffPrefix} {s : State} {ps : List TariffPrefix}
    (h : setRecord i p s.chg.prefixes = ps) :
    putPrefix i p s = { s with chg := { s.chg with prefixes := ps }, dram := (putPrefix i p s).dram } := by
  subst h
  rfl

/-- The record and the count as a write leaves them in DRAM. -/
theorem putPrefix_spec (i : Nat) (p : TariffPrefix) (s : State) :
    Mem.bytes (putPrefix i p s).dram (s.por (0x35000 + 32 * i)) 32 = p.bytes
      ∧ Mem.num (putPrefix i p s).dram (s.por 0x34840) 2 = (setRecord i p s.chg.prefixes).length % 65536
      ∧ unchangedOutside [(s.por (0x35000 + 32 * i), 32), (s.por 0x34840, 2)] s.dram (putPrefix i p s).dram := by
  have h := writeRecord_afterCount s.dram (a := s.por (0x35000 + 32 * i)) (c := s.por 0x34840)
    (le 2 (setRecord i p s.chg.prefixes).length) p.bytes (le_length _ _) (.inl (by simp only [State.por]; omega))
  rw [TariffPrefix.bytes_length] at h
  obtain ⟨hrecord, hcount, hout⟩ := h
  exact ⟨hrecord, (congrArg leNat hcount).trans (leNat_le 2 _), hout⟩

theorem dropPrefix_frame {i : Nat} {s : State} {ps : List TariffPrefix} (h : removeRecord i s.chg.prefixes = ps) :
    dropPrefix i s = { s with chg := { s.chg with prefixes := ps }, dram := (dropPrefix i s).dram } := by
  subst h
  rfl

/-- The freed place, the last place and the count as a removal leaves them in DRAM. -/
theorem dropPrefix_spec {i : Nat} {s : State} (hi : i < s.chg.prefixes.length) :
    Mem.num (dropPrefix i s).dram (s.por 0x34840) 2 = (removeRecord i s.chg.prefixes).length % 65536
      ∧ (i + 1 < s.chg.prefixes.length → Mem.bytes (dropPrefix i s).dram (s.por (0x35000 + 32 * i)) 32
          = Mem.bytes s.dram (s.por (0x35000 + 32 * (s.chg.prefixes.length - 1))) 32)
      ∧ Mem.bytes (dropPrefix i s).dram (s.por (0x35000 + 32 * (s.chg.prefixes.length - 1))) 32 = zeros 32
      ∧ unchangedOutside [(s.por (0x35000 + 32 * i), 32), (s.por (0x35000 + 32 * (s.chg.prefixes.length - 1)), 32),
          (s.por 0x34840, 2)] s.dram (dropPrefix i s).dram := by
  simp only [State.por_add s 0x35000]
  obtain ⟨hcount, hmoved, hzero, hout⟩ := moveRecord_afterCount s (base := s.por 0x35000) (i := i)
    (last := s.chg.prefixes.length - 1) (c := s.por 0x34840) (le 2 (removeRecord i s.chg.prefixes).length) (le_length _ _)
    (.inl (by simp only [State.por]; omega)) (by omega) (setPrefixes (removeRecord i s.chg.prefixes) s) rfl
  exact ⟨(congrArg leNat hcount).trans (leNat_le 2 _), fun h => hmoved (by omega), hzero, hout⟩

/-- Both rows of LOAD_TARIFF_PREFIX answer their slot with its work. -/
theorem exec_loadTariffPrefix {c : Instr} {s : State} (h : s.readyFor 0x52 6 = true)
    (hc : c = (if s.headSlot.num 5 = 1 then .loadTariffPrefixRemove else .loadTariffPrefixWrite)) {t : State} {r : Reply}
    (hbody : loadTariffPrefix s.headSlot s.carry = (t, r)) : exec c s = .next (s.answered r t) := by
  by_cases hremove : s.headSlot.num 5 = 1
  · rw [hc, if_pos hremove, exec_loadTariffPrefixRemove, takeIf_of_readyFor h le_rfl (by simp [hremove]), hbody]
  · rw [hc, if_neg hremove, exec_loadTariffPrefixWrite, takeIf_of_readyFor h le_rfl (by simp [hremove]), hbody]

/-- Settles O42: the checks in their order, then the record as the search finds it, and DRAM as `putPrefix_spec` and
`dropPrefix_spec` describe it. -/
theorem Settled.loadTariffPrefix : Obligations.LoadTariffPrefix := by
  intro c s h sl n cs hc ps new clamped holds
  have answer {t : State} {r : Reply} (hbody : Machine.loadTariffPrefix sl s.carry = (t, r)) :
      exec c s = .next (s.answered r t) := exec_loadTariffPrefix h hc hbody
  refine ⟨fun hcount => answer (loadTariffPrefix_of_fault (prefixFault_of_badCount hcount) _), fun hlow hhigh =>
    ⟨fun i hi hbefore hbad => answer (loadTariffPrefix_of_fault ?_ _), fun hgood => ?_⟩⟩
  · rw [prefixFault_of_goodCount hlow hhigh (firstBadChar_of_bad hi hbefore hbad)]
    rfl
  have hfault := prefixFault_of_goodCount hlow hhigh (firstBadChar_of_good hgood)
  refine ⟨fun hoptions => answer (loadTariffPrefix_of_fault (hfault.trans (if_pos hoptions)) _), fun hoptions => ?_⟩
  have hnone : prefixFault sl = none := hfault.trans (if_neg (Nat.not_lt.2 hoptions))
  have notOne (hwrite : sl.num 5 = 0) : ¬ sl.num 5 = 1 := by omega
  refine ⟨fun habsent => ?_, fun i r hget hfor hbefore hlen => ?_⟩
  · have hbody := loadTariffPrefix_of_notFound hnone (s := s.carry) (findIdx?_of_none habsent)
    refine ⟨fun hremove => answer (hbody.trans (if_pos hremove)), fun hwrite hfull => answer ?_, fun hwrite hroom => ?_⟩
    · rw [hbody, if_neg (notOne hwrite)]
      exact if_pos hfull
    · obtain ⟨hrecord, hnum, hout⟩ := putPrefix_spec ps.length new s.carry
      have hset : setRecord ps.length new ps = ps ++ [new] := setRecord_behind new ps
      refine ⟨putPrefix ps.length new s.carry, answer ?_, putPrefix_frame hset, hrecord, hnum.trans ?_, hout⟩
      · rw [hbody, if_neg (notOne hwrite)]
        exact if_neg (Nat.not_le.2 hroom)
      · change (setRecord ps.length new ps).length % 65536 = _
        rw [hset, List.length_append, List.length_singleton, Nat.mod_eq_of_lt (by omega)]
  · have hbody := loadTariffPrefix_of_found hnone (s := s.carry) (findIdx?_of_first hget hfor hbefore)
    obtain ⟨hi, -⟩ := List.getElem?_eq_some_iff.1 hget
    refine ⟨fun hwrite => ?_, fun hremove last hlast => ?_⟩
    · obtain ⟨hrecord, -, hout⟩ := putPrefix_spec i new s.carry
      exact ⟨putPrefix i new s.carry, answer (hbody.trans (if_neg (notOne hwrite))),
        putPrefix_frame (setRecord_inside hi new), hrecord, hout⟩
    · obtain ⟨hnum, hmoved, hzero, hout⟩ := dropPrefix_spec (s := s.carry) hi
      have hdrop : removeRecord i ps = (ps.set i last).dropLast := removeRecord_eq hlast i
      refine ⟨dropPrefix i s.carry, answer (hbody.trans (if_pos hremove)), dropPrefix_frame hdrop, hnum.trans ?_,
        hmoved, hzero, hout⟩
      change (removeRecord i ps).length % 65536 = _
      rw [hdrop, List.length_dropLast, List.length_set, Nat.mod_eq_of_lt (by omega)]

end Sys2Proof.Machine
end

section
/-! PROOFS. SET_ACCOUNT, CLEAR_SPENT and ACK_CHARGE_LOG: the exhausted mark of an account, and the place of a sequence among
the records in use (R182 to R185, R190, R191). -/

namespace Sys2Proof.Machine

set_option Elab.async false

/-! ## Accounts (R182) -/

theorem account_putAccount_self (i : Nat) (a : Account) (s : State) : (putAccount i a s).account i = a :=
  Tab.getD_set_self _ _ _ _

theorem account_putAccount_of_ne {i k : Nat} (a : Account) (s : State) (h : k ≠ i) :
    (putAccount i a s).account k = s.account k := Tab.getD_set_of_ne _ _ _ h

/-- The account once its exhausted mark is tested: the mark is armed exactly when something is available. -/
theorem Account.rearmed_eq (a : Account) : a.rearmed = { a with armed := a.armed || a.covers 1 } := by
  cases h : a.armed <;> cases hc : a.covers 1 <;> simp [Account.rearmed, h, hc] <;> rw [← h]

/-- The account as a test of its exhausted mark leaves it, before its event. -/
def markTested (i : Nat) (s : State) : State :=
  if (s.account i).armed = (s.account i).covers 1 then s
  else putAccount i { s.account i with armed := (s.account i).covers 1 } s

/-- A test of the exhausted mark: the mark follows what is available, and its fall is an event. -/
theorem testExhausted_eq (i : Nat) (s : State) :
    testExhausted i s = if (s.account i).armed = true ∧ (s.account i).covers 1 = false then
        post .accountExhausted .account i 0 (s.account i).spent (markTested i s)
      else markTested i s := by
  cases ha : (s.account i).armed <;> cases hc : (s.account i).covers 1 <;>
    simp [testExhausted, markTested, Account.rearmed_eq, ha, hc]

theorem markTested_account (i : Nat) (s : State) :
    (markTested i s).account i = { s.account i with armed := (s.account i).covers 1 } := by
  unfold markTested
  split
  next h => rw [← h]
  next => exact account_putAccount_self i _ s

theorem markTested_account_of_ne {i k : Nat} (s : State) (h : k ≠ i) : (markTested i s).account k = s.account k := by
  unfold markTested
  split
  · rfl
  · exact account_putAccount_of_ne _ s h

/-- Only the account and its record change. -/
theorem markTested_frame (i : Nat) (s : State) :
    ∃ as m, markTested i s = { s with chg := { s.chg with accounts := as }, dram := m }
      ∧ unchangedOutside [(s.por (0x38000 + 64 * i), 64)] s.dram m := by
  unfold markTested
  split
  · exact ⟨_, _, rfl, unchangedOutside_refl _ _⟩
  · exact ⟨_, _, rfl, unchangedOutside_store (by simp)⟩

/-- An event changes no table of the Charge Unit. -/
theorem post_chg (kind : EventKind) (src : SourceKind) (idx code value : Nat) (s : State) :
    (post kind src idx code value s).chg = s.chg := by
  unfold post postTagged
  split
  · rfl
  · rw [deliverEvent_frame]

/-- What is available does not depend on the mark. -/
theorem Account.availableValue_armed (a : Account) (b : Bool) : { a with armed := b }.availableValue = a.availableValue := rfl

/-! ## SET_ACCOUNT (R183) -/

theorem State.hasCall_iff (s : State) (i : Nat) : s.hasCall i = true ↔ ∃ e ∈ s.chg.calls, e.2.account = i := by
  simp [State.hasCall]

/-- The account that SET_ACCOUNT makes of `a`. -/
def Slot.account (sl : Slot) (a : Account) : Account :=
  { a with state := accountStateOf (sl.num 1), limit := if sl.num 3 = 1 then none else some (sl.num 2),
           secondsPerPage := max 10 (min 600 (sl.num 4)) }

theorem accountStateOf_eq {v : Nat} (h : v ≤ 2) :
    accountStateOf v = if v = 0 then .unused else if v = 1 then .opened else .blocked := by
  interval_cases v <;> rfl

/-- The checks of SET_ACCOUNT in their order, and the account that it stores when it passes them. -/
theorem setAccount_eq (sl : Slot) (s : State) :
    setAccount sl s =
      if 63 < sl.num 0 then (s, Reply.path .noEntry 0)
      else if 2 < sl.num 1 then (s, Reply.path .range 1)
      else if 1 < sl.num 3 then (s, Reply.path .range 3)
      else if sl.num 1 = 0 ∧ s.hasCall (sl.num 0) then (s, Reply.path .wrongState 1)
      else (occasion (testExhausted (sl.num 0) (putAccount (sl.num 0) (sl.account (s.account (sl.num 0))) s)),
        Reply.doneOr (if sl.num 4 < 10 ∨ 600 < sl.num 4 then some 4 else none) .account (sl.num 0)
          (sl.account (s.account (sl.num 0))).availableValue) := by
  have havail : ((testExhausted (sl.num 0) (putAccount (sl.num 0) (sl.account (s.account (sl.num 0))) s)).account
      (sl.num 0)).availableValue = (sl.account (s.account (sl.num 0))).availableValue := by
    have htested (t : State) : (testExhausted (sl.num 0) t).account (sl.num 0) = (markTested (sl.num 0) t).account (sl.num 0) := by
      rw [testExhausted_eq]
      split
      · rw [State.account, post_chg]
        rfl
      · rfl
    rw [htested, markTested_account, account_putAccount_self]
    rfl
  rw [← havail, ← firstClamped_one (by decide)]
  rfl

theorem clearSpent_eq (sl : Slot) (s : State) :
    clearSpent sl s =
      if 63 < sl.num 0 then (s, Reply.path .noEntry 0)
      else (occasion (putAccount (sl.num 0)
          { s.account (sl.num 0) with
            spent := 0
            armed := (s.account (sl.num 0)).armed || { s.account (sl.num 0) with spent := 0 }.covers 1 } s),
        ⟨.done, .account, sl.num 0, (s.account (sl.num 0)).spent⟩) := by
  simp only [clearSpent, Account.rearmed_eq]

/-- The spent amount as the account's record holds it. -/
theorem putAccount_spent (i : Nat) (a : Account) (s : State) :
    Mem.num (putAccount i a s).dram (s.por (0x38000 + 64 * i + 8)) 4 = a.spent % 4294967296 :=
  Mem.num_write_field s.dram (s.por (0x38000 + 64 * i))
    (u8 a.state.code ++ u8 (bit a.limit.isNone) ++ zeros 2 ++ le 4 (orAbsent 0xFFFFFFFF a.limit))
    (zeros 4 ++ le 8 a.reserved ++ le 4 a.calls ++ le 2 a.secondsPerPage ++ u8 (bit a.armed)) 4 a.spent

/-- Settles O43: both rows take the slot, their checks are read in order, and the mark of the account that is stored follows
what is available. -/
theorem accountCommands : Obligations.AccountCommands := by
  intro s sl i a
  refine ⟨fun h => ?_, fun h => ?_⟩
  · have answer {t : State} {r : Reply} (hbody : Machine.setAccount sl s.carry = (t, r)) :
        exec .setAccount s = .next (s.answered r t) := by
      rw [exec_setAccount, take_of_readyFor h le_rfl, hbody]
    have hbody := setAccount_eq sl s.carry
    refine ⟨fun hi => answer (hbody.trans (if_pos hi)), fun hi hstate => answer ?_, fun hi hstate hflag => answer ?_,
      fun hi hstate hflag hcall => answer ?_, fun hi hstate hflag hcall => ?_⟩
    · rw [hbody, if_neg (Nat.not_lt.2 hi), if_pos hstate]
    · rw [hbody, if_neg (Nat.not_lt.2 hi), if_neg (Nat.not_lt.2 hstate), if_pos hflag]
    · rw [hbody, if_neg (Nat.not_lt.2 hi), if_neg (by omega), if_neg (Nat.not_lt.2 hflag),
        if_pos ⟨hstate, (State.hasCall_iff s.carry i).2 hcall⟩]
    · intro b
      have hb : sl.account a = b := by
        rw [Slot.account, accountStateOf_eq hstate]
      have hnoCall : ¬ (sl.num 1 = 0 ∧ s.carry.hasCall i = true) := by
        rintro ⟨hunused, hhas⟩
        obtain ⟨e, hmem, he⟩ := (State.hasCall_iff s.carry i).1 hhas
        exact hcall hunused e hmem he
      have hself := account_putAccount_self i b s.carry
      have hbody' : Machine.setAccount sl s.carry = (occasion (testExhausted i (putAccount i b s.carry)),
          Reply.doneOr (if sl.num 4 < 10 ∨ 600 < sl.num 4 then some 4 else none) .account i b.availableValue) := by
        rw [← hb]
        rw [hbody, if_neg (Nat.not_lt.2 hi), if_neg (Nat.not_lt.2 hstate), if_neg (Nat.not_lt.2 hflag), if_neg hnoCall]
        rfl
      obtain ⟨as, m, heq, hout⟩ := markTested_frame i (putAccount i b s.carry)
      refine ⟨_, markTested i (putAccount i b s.carry), answer hbody', ?_, ?_, ?_, fun k hk => ?_, ?_⟩
      · rw [testExhausted_eq, hself]
      · rw [heq]
        rfl
      · rw [markTested_account, hself]
      · rw [markTested_account_of_ne _ hk]
        exact account_putAccount_of_ne b s.carry hk
      · rw [heq]
        exact (unchangedOutside_store (s := s.carry) (by simp)).again hout
  · have answer {t : State} {r : Reply} (hbody : Machine.clearSpent sl s.carry = (t, r)) :
        exec .clearSpent s = .next (s.answered r t) := by
      rw [exec_clearSpent, take_of_readyFor h le_rfl, hbody]
    have hbody := clearSpent_eq sl s.carry
    refine ⟨fun hi => answer (hbody.trans (if_pos hi)), fun hi => ?_⟩
    exact ⟨_, answer (hbody.trans (if_neg (Nat.not_lt.2 hi))), rfl, account_putAccount_self i _ s.carry,
      fun k hk => account_putAccount_of_ne _ s.carry hk, putAccount_spent i _ s.carry, unchangedOutside_store (by simp)⟩

/-! ## ACK_CHARGE_LOG (R190, R191) -/

/-- The oldest of `n` sequences that run up to the one before `next`, without a division. -/
theorem seqOldest_eq {next n : Nat} (hn : 0 < n) (hlog : n ≤ 4096) (hlow : 1 ≤ next) (hhigh : next ≤ 4294967295) :
    seqOldest next n = if n < next then next - n else next + 4294967295 - n := by
  unfold seqOldest seqCount
  split <;> omega

/-- The place of a sequence round the sequences, without a division. -/
theorem seqPlace_eq {oldest q : Nat} (hold : 1 ≤ oldest) (hlast : oldest ≤ 4294967295) (hq : q < 4294967296) :
    seqPlace oldest q = if oldest ≤ q then q - oldest else q + 4294967295 - oldest := by
  unfold seqPlace seqCount
  split <;> omega

/-- The sequences of the records in use, in a log whose sequences do not wrap and in one whose do. -/
theorem seqPlace_lt_iff {next n q oldest : Nat} (hn : 0 < n) (hlog : n ≤ 4096) (hlow : 1 ≤ next) (hhigh : next ≤ 4294967295)
    (hq : q < 4294967296) (hold : oldest = if n < next then next - n else next + 4294967295 - n) :
    (q ≠ 0 ∧ seqPlace oldest q < n) ↔ ((1 < next ∧ next ≤ n) ∧ (oldest ≤ q ∨ (1 ≤ q ∧ q < next)))
      ∨ (¬ (1 < next ∧ next ≤ n) ∧ oldest ≤ q ∧ q < oldest + n) := by
  have hplace := seqPlace_eq (oldest := oldest) (q := q) (by split at hold <;> omega) (by split at hold <;> omega) hq
  split at hplace <;> split at hold <;> omega

/-- How many records are left when the one with sequence `q` and all older ones are freed. -/
theorem seqPlace_left {next n q oldest left : Nat} (hn : 0 < n) (hlog : n ≤ 4096) (hlow : 1 ≤ next)
    (hhigh : next ≤ 4294967295) (hold : oldest = if n < next then next - n else next + 4294967295 - n)
    (hq : q < 4294967296)
    (hin : ((1 < next ∧ next ≤ n) ∧ (oldest ≤ q ∨ (1 ≤ q ∧ q < next)))
      ∨ (¬ (1 < next ∧ next ≤ n) ∧ oldest ≤ q ∧ q < oldest + n))
    (h : ((1 < next ∧ next ≤ n) ∧ oldest ≤ q ∧ left = 4294967295 - q + (next - 1))
      ∨ ((1 < next ∧ next ≤ n) ∧ q < next ∧ left = next - 1 - q)
      ∨ (¬ (1 < next ∧ next ≤ n) ∧ left = oldest + n - 1 - q)) :
    seqPlace oldest q + 1 = n - left ∧ n - (seqPlace oldest q + 1) = left := by
  have hplace := seqPlace_eq (oldest := oldest) (q := q) (by split at hold <;> omega) (by split at hold <;> omega) hq
  split at hplace <;> split at hold <;> omega

/-- A sequence that lies before the oldest one in use; those of a log whose sequences wrap leave none but 0. -/
theorem seqOlder_iff {next n q oldest : Nat} (hn : 0 < n) (hlog : n ≤ 4096) (hlow : 1 ≤ next) (hhigh : next ≤ 4294967295)
    (hold : oldest = if n < next then next - n else next + 4294967295 - n) :
    (q = 0 ∨ (q < oldest ∧ oldest ≤ seqNewest next)) ↔ q = 0 ∨ (¬ (1 < next ∧ next ≤ n) ∧ q < oldest) := by
  unfold seqNewest seqCount
  split at hold <;> split <;> omega

theorem ackChargeLog_of_empty {sl : Slot} {s : State} (h : s.chg.logInUse = 0) :
    ackChargeLog sl s = (s, if sl.num 0 < s.chg.logNext then Reply.path .done 0 else Reply.path .range 0) := if_pos h

/-- The near-full mark and the log state after records have been freed. -/
theorem rearmNearFull_putLogState (o k next : Nat) (s : State) :
    rearmNearFull (putLogState o k next s) =
      { s with chg := { s.chg with logOldest := o, logInUse := k, logNext := next,
                                   nearArmed := s.chg.nearArmed || decide (k < 3840) },
               dram := (putLogState o k next s).dram } := by
  unfold rearmNearFull
  split
  next h => simp [putLogState, State.store, show k < 3840 from h]
  next h => simp [putLogState, State.store, show ¬ k < 3840 from h]

/-- Settles O44: the model's place of a sequence is the statement's, in a log that wraps and in one that does not. -/
theorem Settled.ackChargeLog : Obligations.AckChargeLog := by
  intro s h q n next oldest wraps inUse older
  have answer {t : State} {r : Reply} (hbody : Machine.ackChargeLog s.headSlot s.carry = (t, r)) :
      exec .ackChargeLog s = .next (s.answered r t) := by
    rw [exec_ackChargeLog, take_of_readyFor h le_rfl, hbody]
  refine ⟨fun hn hq => answer ?_, fun hn hq => answer ?_, fun hn hlog hlow hhigh => ?_⟩
  · exact (ackChargeLog_of_empty (s := s.carry) hn).trans (congrArg (Prod.mk s.carry) (if_pos hq))
  · exact (ackChargeLog_of_empty (s := s.carry) hn).trans (congrArg (Prod.mk s.carry) (if_neg (Nat.not_lt.2 hq)))
  have hq : q < 4294967296 := Slot.num_lt _ _
  have hold : seqOldest next n = oldest := seqOldest_eq hn hlog hlow hhigh
  have hin : (q ≠ 0 ∧ seqPlace oldest q < n) ↔ inUse := seqPlace_lt_iff hn hlog hlow hhigh hq rfl
  have hbefore : (q = 0 ∨ (q < oldest ∧ oldest ≤ seqNewest next)) ↔ older := seqOlder_iff hn hlog hlow hhigh rfl
  have hbody : Machine.ackChargeLog s.headSlot s.carry =
      if q ≠ 0 ∧ seqPlace oldest q < n then
        (occasion (rearmNearFull (putLogState ((s.chg.logOldest + (seqPlace oldest q + 1)) % 4096)
          (n - (seqPlace oldest q + 1)) next s.carry)), Reply.path .done (n - (seqPlace oldest q + 1)))
      else if q = 0 ∨ (q < oldest ∧ oldest ≤ seqNewest next) then (s.carry, Reply.path .done n)
      else (s.carry, Reply.path .range 0) := by
    rw [← hold]
    exact if_neg (Nat.pos_iff_ne_zero.1 hn)
  refine ⟨fun holder => answer ?_, fun holder hnot => answer ?_, fun left huse hleft => ?_⟩
  · have hnot : ¬ inUse := by
      change ¬ ((_ ∧ _) ∨ _)
      have hcases : q = 0 ∨ (¬ (1 < next ∧ next ≤ n) ∧ q < oldest) := holder
      have hpos : 0 < oldest := by
        change 0 < if n < next then next - n else next + 4294967295 - n
        split <;> omega
      simp only [wraps]
      omega
    rw [hbody, if_neg (mt hin.1 hnot), if_pos (hbefore.2 holder)]
  · rw [hbody, if_neg (mt hin.1 hnot), if_neg (mt hbefore.1 holder)]
  · obtain ⟨hfreed, hrest⟩ := seqPlace_left hn hlog hlow hhigh rfl hq huse hleft
    rw [if_pos (hin.2 huse), hrest, hfreed, rearmNearFull_putLogState] at hbody
    exact ⟨_, answer hbody, rfl, Mem.bytes_write_self _ _ _, unchangedOutside_store (by simp)⟩

end Sys2Proof.Machine
end

section
/-! PROOFS. SET_STORE_LIMITS, SET_RETRY_POLICY, SET_LINE_TIMERS, LINK_SETUP and SET_PRINT_PROFILE: settings of which each is
supplied or kept, and the first supplied one that clamping changed (R27, R28, R78, R96, R108, R126, R163). -/

namespace Sys2Proof.Machine

set_option Elab.async false

/-! ## Supplied settings in their ranges (R27, R28) -/

/-- Of settings that are each kept in a range, the first supplied one outside its own was clamped first. -/
theorem firstClamped_supplied_ranges (sl : Slot) (l : List (Nat × Nat × Nat)) (h : ∀ e ∈ l, e.2.1 ≤ e.2.2) :
    firstClamped (sl.supplied (l.map fun e => (e.1, sl.num e.1, clampNat e.2.1 e.2.2 (sl.num e.1))))
      = (l.find? fun e => sl.clamps e.1 e.2.1 e.2.2 (sl.num e.1)).map Prod.fst := by
  induction l with
  | nil => rfl
  | cons e l ih =>
    rw [List.map_cons, firstClamped_supplied_clampNat sl e.1 (h e List.mem_cons_self), List.find?_cons,
      ih fun q hq => h q (List.mem_cons_of_mem e hq)]
    cases sl.clamps e.1 e.2.1 e.2.2 (sl.num e.1) <;> rfl

/-- A setting with no lower bound is clamped when it is supplied and above its upper one. -/
theorem Slot.clamps_zero (sl : Slot) (k hi v : Nat) : sl.clamps k 0 hi v = true ↔ sl.has k = true ∧ hi < v := by
  simp [Slot.clamps]

/-! ## SET_STORE_LIMITS (R78) -/

/-- The limits as SET_STORE_LIMITS would leave them, refused when the low water mark lies below the scan reserve. -/
theorem setStoreLimits_eq (sl : Slot) (s : State) :
    setStoreLimits sl s =
      if (if sl.has 1 then min 32768 (sl.num 1) else s.psm.lowWater)
          < (if sl.has 0 then min 4096 (sl.num 0) else s.psm.scanReserve) then
        (s, Reply.path .range (if sl.has 1 then 1 else 0))
      else
        ({ s with psm := { s.psm with
              scanReserve := if sl.has 0 then min 4096 (sl.num 0) else s.psm.scanReserve
              lowWater := if sl.has 1 then min 32768 (sl.num 1) else s.psm.lowWater
              lowMark := if sl.has 2 then min 32768 (sl.num 2) else s.psm.lowMark
              lowArmed := sl.has 2 || s.psm.lowArmed } },
          Reply.doneOr (if sl.has 0 = true ∧ 4096 < sl.num 0 then some 0
            else if sl.has 1 = true ∧ 32768 < sl.num 1 then some 1
            else if sl.has 2 = true ∧ 32768 < sl.num 2 then some 2
            else none) .path 0 s.freeCount) := by
  have hclamped : firstClamped (sl.supplied [(0, sl.num 0, clampNat 0 4096 (sl.num 0)),
        (1, sl.num 1, clampNat 0 32768 (sl.num 1)), (2, sl.num 2, clampNat 0 32768 (sl.num 2))])
      = if sl.has 0 = true ∧ 4096 < sl.num 0 then some 0
        else if sl.has 1 = true ∧ 32768 < sl.num 1 then some 1
        else if sl.has 2 = true ∧ 32768 < sl.num 2 then some 2
        else none := by
    simp only [firstClamped_supplied_clampNat sl _ (Nat.zero_le _), Slot.clamps_zero]
    rfl
  rw [← hclamped]
  simp only [setStoreLimits, Slot.orKept, clampNat_zero]

/-! ## SET_LINE_TIMERS and LINK_SETUP (R108, R126) -/

/-- The timers of the lines, with their bounds in tenths. -/
def timerRanges : List (Nat × Nat × Nat) :=
  [(0, 10, 300), (1, 200, 1200), (2, 50, 600), (3, 100, 1200), (4, 50, 1200), (5, 100, 600), (6, 50, 600)]

/-- The checks of LINK_SETUP in their order, and the settings that it stores when it passes them. -/
theorem linkSetup_eq (sl : Slot) (s : State) :
    linkSetup sl s =
      if sl.has 1 = true ∧ 1 < sl.num 1 then (s, Reply.path .range 1)
      else if sl.has 2 = true ∧ 1 < sl.num 2 then (s, Reply.path .range 2)
      else
        ({ s with sli := { s.sli with
              lossCount := if sl.has 0 then max 3 (min 4 (sl.num 0)) else s.sli.lossCount
              serviceCheck := if sl.has 1 then sl.num 1 == 1 else s.sli.serviceCheck
              serviceRun := if (if sl.has 1 then sl.num 1 == 1 else s.sli.serviceCheck) = s.sli.serviceCheck
                then s.sli.serviceRun else 0
              autoResync := if sl.has 2 then sl.num 2 == 1 else s.sli.autoResync } },
          Reply.doneZero (if sl.clamps 0 3 4 (sl.num 0) then some 0 else none) .link 0) := by
  have hclamped : firstClamped (sl.supplied [(0, sl.num 0, clampNat 3 4 (sl.num 0))])
      = if sl.clamps 0 3 4 (sl.num 0) then some 0 else none := firstClamped_supplied_clampNat sl 0 (by decide) _ []
  rw [← hclamped]
  rfl

/-- Settles O32: each row takes its slot, its settings are clamped one by one, and the answer names the first one that was. -/
theorem settingsCommands : Obligations.SettingsCommands := by
  refine ⟨fun s h => ?_, fun s => ?_⟩
  · intro sl reserve water mark clamped
    have answer {t : State} {r : Reply} (hbody : Machine.setStoreLimits sl s.carry = (t, r)) :
        exec .setStoreLimits s = .next (s.answered r t) := by
      rw [exec_setStoreLimits, take_of_readyFor h le_rfl, hbody]
    have hbody := setStoreLimits_eq sl s.carry
    exact ⟨fun hlow => answer (hbody.trans (if_pos hlow)), fun hlow => answer (hbody.trans (if_neg (Nat.not_lt.2 hlow)))⟩
  · intro sl v bad
    refine ⟨fun h => ?_, fun h => ?_, fun h => ?_⟩
    · have hclamped : firstClamped (sl.supplied [(0, sl.num 0, clampNat 1 8 (sl.num 0)), (1, sl.num 1, clampNat 10 600 (sl.num 1))])
          = if bad 0 1 8 then some 0 else if bad 1 10 600 then some 1 else none := by
        rw [firstClamped_supplied_clampNat sl 0 (by decide), firstClamped_supplied_clampNat sl 1 (by decide)]
        rfl
      rw [exec_setRetryPolicy, take_of_readyFor h le_rfl, ← hclamped]
      rfl
    · intro t r
      have hclamped := firstClamped_supplied_ranges sl timerRanges (by decide)
      rw [exec_setLineTimers, take_of_readyFor h le_rfl]
      exact congrArg (fun o => Host.Outcome.next (s.answered (Reply.doneZero o .path 0) _)) hclamped
    · have answer {t : State} {r : Reply} (hbody : Machine.linkSetup sl s.carry = (t, r)) :
          exec .linkSetup s = .next (s.answered r t) := by
        rw [exec_linkSetup, take_of_readyFor h le_rfl, hbody]
      have hbody := linkSetup_eq sl s.carry
      refine ⟨fun hhas hbad => answer (hbody.trans (if_pos ⟨hhas, hbad⟩)), fun hcheck hhas hbad => answer ?_,
        fun hcheck hauto => answer ?_⟩
      · rw [hbody, if_neg (fun hbad => Nat.not_lt.2 (hcheck hbad.1) hbad.2), if_pos ⟨hhas, hbad⟩]
      · rw [hbody, if_neg (fun hbad => Nat.not_lt.2 (hcheck hbad.1) hbad.2),
          if_neg (fun hbad => Nat.not_lt.2 (hauto hbad.1) hbad.2)]
        rfl

end Sys2Proof.Machine
end

section
/-! PROOFS. SET_PRINT_PROFILE: the slot count that a width gives, the settings of the profile, and the first clamped one
(R163). -/

namespace Sys2Proof.Machine

set_option Elab.async false

theorem State.slotCountFor_eq (s : State) (width : Nat) :
    s.slotCountFor width = s.cfg.prnSize / (16 + (width / 8 + 15) / 16 * 16) := rfl

/-- The width that SET_PRINT_PROFILE leaves. -/
def Slot.printWidth (sl : Slot) (p : PrintProfile) : Nat :=
  if sl.has 0 then max 1728 (min 4864 (sl.num 0 / 32 * 32)) else p.width

/-- The threshold that SET_PRINT_PROFILE stores where the ring holds `count` slots. -/
def Slot.printThreshold (sl : Slot) (count : Nat) : Nat :=
  if count = 0 then Config.thresholdOfEmptyRange (sl.word 5) else clampNat 1 count (sl.num 5)

/-- The profile that SET_PRINT_PROFILE stores. -/
def Slot.printProfile (sl : Slot) (p : PrintProfile) (count : Nat) : PrintProfile :=
  { width := sl.printWidth p
    offset := if sl.has 1 then min (sl.printWidth p - 1728) (sl.num 1) else p.offset
    height := if sl.has 2 then max 100 (min 8192 (sl.num 2)) else p.height
    repeats := if sl.has 3 then max 1 (min 2 (sl.num 3)) else p.repeats
    order := if sl.has 4 then (if sl.num 4 = 1 then .lsbFirst else .msbFirst) else p.order
    threshold := if sl.has 5 then sl.printThreshold count else p.threshold }

/-- The settings of SET_PRINT_PROFILE before and after clamping. -/
def Slot.printFields (sl : Slot) (p : PrintProfile) (count : Nat) : List (Nat × Nat × Nat) :=
  [(0, sl.num 0 / 32 * 32, clampNat 1728 4864 (sl.num 0 / 32 * 32)),
   (1, sl.num 1, clampNat 0 (sl.printWidth p - 1728) (sl.num 1)), (2, sl.num 2, clampNat 100 8192 (sl.num 2)),
   (3, sl.num 3, clampNat 1 2 (sl.num 3)), (5, sl.num 5, sl.printThreshold count)]

theorem setPrintProfile_eq (sl : Slot) (s : State) :
    setPrintProfile sl s =
      if sl.has 4 = true ∧ 1 < sl.num 4 then (s, Reply.path .range 4)
      else
        ({ s with prn := { s.prn with
              profile := sl.printProfile s.prn.profile (s.slotCountFor (sl.printWidth s.prn.profile)) } },
          Reply.doneOr (firstClamped (sl.supplied
              (sl.printFields s.prn.profile (s.slotCountFor (sl.printWidth s.prn.profile))))) .path 0
            (s.slotCountFor (sl.printWidth s.prn.profile))) := by
  simp only [Slot.printProfile, ← clampNat_zero (sl.printWidth s.prn.profile - 1728)]
  rfl

theorem Slot.clamps_iff (sl : Slot) (k lo hi v : Nat) :
    sl.clamps k lo hi v = true ↔ sl.has k = true ∧ (v < lo ∨ hi < v) := by
  simp [Slot.clamps]

/-- Where the ring holds a slot, each setting has a range, and the first clamped one is told. -/
theorem firstClamped_printFields (sl : Slot) (p : PrintProfile) {count : Nat} (h : 0 < count) :
    firstClamped (sl.supplied (sl.printFields p count))
      = if sl.has 0 = true ∧ (sl.num 0 / 32 * 32 < 1728 ∨ 4864 < sl.num 0 / 32 * 32) then some 0
        else if sl.has 1 = true ∧ sl.printWidth p - 1728 < sl.num 1 then some 1
        else if sl.has 2 = true ∧ (sl.num 2 < 100 ∨ 8192 < sl.num 2) then some 2
        else if sl.has 3 = true ∧ (sl.num 3 < 1 ∨ 2 < sl.num 3) then some 3
        else if sl.has 5 = true ∧ (sl.num 5 < 1 ∨ count < sl.num 5) then some 5
        else none := by
  have hthreshold : sl.printThreshold count = clampNat 1 count (sl.num 5) := if_neg (Nat.pos_iff_ne_zero.1 h)
  rw [Slot.printFields, hthreshold, firstClamped_supplied_clampNat sl 0 (by decide),
    firstClamped_supplied_clampNat sl 1 (Nat.zero_le _), firstClamped_supplied_clampNat sl 2 (by decide),
    firstClamped_supplied_clampNat sl 3 (by decide), firstClamped_supplied_clampNat sl 5 h]
  simp only [Slot.clamps_iff, Nat.not_lt_zero, false_or]
  rfl

/-- Settles O38: the row takes the slot; the profile is stored setting by setting, and where the ring holds a slot the
threshold too has its range. -/
theorem Settled.setPrintProfile : Obligations.SetPrintProfile := by
  intro s h sl p width count
  have answer {t : State} {r : Reply} (hbody : Machine.setPrintProfile sl s.carry = (t, r)) :
      exec .setPrintProfile s = .next (s.answered r t) := by
    rw [exec_setPrintProfile, take_of_readyFor h le_rfl, hbody]
  have hbody := setPrintProfile_eq sl s.carry
  refine ⟨fun hhas hbad => answer (hbody.trans (if_pos ⟨hhas, hbad⟩)), fun hgood => ?_⟩
  have hok : ¬ (sl.has 4 = true ∧ 1 < sl.num 4) := fun hbad => Nat.not_lt.2 (hgood hbad.1) hbad.2
  refine ⟨_, _, answer (hbody.trans (if_neg hok)), rfl, rfl, rfl, rfl, rfl, rfl, fun hcount => ?_,
    fun hcount => firstClamped_printFields sl p hcount⟩
  have hthreshold : sl.printThreshold count = max 1 (min count (sl.num 5)) := if_neg (Nat.pos_iff_ne_zero.1 hcount)
  rw [← hthreshold]
  rfl

end Sys2Proof.Machine
end

section
/-! PROOFS. Documents, jobs, pages and print entries changed one by one: what stands in the table, what else changes, and
which bytes of DRAM (R74, R75, R82, R91, R158). -/

namespace Sys2Proof.Machine

set_option Elab.async false

/-! ## Document records -/

theorem doc?_putDoc (d k : Nat) (r : Doc) (s : State) : (putDoc d r s).doc? k = if k = d then some r else s.doc? k :=
  Tab.get?_set s.dju.docs d k r

theorem doc?_putDoc_self (d : Nat) (r : Doc) (s : State) : (putDoc d r s).doc? d = some r := Tab.get?_set_self _ _ _

theorem doc?_putDoc_of_ne {d k : Nat} (r : Doc) (s : State) (h : k ≠ d) : (putDoc d r s).doc? k = s.doc? k :=
  Tab.get?_set_of_ne _ _ h

theorem modifyDoc_of_some {s : State} {d : Nat} {r : Doc} (h : s.doc? d = some r) (f : Doc → Doc) :
    modifyDoc d f s = putDoc d (f r) s := by
  rw [modifyDoc, h]

theorem modifyDoc_of_none {s : State} {d : Nat} (h : s.doc? d = none) (f : Doc → Doc) : modifyDoc d f s = s := by
  rw [modifyDoc, h]

theorem modifyDoc_doc? (d k : Nat) (f : Doc → Doc) (s : State) :
    (modifyDoc d f s).doc? k = if k = d then (s.doc? k).map f else s.doc? k := by
  cases h : s.doc? d with
  | none =>
    rw [modifyDoc_of_none h]
    split
    next hk => rw [hk, h, Option.map_none]
    next => rfl
  | some r =>
    rw [modifyDoc_of_some h, doc?_putDoc]
    refine ite_congr rfl (fun hk => ?_) fun _ => rfl
    rw [hk, h, Option.map_some]

theorem putDoc_dram (d : Nat) (r : Doc) (s : State) :
    (putDoc d r s).dram = Mem.write s.dram (s.docAddr d) (r.bytes d) := rfl

/-! ## Job records -/

theorem job?_putJob_self (j : Nat) (r : Job) (s : State) : (putJob j r s).job? j = some r := Tab.get?_set_self _ _ _

theorem job?_putJob_of_ne {j k : Nat} (r : Job) (s : State) (h : k ≠ j) : (putJob j r s).job? k = s.job? k :=
  Tab.get?_set_of_ne _ _ h

theorem modifyJob_of_some {s : State} {j : Nat} {r : Job} (h : s.job? j = some r) (f : Job → Job) :
    modifyJob j f s = putJob j (f r) s := by
  rw [modifyJob, h]

theorem modifyJob_of_none {s : State} {j : Nat} (h : s.job? j = none) (f : Job → Job) : modifyJob j f s = s := by
  rw [modifyJob, h]

/-! ## The first free record of a table -/

theorem Tab.firstFree_eq_none_iff {α : Type} (t : Tab α) (n : Nat) :
    Tab.firstFree t n = none ↔ ∀ k, k < n → (Tab.get? t k).isSome = true := by
  simp [Tab.firstFree, Option.isSome_iff_ne_none]

theorem Tab.firstFree_eq_some_iff {α : Type} (t : Tab α) (n k : Nat) :
    Tab.firstFree t n = some k
      ↔ k < n ∧ Tab.get? t k = none ∧ ∀ j, j < k → (Tab.get? t j).isSome = true := by
  rw [Tab.firstFree, List.find?_eq_some_iff_getElem]
  constructor
  · rintro ⟨hfree, i, hi, heq, hbefore⟩
    rw [List.length_range] at hi
    rw [List.getElem_range] at heq
    subst heq
    exact ⟨hi, by simpa using hfree, fun j hj => by simpa using hbefore j hj⟩
  · rintro ⟨hk, hfree, hbefore⟩
    exact ⟨by simp [hfree], k, by simpa using hk, by simp, fun j hj => by simpa using hbefore j hj⟩

/-! ## Pages changed in turn -/

theorem page?_putPage (p q : Nat) (r : PageRec) (s : State) : (putPage p r s).page? q = if q = p then some r else s.page? q :=
  Tab.get?_set s.psm.pages p q r

theorem page?_putPage_self (p : Nat) (r : PageRec) (s : State) : (putPage p r s).page? p = some r := Tab.get?_set_self _ _ _

theorem page?_putPage_of_ne {p q : Nat} (r : PageRec) (s : State) (h : q ≠ p) : (putPage p r s).page? q = s.page? q :=
  Tab.get?_set_of_ne _ _ h

theorem modifyPage_of_some {s : State} {p : Nat} {r : PageRec} (h : s.page? p = some r) (f : PageRec → PageRec) :
    modifyPage p f s = putPage p (f r) s := by
  rw [modifyPage, h]

theorem modifyPage_of_none {s : State} {p : Nat} (h : s.page? p = none) (f : PageRec → PageRec) : modifyPage p f s = s := by
  rw [modifyPage, h]

theorem modifyPage_page? (p q : Nat) (f : PageRec → PageRec) (s : State) :
    (modifyPage p f s).page? q = if q = p then (s.page? q).map f else s.page? q := by
  cases h : s.page? p with
  | none =>
    rw [modifyPage_of_none h]
    split
    next hq => rw [hq, h, Option.map_none]
    next => rfl
  | some r =>
    rw [modifyPage_of_some h, page?_putPage]
    refine ite_congr rfl (fun hq => ?_) fun _ => rfl
    rw [hq, h, Option.map_some]

/-- Only the page table and DRAM change, and in DRAM the record. -/
theorem modifyPage_frame (p : Nat) (f : PageRec → PageRec) (s : State) :
    ∃ ps m, modifyPage p f s = { s with psm := { s.psm with pages := ps }, dram := m }
      ∧ unchangedOutside [(s.pageAddr p, 64)] s.dram m := by
  unfold modifyPage
  split
  · exact ⟨_, _, rfl, unchangedOutside_refl _ _⟩
  · exact ⟨_, _, rfl, unchangedOutside_store (by simp)⟩

/-- Several pages changed in turn: what else changes, which bytes, and, when each is changed once, what stands in every record. -/
theorem modifyPages_eq (f : PageRec → PageRec) (l : List Nat) (s : State) :
    ∃ ps m, l.foldl (fun s p => modifyPage p f s) s = { s with psm := { s.psm with pages := ps }, dram := m }
      ∧ (l.Nodup → ∀ q, Tab.get? ps q = if q ∈ l then (s.page? q).map f else s.page? q)
      ∧ unchangedOutside (l.map fun p => (s.pageAddr p, 64)) s.dram m := by
  induction l generalizing s with
  | nil => exact ⟨s.psm.pages, s.dram, rfl, fun _ q => by simp [State.page?], unchangedOutside_refl _ _⟩
  | cons p l ih =>
    obtain ⟨ps', m', hframe, hbytes⟩ := modifyPage_frame p f s
    obtain ⟨ps, m, heq, hget, hmem⟩ := ih (modifyPage p f s)
    have hread := fun q => modifyPage_page? p q f s
    rw [hframe] at heq hget hmem hread
    refine ⟨ps, m, ?_, fun hl q => ?_, hbytes.trans hmem⟩
    · rw [List.foldl_cons, hframe, heq]
    · obtain ⟨hp, hl⟩ := List.nodup_cons.1 hl
      rw [hget hl, hread]
      by_cases hq : q = p
      · simp [hq, hp]
      · simp [hq]

/-! ## Holds (R75) -/

/-- A page that takes print holds is not freed by it. -/
theorem changePrintHolds_of_pos {n : Nat} (hn : 0 < n) (p : Nat) (s : State) :
    changePrintHolds p n s = modifyPage p (fun r => { r with printHolds := r.printHolds + n }) s := by
  cases h : s.page? p with
  | none => rw [changePrintHolds, h, modifyPage_of_none h]
  | some r =>
    have hnum : ((r.printHolds : Int) + (n : Int)).toNat = r.printHolds + n := by omega
    rw [modifyPage_of_some h]
    simp only [changePrintHolds, h, hnum]
    exact if_neg (by omega)

/-- A page that takes send holds is not freed by it. -/
theorem changeSendHolds_of_pos {n : Nat} (hn : 0 < n) (p : Nat) (s : State) :
    changeSendHolds p n s = modifyPage p (fun r => { r with sendHolds := r.sendHolds + n }) s := by
  cases h : s.page? p with
  | none => rw [changeSendHolds, h, modifyPage_of_none h]
  | some r =>
    have hnum : ((r.sendHolds : Int) + (n : Int)).toNat = r.sendHolds + n := by omega
    rw [modifyPage_of_some h]
    simp only [changeSendHolds, h, hnum]
    exact if_neg (by omega)

/-! ## Print entries (R158, R160) -/

theorem entry?_putEntry_self (e : Nat) (r : PrintEntry) (s : State) : (putEntry e r s).entry? e = some r :=
  Tab.get?_set_self _ _ _

theorem entry?_putEntry_of_ne {e k : Nat} (r : PrintEntry) (s : State) (h : k ≠ e) :
    (putEntry e r s).entry? k = s.entry? k := Tab.get?_set_of_ne _ _ h

/-- An entry as PRINT_DOCUMENT, RELEASE_HELD and an answered call make it. -/
def PrintEntry.fresh (d copies tray cls arrival : Nat) : PrintEntry :=
  { doc := d, copies, copiesDone := 0, tray, cls, arrival, printing := false, position := 0, sheetNumber := 0,
    sheetLine := 0, cancelMark := false }

/-- The entry is in the table, and the arrival number has moved on. -/
def enterEntry (e d copies tray cls : Nat) (s : State) : State :=
  putEntry e (PrintEntry.fresh d copies tray cls ((s.prn.arrival + 1) % 4294967296))
    { s with prn := { s.prn with arrival := (s.prn.arrival + 1) % 4294967296 } }

theorem enterEntry_dram (e d copies tray cls : Nat) (s : State) :
    (enterEntry e d copies tray cls s).dram = Mem.write s.dram (s.entryAddr e)
      (PrintEntry.fresh d copies tray cls ((s.prn.arrival + 1) % 4294967296)).bytes := rfl

/-- The entry and its reference are made before the pages take their holds. -/
theorem createEntry_eq {s : State} {d : Nat} {r : Doc} (hd : s.doc? d = some r) {copies : Nat} (hcopies : 0 < copies)
    (e tray cls : Nat) :
    createEntry e d copies tray cls s
      = r.livePages.foldl (fun s p => modifyPage p (fun q => { q with printHolds := q.printHolds + copies }) s)
          (putDoc d { r with printRefs := r.printRefs + 1 } (enterEntry e d copies tray cls s)) := by
  have hmod := modifyDoc_of_some (s := enterEntry e d copies tray cls s) hd fun x => { x with printRefs := x.printRefs + 1 }
  have hcreate : createEntry e d copies tray cls s
      = ((((modifyDoc d (fun x => { x with printRefs := x.printRefs + 1 }) (enterEntry e d copies tray cls s)).doc? d).map
          Doc.livePages).getD []).foldl (fun s p => changePrintHolds p copies s)
            (modifyDoc d (fun x => { x with printRefs := x.printRefs + 1 }) (enterEntry e d copies tray cls s)) := rfl
  have hstep : (fun s p => changePrintHolds p copies s)
      = fun s p => modifyPage p (fun q => { q with printHolds := q.printHolds + copies }) s :=
    funext fun t => funext fun p => changePrintHolds_of_pos hcopies p t
  rw [hcreate, hmod, doc?_putDoc_self, hstep, Option.map_some, Option.getD_some]
  rfl

/-- A new entry on a document with copies to print: the entry, the document's reference, and the holds of its pages. -/
theorem createEntry_spec {s : State} {d : Nat} {r : Doc} (hd : s.doc? d = some r) {copies : Nat} (hcopies : 0 < copies)
    (e tray cls : Nat) :
    ∃ u, createEntry e d copies tray cls s = u
      ∧ u = { s with dju := { s.dju with docs := u.dju.docs }, psm := { s.psm with pages := u.psm.pages },
                     prn := { s.prn with entries := u.prn.entries, arrival := (s.prn.arrival + 1) % 4294967296 },
                     dram := u.dram }
      ∧ u.doc? d = some { r with printRefs := r.printRefs + 1 } ∧ (∀ k, k ≠ d → u.doc? k = s.doc? k)
      ∧ u.entry? e = some (PrintEntry.fresh d copies tray cls ((s.prn.arrival + 1) % 4294967296))
      ∧ (∀ k, k ≠ e → u.entry? k = s.entry? k)
      ∧ (r.livePages.Nodup → ∀ p, u.page? p = (s.page? p).map fun q =>
          if p ∈ r.livePages then { q with printHolds := q.printHolds + copies } else q)
      ∧ unchangedOutside ([(s.entryAddr e, 64), (s.docAddr d, 512)] ++ r.livePages.map fun p => (s.pageAddr p, 64)) s.dram
          u.dram := by
  obtain ⟨ps, m, heq, hget, hmem⟩ := modifyPages_eq (fun q => { q with printHolds := q.printHolds + copies }) r.livePages
    (putDoc d { r with printRefs := r.printRefs + 1 } (enterEntry e d copies tray cls s))
  have hbytes : unchangedOutside [(s.entryAddr e, 64), (s.docAddr d, 512)] s.dram
      (putDoc d { r with printRefs := r.printRefs + 1 } (enterEntry e d copies tray cls s)).dram := by
    rw [putDoc_dram, enterEntry_dram]
    exact ((unchangedOutside_refl _ s.dram).write (n := 64) (by simp) (by simp)).write (a := s.docAddr d) (n := 512)
      (by simp) (by simp)
  refine ⟨_, (createEntry_eq hd hcopies e tray cls).trans heq, rfl, doc?_putDoc_self d _ _, fun k hk => ?_, ?_,
    fun k hk => ?_, fun hnodup p => ?_, hbytes.trans hmem⟩
  · exact doc?_putDoc_of_ne _ _ hk
  · exact entry?_putEntry_self _ _ _
  · exact entry?_putEntry_of_ne _ _ hk
  · refine (hget hnodup p).trans ?_
    change (if p ∈ r.livePages then (s.page? p).map _ else s.page? p) = _
    split <;> cases s.page? p <;> rfl

end Sys2Proof.Machine
end

section
/-! PROOFS. BEGIN_SCAN, OPEN_DOCUMENT, HOLD_JOB, RELEASE_JOB, the sender filter and RELEASE_HELD: checks in their order, one
record changed, and its bytes in DRAM (R51, R83, R98, R150, R153). -/

namespace Sys2Proof.Machine

set_option Elab.async false

/-- A byte of a write, read back. -/
theorem Mem.get_write_at (m : Mem) (b : Nat) (bs : List Byte) {i : Nat} (h : i < bs.length) :
    Mem.get (Mem.write m b bs) (b + i) = bs.getD i 0 := by
  rw [Mem.get_write, if_pos (by omega), Nat.add_sub_cancel_left]

/-! ## BEGIN_SCAN (R51) -/

/-- Settles O25: the checks are read off in their order; the last case is the new scan. -/
theorem Settled.beginScan : Obligations.BeginScan := by
  intro s h sl d prof slots
  have answer {t : State} {r : Reply} (hbody : Machine.beginScan sl s.carry = (t, r)) :
      exec .beginScan s = .next (s.answered r t) := by
    rw [exec_beginScan, take_of_readyFor h le_rfl, hbody]
  refine ⟨fun hprofile => answer ?_, fun hprofile hmode => answer ?_, fun hprofile hmode hdoc => answer ?_,
    fun doc hprofile hmode hdoc => ?_⟩
  · rw [Machine.beginScan, if_pos hprofile]
  · rw [Machine.beginScan, if_neg (Nat.not_lt.2 hprofile), if_pos hmode]
  · rw [Machine.beginScan, if_neg (Nat.not_lt.2 hprofile), if_neg (Nat.not_lt.2 hmode),
      show s.carry.doc? (sl.num 0) = none from hdoc]
  have hbody : Machine.beginScan sl s.carry =
      if s.scn.state ≠ .scanIdle then (s.carry, Reply.path .wrongState 0)
      else if doc.dir ≠ .outbound ∨ doc.state ≠ .opened then (s.carry, Reply.path .wrongState 0)
      else if slots < 8 then (s.carry, Reply.path .range 1)
      else if s.freeCount < 16 ∨ s.emptyPages = 0 then (s.carry, Reply.path .noStore s.freeCount)
      else if 128 ≤ doc.places.length then (s.carry, Reply.path .full 0)
      else
        ({ s.carry with
            rgw := { s.rgw with rawGeom := some ⟨prof.stride, slots, prof.win⟩, started := false },
            scn := { s.scn with
              state := .betweenPages, doc := some d, active := some prof,
              mode := some (if sl.num 2 = 0 then .single else .continuous), take := 0, comp := 0, waiting := 0,
              overruns := [], voids := [], page := none, outLines := 0, rawLines := 0, half := none, ref := [],
              streamLen := 0, sealedCount := 0, lastSealed := none, extraPosted := false } },
          ⟨.done, .document, d, slots⟩) := by
    rw [Machine.beginScan, if_neg (Nat.not_lt.2 hprofile), if_neg (Nat.not_lt.2 hmode),
      show s.carry.doc? (sl.num 0) = some doc from hdoc]
    rfl
  refine ⟨fun hbad => answer ?_, fun hidle hdir hstate => ⟨fun hslots => answer ?_, fun hslots hstore => answer ?_,
    fun hslots hfree hpages hfull => answer ?_, fun hslots hfree hpages hroom => ⟨_, answer ?_, rfl⟩⟩⟩
  · rw [hbody]
    by_cases hidle : s.scn.state ≠ .scanIdle
    · rw [if_pos hidle]
    · rw [if_neg hidle, if_pos (hbad.resolve_left hidle)]
  all_goals
    rw [hbody, if_neg (not_not_intro hidle), if_neg (not_or_intro (not_not_intro hdir) (not_not_intro hstate))]
  · exact if_pos hslots
  · exact (if_neg (Nat.not_lt.2 hslots)).trans (if_pos hstore)
  · exact (if_neg (Nat.not_lt.2 hslots)).trans ((if_neg (not_or_intro (Nat.not_lt.2 hfree) hpages)).trans (if_pos hfull))
  · exact (if_neg (Nat.not_lt.2 hslots)).trans
      ((if_neg (not_or_intro (Nat.not_lt.2 hfree) hpages)).trans (if_neg (Nat.not_le.2 hroom)))

/-! ## OPEN_DOCUMENT (R83) -/

theorem Doc.bytes_eq (id : Nat) (d : Doc) : ∃ rest, d.bytes id =
    BitVec.ofNat 8 id :: BitVec.ofNat 8 d.dir.code :: BitVec.ofNat 8 d.state.code :: rest := by
  unfold Doc.bytes
  simp only [List.append_assoc]
  exact ⟨_, rfl⟩

/-- The id and the state as a document's record holds them. -/
theorem putDoc_idAndState (d : Nat) (r : Doc) (s : State) :
    Mem.get (putDoc d r s).dram (s.docAddr d) = BitVec.ofNat 8 d
      ∧ Mem.get (putDoc d r s).dram (s.docAddr d + 2) = BitVec.ofNat 8 r.state.code := by
  obtain ⟨rest, hbytes⟩ := Doc.bytes_eq d r
  rw [putDoc_dram, hbytes]
  exact ⟨Mem.get_write_at _ _ _ (i := 0) (by simp), Mem.get_write_at _ _ _ (i := 2) (by simp)⟩

theorem unchangedOutside_putDoc (d : Nat) (r : Doc) (s : State) :
    unchangedOutside [(s.docAddr d, 512)] s.dram (putDoc d r s).dram := unchangedOutside_store (by simp)

/-- Settles O27: the lowest free record is the one that the search finds. -/
theorem Settled.openDocument : Obligations.OpenDocument := by
  intro s h
  have answer {t : State} {r : Reply} (hbody : Machine.openDocument s.headSlot s.carry = (t, r)) :
      exec .openDocument s = .next (s.answered r t) := by
    rw [exec_openDocument, take_of_readyFor h le_rfl, hbody]
  refine ⟨fun hfull => answer ?_, fun d hd hfree hbefore => ?_⟩
  · have hnone : s.carry.freeDoc = none := (Tab.firstFree_eq_none_iff _ _).2 hfull
    rw [Machine.openDocument, hnone]
  · have hfound : s.carry.freeDoc = some d := (Tab.firstFree_eq_some_iff _ _ _).2 ⟨hd, hfree, hbefore⟩
    obtain ⟨hid, hstate⟩ := putDoc_idAndState d (Doc.fresh .outbound .opened s.chg.seconds) s.carry
    refine ⟨putDoc d (Doc.fresh .outbound .opened s.chg.seconds) s.carry, answer ?_, rfl, doc?_putDoc_self _ _ _,
      fun k hk => doc?_putDoc_of_ne _ _ hk, hid, hstate, unchangedOutside_putDoc _ _ s.carry⟩
    rw [Machine.openDocument, hfound]
    rfl

/-! ## HOLD_JOB and RELEASE_JOB (R91, R98) -/

/-- The state as a job's record holds it. -/
theorem putJob_state (j : Nat) (r : Job) (s : State) :
    Mem.get (putJob j r s).dram (s.jobAddr j) = BitVec.ofNat 8 r.state.code :=
  Mem.get_write_at s.dram (s.jobAddr j) r.bytes (i := 0) (by simp)

theorem unchangedOutside_putJob (j : Nat) (r : Job) (s : State) :
    unchangedOutside [(s.jobAddr j, 128)] s.dram (putJob j r s).dram := unchangedOutside_store (by simp)

/-- Settles O31: both rows name a job, test its state, and change its record alone. -/
theorem holdAndReleaseJob : Obligations.HoldAndReleaseJob := by
  rintro s c kind hc h j
  rcases hc with hc | hc <;> obtain ⟨rfl, rfl⟩ := Prod.mk.inj hc
  · have answer {t : State} {r : Reply} (hbody : Machine.holdJob s.headSlot s.carry = (t, r)) :
        exec .holdJob s = .next (s.answered r t) := by
      rw [exec_holdJob, take_of_readyFor h le_rfl, hbody]
    refine ⟨fun hnone => answer ?_, fun r hr => ?_⟩
    · rw [holdJob, show s.carry.namedJob s.headSlot = none from hnone]
    have hjob : s.carry.namedJob s.headSlot = some r := hr
    refine ⟨fun hnot => answer ?_, fun htaken => ?_⟩
    · rw [holdJob, hjob]
      exact if_neg hnot
    · refine ⟨putJob j { r with state := .onHold } s.carry, answer ?_, ?_, job?_putJob_self _ _ _,
        fun k hk => job?_putJob_of_ne _ _ hk, putJob_state _ _ s.carry, unchangedOutside_putJob _ _ s.carry⟩
      · rw [holdJob, hjob]
        exact if_pos htaken
      · rw [show (Instr.holdJob == Instr.releaseJob) = false from rfl, Bool.or_false]
        rfl
  · have answer {t : State} {r : Reply} (hbody : Machine.releaseJob s.headSlot s.carry = (t, r)) :
        exec .releaseJob s = .next (s.answered r t) := by
      rw [exec_releaseJob, take_of_readyFor h le_rfl, hbody]
    refine ⟨fun hnone => answer ?_, fun r hr => ?_⟩
    · rw [releaseJob, show s.carry.namedJob s.headSlot = none from hnone]
    have hjob : s.carry.namedJob s.headSlot = some r := hr
    refine ⟨fun hnot => answer ?_, fun htaken => ?_⟩
    · rw [releaseJob, hjob]
      exact if_neg hnot
    · refine ⟨occasion (putJob j { r with state := if r.started then .active else .queued } s.carry), answer ?_, ?_,
        job?_putJob_self j _ s.carry, fun k hk => job?_putJob_of_ne _ s.carry hk, putJob_state j _ s.carry,
        unchangedOutside_putJob j _ s.carry⟩
      · rw [releaseJob, hjob]
        exact if_pos htaken
      · rw [show (Instr.releaseJob == Instr.releaseJob) = true from rfl, Bool.or_true]
        rfl

/-! ## The sender filter (R150) -/

/-- The weighted sum, counted from any number on. -/
theorem binSum_eq (i : Nat) (cs : List Byte) :
    binSum i cs = ((List.range cs.length).map fun k => (i + k + 1) * (cs.getD k 0).toNat).sum := by
  induction cs generalizing i with
  | nil => rfl
  | cons c cs ih =>
    rw [binSum, ih, List.length_cons, List.range_succ_eq_map, List.map_cons, List.sum_cons, List.map_map]
    refine congrArg ((i + 1) * c.toNat + ·) (congrArg List.sum (List.map_congr_left fun k _ => ?_))
    simp only [Function.comp, Nat.succ_eq_add_one, List.getD_cons_succ]
    rw [show i + 1 + k + 1 = i + (k + 1) + 1 by omega]

theorem putFilter_bins (bins : BitVec 256) (s : State) :
    Mem.num (putFilter bins s).dram (s.por 0x2B800) 32 = bins.toNat :=
  (Mem.num_write_self _ _ 32 _).trans (Nat.mod_eq_of_lt bins.isLt)

theorem unchangedOutside_putFilter (bins : BitVec 256) (s : State) :
    unchangedOutside [(s.por 0x2B800, 32)] s.dram (putFilter bins s).dram := unchangedOutside_store (by simp)

/-- The row of SET_FILTER_BIN that takes operation `op`. -/
def filterInstr (op : Nat) : Instr :=
  if op = 0 then .setFilterBinClearBin else if op = 1 then .setFilterBinSetBin
  else if op = 2 then .setFilterBinClearEvery else .setFilterBinSetEvery

/-- Each of the four rows answers a slot with its own operation, and one with none of the four. -/
theorem exec_filterInstr {k : Nat} (hk : k ≤ 3) {s : State} (h : s.readyFor 0x41 2 = true)
    (hmine : s.headSlot.num 1 = k ∨ 3 < s.headSlot.num 1) {t : State} {r : Reply}
    (hbody : setFilterBin s.headSlot s.carry = (t, r)) : exec (filterInstr k) s = .next (s.answered r t) := by
  have hrow : filterRow k s.headSlot = true := by
    rcases hmine with hop | hop <;> simp [filterRow, hop]
  have hexec : exec (filterInstr k) s = .next (takeIf 0x41 2 (filterRow k) setFilterBin s) := by
    interval_cases k
    · exact exec_setFilterBinClearBin s
    · exact exec_setFilterBinSetBin s
    · exact exec_setFilterBinClearEvery s
    · exact exec_setFilterBinSetEvery s
  rw [hexec, takeIf_of_readyFor h le_rfl hrow, hbody]

theorem setFilterBin_of_noOperation {sl : Slot} (h : 3 < sl.num 1) (s : State) :
    setFilterBin sl s = (s, Reply.path .range 1) := by
  obtain ⟨n, hn⟩ : ∃ n, sl.num 1 = n + 4 := ⟨sl.num 1 - 4, by omega⟩
  rw [setFilterBin, hn]
  rfl

theorem setFilterBin_of_badBin {sl : Slot} (hop : sl.num 1 ≤ 1) (hbin : 255 < sl.num 0) (s : State) :
    setFilterBin sl s = (s, Reply.path .range 0) := by
  rcases Nat.le_one_iff_eq_zero_or_eq_one.1 hop with h | h <;> rw [setFilterBin, h] <;> exact if_pos hbin

/-- The filter with one bin set or clear. -/
def binSetTo (bins : BitVec 256) (b : Nat) (on : Bool) : BitVec 256 :=
  if on then bins ||| BitVec.twoPow 256 b else bins &&& ~~~(BitVec.twoPow 256 b)

theorem getLsbD_or_twoPow {w : Nat} (x : BitVec w) (b : Nat) {k : Nat} (hk : k < w) :
    (x ||| BitVec.twoPow w b).getLsbD k = if k = b then true else x.getLsbD k := by
  rw [BitVec.getLsbD_or, BitVec.getLsbD_twoPow]
  by_cases h : k = b
  · subst h
    simp [hk]
  · rw [if_neg h, decide_eq_false (Ne.symm h), Bool.and_false, Bool.or_false]

theorem getLsbD_and_not_twoPow {w : Nat} (x : BitVec w) (b : Nat) {k : Nat} (hk : k < w) :
    (x &&& ~~~(BitVec.twoPow w b)).getLsbD k = if k = b then false else x.getLsbD k := by
  rw [BitVec.getLsbD_and, BitVec.getLsbD_not, BitVec.getLsbD_twoPow]
  by_cases h : k = b
  · subst h
    simp [hk]
  · rw [if_neg h, decide_eq_false (Ne.symm h), Bool.and_false, Bool.not_false, decide_eq_true hk, Bool.true_and,
      Bool.and_true]

theorem getLsbD_binSetTo (bins : BitVec 256) (b : Nat) (on : Bool) {k : Nat} (hk : k < 256) :
    (binSetTo bins b on).getLsbD k = if k = b then on else bins.getLsbD k := by
  cases on
  · exact getLsbD_and_not_twoPow bins b hk
  · exact getLsbD_or_twoPow bins b hk

theorem setFilterBin_of_bin {sl : Slot} (hop : sl.num 1 ≤ 1) (hbin : sl.num 0 ≤ 255) (s : State) :
    setFilterBin sl s = (putFilter (binSetTo s.rxr.bins (sl.num 0) (sl.num 1 == 1)) s,
      Reply.path .done (if s.rxr.bins.getLsbD (sl.num 0) then 1 else 0)) := by
  have hbit : (if s.rxr.bins.getLsbD (sl.num 0) then 1 else 0) = bit (s.rxr.bins.getLsbD (sl.num 0)) := by
    cases s.rxr.bins.getLsbD (sl.num 0) <;> rfl
  rw [hbit]
  rcases Nat.le_one_iff_eq_zero_or_eq_one.1 hop with h | h <;> rw [setFilterBin, h] <;> exact if_neg (Nat.not_lt.2 hbin)

/-- The filter with every bin set or clear. -/
def everyBin (on : Bool) : BitVec 256 := if on then BitVec.allOnes 256 else 0

theorem getLsbD_everyBin (on : Bool) {k : Nat} (hk : k < 256) : (everyBin on).getLsbD k = on := by
  cases on
  · exact BitVec.getLsbD_zero
  · exact (BitVec.getLsbD_allOnes).trans (decide_eq_true hk)

theorem setFilterBin_of_every {sl : Slot} (hop : sl.num 1 = 2 ∨ sl.num 1 = 3) (s : State) :
    setFilterBin sl s = (putFilter (everyBin (sl.num 1 == 3)) s, Reply.path .done (binCount s.rxr.bins)) := by
  rcases hop with h | h <;> rw [setFilterBin, h] <;> rfl

/-- Settles O36: the weighted sum is `binSum_eq`, and each operation writes the filter that the lemmas above describe. -/
theorem senderFilter : Obligations.SenderFilter := by
  refine ⟨fun ident => ?_, fun s r ident => rfl, fun s h => ?_⟩
  · rw [binOf, binSum_eq]
    simp only [Nat.zero_add]
  intro b op row count
  have own {t : State} {r : Reply} (hop : op ≤ 3) (hbody : setFilterBin s.headSlot s.carry = (t, r)) :
      exec (row op) s = .next (s.answered r t) := exec_filterInstr hop h (.inl rfl) hbody
  refine ⟨fun hop k hk => exec_filterInstr hk h (.inr hop) (setFilterBin_of_noOperation hop _),
    fun hop hbin => own (by omega) (setFilterBin_of_badBin hop hbin _), fun hop hbin => ?_, fun hop => ?_⟩
  · exact ⟨_, own (by omega) (setFilterBin_of_bin hop hbin _), rfl, fun k hk => getLsbD_binSetTo _ _ _ hk,
      putFilter_bins _ s.carry, unchangedOutside_putFilter _ s.carry⟩
  · exact ⟨_, own (by omega) (setFilterBin_of_every hop _), rfl, fun k hk => getLsbD_everyBin _ hk,
      putFilter_bins _ s.carry, unchangedOutside_putFilter _ s.carry⟩

/-! ## RELEASE_HELD (R153) -/

/-- A document that does not meet the conditions of automatic deletion stays. -/
theorem testAutoDelete_of_stays {d : Nat} {r : Doc} {s : State} (hd : s.doc? d = some r) (h : r.autoDeletes = false) :
    testAutoDelete d s = s := by
  rw [testAutoDelete, hd]
  exact if_neg (Bool.eq_false_iff.1 h)

theorem Doc.autoDeletes_of_refs {r : Doc} (h : r.autoDelete = false ∨ r.printed = false ∨ r.printRefs ≠ 0) :
    r.autoDeletes = false := by
  rcases h with h | h | h <;> simp [Doc.autoDeletes, h]

/-- Settles O37: a released document without copies stays while it is not due for automatic deletion, and one with copies has
a print reference, so it is not due. -/
theorem Settled.releaseHeld : Obligations.ReleaseHeld := by
  intro s h d
  have answer {t : State} {q : Reply} (hbody : Machine.releaseHeld s.headSlot s.carry = (t, q)) :
      exec .releaseHeld s = .next (s.answered q t) := by
    rw [exec_releaseHeld, take_of_readyFor h le_rfl, hbody]
  refine ⟨fun hnone => answer ?_, fun r hr => ?_⟩
  · rw [Machine.releaseHeld, show s.carry.doc? (s.headSlot.num 0) = none from hnone]
  have hdoc : s.carry.doc? (s.headSlot.num 0) = some r := hr
  refine ⟨fun hbad => answer ?_, fun hdir hheld hstate => ?_⟩
  · rw [Machine.releaseHeld, hdoc]
    exact if_pos (by simpa using hbad)
  have hgood : ¬ (r.dir ≠ .inbound ∨ (!r.isHeld) = true ∨ r.state = .deleting) := by simp [hdir, hheld, hstate]
  have hputs := doc?_putDoc_self d { r with isHeld := false } s.carry
  refine ⟨fun hcopies =>
    ⟨testAutoDelete d (putDoc d { r with isHeld := false } s.carry), answer ?_, fun hstays => ?_⟩, fun hcopies hfull => answer ?_, fun hcopies e he => ?_⟩
  · rw [Machine.releaseHeld, hdoc]
    exact (if_neg hgood).trans (if_pos hcopies)
  · rw [testAutoDelete_of_stays hputs (Doc.autoDeletes_of_refs hstays)]
    exact ⟨rfl, hputs, fun k hk => doc?_putDoc_of_ne _ _ hk, unchangedOutside_putDoc _ _ s.carry⟩
  · rw [Machine.releaseHeld, hdoc]
    refine (if_neg hgood).trans ((if_neg hcopies).trans ?_)
    rw [show s.carry.freeEntry = none from hfull]
  · obtain ⟨u, hcreate, hframe, hself, hother, hentry, hentries, hpages, hbytes⟩ :=
      createEntry_spec hputs (Nat.pos_iff_ne_zero.2 hcopies) e r.tray r.printClass
    have hstays := testAutoDelete_of_stays hself (Doc.autoDeletes_of_refs (.inr (.inr (Nat.succ_ne_zero r.printRefs))))
    refine ⟨u, answer ?_, ?_, hself, hentry, hentries, fun hnodup => ⟨hpages hnodup, fun k hk => ?_, ?_⟩⟩
    · rw [Machine.releaseHeld, hdoc]
      refine (if_neg hgood).trans ((if_neg hcopies).trans ?_)
      rw [show s.carry.freeEntry = some e from he]
      change (testAutoDelete d (createEntry e d r.copies r.tray r.printClass (putDoc d { r with isHeld := false } s.carry)), _)
        = _
      rw [hcreate, hstays]
    · rw [hframe]
      rfl
    · exact (hother k hk).trans (doc?_putDoc_of_ne _ _ hk)
    · refine ((unchangedOutside_putDoc d { r with isHeld := false } s.carry).of_subset ?_).again hbytes
      exact List.cons_subset.2 ⟨List.mem_append_left _ (List.mem_cons_of_mem _ List.mem_cons_self), List.nil_subset _⟩

end Sys2Proof.Machine
end

section
/-! PROOFS. The reports of a changed free count, the segments that go back to the stack, and the seal of a page (R67, R68, R73,
R74, R80). -/

namespace Sys2Proof.Machine

set_option Elab.async false

/-! ## What an event changes (R31, R32) -/

/-- The bytes of DRAM that an event may change: the record at the event ring's tail, and the tail's word. -/
def State.eventSpans (s : State) : List (Nat × Nat) :=
  [(s.cfg.evBase + 64 + 16 * s.ceu.evTail, 16), (s.cfg.evBase + 4, 4)]

theorem unchangedOutside_deliverEvent (e : Event) (s : State) :
    unchangedOutside s.eventSpans s.dram (deliverEvent e s).dram := by
  unfold deliverEvent
  split
  · exact unchangedOutside_refl _ _
  · split
    · exact unchangedOutside_writeRecord _ { s with ceu := { s.ceu with discard := 0 } }
    · split
      · exact unchangedOutside_refl _ _
      · split <;> exact unchangedOutside_refl _ _

/-- A posted event changes the CEU, and of DRAM the bytes of its record and of the tail word. -/
theorem postTagged_frame (kind : EventKind) (src : SourceKind) (idx tag code value : Nat) (s : State) :
    ∃ c m, postTagged kind src idx tag code value s = { s with ceu := c, dram := m }
      ∧ unchangedOutside s.eventSpans s.dram m := by
  unfold postTagged
  split
  · exact ⟨_, _, rfl, unchangedOutside_refl _ _⟩
  · exact ⟨_, _, deliverEvent_frame _ s, unchangedOutside_deliverEvent _ s⟩

theorem post_frame (kind : EventKind) (src : SourceKind) (idx code value : Nat) (s : State) :
    ∃ c m, post kind src idx code value s = { s with ceu := c, dram := m } ∧ unchangedOutside s.eventSpans s.dram m :=
  postTagged_frame kind src idx 0 code value s

/-! ## The free count (R68, R80) -/

/-- A test of the low-store mark changes the mark and what its event changes. -/
theorem testLowMark_frame (s : State) :
    ∃ a c m, testLowMark s = { s with psm := { s.psm with lowArmed := a }, ceu := c, dram := m }
      ∧ unchangedOutside s.eventSpans s.dram m := by
  unfold testLowMark
  split
  · obtain ⟨c, m, heq, hmem⟩ := post_frame .storeLow .path 0 0 s.freeCount { s with psm := { s.psm with lowArmed := false } }
    exact ⟨_, _, _, heq, hmem⟩
  · split <;> exact ⟨_, _, _, rfl, unchangedOutside_refl _ _⟩

/-- The reports of a changed free count: the path status record, the low-store mark, and what its event changes. -/
theorem freeCountChanged_frame (s : State) :
    ∃ a c m, freeCountChanged s = { s with psm := { s.psm with lowArmed := a }, ceu := c, dram := m }
      ∧ unchangedOutside ((s.por 0, 12) :: s.eventSpans) s.dram m := by
  obtain ⟨a, c, m, heq, hmem⟩ := testLowMark_frame (writePathStatus s)
  exact ⟨a, c, m, heq, (unchangedOutside_writePathStatus s).trans hmem⟩

/-! ## Segments pushed (R68, R76) -/

/-- Segments pushed are on the stack, the last of them on top, and their entries stand behind the old ones. -/
theorem pushSegments_frame (l : List Nat) (s : State) :
    ∃ m, pushSegments l s = { s with psm := { s.psm with stack := l.reverse ++ s.psm.stack }, dram := m }
      ∧ unchangedOutside ((List.range l.length).map fun i => (s.por (0x79000 + 2 * (s.freeCount + i)), 2)) s.dram m := by
  induction l generalizing s with
  | nil => exact ⟨_, rfl, unchangedOutside_refl _ _⟩
  | cons x l ih =>
    obtain ⟨m, heq, hmem⟩ := ih (pushSegment s x)
    refine ⟨m, ?_, ?_⟩
    · rw [pushSegments, List.foldl_cons, ← pushSegments, heq, List.reverse_cons, List.append_assoc]
      rfl
    · have hfirst : unchangedOutside [(s.por (0x79000 + 2 * s.freeCount), 2)] s.dram (pushSegment s x).dram :=
        unchangedOutside_store (by simp)
      refine (hfirst.trans hmem).of_subset ?_
      rw [List.length_cons, List.range_succ_eq_map, List.map_cons, List.map_map]
      refine List.cons_subset_cons _ fun r hr => ?_
      obtain ⟨i, hi, rfl⟩ := List.mem_map.1 hr
      refine List.mem_map.2 ⟨i, hi, ?_⟩
      simp only [Function.comp, State.freeCount, pushSegment, State.store, State.por, State.cfg, List.length_cons]
      rw [show s.psm.stack.length + i.succ = s.psm.stack.length + 1 + i by omega]

/-! ## The trim and the seal (R73) -/

theorem trimPage_of_none {s : State} {p : Nat} (h : s.page? p = none) (lc : Nat) : trimPage p lc s = s := by
  rw [trimPage, h]

/-- A chain as long as the coded length needs stays. -/
theorem trimPage_of_short {s : State} {p lc : Nat} {r : PageRec} (h : s.page? p = some r) (hlen : r.chain.length ≤ segsFor lc) :
    trimPage p lc s = s := by
  simp only [trimPage, h]
  exact if_pos (List.drop_eq_nil_of_le hlen)

/-- The trailer of the last segment kept ends its chain. -/
def endChain (chain : List Nat) (s : State) : State :=
  match chain.getLast? with
  | none => s
  | some l => writeTrailer l chainEnd s

theorem endChain_frame (chain : List Nat) (s : State) :
    ∃ m, endChain chain s = { s with dram := m }
      ∧ unchangedOutside (chain.getLast?.toList.map fun l => (s.segAddr l + 1020, 4)) s.dram m := by
  unfold endChain
  cases chain.getLast? with
  | none => exact ⟨_, rfl, unchangedOutside_refl _ _⟩
  | some l => exact ⟨_, rfl, unchangedOutside_store (by simp)⟩

theorem trimPage_of_long {s : State} {p lc : Nat} {r : PageRec} (h : s.page? p = some r) (hlen : segsFor lc < r.chain.length) :
    trimPage p lc s = freeCountChanged (putPage p { r with chain := r.chain.take (segsFor lc) }
      (endChain (r.chain.take (segsFor lc)) (pushSegments (r.chain.drop (segsFor lc)) s))) := by
  have hextra : r.chain.drop (segsFor lc) ≠ [] := by
    rw [Ne, List.drop_eq_nil_iff]
    omega
  simp only [trimPage, h, endChain]
  rw [if_neg hextra] <;> rfl

/-- The spans of DRAM that a trim may change: the page's record, the path status record, an event, the stack's new entries and
the trailer of the last segment kept. -/
def State.trimSpans (s : State) (p lc : Nat) (r : PageRec) : List (Nat × Nat) :=
  [(s.pageAddr p, 64), (s.por 0, 12)] ++ s.eventSpans
    ++ ((List.range (r.chain.length - segsFor lc)).map fun i => (s.por (0x79000 + 2 * (s.freeCount + i)), 2))
    ++ (r.chain.take (segsFor lc)).getLast?.toList.map fun l => (s.segAddr l + 1020, 4)

/-- A trim, whole: the segments beyond those the coded length needs are on the stack, and the record keeps the others. -/
theorem trimPage_spec {s : State} {p lc : Nat} {r : PageRec} (h : s.page? p = some r) (hlen : segsFor lc ≤ r.chain.length) :
    ∃ ps a c m,
      trimPage p lc s = { s with
          psm := { s.psm with
            pages := ps, lowArmed := a, stack := (r.chain.drop (segsFor lc)).reverse ++ s.psm.stack },
          ceu := c, dram := m }
      ∧ Tab.get? ps p = some { r with chain := r.chain.take (segsFor lc) } ∧ (∀ q, q ≠ p → Tab.get? ps q = s.page? q)
      ∧ (r.chain.length = segsFor lc → trimPage p lc s = s) ∧ unchangedOutside (s.trimSpans p lc r) s.dram m := by
  rcases Nat.eq_or_lt_of_le hlen with heq | hlt
  · have hsame := trimPage_of_short h heq.ge
    have hall : r.chain.take (segsFor lc) = r.chain := List.take_of_length_le heq.ge
    refine ⟨s.psm.pages, s.psm.lowArmed, s.ceu, s.dram, ?_, ?_, fun _ _ => rfl, fun _ => hsame, unchangedOutside_refl _ _⟩
    · rw [hsame, List.drop_eq_nil_of_le heq.ge, List.reverse_nil, List.nil_append]
    · rw [hall]
      exact h
  · obtain ⟨m1, hpush, hmem1⟩ := pushSegments_frame (r.chain.drop (segsFor lc)) s
    obtain ⟨m2, hend, hmem2⟩ := endChain_frame (r.chain.take (segsFor lc)) (pushSegments (r.chain.drop (segsFor lc)) s)
    rw [trimPage_of_long h hlt]
    rw [hpush] at hend hmem2 ⊢
    rw [hend]
    obtain ⟨a, c, m, hreport, hmem3⟩ := freeCountChanged_frame (putPage p { r with chain := r.chain.take (segsFor lc) }
      { s with psm := { s.psm with stack := (r.chain.drop (segsFor lc)).reverse ++ s.psm.stack }, dram := m2 })
    refine ⟨_, a, c, m, hreport, Tab.get?_set_self _ _ _, fun q hq => Tab.get?_set_of_ne _ _ hq, fun heq => absurd heq (by omega),
      ?_⟩
    have hput : unchangedOutside [(s.pageAddr p, 64)] m2 (Mem.write m2 (s.pageAddr p)
        { r with chain := r.chain.take (segsFor lc) }.bytes) := 
      (unchangedOutside_refl _ _).write (n := 64) (List.mem_singleton_self _) (by simp)
    rw [List.length_drop] at hmem1
    refine (((hmem1.trans hmem2).trans hput).trans hmem3).of_subset fun x hx => ?_
    simp only [State.trimSpans, List.mem_append, List.mem_cons, List.not_mem_nil, or_false] at hx ⊢
    tauto

/-- A trim leaves the bytes of the page's stream where the chain kept holds them. -/
theorem streamBytes_take (s : State) (chain : List Nat) (lc : Nat) :
    s.streamBytes (chain.take (segsFor lc)) 0 lc = s.streamBytes chain 0 lc := by
  refine List.map_congr_left fun i hi => ?_
  have hin : i / 1020 < segsFor lc := by
    have := List.mem_range.1 hi
    unfold segsFor
    omega
  rw [Nat.zero_add, State.streamAddr, State.streamAddr, List.getD_eq_getElem?_getD, List.getD_eq_getElem?_getD,
    List.getElem?_take_of_lt hin]

/-- Settles O23: the trim, then the record's new fields. -/
theorem sealedPageRecord : Obligations.SealedPageRecord := by
  intro p lc lines r s hp hfilling hlen n t
  obtain ⟨ps, a, c, m, heq, hget, hother, hsame, hmem⟩ := trimPage_spec hp hlen
  have htrim : (trimPage p lc s).page? p = some { r with chain := r.chain.take n } := by
    rw [heq]
    exact hget
  have ht : t = putPage p
      { r with
        codedLen := lc, lineCount := lines, chain := r.chain.take n, sealedTime := s.chg.seconds,
        check := crc16 ((trimPage p lc s).streamBytes r.chain 0 lc),
        state := if r.scanOverrun || r.truncated then .damaged else .complete } (trimPage p lc s) := by
    refine (modifyPage_of_some htrim _).trans ?_
    simp only [streamBytes_take, show n = segsFor lc from rfl]
  have hpage : ∀ q, q ≠ p → t.page? q = s.page? q := fun q hq => by
    rw [ht, page?_putPage_of_ne _ _ hq, heq]
    exact hother q hq
  have hdram : unchangedOutside (s.trimSpans p lc r) s.dram t.dram := by
    rw [ht, heq]
    exact hmem.write (a := s.pageAddr p) (n := 64) (by simp [State.trimSpans]) (by simp)
  refine ⟨?_, ?_, hpage, ?_, fun hshort => ?_, hdram⟩
  · rw [ht]
    exact page?_putPage_self _ _ _
  · rw [ht, heq]
    rfl
  · rw [ht, heq]
    rfl
  · rw [ht, hsame hshort]
    exact ⟨rfl, rfl, unchangedOutside_store (by simp)⟩

end Sys2Proof.Machine
end

section
/-! PROOFS. SUBMIT_JOB: what a good entry is, the checks in their order, and what an accepted job does to the tables (R89,
R90, 11.4). -/

namespace Sys2Proof.Machine

set_option Elab.async false

/-! ## Entries of the destination list (R89, 11.4) -/

/-- The first bytes of a stretch of DRAM. -/
theorem Mem.take_bytes (m : Mem) (a : Nat) {k n : Nat} (h : k ≤ n) : (Mem.bytes m a n).take k = Mem.bytes m a k := by
  obtain ⟨r, rfl⟩ := Nat.exists_eq_add_of_le h
  have hlen : k = (Mem.bytes m a k).length := (Mem.bytes_length m a k).symm
  rw [Mem.bytes_add]
  conv_lhs => rw [hlen]
  rw [← hlen, List.take_append_of_le_length hlen.le, List.take_of_length_le hlen.ge]

theorem isDialChar_iff (c : Byte) :
    isDialChar c = true ↔ (0x30 ≤ c.toNat ∧ c.toNat ≤ 0x39) ∨ c = 0x2A ∨ c = 0x23 ∨ c = 0x2C := by
  simp [isDialChar, isPrefixChar, isDigit, star, hash, comma, or_assoc]

/-- The digits of an entry are its characters, when they are of the kinds that R89 names. -/
theorem entryDigits_eq_some_iff (c : Nat) (bs ds : List Byte) :
    entryDigits (c, bs) = some ds
      ↔ (1 ≤ c ∧ c ≤ 24) ∧ ds = bs.take c ∧ (∀ ch ∈ ds, isDialChar ch = true) ∧ ∃ ch ∈ ds, ch ≠ comma := by
  have hcond : (1 ≤ c ∧ c ≤ 24 ∧ (bs.take c).all isDialChar = true ∧ (bs.take c).any (fun c => c != comma) = true)
      ↔ (1 ≤ c ∧ c ≤ 24) ∧ (∀ ch ∈ bs.take c, isDialChar ch = true) ∧ ∃ ch ∈ bs.take c, ch ≠ comma := by
    simp [List.all_eq_true, List.any_eq_true, and_assoc]
  simp only [entryDigits, Option.ite_none_right_eq_some, Option.some.injEq, hcond]
  constructor
  · rintro ⟨⟨hc, hall, hany⟩, rfl⟩
    exact ⟨hc, rfl, hall, hany⟩
  · rintro ⟨hc, rfl, hall, hany⟩
    exact ⟨⟨hc, hall, hany⟩, rfl⟩

/-- The digits of entries read in turn: none is bad, and each gives its own. -/
theorem readEntries_of_good (s : State) (off : Nat) (ds : List (List Byte)) (e : Nat)
    (h : ∀ i, i < ds.length → entryDigits (s.listEntry off (e + i)) = some (ds.getD i [])) :
    readEntries s off ds.length e = .ok ds := by
  induction ds generalizing e with
  | nil => rfl
  | cons d ds ih =>
    have hfirst : entryDigits (s.listEntry off e) = some d := h 0 (Nat.zero_lt_succ _)
    have hrest := ih (e + 1) fun i hi => by
      rw [Nat.add_assoc, Nat.add_comm 1 i]
      exact h (i + 1) (Nat.succ_lt_succ hi)
    rw [List.length_cons, readEntries, hfirst, hrest]

/-- The first bad entry ends the reading. -/
theorem readEntries_of_bad (s : State) (off : Nat) {n e i : Nat} (hi : i < n)
    (hbefore : ∀ k, k < i → (entryDigits (s.listEntry off (e + k))).isSome = true)
    (hbad : entryDigits (s.listEntry off (e + i)) = none) : readEntries s off n e = .error (e + i) := by
  induction n generalizing e i with
  | zero => exact absurd hi (Nat.not_lt_zero i)
  | succ n ih =>
    cases i with
    | zero =>
      rw [readEntries, show entryDigits (s.listEntry off e) = none from hbad]
      rfl
    | succ i =>
      obtain ⟨d, hd⟩ := Option.isSome_iff_exists.1 (hbefore 0 (Nat.zero_lt_succ i))
      have hrest := ih (e := e + 1) (i := i) (Nat.lt_of_succ_lt_succ hi)
        (fun k hk => by
          rw [Nat.add_assoc, Nat.add_comm 1 k]
          exact hbefore (k + 1) (Nat.succ_lt_succ hk))
        (by rw [Nat.add_assoc, Nat.add_comm 1 i]; exact hbad)
      rw [readEntries, show entryDigits (s.listEntry off e) = some d from hd, hrest, Nat.add_assoc, Nat.add_comm 1 i]

/-! ## Destination records of a new job (R90) -/

/-- Destination records given to the entries in turn: which record holds which entry, and what else changes. -/
theorem giveDests_spec (job : Nat) (ks : List Nat) (dss : List (List Byte)) (hlen : ks.length = dss.length) (hks : ks.Nodup)
    (i : Nat) (s : State) :
    ∃ t m, giveDests job i ks dss s = { s with dju := { s.dju with dests := t }, dram := m }
      ∧ (∀ x k, ks[x]? = some k → Tab.get? t k = some (Dest.fresh job (i + x) (dss.getD x [])))
      ∧ (∀ k, k ∉ ks → Tab.get? t k = s.dest? k)
      ∧ unchangedOutside (ks.map fun k => (s.destAddr k, 64)) s.dram m := by
  induction ks generalizing i dss s with
  | nil =>
    obtain rfl : dss = [] := List.length_eq_zero_iff.1 hlen.symm
    exact ⟨_, _, rfl, nofun, fun _ _ => rfl, unchangedOutside_refl _ _⟩
  | cons k ks ih =>
    cases dss with
    | nil => cases hlen
    | cons ds dss =>
      obtain ⟨hk, hks⟩ := List.nodup_cons.1 hks
      obtain ⟨t, m, heq, hget, hother, hmem⟩ :=
        ih dss (Nat.succ.inj hlen) hks (i + 1) (putDest k (Dest.fresh job i ds) s)
      have hfirst : unchangedOutside [(s.destAddr k, 64)] s.dram (putDest k (Dest.fresh job i ds) s).dram :=
        unchangedOutside_store (by simp)
      refine ⟨t, m, heq, fun x j hx => ?_, fun j hj => ?_, hfirst.trans hmem⟩
      · cases x with
        | zero =>
          obtain rfl : k = j := Option.some.inj hx
          exact (hother k hk).trans (Tab.get?_set_self _ _ _)
        | succ x =>
          rw [hget x j hx, show i + 1 + x = i + (x + 1) by omega]
          rfl
      · obtain ⟨hjk, hj⟩ := not_or.1 (mt List.mem_cons.2 hj)
        exact (hother j hj).trans (Tab.get?_set_of_ne _ _ hjk)

/-- Each record in use takes one number, so enough records are free when the table is short. -/
theorem Tab.free_length {α : Type} (t : Tab α) (n : Nat) : n ≤ t.length + (Tab.free t n).length := by
  have hsplit := List.length_eq_length_filter_add (l := List.range n) fun k => (Tab.get? t k).isNone
  have hused : ((List.range n).filter fun k => !(Tab.get? t k).isNone).length ≤ (t.map Prod.fst).length := by
    refine (List.Nodup.subperm (List.nodup_range.filter _) fun k hk => ?_).length_le
    obtain ⟨v, hv⟩ := Option.isSome_iff_exists.1 (show (Tab.get? t k).isSome = true by simpa using (List.mem_filter.1 hk).2)
    exact List.mem_map.2 ⟨(k, v), Tab.mem_of_get? hv, rfl⟩
  rw [List.length_range] at hsplit
  rw [List.length_map] at hused
  change n ≤ t.length + ((List.range n).filter fun k => (Tab.get? t k).isNone).length
  omega

theorem Tab.free_nodup {α : Type} (t : Tab α) (n : Nat) : (Tab.free t n).Nodup := List.nodup_range.filter _

/-! ## The checks (R89) -/

/-- The checks of SUBMIT_JOB on the document and the account. -/
def docFault (sl : Slot) (s : State) : Option Reply :=
  match s.doc? (sl.num 0) with
  | none => some (Reply.path .noEntry 0)
  | some d =>
    if d.dir ≠ .outbound ∨ ¬(d.state = .opened ∨ (d.state = .closed ∧ d.places ≠ [])) then some (Reply.path .wrongState 0)
    else if 63 < sl.num 3 ∨ (s.account (sl.num 3)).state = .unused then some (Reply.path .noEntry 3)
    else none

theorem submitFault_eq (sl : Slot) (s : State) :
    submitFault sl s =
      if 2 < sl.num 4 then some (Reply.path .range 4)
      else if 1 < sl.num 6 then some (Reply.path .range 6)
      else if sl.num 2 < 1 ∨ 250 < sl.num 2 then some (Reply.path .range 2)
      else if sl.num 1 % 4 ≠ 0 ∨ s.windowBytes < sl.num 1 + 32 * sl.num 2 then some (Reply.path .range 1)
      else docFault sl s := rfl

/-- A list that passes the first four checks. -/
theorem submitFault_of_okList {sl : Slot} {s : State} (hpriority : sl.num 4 ≤ 2) (hoptions : sl.num 6 ≤ 1)
    (hlow : 1 ≤ sl.num 2) (hhigh : sl.num 2 ≤ 250) (halign : sl.num 1 % 4 = 0)
    (hwindow : sl.num 1 + 32 * sl.num 2 ≤ s.windowBytes) : submitFault sl s = docFault sl s := by
  rw [submitFault_eq, if_neg (by omega), if_neg (by omega), if_neg (by omega), if_neg (by omega)]

theorem docFault_of_none {sl : Slot} {s : State} (h : s.doc? (sl.num 0) = none) :
    docFault sl s = some (Reply.path .noEntry 0) := by
  rw [docFault, h]

theorem docFault_of_some {sl : Slot} {s : State} {d : Doc} (h : s.doc? (sl.num 0) = some d) :
    docFault sl s =
      if ¬(d.dir = .outbound ∧ (d.state = .opened ∨ (d.state = .closed ∧ d.places ≠ []))) then
        some (Reply.path .wrongState 0)
      else if ¬(sl.num 3 ≤ 63 ∧ (s.account (sl.num 3)).state ≠ .unused) then some (Reply.path .noEntry 3)
      else none := by
  rw [docFault, h]
  refine ite_congr (propext ?_) (fun _ => rfl) fun _ => ite_congr (propext ?_) (fun _ => rfl) fun _ => rfl
  · exact not_and_or.symm
  · rw [not_and_or, not_not, Nat.not_le]

theorem submitJob_of_fault {sl : Slot} {s : State} {r : Reply} (h : submitFault sl s = some r) :
    submitJob sl s = (s, r) := by
  rw [submitJob, h]

theorem submitJob_of_badEntry {sl : Slot} {s : State} {i : Nat} (h : submitFault sl s = none)
    (hread : readEntries s (sl.num 1) (sl.num 2) 0 = .error i) : submitJob sl s = (s, Reply.path .range i) := by
  rw [submitJob, h, hread]

theorem submitJob_of_entries {sl : Slot} {s : State} {ds : List (List Byte)} (h : submitFault sl s = none)
    (hread : readEntries s (sl.num 1) (sl.num 2) 0 = .ok ds) :
    submitJob sl s =
      match Tab.firstFree s.dju.jobs 64 with
      | none => (s, Reply.path .full 0)
      | some j =>
        if 1024 < s.dju.dests.length + ds.length then (s, Reply.path .full 0)
        else (acceptJob sl j ds s, ⟨.accepted, .job, j, ds.length⟩) := by
  rw [submitJob, h, hread] <;> rfl

/-! ## An accepted job (R90) -/

/-- The job record as SUBMIT_JOB fills it. -/
def Slot.job (sl : Slot) (submission count : Nat) : Job :=
  { state := .queued, doc := sl.num 0, account := sl.num 3, priority := sl.num 4, spread := max 1 (min 8 (sl.num 5)),
    autoDelete := sl.num 6 == 1, tag := sl.tag, submission := submission, destCount := count, sent := 0, failed := 0,
    cancelled := 0, sessions := 0, started := false }

/-- The job is in its record, and the submission number has moved on. -/
def enterJob (sl : Slot) (j count : Nat) (s : State) : State :=
  putJob j (sl.job ((s.dju.submission + 1) % 4294967296) count)
    { s with dju := { s.dju with submission := (s.dju.submission + 1) % 4294967296 } }

/-- An accepted job, step by step: its record, its destinations, its reference, and the holds of the pages. -/
theorem acceptJob_eq {sl : Slot} {j : Nat} {ds : List (List Byte)} {s : State} (hds : 0 < ds.length) {t : Tab Dest} {m : Mem}
    (hgive : giveDests j 0 ((Tab.free s.dju.dests 1024).take ds.length) ds (enterJob sl j ds.length s)
      = { enterJob sl j ds.length s with dju := { (enterJob sl j ds.length s).dju with dests := t }, dram := m })
    {doc : Doc} (hdoc : s.doc? (sl.num 0) = some doc) :
    acceptJob sl j ds s
      = occasion (doc.livePages.foldl (fun s p => modifyPage p (fun r => { r with sendHolds := r.sendHolds + ds.length }) s)
          (putDoc (sl.num 0) { doc with jobRefs := doc.jobRefs + 1 }
            { enterJob sl j ds.length s with dju := { (enterJob sl j ds.length s).dju with dests := t }, dram := m })) := by
  have hstep : (fun s p => changeSendHolds p (ds.length : Int) s)
      = fun s p => modifyPage p (fun r => { r with sendHolds := r.sendHolds + ds.length }) s :=
    funext fun u => funext fun p => changeSendHolds_of_pos hds p u
  have hmod := modifyDoc_of_some (s := { enterJob sl j ds.length s with
    dju := { (enterJob sl j ds.length s).dju with dests := t }, dram := m }) hdoc fun d => { d with jobRefs := d.jobRefs + 1 }
  have haccept : acceptJob sl j ds s = occasion
      ((((modifyDoc (sl.num 0) (fun d => { d with jobRefs := d.jobRefs + 1 })
          (giveDests j 0 ((Tab.free s.dju.dests 1024).take ds.length) ds (enterJob sl j ds.length s))).doc? (sl.num 0)).map
            Doc.livePages).getD [] |>.foldl (fun s p => changeSendHolds p ds.length s)
          (modifyDoc (sl.num 0) (fun d => { d with jobRefs := d.jobRefs + 1 })
            (giveDests j 0 ((Tab.free s.dju.dests 1024).take ds.length) ds (enterJob sl j ds.length s)))) := rfl
  rw [haccept, hgive, hmod, doc?_putDoc_self, hstep, Option.map_some, Option.getD_some]
  rfl

/-- What an accepted job leaves: its record, its destinations in the lowest free records, its reference, and the holds. -/
theorem acceptJob_spec {sl : Slot} {j : Nat} {ds : List (List Byte)} {s : State} {doc : Doc} (hdoc : s.doc? (sl.num 0) = some doc)
    (hds : 0 < ds.length) (hroom : s.dju.dests.length + ds.length ≤ 1024) :
    ∃ u, acceptJob sl j ds s = u
      ∧ u = { s with dju := u.dju, psm := { s.psm with pages := u.psm.pages }, dram := u.dram }
      ∧ u.dju = { s.dju with
          docs := u.dju.docs, jobs := u.dju.jobs, dests := u.dju.dests,
          submission := (s.dju.submission + 1) % 4294967296, passDue := true }
      ∧ u.job? j = some (sl.job ((s.dju.submission + 1) % 4294967296) ds.length) ∧ (∀ k, k ≠ j → u.job? k = s.job? k)
      ∧ ((Tab.free s.dju.dests 1024).take ds.length).length = ds.length
      ∧ (∀ i k, ((Tab.free s.dju.dests 1024).take ds.length)[i]? = some k
          → u.dest? k = some (Dest.fresh j i (ds.getD i [])))
      ∧ (∀ k, k ∉ (Tab.free s.dju.dests 1024).take ds.length → u.dest? k = s.dest? k)
      ∧ u.doc? (sl.num 0) = some { doc with jobRefs := doc.jobRefs + 1 } ∧ (∀ k, k ≠ sl.num 0 → u.doc? k = s.doc? k)
      ∧ (doc.livePages.Nodup → ∀ p, u.page? p = (s.page? p).map fun r =>
          if p ∈ doc.livePages then { r with sendHolds := r.sendHolds + ds.length } else r)
      ∧ unchangedOutside ([(s.jobAddr j, 128), (s.docAddr (sl.num 0), 512)]
          ++ ((Tab.free s.dju.dests 1024).take ds.length).map (fun k => (s.destAddr k, 64))
          ++ doc.livePages.map fun p => (s.pageAddr p, 64)) s.dram u.dram := by
  have hcount : ((Tab.free s.dju.dests 1024).take ds.length).length = ds.length := by
    have := Tab.free_length s.dju.dests 1024
    rw [List.length_take]
    omega
  obtain ⟨t, m, hgive, hget, hother, hmem⟩ := giveDests_spec j ((Tab.free s.dju.dests 1024).take ds.length) ds hcount
    ((Tab.free_nodup _ _).sublist (List.take_sublist _ _)) 0 (enterJob sl j ds.length s)
  obtain ⟨ps, m', hpages, hholds, hmem'⟩ := modifyPages_eq (fun r => { r with sendHolds := r.sendHolds + ds.length })
    doc.livePages (putDoc (sl.num 0) { doc with jobRefs := doc.jobRefs + 1 }
      { enterJob sl j ds.length s with dju := { (enterJob sl j ds.length s).dju with dests := t }, dram := m })
  have haccept := acceptJob_eq hds hgive hdoc
  rw [hpages] at haccept
  have hjobBytes : unchangedOutside [(s.jobAddr j, 128)] s.dram (enterJob sl j ds.length s).dram :=
    unchangedOutside_store (by simp)
  have hdocBytes : unchangedOutside [(s.docAddr (sl.num 0), 512)] m
      (putDoc (sl.num 0) { doc with jobRefs := doc.jobRefs + 1 }
        { enterJob sl j ds.length s with dju := { (enterJob sl j ds.length s).dju with dests := t }, dram := m }).dram :=
    unchangedOutside_store (by simp)
  refine ⟨_, haccept, rfl, rfl, job?_putJob_self _ _ _, fun k hk => job?_putJob_of_ne _ _ hk, hcount, fun i k hi => ?_,
    fun k hk => hother k hk, doc?_putDoc_self _ _ _, fun k hk => doc?_putDoc_of_ne _ _ hk, fun hnodup p => ?_, ?_⟩
  · refine (hget i k hi).trans ?_
    rw [Nat.zero_add]
  · refine (hholds hnodup p).trans ?_
    change (if p ∈ doc.livePages then (s.page? p).map _ else s.page? p) = _
    split <;> cases s.page? p <;> rfl
  · refine ((((hjobBytes.trans hmem).trans hdocBytes).trans hmem').of_subset fun x hx => ?_)
    simp only [List.mem_append, List.mem_cons, List.not_mem_nil, or_false] at hx ⊢
    rcases hx with ((hx | hx) | hx) | hx
    · exact .inl (.inl (.inl hx))
    · exact .inl (.inr hx)
    · exact .inl (.inl (.inr hx))
    · exact .inr hx

/-- Settles O29: what a good entry is, the checks one by one, and `acceptJob_spec` for the command that passes them. -/
theorem Settled.submitJob : Obligations.SubmitJob := by
  have answer {s t : State} {r : Reply} (h : s.readyFor 0x23 7 = true) (hbody : Machine.submitJob s.headSlot s.carry = (t, r)) :
      exec .submitJob s = .next (s.answered r t) := by
    rw [exec_submitJob, take_of_readyFor h le_rfl, hbody]
  refine ⟨fun s off e ds => ?_, fun s h => ?_, fun s doc ds j h _ => ?_⟩
  · intro c
    rw [State.listEntry, entryDigits_eq_some_iff]
    constructor
    · rintro ⟨hc, rfl, hall, hany⟩
      exact ⟨hc.1, hc.2, Mem.take_bytes _ _ hc.2, fun ch hch => (isDialChar_iff ch).1 (hall ch hch), hany⟩
    · rintro ⟨hlow, hhigh, rfl, hall, hany⟩
      exact ⟨⟨hlow, hhigh⟩, (Mem.take_bytes _ _ hhigh).symm, fun ch hch => (isDialChar_iff ch).2 (hall ch hch), hany⟩
  · intro sl n fails okList entry
    have refused {r : Reply} (hfault : submitFault sl s.carry = some r) : fails r := answer h (submitJob_of_fault hfault)
    refine ⟨fun h4 => refused ?_, fun h4 h6 => refused ?_, fun h4 h6 h2 => refused ?_, fun h4 h6 hlow hhigh h1 => refused ?_,
      fun hlist hnone => refused ?_, fun doc hlist hdoc => ?_⟩
    · rw [submitFault_eq, if_pos h4]
    · rw [submitFault_eq, if_neg (Nat.not_lt.2 h4), if_pos h6]
    · rw [submitFault_eq, if_neg (Nat.not_lt.2 h4), if_neg (Nat.not_lt.2 h6), if_pos h2]
    · rw [submitFault_eq, if_neg (Nat.not_lt.2 h4), if_neg (Nat.not_lt.2 h6), if_neg (by omega)]
      exact if_pos h1
    all_goals
      obtain ⟨h4, h6, hlow, hhigh, halign, hwindow⟩ := hlist
      have hfault : submitFault sl s.carry = docFault sl s.carry := submitFault_of_okList h4 h6 hlow hhigh halign hwindow
    · rw [hfault, docFault_of_none (s := s.carry) hnone]
    · intro okDoc okAccount
      have hdocFault : docFault sl s.carry = if ¬okDoc then some (Reply.path .wrongState 0)
          else if ¬okAccount then some (Reply.path .noEntry 3) else none := docFault_of_some (s := s.carry) hdoc
      refine ⟨fun hbad => refused ?_, fun hok hbad => refused ?_, fun hok haccount e he hbad hbefore => ?_,
        fun hok haccount hgood hfull => ?_⟩
      · rw [hfault, hdocFault, if_pos hbad]
      · rw [hfault, hdocFault, if_neg (not_not_intro hok), if_pos hbad]
      all_goals
        have hnone : submitFault sl s.carry = none := by
          rw [hfault, hdocFault, if_neg (not_not_intro hok), if_neg (not_not_intro haccount)]
      · have hread := readEntries_of_bad s.carry (sl.num 1) (e := 0) he
          (fun k hk => by rw [Nat.zero_add]; exact hbefore k hk) (by rw [Nat.zero_add]; exact hbad)
        rw [Nat.zero_add] at hread
        exact answer h (submitJob_of_badEntry hnone hread)
      · have hread := readEntries_of_good s.carry (sl.num 1) ((List.range n).map fun e => (entry e).getD []) 0
          (fun i hi => by
            rw [List.length_map, List.length_range] at hi
            obtain ⟨d, hd⟩ := Option.isSome_iff_exists.1 (hgood i hi)
            simp only [Nat.zero_add, List.getD_eq_getElem?_getD, List.getElem?_map, List.getElem?_range hi, Option.map_some,
              Option.getD_some, hd]
            exact hd)
        rw [List.length_map, List.length_range] at hread
        refine answer h ((submitJob_of_entries hnone hread).trans ?_)
        rw [List.length_map, List.length_range]
        cases hfree : Tab.firstFree s.carry.dju.jobs 64 with
        | none => rfl
        | some j =>
          obtain ⟨hj, hnoJob, -⟩ := (Tab.firstFree_eq_some_iff _ _ _).1 hfree
          have htable : 1024 < s.dju.dests.length + n := hfull.resolve_left fun hall => by
            have := hall j hj
            rw [show s.job? j = none from hnoJob] at this
            cases this
          exact if_pos htable
  · intro sl n pages frees h4 h6 hlow hhigh halign hwindow hdoc hdir hstate hnumber haccount hlen hds hj hnoJob hbefore hroom
      hnodup
    have hfault : submitFault sl s.carry = none := by
      rw [submitFault_of_okList (s := s.carry) h4 h6 hlow hhigh halign hwindow, docFault_of_some (s := s.carry) hdoc,
        if_neg (not_not_intro ⟨hdir, hstate⟩)]
      exact if_neg (not_not_intro ⟨hnumber, haccount⟩)
    have hread : readEntries s.carry (sl.num 1) (sl.num 2) 0 = .ok ds := by
      have := readEntries_of_good s.carry (sl.num 1) ds 0 fun i hi => by
        rw [Nat.zero_add]
        exact (hds i (hlen ▸ hi)).symm
      rwa [hlen] at this
    have hfree : Tab.firstFree s.carry.dju.jobs 64 = some j := (Tab.firstFree_eq_some_iff _ _ _).2 ⟨hj, hnoJob, hbefore⟩
    obtain ⟨u, haccept, hframe, hdju, hjob, hjobs, hcount, hgiven, hkept, hself, hdocs, hpages, hbytes⟩ :=
      acceptJob_spec (j := j) (s := s.carry) hdoc (by omega : 0 < ds.length) (by rw [hlen]; exact hroom)
    have hbody := submitJob_of_entries hfault hread
    rw [hfree] at hbody
    have hnotFull : ¬ 1024 < s.carry.dju.dests.length + ds.length := by
      rw [hlen]
      exact Nat.not_lt.2 hroom
    have hbody' : Machine.submitJob sl s.carry = (u, ⟨.accepted, .job, j, n⟩) := by
      refine hbody.trans ((if_neg hnotFull).trans ?_)
      rw [haccept, hlen]
    rw [hlen] at hcount hgiven hkept hpages hbytes hjob
    refine ⟨u, answer h hbody', hframe, hjob, hjobs, ?_, ?_, ?_, ?_, ?_, hcount, hgiven, hkept, hself, hdocs,
      hpages hnodup, hbytes⟩ <;> rw [hdju] <;> rfl

end Sys2Proof.Machine
end

section
/-! PROOFS. The session records of the lines (R122 to R127): what setting, changing and restarting one does, what the handing of
a message leaves alone, and with them the rows of the call in progress (R124, R128, R133). -/

namespace Sys2Proof.Machine

set_option Elab.async false

/-! ## The tables once more -/

theorem Tab.below_set {α : Type} (t : Tab α) (k : Nat) (v : α) : Tab.below (Tab.set t k v) k = Tab.below t k := by
  have hbelow : (Tab.below t k).filter (fun e => decide (e.1 < k)) = Tab.below t k := by
    simp [Tab.below, List.filter_filter]
  have hfrom : (Tab.from t (k + 1)).filter (fun e => decide (e.1 < k)) = [] := by
    simp only [Tab.from, List.filter_filter, List.filter_eq_nil_iff, Bool.and_eq_true, decide_eq_true_eq, not_and]
    omega
  show ((Tab.below t k ++ (k, v) :: Tab.from t (k + 1)).filter fun e => decide (e.1 < k)) = _
  rw [List.filter_append, List.filter_cons_of_neg (by simp), hbelow, hfrom, List.append_nil]

theorem Tab.from_set {α : Type} (t : Tab α) (k : Nat) (v : α) : Tab.from (Tab.set t k v) (k + 1) = Tab.from t (k + 1) := by
  have hbelow : (Tab.below t k).filter (fun e => decide (k + 1 ≤ e.1)) = [] := by
    simp only [Tab.below, List.filter_filter, List.filter_eq_nil_iff, Bool.and_eq_true, decide_eq_true_eq, not_and]
    omega
  have hfrom : (Tab.from t (k + 1)).filter (fun e => decide (k + 1 ≤ e.1)) = Tab.from t (k + 1) := by
    simp [Tab.from, List.filter_filter]
  show ((Tab.below t k ++ (k, v) :: Tab.from t (k + 1)).filter fun e => decide (k + 1 ≤ e.1)) = _
  rw [List.filter_append, List.filter_cons_of_neg (by simp), hbelow, hfrom, List.nil_append]

/-- A record set twice is the record set last. -/
theorem Tab.set_set {α : Type} (t : Tab α) (k : Nat) (v w : α) : Tab.set (Tab.set t k v) k w = Tab.set t k w := by
  show Tab.below (Tab.set t k v) k ++ (k, w) :: Tab.from (Tab.set t k v) (k + 1) = _
  rw [Tab.below_set, Tab.from_set]
  rfl

/-! ## One line's record (R122) -/

/-- The bytes of the session record of line `n`. -/
def State.lineSpan (s : State) (n : Line) : Nat × Nat := (s.por (0x80 + 256 * n.val), 256)

@[simp] theorem line_setLine_self (n : Line) (r : LineRec) (s : State) : (setLine n r s).line n = r :=
  Tab.getD_set_self ..

theorem line_setLine_of_ne {n m : Line} (r : LineRec) (s : State) (h : m ≠ n) : (setLine n r s).line m = s.line m :=
  Tab.getD_set_of_ne _ _ _ fun e => h (Fin.ext e)

theorem blockMapBytes_length (m : Tab Nat) : (blockMapBytes m).length = 128 := by
  simp [blockMapBytes, List.length_flatMap, le_length]

theorem State.lineBytes_length (s : State) (n : Line) : (s.lineBytes n).length = 256 := by
  unfold State.lineBytes
  simp only [List.length_append, u8_length, zeros_length, le_length, padTo_length, blockMapBytes_length]

/-- The record's first byte is the state's code. -/
theorem State.lineBytes_head (s : State) (n : Line) : ∃ rest, s.lineBytes n = u8 (s.line n).state.code ++ rest := by
  unfold State.lineBytes
  simp only [List.append_assoc]
  exact ⟨_, rfl⟩

/-- `t` is `s` after line `n` has taken the record `r`: nothing else has changed but the record's bytes in DRAM. -/
def SetsLine (n : Line) (r : LineRec) (s t : State) : Prop :=
  ∃ m, t = { setLine n r s with dram := m } ∧ unchangedOutside [s.lineSpan n] s.dram m

theorem setsLine_setLine (n : Line) (r : LineRec) (s : State) : SetsLine n r s (setLine n r s) :=
  ⟨s.dram, rfl, unchangedOutside_refl _ _⟩

theorem unchangedOutside_writeLine (n : Line) (s : State) : unchangedOutside [s.lineSpan n] s.dram (writeLine n s).dram :=
  unchangedOutside_store (s.lineBytes_length n).le

theorem setsLine_writeLine (n : Line) (r : LineRec) (s : State) : SetsLine n r s (writeLine n (setLine n r s)) :=
  ⟨_, rfl, unchangedOutside_writeLine n (setLine n r s)⟩

theorem setsLine_modifyLine (n : Line) (f : LineRec → LineRec) (s : State) :
    SetsLine n (f (s.line n)) s (modifyLine n f s) := by
  simp only [modifyLine]
  split
  · exact setsLine_setLine n _ s
  · exact setsLine_writeLine n _ s

namespace SetsLine

variable {n : Line} {r : LineRec} {s t : State}

theorem line_self (h : SetsLine n r s t) : t.line n = r := by
  obtain ⟨m, rfl, -⟩ := h
  exact line_setLine_self n r s

theorem line_of_ne (h : SetsLine n r s t) {m : Line} (hm : m ≠ n) : t.line m = s.line m := by
  obtain ⟨_, rfl, -⟩ := h
  exact line_setLine_of_ne r s hm

theorem frame (h : SetsLine n r s t) : t = { s with lne := { s.lne with lines := t.lne.lines }, dram := t.dram } := by
  obtain ⟨_, rfl, -⟩ := h
  rfl

theorem dram (h : SetsLine n r s t) : unchangedOutside [s.lineSpan n] s.dram t.dram := by
  obtain ⟨_, rfl, hm⟩ := h
  exact hm

/-- Two changes of one line's record are one. -/
theorem trans {r' : LineRec} {u : State} (h : SetsLine n r s t) (h' : SetsLine n r' t u) : SetsLine n r' s u := by
  obtain ⟨m, rfl, hm⟩ := h
  obtain ⟨m', rfl, hm'⟩ := h'
  refine ⟨m', ?_, unchangedOutside.again hm hm'⟩
  simp only [setLine, Tab.set_set]

theorem modify (h : SetsLine n r s t) (f : LineRec → LineRec) : SetsLine n (f r) s (modifyLine n f t) := by
  have hstep := setsLine_modifyLine n f t
  rw [h.line_self] at hstep
  exact h.trans hstep

/-- The record of a line that enters a state: the state's timer starts afresh (R127). -/
theorem enter (h : SetsLine n r s t) (st : LineState) (f : LineRec → LineRec) :
    SetsLine n (LineRec.restart s.lne.timers { f r with state := st }) s (enterState n st f t) := by
  have htimers : t.lne.timers = s.lne.timers := by rw [h.frame]
  rw [← htimers]
  exact h.modify _

end SetsLine

/-! ## Handing (R117) -/

/-- A handing changes the link interface alone, and reads it alone. -/
theorem hand_eq (n : Line) (k : TxKind) (s : State) : hand n k s = { s with sli := (hand n k s).sli } := by
  unfold hand
  split <;> rfl

theorem hand_sli {s t : State} (n : Line) (k : TxKind) (h : t.sli = s.sli) : (hand n k t).sli = (hand n k s).sli := by
  unfold hand
  rw [h]
  split <;> rfl

@[simp] theorem line_hand (n m : Line) (k : TxKind) (s : State) : (hand n k s).line m = s.line m := by rw [hand_eq]; rfl

/-- The change of a line's record and the handing of a message do not meet. -/
theorem SetsLine.hand {n : Line} {r : LineRec} {s t : State} (h : SetsLine n r s t) (m : Line) (k : TxKind) :
    SetsLine n r (Machine.hand m k s) (Machine.hand m k t) := by
  obtain ⟨d, rfl, hd⟩ := h
  have hs := hand_eq m k s
  have ht := hand_eq m k { setLine n r s with dram := d }
  have hsli : (Machine.hand m k { setLine n r s with dram := d }).sli = (Machine.hand m k s).sli := hand_sli m k rfl
  rw [hsli] at ht
  rw [ht, hs]
  exact ⟨d, rfl, hd⟩

/-- State `t` differs from `s` in the link interface alone. -/
def OnlySli (s t : State) : Prop := t = { s with sli := t.sli }

theorem OnlySli.hand {s t : State} (h : OnlySli s t) (n : Line) (k : TxKind) : OnlySli s (Machine.hand n k t) := by
  unfold OnlySli at h ⊢
  rw [hand_eq n k t, h]

theorem onlySli_hand (n : Line) (k : TxKind) (s : State) : OnlySli s (hand n k s) := hand_eq n k s

/-- What a change of a line's record after handings leaves alone. -/
theorem SetsLine.after {n : Line} {r : LineRec} {s b t : State} (hb : OnlySli s b) (h : SetsLine n r b t) :
    t = { s with sli := b.sli, lne := { s.lne with lines := t.lne.lines }, dram := t.dram }
      ∧ t.line n = r ∧ (∀ m, m ≠ n → t.line m = s.line m) ∧ unchangedOutside [s.lineSpan n] s.dram t.dram := by
  obtain ⟨d, rfl, hd⟩ := h
  unfold OnlySli at hb
  generalize b.sli = x at hb ⊢
  subst hb
  exact ⟨rfl, line_setLine_self n r s, fun m hm => line_setLine_of_ne r s hm, hd⟩

theorem setsLine_enterState (n : Line) (st : LineState) (f : LineRec → LineRec) (s : State) :
    SetsLine n (LineRec.restart s.lne.timers { f (s.line n) with state := st }) s (enterState n st f s) :=
  setsLine_modifyLine n _ s

/-- A line that is cleared hands CLEAR and enters CLEARING with its cause. -/
theorem setsLine_clearLine (n : Line) (cause : Cause) (s : State) :
    SetsLine n { s.line n with state := .clearing, cause := some cause, timer := some .clearing, remaining := 100 }
      (hand n .clear s) (clearLine n cause s) := by
  have h := setsLine_enterState n .clearing (fun r => { r with cause := some cause }) (hand n .clear s)
  rw [line_hand] at h
  exact h

/-! ## Lines ready and not (R124) -/

theorem State.hears_iff {s : State} : s.hears = true ↔ s.linkUp = true ∧ s.rgw.state ≠ .pass := by
  simp [State.hears]

/-- While the part hears the shelf, a message for a line outside RECEIVING does what it does alone. -/
theorem delivered_of_hears {n : Line} {act : State → State} {s : State} (h : s.hears = true)
    (hr : (s.line n).state ≠ .receiving) : delivered n act s = act s := by
  obtain ⟨hup, hpass⟩ := State.hears_iff.mp h
  rw [delivered, if_pos hup, deliver, if_neg hpass, if_neg hr]

/-- A message that the part does not hear changes nothing. -/
theorem delivered_of_deaf {n : Line} {act : State → State} {s : State} (h : s.hears = false) : delivered n act s = s := by
  unfold delivered deliver
  split
  · rename_i hup
    rw [if_pos]
    by_contra hpass
    rw [State.hears_iff.mpr ⟨hup, hpass⟩] at h
    cases h
  · rfl

/-- A change of the state writes the record, with the state's code in its first byte. -/
theorem modifyLine_state {n : Line} {s : State} {st : LineState} (h : st ≠ (s.line n).state) :
    Mem.get (modifyLine n (fun r => { r with state := st }) s).dram (s.por (0x80 + 256 * n.val))
      = BitVec.ofNat 8 st.code := by
  have hw : (({ s.line n with state := st } : LineRec).written == (s.line n).written) = false := by
    simp [LineRec.written, h]
  simp only [modifyLine, hw, Bool.false_eq_true, if_false]
  have hlen := State.lineBytes_length (setLine n { s.line n with state := st } s) n
  refine (Mem.get_write_at s.dram (s.por (0x80 + 256 * n.val))
    ((setLine n { s.line n with state := st } s).lineBytes n) (i := 0) (by omega)).trans ?_
  obtain ⟨rest, hhead⟩ := State.lineBytes_head (setLine n { s.line n with state := st } s) n
  rw [hhead, line_setLine_self]
  rfl

theorem onLineReady_of_unavailable {n : Line} {s : State} (hrun : s.rgw.state = .run)
    (hst : (s.line n).state = .unavailable) :
    onLineReady n s = occasion (modifyLine n (fun r => { r with state := .idle }) s) :=
  if_pos ⟨by simp [State.isRun, hrun], hst⟩

/-! ## The call in progress (R128, R133) -/

/-- The four replies of the shelf that clear a call in a state: the row, its cause and the state. -/
def clearingReplies (n : Line) : List (Instr × Cause × LineState) :=
  [(.busy n, .busy, .dialling), (.noAnswer n, .noAnswer, .dialling), (.notFax n, .notFax, .dialling),
    (.pageRejected n, .pageRejected, .pageWait)]

theorem exec_clearingReplies {n : Line} {s : State} (h : s.hears = true) (hr : (s.line n).state ≠ .receiving) :
    ∀ x ∈ clearingReplies n,
      exec x.1 s = .next (if (s.line n).state = x.2.2 then clearLine n x.2.1 s else s) := by
  have row (act : State → State) : Host.Outcome.next (delivered n act s) = (.next (act s) : Answer) := by
    rw [delivered_of_hears h hr]
  simp only [clearingReplies, List.mem_cons, List.not_mem_nil, or_false, forall_eq_or_imp, forall_eq]
  exact ⟨row (onCallFailed n .busy), row (onCallFailed n .noAnswer), row (onCallFailed n .notFax), row (onPageRejected n)⟩

/-- Settles O54: the lines that become ready or not, the dialling of a seized line, and the replies that clear a call. -/
theorem callProgress : Obligations.CallProgress := by
  refine ⟨fun n s => ⟨fun h => ?_, fun h hrun hst => ?_, fun h hst => ?_⟩, fun n s h hr => ⟨fun hst => ?_, fun hst => ?_, ?_⟩⟩
  · exact ⟨congrArg Host.Outcome.next (delivered_of_deaf h), congrArg Host.Outcome.next (delivered_of_deaf h)⟩
  · have hset := setsLine_modifyLine n (fun r => { r with state := .idle }) s
    refine ⟨_, congrArg Host.Outcome.next ((delivered_of_hears h (by simp [hst])).trans
      (onLineReady_of_unavailable hrun hst)), ?_, hset.line_self, fun m hm => hset.line_of_ne hm, ?_, hset.dram⟩
    · have e := hset.frame
      generalize modifyLine n _ s = t at e ⊢
      rw [occasion, e]
    · exact modifyLine_state (by simp [hst])
  · have hset := setsLine_modifyLine n (fun r => { r with state := .unavailable }) s
    refine ⟨congrArg Host.Outcome.next ((delivered_of_hears h (by simp [hst])).trans (if_neg (by simp [hst]))), _,
      congrArg Host.Outcome.next ((delivered_of_hears h (by simp [hst])).trans (if_pos hst)), hset.frame, hset.line_self,
      fun m hm => hset.line_of_ne hm, ?_, hset.dram⟩
    exact modifyLine_state (by simp [hst])
  · obtain ⟨hframe, hself, hothers, hdram⟩ :=
      (setsLine_enterState n .dialling id (hand n (.dial (s.dialOf n)) s)).after (onlySli_hand ..)
    refine ⟨_, congrArg Host.Outcome.next ((delivered_of_hears h hr).trans (if_pos hst)), hframe, ?_, hothers, hdram⟩
    rw [hself, line_hand, hand_eq]
    rfl
  · exact congrArg Host.Outcome.next ((delivered_of_hears h hr).trans (if_neg hst))
  · intro c cause st hc
    have hexec := exec_clearingReplies h hr (c, cause, st) (by simpa [clearingReplies] using hc)
    refine ⟨fun hst => by rw [hexec, if_neg hst], fun hst => ?_⟩
    exact ⟨_, by rw [hexec, if_pos hst], (setsLine_clearLine n cause s).after (onlySli_hand ..)⟩

end Sys2Proof.Machine
end

section
/-! PROOFS. START_PRINT and STOP_PRINT, and a held access as printing stops (R164, R165, R171). -/

namespace Sys2Proof.Machine

set_option Elab.async false

/-! ## The CEU's conditions -/

/-- A part that takes a command is in RUN. -/
theorem State.isRun_of_readyFor {s : State} {kind need : Nat} (h : s.readyFor kind need = true) : s.isRun = true := by
  have htake := ((s.readyFor_iff kind need).1 h).1
  simp only [State.canTake, Bool.and_eq_true] at htake
  exact htake.1.1.1.1

theorem testUrgent_of_run {s : State} (h : s.isRun = true) :
    testUrgent s = { s with mad := { s.mad with
      urgent := s.isPrinting && decide (s.prn.slots.length < (s.prn.active.map PrintProfile.threshold).getD 0) } } := by
  rw [testUrgent, h]
  rfl

/-! ## Held reads (R171) -/

theorem releasePrintHold_of_none {s : State} (h : s.smp.held = none) : releasePrintHold s = s := by
  simp only [releasePrintHold, h]

theorem releasePrintHold_of_other {s : State} {h : Held} (hheld : s.smp.held = some h) (hr : h.reason ≠ .print) :
    releasePrintHold s = s := by
  simp only [releasePrintHold, hheld]
  exact if_neg fun hc => hr hc.1

theorem releasePrintHold_of_early {s : State} {h : Held} (hheld : s.smp.held = some h)
    (he : s.isEarly h.access.off = true) : releasePrintHold s = s := by
  simp only [releasePrintHold, hheld]
  exact if_neg fun hc => by simp [he] at hc

theorem releasePrintHold_of_due {s : State} {h : Held} (hheld : s.smp.held = some h) (hr : h.reason = .print)
    (he : s.isEarly h.access.off = false) : releasePrintHold s = finishRead h.access.off s := by
  simp only [releasePrintHold, hheld]
  exact if_pos ⟨hr, by simp [he]⟩

/-- A read is early exactly when it is for the slot at the read index while printing is started and no slot waits. -/
theorem State.isEarly_iff {s : State} {off : Nat} :
    s.isEarly off = true ↔ s.isRun = true ∧ s.isPrinting = true ∧ s.prn.slots = []
      ∧ ∃ r, s.printSlot off = some (s.prn.read, r) := by
  cases hslot : s.printSlot off with
  | none => simp [State.isEarly, hslot]
  | some jr =>
    obtain ⟨j, r⟩ := jr
    simp [State.isEarly, hslot, State.waitingSlots, and_assoc]

/-- Where no slot waits the window's word is DRAM's, and the end of a read consumes nothing. -/
theorem finishRead_of_noSlots {s : State} (h : s.prn.slots = []) (off : Nat) :
    finishRead off s = { s with smp := { s.smp with held := none, busData := Mem.word s.dram off } } := by
  have hword : s.readWord off = Mem.word s.dram off := by
    simp only [State.readWord, State.slotRec, h, List.getElem?_nil, Option.bind_none]
    split <;> rfl
  have hconsume (t : State) (ht : t.prn.slots = []) : consume t = t := by simp only [consume, ht]
  have hwatch (t : State) (ht : t.prn.slots = []) : readWatch off t = t := by
    rw [readWatch]
    split
    · rfl
    · rw [hconsume t ht, ite_self]
  rw [finishRead, hword]
  exact hwatch _ h

/-! ## START_PRINT (R164) -/

/-- The geometry in force has the stored profile's width. -/
def State.sameWidth (s : State) : Bool := s.rgw.printGeom.any fun g => g.width == s.prn.profile.width

/-- `State.sameWidth` is what START_PRINT tests. -/
theorem State.sameWidth_eq (s : State) :
    ((s.rgw.printGeom.map PrintGeom.width) == some s.prn.profile.width) = s.sameWidth := by
  unfold State.sameWidth
  cases s.rgw.printGeom <;> rfl

theorem State.otherWidth_eq (s : State) :
    (s.rgw.printGeom.any fun g => g.width != s.prn.profile.width) = (s.rgw.printGeom.isSome && !s.sameWidth) := by
  unfold State.sameWidth
  cases s.rgw.printGeom <;> rfl

theorem startPrint_of_stopped (sl : Slot) {s : State} (h : s.prn.state = .stopped) :
    startPrint sl s =
      if s.slotCountFor s.prn.profile.width < 4 then (s, Reply.path .range (s.slotCountFor s.prn.profile.width))
      else if (s.rgw.printGeom.isSome && !s.sameWidth) && decide (0 < s.prn.slots.length) then
        (s, Reply.path .wrongState 0)
      else (testUrgent (takeGeometry s), Reply.path .done 0) := by
  simp only [startPrint, h, State.otherWidth_eq]
  rfl

theorem takeGeometry_eq (s : State) :
    takeGeometry s =
      { s with
        rgw := { s.rgw with
          printGeom := if s.sameWidth then s.rgw.printGeom else
            some ⟨s.prn.profile.width, slotBytes s.prn.profile.width, s.slotCountFor s.prn.profile.width⟩ }
        prn := { s.prn with
          active := some (s.prn.profile.activated (s.slotCountFor s.prn.profile.width)), state := .printing
          fill := if s.sameWidth then s.prn.fill else 0, read := if s.sameWidth then s.prn.read else 0
          slots := if s.sameWidth then s.prn.slots else [] } } := by
  simp only [takeGeometry, State.sameWidth_eq]
  cases s.sameWidth <;> rfl

/-! ## STOP_PRINT (R165) -/

/-- The state as STOP_PRINT leaves it but for a held read. -/
def State.stopped (s : State) : State :=
  { s.carry with
    prn := { s.prn with state := if s.prn.sheetOpen then .stopping else .stopped }
    mad := { s.mad with
      urgent := s.prn.sheetOpen && decide (s.prn.slots.length < (s.prn.active.map PrintProfile.threshold).getD 0) } }

theorem State.stopped_isPrinting (s : State) : s.stopped.isPrinting = s.prn.sheetOpen := by
  unfold State.isPrinting State.stopped
  cases s.prn.sheetOpen <;> rfl

theorem stopPrint_of_printing {s : State} {sl : Slot} (hrun : s.isRun = true) (h : s.prn.state = .printing) :
    stopPrint sl s.carry = (releasePrintHold s.stopped, Reply.path .done 1) := by
  have hst : s.carry.prn.state = .printing := h
  simp only [stopPrint, hst, ↓reduceIte]
  rw [testUrgent_of_run (by exact hrun)]
  have hprinting : s.stopped.isPrinting = s.prn.sheetOpen := s.stopped_isPrinting
  exact congrArg (fun b => (releasePrintHold { s.stopped with mad := { s.mad with urgent := b && _ } }, _)) hprinting

theorem State.stopped_isEarly_iff {s : State} (hrun : s.isRun = true) {off : Nat} :
    s.stopped.isEarly off = true ↔ s.prn.sheetOpen = true ∧ s.prn.slots = []
      ∧ ∃ r, s.printSlot off = some (s.prn.read, r) := by
  rw [State.isEarly_iff, s.stopped_isPrinting, show s.stopped.isRun = true from hrun, eq_self_iff_true, true_and]
  rfl

/-- Settles O40: START_PRINT by the print state and the geometry, STOP_PRINT by the access that is held. -/
theorem startAndStopPrint : Obligations.StartAndStopPrint := by
  have stop {s t : State} {r : Reply} (h : s.readyFor 0x4C 0 = true)
      (hbody : stopPrint s.headSlot s.carry = (t, r)) : exec .stopPrint s = .next (s.answered r t) := by
    rw [exec_stopPrint, take_of_readyFor h le_rfl, hbody]
  refine ⟨fun s => ?_, fun h s hready hst hheld => ?_⟩
  · intro p size count sameWidth threshold
    refine ⟨fun hready => ?_, fun hready => ⟨fun hst => ?_, fun hst hheld => ?_⟩⟩
    · have start {t : State} {r : Reply} (hbody : startPrint s.headSlot s.carry = (t, r)) :
          exec .startPrint s = .next (s.answered r t) := by
        rw [exec_startPrint, take_of_readyFor hready le_rfl, hbody]
      have hstopped (hst : s.prn.state = .stopped) := startPrint_of_stopped s.headSlot (s := s.carry) hst
      refine ⟨fun hst => start ?_, fun hst => start ?_, fun hst hcount => start ?_, fun hst hcount hgeom hsame hslots => start ?_,
        fun hst hcount hfree => start ?_⟩
      · simp only [startPrint, show s.carry.prn.state = .printing from hst]
        rfl
      · simp only [startPrint, show s.carry.prn.state = .stopping from hst]
        rfl
      · exact (hstopped hst).trans (if_pos hcount)
      · refine (hstopped hst).trans ((if_neg (Nat.not_lt.mpr hcount)).trans (if_pos ?_))
        have hsame' : s.carry.sameWidth = false := hsame
        have hgeom' : s.carry.rgw.printGeom.isSome = true := hgeom
        rw [hsame', hgeom']
        exact decide_eq_true (List.length_pos_iff.mpr hslots)
      · have hgo : ((s.carry.rgw.printGeom.isSome && !s.carry.sameWidth) && decide (0 < s.carry.prn.slots.length)) = false := by
          obtain hnone | hsame | hslots := hfree
          · rw [show s.carry.rgw.printGeom = none from hnone]
            rfl
          · rw [show s.carry.sameWidth = true from hsame, Bool.not_true, Bool.and_false, Bool.false_and]
          · rw [show s.carry.prn.slots = [] from hslots, List.length_nil, decide_eq_false (lt_irrefl 0), Bool.and_false]
        refine (hstopped hst).trans ((if_neg (Nat.not_lt.mpr hcount)).trans ((if_neg (by rw [hgo]; decide)).trans ?_))
        have hrun : s.isRun = true := State.isRun_of_readyFor hready
        rw [takeGeometry_eq, testUrgent_of_run (by exact hrun)]
        rfl
    · have hbody : stopPrint s.headSlot s.carry = (s.carry, Reply.path .done s.prn.state.code) := if_neg hst
      exact stop hready hbody
    · have hbody := stopPrint_of_printing (sl := s.headSlot) (State.isRun_of_readyFor hready) hst
      rw [releasePrintHold_of_none (s := s.stopped) hheld] at hbody
      exact ⟨_, stop hready hbody, rfl⟩
  · intro threshold stopped early
    have hrun := State.isRun_of_readyFor hready
    have hbody := stopPrint_of_printing (sl := s.headSlot) hrun hst
    refine ⟨fun hstays => ?_, fun hprint hsheet hslots => ?_⟩
    · have hkept : releasePrintHold s.stopped = s.stopped := by
        obtain hother | ⟨hsheet, hearly⟩ := hstays
        · exact releasePrintHold_of_other hheld hother
        · exact releasePrintHold_of_early hheld ((State.stopped_isEarly_iff hrun).mpr ⟨hsheet, hearly⟩)
      rw [hkept] at hbody
      exact stop hready hbody
    · have hlate : s.stopped.isEarly h.access.off = false := by
        rw [Bool.eq_false_iff, Ne, State.stopped_isEarly_iff hrun, hsheet]
        exact fun hc => Bool.false_ne_true hc.1
      rw [releasePrintHold_of_due (s := s.stopped) hheld hprint hlate, finishRead_of_noSlots (s := s.stopped) hslots] at hbody
      exact stop hready hbody

end Sys2Proof.Machine
end

section
/-! PROOFS. The tenths and seconds of the time base, and what they move (R101, R127, R143, R175, R187). -/

namespace Sys2Proof.Machine

set_option Elab.async false

theorem Tab.get?_map {α β : Type} (f : α → β) (t : Tab α) (k : Nat) :
    Tab.get? (t.map fun e => (e.1, f e.2)) k = (Tab.get? t k).map f := by
  induction t with
  | nil => rfl
  | cons e t ih =>
    simp only [List.map_cons, Tab.get?]
    split
    · rfl
    · exact ih

/-- A change that leaves the record of a line without one as it is reaches every line. -/
theorem Tab.getD_map {α : Type} (f : α → α) {d : α} (hd : f d = d) (t : Tab α) (k : Nat) :
    Tab.getD (t.map fun e => (e.1, f e.2)) k d = f (Tab.getD t k d) := by
  rw [Tab.getD, Tab.get?_map, Tab.getD]
  cases Tab.get? t k with
  | none => exact hd.symm
  | some v => rfl

/-- One tenth of a running timer (R127). -/
def LineRec.ticked (r : LineRec) : LineRec := if r.timer.isSome then { r with remaining := r.remaining - 1 } else r

theorem tickTimers_eq (s : State) :
    tickTimers s =
      { s with
        lne := { s.lne with
          lines := if s.lne.grace = none then s.lne.lines.map (fun e => (e.1, e.2.ticked)) else s.lne.lines
          grace := s.lne.grace.map fun g => g - 1 } } := by
  unfold tickTimers
  split
  · rename_i g hg
    simp only [hg, reduceCtorEq, ↓reduceIte]
    rfl
  · rename_i hg
    simp only [hg, ↓reduceIte]
    rfl

theorem tickTimers_line (s : State) (n : Line) :
    (tickTimers s).line n = if s.lne.grace = none ∧ (s.line n).timer.isSome
      then { s.line n with remaining := (s.line n).remaining - 1 } else s.line n := by
  have hticked (r : LineRec) : r.ticked = if r.timer.isSome then { r with remaining := r.remaining - 1 } else r := rfl
  rw [State.line, tickTimers_eq]
  by_cases hgrace : s.lne.grace = none
  · simp only [hgrace, ↓reduceIte, true_and]
    rw [Tab.getD_map LineRec.ticked rfl, hticked]
    rfl
  · simp only [hgrace, ↓reduceIte, false_and]
    rfl

/-- One tenth of a call's connected time (R187). -/
def CallRec.ticked (c : CallRec) : CallRec := if c.answered then { c with connected := c.connected + 1 } else c

/-- The second that a tenth ends brings an occasion when a next-try time has come. -/
theorem secondPassed_eq (s : State) :
    secondPassed s =
      { s with
        dju := { s.dju with
          passDue := s.dju.passDue || s.dju.dests.any fun e =>
            (e.2.state == .retryWait) && decide (e.2.nextTry ≤ (s.chg.seconds : Int)) } } := by
  unfold secondPassed occasion
  split
  · rename_i hdue
    rw [hdue, Bool.or_true]
  · rename_i hdue
    rw [Bool.eq_false_of_not_eq_true hdue, Bool.or_false]

/-- The state after a tenth, with the lines and the calls as their timers leave them. -/
theorem tenthEnds_eq (s : State) :
    tenthEnds s =
      { s with
        lne := (tickTimers s).lne
        chg := { s.chg with
          seconds := if (s.chg.tenths + 1) % 10 = 0 then (s.chg.seconds + 1) % 4294967296 else s.chg.seconds
          tenths := (s.chg.tenths + 1) % 10, tenthCycles := tenthLength ((s.chg.tenths + 1) % 10)
          calls := s.chg.calls.map fun e => (e.1, e.2.ticked) }
        dju := { s.dju with
          passDue := s.dju.passDue || (((s.chg.tenths + 1) % 10 == 0) && s.dju.dests.any fun e =>
            (e.2.state == .retryWait) && decide (e.2.nextTry ≤
              ((if (s.chg.tenths + 1) % 10 = 0 then (s.chg.seconds + 1) % 4294967296 else s.chg.seconds : Nat) : Int))) } } := by
  rw [tickTimers_eq]
  by_cases ht : (s.chg.tenths + 1) % 10 = 0
  · simp only [tenthEnds, tickTimers_eq, tickCalls, ht, ↓reduceIte, secondPassed_eq, beq_self_eq_true, Bool.true_and]
    rfl
  · simp only [tenthEnds, tickTimers_eq, tickCalls, ht, ↓reduceIte, beq_eq_false_iff_ne.mpr ht, Bool.false_and, Bool.or_false]
    rfl

/-- Settles O49: a tenth moves the timers or the grace, the calls and the count, and a second asks for a pass. -/
theorem timeBase : Obligations.TimeBase := by
  intro s hup _ t seconds
  have htenth : exec .timeBaseTenth s = .next (tenthEnds s) := congrArg Host.Outcome.next (if_pos hup)
  refine ⟨⟨_, htenth, ?_, fun n => ?_, fun n => ?_⟩, fun h9 => ?_, fun h9 => ?_⟩
  · rw [tenthEnds_eq, tickTimers_eq]
    rfl
  · rw [tenthEnds_eq]
    exact tickTimers_line s n
  · rw [tenthEnds_eq]
    exact Tab.get?_map CallRec.ticked s.chg.calls n
  · rw [htenth]
    exact congrArg Host.Outcome.next (if_pos ⟨hup, h9⟩)
  · exact congrArg Host.Outcome.next (if_neg fun h => h9 h.2)

end Sys2Proof.Machine
end

section
/-! PROOFS. What waits to be sent, and the end of outbound blocks: the queue with the handings behind it as one mail, the record
of a line whose block has ended, and several lines' blocks that end in turn (R117, R119, R131). -/

namespace Sys2Proof.Machine

set_option Elab.async false

/-! ## The mail (R117) -/

/-- The transmit queue and the messages that wait to join it. -/
def State.mail (s : State) : List TxMsg × List TxMsg := (s.sli.queue, s.sli.handings)

/-- The state with another mail. -/
def State.withMail (s : State) (q : List TxMsg × List TxMsg) : State :=
  { s with sli := { s.sli with queue := q.1, handings := q.2 } }

/-- The mail with one more message. -/
def joinMail (m : TxMsg) (q : List TxMsg × List TxMsg) : List TxMsg × List TxMsg :=
  if q.2.isEmpty && decide (q.1.length < 32) then (q.1 ++ [m], q.2) else (q.1, q.2 ++ [m])

theorem hand_withMail (n : Line) (k : TxKind) (s : State) : hand n k s = s.withMail (joinMail (k.msg n) s.mail) := by
  unfold hand joinMail State.withMail State.mail
  split <;> rfl

@[simp] theorem State.mail_withMail (s : State) (q : List TxMsg × List TxMsg) : (s.withMail q).mail = q := rfl

/-! ## One line's block that has ended (R131) -/

/-- The line is told that its block has ended: it sends and has one on its way. -/
def LineRec.told (l : LineRec) : Bool := l.state == .sending && l.inFlight

/-- The block that has ended was the last of its partial page. -/
def LineRec.closes (l : LineRec) : Bool := l.told && l.toSend == []

/-- The PARTIAL_END of line `n` as things stand. -/
def State.partialEnd (s : State) (n : Line) : TxKind :=
  .partialEnd (s.line n).partialPage (s.line n).blockCount (s.endKindNow n)

/-- The record of line `n` once its block has ended. -/
def State.blockDone (s : State) (n : Line) : LineRec :=
  if (s.line n).closes then
    { s.line n with inFlight := false, lastEnd := some (s.endKindNow n), state := .partialWait, timer := some .partialPage,
                    remaining := s.lne.timers.partialPage }
  else if (s.line n).told then
    { s.line n with inFlight := false, timer := some .blockGap, remaining := s.lne.timers.blockGap }
  else s.line n

/-- The mail once the block of line `n` has ended. -/
def State.mailDone (s : State) (n : Line) (q : List TxMsg × List TxMsg) : List TxMsg × List TxMsg :=
  if (s.line n).closes then joinMail ((s.partialEnd n).msg n) q else q

/-- A change that no field of R122 shows is not written. -/
theorem modifyLine_of_written {n : Line} {f : LineRec → LineRec} {s : State}
    (h : (f (s.line n)).written = (s.line n).written) : modifyLine n f s = setLine n (f (s.line n)) s := by
  simp only [modifyLine, h, beq_self_eq_true, ↓reduceIte]

theorem setLine_setLine (n : Line) (r r' : LineRec) (s : State) : setLine n r' (setLine n r s) = setLine n r' s := by
  simp only [setLine, Tab.set_set]

theorem SetsLine.withMail {n : Line} {r : LineRec} {s t : State} (h : SetsLine n r s t) (q : List TxMsg × List TxMsg) :
    SetsLine n r (s.withMail q) (t.withMail q) := by
  obtain ⟨m, rfl, hm⟩ := h
  exact ⟨m, rfl, hm⟩

theorem blockFinished_of_not_told {n : Line} {s : State} (h : (s.line n).told = false) : blockFinished n s = s := by
  refine if_neg fun hc => ?_
  rw [LineRec.told, hc.1, hc.2] at h
  cases h

theorem LineRec.told_iff {l : LineRec} : l.told = true ↔ l.state = .sending ∧ l.inFlight = true := by
  simp [LineRec.told]

theorem LineRec.closes_iff {l : LineRec} : l.closes = true ↔ l.told = true ∧ l.toSend = [] := by
  simp [LineRec.closes]

/-- A block that has ended with others still to send restarts the line's timer and is not written. -/
theorem blockFinished_of_more {n : Line} {s : State} (h : (s.line n).told = true) (hmore : (s.line n).toSend ≠ []) :
    blockFinished n s =
      setLine n { s.line n with inFlight := false, timer := some .blockGap, remaining := s.lne.timers.blockGap } s := by
  obtain ⟨hst, hfl⟩ := LineRec.told_iff.mp h
  have hset : modifyLine n (fun r => { r with inFlight := false }) s = setLine n { s.line n with inFlight := false } s :=
    modifyLine_of_written rfl
  refine (if_pos (show _ ∧ _ from ⟨hst, hfl⟩)).trans ((if_neg hmore).trans ?_)
  rw [hset, restartTimer, modifyLine_of_written (by rw [line_setLine_self]; rfl), line_setLine_self, setLine_setLine]
  simp only [LineRec.restart, hst]
  rfl

/-- The last block of a partial page has ended: PARTIAL_END is handed and the line waits for the shelf's reply. -/
theorem blockFinished_of_last {n : Line} {s : State} (h : (s.line n).closes = true) :
    SetsLine n (s.blockDone n) (hand n (s.partialEnd n) s) (blockFinished n s) := by
  obtain ⟨htold, hlast⟩ := LineRec.closes_iff.mp h
  obtain ⟨hst, hfl⟩ := LineRec.told_iff.mp htold
  have hset : modifyLine n (fun r => { r with inFlight := false }) s = setLine n { s.line n with inFlight := false } s :=
    modifyLine_of_written rfl
  have hkind : (setLine n { s.line n with inFlight := false } s).endKindNow n = s.endKindNow n := by
    simp only [State.endKindNow, State.linePage, State.lineDoc, line_setLine_self]
    rfl
  have hfinished : blockFinished n s = handPartialEnd n (setLine n { s.line n with inFlight := false } s) := by
    simp only [blockFinished, hst, hfl, and_self, ↓reduceIte, hlast, hset]
  have hend : handPartialEnd n (setLine n { s.line n with inFlight := false } s)
      = enterState n .partialWait (fun r => { r with lastEnd := some (s.endKindNow n) })
          (hand n (s.partialEnd n) (setLine n { s.line n with inFlight := false } s)) := by
    unfold handPartialEnd
    rw [hkind, line_setLine_self]
    rfl
  have htimers : (hand n (s.partialEnd n) s).lne.timers = s.lne.timers := by rw [hand_eq]
  have hstep := ((setsLine_setLine n { s.line n with inFlight := false } s).hand n (s.partialEnd n)).enter .partialWait
    fun r => { r with lastEnd := some (s.endKindNow n) }
  rw [htimers] at hstep
  rw [hfinished, hend, State.blockDone, if_pos h]
  exact hstep

/-! ## Several lines' blocks that end in turn (R119, log 43) -/

/-- `t` is `s` after the blocks of the lines `ns` have ended in turn, with whatever became of the blocks themselves. -/
structure BlocksEnd (ns : List Line) (s t : State) : Prop where
  frame : t = { s with
    sli := { s.sli with outBlocks := t.sli.outBlocks, queue := t.mail.1, handings := t.mail.2 }
    lne := { s.lne with lines := t.lne.lines }
    dram := t.dram }
  mail : t.mail = ns.foldl (fun q n => s.mailDone n q) s.mail
  line : ∀ n, t.line n = if n ∈ ns then s.blockDone n else s.line n
  dram : unchangedOutside ((ns.filter fun n => (s.line n).closes).map s.lineSpan) s.dram t.dram

theorem blocksEnd_nil {s : State} (o : Tab OutBlock) : BlocksEnd [] s { s with sli := { s.sli with outBlocks := o } } :=
  ⟨rfl, rfl, fun _ => rfl, unchangedOutside_refl _ _⟩

/-- The end of one line's block. -/
theorem blocksEnd_one (n : Line) (s : State) (o : Tab OutBlock) :
    BlocksEnd [n] s (blockFinished n { s with sli := { s.sli with outBlocks := o } }) := by
  generalize hs : ({ s with sli := { s.sli with outBlocks := o } } : State) = b
  have hline (m : Line) : b.line m = s.line m := by subst hs; rfl
  have hmail : b.mail = s.mail := by subst hs; rfl
  have hdone : b.blockDone n = s.blockDone n := by subst hs; rfl
  have hend : b.partialEnd n = s.partialEnd n := by subst hs; rfl
  by_cases hclose : (s.line n).closes = true
  · obtain ⟨d, ht, hd⟩ := blockFinished_of_last (n := n) (s := b) (by rw [hline]; exact hclose)
    rw [hand_withMail, hend, hmail] at ht hd
    rw [hdone] at ht
    refine ⟨?_, ?_, fun m => ?_, ?_⟩
    · rw [ht]; subst hs; rfl
    · rw [ht, List.foldl_cons, List.foldl_nil, State.mailDone, if_pos hclose]; rfl
    · rw [ht]
      by_cases hm : m = n
      · rw [if_pos (by simp [hm]), hm]; exact line_setLine_self ..
      · rw [if_neg (by simp [hm])]
        exact (line_setLine_of_ne _ _ hm).trans (hline m)
    · rw [ht, List.filter_cons_of_pos (p := fun n => (s.line n).closes) hclose]
      subst hs
      exact hd
  · have hspans : ([n].filter fun n => (s.line n).closes) = [] := List.filter_cons_of_neg hclose
    have hmailDone : s.mailDone n s.mail = s.mail := if_neg hclose
    have hdone' : s.blockDone n = if (s.line n).told then
        { s.line n with inFlight := false, timer := some .blockGap, remaining := s.lne.timers.blockGap } else s.line n :=
      if_neg hclose
    cases htold : (s.line n).told with
    | true =>
      have hmore : (s.line n).toSend ≠ [] := fun h => hclose (LineRec.closes_iff.mpr ⟨htold, h⟩)
      have ht := blockFinished_of_more (n := n) (s := b) (by rw [hline]; exact htold) (by rw [hline]; exact hmore)
      rw [htold, if_pos rfl] at hdone'
      refine ⟨?_, ?_, fun m => ?_, ?_⟩
      · rw [ht]; subst hs; rfl
      · rw [ht, List.foldl_cons, List.foldl_nil, hmailDone, ← hmail]; rfl
      · rw [ht]
        by_cases hm : m = n
        · rw [if_pos (by simp [hm]), hm, line_setLine_self, hdone', hline]
          subst hs; rfl
        · rw [if_neg (by simp [hm]), line_setLine_of_ne _ _ hm, hline]
      · rw [ht]; subst hs; exact unchangedOutside_refl _ _
    | false =>
      have ht := blockFinished_of_not_told (n := n) (s := b) (by rw [hline]; exact htold)
      rw [htold] at hdone'
      refine ⟨?_, ?_, fun m => ?_, ?_⟩
      · rw [ht]; subst hs; rfl
      · rw [ht, List.foldl_cons, List.foldl_nil, hmailDone, hmail]
      · rw [ht, hline]
        split
        · rename_i hm
          rw [List.mem_singleton.mp hm]
          exact hdone'.symm
        · rfl
      · rw [ht]; subst hs; exact unchangedOutside_refl _ _

/-- What the end of other lines' blocks leaves of a line. -/
theorem BlocksEnd.other {ns : List Line} {s t : State} (h : BlocksEnd ns s t) {m : Line} (hm : m ∉ ns) :
    t.line m = s.line m ∧ t.blockDone m = s.blockDone m ∧ t.partialEnd m = s.partialEnd m := by
  have hline : t.line m = s.line m := by rw [h.line, if_neg hm]
  have hpage : t.page? = s.page? := by rw [h.frame]; rfl
  have hdoc : t.doc? = s.doc? := by rw [h.frame]; rfl
  have htimers : t.lne.timers = s.lne.timers := by rw [h.frame]
  have hkind : t.endKindNow m = s.endKindNow m := by
    unfold State.endKindNow State.linePage State.lineDoc
    rw [hline, hpage, hdoc]
  exact ⟨hline, by simp only [State.blockDone, hline, hkind, htimers], by simp only [State.partialEnd, hline, hkind]⟩

/-- Blocks of other lines that end later. -/
theorem BlocksEnd.cons {n : Line} {ns : List Line} {s t u : State} (hn : n ∉ ns) (h : BlocksEnd [n] s t)
    (h' : BlocksEnd ns t u) : BlocksEnd (n :: ns) s u := by
  have hother {m : Line} (hm : m ∈ ns) := h.other fun hc => hn (List.mem_singleton.mp hc ▸ hm)
  refine ⟨?_, ?_, fun m => ?_, ?_⟩
  · have e := h'.frame
    rw [h.frame] at e
    exact e
  · rw [h'.mail, h.mail, List.foldl_cons, List.foldl_nil, List.foldl_cons]
    refine List.foldl_ext _ _ _ fun q m hm => ?_
    obtain ⟨hline, -, hend⟩ := hother hm
    rw [State.mailDone, hline, hend, State.mailDone]
  · rw [h'.line]
    by_cases hm : m ∈ ns
    · rw [if_pos hm, if_pos (List.mem_cons_of_mem n hm), (hother hm).2.1]
    · rw [if_neg hm, h.line]
      simp [hm]
  · have hclose : (ns.filter fun m => (t.line m).closes) = ns.filter fun m => (s.line m).closes :=
      List.filter_congr fun m hm => by rw [(hother hm).1]
    have hspan (m : Line) : t.lineSpan m = s.lineSpan m := by rw [h.frame]; rfl
    have hd := h.dram.trans h'.dram
    rw [hclose, List.map_congr_left fun m _ => hspan m, ← List.map_append, ← List.filter_append] at hd
    exact hd

/-- A change of the blocks alone before others end. -/
theorem BlocksEnd.after_none {ns : List Line} {s t u : State} (h : BlocksEnd [] s t) (h' : BlocksEnd ns t u) :
    BlocksEnd ns s u := by
  have hother (m : Line) := h.other (List.not_mem_nil (a := m))
  refine ⟨?_, ?_, fun m => ?_, ?_⟩
  · have e := h'.frame
    rw [h.frame] at e
    exact e
  · rw [h'.mail, h.mail, List.foldl_nil]
    refine List.foldl_ext _ _ _ fun q m _ => ?_
    rw [State.mailDone, (hother m).1, (hother m).2.2, State.mailDone]
  · rw [h'.line, (hother m).1, (hother m).2.1]
  · have hspan (m : Line) : t.lineSpan m = s.lineSpan m := by rw [h.frame]; rfl
    have hd := h.dram.trans h'.dram
    simp only [(hother _).1] at hd
    rw [List.map_congr_left fun m _ => hspan m] at hd
    exact hd

/-- An operation on one line's block: the block changes, and the line is told when it has ended. -/
def BlockStep (ends : Bool) (n : Line) (s t : State) : Prop :=
  ∃ o : Tab OutBlock, (∀ m : Line, m ≠ n → Tab.get? o m.val = Tab.get? s.sli.outBlocks m.val)
    ∧ t = if ends then blockFinished n { s with sli := { s.sli with outBlocks := o } }
        else { s with sli := { s.sli with outBlocks := o } }

/-- The line that is told leaves the blocks alone. -/
theorem blockFinished_outBlocks (n : Line) (s : State) : (blockFinished n s).sli.outBlocks = s.sli.outBlocks := by
  cases htold : (s.line n).told with
  | false => rw [blockFinished_of_not_told htold]
  | true =>
    by_cases hlast : (s.line n).toSend = []
    · rw [(blockFinished_of_last (LineRec.closes_iff.mpr ⟨htold, hlast⟩)).frame, hand_withMail]
      rfl
    · rw [blockFinished_of_more htold hlast]
      rfl

theorem BlockStep.outBlocks {ends : Bool} {n : Line} {s t : State} (h : BlockStep ends n s t) {m : Line} (hm : m ≠ n) :
    Tab.get? t.sli.outBlocks m.val = Tab.get? s.sli.outBlocks m.val := by
  obtain ⟨o, ho, rfl⟩ := h
  cases ends with
  | true =>
    rw [if_pos rfl, blockFinished_outBlocks]
    exact ho m hm
  | false => exact ho m hm

theorem BlockStep.blocksEnd {ends : Bool} {n : Line} {s t : State} (h : BlockStep ends n s t) :
    BlocksEnd (if ends then [n] else []) s t := by
  obtain ⟨o, -, rfl⟩ := h
  cases ends with
  | true => exact blocksEnd_one n s o
  | false => exact blocksEnd_nil o

/-- The blocks of a list of lines that end in turn, where `ends` reads each line's own block alone. -/
theorem blocksEnd_foldl {f : State → Line → State} {ends : State → Line → Bool}
    (hstep : ∀ s n, BlockStep (ends s n) n s (f s n))
    (hends : ∀ {s t : State} {m n : Line}, BlockStep (ends s n) n s t → m ≠ n → ends t m = ends s m)
    {ns : List Line} (hnodup : ns.Nodup) (s : State) : BlocksEnd (ns.filter (ends s)) s (ns.foldl f s) := by
  induction ns generalizing s with
  | nil => exact blocksEnd_nil s.sli.outBlocks
  | cons n ns ih =>
    obtain ⟨hn, hrest⟩ := List.nodup_cons.mp hnodup
    have hfilter : ns.filter (ends (f s n)) = ns.filter (ends s) :=
      List.filter_congr fun m hm => hends (hstep s n) (ne_of_mem_of_not_mem hm hn)
    have hlater := ih hrest (f s n)
    have hfirst := (hstep s n).blocksEnd
    rw [hfilter] at hlater
    rw [List.foldl_cons]
    cases he : ends s n with
    | true =>
      rw [he, if_pos rfl] at hfirst
      rw [List.filter_cons_of_pos he]
      exact hfirst.cons (fun hc => hn (List.mem_of_mem_filter hc)) hlater
    | false =>
      rw [he] at hfirst
      rw [List.filter_cons_of_neg (by simp [he])]
      exact hfirst.after_none hlater

end Sys2Proof.Machine
end

section
/-! PROOFS. What the part does as the link goes down: the blocks given up, the lines that become UNAVAILABLE, the grace and
LINK_STATE (R111, R117, R119, R124, R143); with it LINK_RESYNC, CLEAR_LINK_COUNTERS and SET_LINE_PLAN (R109, R115, R123). -/

namespace Sys2Proof.Machine

set_option Elab.async false

/-! ## The link status record (R116) -/

theorem State.linkStatusBytes_length (s : State) : s.linkStatusBytes.length = 24 := by
  unfold State.linkStatusBytes
  simp only [List.length_append, u8_length, zeros_length, le_length]

/-- The write of the link status record changes nothing else. -/
theorem writeLinkStatus_frame (s : State) :
    writeLinkStatus s = { s with dram := (writeLinkStatus s).dram }
      ∧ unchangedOutside [(s.por 0x40, 24)] s.dram (writeLinkStatus s).dram := by
  unfold writeLinkStatus
  split
  · exact ⟨rfl, unchangedOutside_refl _ _⟩
  · exact ⟨rfl, unchangedOutside_store s.linkStatusBytes_length.le⟩

theorem writeLinkStatus_bytes {s : State} (h : s.rgw.state ≠ .pass) :
    Mem.bytes (writeLinkStatus s).dram (s.por 0x40) 24 = s.linkStatusBytes := by
  have hbytes := Mem.bytes_write_self s.dram (s.por 0x40) s.linkStatusBytes
  rw [State.linkStatusBytes_length] at hbytes
  rw [writeLinkStatus, if_neg h]
  exact hbytes

/-! ## Lines changed in turn -/

/-- `t` is `s` with the records of lines changed by `r`, those of the list `ns`. -/
structure LinesChange (ns : List Line) (r : LineRec → LineRec) (s t : State) : Prop where
  frame : t = { s with lne := { s.lne with lines := t.lne.lines }, dram := t.dram }
  line : ∀ n, t.line n = if n ∈ ns then r (s.line n) else s.line n
  dram : unchangedOutside (ns.map s.lineSpan) s.dram t.dram

theorem SetsLine.linesChange {n : Line} {r : LineRec → LineRec} {s t : State} (h : SetsLine n (r (s.line n)) s t) :
    LinesChange [n] r s t := by
  refine ⟨h.frame, fun m => ?_, h.dram⟩
  by_cases hm : m = n
  · rw [if_pos (by simp [hm]), hm, h.line_self]
  · rw [if_neg (by simp [hm]), h.line_of_ne hm]

theorem linesChange_foldl {r : LineRec → LineRec} {f : State → Line → State}
    (hstep : ∀ s n, LinesChange [n] r s (f s n)) {ns : List Line} (hnodup : ns.Nodup) (s : State) :
    LinesChange ns r s (ns.foldl f s) := by
  induction ns generalizing s with
  | nil => exact ⟨rfl, fun _ => rfl, unchangedOutside_refl _ _⟩
  | cons n ns ih =>
    obtain ⟨hn, hrest⟩ := List.nodup_cons.mp hnodup
    have hfirst := hstep s n
    have hlater := ih hrest (f s n)
    refine ⟨?_, fun m => ?_, ?_⟩
    · have e := hlater.frame
      rw [List.foldl_cons]
      generalize ns.foldl f (f s n) = u at e ⊢
      rw [hfirst.frame] at e
      exact e
    · rw [List.foldl_cons, hlater.line, hfirst.line]
      by_cases hm : m ∈ ns
      · have hne : m ≠ n := ne_of_mem_of_not_mem hm hn
        simp [hm, hne]
      · simp [hm]
    · have hspan (m : Line) : (f s n).lineSpan m = s.lineSpan m := by rw [hfirst.frame]; rfl
      have hd := hfirst.dram.trans hlater.dram
      rw [List.map_congr_left fun m _ => hspan m] at hd
      exact hd

theorem allLines_nodup : allLines.Nodup := List.nodup_finRange 8

theorem mem_allLines (n : Line) : n ∈ allLines := List.mem_finRange n

/-! ## Sending stops (R112, R117, R119) -/

/-- The lines whose announced blocks a stop of the sending drops. -/
def State.cutLines (s : State) : List Line :=
  allLines.filter fun n => (Tab.get? s.sli.outBlocks n.val).any OutBlock.announced

/-- The state in which a message starts over and the announced blocks are gone. -/
def State.cutSending (s : State) : State :=
  { s with sli := { s.sli with txPos := 0, outBlocks := s.sli.outBlocks.filter fun e => !e.2.announced } }

theorem suspendSending_eq (s : State) :
    suspendSending s = s.cutLines.foldl (fun t n => blockFinished n t) s.cutSending := rfl

theorem suspendSending_blocksEnd (s : State) : BlocksEnd s.cutLines s.cutSending (suspendSending s) := by
  have hends := blocksEnd_foldl (f := fun t n => blockFinished n t) (ends := fun _ _ => true)
    (fun t n => ⟨t.sli.outBlocks, fun _ _ => rfl, rfl⟩) (fun _ _ => rfl)
    (allLines_nodup.filter fun n => (Tab.get? s.sli.outBlocks n.val).any OutBlock.announced) s.cutSending
  rw [List.filter_true] at hends
  exact hends

theorem suspendSending_outBlocks (s : State) :
    (suspendSending s).sli.outBlocks = s.sli.outBlocks.filter fun e => !e.2.announced := by
  have hkept (ns : List Line) (t : State) : (ns.foldl (fun t n => blockFinished n t) t).sli.outBlocks = t.sli.outBlocks := by
    induction ns generalizing t with
    | nil => rfl
    | cons n ns ih => rw [List.foldl_cons, ih, blockFinished_outBlocks]
  rw [suspendSending_eq, hkept]
  rfl

/-- A stop of the sending leaves a line that does not send as it is, and one that sends in session. -/
theorem suspendSending_line (s : State) (n : Line) :
    ((s.line n).state ≠ .sending → (suspendSending s).line n = s.line n)
      ∧ ((suspendSending s).line n).state.inSession = (s.line n).state.inSession
      ∧ (((suspendSending s).line n).state = .idle ↔ (s.line n).state = .idle) := by
  have hline := (suspendSending_blocksEnd s).line n
  have hkept : s.cutSending.line n = s.line n := rfl
  cases htold : (s.line n).told with
  | false =>
    have hdone : s.cutSending.blockDone n = s.line n := by
      have hcloses : (s.cutSending.line n).closes = false := by rw [LineRec.closes, hkept, htold]; rfl
      rw [State.blockDone, hcloses, hkept, htold]
      rfl
    rw [hdone, hkept, ite_self] at hline
    rw [hline]
    exact ⟨fun _ => rfl, rfl, Iff.rfl⟩
  | true =>
    obtain ⟨hst, -⟩ := LineRec.told_iff.mp htold
    refine ⟨fun h => absurd hst h, ?_⟩
    have hstate : ((suspendSending s).line n).state = .partialWait ∨ ((suspendSending s).line n).state = .sending := by
      rw [hline]
      split
      · unfold State.blockDone
        split
        · exact .inl rfl
        · rw [hkept, if_pos htold]
          exact .inr hst
      · exact .inr hst
    rw [hst]
    obtain h | h := hstate <;> rw [h] <;> simp [LineState.inSession]

/-- With no block announced a stop of the sending drops nothing. -/
theorem suspendSending_of_none {s : State} (h : ∀ e ∈ s.sli.outBlocks, e.2.announced = false) :
    suspendSending s = { s with sli := { s.sli with txPos := 0 } } := by
  have hcut : s.cutLines = [] := by
    refine List.filter_eq_nil_iff.mpr fun n _ hn => ?_
    obtain ⟨b, hb, hannounced⟩ := (Option.any_eq_true _ _).mp hn
    rw [h _ (Tab.mem_of_get? hb)] at hannounced
    cases hannounced
  have hkept : (s.sli.outBlocks.filter fun e => !e.2.announced) = s.sli.outBlocks :=
    List.filter_eq_self.mpr fun e he => by rw [h e he]; rfl
  rw [suspendSending_eq, hcut, List.foldl_nil, State.cutSending, hkept]

/-! ## The lines as the link goes down (R124, R143) -/

/-- The record of a line that the part can no longer call or answer on. -/
def LineRec.offHook (r : LineRec) : LineRec := if r.state = .idle then { r with state := .unavailable } else r

/-- An idle line becomes UNAVAILABLE; any other stays as it is. -/
theorem linesChange_offHook (s : State) (n : Line) :
    LinesChange [n] LineRec.offHook s
      (if (s.line n).state = .idle then modifyLine n (fun r => { r with state := .unavailable }) s else s) := by
  split
  · rename_i hidle
    refine SetsLine.linesChange ?_
    rw [LineRec.offHook, if_pos hidle]
    exact setsLine_modifyLine n _ s
  · rename_i hidle
    refine ⟨rfl, fun m => ?_, unchangedOutside_refl _ _⟩
    split
    · rename_i hm
      rw [List.mem_singleton.mp hm, LineRec.offHook, if_neg hidle]
    · rfl

theorem LineRec.offHook_inSession (r : LineRec) : r.offHook.state.inSession = r.state.inSession := by
  unfold LineRec.offHook
  split
  · rename_i hidle
    rw [hidle]
    rfl
  · rfl

theorem State.sessionLines_eq_nil_iff (s : State) :
    s.sessionLines = [] ↔ (allLines.any fun n => (s.line n).state.inSession) = false := by
  rw [State.sessionLines, List.filter_eq_nil_iff, List.any_eq_false]

/-- The LNE as the link goes down. -/
theorem lneLinkDown_spec (s : State) :
    lneLinkDown s = { s with
        lne := { s.lne with
          lines := (lneLinkDown s).lne.lines
          grace := if allLines.any fun n => (s.line n).state.inSession then some 20 else s.lne.grace }
        dram := (lneLinkDown s).dram }
      ∧ (∀ n, (lneLinkDown s).line n = (s.line n).offHook)
      ∧ unchangedOutside (allLines.map s.lineSpan) s.dram (lneLinkDown s).dram := by
  have hlines := linesChange_foldl linesChange_offHook allLines_nodup s
  have hsessions : ∀ t : State, (∀ n, t.line n = (s.line n).offHook) →
      (t.sessionLines = [] ↔ (allLines.any fun n => (s.line n).state.inSession) = false) := by
    intro t ht
    rw [State.sessionLines_eq_nil_iff]
    simp only [ht, LineRec.offHook_inSession]
  unfold lneLinkDown
  generalize allLines.foldl _ s = t at hlines ⊢
  have hline (n : Line) : t.line n = (s.line n).offHook := by rw [hlines.line, if_pos (mem_allLines n)]
  have hframe := hlines.frame
  by_cases hany : (allLines.any fun n => (s.line n).state.inSession) = false
  · simp only [(hsessions t hline).mpr hany, ↓reduceIte, hany, Bool.false_eq_true]
    exact ⟨hframe, hline, hlines.dram⟩
  · simp only [show ¬ t.sessionLines = [] from fun h => hany ((hsessions t hline).mp h), ↓reduceIte,
      (Bool.eq_true_of_not_eq_false hany)]
    refine ⟨?_, hline, hlines.dram⟩
    generalize hl : t.lne.lines = l at hframe ⊢
    generalize hd : t.dram = d at hframe ⊢
    rw [hframe]

/-! ## The link goes down (R111) -/

/-- What the receiver drops as the link goes down. -/
def State.linkCut (s : State) : State :=
  { s with
    sli := { s.sli with
      asm := .gap, asmLen := 0, asmBytes := [], asmFailed := false, items := [], mfEndDue := false, shelfHold := 0,
      farEndDue := true, lastChange := s.chg.seconds,
      inLines := s.sli.inLines.map fun e => (e.1, { e.2 with opened := none, complete := false }) } }

/-- The state of the part as LINK_STATE is posted for a link that has gone down. -/
def State.linkLost (s : State) : State := lneLinkDown (suspendSending s.linkCut)

theorem linkDown_eq (s : State) : linkDown s = writeLinkStatus (postLinkState s.linkLost) := rfl

/-- What has changed by then. -/
theorem State.linkLost_frame (s : State) :
    s.linkLost = { s with
      sli := { s.linkCut.sli with
        txPos := 0, outBlocks := s.sli.outBlocks.filter (fun e => !e.2.announced), queue := s.linkLost.sli.queue,
        handings := s.linkLost.sli.handings }
      lne := { s.lne with
        lines := s.linkLost.lne.lines
        grace := if allLines.any fun n => (s.line n).state.inSession then some 20 else s.lne.grace }
      dram := s.linkLost.dram } := by
  have hdown := (lneLinkDown_spec (suspendSending s.linkCut)).1
  have hsend := (suspendSending_blocksEnd s.linkCut).frame
  have hblocks := suspendSending_outBlocks s.linkCut
  have hsessions : (allLines.any fun n => ((suspendSending s.linkCut).line n).state.inSession)
      = allLines.any fun n => (s.line n).state.inSession :=
    congrArg _ (funext fun n => (suspendSending_line s.linkCut n).2.1)
  unfold State.linkLost
  rw [hsessions] at hdown
  generalize lneLinkDown (suspendSending s.linkCut) = v at hdown ⊢
  generalize suspendSending s.linkCut = t at hdown hsend hblocks
  rw [hblocks] at hsend
  rw [hsend] at hdown
  rw [hdown]
  rfl

theorem State.linkLost_sli (s : State) :
    s.linkLost.sli = { s.linkCut.sli with
      txPos := 0, outBlocks := s.sli.outBlocks.filter (fun e => !e.2.announced), queue := s.linkLost.sli.queue,
      handings := s.linkLost.sli.handings } := by
  have h := s.linkLost_frame
  generalize s.linkLost = v at h ⊢
  exact congrArg State.sli h

theorem State.linkLost_grace (s : State) :
    s.linkLost.lne.grace = if allLines.any fun n => (s.line n).state.inSession then some 20 else s.lne.grace := by
  have h := s.linkLost_frame
  generalize s.linkLost = v at h ⊢
  exact congrArg (fun t : State => t.lne.grace) h

theorem State.linkLost_linkUp (s : State) : s.linkLost.linkUp = s.linkUp := by
  rw [State.linkUp, s.linkLost_sli]
  rfl

/-- An idle line is UNAVAILABLE then, and no other but a sending one has changed. -/
theorem State.linkLost_line (s : State) (n : Line) :
    ((s.line n).state = .idle → s.linkLost.line n = { s.line n with state := .unavailable })
      ∧ ((s.line n).state ≠ .idle → (s.line n).state ≠ .sending → s.linkLost.line n = s.line n) := by
  have hdown : s.linkLost.line n = _ := (lneLinkDown_spec (suspendSending s.linkCut)).2.1 n
  obtain ⟨hkept, -, -⟩ := suspendSending_line s.linkCut n
  have hcut : s.linkCut.line n = s.line n := rfl
  rw [hcut] at hkept
  refine ⟨fun h => ?_, fun h hs => ?_⟩
  · rw [hdown, hkept (by simp [h]), LineRec.offHook, if_pos h]
  · rw [hdown, hkept hs, LineRec.offHook, if_neg h]

/-- With no block announced the mail and the sending lines are as they were, and only session records have changed in DRAM. -/
theorem State.linkLost_quiet {s : State} (h : ∀ e ∈ s.sli.outBlocks, e.2.announced = false) :
    s.linkLost.sli.queue = s.sli.queue ∧ s.linkLost.sli.handings = s.sli.handings
      ∧ (∀ n, (s.line n).state = .sending → s.linkLost.line n = s.line n)
      ∧ unchangedOutside (allLines.map s.lineSpan) s.dram s.linkLost.dram := by
  obtain ⟨hframe, hline, hdram⟩ := lneLinkDown_spec (suspendSending s.linkCut)
  have hlost : lneLinkDown (suspendSending s.linkCut) = s.linkLost := rfl
  rw [suspendSending_of_none (s := s.linkCut) h] at hframe hline hdram hlost
  rw [hlost] at hframe hline hdram
  refine ⟨by rw [hframe]; rfl, by rw [hframe]; rfl, fun n hs => (hline n).trans ?_, hdram⟩
  exact if_neg fun hidle => LineState.noConfusion (hidle.symm.trans hs)

theorem State.linkLost_inLine (s : State) (k : Nat) : (s.linkLost.inLine k).opened = none ∧ (s.linkLost.inLine k).complete = false := by
  have hin : s.linkLost.inLine k = { s.inLine k with opened := none, complete := false } := by
    rw [s.linkLost_frame]
    exact Tab.getD_map (fun l : InLine => { l with opened := none, complete := false }) rfl s.sli.inLines k
  rw [hin]
  exact ⟨rfl, rfl⟩

/-- LINK_STATE tells that the link is down. -/
theorem State.postLinkState_linkLost {s : State} (h : s.linkUp = false) :
    postLinkState s.linkLost = post .linkState .link 0 0 s.sli.losses s.linkLost := by
  have hlosses : s.linkLost.sli.losses = s.sli.losses := by rw [s.linkLost_sli]; rfl
  rw [postLinkState, s.linkLost_linkUp, h, hlosses]
  rfl

/-- What follows the link's loss tells it and leaves the receiver as it then is. -/
theorem linkDown_of_down {s : State} (h : s.linkUp = false) :
    linkDown s = writeLinkStatus (post .linkState .link 0 0 s.sli.losses s.linkLost)
      ∧ (linkDown s).sli = s.linkLost.sli := by
  obtain ⟨c, m, hpost, -⟩ := post_frame .linkState .link 0 0 s.sli.losses s.linkLost
  have heq : linkDown s = writeLinkStatus (post .linkState .link 0 0 s.sli.losses s.linkLost) := by
    rw [linkDown_eq, State.postLinkState_linkLost h]
  refine ⟨heq, ?_⟩
  rw [heq, (writeLinkStatus_frame _).1, hpost]

end Sys2Proof.Machine
end

section
/-! PROOFS. LINK_RESYNC, CLEAR_LINK_COUNTERS and SET_LINE_PLAN (R109, R115, R123). -/

namespace Sys2Proof.Machine

set_option Elab.async false

/-! ## Frame synchronisation lost (R107, R109) -/

/-- The receiver as frame synchronisation is lost, before what follows for the link. -/
def State.frameLost (st : FrameState) (s : State) : State :=
  { s with
    sli := { s.sli with
      losses := min (s.sli.losses + 1) 65535, alignRun := 0, serviceRun := 0, rxAlarm := false, frame := st,
      searchFrom := none, syncIn := none, mf := .mfSearch, mfTimer := 0, evenMarks := [], markMissed := false } }

theorem frameLoss_of_up {st : FrameState} {s : State} (h : s.linkUp = true) : frameLoss st s = linkDown (s.frameLost st) := by
  simp only [frameLoss, h, ↓reduceIte]
  rfl

theorem frameLoss_of_down {st : FrameState} {s : State} (h : s.linkUp = false) :
    frameLoss st s = writeLinkStatus (s.frameLost st) := by
  simp only [frameLoss, h, Bool.false_eq_true, ↓reduceIte]
  rfl

/-- There is a link only in SYNC with multiframe synchronisation. -/
theorem State.linkUp_iff {s : State} : s.linkUp = true ↔ s.sli.frame = .sync ∧ s.sli.mf = .mfSync := by
  simp [State.linkUp]

theorem State.linkUp_of_search {s : State} (h : s.sli.mf = .mfSearch) : s.linkUp = false := by
  rw [Bool.eq_false_iff, Ne, State.linkUp_iff, h]
  exact fun hc => MfState.noConfusion hc.2

/-! ## Fields of the link status record (Table 11-6) -/

/-- The loss counter's bytes in the record. -/
theorem writeLinkStatus_losses {s : State} (h : s.rgw.state ≠ .pass) :
    Mem.num (writeLinkStatus s).dram (s.por 0x52) 2 = s.sli.losses % 65536 := by
  rw [writeLinkStatus, if_neg h]
  obtain ⟨pre, hlen, hbytes⟩ : ∃ pre : List Byte, pre.length = 18
      ∧ s.linkStatusBytes = pre ++ (le 2 s.sli.losses ++ le 4 s.sli.lastChange) := by
    refine ⟨_, ?_, List.append_assoc _ _ _⟩
    simp only [List.length_append, u8_length, zeros_length, le_length]
  have hnum := Mem.num_write_field s.dram (s.por 0x40) pre (le 4 s.sli.lastChange) 2 s.sli.losses
  rw [hlen, ← hbytes] at hnum
  exact hnum

/-- With every counter at 0 their eight bytes are 0. -/
theorem writeLinkStatus_counters {s : State} (h : s.rgw.state ≠ .pass) (ha : s.sli.alignErrors = 0)
    (hc : s.sli.crcErrors = 0) (hf : s.sli.farEndErrors = 0) (hl : s.sli.losses = 0) :
    Mem.bytes (writeLinkStatus s).dram (s.por 0x4C) 8 = zeros 8 := by
  rw [writeLinkStatus, if_neg h]
  obtain ⟨pre, hlen, hbytes⟩ : ∃ pre : List Byte, pre.length = 12
      ∧ s.linkStatusBytes = pre ++ (zeros 8 ++ le 4 s.sli.lastChange) := by
    have hgroup (p a b c d e : List Byte) : ((((p ++ a) ++ b) ++ c) ++ d) ++ e = p ++ ((a ++ (b ++ (c ++ d))) ++ e) := by
      simp only [List.append_assoc]
    unfold State.linkStatusBytes
    rw [ha, hc, hf, hl]
    refine ⟨_, ?_, hgroup _ (le 2 0) (le 2 0) (le 2 0) (le 2 0) _⟩
    simp only [List.length_append, u8_length, zeros_length]
  have hfield := Mem.bytes_write_field s.dram (s.por 0x40) pre (zeros 8) (le 4 s.sli.lastChange)
  rw [hlen, zeros_length, ← hbytes] at hfield
  exact hfield

/-! ## The line plan (R123) -/

/-- A plan word whose codes are in their sets. -/
def Slot.GoodPlan (sl : Slot) (n : Nat) : Prop :=
  sl.field n 0 4 ≤ 3 ∧ sl.field n 4 4 ≤ 4 ∧ ∀ i, i < sl.field n 4 4 → sl.field n (8 + 4 * i) 4 ≤ 9

/-- The prefix digits of a plan word. -/
def Slot.planDigits (sl : Slot) (n : Nat) : List Nat := (List.range (sl.field n 4 4)).map fun i => sl.field n (8 + 4 * i) 4

theorem lineUseOf_isSome_iff (c : Nat) : (lineUseOf c).isSome = true ↔ c ≤ 3 := by
  match c with
  | 0 | 1 | 2 | 3 => exact ⟨fun _ => by decide, fun _ => rfl⟩
  | c + 4 => exact ⟨fun h => (Bool.false_ne_true h).elim, fun h => by omega⟩

theorem lineUseOf_code {c : Nat} {u : LineUse} (h : lineUseOf c = some u) : u.code = c := by
  unfold lineUseOf at h
  split at h <;> cases h <;> rfl

theorem planOf_of_good {sl : Slot} {n : Nat} (h : sl.GoodPlan n) :
    ∃ p, planOf sl n = some p ∧ p.use.code = sl.field n 0 4 ∧ p.outside = sl.planDigits n := by
  obtain ⟨huse, hcount, hdigits⟩ := h
  obtain ⟨u, hu⟩ := Option.isSome_iff_exists.mp ((lineUseOf_isSome_iff _).mpr huse)
  have hany : ((sl.planDigits n).any fun d => decide (9 < d)) = false := by
    simp only [Slot.planDigits, List.any_map, List.any_eq_false, List.mem_range, Function.comp_apply, decide_eq_true_eq,
      not_lt]
    exact hdigits
  refine ⟨{ use := u, outside := sl.planDigits n }, ?_, lineUseOf_code hu, rfl⟩
  simp only [planOf, hu]
  refine if_neg fun hc => ?_
  obtain hc | hc := hc
  · omega
  · exact Bool.false_ne_true (hany.symm.trans hc)

theorem planOf_of_bad {sl : Slot} {n : Nat} (h : ¬sl.GoodPlan n) : planOf sl n = none := by
  simp only [planOf]
  split
  · rfl
  · rename_i u hu
    refine if_pos ?_
    by_contra hc
    simp only [List.any_map, List.any_eq_true, List.mem_range, Function.comp_apply, decide_eq_true_eq, not_or, not_lt,
      not_exists, not_and] at hc
    exact h ⟨(lineUseOf_isSome_iff _).mp (by rw [hu]; rfl), hc.1, hc.2⟩

/-- With good words alone each line gets the plan of its word. -/
theorem plansFrom_of_good (sl : Slot) (n k : Nat) (h : ∀ i, n ≤ i → i < n + k → sl.GoodPlan i) :
    ∃ t, plansFrom sl n k = .ok t ∧ ∀ i, n ≤ i → i < n + k → Tab.get? t i = planOf sl i := by
  induction k generalizing n with
  | zero => exact ⟨[], rfl, fun i hi hi' => absurd hi' (by omega)⟩
  | succ k ih =>
    obtain ⟨p, hp, -⟩ := planOf_of_good (h n le_rfl (by omega))
    obtain ⟨t, ht, hget⟩ := ih (n + 1) fun i hi hi' => h i (by omega) (by omega)
    refine ⟨(n, p) :: t, by simp only [plansFrom, hp, ht], fun i hi hi' => ?_⟩
    rw [Tab.get?]
    split
    · rename_i he
      rw [← he, hp]
    · exact hget i (by omega) (by omega)

/-- The first wrong word is told. -/
theorem plansFrom_of_bad (sl : Slot) (n k m : Nat) (hm : m < k) (h : ∀ i, n ≤ i → i < n + m → sl.GoodPlan i)
    (hbad : ¬sl.GoodPlan (n + m)) : plansFrom sl n k = .error (n + m) := by
  induction k generalizing n m with
  | zero => omega
  | succ k ih =>
    cases m with
    | zero => simp only [plansFrom, planOf_of_bad (n := n) hbad, Nat.add_zero]
    | succ m =>
      obtain ⟨p, hp, -⟩ := planOf_of_good (h n le_rfl (by omega))
      have hrest := ih (n + 1) m (by omega) (fun i hi hi' => h i (by omega) (by omega))
        (by rwa [show n + 1 + m = n + (m + 1) by omega])
      simp only [plansFrom, hp, hrest, show n + 1 + m = n + (m + 1) by omega]

/-! ## The commands -/

theorem State.notPass_of_readyFor {s : State} {kind need : Nat} (h : s.readyFor kind need = true) : s.rgw.state ≠ .pass := by
  have hrun := State.isRun_of_readyFor h
  intro hpass
  rw [State.isRun, hpass] at hrun
  cases hrun

/-- LINK_RESYNC's work, by the frame state. -/
theorem linkResync_of_sync {sl : Slot} {s : State} (h : s.sli.frame = .sync) :
    linkResync sl s = (frameLoss .hunt s, ⟨.done, .link, 0, s.sli.frame.code⟩) := by
  simp only [linkResync, h]

theorem linkResync_of_other {sl : Slot} {s : State} (h : s.sli.frame ≠ .sync) :
    ∃ u, linkResync sl s = (u, ⟨.done, .link, 0, s.sli.frame.code⟩)
      ∧ u = { s with sli := { s.sli with frame := .hunt, searchFrom := none, syncIn := u.sli.syncIn }, dram := u.dram }
      ∧ unchangedOutside [(s.por 0x40, 24)] s.dram u.dram := by
  cases hframe : s.sli.frame with
  | sync => exact absurd hframe h
  | hunt =>
    refine ⟨{ s with sli := { s.sli with searchFrom := none } }, ?_, ?_, unchangedOutside_refl _ _⟩
    · simp only [linkResync, hframe]
    · rw [← hframe]
  | checkService | checkAlign | holdOff =>
    obtain ⟨e, hd⟩ := writeLinkStatus_frame
      { s with sli := { s.sli with frame := .hunt, searchFrom := none, syncIn := none } }
    refine ⟨_, ?_, ?_, hd⟩
    · simp only [linkResync, hframe]
    · rw [e]

/-- LINK_RESYNC with the link up: the link goes down. -/
theorem linkResync_of_up {sl : Slot} {s : State} (h : s.linkUp = true) :
    linkResync sl s = (linkDown (s.frameLost .hunt), ⟨.done, .link, 0, s.sli.frame.code⟩) := by
  rw [linkResync_of_sync (State.linkUp_iff.mp h).1, frameLoss_of_up h]

/-- LINK_RESYNC in SYNC with the link down: frame synchronisation is lost. -/
theorem linkResync_of_search {sl : Slot} {s : State} (h : s.sli.frame = .sync) (hmf : s.sli.mf = .mfSearch) :
    linkResync sl s = (writeLinkStatus (s.frameLost .hunt), ⟨.done, .link, 0, s.sli.frame.code⟩) := by
  rw [linkResync_of_sync h, frameLoss_of_down (State.linkUp_of_search hmf)]

theorem exec_linkResync_of {s u : State} {r : Reply} (h : s.readyFor 0x31 0 = true)
    (hbody : linkResync s.headSlot s.carry = (u, r)) : exec .linkResync s = .next (s.answered r u) := by
  rw [exec_linkResync, take_of_readyFor h le_rfl, hbody]

/-- SET_LINE_PLAN with good words. -/
theorem setLinePlan_of_good {sl : Slot} {s : State} (h : ∀ n, n < 8 → sl.GoodPlan n) :
    ∃ t : Tab LinePlan, (∀ n : Line, (Tab.getD t n.val LinePlan.default).use.code = sl.field n.val 0 4
        ∧ (Tab.getD t n.val LinePlan.default).outside = sl.planDigits n.val)
      ∧ setLinePlan sl s =
        ({ s with lne := { s.lne with plan := t, ceiling := min 8 (sl.num 8) }, dju := { s.dju with passDue := true } },
          Reply.doneOr (if 8 < sl.num 8 then some 8 else none) .path 0 s.outboundCount) := by
  obtain ⟨t, ht, hget⟩ := plansFrom_of_good sl 0 8 fun i _ hi => h i (by omega)
  refine ⟨t, fun n => ?_, ?_⟩
  · obtain ⟨p, hp, huse, hdigits⟩ := planOf_of_good (h n.val n.isLt)
    rw [Tab.getD, hget n.val (Nat.zero_le _) (by omega), hp]
    exact ⟨huse, hdigits⟩
  · simp only [setLinePlan, ht, clampNat_zero, firstClamped_cons_min]
    rfl

/-- Settles O33: LINK_RESYNC by what the receiver leaves, with what a lost link takes down; the counters; the plan's words. -/
theorem linkAndPlanCommands : Obligations.LinkAndPlanCommands := by
  refine ⟨fun s => ⟨fun h => ?_, fun h => ?_⟩, fun s h => ?_⟩
  · have hnotPass : s.rgw.state ≠ .pass := State.notPass_of_readyFor h
    by_cases hsync : s.sli.frame = .sync
    · cases hmf : s.sli.mf with
      | mfSync =>
        have hup : s.linkUp = true := State.linkUp_iff.mpr ⟨hsync, hmf⟩
        obtain ⟨heq, hsli⟩ := linkDown_of_down (s := s.carry.frameLost .hunt) rfl
        have hlost := (s.carry.frameLost .hunt).linkLost_sli
        refine ⟨_, exec_linkResync_of h (linkResync_of_up hup), by rw [hsli, hlost]; rfl, by rw [hsli, hlost]; rfl,
          fun hc => absurd hsync hc, nofun, fun _ => ⟨(s.carry.frameLost .hunt).linkLost, heq, ?_⟩⟩
        refine ⟨(s.carry.frameLost .hunt).linkLost_linkUp, by rw [hlost]; rfl, by rw [hlost]; rfl, by rw [hlost]; rfl, by rw [hlost]; rfl,
          by rw [hlost]; rfl, by rw [hlost]; rfl, by rw [hlost]; rfl,
          (s.carry.frameLost .hunt).linkLost_inLine, by rw [hlost], by rw [hlost]; rfl,
          fun n => ((s.carry.frameLost .hunt).linkLost_line n).1, fun n => ((s.carry.frameLost .hunt).linkLost_line n).2,
          (s.carry.frameLost .hunt).linkLost_grace, fun hnone => State.linkLost_quiet (s := s.carry.frameLost .hunt) hnone⟩
      | mfSearch =>
        obtain ⟨hframe, hdram⟩ := writeLinkStatus_frame (s.carry.frameLost .hunt)
        refine ⟨_, exec_linkResync_of h (linkResync_of_search hsync hmf), by rw [hframe]; rfl, by rw [hframe]; rfl,
          fun hc => absurd hsync hc, fun _ _ => ⟨?_, ?_, hdram⟩, fun hup => ?_⟩
        · rw [hframe, State.frameLost, ← hmf]
          rfl
        · refine (writeLinkStatus_losses (s := s.carry.frameLost .hunt) hnotPass).trans ?_
          show min (s.sli.losses + 1) 65535 % 65536 = min (s.sli.losses + 1) 65535
          omega
        · rw [State.linkUp_of_search hmf] at hup
          cases hup
    · obtain ⟨u, hbody, hframe, hdram⟩ := linkResync_of_other (sl := s.headSlot) (s := s.carry) hsync
      refine ⟨u, exec_linkResync_of h hbody, by rw [hframe], by rw [hframe], fun _ => ⟨hframe, hdram⟩,
        fun hc => absurd hc hsync, fun hup => ?_⟩
      exact absurd (State.linkUp_iff.mp hup).1 hsync
  · have hnotPass : s.rgw.state ≠ .pass := State.notPass_of_readyFor h
    obtain ⟨hframe, hdram⟩ := writeLinkStatus_frame
      { s.carry with sli := { s.sli with alignErrors := 0, crcErrors := 0, farEndErrors := 0, losses := 0 } }
    refine ⟨_, ?_, hframe, ?_, hdram⟩
    · rw [exec_clearLinkCounters, take_of_readyFor h le_rfl]
      rfl
    · exact writeLinkStatus_counters (s := { s.carry with sli := { s.sli with
        alignErrors := 0, crcErrors := 0, farEndErrors := 0, losses := 0 } }) hnotPass rfl rfl rfl rfl
  · intro sl good
    have plan {u : State} {r : Reply} (hbody : setLinePlan sl s.carry = (u, r)) :
        exec .setLinePlan s = .next (s.answered r u) := by
      rw [exec_setLinePlan, take_of_readyFor h le_rfl, hbody]
    refine ⟨fun hgood => ?_, fun n hn hgood hbad => plan ?_⟩
    · obtain ⟨t, hplans, hbody⟩ := setLinePlan_of_good (s := s.carry) hgood
      exact ⟨_, plan hbody, rfl, hplans⟩
    · have hplans := plansFrom_of_bad sl 0 8 n hn (fun i _ hi => hgood i (by omega)) (by rwa [Nat.zero_add])
      rw [Nat.zero_add] at hplans
      simp only [setLinePlan, hplans]

end Sys2Proof.Machine
end

section
/-! PROOFS. The transmitter: the frame it sends, the message byte and the blocks' bytes in it, and what their last bytes bring
(R104, R114, R117, R119). -/

namespace Sys2Proof.Machine

set_option Elab.async false

/-! ## The message slot (R117) -/

/-- The front message has its last byte in this frame. -/
def State.messageEnds (s : State) : Bool :=
  s.sending && s.sli.queue.head?.any fun m => decide (m.bytes.length ≤ s.sli.txPos + 1)

/-- The line whose block follows the message that ends in this frame. -/
def State.announces (s : State) : Option Nat := if s.messageEnds then s.sli.queue.head?.bind TxMsg.blockOf else none

/-- The blocks once the message slot's byte has gone out. -/
def State.announcedBlocks (s : State) : Tab OutBlock :=
  match s.announces with
  | none => s.sli.outBlocks
  | some n =>
    match Tab.get? s.sli.outBlocks n with
    | none => s.sli.outBlocks
    | some b => Tab.set s.sli.outBlocks n { b with announced := true }

theorem State.messageEnds_iff {s : State} :
    s.messageEnds = true ↔ s.sending = true ∧ ∃ m ms, s.sli.queue = m :: ms ∧ m.bytes.length ≤ s.sli.txPos + 1 := by
  unfold State.messageEnds
  cases hq : s.sli.queue <;> simp

theorem messageSent_of_idle {s : State} (h : s.sli.queue = [] ∨ s.sending = false) : messageSent s = s := by
  unfold messageSent
  split
  · rfl
  · rename_i m ms hq
    obtain h | h := h
    · rw [h] at hq
      cases hq
    · rw [h]
      rfl

theorem messageSent_of_more {s : State} {m : TxMsg} {ms : List TxMsg} (hq : s.sli.queue = m :: ms) (hs : s.sending = true)
    (h : s.sli.txPos + 1 < m.bytes.length) :
    messageSent s = { s with sli := { s.sli with txPos := s.sli.txPos + 1 } } := by
  simp only [messageSent, hq, hs, h, Bool.not_true, Bool.false_eq_true, ↓reduceIte]

theorem messageSent_of_last {s : State} {m : TxMsg} {ms : List TxMsg} (hq : s.sli.queue = m :: ms) (hs : s.sending = true)
    (h : m.bytes.length ≤ s.sli.txPos + 1) :
    messageSent s = { s with sli := { s.sli with txPos := 0, queue := ms, outBlocks := s.announcedBlocks } } := by
  have hends : s.messageEnds = true := State.messageEnds_iff.mpr ⟨hs, m, ms, hq, h⟩
  simp only [messageSent, hq, hs, Nat.not_lt.mpr h, Bool.not_true, Bool.false_eq_true, ↓reduceIte, State.announcedBlocks,
    State.announces, hends, List.head?_cons, Option.bind_some]
  cases m.blockOf with
  | none => rfl
  | some n =>
    show (match Tab.get? s.sli.outBlocks n with | none => _ | some b => _) = _
    cases hb : Tab.get? s.sli.outBlocks n with
    | none => simp only [hb]
    | some b => simp only [hb]

theorem messageSent_eq (s : State) :
    messageSent s = { s with
      sli := { s.sli with
        queue := if s.messageEnds then s.sli.queue.tail else s.sli.queue
        txPos := if s.messageEnds then 0 else if s.sending = true ∧ s.sli.queue ≠ [] then s.sli.txPos + 1 else s.sli.txPos
        outBlocks := s.announcedBlocks } } := by
  have hkept (h : s.messageEnds = false) : s.announcedBlocks = s.sli.outBlocks := by
    rw [State.announcedBlocks, State.announces, h]
    rfl
  cases hends : s.messageEnds with
  | true =>
    obtain ⟨hs, m, ms, hq, hlast⟩ := State.messageEnds_iff.mp hends
    rw [messageSent_of_last hq hs hlast, if_pos rfl, if_pos rfl, hq]
    rfl
  | false =>
    rw [hkept hends, if_neg Bool.false_ne_true, if_neg Bool.false_ne_true]
    by_cases hidle : s.sli.queue = [] ∨ s.sending = false
    · rw [messageSent_of_idle hidle, if_neg]
      rintro ⟨hs, hq⟩
      exact hidle.elim hq fun h => Bool.false_ne_true (h.symm.trans hs)
    · obtain ⟨hq, hs⟩ := not_or.mp hidle
      obtain ⟨m, ms, hqueue⟩ := List.exists_cons_of_ne_nil hq
      have hs : s.sending = true := Bool.eq_true_of_not_eq_false hs
      have hmore : s.sli.txPos + 1 < m.bytes.length := by
        by_contra hc
        rw [State.messageEnds_iff.mpr ⟨hs, m, ms, hqueue, Nat.not_lt.mp hc⟩] at hends
        cases hends
      rw [messageSent_of_more hqueue hs hmore, if_pos ⟨hs, hq⟩]

/-! ## The blocks' bytes (R119) -/

/-- The block of line `n` has its last byte. -/
def State.blockEnds (s : State) (n : Line) : Bool :=
  (Tab.get? s.sli.outBlocks n.val).any fun b => decide (b.bytes.length ≤ b.sent + 1)

theorem Tab.get?_erase_of_ne {α : Type} (t : Tab α) {k j : Nat} (h : j ≠ k) : Tab.get? (Tab.erase t k) j = Tab.get? t j := by
  rw [Tab.get?_erase, if_neg h]

theorem blockStep_blockByteSent (s : State) (n : Line) : BlockStep (s.blockEnds n) n s (blockByteSent s n) := by
  have hval {m : Line} (hm : m ≠ n) : m.val ≠ n.val := fun e => hm (Fin.ext e)
  cases hb : Tab.get? s.sli.outBlocks n.val with
  | none =>
    refine ⟨s.sli.outBlocks, fun _ _ => rfl, ?_⟩
    simp only [blockByteSent, State.blockEnds, hb]
    rfl
  | some b =>
    by_cases hlast : b.sent + 1 < b.bytes.length
    · refine ⟨Tab.set s.sli.outBlocks n.val { b with sent := b.sent + 1 }, fun m hm => Tab.get?_set_of_ne _ _ (hval hm), ?_⟩
      simp only [blockByteSent, State.blockEnds, hb, hlast, ↓reduceIte, Option.any_some, Nat.not_le.mpr hlast]
      rfl
    · refine ⟨Tab.erase s.sli.outBlocks n.val, fun m hm => Tab.get?_erase_of_ne _ (hval hm), ?_⟩
      simp only [blockByteSent, State.blockEnds, hb, hlast, ↓reduceIte, Option.any_some, Nat.not_lt.mp hlast]
      rfl

/-- What the frame's byte leaves of a block. -/
def OutBlock.afterByte (b : OutBlock) : Option OutBlock :=
  if b.bytes.length ≤ b.sent + 1 then none else some { b with sent := b.sent + 1 }

theorem blockByteSent_outBlocks (s : State) (n m : Line) :
    Tab.get? (blockByteSent s n).sli.outBlocks m.val
      = if m = n then (Tab.get? s.sli.outBlocks n.val).bind OutBlock.afterByte else Tab.get? s.sli.outBlocks m.val := by
  by_cases hm : m = n
  · subst hm
    rw [if_pos rfl]
    cases hb : Tab.get? s.sli.outBlocks m.val with
    | none => simp only [blockByteSent, hb, Option.bind_none]
    | some b =>
      by_cases hlast : b.sent + 1 < b.bytes.length
      · simp only [blockByteSent, hb, hlast, ↓reduceIte, Option.bind_some, OutBlock.afterByte, Nat.not_le.mpr hlast,
          Tab.get?_set_self]
      · simp only [blockByteSent, hb, hlast, ↓reduceIte, Option.bind_some, OutBlock.afterByte, Nat.not_lt.mp hlast,
          blockFinished_outBlocks, Tab.get?_erase]
  · rw [if_neg hm, (blockStep_blockByteSent s n).outBlocks hm]

theorem foldl_blockByteSent_outBlocks {ns : List Line} (hnodup : ns.Nodup) (s : State) (m : Line) :
    Tab.get? (ns.foldl blockByteSent s).sli.outBlocks m.val
      = if m ∈ ns then (Tab.get? s.sli.outBlocks m.val).bind OutBlock.afterByte else Tab.get? s.sli.outBlocks m.val := by
  induction ns generalizing s with
  | nil => rfl
  | cons n ns ih =>
    obtain ⟨hn, hrest⟩ := List.nodup_cons.mp hnodup
    rw [List.foldl_cons, ih hrest, blockByteSent_outBlocks]
    by_cases hm : m = n
    · subst hm
      rw [if_neg hn, if_pos rfl, if_pos (List.mem_cons_self ..)]
    · simp only [hm, ↓reduceIte, List.mem_cons, false_or]

/-- The lines whose blocks have bytes in the frame, one after another. -/
theorem blocksEnd_blockByteSent {ns : List Line} (hnodup : ns.Nodup) (s : State) :
    BlocksEnd (ns.filter s.blockEnds) s (ns.foldl blockByteSent s) :=
  blocksEnd_foldl blockStep_blockByteSent
    (fun h hm => by rw [State.blockEnds, State.blockEnds, h.outBlocks hm]) hnodup s

/-! ## The frame (R104, R114) -/

/-- The transmitter's own registers after the frame. -/
def State.txBase (s : State) : Sli :=
  let f := s.sli.txFrameNo
  let crc := crc8 (if f = 0 then 0 else s.sli.txCrc) s.txSlots
  let mark := txMark f s.sli.farEndDue crc
  { s.sli with
    txFrameNo := (f + 1) % 16, txCrc := if f = 15 then 0 else crc8 crc [mark]
    txLast := (if f % 2 = 0 then 0xE4 else serviceByte s.sentAlarm) :: s.txSlots ++ [mark]
    farEndDue := if f = 1 then !s.linkUp else s.sli.farEndDue }

/-- The state before the link status record at the end of a multiframe. -/
def State.frameSent (s : State) : State :=
  (allLines.filter s.sendsByte).foldl blockByteSent (messageSent { s with sli := s.txBase })

theorem txFrame_eq (s : State) :
    txFrame s = if s.sli.txFrameNo = 15 then writeLinkStatus s.frameSent else s.frameSent := rfl

theorem execTxFrame_of_up {s : State} (hup : s.phase = .up) (hrun : s.sli.txRunning = true) :
    exec .txFrame s = .next (txFrame s) := congrArg Host.Outcome.next (if_pos ⟨hup, hrun⟩)

theorem txFrame_of_ne {s : State} (h : s.sli.txFrameNo ≠ 15) : txFrame s = s.frameSent := by
  rw [txFrame_eq, if_neg h]

theorem State.txBase_slot0 (s : State) :
    serviceByte s.sentAlarm = if s.linkUp = true ∧ s.rgw.state ≠ .pass then 0x3F else 0x7F := by
  unfold State.sentAlarm serviceByte
  cases s.linkUp <;> by_cases hpass : s.rgw.state = .pass <;> simp [hpass]

theorem State.sending_iff {s : State} :
    s.sending = true ↔ s.linkUp = true ∧ s.sli.rxAlarm = false ∧ s.rgw.state ≠ .pass := by
  simp [State.sending, and_assoc]

/-- A block's byte goes out while the part sends, the block is announced and the shelf does not hold it. -/
theorem State.sendsByte_eq (s : State) (n : Line) :
    s.sendsByte n = (s.sending && !s.sli.shelfHold.getLsbD n.val && (Tab.get? s.sli.outBlocks n.val).any fun b => b.announced) := by
  unfold State.sendsByte
  cases Tab.get? s.sli.outBlocks n.val with
  | none => simp
  | some b => cases s.sending <;> cases b.announced <;> simp [Bool.and_comm]

/-- What the announcement leaves of a block. -/
theorem State.get?_announcedBlocks (s : State) (n : Nat) :
    Tab.get? s.announcedBlocks n = (Tab.get? s.sli.outBlocks n).map fun b =>
      if s.announces = some n then { b with announced := true } else b := by
  unfold State.announcedBlocks
  split
  · rename_i h
    simp [h]
  · rename_i k h
    rw [h]
    split
    · rename_i hk
      by_cases hn : k = n
      · rw [← hn, hk]; rfl
      · simp [hn]
    · rename_i b hk
      by_cases hn : k = n
      · subst hn
        simp [hk]
      · rw [Tab.get?_set_of_ne _ _ (Ne.symm hn)]
        simp [hn]

/-- The state whose blocks have bytes in the frame. -/
def State.messageOut (s : State) : State := messageSent { s with sli := s.txBase }

theorem State.messageOut_eq (s : State) :
    s.messageOut = { s with
      sli := { s.txBase with
        queue := if s.messageEnds then s.sli.queue.tail else s.sli.queue
        txPos := if s.messageEnds then 0 else if s.sending = true ∧ s.sli.queue ≠ [] then s.sli.txPos + 1 else s.sli.txPos
        outBlocks := s.announcedBlocks } } := messageSent_eq { s with sli := s.txBase }

theorem State.messageOut_blockEnds (s : State) (n : Line) : s.messageOut.blockEnds n = s.blockEnds n := by
  unfold State.blockEnds
  rw [s.messageOut_eq]
  show (Tab.get? s.announcedBlocks n.val).any _ = _
  rw [s.get?_announcedBlocks]
  cases Tab.get? s.sli.outBlocks n.val with
  | none => rfl
  | some b =>
    simp only [Option.map_some, Option.any_some]
    split <;> rfl

/-- The lines whose blocks end with this frame. -/
def State.endingLines (s : State) : List Line := (allLines.filter s.sendsByte).filter s.blockEnds

theorem State.mem_endingLines {s : State} {n : Line} : n ∈ s.endingLines ↔ s.sendsByte n = true ∧ s.blockEnds n = true := by
  rw [State.endingLines, List.mem_filter, List.mem_filter]
  simp [mem_allLines]

theorem State.frameSent_blocksEnd (s : State) : BlocksEnd s.endingLines s.messageOut s.frameSent := by
  have h := blocksEnd_blockByteSent (allLines_nodup.filter s.sendsByte) s.messageOut
  rw [funext s.messageOut_blockEnds] at h
  exact h

theorem State.messageOut_line (s : State) (n : Line) :
    s.messageOut.line n = s.line n ∧ s.messageOut.blockDone n = s.blockDone n
      ∧ s.messageOut.partialEnd n = s.partialEnd n := by
  rw [s.messageOut_eq]
  exact ⟨rfl, rfl, rfl⟩

/-- The blocks after the frame. -/
theorem State.frameSent_outBlocks (s : State) (n : Line) :
    Tab.get? s.frameSent.sli.outBlocks n.val = (Tab.get? s.sli.outBlocks n.val).bind fun b =>
      if s.sendsByte n && s.blockEnds n then none
      else if s.sendsByte n then some { b with sent := b.sent + 1 }
      else if s.announces = some n.val then some { b with announced := true }
      else some b := by
  have hblocks : Tab.get? s.messageOut.sli.outBlocks n.val = _ :=
    (congrArg (fun t : State => Tab.get? t.sli.outBlocks n.val) s.messageOut_eq).trans (s.get?_announcedBlocks n.val)
  have hout : Tab.get? s.frameSent.sli.outBlocks n.val = _ :=
    foldl_blockByteSent_outBlocks (allLines_nodup.filter s.sendsByte) s.messageOut n
  have hmem : n ∈ allLines.filter s.sendsByte ↔ s.sendsByte n = true := by simp [List.mem_filter, mem_allLines]
  rw [hout, hblocks, if_congr hmem rfl rfl]
  cases hb : Tab.get? s.sli.outBlocks n.val with
  | none => simp
  | some b =>
    simp only [Option.map_some, Option.bind_some]
    cases hsends : s.sendsByte n with
    | false => simp only [Bool.false_and, Bool.false_eq_true, ↓reduceIte]; split <;> rfl
    | true =>
      have hann : b.announced = true := by
        rw [State.sendsByte_eq, hb] at hsends
        simp only [Bool.and_eq_true, Option.any_some] at hsends
        exact hsends.2
      have hsame : (if s.announces = some n.val then { b with announced := true } else b) = b := by
        split
        · rw [← hann]
        · rfl
      simp only [hsame, ↓reduceIte, Bool.true_and, OutBlock.afterByte, State.blockEnds, hb, Option.any_some, decide_eq_true_eq]

end Sys2Proof.Machine
end

section
/-! PROOFS. What a frame of the transmitter does as a whole, and what its slots carry (R104, R117, R119). -/

namespace Sys2Proof.Machine

set_option Elab.async false

/-! ## Maps of lines (11.7) -/

theorem lineMap_eq (p : Line → Bool) : lineMap p = BitVec.ofNat 8 (Nat.ofBits p) := by
  have hbit (b : Bool) (k : Nat) : (if b then 2 ^ k else 0) = 2 ^ k * b.toNat := by cases b <;> simp
  have hsum : (allLines.map fun n => if p n then 2 ^ n.val else 0).sum = Nat.ofBits p := by
    simp only [hbit]
    simp [allLines, List.finRange, Nat.ofBits, Fin.foldr, Fin.foldr.loop]
    omega
  rw [lineMap, hsum]

theorem lineMap_getLsbD (p : Line → Bool) (n : Line) : (lineMap p).getLsbD n.val = p n := by
  rw [lineMap_eq, BitVec.getLsbD_ofNat, Nat.testBit_ofBits_lt _ _ n.isLt]
  simp [n.isLt]

/-! ## The slots (R104) -/

theorem State.txSlots_length (s : State) : s.txSlots.length = 11 := rfl

/-- A line's data slot. -/
theorem State.txSlots_data (s : State) (n : Line) : s.txSlots[n.val]? = some (s.dataSlot n) := by
  fin_cases n <;> rfl

theorem State.dataSlot_of_sends {s : State} {n : Line} {b : OutBlock} (hb : Tab.get? s.sli.outBlocks n.val = some b)
    (h : s.sendsByte n = true) : s.dataSlot n = b.bytes.getD b.sent 0 := by
  simp only [State.dataSlot, hb, h, ↓reduceIte]

theorem State.dataSlot_of_still {s : State} {n : Line} (h : s.sendsByte n = false) : s.dataSlot n = 0 := by
  simp only [State.dataSlot, h]
  split <;> rfl

theorem State.sendsByte_iff {s : State} {n : Line} :
    s.sendsByte n = true ↔ ∃ b, Tab.get? s.sli.outBlocks n.val = some b
      ∧ ((s.linkUp = true ∧ s.sli.rxAlarm = false ∧ s.rgw.state ≠ .pass) ∧ b.announced = true
        ∧ s.sli.shelfHold.getLsbD n.val = false) := by
  rw [State.sendsByte_eq]
  simp only [Bool.and_eq_true, State.sending_iff, Bool.not_eq_true', Option.any_eq_true]
  constructor
  · rintro ⟨⟨hsends, hhold⟩, b, hb, hann⟩
    exact ⟨b, hb, hsends, hann, hhold⟩
  · rintro ⟨b, hb, hsends, hann, hhold⟩
    exact ⟨⟨hsends, hhold⟩, b, hb, hann⟩

/-! ## The mail after the frame -/

/-- Messages handed in turn join the mail in turn. -/
theorem foldl_hand_mail (ns : List Line) (k : Line → TxKind) (v : State) :
    (ns.foldl (fun v n => hand n (k n) v) v).mail = ns.foldl (fun q n => joinMail ((k n).msg n) q) v.mail := by
  induction ns generalizing v with
  | nil => rfl
  | cons n ns ih => rw [List.foldl_cons, ih, hand_withMail, State.mail_withMail, List.foldl_cons]

/-- The lines that hand PARTIAL_END with this frame. -/
def State.closingLines (s : State) : List Line :=
  allLines.filter fun n => ((s.sendsByte n && s.blockEnds n) && ((s.line n).state == .sending) && (s.line n).inFlight)
    && (s.line n).toSend == []

theorem State.closingLines_eq (s : State) : s.closingLines = s.endingLines.filter fun n => (s.line n).closes := by
  unfold State.closingLines State.endingLines LineRec.closes LineRec.told
  rw [List.filter_filter, List.filter_filter]
  refine List.filter_congr fun n _ => ?_
  cases s.sendsByte n <;> cases s.blockEnds n <;> simp [Bool.and_assoc]

theorem State.frameSent_mail (s : State) :
    s.frameSent.mail = s.closingLines.foldl (fun q n => joinMail ((s.partialEnd n).msg n) q)
      (if s.messageEnds then s.sli.queue.tail else s.sli.queue, s.sli.handings) := by
  have hmail : s.messageOut.mail = (if s.messageEnds then s.sli.queue.tail else s.sli.queue, s.sli.handings) := by
    rw [s.messageOut_eq]
    rfl
  rw [s.frameSent_blocksEnd.mail, hmail, State.closingLines_eq, List.foldl_filter]
  refine List.foldl_ext _ _ _ fun q n _ => ?_
  rw [State.mailDone, (s.messageOut_line n).1, (s.messageOut_line n).2.2]

/-- The frame before the link status record: everything but lines, blocks, mail and session records is as the transmitter's
registers say. -/
theorem State.frameSent_frame (s : State) :
    s.frameSent = { s with
      lne := { s.lne with lines := s.frameSent.lne.lines }
      dram := s.frameSent.dram
      sli := { s.txBase with
        outBlocks := s.frameSent.sli.outBlocks, queue := s.frameSent.mail.1, handings := s.frameSent.mail.2
        txPos := if s.messageEnds then 0
          else if s.sending = true ∧ s.sli.queue ≠ [] then s.sli.txPos + 1 else s.sli.txPos } } := by
  have h := s.frameSent_blocksEnd.frame
  generalize s.frameSent = v at h ⊢
  rw [s.messageOut_eq] at h
  exact h

theorem State.frameSent_dram (s : State) :
    unchangedOutside (s.closingLines.map s.lineSpan) s.dram s.frameSent.dram := by
  have h := s.frameSent_blocksEnd.dram
  have hspan (n : Line) : s.messageOut.lineSpan n = s.lineSpan n := by rw [s.messageOut_eq]; rfl
  have hdram : s.messageOut.dram = s.dram := by rw [s.messageOut_eq]
  have hcloses : (s.endingLines.filter fun n => (s.messageOut.line n).closes) = s.closingLines := by
    rw [State.closingLines_eq]
    exact List.filter_congr fun n _ => by rw [(s.messageOut_line n).1]
  rw [hcloses, hdram, List.map_congr_left fun n _ => hspan n] at h
  exact h

theorem State.frameSent_line (s : State) (n : Line) :
    s.frameSent.line n = if s.sendsByte n && s.blockEnds n then s.blockDone n else s.line n := by
  rw [s.frameSent_blocksEnd.line, (s.messageOut_line n).1, (s.messageOut_line n).2.1]
  simp only [State.mem_endingLines, Bool.and_eq_true]

/-- The link status record at the end of a multiframe changes DRAM alone. -/
theorem txFrame_frame (s : State) :
    txFrame s = { s.frameSent with dram := (txFrame s).dram }
      ∧ (s.sli.txFrameNo = 15 → s.rgw.state ≠ .pass → Mem.bytes (txFrame s).dram (s.por 0x40) 24 = (txFrame s).linkStatusBytes)
      ∧ unchangedOutside (if s.sli.txFrameNo = 15 then [(s.por 0x40, 24)] else []) s.frameSent.dram (txFrame s).dram := by
  have hrgw : s.frameSent.rgw = s.rgw := by rw [s.frameSent_frame]
  have hpor : s.frameSent.por 0x40 = s.por 0x40 := by rw [s.frameSent_frame]; rfl
  rw [txFrame_eq]
  split
  · obtain ⟨hframe, hdram⟩ := writeLinkStatus_frame s.frameSent
    rw [hpor] at hdram
    refine ⟨hframe, fun _ hpass => ?_, hdram⟩
    have hbytes := writeLinkStatus_bytes (s := s.frameSent) (by rw [hrgw]; exact hpass)
    rw [hpor] at hbytes
    rw [hbytes, hframe]
    rfl
  · rename_i hf
    exact ⟨rfl, fun h => absurd h hf, unchangedOutside_refl _ _⟩

/-- The frame as a whole: `ends` of the lines and blocks, the mail and the registers. -/
theorem txFrame_whole (s : State) :
    txFrame s = { s with
        lne := { s.lne with lines := (txFrame s).lne.lines }
        dram := (txFrame s).dram
        sli := { s.txBase with
          outBlocks := (txFrame s).sli.outBlocks, queue := s.frameSent.mail.1, handings := s.frameSent.mail.2
          txPos := if s.messageEnds then 0
            else if s.sending = true ∧ s.sli.queue ≠ [] then s.sli.txPos + 1 else s.sli.txPos } }
      ∧ (∀ n, (txFrame s).line n = s.frameSent.line n)
      ∧ (txFrame s).sli.outBlocks = s.frameSent.sli.outBlocks
      ∧ unchangedOutside ((if s.sli.txFrameNo = 15 then [(s.por 0x40, 24)] else []) ++ s.closingLines.map s.lineSpan)
          s.dram (txFrame s).dram := by
  obtain ⟨hframe, -, hdram⟩ := txFrame_frame s
  have hsent := s.frameSent_frame
  have hlines := s.frameSent_dram
  generalize s.frameSent = v at hframe hdram hsent hlines ⊢
  generalize txFrame s = u at hframe hdram ⊢
  have hall := hlines.trans hdram
  refine ⟨?_, fun n => by rw [hframe]; rfl, by rw [hframe], hall.mono fun r hr a ha => ⟨r, ?_, ha⟩⟩
  · rw [hframe]
    exact congrArg (fun t : State => { t with dram := u.dram }) hsent
  · rw [List.mem_append] at hr ⊢
    exact hr.symm

/-! ## Frames with little in them -/

/-- With no block nothing but the message slot goes out. -/
theorem State.frameSent_of_noBlocks {s : State} (h : s.sli.outBlocks = []) : s.frameSent = s.messageOut := by
  have hlines : allLines.filter s.sendsByte = [] := by
    refine List.filter_eq_nil_iff.mpr fun n _ hn => ?_
    rw [State.sendsByte_eq, h] at hn
    simp [Tab.get?] at hn
  rw [State.frameSent, hlines]
  rfl

theorem State.announcedBlocks_of_none {s : State} (h : s.announces = none ∨ s.sli.outBlocks = []) :
    s.announcedBlocks = s.sli.outBlocks := by
  unfold State.announcedBlocks
  split
  · rfl
  · rename_i k hk
    split
    · rfl
    · rename_i b hb
      obtain h | h := h
      · rw [h] at hk
        cases hk
      · rw [h] at hb
        cases hb

theorem allLines_filter_eq (n : Line) : allLines.filter (fun m => m == n) = [n] := by
  revert n
  decide

/-- With one block, announced and not held, and no message that block alone has a byte in the frame. -/
theorem State.frameSent_of_oneBlock {s : State} {n : Line} {b : OutBlock} (hq : s.sli.queue = [])
    (hb : s.sli.outBlocks = [(n.val, b)]) (hs : s.sending = true) (hann : b.announced = true)
    (hhold : s.sli.shelfHold.getLsbD n.val = false) :
    s.frameSent = blockByteSent { s with sli := s.txBase } n := by
  have hget (m : Line) : Tab.get? s.sli.outBlocks m.val = if m == n then some b else none := by
    rw [hb, Tab.get?, Tab.get?]
    by_cases hm : m = n
    · simp [hm]
    · have hval : n.val ≠ m.val := fun e => hm (Fin.ext e.symm)
      simp [hm, hval]
  have hsends (m : Line) : s.sendsByte m = (m == n) := by
    rw [State.sendsByte_eq, hget, hs]
    by_cases hm : m = n
    · simp only [hm, hhold, beq_self_eq_true, ↓reduceIte, Option.any_some, hann, Bool.not_false, Bool.and_self]
    · simp [hm]
  have hlines : allLines.filter s.sendsByte = [n] := by rw [funext hsends, allLines_filter_eq]
  rw [State.frameSent, hlines, List.foldl_cons, List.foldl_nil,
    messageSent_of_idle (s := { s with sli := s.txBase }) (.inl hq)]

/-- The registers as the statement writes them. -/
theorem State.txBase_eq (s : State) :
    s.txBase =
      let crc := crc8 (if s.sli.txFrameNo = 0 then 0 else s.sli.txCrc) s.txSlots
      let mark : Byte := if s.sli.txFrameNo = 0 then 0x7E
        else if s.sli.txFrameNo = 1 then (if s.sli.farEndDue then 0xFF else 0x00)
        else if s.sli.txFrameNo = 15 then crc else 0xFF
      { s.sli with
        txFrameNo := (s.sli.txFrameNo + 1) % 16, txCrc := if s.sli.txFrameNo = 15 then 0 else crc8 crc [mark]
        txLast := (if s.sli.txFrameNo % 2 = 0 then 0xE4
          else if s.linkUp = true ∧ s.rgw.state ≠ .pass then 0x3F else 0x7F) :: s.txSlots ++ [mark]
        farEndDue := if s.sli.txFrameNo = 1 then !s.linkUp else s.sli.farEndDue } := by
  rw [State.txBase, State.txBase_slot0]
  rfl

theorem Tab.set_singleton {α : Type} (k : Nat) (v w : α) : Tab.set [(k, v)] k w = [(k, w)] := by
  simp [Tab.set, Tab.below, Tab.from]

theorem Tab.erase_singleton {α : Type} (k : Nat) (v : α) : Tab.erase [(k, v)] k = [] := by
  simp [Tab.erase, Tab.below, Tab.from]

/-- With one message and no block the message slot's byte alone goes out. -/
theorem txFrame_of_message {s : State} {m : TxMsg} {ms : List TxMsg} (hq : s.sli.queue = m :: ms) (hb : s.sli.outBlocks = [])
    (hs : s.sending = true) (hf : s.sli.txFrameNo ≠ 15) :
    txFrame s = { s with sli := { s.txBase with
      queue := if s.sli.txPos + 1 < m.bytes.length then m :: ms else ms
      txPos := if s.sli.txPos + 1 < m.bytes.length then s.sli.txPos + 1 else 0 } } := by
  rw [txFrame_of_ne hf, State.frameSent_of_noBlocks hb, State.messageOut_eq, State.announcedBlocks_of_none (.inr hb)]
  by_cases hlast : s.sli.txPos + 1 < m.bytes.length
  · have hends : s.messageEnds = false := by
      rw [State.messageEnds, hq, hs, List.head?_cons, Option.any_some, Bool.true_and]
      exact decide_eq_false (Nat.not_le.mpr hlast)
    simp only [hends, Bool.false_eq_true, ↓reduceIte, hs, hq, ne_eq, reduceCtorEq, not_false_eq_true, and_self, hlast]
    rfl
  · have hends : s.messageEnds = true := State.messageEnds_iff.mpr ⟨hs, m, ms, hq, Nat.not_lt.mp hlast⟩
    simp only [hends, ↓reduceIte, hq, List.tail_cons, hlast]
    rfl

theorem blockByteSent_of_more {s : State} {n : Line} {b : OutBlock} (hb : Tab.get? s.sli.outBlocks n.val = some b)
    (h : b.sent + 1 < b.bytes.length) :
    blockByteSent s n = { s with sli := { s.sli with
      outBlocks := Tab.set s.sli.outBlocks n.val { b with sent := b.sent + 1 } } } := by
  simp only [blockByteSent, hb, h, ↓reduceIte]

theorem blockByteSent_of_last {s : State} {n : Line} {b : OutBlock} (hb : Tab.get? s.sli.outBlocks n.val = some b)
    (h : b.bytes.length ≤ b.sent + 1) :
    blockByteSent s n = blockFinished n { s with sli := { s.sli with outBlocks := Tab.erase s.sli.outBlocks n.val } } := by
  simp only [blockByteSent, hb, Nat.not_lt.mpr h, ↓reduceIte]

/-- The lines that a frame closes, as the statement filters them. -/
theorem State.goes_eq (s : State) :
    (fun n : Line => s.sending && !s.sli.shelfHold.getLsbD n.val && (Tab.get? s.sli.outBlocks n.val).any fun b => b.announced)
      = s.sendsByte := funext fun n => (s.sendsByte_eq n).symm

/-- Settles O51: the handings; the frame in the general case and with one message or one block; the slots. -/
theorem transmitter : Obligations.Transmitter := by
  refine ⟨fun s => ⟨fun n k => ⟨hand_eq n k s, fun hh hq => ?_, fun hw => ?_⟩, fun m ms hm hq => ?_, fun hw => ?_⟩,
    fun s => ⟨fun hoff => ?_, fun hup hrun => ?_⟩, fun s n => ?_⟩
  · rw [hand, if_pos (by simp [hh, hq])]
  · rw [hand, if_neg]
    simp only [Bool.and_eq_true, List.isEmpty_iff, decide_eq_true_eq, not_and, not_lt]
    exact fun hh => hw.resolve_left fun h => h hh
  · show Host.Outcome.next (placeHanding s) = _
    simp only [placeHanding, hm, hq, ↓reduceIte]
  · show Host.Outcome.next (placeHanding s) = _
    unfold placeHanding
    split
    · rfl
    · rename_i m ms hm
      rw [if_neg]
      obtain hw | hw := hw
      · rw [hw] at hm
        cases hm
      · exact Nat.not_lt.mpr hw
  · refine congrArg Host.Outcome.next (if_neg fun h => ?_)
    obtain hoff | hoff := hoff
    · exact hoff h.1
    · exact Bool.false_ne_true (hoff.symm.trans h.2)
  · intro f body crc mark sends slot0 base
    have hbase : base = s.txBase := s.txBase_eq.symm
    obtain ⟨hframe, hstatus, hrecord⟩ := txFrame_frame s
    obtain ⟨hwhole, hlines, hblocks, hdram⟩ := txFrame_whole s
    have hsli : (txFrame s).sli = { s.txBase with
        outBlocks := (txFrame s).sli.outBlocks, queue := s.frameSent.mail.1, handings := s.frameSent.mail.2
        txPos := if s.messageEnds then 0
          else if s.sending = true ∧ s.sli.queue ≠ [] then s.sli.txPos + 1 else s.sli.txPos } := by
      generalize txFrame s = u at hwhole ⊢
      exact congrArg State.sli hwhole
    refine ⟨_, execTxFrame_of_up hup hrun, ?_, ?_, fun hq hb => ?_, fun m ms hq hb hs hf => ?_, fun n b hq hb hs hann hhold hf => ?_,
      ?_⟩
    · rw [hsli, ← hbase]
    · rw [hsli, ← hbase]
    · have hsent : s.frameSent = { s with sli := s.txBase } := by
        rw [State.frameSent_of_noBlocks hb]
        exact messageSent_of_idle (.inl hq)
      rw [hsent] at hframe
      refine ⟨?_, ?_, ?_⟩
      · rw [hbase]
        exact hframe
      · intro hf
        rw [txFrame_of_ne hf, hsent]
      · rw [hsent] at hrecord
        refine hrecord.mono fun r hr a ha => ?_
        split at hr
        · exact ⟨r, hr, ha⟩
        · cases hr
    · rw [hbase]
      exact txFrame_of_message hq hb (State.sending_iff.mpr hs) hf
    · intro l
      have hsent := State.frameSent_of_oneBlock hq hb (State.sending_iff.mpr hs) hann hhold
      have hget : Tab.get? s.sli.outBlocks n.val = some b := by rw [hb, Tab.get?, if_pos rfl]
      rw [txFrame_of_ne hf, hsent, hbase]
      have hout : s.txBase.outBlocks = [(n.val, b)] := hb
      have hgetv : Tab.get? ({ s with sli := s.txBase } : State).sli.outBlocks n.val = some b := hget
      refine ⟨fun hmore => ?_, fun hlast hst hfl hto => ?_, fun hlast hst hfl hto hhand => ?_⟩
      · rw [blockByteSent_of_more hgetv hmore, hout, Tab.set_singleton]
      · have hsent' : blockByteSent { s with sli := s.txBase } n =
            setLine n { l with inFlight := false, timer := some .blockGap, remaining := s.lne.timers.blockGap }
              { s with sli := { s.txBase with outBlocks := [] } } := by
          rw [blockByteSent_of_last hgetv hlast, hout, Tab.erase_singleton]
          exact blockFinished_of_more (s := { s with sli := { s.txBase with outBlocks := [] } })
            (LineRec.told_iff.mpr ⟨hst, hfl⟩) hto
        rw [hsent']
        exact ⟨rfl, fun m hm => line_setLine_of_ne _ _ hm, line_setLine_self _ _ _⟩
      · intro k
        have hcloses : l.closes = true := LineRec.closes_iff.mpr ⟨LineRec.told_iff.mpr ⟨hst, hfl⟩, hto⟩
        rw [blockByteSent_of_last hgetv hlast, hout, Tab.erase_singleton]
        obtain ⟨hframe, hself, hothers, hdram⟩ := (blockFinished_of_last (n := n)
          (s := { s with sli := { s.txBase with outBlocks := [] } }) hcloses).after (onlySli_hand ..)
        have hmail : (hand n (s.partialEnd n) { s with sli := { s.txBase with outBlocks := [] } }).sli
            = { s.txBase with outBlocks := [], queue := [(s.partialEnd n).msg n] } := by
          have hqueue : s.txBase.queue = [] := hq
          have hhandings : s.txBase.handings = [] := hhand
          simp only [hand, hqueue, hhandings]
          rfl
        refine ⟨?_, hothers, ?_, hdram⟩
        · refine hframe.trans ?_
          generalize blockFinished n _ = t
          exact congrArg (fun x => ({ s with sli := x, lne := { s.lne with lines := t.lne.lines }, dram := t.dram } : State)) hmail
        · rw [hself, State.blockDone, if_pos (by exact hcloses)]
          rfl
    · intro sending out goes ends told closes last left handed
      have hgoes : goes = s.sendsByte := s.goes_eq
      have hends (n : Line) : ends n = (s.sendsByte n && s.blockEnds n) := by
        show (goes n && _) = _
        rw [hgoes]
        rfl
      have hcloses : allLines.filter closes = s.closingLines := by
        refine List.filter_congr fun n _ => ?_
        show ((ends n && _ && _) && _) = _
        rw [hends]
      have hmail : handed.mail = s.frameSent.mail := by
        rw [State.frameSent_mail, ← hcloses]
        exact foldl_hand_mail _ s.partialEnd left
      refine ⟨?_, fun n => ?_, fun n => ?_, ?_, ?_⟩
      · rw [hbase]
        have hq : handed.sli.queue = s.frameSent.mail.1 := congrArg Prod.fst hmail
        have hh : handed.sli.handings = s.frameSent.mail.2 := congrArg Prod.snd hmail
        rw [hq, hh]
        exact hwhole
      · rw [hblocks, State.frameSent_outBlocks]
        have hann : s.announces = some n.val ↔ last = true ∧ (s.sli.queue.head?.bind fun m => m.blockOf) = some n.val := by
          show (if s.messageEnds then _ else none) = _ ↔ s.messageEnds = true ∧ _
          cases s.messageEnds <;> simp
        refine congrArg (Option.bind (out n)) (funext fun b => ?_)
        rw [hends, hgoes, if_congr hann rfl rfl]
      · rw [hlines, State.frameSent_line]
        have htold : told n = ((s.sendsByte n && s.blockEnds n) && (s.line n).told) := by
          rw [← hends, LineRec.told, ← Bool.and_assoc]
        have hclose : closes n = ((s.sendsByte n && s.blockEnds n) && (s.line n).closes) := by
          rw [LineRec.closes, ← Bool.and_assoc, ← htold]
        rw [htold, hclose, State.blockDone]
        cases s.sendsByte n && s.blockEnds n <;> rfl
      · exact hstatus
      · rw [hcloses]
        exact hdram
  · intro out sends goes
    refine ⟨s.txSlots_length, fun b hb hg => ?_, fun hnone => ?_, fun m ms hq hs => ?_, fun hq => ?_, fun v hv => ?_, fun v hv => ?_⟩
    · rw [State.txSlots_data, State.dataSlot_of_sends hb (State.sendsByte_iff.mpr ⟨b, hb, hg⟩)]
    · rw [State.txSlots_data, State.dataSlot_of_still]
      rw [Bool.eq_false_iff, Ne, State.sendsByte_iff]
      rintro ⟨b, hb, hg⟩
      exact hnone b hb hg
    · have hslot : s.txSlots[8]? = some s.messageSlot := rfl
      rw [hslot]
      simp only [State.messageSlot, hq, State.sending_iff.mpr hs, ↓reduceIte]
    · have hslot : s.txSlots[8]? = some s.messageSlot := rfl
      rw [hslot, State.messageSlot]
      split
      · rfl
      · rename_i m ms hm
        rw [if_neg]
        obtain hq | hq := hq
        · rw [hq] at hm
          cases hm
        · exact fun h => hq (State.sending_iff.mp h)
    · have hslot : s.txSlots[9]? = some (lineMap s.sendsByte) := rfl
      rw [hslot, Option.some.injEq] at hv
      rw [← hv, lineMap_getLsbD, State.sendsByte_iff]
    · have hslot : s.txSlots[10]? = some (lineMap fun n => s.bufferOccupied n.val) := rfl
      rw [hslot, Option.some.injEq] at hv
      rw [← hv, lineMap_getLsbD, State.bufferOccupied, Bool.or_eq_true, or_comm]

end Sys2Proof.Machine
end

section
/-! PROOFS. Frames received in SYNC: what slot 0 brings, what the rest of a frame in MF_SYNC may change, and what of the receiver
it neither reads nor changes (R107, R110, R112, R118, R120). -/

namespace Sys2Proof.Machine

set_option Elab.async false

/-! ## The contents of a frame (R118, R120) -/

/-- `t` is `s` with changes of what a frame's contents may change: assembly, blocks, what waits for the check, and the
multiframe's registers. -/
def TakesContents (s t : State) : Prop :=
  t = { s with sli := { s.sli with
    rxCrc := t.sli.rxCrc, rxCrcByte := t.sli.rxCrcByte, rxReport := t.sli.rxReport, shelfHold := t.sli.shelfHold
    rxFrameNo := t.sli.rxFrameNo, mfEndDue := t.sli.mfEndDue, asm := t.sli.asm, asmLen := t.sli.asmLen
    asmBytes := t.sli.asmBytes, asmFailed := t.sli.asmFailed, items := t.sli.items, inLines := t.sli.inLines } }

theorem takesContents_refl (s : State) : TakesContents s s := rfl

theorem TakesContents.trans {s t u : State} (h : TakesContents s t) (h' : TakesContents t u) : TakesContents s u := by
  unfold TakesContents at h h' ⊢
  rw [h] at h'
  exact h'

theorem takesContents_setInLine (n : Nat) (l : InLine) (s : State) : TakesContents s (setInLine n l s) := rfl

theorem takesContents_blockByte (s : State) (n : Line) (b : Byte) : TakesContents s (blockByte s n b) := by
  simp only [blockByte]
  split
  · exact takesContents_refl s
  · split
    · exact takesContents_setInLine ..
    · exact TakesContents.trans (t := { s with sli := { s.sli with items := _ } }) rfl (takesContents_setInLine ..)

theorem takesContents_messageByte (b : Byte) (s : State) : TakesContents s (messageByte b s) := by
  unfold messageByte
  split
  · split
    · exact takesContents_refl s
    · split <;> exact rfl
  · split <;> exact rfl
  · dsimp only
    split
    · exact rfl
    · unfold messageComplete
      split
      · exact rfl
      · exact TakesContents.trans (t := { s with sli := { s.sli with
          asm := .gap, asmLen := 0, asmBytes := [], asmFailed := false, items := _ } }) rfl (takesContents_setInLine ..)

theorem takesContents_foldl {α : Type} {f : State → α → State} (h : ∀ s a, TakesContents s (f s a)) (l : List α) (s : State) :
    TakesContents s (l.foldl f s) := by
  induction l generalizing s with
  | nil => exact takesContents_refl s
  | cons a l ih => exact (h s a).trans (ih (f s a))

/-- The registers of the multiframe as a frame's slots reach them. -/
def State.slotsIn (s : State) (slots : List Byte) : State :=
  { s with sli := { s.sli with
    rxCrc := crc8 (if s.sli.rxFrameNo = 0 then 0 else s.sli.rxCrc) ((slots.drop 1).take (if s.sli.rxFrameNo = 15 then 11 else 12))
    rxCrcByte := if s.sli.rxFrameNo = 15 then slots.getD 12 0 else s.sli.rxCrcByte
    rxReport := if s.sli.rxFrameNo = 1 then slots.getD 12 0 else s.sli.rxReport, shelfHold := slots.getD 11 0 } }

/-- The block bytes of the valid slots in turn. -/
def State.blocksIn (s : State) (slots : List Byte) : State :=
  (allLines.filter fun n => (slots.getD 10 0).getLsbD n.val).foldl (fun s n => blockByte s n (slots.getD (n.val + 1) 0)) s

/-- The frame has been taken; after the last of a multiframe its check is due. -/
def State.frameOver (s : State) (f : Nat) : State :=
  { s with sli := { s.sli with rxFrameNo := (f + 1) % 16, mfEndDue := decide (f = 15) } }

theorem mfContents_eq (slots : List Byte) (s : State) :
    mfContents slots s = (messageByte (slots.getD 9 0) ((s.slotsIn slots).blocksIn slots)).frameOver s.sli.rxFrameNo := rfl

theorem takesContents_mfContents (slots : List Byte) (s : State) : TakesContents s (mfContents slots s) := by
  have h1 : TakesContents s (s.slotsIn slots) := rfl
  have h2 : TakesContents (s.slotsIn slots) ((s.slotsIn slots).blocksIn slots) :=
    takesContents_foldl (fun t n => takesContents_blockByte t n _) _ _
  have h3 := takesContents_messageByte (slots.getD 9 0) ((s.slotsIn slots).blocksIn slots)
  exact ((h1.trans h2).trans h3).trans rfl

/-! ## What the contents do not meet -/

/-- The state with other runs, counter of alignment errors. -/
def State.withRuns (s : State) (errors align service : Nat) : State :=
  { s with sli := { s.sli with alignErrors := errors, alignRun := align, serviceRun := service } }

section

variable (errors align service : Nat)

theorem blockByte_withRuns (s : State) (n : Line) (b : Byte) :
    blockByte (s.withRuns errors align service) n b = (blockByte s n b).withRuns errors align service := by
  have hin : (s.withRuns errors align service).inLine n.val = s.inLine n.val := rfl
  simp only [blockByte, hin]
  split
  · rfl
  · split <;> rfl

theorem messageComplete_withRuns (m : List Byte) (failed : Bool) (s : State) :
    messageComplete m failed (s.withRuns errors align service) = (messageComplete m failed s).withRuns errors align service := by
  unfold messageComplete
  split <;> rfl

theorem messageByte_withRuns (b : Byte) (s : State) :
    messageByte b (s.withRuns errors align service) = (messageByte b s).withRuns errors align service := by
  have hasm : (s.withRuns errors align service).sli.asm = s.sli.asm := rfl
  unfold messageByte
  rw [hasm]
  cases s.sli.asm with
  | gap =>
    dsimp only
    split
    · rfl
    · split <;> rfl
  | skip =>
    dsimp only
    split <;> rfl
  | inMessage =>
    dsimp only
    have hlen : (s.withRuns errors align service).sli.asmBytes = s.sli.asmBytes := rfl
    have hasmLen : (s.withRuns errors align service).sli.asmLen = s.sli.asmLen := rfl
    rw [hlen, hasmLen]
    split
    · rfl
    · exact messageComplete_withRuns errors align service _ _ s

theorem foldl_withRuns {α : Type} {f : State → α → State}
    (h : ∀ s a, f (s.withRuns errors align service) a = (f s a).withRuns errors align service) (l : List α) (s : State) :
    l.foldl f (s.withRuns errors align service) = (l.foldl f s).withRuns errors align service := by
  induction l generalizing s with
  | nil => rfl
  | cons a l ih => rw [List.foldl_cons, h, ih, List.foldl_cons]

/-- The contents of a frame do not meet the counts of bad bytes. -/
theorem mfContents_withRuns (slots : List Byte) (s : State) :
    mfContents slots (s.withRuns errors align service) = (mfContents slots s).withRuns errors align service := by
  have hblocks : ((s.withRuns errors align service).slotsIn slots).blocksIn slots
      = ((s.slotsIn slots).blocksIn slots).withRuns errors align service :=
    foldl_withRuns errors align service (fun t n => blockByte_withRuns errors align service t n _) _ (s.slotsIn slots)
  rw [mfContents_eq, mfContents_eq, hblocks, messageByte_withRuns]
  rfl

end

/-! ## Slot 0 and the other slots -/

/-- Slot 0 is not part of the contents. -/
theorem mfContents_slot0 {slots slots' : List Byte} (h : slots'.drop 1 = slots.drop 1) (s : State) :
    mfContents slots' s = mfContents slots s := by
  have hget (i : Nat) : slots'.getD (i + 1) 0 = slots.getD (i + 1) 0 := by
    have hi := congrArg (fun l : List Byte => l[i]?) h
    simp only [List.getElem?_drop, Nat.add_comm 1 i] at hi
    rw [List.getD_eq_getElem?_getD, List.getD_eq_getElem?_getD, hi]
  unfold mfContents
  simp only [h, hget 10, hget 11, hget 9, hget 8, hget _]

/-! ## Slot 0 (R107, R112) -/

/-- A frame in SYNC with no check due: the turn of the frames, slot 0, and the rest when SYNC stands. -/
def State.turned (s : State) : State := { s with sli := { s.sli with rxOdd := !s.sli.rxOdd } }

/-- What slot 0 brings. -/
def State.slot0 (s : State) (b : Byte) : State := if s.sli.rxOdd then oddSlot0 b s.turned else evenSlot0 b s.turned

theorem exec_rxFrame_of_sync {slots : List Byte} {s : State} (hup : s.phase = .up) (hlen : slots.length = 13)
    (hsync : s.sli.frame = .sync) (hdue : s.sli.mfEndDue = false) :
    exec (.rxFrame slots) s = .next (if (s.slot0 (slots.getD 0 0)).sli.frame = .sync
      then mfFrame slots s.sli.rxOdd (s.slot0 (slots.getD 0 0)) else s.slot0 (slots.getD 0 0)) := by
  have hend : multiframeEnd s = s := by simp only [multiframeEnd, hdue, Bool.false_eq_true, ↓reduceIte]
  refine congrArg Host.Outcome.next ((if_pos ⟨hup, hlen⟩).trans ?_)
  have hrx : rxFrame slots s = syncFrame slots s := by simp only [rxFrame, hsync]
  rw [hrx]
  unfold syncFrame
  rw [hend]
  rfl

theorem evenSlot0_of_good (s : State) : evenSlot0 0xE4 s = { s with sli := { s.sli with alignRun := 0 } } := rfl

/-- A bad alignment byte is counted, and so is its run. -/
def State.alignBad (s : State) : State :=
  { s with sli := { s.sli with alignErrors := min (s.sli.alignErrors + 1) 65535, alignRun := s.sli.alignRun + 1 } }

theorem evenSlot0_of_bad {b : Byte} (hb : b ≠ 0xE4) {s : State} (h : s.sli.alignRun + 1 < s.sli.lossCount) :
    evenSlot0 b s = s.alignBad := by
  simp only [evenSlot0, hb, ↓reduceIte]
  exact if_neg (Nat.not_le.mpr h)

theorem evenSlot0_of_lost {b : Byte} (hb : b ≠ 0xE4) {s : State} (h : s.sli.lossCount ≤ s.sli.alignRun + 1) :
    evenSlot0 b s = frameLoss s.lossState s.alignBad := by
  simp only [evenSlot0, hb, ↓reduceIte]
  exact if_pos h

theorem zeroFlagClear_iff {b : Byte} : zeroFlagClear b = true ↔ b.getLsbD 7 = false := by
  simp [zeroFlagClear]

/-- A good service byte whose remote alarm does not rise with the link up. -/
theorem oddSlot0_of_good {b : Byte} (hb : b.getLsbD 7 = false) {s : State}
    (h : s.linkUp = false ∨ s.sli.rxAlarm = true ∨ b.getLsbD 6 = false) :
    oddSlot0 b s = { s with sli := { s.sli with serviceRun := 0, rxAlarm := b.getLsbD 6 } } := by
  simp only [oddSlot0, zeroFlagClear_iff.mpr hb, ↓reduceIte]
  refine if_neg ?_
  obtain h | h | h := h
  · simp [h]
  · simp [h]
  · rw [remoteAlarm, h, Bool.and_false]
    exact Bool.false_ne_true

/-- A remote alarm that rises with the link up stops the sending. -/
theorem oddSlot0_of_rise {b : Byte} (hb : b.getLsbD 7 = false) {s : State} (hup : s.linkUp = true)
    (ha : s.sli.rxAlarm = false) (h6 : b.getLsbD 6 = true) :
    oddSlot0 b s = suspendSending { s with sli := { s.sli with serviceRun := 0, rxAlarm := true } } := by
  have hrise : (s.linkUp && !s.sli.rxAlarm && b.getLsbD 6) = true := by rw [hup, ha, h6]; rfl
  simp only [oddSlot0, zeroFlagClear_iff.mpr hb, ↓reduceIte, remoteAlarm]
  refine (if_pos hrise).trans ?_
  rw [h6]

theorem oddSlot0_of_unchecked {b : Byte} (hb : b.getLsbD 7 = true) {s : State} (h : s.sli.serviceCheck = false) :
    oddSlot0 b s = s := by
  have hflag : zeroFlagClear b = false := by simp [zeroFlagClear, hb]
  simp only [oddSlot0, hflag, h, Bool.false_eq_true, ↓reduceIte]

theorem oddSlot0_of_bad {b : Byte} (hb : b.getLsbD 7 = true) {s : State} (hc : s.sli.serviceCheck = true)
    (h : s.sli.serviceRun + 1 < s.sli.lossCount) :
    oddSlot0 b s = { s with sli := { s.sli with serviceRun := s.sli.serviceRun + 1 } } := by
  have hflag : zeroFlagClear b = false := by simp [zeroFlagClear, hb]
  simp only [oddSlot0, hflag, hc, Bool.false_eq_true, ↓reduceIte]
  exact if_neg (Nat.not_le.mpr h)

theorem oddSlot0_of_lost {b : Byte} (hb : b.getLsbD 7 = true) {s : State} (hc : s.sli.serviceCheck = true)
    (h : s.sli.lossCount ≤ s.sli.serviceRun + 1) :
    oddSlot0 b s = frameLoss s.lossState { s with sli := { s.sli with serviceRun := s.sli.serviceRun + 1 } } := by
  have hflag : zeroFlagClear b = false := by simp [zeroFlagClear, hb]
  simp only [oddSlot0, hflag, hc, Bool.false_eq_true, ↓reduceIte]
  exact if_pos h

/-! ## The multiframe level (R110) -/

/-- The marker of a frame. -/
def marked (slots : List Byte) : Bool := slots.getD 12 0 == 0x7E

/-- In the search for multiframe synchronisation a frame without the second marker is counted off. -/
theorem mfFrame_of_search {slots : List Byte} {odd : Bool} {s : State} (h : s.sli.mf = .mfSearch)
    (hsecond : odd = true ∨ marked slots = false ∨ s.sli.evenMarks.getD 7 false = false) :
    mfFrame slots odd s = { s with sli := { s.sli with
      mfTimer := s.sli.mfTimer - 1
      evenMarks := if odd then s.sli.evenMarks else (marked slots :: s.sli.evenMarks).take 8 } } := by
  simp only [mfFrame, h]
  cases odd with
  | true => rfl
  | false =>
    have hno : (marked slots && s.sli.evenMarks.getD 7 false) = false := by
      obtain h | h | h := hsecond
      · cases h
      · rw [h]; rfl
      · rw [h, Bool.and_false]
    simp only [Bool.false_eq_true, ↓reduceIte]
    exact if_neg (by rw [← marked, hno]; decide)

theorem mfFrame_of_second {slots : List Byte} {s : State} (h : s.sli.mf = .mfSearch) (hm : marked slots = true)
    (h7 : s.sli.evenMarks.getD 7 false = true) :
    mfFrame slots false s = mfContents slots (linkGoesUp { s with sli := { s.sli with
      mfTimer := s.sli.mfTimer - 1, evenMarks := (true :: s.sli.evenMarks).take 8 } }) := by
  have hyes : (marked slots && s.sli.evenMarks.getD 7 false) = true := by rw [hm, h7]; rfl
  simp only [mfFrame, h, Bool.false_eq_true, ↓reduceIte]
  refine (if_pos hyes).trans ?_
  rw [noteMark, ← marked, hm]

/-- The marker history and the missed marker of a frame in MF_SYNC. -/
def State.markNoted (s : State) (slots : List Byte) (odd : Bool) : State :=
  { s with sli := { s.sli with
    evenMarks := if odd then s.sli.evenMarks else (marked slots :: s.sli.evenMarks).take 8
    markMissed := if s.sli.rxFrameNo = 0 then !marked slots else s.sli.markMissed } }

/-- In MF_SYNC a frame's contents are taken, but at a second missed marker. -/
theorem mfFrame_of_mfSync {slots : List Byte} {odd : Bool} {s : State} (h : s.sli.mf = .mfSync)
    (hm : s.sli.rxFrameNo = 0 → marked slots = true ∨ s.sli.markMissed = false) :
    mfFrame slots odd s = mfContents slots (s.markNoted slots odd) := by
  have hstay : ((s.sli.rxFrameNo == 0) && !marked slots && s.sli.markMissed) = false := by
    by_cases h0 : s.sli.rxFrameNo = 0
    · obtain h | h := hm h0 <;> simp [h]
    · simp [h0]
  simp only [mfFrame, h]
  refine (if_neg (by rw [← marked, hstay]; decide)).trans ?_
  by_cases h0 : s.sli.rxFrameNo = 0
  · cases odd <;> simp [h0, State.markNoted, marked, noteMark]
  · cases odd <;> simp [h0, State.markNoted, marked, noteMark]

theorem mfFrame_of_lost {slots : List Byte} {odd : Bool} {s : State} (h : s.sli.mf = .mfSync) (h0 : s.sli.rxFrameNo = 0)
    (hm : marked slots = false) (hmiss : s.sli.markMissed = true) :
    mfFrame slots odd s = mfLost (if odd then s else noteMark false s) := by
  have hlost : ((s.sli.rxFrameNo == 0) && !marked slots && s.sli.markMissed) = true := by rw [h0, hm, hmiss]; rfl
  simp only [mfFrame, h]
  refine (if_pos hlost).trans ?_
  rw [← marked, hm]

end Sys2Proof.Machine
end

section
/-! PROOFS. The receiver's search for synchronisation, its losses, the link that comes up, and the remote alarm (R106 to R112). -/

namespace Sys2Proof.Machine

set_option Elab.async false

/-! ## The search (R106) -/

theorem exec_rxFrame_of_up {slots : List Byte} {s : State} (hup : s.phase = .up) (hlen : slots.length = 13) :
    exec (.rxFrame slots) s = .next (rxFrame slots s) := congrArg Host.Outcome.next (if_pos ⟨hup, hlen⟩)

theorem rxFrame_of_checkService {slots : List Byte} {s : State} (h : s.sli.frame = .checkService) :
    rxFrame slots s = writeLinkStatus { s with sli := { s.sli with
      frame := if (slots.getD 0 0).getLsbD 7 then .hunt else .checkAlign, syncIn := none
      searchFrom := if (slots.getD 0 0).getLsbD 7 then some ((s.sli.position + 1) % 104) else s.sli.searchFrom } } := by
  have hcheck : rxFrame slots s = if zeroFlagClear (slots.getD 0 0) then
      writeLinkStatus { s with sli := { s.sli with frame := .checkAlign, syncIn := none } } else checkFailed s := by
    simp only [rxFrame, h]
  rw [hcheck]
  cases hbit : (slots.getD 0 0).getLsbD 7 with
  | false => rw [if_pos (zeroFlagClear_iff.mpr hbit), if_neg Bool.false_ne_true, if_neg Bool.false_ne_true]
  | true =>
    have hflag : zeroFlagClear (slots.getD 0 0) = false := by rw [zeroFlagClear, hbit]; rfl
    rw [hflag, if_neg Bool.false_ne_true, if_pos rfl, if_pos rfl, checkFailed]

theorem rxFrame_of_enterSync {slots : List Byte} {s : State} (h : s.sli.frame = .checkAlign) (hin : s.sli.syncIn = some 0) :
    rxFrame slots s = syncFrame slots (enterSync s) := by
  simp only [rxFrame, h, hin]

/-- The state at the first frame of SYNC. -/
def State.synced (s : State) : State :=
  { s with sli := { s.sli with
    frame := .sync, syncIn := none, rxOdd := false, alignRun := 0, serviceRun := 0, rxAlarm := false, mf := .mfSearch
    mfTimer := 128, evenMarks := [], mfEndDue := false } }

theorem enterSync_eq (s : State) : enterSync s = writeLinkStatus s.synced := rfl

/-- The first even frame of SYNC that is no second marker. -/
theorem exec_rxFrame_of_first {slots : List Byte} {s : State} (hup : s.phase = .up) (hlen : slots.length = 13)
    (hsync : s.sli.frame = .sync) (hdue : s.sli.mfEndDue = false) (hodd : s.sli.rxOdd = false) (hmf : s.sli.mf = .mfSearch)
    (hno : marked slots = false ∨ s.sli.evenMarks.getD 7 false = false) :
    (slots.getD 0 0 = 0xE4 → exec (.rxFrame slots) s = .next { s with sli := { s.sli with
        rxOdd := true, alignRun := 0, mfTimer := s.sli.mfTimer - 1, evenMarks := (marked slots :: s.sli.evenMarks).take 8 } })
      ∧ (slots.getD 0 0 ≠ 0xE4 → s.sli.alignRun + 1 < s.sli.lossCount →
        exec (.rxFrame slots) s = .next { s with sli := { s.sli with
          rxOdd := true, alignErrors := min (s.sli.alignErrors + 1) 65535, alignRun := s.sli.alignRun + 1
          mfTimer := s.sli.mfTimer - 1, evenMarks := (marked slots :: s.sli.evenMarks).take 8 } }) := by
  have hslot0 (b : Byte) : s.slot0 b = evenSlot0 b s.turned := by rw [State.slot0, hodd]; rfl
  rw [exec_rxFrame_of_sync hup hlen hsync hdue, hslot0, hodd]
  refine ⟨fun hb => ?_, fun hb hrun => ?_⟩
  · rw [hb, evenSlot0_of_good, if_pos (by exact hsync), mfFrame_of_search (by exact hmf) (.inr (by exact hno)), State.turned, hodd]
    rfl
  · rw [evenSlot0_of_bad hb (by exact hrun), if_pos (by exact hsync), mfFrame_of_search (by exact hmf) (.inr (by exact hno)),
      State.alignBad, State.turned, hodd]
    rfl

/-! ## Losses (R107, R110) -/

theorem State.lossState_ne (s : State) : s.lossState ≠ .sync := by
  unfold State.lossState
  split <;> exact FrameState.noConfusion

/-- A loss of frame synchronisation ends the frame. -/
theorem exec_rxFrame_of_lost {slots : List Byte} {s t : State} (hup : s.phase = .up) (hlen : slots.length = 13)
    (hsync : s.sli.frame = .sync) (hdue : s.sli.mfEndDue = false) (hlost : s.slot0 (slots.getD 0 0) = frameLoss t.lossState t) :
    exec (.rxFrame slots) s = .next (frameLoss t.lossState t) := by
  have hframe : (frameLoss t.lossState t).sli.frame = t.lossState := by
    cases hlink : t.linkUp with
    | true =>
      rw [frameLoss_of_up hlink, (linkDown_of_down (by
        simp [State.linkUp, State.frameLost])).2, State.linkLost_sli]
      rfl
    | false =>
      rw [frameLoss_of_down hlink, (writeLinkStatus_frame _).1]
      rfl
  rw [exec_rxFrame_of_sync hup hlen hsync hdue, hlost, if_neg]
  rw [hframe]
  exact t.lossState_ne

/-- What a link that goes down leaves, as the statement lists it. -/
def LinkFalls (s u : State) (st : FrameState) (lost : Nat) : Prop :=
  ∃ v, u = writeLinkStatus (post .linkState .link 0 0 lost v) ∧ v.sli.frame = st ∧ v.linkUp = false
    ∧ v.sli.losses = lost ∧ v.sli.lastChange = s.chg.seconds ∧ v.sli.farEndDue = true ∧ v.sli.asm = .gap
    ∧ v.sli.items = [] ∧ v.sli.mfEndDue = false ∧ (∀ k, (v.inLine k).opened = none ∧ (v.inLine k).complete = false)
    ∧ v.sli.txPos = 0
    ∧ v.sli.outBlocks = s.sli.outBlocks.filter (fun e => !e.2.announced)
    ∧ (∀ n, (s.line n).state = .idle → v.line n = { s.line n with state := .unavailable })
    ∧ (∀ n, (s.line n).state ≠ .idle → (s.line n).state ≠ .sending → v.line n = s.line n)
    ∧ v.lne.grace = if (allLines.any fun n => (s.line n).state.inSession) then some 20 else s.lne.grace

/-- The link falls from a state that differs from `s` in the receiver's registers alone. -/
theorem linkFalls_linkDown {s t : State} (ht : t = { s with sli := t.sli }) (hblocks : t.sli.outBlocks = s.sli.outBlocks)
    (hdown : t.linkUp = false) : LinkFalls s (linkDown t) t.sli.frame t.sli.losses := by
  have hline (n : Line) : t.line n = s.line n := by rw [ht]; rfl
  have hseconds : t.chg.seconds = s.chg.seconds := by rw [ht]
  have hgrace : t.lne.grace = s.lne.grace := by rw [ht]
  have hsli := t.linkLost_sli
  refine ⟨t.linkLost, (linkDown_of_down hdown).1, by rw [hsli]; rfl, t.linkLost_linkUp.trans hdown, by rw [hsli]; rfl,
    by rw [hsli]; exact hseconds, by rw [hsli]; rfl, by rw [hsli]; rfl, by rw [hsli]; rfl, by rw [hsli]; rfl, t.linkLost_inLine,
    by rw [hsli], by rw [hsli, hblocks], fun n => ?_, fun n => ?_, ?_⟩
  · rw [← hline]; exact (t.linkLost_line n).1
  · rw [← hline]; exact (t.linkLost_line n).2
  · rw [t.linkLost_grace, hgrace]
    simp only [hline]

/-- Frame synchronisation lost in the search for multiframe synchronisation. -/
theorem frameLoss_of_search {st : FrameState} {s : State} (h : s.sli.mf = .mfSearch) :
    ∃ u, frameLoss st s = u
      ∧ u = { s with sli := { s.sli with
          frame := st, losses := min (s.sli.losses + 1) 65535, alignRun := 0, serviceRun := 0, rxAlarm := false
          searchFrom := none, syncIn := none, mfTimer := 0, evenMarks := [], markMissed := false }, dram := u.dram }
      ∧ unchangedOutside [(s.por 0x40, 24)] s.dram u.dram := by
  obtain ⟨hframe, hdram⟩ := writeLinkStatus_frame (s.frameLost st)
  refine ⟨_, frameLoss_of_down (State.linkUp_of_search h), ?_, hdram⟩
  rw [hframe, State.frameLost, ← h]

/-- Frame synchronisation lost in MF_SYNC. -/
theorem linkFalls_frameLoss {st : FrameState} {s t : State} (ht : t = { s with sli := t.sli })
    (hblocks : t.sli.outBlocks = s.sli.outBlocks) (hlosses : t.sli.losses = s.sli.losses) (hup : t.linkUp = true) :
    LinkFalls s (frameLoss st t) st (min (s.sli.losses + 1) 65535)
      ∧ (frameLoss st t).sli.alignErrors = t.sli.alignErrors := by
  have hdown : (t.frameLost st).linkUp = false := by simp [State.linkUp, State.frameLost]
  rw [frameLoss_of_up hup, ← hlosses]
  refine ⟨linkFalls_linkDown (s := s) (t := t.frameLost st) ?_ hblocks hdown, ?_⟩
  · rw [State.frameLost, ht]
  · rw [(linkDown_of_down hdown).2, State.linkLost_sli]
    rfl

/-- Multiframe synchronisation lost alone. -/
theorem linkFalls_mfLost {s t : State} (ht : t = { s with sli := t.sli }) (hblocks : t.sli.outBlocks = s.sli.outBlocks) :
    LinkFalls s (mfLost t) t.sli.frame t.sli.losses ∧ (mfLost t).sli.mf = .mfSearch ∧ (mfLost t).sli.mfTimer = 128
      ∧ (mfLost t).sli.alignErrors = t.sli.alignErrors ∧ (mfLost t).sli.alignRun = t.sli.alignRun := by
  have hdown : ({ t with sli := { t.sli with mf := .mfSearch, mfTimer := 128, markMissed := false } } : State).linkUp = false :=
    State.linkUp_of_search rfl
  have hsli := (linkDown_of_down hdown).2
  refine ⟨linkFalls_linkDown (s := s) (t := { t with sli := { t.sli with mf := .mfSearch, mfTimer := 128, markMissed := false } })
    ?_ hblocks hdown, ?_, ?_, ?_, ?_⟩
  · rw [ht]
  all_goals
    rw [mfLost, hsli, State.linkLost_sli]
    rfl

/-- The state of the part as LINK_STATE is posted for a link that has come up. -/
def State.linkRisen (s : State) : State :=
  { s with
    sli := { s.sli with
      mf := .mfSync, mfTimer := 0, rxFrameNo := 0, markMissed := false, rxCrc := 0, asm := .gap, asmLen := 0
      asmBytes := [], asmFailed := false, items := [], mfEndDue := false, inLines := [], lastChange := s.chg.seconds }
    lne := { s.lne with grace := none } }

/-- The receiver as it meets the second marker. -/
def State.atMarker (s : State) : State :=
  { s with sli := { s.sli with
    rxOdd := true, alignRun := 0, mfTimer := s.sli.mfTimer - 1, evenMarks := (true :: s.sli.evenMarks).take 8 } }

/-- The link comes up with the second marker (R111, R143). -/
theorem linkGoesUp_spec {s : State} (h : s.sli.frame = .sync) :
    (linkGoesUp s).linkUp = true ∧ (linkGoesUp s).sli.rxFrameNo = 0 ∧ (linkGoesUp s).lne.grace = none
      ∧ (linkGoesUp s).sli.lastChange = s.chg.seconds
      ∧ (linkGoesUp s).ceu = (post .linkState .link 0 1 s.sli.losses s).ceu := by
  have hup : s.linkRisen.linkUp = true := by
    simp only [State.linkUp, State.linkRisen, h]
    rfl
  have hpost : postLinkState s.linkRisen = post .linkState .link 0 1 s.sli.losses s.linkRisen := by
    rw [postLinkState, hup]
    rfl
  have heq : linkGoesUp s = writeLinkStatus (post .linkState .link 0 1 s.sli.losses s.linkRisen) := congrArg writeLinkStatus hpost
  have hceu : (post .linkState .link 0 1 s.sli.losses s.linkRisen).ceu = (post .linkState .link 0 1 s.sli.losses s).ceu :=
    post_ceu_congr (s := s) (t := s.linkRisen) rfl rfl rfl .linkState .link 0 1 s.sli.losses
  obtain ⟨c, m, hframe, -⟩ := post_frame .linkState .link 0 1 s.sli.losses s.linkRisen
  rw [heq, (writeLinkStatus_frame _).1]
  refine ⟨?_, ?_, ?_, ?_, hceu⟩
  all_goals
    rw [hframe]
  · exact hup
  all_goals rfl

/-! ## A frame in MF_SYNC (R107, R110, R112) -/

theorem exec_rxFrame_of_mfSync {slots : List Byte} {s t : State} (hup : s.phase = .up) (hlen : slots.length = 13)
    (hsync : s.sli.frame = .sync) (hdue : s.sli.mfEndDue = false) (h0 : s.slot0 (slots.getD 0 0) = t)
    (hstays : t.sli.frame = .sync) (hmf : t.sli.mf = .mfSync)
    (hm : t.sli.rxFrameNo = 0 → marked slots = true ∨ t.sli.markMissed = false) :
    exec (.rxFrame slots) s = .next (mfContents slots (t.markNoted slots s.sli.rxOdd)) := by
  rw [exec_rxFrame_of_sync hup hlen hsync hdue, h0, if_pos hstays, mfFrame_of_mfSync hmf hm]

/-- The slots with another slot 0. -/
theorem marked_slot0 (b : Byte) (slots : List Byte) : marked (b :: slots.drop 1) = marked slots := by
  cases slots <;> rfl

theorem length_slot0 (b : Byte) {slots : List Byte} (h : slots.length = 13) : (b :: slots.drop 1).length = 13 := by
  simp [h]

theorem mfContents_slot0_cons (b : Byte) (slots : List Byte) (s : State) :
    mfContents (b :: slots.drop 1) s = mfContents slots s := mfContents_slot0 (slots := slots) (slots' := b :: slots.drop 1) rfl s

theorem State.markNoted_slot0 (s : State) (b : Byte) (slots : List Byte) (odd : Bool) :
    s.markNoted (b :: slots.drop 1) odd = s.markNoted slots odd := by
  simp only [State.markNoted, marked_slot0]

/-- A frame in MF_SYNC keeps the received remote alarm and sends no announced block that it did not send before. -/
theorem mfFrame_sending {slots : List Byte} {odd : Bool} {s : State} (h : s.sli.mf = .mfSync) :
    (mfFrame slots odd s).sli.rxAlarm = s.sli.rxAlarm
      ∧ ((mfFrame slots odd s).sli.txPos = s.sli.txPos ∨ (mfFrame slots odd s).sli.txPos = 0)
      ∧ ((mfFrame slots odd s).sli.outBlocks = s.sli.outBlocks
        ∨ (mfFrame slots odd s).sli.outBlocks = s.sli.outBlocks.filter fun e => !e.2.announced) := by
  by_cases hlost : s.sli.rxFrameNo = 0 ∧ marked slots = false ∧ s.sli.markMissed = true
  · obtain ⟨h0, hm, hmiss⟩ := hlost
    obtain ⟨t, ht, hpart⟩ : ∃ t, (if odd then s else noteMark false s) = t ∧ t.sli = { s.sli with evenMarks := t.sli.evenMarks } :=
      ⟨_, rfl, by cases odd <;> rfl⟩
    have hsli : (mfLost t).sli = _ :=
      (linkDown_of_down (s := { t with sli := { t.sli with mf := .mfSearch, mfTimer := 128, markMissed := false } })
        (State.linkUp_of_search rfl)).2.trans (State.linkLost_sli _)
    rw [mfFrame_of_lost h h0 hm hmiss, ht, hsli, State.linkCut, hpart]
    exact ⟨rfl, .inr rfl, .inr rfl⟩
  · have hm : s.sli.rxFrameNo = 0 → marked slots = true ∨ s.sli.markMissed = false := fun h0 => by
      rcases hmark : marked slots with _ | _
      · exact .inr (Bool.eq_false_iff.mpr fun hmiss => hlost ⟨h0, hmark, hmiss⟩)
      · exact .inl rfl
    have htakes := takesContents_mfContents slots (s.markNoted slots odd)
    rw [mfFrame_of_mfSync h hm]
    unfold TakesContents at htakes
    rw [htakes]
    exact ⟨rfl, .inl rfl, .inl rfl⟩

/-- Settles O52. -/
theorem receiver : Obligations.Receiver := by
  refine ⟨fun p slots s hup hp hlen => ?_, fun slots s hup hlen hsync hmf => ?_, fun slots s hup hlen hsync hmf hdue hodd => ?_,
    fun slots s hup hlen hsync hmf hdue => ?_⟩
  · intro u0
    refine ⟨fun hhunt => ?_, fun hne => congrArg Host.Outcome.next (if_neg fun h => hne h.2.1), fun hstill => ?_, fun hcheck => ?_,
      fun hcheck hin hb => ?_, fun hcheck hin hb => ?_, fun k hcheck hin => ?_, fun hcheck hin => ?_⟩
    · exact ⟨_, congrArg Host.Outcome.next (if_pos ⟨hup, hhunt, hp⟩), writeLinkStatus_frame _⟩
    · rw [exec_rxFrame_of_up hup hlen]
      obtain h | h := hstill <;> simp only [rxFrame, h]
    · exact ⟨_, (exec_rxFrame_of_up hup hlen).trans (congrArg _ (rxFrame_of_checkService hcheck)), writeLinkStatus_frame _⟩
    · rw [exec_rxFrame_of_up hup hlen]
      have hb' : slots.getD 0 0 = 0xE4 := hb
      simp only [rxFrame, hcheck, hin, hb', ↓reduceIte]
    · have hb' : ¬slots.getD 0 0 = 0xE4 := hb
      refine ⟨_, exec_rxFrame_of_up hup hlen, ?_⟩
      simp only [rxFrame, hcheck, hin, hb', ↓reduceIte, checkFailed]
      rw [(writeLinkStatus_frame _).1]
      exact ⟨rfl, rfl⟩
    · rw [exec_rxFrame_of_up hup hlen]
      simp only [rxFrame, hcheck, hin]
    · obtain ⟨hframe, hdram⟩ := writeLinkStatus_frame s.synced
      have hsli : (enterSync s).sli = s.synced.sli := by rw [enterSync_eq, hframe]
      have hphase : (enterSync s).phase = .up := by rw [enterSync_eq, hframe]; exact hup
      have hsync : (enterSync s).sli.frame = .sync := by rw [hsli]; rfl
      have hexec : exec (.rxFrame slots) s = exec (.rxFrame slots) (enterSync s) := by
        rw [exec_rxFrame_of_up hup hlen, exec_rxFrame_of_up hphase hlen, rxFrame_of_enterSync hcheck hin]
        simp only [rxFrame, hsync]
      obtain ⟨hgood, hbad⟩ := exec_rxFrame_of_first hphase hlen hsync (by rw [hsli]; rfl) (by rw [hsli]; rfl)
        (by rw [hsli]; rfl) (.inr (by rw [hsli]; rfl))
      refine ⟨enterSync s, hframe, hdram, fun hpass => ?_, hexec, fun hb => ?_, fun hb hcount => ?_⟩
      · have hsame : (enterSync s).linkStatusBytes = s.synced.linkStatusBytes := by rw [enterSync_eq, hframe]; rfl
        exact (writeLinkStatus_bytes (s := s.synced) hpass).trans hsame.symm
      · rw [hexec, hgood hb, hsli]
        rfl
      · rw [hexec, hbad hb (by rw [hsli]; exact hcount), hsli]
        rfl
  · intro u0 mark lost
    refine ⟨fun hdue hodd hb => ⟨fun hrun hmark => ?_, fun hrun => ?_⟩, fun hdue hodd hb hmark h7 => ?_, fun htimer => ?_,
      fun htimer => ?_⟩
    · rw [(exec_rxFrame_of_first hup hlen hsync hdue hodd hmf (.inl hmark)).2 hb hrun, show marked slots = false from hmark]
    · have hslot : s.slot0 (slots.getD 0 0) = frameLoss s.turned.alignBad.lossState s.turned.alignBad := by
        rw [State.slot0, hodd]
        exact evenSlot0_of_lost hb (by exact hrun)
      obtain ⟨u, hu, hframe, hdram⟩ := frameLoss_of_search (st := s.turned.alignBad.lossState) (s := s.turned.alignBad) hmf
      refine ⟨u, (exec_rxFrame_of_lost hup hlen hsync hdue hslot).trans (congrArg _ hu), ?_, hdram⟩
      rw [hframe, State.alignBad, State.turned, hodd]
      rfl
    · have hslot : s.slot0 (slots.getD 0 0) = { s.turned with sli := { s.turned.sli with alignRun := 0 } } := by
        rw [State.slot0, hodd, show slots.getD 0 0 = 0xE4 from hb]
        rfl
      obtain ⟨hlink, hno, hgrace, hchange, hceu⟩ := linkGoesUp_spec (s := s.atMarker) hsync
      have hexec : exec (.rxFrame slots) s = .next (mfContents slots (linkGoesUp s.atMarker)) := by
        rw [exec_rxFrame_of_sync hup hlen hsync hdue, hslot, if_pos (by exact hsync), hodd,
          mfFrame_of_second (by exact hmf) hmark (by exact h7), State.turned, hodd]
        rfl
      refine ⟨_, hexec, ?_⟩
      generalize linkGoesUp s.atMarker = v at hlink hno hgrace hchange hceu ⊢
      have htakes := takesContents_mfContents slots v
      have hnext : (mfContents slots v).sli.rxFrameNo = (v.sli.rxFrameNo + 1) % 16 := rfl
      rw [hno] at hnext
      unfold TakesContents at htakes
      generalize mfContents slots v = w at htakes hnext
      refine ⟨?_, hnext, ?_, ?_, ?_⟩
      · rw [htakes]; exact hlink
      · rw [htakes]; exact hgrace
      · rw [htakes]; exact hchange
      · rw [htakes]; exact hceu.trans (post_ceu_congr (s := s) (t := s.atMarker) rfl rfl rfl .linkState .link 0 1 s.sli.losses)
    · obtain ⟨u, hu, hframe, hdram⟩ := frameLoss_of_search (st := .hunt) (s := s) hmf
      exact ⟨u, (congrArg Host.Outcome.next (if_pos ⟨hsync, hmf, htimer⟩)).trans (congrArg _ hu), hframe, hdram⟩
    · exact congrArg Host.Outcome.next (if_neg fun h => htimer h.2.2)
  · intro u0 bad run seen
    have hslot (b : Byte) : s.slot0 b = oddSlot0 b s.turned := by rw [State.slot0, hodd]; rfl
    have hdown : s.turned.linkUp = false := State.linkUp_of_search hmf
    have answer {t : State} (h0 : oddSlot0 (slots.getD 0 0) s.turned = t) (hstays : t.sli.frame = .sync)
        (hstill : t.sli.mf = .mfSearch) : exec (.rxFrame slots) s = .next { t with sli := { t.sli with
          mfTimer := t.sli.mfTimer - 1 } } := by
      rw [exec_rxFrame_of_sync hup hlen hsync hdue, hslot, h0, if_pos hstays, hodd, mfFrame_of_search hstill (.inl rfl)]
      rfl
    refine ⟨fun hb => ?_, fun hb hc => ?_, fun hb hc hrun => ?_, fun hb hc hrun => ?_⟩
    · rw [answer (oddSlot0_of_good hb (.inl hdown)) hsync hmf, State.turned, hodd]
      rfl
    · rw [answer (oddSlot0_of_unchecked hb (by exact hc)) hsync hmf, State.turned, hodd]
      rfl
    · rw [answer (oddSlot0_of_bad hb (by exact hc) (by exact hrun)) hsync hmf, State.turned, hodd]
      rfl
    · obtain ⟨u, hu, hframe, hdram⟩ := frameLoss_of_search (st := s.turned.lossState)
        (s := { s.turned with sli := { s.turned.sli with serviceRun := s.turned.sli.serviceRun + 1 } }) hmf
      have hlost : s.slot0 (slots.getD 0 0)
          = frameLoss (State.lossState { s.turned with sli := { s.turned.sli with serviceRun := s.turned.sli.serviceRun + 1 } })
              { s.turned with sli := { s.turned.sli with serviceRun := s.turned.sli.serviceRun + 1 } } :=
        (hslot _).trans (oddSlot0_of_lost hb (by exact hc) (by exact hrun))
      refine ⟨u, (exec_rxFrame_of_lost hup hlen hsync hdue hlost).trans (congrArg _ hu), ?_, hdram⟩
      rw [hframe, State.turned, hodd]
      rfl
  · intro u0 mark hmarked state alignRun serviceRun losses down
    have heven (h : s.sli.rxOdd = false) (b : Byte) : s.slot0 b = evenSlot0 b s.turned := by rw [State.slot0, h]; rfl
    have hodd (h : s.sli.rxOdd = true) (b : Byte) : s.slot0 b = oddSlot0 b s.turned := by rw [State.slot0, h]; rfl
    have hlink : s.turned.linkUp = true := State.linkUp_iff.mpr ⟨hsync, hmf⟩
    refine ⟨fun h hb hrun => ?_, fun h hb hc hrun => ?_, fun h hb h0 hm hmiss => ?_, fun h hb hrun hm => ?_,
      fun h hb hc hm => ?_, fun h hb h6 => ?_, fun h hb h6 ha => ⟨?_, fun hnone => ?_⟩⟩
    · have hfall := linkFalls_frameLoss (st := s.turned.alignBad.lossState) (s := s) (t := s.turned.alignBad) rfl rfl rfl hlink
      exact ⟨_, exec_rxFrame_of_lost hup hlen hsync hdue ((heven h _).trans (evenSlot0_of_lost hb (by exact hrun))), hfall⟩
    · have hrun' : s.turned.sli.lossCount ≤ s.turned.sli.serviceRun + 1 := by
        have : serviceRun = s.sli.serviceRun + 1 := if_pos hc
        exact this ▸ hrun
      have hfall := linkFalls_frameLoss (s := s)
        (st := State.lossState { s.turned with sli := { s.turned.sli with serviceRun := s.turned.sli.serviceRun + 1 } })
        (t := { s.turned with sli := { s.turned.sli with serviceRun := s.turned.sli.serviceRun + 1 } }) rfl rfl rfl hlink
      exact ⟨_, exec_rxFrame_of_lost hup hlen hsync hdue ((hodd h _).trans (oddSlot0_of_lost hb (by exact hc) hrun')), hfall.1⟩
    · have htimes : ∃ t, s.slot0 (slots.getD 0 0) = t ∧ t = { s with sli := t.sli } ∧ t.sli = { s.sli with
          rxOdd := true
          alignErrors := if u0 = 0xE4 then s.sli.alignErrors else min (s.sli.alignErrors + 1) 65535
          alignRun := if u0 = 0xE4 then 0 else alignRun } := by
        by_cases hb0 : u0 = 0xE4
        · refine ⟨_, (heven h _).trans (congrArg (evenSlot0 · s.turned) hb0), rfl, ?_⟩
          rw [if_pos hb0, if_pos hb0, evenSlot0_of_good, State.turned, h]
          rfl
        · refine ⟨_, (heven h _).trans (evenSlot0_of_bad hb0 (hb.resolve_left hb0)), rfl, ?_⟩
          rw [if_neg hb0, if_neg hb0, State.alignBad, State.turned, h]
          rfl
      obtain ⟨t, ht, hrest, hsli⟩ := htimes
      have hexec : exec (.rxFrame slots) s = .next (mfLost (noteMark false t)) := by
        rw [exec_rxFrame_of_sync hup hlen hsync hdue, ht, if_pos (by rw [hsli]; exact hsync), h,
          mfFrame_of_lost (by rw [hsli]; exact hmf) (by rw [hsli]; exact h0) hm (by rw [hsli]; exact hmiss)]
        rfl
      obtain ⟨hfall, hsearch, htimer, herrors, hruns⟩ := linkFalls_mfLost (s := s) (t := noteMark false t)
        (by rw [noteMark, hrest]) (by rw [noteMark, hsli])
      have hframe : (noteMark false t).sli.frame = .sync := by rw [noteMark, hsli]; exact hsync
      have hlosses : (noteMark false t).sli.losses = s.sli.losses := by rw [noteMark, hsli]
      rw [hframe, hlosses] at hfall
      exact ⟨_, hexec, hfall, hsearch, htimer, herrors.trans (by rw [noteMark, hsli]), hruns.trans (by rw [noteMark, hsli])⟩
    · have hgood := (heven h _).trans (evenSlot0_of_good s.turned)
      have hbad := (heven h _).trans (evenSlot0_of_bad hb (s := s.turned) hrun)
      refine ⟨_, exec_rxFrame_of_mfSync hup (length_slot0 _ hlen) hsync hdue hgood hsync hmf
        (by rw [marked_slot0]; exact hm), ?_⟩
      rw [exec_rxFrame_of_mfSync hup hlen hsync hdue hbad hsync hmf hm, mfContents_slot0_cons, State.markNoted_slot0]
      have htakes := takesContents_mfContents slots
        (State.markNoted { s.turned with sli := { s.turned.sli with alignRun := 0 } } slots s.sli.rxOdd)
      have hruns := mfContents_withRuns (min (s.sli.alignErrors + 1) 65535) (s.sli.alignRun + 1) s.sli.serviceRun slots
        (State.markNoted { s.turned with sli := { s.turned.sli with alignRun := 0 } } slots s.sli.rxOdd)
      refine congrArg Host.Outcome.next (Eq.trans hruns ?_)
      generalize mfContents slots _ = w at htakes ⊢
      unfold TakesContents at htakes
      rw [htakes]
      rfl
    · have halarm : ((if s.sli.rxAlarm then 0x7F else 0x3F : Byte).getLsbD 6) = s.sli.rxAlarm := by
        cases s.sli.rxAlarm <;> decide
      have hclear : (if s.sli.rxAlarm then 0x7F else 0x3F : Byte).getLsbD 7 = false := by
        cases s.sli.rxAlarm <;> decide
      have hgood := (hodd h _).trans (oddSlot0_of_good (s := s.turned) hclear (.inr (by
        rw [halarm]
        exact (Bool.eq_false_or_eq_true s.sli.rxAlarm))))
      have hbad : s.slot0 (slots.getD 0 0) = { s.turned with sli := { s.turned.sli with serviceRun := serviceRun } } := by
        rw [hodd h]
        cases hcheck : s.sli.serviceCheck with
        | true =>
          have hrun : serviceRun = s.sli.serviceRun + 1 := if_pos hcheck
          rw [hrun]
          exact oddSlot0_of_bad hb (by exact hcheck) (by exact hrun ▸ hc.resolve_left (by simp [hcheck]))
        | false =>
          have hrun : serviceRun = s.sli.serviceRun := if_neg (by simp [hcheck])
          rw [hrun]
          exact oddSlot0_of_unchecked hb (by exact hcheck)
      rw [halarm] at hgood
      refine ⟨_, exec_rxFrame_of_mfSync hup (length_slot0 _ hlen) hsync hdue hgood hsync hmf
        (by rw [marked_slot0]; exact hm), ?_⟩
      rw [exec_rxFrame_of_mfSync hup hlen hsync hdue hbad hsync hmf hm, mfContents_slot0_cons, State.markNoted_slot0]
      have htakes := takesContents_mfContents slots (State.markNoted
        { s.turned with sli := { s.turned.sli with serviceRun := 0, rxAlarm := s.sli.rxAlarm } } slots s.sli.rxOdd)
      have hruns := mfContents_withRuns s.sli.alignErrors s.sli.alignRun serviceRun slots (State.markNoted
        { s.turned with sli := { s.turned.sli with serviceRun := 0, rxAlarm := s.sli.rxAlarm } } slots s.sli.rxOdd)
      refine congrArg Host.Outcome.next (Eq.trans hruns ?_)
      generalize mfContents slots _ = w at htakes ⊢
      unfold TakesContents at htakes
      rw [htakes]
      rfl
    · rw [exec_rxFrame_of_sync hup hlen hsync hdue,
        exec_rxFrame_of_sync (s := { s with sli := { s.sli with rxAlarm := false } }) hup hlen hsync hdue,
        hodd h, oddSlot0_of_good hb (.inr (.inr h6)),
        show State.slot0 { s with sli := { s.sli with rxAlarm := false } } (slots.getD 0 0)
          = { s.turned with sli := { s.turned.sli with serviceRun := 0, rxAlarm := (slots.getD 0 0).getLsbD 6 } } from
          (by rw [State.slot0, h]; exact oddSlot0_of_good hb (.inr (.inr h6)))]
    · have hslot := (hodd h _).trans (oddSlot0_of_rise hb hlink (by exact ha) h6)
      obtain ⟨t, ht⟩ : ∃ t : State, t = { s.turned with sli := { s.turned.sli with serviceRun := 0, rxAlarm := true } } := ⟨_, rfl⟩
      rw [← ht] at hslot
      have hends := (suspendSending_blocksEnd t).frame
      have hblocks := suspendSending_outBlocks t
      generalize suspendSending t = v at hslot hends hblocks
      have hv : v.sli.frame = .sync ∧ v.sli.mf = .mfSync ∧ v.sli.rxAlarm = true ∧ v.sli.txPos = 0
          ∧ v.sli.outBlocks = s.sli.outBlocks.filter fun e => !e.2.announced := by
        rw [ht] at hblocks
        rw [hends, ht]
        exact ⟨hsync, hmf, rfl, rfl, hblocks⟩
      obtain ⟨hframe, hmfv, halarm, hpos, hout⟩ := hv
      obtain ⟨halarm', hpos', hout'⟩ := mfFrame_sending (slots := slots) (odd := s.sli.rxOdd) hmfv
      refine ⟨_, exec_rxFrame_of_sync hup hlen hsync hdue, ?_⟩
      rw [hslot, if_pos hframe]
      refine ⟨halarm'.trans halarm, hpos'.elim (·.trans hpos) id, ?_⟩
      obtain hout' | hout' := hout'
      · exact hout'.trans hout
      · rw [hout', hout, List.filter_filter]
        simp only [Bool.and_self]
    · rw [exec_rxFrame_of_sync hup hlen hsync hdue,
        exec_rxFrame_of_sync (s := { s with sli := { s.sli with rxAlarm := true, txPos := 0 } }) hup hlen hsync hdue,
        hodd h, oddSlot0_of_rise hb hlink (by exact ha) h6,
        suspendSending_of_none (s := { s.turned with sli := { s.turned.sli with serviceRun := 0, rxAlarm := true } }) hnone,
        show State.slot0 { s with sli := { s.sli with rxAlarm := true, txPos := 0 } } (slots.getD 0 0)
          = { s.turned with sli := { s.turned.sli with serviceRun := 0, rxAlarm := (slots.getD 0 0).getLsbD 6, txPos := 0 } } from
          (by rw [State.slot0, h]; exact oddSlot0_of_good hb (.inr (.inl rfl))),
        show (slots.getD 0 0).getLsbD 6 = true from h6]

end Sys2Proof.Machine
end

section
/-! PROOFS. The scheduler's choices and the CHG's zone: the first of the candidates, the free line, who is eligible, and the
longest prefix that fits (R102, R179). -/

namespace Sys2Proof.Machine

set_option Elab.async false

/-! ## The first eligible destination (R102) -/

/-- The order of the scheduler, written out. -/
theorem Candidate.before_iff {a b : Candidate} : a.before b = true ↔ a.priority < b.priority
    ∨ (a.priority = b.priority ∧ (a.submission < b.submission ∨ (a.submission = b.submission ∧ a.index < b.index))) := by
  simp [Candidate.before]

theorem Candidate.not_before_self (a : Candidate) : ¬a.before a = true := by
  rw [Candidate.before_iff]
  omega

theorem Candidate.before_trans {a b c : Candidate} (h : a.before b = true) (h' : b.before c = true) : a.before c = true := by
  rw [Candidate.before_iff] at *
  omega

/-- The better of the candidate held and that of one more destination record. -/
def State.better (s : State) (best : Option Candidate) (e : Nat × Dest) : Option Candidate :=
  match s.candidate e.1 e.2, best with
  | none, b => b
  | some c, none => some c
  | some c, some b => if c.before b then some c else some b

theorem State.firstEligible_eq (s : State) : s.firstEligible = s.dju.dests.foldl s.better none := rfl

theorem State.better_of_none {s : State} {e : Nat × Dest} (h : s.candidate e.1 e.2 = none) (best : Option Candidate) :
    s.better best e = best := by
  unfold State.better
  rw [h]

/-- The better of two is one of them, and neither of them comes before it. -/
theorem State.better_of_some {s : State} {e : Nat × Dest} {c : Candidate} (h : s.candidate e.1 e.2 = some c)
    (best : Option Candidate) : ∃ r, s.better best e = some r ∧ (r = c ∨ best = some r) ∧ ¬c.before r = true
      ∧ ∀ b, best = some b → ¬b.before r = true := by
  unfold State.better
  rw [h]
  cases best with
  | none => exact ⟨c, rfl, .inl rfl, c.not_before_self, fun _ hb => nomatch hb⟩
  | some b =>
    by_cases hc : c.before b = true
    · refine ⟨c, if_pos hc, .inl rfl, c.not_before_self, fun _ hb hbefore => ?_⟩
      cases hb
      exact b.not_before_self (Candidate.before_trans hbefore hc)
    · refine ⟨b, if_neg hc, .inr rfl, hc, fun _ hb => ?_⟩
      cases hb
      exact b.not_before_self

/-- What is left at the end of the records is one of the candidates, and none of them comes before it. -/
theorem State.better_foldl (s : State) (l : List (Nat × Dest)) (best : Option Candidate) :
    (l.foldl s.better best = none ↔ best = none ∧ ∀ e ∈ l, s.candidate e.1 e.2 = none)
      ∧ ∀ c, l.foldl s.better best = some c → (best = some c ∨ ∃ e ∈ l, s.candidate e.1 e.2 = some c)
        ∧ (∀ b, best = some b → ¬b.before c = true)
        ∧ ∀ e ∈ l, ∀ b, s.candidate e.1 e.2 = some b → ¬b.before c = true := by
  induction l generalizing best with
  | nil =>
    refine ⟨by simp, fun c hc => ⟨.inl hc, fun b hb => ?_, by simp⟩⟩
    have hbc : b = c := Option.some.inj (hb.symm.trans hc)
    rw [hbc]
    exact c.not_before_self
  | cons e l ih =>
    rw [List.foldl_cons]
    cases he : s.candidate e.1 e.2 with
    | none =>
      rw [State.better_of_none he]
      obtain ⟨hnone, hsome⟩ := ih best
      refine ⟨by simp [hnone, he], fun c hc => ?_⟩
      obtain ⟨hin, hbest, hrest⟩ := hsome c hc
      refine ⟨hin.imp id fun ⟨x, hx, hxc⟩ => ⟨x, List.mem_cons_of_mem _ hx, hxc⟩, hbest, ?_⟩
      rw [List.forall_mem_cons]
      exact ⟨fun b hb => absurd (he.symm.trans hb) (by simp), hrest⟩
    | some a =>
      obtain ⟨r, hr, hone, ha, hkeep⟩ := State.better_of_some he best
      obtain ⟨hnone, hsome⟩ := ih (some r)
      rw [hr]
      refine ⟨by simp [hnone, he], fun c hc => ?_⟩
      obtain ⟨hin, hbest, hrest⟩ := hsome c hc
      have hover {b : Candidate} (hb : ¬b.before r = true) : ¬b.before c = true := fun hbc => by
        have hrc := hbest r rfl
        rw [Candidate.before_iff] at hb hrc hbc
        omega
      refine ⟨?_, fun b hb => hover (hkeep b hb), ?_⟩
      · obtain h | ⟨x, hx, hxc⟩ := hin
        · obtain rfl : r = c := Option.some.inj h
          obtain rfl | hb := hone
          · exact .inr ⟨e, List.mem_cons_self, he⟩
          · exact .inl hb
        · exact .inr ⟨x, List.mem_cons_of_mem _ hx, hxc⟩
      · rw [List.forall_mem_cons]
        exact ⟨fun b hb => by
          rw [← Option.some.inj (he.symm.trans hb)]
          exact hover ha, hrest⟩

/-! ## The free line (R102) -/

theorem allLines_find?_iff (p : Line → Bool) (n : Line) :
    allLines.find? p = some n ↔ p n = true ∧ ∀ m, m < n → ¬p m = true := by
  have hget (i : Nat) (hi : i < allLines.length) : allLines[i] = ⟨i, by simpa [allLines] using hi⟩ := by
    simp [allLines]
  rw [List.find?_eq_some_iff_getElem]
  constructor
  · rintro ⟨hn, i, hi, hin, hbefore⟩
    refine ⟨hn, fun m hm => ?_⟩
    rw [hget] at hin
    have hmi : m.val < i := by rw [← hin] at hm; exact hm
    have := hbefore m.val hmi
    rw [hget] at this
    simpa using this
  · rintro ⟨hn, hbefore⟩
    have hlen : n.val < allLines.length := by simp [allLines]
    refine ⟨hn, n.val, hlen, hget n.val hlen, fun j hj => ?_⟩
    rw [hget]
    simpa using hbefore ⟨j, by omega⟩ hj

theorem LineUse.dials_iff {u : LineUse} : u.dials = true ↔ u = .outOnly ∨ u = .both := by
  cases u <;> simp [LineUse.dials]

theorem State.freeLine_iff (s : State) (n : Line) : s.freeLine = some n ↔
    s.outboundCount < s.lne.ceiling ∧ (s.line n).state = .idle ∧ ((s.plan n).use = .outOnly ∨ (s.plan n).use = .both)
      ∧ ∀ m, m < n → ¬((s.line m).state = .idle ∧ ((s.plan m).use = .outOnly ∨ (s.plan m).use = .both)) := by
  have hfree (m : Line) : ((s.line m).state == .idle && (s.plan m).use.dials) = true
      ↔ (s.line m).state = .idle ∧ ((s.plan m).use = .outOnly ∨ (s.plan m).use = .both) := by
    rw [Bool.and_eq_true, beq_iff_eq, LineUse.dials_iff]
  unfold State.freeLine
  split
  · rename_i hcount
    rw [allLines_find?_iff]
    simp only [hfree, hcount, true_and, and_assoc]
  · rename_i hcount
    simp [hcount]

/-! ## Who is eligible (R102, R186) -/

theorem State.dialled_iff (s : State) (digits : List Byte) : s.dialled digits = true ↔
    ∃ (m : Line) (k : Nat) (t : Dest), (s.line m).dir = some .outbound ∧ (s.line m).dest = some k ∧ s.dest? k = some t
      ∧ t.digits = digits := by
  simp [State.dialled, State.isOutbound, State.lineDest, mem_allLines, Option.bind_eq_some_iff]

theorem Account.covers_iff {a : Account} (h : a.state = .opened) (v : Nat) :
    a.covers v = true ↔ ∀ l, a.limit = some l → v ≤ l - a.spent - a.reserved := by
  cases hl : a.limit <;> simp [Account.covers, Account.available, h, hl]

theorem State.canReserve_iff (s : State) (i v : Nat) : s.canReserve i v = true ↔
    (s.account i).state = .opened
      ∧ (∀ l, (s.account i).limit = some l → v ≤ l - (s.account i).spent - (s.account i).reserved)
      ∧ s.chg.logInUse + s.chg.logReserved < 4096 := by
  rw [State.canReserve, Bool.and_eq_true, Bool.and_eq_true, beq_iff_eq, State.logHasRoom, decide_eq_true_eq, and_assoc]
  exact and_congr_right fun h => by rw [Account.covers_iff h]

/-- The page at a place can be sent. -/
theorem State.sealedAt_iff (s : State) (place : Option (Option Nat)) :
    (match place.join.bind s.page? with
      | none => false
      | some p => p.isSealed) = true ↔ ∃ p q, place = some (some p) ∧ s.page? p = some q ∧ q.state ≠ .filling := by
  rcases place with _ | _ | p
  · simp
  · simp
  · cases hq : s.page? p with
    | none => simp [hq]
    | some q => simp [hq, PageRec.isSealed]

theorem State.candidate_eq {s : State} {t : Dest} {j : Job} {d : Doc} (hj : s.job? t.job = some j)
    (hd : s.doc? j.doc = some d) (k : Nat) :
    s.candidate k t = if s.eligible t j d then some ⟨j.priority, j.submission, t.index, k⟩ else none := by
  simp only [State.candidate, State.jobOf, hj, hd]

theorem State.eligible_iff (s : State) (t : Dest) (j : Job) (d : Doc) : s.eligible t j d = true ↔
    (t.state = .pending ∨ (t.state = .retryWait ∧ t.nextTry ≤ (s.chg.seconds : Int)))
      ∧ (j.state = .queued ∨ j.state = .active) ∧ j.sessions < j.spread
      ∧ (∀ (m : Line) k' t', (s.line m).dir = some .outbound → (s.line m).dest = some k' → s.dest? k' = some t' →
          t'.digits ≠ t.digits)
      ∧ s.chg.clockSet = true
      ∧ s.canReserve j.account (s.reservationOf j.account t.digits (d.places.length - t.confirmed)).2 = true
      ∧ ∃ p q, d.places[t.confirmed]? = some (some p) ∧ s.page? p = some q ∧ q.state ≠ .filling := by
  have hdialled : (!s.dialled t.digits) = true ↔ ∀ (m : Line) k' t', (s.line m).dir = some .outbound →
      (s.line m).dest = some k' → s.dest? k' = some t' → t'.digits ≠ t.digits := by
    rw [Bool.not_eq_true', ← Bool.not_eq_true, State.dialled_iff]
    exact ⟨fun h m k t' h1 h2 h3 h4 => h ⟨m, k, t', h1, h2, h3, h4⟩, fun h ⟨m, k, t', h1, h2, h3, h4⟩ => h m k t' h1 h2 h3 h4⟩
  rw [State.eligible]
  simp only [Bool.and_eq_true, Bool.or_eq_true, beq_iff_eq, decide_eq_true_eq, hdialled, and_assoc]
  exact and_congr_right fun _ => and_congr_right fun _ => and_congr_right fun _ => and_congr_right fun _ =>
    and_congr_right fun _ => and_congr_right fun _ => s.sealedAt_iff _

/-! ## The zone (R179) -/

/-- The record beats the one held: none is, or a shorter one. -/
def TariffPrefix.beats (p : TariffPrefix) : Option TariffPrefix → Bool
  | none => true
  | some q => decide (q.count < p.count)

theorem bestPrefix_cons (dial : List Byte) (best : Option TariffPrefix) (p : TariffPrefix) (l : List TariffPrefix) :
    bestPrefix dial best (p :: l) = bestPrefix dial (if p.fits dial && p.beats best then some p else best) l := by
  cases best <;> rfl

theorem bestPrefix_append (dial : List Byte) (best : Option TariffPrefix) (l l' : List TariffPrefix) :
    bestPrefix dial best (l ++ l') = bestPrefix dial (bestPrefix dial best l) l' := by
  induction l generalizing best with
  | nil => rfl
  | cons p l ih => rw [List.cons_append, bestPrefix_cons, bestPrefix_cons, ih]

/-- No record that fits is found among those of which none fits. -/
theorem bestPrefix_of_none {dial : List Byte} {l : List TariffPrefix} (h : ∀ p ∈ l, p.fits dial = false)
    (best : Option TariffPrefix) : bestPrefix dial best l = best := by
  induction l with
  | nil => rfl
  | cons p l ih =>
    rw [List.forall_mem_cons] at h
    rw [bestPrefix_cons, h.1, Bool.false_and]
    exact ih h.2

/-- Records no longer than the one held do not take its place. -/
theorem bestPrefix_of_longest {dial : List Byte} {l : List TariffPrefix} {p : TariffPrefix}
    (h : ∀ q ∈ l, q.fits dial = true → q.count ≤ p.count) : bestPrefix dial (some p) l = some p := by
  induction l with
  | nil => rfl
  | cons q l ih =>
    rw [List.forall_mem_cons] at h
    obtain ⟨hq, hl⟩ := h
    rw [bestPrefix_cons, if_neg (by
      rw [Bool.and_eq_true, TariffPrefix.beats, decide_eq_true_eq]
      exact fun ⟨hfits, hlt⟩ => absurd (hq hfits) (by omega))]
    exact ih hl

/-- A record longer than all that fit before it takes their place. -/
theorem bestPrefix_of_shorter {dial : List Byte} {l : List TariffPrefix} {p : TariffPrefix} {best : Option TariffPrefix}
    (hbest : ∀ q, best = some q → q.count < p.count) (h : ∀ q ∈ l, q.fits dial = true → q.count < p.count) (hp : p.fits dial = true) :
    bestPrefix dial best (l ++ [p]) = some p := by
  induction l generalizing best with
  | nil =>
    cases best with
    | none => simp [bestPrefix, hp]
    | some q => simp [bestPrefix, hp, hbest q rfl]
  | cons q l ih =>
    rw [List.forall_mem_cons] at h
    rw [List.cons_append, bestPrefix_cons]
    refine ih (fun r hr => ?_) h.2
    split at hr
    · rename_i hq
      obtain ⟨hfits, -⟩ := (Bool.and_eq_true _ _).mp hq
      cases hr
      exact h.1 hfits
    · exact hbest r hr

theorem zoneOf_of_none {ps : List TariffPrefix} {dial : List Byte} (h : ∀ p ∈ ps, p.fits dial = false) : zoneOf ps dial = 31 := by
  rw [zoneOf, bestPrefix_of_none h]

/-- The zone is that of the longest record that fits, the first of equal ones. -/
theorem zoneOf_of_best {ps : List TariffPrefix} {dial : List Byte} {i : Nat} {p : TariffPrefix} (hi : ps[i]? = some p)
    (hp : p.fits dial = true) (hlong : ∀ q ∈ ps, q.fits dial = true → q.count ≤ p.count)
    (hfirst : ∀ (h : Nat) (q : TariffPrefix), h < i → ps[h]? = some q → q.fits dial = true → q.count < p.count) :
    zoneOf ps dial = p.zone := by
  obtain ⟨hlt, hget⟩ := List.getElem?_eq_some_iff.mp hi
  have hsplit : ps = (ps.take i ++ [p]) ++ ps.drop (i + 1) := by
    rw [List.append_assoc, List.singleton_append, ← hget, List.getElem_cons_drop, List.take_append_drop]
  have hbefore : ∀ q ∈ ps.take i, q.fits dial = true → q.count < p.count := fun q hq hfits => by
    obtain ⟨h, hh⟩ := List.mem_iff_getElem?.mp hq
    have hhi : h < i := (List.getElem?_eq_some_iff.mp hh).1.trans_le (List.length_take_le _ _)
    exact hfirst h q hhi ((List.getElem?_take_of_lt hhi).symm.trans hh) hfits
  have hbest : bestPrefix dial none ps = some p := by
    rw [hsplit, bestPrefix_append, bestPrefix_of_shorter (by simp) hbefore hp]
    exact bestPrefix_of_longest fun q hq => hlong q (List.mem_of_mem_drop hq)
  rw [zoneOf, hbest]

end Sys2Proof.Machine
end

section
/-! PROOFS. A scheduler pass and the call that it starts (R101, R102, R128, R186). -/

namespace Sys2Proof.Machine

set_option Elab.async false

/-! ## The call (R102, R186) -/

/-- The state of a pass: its occasion has been taken. -/
def State.inPass (s : State) : State := { s with dju := { s.dju with passDue := false } }

/-- The call record of a new call, with its zone and reservation `z`. -/
def CallRec.reserved (account : Nat) (t : Dest) (z : Nat × Nat) : CallRec :=
  { account, job := t.job, destIndex := t.index, dial := t.digits.filter fun ch => ch != comma, zone := z.1, reservation := z.2,
    answered := false, band := 0, rate := Rate.empty, answerTime := 0, connected := 0 }

/-- The account that a reservation of `h` is made on. -/
def Account.reserving (a : Account) (h : Nat) : Account := { a with reserved := a.reserved + h }

/-- The destination that a call on line `n` is made to. -/
def Dest.called (t : Dest) (n : Line) : Dest := { t with state := .dialling, line := some n.val }

/-- The job that a call is made for. -/
def Job.called (j : Job) : Job :=
  { j with sessions := j.sessions + 1, started := true, state := if j.state = .queued then .active else j.state }

/-- The state in which a call of job `j` to destination `k` has been booked and the line not yet been seized. -/
def State.booked (s : State) (n : Line) (k : Nat) (t : Dest) (j : Job) (pages : Nat) : State :=
  putJob t.job j.called (putDest k (t.called n) (reserveCall n j.account t.job t.index t.digits pages s))

theorem startCall_eq {s : State} {n : Line} {k : Nat} {t : Dest} {j : Job} (ht : s.dest? k = some t) (hj : s.job? t.job = some j) :
    startCall n k s = startSession n k (t.called n) j.doc
      (s.booked n k t j (((s.doc? j.doc).map fun d => d.places.length - t.confirmed).getD 0)) := by
  simp only [startCall, ht, State.jobOf, hj]
  rfl

/-- What a booked call has changed. -/
theorem State.booked_spec (s : State) (n : Line) (k : Nat) (t : Dest) (j : Job) (pages : Nat) :
    ∃ m, s.booked n k t j pages = { s with
        dju := { s.dju with dests := Tab.set s.dju.dests k (t.called n), jobs := Tab.set s.dju.jobs t.job j.called }
        chg := { s.chg with
          logReserved := s.chg.logReserved + 1
          accounts := Tab.set s.chg.accounts j.account
            ((s.account j.account).reserving (s.reservationOf j.account t.digits pages).2)
          calls := Tab.set s.chg.calls n.val (CallRec.reserved j.account t (s.reservationOf j.account t.digits pages)) }
        dram := m }
      ∧ unchangedOutside [(s.destAddr k, 64), (s.jobAddr t.job, 128), (s.por (0x38000 + 64 * j.account), 64)] s.dram m := by
  refine ⟨_, rfl, ?_⟩
  refine (((unchangedOutside_refl _ s.dram).write (a := s.por (0x38000 + 64 * j.account)) (n := 64) (by simp) ?_).write
    (a := s.destAddr k) (n := 64) (by simp) ?_).write (a := s.jobAddr t.job) (n := 128) (by simp) ?_
  all_goals simp

/-- The line of a started call. -/
theorem setsLine_startSession (n : Line) (k : Nat) (t : Dest) (doc : Nat) (s : State) :
    SetsLine n { LineRec.default with
        dir := some .outbound, dest := some k, job := some t.job, doc := some doc, state := .seizing, timer := some .seize
        remaining := s.lne.timers.seize } (hand n .seize s) (startSession n k t doc s) := by
  have h := ((setsLine_setLine n { LineRec.default with
    dir := some .outbound, dest := some k, job := some t.job, doc := some doc } s).hand n .seize).enter .seizing id
  have htimers : (hand n .seize s).lne.timers = s.lne.timers := by rw [hand_eq]
  rw [htimers] at h
  exact h

/-! ## The pass (R101) -/

theorem schedule_of_none {s : State} (h : s.freeLine = none ∨ s.firstEligible = none) (fuel : Nat) : schedule fuel s = s := by
  cases fuel with
  | zero => rfl
  | succ fuel =>
    unfold schedule
    obtain h | h := h
    · rw [h]
    · rw [h]
      cases s.freeLine <;> rfl

theorem schedule_of_some {s : State} {n : Line} {c : Candidate} (hn : s.freeLine = some n) (hc : s.firstEligible = some c)
    (fuel : Nat) : schedule (fuel + 1) s = schedule fuel (startCall n c.dest s) := by
  rw [schedule, hn, hc]

theorem State.freeLine_of_ceiling {s : State} (h : s.lne.ceiling ≤ s.outboundCount) : s.freeLine = none :=
  if_neg (Nat.not_lt.mpr h)

/-- One more outbound session. -/
theorem outboundCount_succ_le {s t : State} {n : Line} (hs : (s.line n).dir ≠ some .outbound)
    (ht : (t.line n).dir = some .outbound) (hrest : ∀ m, m ≠ n → t.line m = s.line m) :
    s.outboundCount + 1 ≤ t.outboundCount := by
  have hout : ∀ m, s.isOutbound m = true → m ≠ n ∧ t.isOutbound m = true := fun m hm => by
    have hmn : m ≠ n := fun h => hs (by rw [← h]; simpa [State.isOutbound] using hm)
    exact ⟨hmn, by rw [State.isOutbound, hrest m hmn]; exact hm⟩
  have hsub : n :: allLines.filter (fun m => s.isOutbound m) ⊆ allLines.filter fun m => t.isOutbound m := by
    intro m hm
    rw [List.mem_filter]
    refine ⟨mem_allLines m, ?_⟩
    obtain rfl | hm := List.mem_cons.mp hm
    · simp [State.isOutbound, ht]
    · exact (hout m (List.mem_filter.mp hm).2).2
  have hnodup : (n :: allLines.filter fun m => s.isOutbound m).Nodup :=
    List.nodup_cons.mpr ⟨fun hm => (hout n (List.mem_filter.mp hm).2).1 rfl, allLines_nodup.filter _⟩
  exact (List.subperm_of_subset hnodup hsub).length_le

theorem exec_schedulerPass_of_due {s : State} (hrun : s.rgw.state = .run) (hdue : s.dju.passDue = true) :
    exec .schedulerPass s = .next (schedule 8 s.inPass) :=
  congrArg Host.Outcome.next (if_pos (by simp [State.isRun, hrun, hdue]))

/-- Settles O50: the order and the free line, the pass that starts one call, and who is eligible at which reservation. -/
theorem scheduling : Obligations.Scheduling := by
  refine ⟨fun s => ⟨fun c hc => ?_, ?_, s.freeLine_iff⟩, fun s hrun hdue => ⟨fun h => ?_, fun n c t j hn hc ht hj hdir hceil => ?_⟩,
    fun s k t j d hj hd => ?_⟩
  · obtain ⟨-, hsome⟩ := s.better_foldl s.dju.dests none
    obtain ⟨hin, -, hfirst⟩ := hsome c hc
    refine ⟨hin.resolve_left (by simp), fun e he b hb hbefore => hfirst e he b hb (Candidate.before_iff.mpr hbefore)⟩
  · have hnone := (s.better_foldl s.dju.dests none).1
    rw [← State.firstEligible_eq] at hnone
    simpa using hnone
  · exact (exec_schedulerPass_of_due hrun hdue).trans (congrArg _ (schedule_of_none (s := s.inPass) h 8))
  · intro pages z
    obtain ⟨m, hbooked, hmem⟩ := s.inPass.booked_spec n c.dest t j pages
    have hstart : startCall n c.dest s.inPass = startSession n c.dest (t.called n) j.doc (s.inPass.booked n c.dest t j pages) :=
      startCall_eq (s := s.inPass) ht hj
    obtain ⟨hframe, hself, hothers, hdram⟩ :=
      (setsLine_startSession n c.dest (t.called n) j.doc (s.inPass.booked n c.dest t j pages)).after (onlySli_hand ..)
    have hsli : (hand n .seize (s.inPass.booked n c.dest t j pages)).sli = (hand n .seize s).sli :=
      hand_sli n .seize (by rw [hbooked]; rfl)
    rw [hsli] at hframe
    have hspan : (s.inPass.booked n c.dest t j pages).lineSpan n = (s.por (0x80 + 256 * n.val), 256) := by rw [hbooked]; rfl
    rw [hspan] at hdram
    have hother (k : Line) (hk : k ≠ n) :
        (startSession n c.dest (t.called n) j.doc (s.inPass.booked n c.dest t j pages)).line k = s.line k := by
      rw [hothers k hk, hbooked]
      rfl
    have hfull : (startSession n c.dest (t.called n) j.doc (s.inPass.booked n c.dest t j pages)).freeLine = none := by
      refine State.freeLine_of_ceiling ?_
      have hcount := outboundCount_succ_le (s := s) hdir (by rw [hself]) hother
      have hsame : (startSession n c.dest (t.called n) j.doc (s.inPass.booked n c.dest t j pages)).lne.ceiling = s.lne.ceiling := by
        rw [hframe, hbooked]
        rfl
      omega
    have hexec : exec .schedulerPass s
        = .next (startSession n c.dest (t.called n) j.doc (s.inPass.booked n c.dest t j pages)) := by
      rw [exec_schedulerPass_of_due hrun hdue, schedule_of_some (s := s.inPass) hn hc, hstart, schedule_of_none (.inl hfull)]
    refine ⟨_, hexec, ?_⟩
    generalize startSession n c.dest (t.called n) j.doc (s.inPass.booked n c.dest t j pages) = u
      at hframe hself hothers hdram hother ⊢
    rw [hbooked] at hframe hself hdram
    refine ⟨?_, hself, hother, ?_, ?_, ?_, ?_, ?_, ?_⟩
    · rw [hframe]
      rfl
    · rw [hframe]; exact Tab.get?_set_self ..
    · intro i hi
      rw [hframe]; exact Tab.get?_set_of_ne _ _ hi
    · rw [hframe]; exact Tab.get?_set_self ..
    · rw [hframe]; exact Tab.getD_set_self ..
    · rw [hframe]; exact Tab.get?_set_self ..
    · have hbook : unchangedOutside [(s.destAddr c.dest, 64), (s.jobAddr t.job, 128), (s.por (0x38000 + 64 * j.account), 64)]
        s.dram m := hmem
      exact (hbook.trans hdram).of_subset (by simp)
  · intro pages z a dial fits r p
    have hfits (q : TariffPrefix) : fits q = q.fits dial := by
      simp only [fits, TariffPrefix.fits, TariffPrefix.isValid, TariffPrefix.text]
      ac_rfl
    have hz : z.1 = zoneOf s.chg.prefixes dial := rfl
    have hcand := State.candidate_eq hj hd k
    refine ⟨?_, ?_, fun h => ?_, fun i q hi hq hlong hfirst => ?_, rfl⟩
    · rw [hcand]
      split
      · exact .inr rfl
      · exact .inl rfl
    · have hsome : (s.candidate k t).isSome = true ↔ s.eligible t j d = true := by
        rw [hcand]
        split <;> simp_all
      rw [hsome, State.eligible_iff, State.canReserve_iff]
      simp only [and_assoc]
      rfl
    · rw [hz]
      exact zoneOf_of_none fun q hq => by rw [← hfits]; exact h q hq
    · rw [hz]
      exact zoneOf_of_best hi (by rw [← hfits]; exact hq) (fun x hx hx' => hlong x hx (by rw [hfits]; exact hx'))
        (fun h x hh hx hx' => hfirst h x hh hx (by rw [hfits]; exact hx'))

end Sys2Proof.Machine
end

section
/-! PROOFS. The page in hand of a sending line: its first partial page, the page that is too long, the wait for the next page,
the answered call, and the blocks (R129 to R134). -/

namespace Sys2Proof.Machine

set_option Elab.async false

/-! ## Pages taken (R129, R130, R133) -/

/-- The record of a line that sends partial page `q` of a page with `lc` bytes. -/
def LineRec.sends (l : LineRec) (t : LineTimers) (lc q : Nat) : LineRec :=
  { l with
    state := .sending, partialPage := q, blockCount := blocksOf lc q, toSend := List.range (blocksOf lc q), inFlight := false
    timer := some .blockGap, remaining := t.blockGap }

theorem SetsLine.sendPartial {n : Line} {l : LineRec} {b t : State} (h : SetsLine n l b t) {p : Nat} {r : PageRec}
    (hp : l.page = some p) (hr : b.page? p = some r) (q : Nat) :
    SetsLine n (l.sends b.lne.timers r.codedLen q) b (Machine.sendPartial n q t) := by
  have hpage : t.linePage n = some r := by
    rw [State.linePage, h.line_self, hp, h.frame]
    exact hr
  have hcount : blocksOf (((t.linePage n).map PageRec.codedLen).getD 0) q = blocksOf r.codedLen q := by rw [hpage]; rfl
  rw [Machine.sendPartial, hcount]
  exact h.enter .sending _

/-- The record of a line with page `p` in hand at position `k`. -/
def LineRec.takes (l : LineRec) (p k : Nat) : LineRec := { l with page := some p, pagePos := k, rounds := 0 }

/-- A page longer than 256 partial pages ends the session (log 24). -/
theorem setsLine_takePage_of_long (n : Line) (d : Doc) (k p : Nat) {r : PageRec} (s : State) (h : 4194304 < r.codedLen) :
    SetsLine n { (s.line n).takes p k with state := .clearing, cause := some .pageRejected, timer := some .clearing, remaining := 100 }
      (hand n .clear (hand n .abandon s)) (takePage n d k p r s) := by
  have hset := (((setsLine_modifyLine n (fun l => l.takes p k) s).hand n .abandon).hand n .clear).enter .clearing
    fun r => { r with cause := some .pageRejected }
  have htake : takePage n d k p r s = _ := if_pos h
  rw [htake]
  exact hset

/-- The state in which SESSION_PARAMS has been handed where the page asks for it. -/
def State.announced (s : State) (n : Line) (d : Doc) (k : Nat) (r : PageRec) : State :=
  if (s.line n).lastParams = some (r.cls, r.res) then s else hand n (.sessionParams r.cls r.res (pagesLeft d k)) s

theorem onlySli_announced (n : Line) (d : Doc) (k : Nat) (r : PageRec) (s : State) : OnlySli s (s.announced n d k r) := by
  unfold State.announced
  split
  · exact rfl
  · exact onlySli_hand ..

theorem SetsLine.announcePage {n : Line} {l : LineRec} {s t : State} (h : SetsLine n l s t)
    (hl : l.lastParams = (s.line n).lastParams) (d : Doc) (k : Nat) (r : PageRec) :
    SetsLine n { l with lastParams := some (r.cls, r.res) } (s.announced n d k r) (Machine.announcePage n d k r t) := by
  unfold Machine.announcePage State.announced
  rw [h.line_self, ← hl]
  split
  · rename_i hsame
    rw [← hsame]
    exact h
  · exact (h.hand n _).modify _

/-- A page that is not too long is taken, and its first partial page is sent. -/
theorem setsLine_takePage_of_fits (n : Line) (d : Doc) (k : Nat) {p : Nat} {r : PageRec} {s : State} (hr : s.page? p = some r)
    (h : r.codedLen ≤ 4194304) :
    SetsLine n ({ (s.line n).takes p k with lastParams := some (r.cls, r.res) }.sends s.lne.timers r.codedLen 0)
      (s.announced n d k r) (takePage n d k p r s) := by
  have hset := (setsLine_modifyLine n (fun l => l.takes p k) s).announcePage (by rfl) d k r
  have honly := onlySli_announced n d k r s
  have hpage : (s.announced n d k r).page? p = some r := by rw [honly]; exact hr
  have htimers : (s.announced n d k r).lne.timers = s.lne.timers := by rw [honly]
  have htake : takePage n d k p r s = _ := if_neg (Nat.not_lt.mpr h)
  rw [htake, ← htimers]
  exact hset.sendPartial (by rfl) hpage 0

/-! ## The next place (R133) -/

section

variable {n : Line} {s : State} {k d : Nat} {t : Dest} {doc : Doc}

theorem State.lineDest_of (hk : (s.line n).dest = some k) (ht : s.dest? k = some t) : s.lineDest n = some t := by
  rw [State.lineDest, hk]
  exact ht

theorem State.lineDoc_of (hd : (s.line n).doc = some d) (hdoc : s.doc? d = some doc) : s.lineDoc n = some doc := by
  rw [State.lineDoc, hd]
  exact hdoc

theorem nextPlace_of_sealed (ht : s.lineDest n = some t) (hdoc : s.lineDoc n = some doc) {p : Nat} {r : PageRec}
    (hp : doc.places[t.confirmed]? = some (some p)) (hr : s.page? p = some r) (hs : r.state ≠ .filling) :
    nextPlace n s = takePage n doc t.confirmed p r s := by
  have hsealed : r.isSealed = true := by simpa [PageRec.isSealed] using hs
  simp only [nextPlace, ht, hdoc, hp, Option.bind_some, hr, Option.map_some]
  exact if_pos hsealed

theorem nextPlace_of_filling (ht : s.lineDest n = some t) (hdoc : s.lineDoc n = some doc) {p : Nat} {r : PageRec}
    (hp : doc.places[t.confirmed]? = some (some p)) (hr : s.page? p = some r) (hs : r.state = .filling) :
    nextPlace n s = waitForData n s := by
  have hsealed : r.isSealed = false := by simp [PageRec.isSealed, hs]
  simp only [nextPlace, ht, hdoc, hp, Option.bind_some, hr, Option.map_some]
  exact if_neg (by rw [hsealed]; decide)

theorem nextPlace_of_open (ht : s.lineDest n = some t) (hdoc : s.lineDoc n = some doc)
    (hp : doc.places[t.confirmed]? = none) (hopen : doc.isFinal = false) : nextPlace n s = waitForData n s := by
  simp only [nextPlace, ht, hdoc, hp]
  exact if_neg (by rw [hopen]; decide)

theorem nextPlace_of_final (ht : s.lineDest n = some t) (hdoc : s.lineDoc n = some doc)
    (hp : doc.places[t.confirmed]? = none) (hfinal : doc.isFinal = true) : nextPlace n s = allPagesSent n s := by
  simp only [nextPlace, ht, hdoc, hp]
  exact if_pos hfinal

end

theorem Doc.isFinal_iff {d : Doc} : d.isFinal = true ↔ d.state ≠ .opened ∧ d.state ≠ .receiving := by
  cases h : d.state <;> simp [Doc.isFinal, h]

theorem pagesLeft_eq (d : Doc) (k : Nat) :
    pagesLeft d k = if d.state = .opened ∨ d.state = .receiving then 0xFF else d.places.length - k := by
  unfold pagesLeft
  by_cases h : d.isFinal = true
  · rw [if_pos h, if_neg]
    have := Doc.isFinal_iff.mp h
    tauto
  · rw [if_neg h, if_pos]
    rw [Doc.isFinal_iff] at h
    tauto

/-! ## The answered call (R129, R187) -/

/-- The call record of a call answered at the CHG's present time. -/
def CallRec.answeredAt (c : CallRec) (s : State) : CallRec :=
  { c with
    answered := true, band := s.band s.hour, rate := s.rate (4 * c.zone + s.band s.hour), answerTime := s.chg.seconds
    connected := 0 }

theorem answerCall_spec (n : Line) (s : State) :
    ∃ calls, answerCall n s = { s with chg := { s.chg with calls := calls } }
      ∧ Tab.get? calls n.val = (Tab.get? s.chg.calls n.val).map fun c => c.answeredAt s := by
  unfold answerCall
  cases h : Tab.get? s.chg.calls n.val with
  | none => exact ⟨s.chg.calls, rfl, h⟩
  | some c => exact ⟨_, rfl, Tab.get?_set_self _ _ _⟩

/-- The record of a line whose call is answered now. -/
def LineRec.answeredNow (l : LineRec) (s : State) : LineRec := { l with answered := true, answerTime := s.tenthsNow }

/-- The part as the line of an answered call looks for its page. -/
theorem answered_spec {n : Line} {s : State} {k : Nat} {t : Dest} (ht : s.dest? k = some t) :
    ∃ u, modifyDest k (fun d => { d with state := .sending }) (answerCall n (modifyLine n (fun l => l.answeredNow s) s)) = u
      ∧ u = { s with
          lne := { s.lne with lines := u.lne.lines }, dju := { s.dju with dests := u.dju.dests }
          chg := { s.chg with calls := u.chg.calls }, dram := u.dram }
      ∧ u.line n = (s.line n).answeredNow s ∧ (∀ m, m ≠ n → u.line m = s.line m)
      ∧ u.dest? k = some { t with state := .sending } ∧ (∀ j, j ≠ k → u.dest? j = s.dest? j)
      ∧ Tab.get? u.chg.calls n.val = (Tab.get? s.chg.calls n.val).map (fun c => c.answeredAt s)
      ∧ unchangedOutside [(s.por (0x80 + 256 * n.val), 256), (s.destAddr k, 64)] s.dram u.dram := by
  have hset := setsLine_modifyLine n (fun l => l.answeredNow s) s
  obtain ⟨v, hv⟩ : ∃ v, v = modifyLine n (fun l => l.answeredNow s) s := ⟨_, rfl⟩
  rw [← hv] at hset
  obtain ⟨calls, hcalls, hget⟩ := answerCall_spec n v
  have hframe := hset.frame
  have hcall (c : CallRec) : c.answeredAt v = c.answeredAt s := by rw [hframe]; rfl
  simp only [hcall] at hget
  have hvk : v.dest? k = some t := by rw [hframe]; exact ht
  have hchg : v.chg = s.chg := by rw [hframe]
  have hdest (j : Nat) : v.dest? j = s.dest? j := by rw [hframe]; rfl
  have haddr : v.destAddr k = s.destAddr k := by rw [hframe]; rfl
  have hdram := hset.dram
  have hput : modifyDest k (fun d => { d with state := .sending }) ({ v with chg := { v.chg with calls := calls } })
      = putDest k { t with state := .sending } { v with chg := { v.chg with calls := calls } } :=
    modifyDest_of_some (s := { v with chg := { v.chg with calls := calls } }) hvk _
  rw [← hv, hcalls, hput]
  refine ⟨_, rfl, ?_, hset.line_self, fun m hm => hset.line_of_ne hm, Tab.get?_set_self _ _ _, fun j hj => ?_, ?_, ?_⟩
  · generalize v = w at hframe ⊢
    rw [hframe]
    rfl
  · exact (Tab.get?_set_of_ne _ _ hj).trans (hdest j)
  · rw [← hchg]
    exact hget
  · exact (hdram.of_subset (by simp [State.lineSpan])).write (a := v.destAddr k) (n := 64) (by simp [haddr])
      (bs := Dest.bytes { t with state := .sending }) (by simp)

theorem exec_answered_of_dialling {n : Line} {s : State} (h : s.hears = true) (hst : (s.line n).state = .dialling) {k : Nat}
    (hk : (s.line n).dest = some k) :
    exec (.answered n) s = .next (nextPlace n (modifyDest k (fun d => { d with state := .sending })
      (answerCall n (modifyLine n (fun l => l.answeredNow s) s)))) := by
  have hdest : (answerCall n (modifyLine n (fun l => l.answeredNow s) s)).line n = (s.line n).answeredNow s := by
    obtain ⟨calls, hcalls, -⟩ := answerCall_spec n (modifyLine n (fun l => l.answeredNow s) s)
    rw [hcalls]
    exact (setsLine_modifyLine n (fun l => l.answeredNow s) s).line_self
  refine congrArg Host.Outcome.next ((delivered_of_hears h (by simp [hst])).trans ((if_pos hst).trans ?_))
  have hk' : ((answerCall n (modifyLine n (fun l => l.answeredNow s) s)).line n).dest = some k := by rw [hdest]; exact hk
  show nextPlace n (match ((answerCall n (modifyLine n (fun l => l.answeredNow s) s)).line n).dest with
    | none => _
    | some k => _) = _
  rw [hk'] <;> rfl

/-! ## Blocks (R131) -/

/-- The outbound buffer of a line that sends the block at `off`. -/
def State.filling (s : State) (n : Line) (r : PageRec) (off len : Nat) : State :=
  { s with sli := { s.sli with
    outBlocks := Tab.set s.sli.outBlocks n.val { bytes := s.streamBytes r.chain off len, announced := false, sent := 0 } } }

theorem fillBlock_of_ready {n : Line} {s : State} {b : Nat} {bs : List Nat} {r : PageRec} (hst : (s.line n).state = .sending)
    (hfree : (s.line n).inFlight = false) (hsend : (s.line n).toSend = b :: bs)
    (hout : Tab.get? s.sli.outBlocks n.val = none) (hr : s.linePage n = some r) :
    fillBlock n s = hand n (.block (s.line n).partialPage b (blockLength r.codedLen (s.line n).partialPage b))
      (modifyLine n (fun l => { l with toSend := bs, inFlight := true })
        (s.filling n r (blockOffset (s.line n).partialPage b) (blockLength r.codedLen (s.line n).partialPage b))) := by
  simp only [fillBlock, hsend, hr]
  exact if_pos ⟨hst, by rw [hfree]; rfl, by rw [hout]; rfl⟩

theorem fillBlock_of_not {n : Line} {s : State} (h : (s.line n).state ≠ .sending ∨ (s.line n).inFlight = true
    ∨ (s.line n).toSend = [] ∨ (Tab.get? s.sli.outBlocks n.val).isSome) : fillBlock n s = s := by
  simp only [fillBlock]
  split
  · rename_i hsend _
    refine if_neg ?_
    rintro ⟨hst, hfree, hout⟩
    obtain h | h | h | h := h
    · exact h hst
    · rw [h] at hfree
      cases hfree
    · rw [h] at hsend
      cases hsend
    · rw [Option.isNone_iff_eq_none.mp hout] at h
      cases h
  · rfl

/-- Settles O55. -/
theorem sendingPages : Obligations.SendingPages := by
  refine ⟨fun n s k d p t doc r h hst hk ht hd hdoc hp hr hs hlen hparams => ?_, fun n s => ⟨fun h => ?_,
    fun b bs p r hst hfree hsend hout hp hr => ?_⟩, fun n s k d p t doc r h hst hk ht hd hdoc hp hr hs hlen => ?_⟩
  · intro parts count left
    obtain ⟨v, hv, hframe, hself, hothers, hdest, hdests, hcalls, hdram⟩ := answered_spec (n := n) ht
    have hnext : nextPlace n v = takePage n doc t.confirmed p r v := nextPlace_of_sealed (t := { t with state := .sending })
      (State.lineDest_of (by rw [hself]; exact hk) hdest)
      (State.lineDoc_of (d := d) (by rw [hself]; exact hd) (by rw [hframe]; exact hdoc)) hp (by rw [hframe]; exact hr) hs
    have hannounced : v.announced n doc t.confirmed r = hand n (.sessionParams r.cls r.res left) v := by
      rw [State.announced, if_neg (by rw [hself]; simp [LineRec.answeredNow, hparams]), pagesLeft_eq]
    have hset := setsLine_takePage_of_fits n doc t.confirmed (p := p) (s := v) (by rw [hframe]; exact hr) hlen
    rw [hannounced] at hset
    obtain ⟨hf, hl, hls, hm⟩ := hset.after (onlySli_hand ..)
    have hsli : (hand n (.sessionParams r.cls r.res left) v).sli = (hand n (.sessionParams r.cls r.res left) s).sli :=
      hand_sli n _ (by rw [hframe])
    have htimers : v.lne.timers = s.lne.timers := by rw [hframe]
    have hspan : v.lineSpan n = (s.por (0x80 + 256 * n.val), 256) := by rw [hframe]; rfl
    rw [hself, htimers] at hl
    rw [hsli] at hf
    rw [hspan] at hm
    refine ⟨takePage n doc t.confirmed p r v, by rw [exec_answered_of_dialling h hst hk, hv, hnext], ?_⟩
    generalize takePage n doc t.confirmed p r v = u at hf hl hls hm ⊢
    refine ⟨?_, hl, fun m hne => (hls m hne).trans (hothers m hne), ?_, fun j hj => ?_, ?_, ?_⟩
    · rw [hf, hframe]
    · rw [hf]; exact hdest
    · rw [hf]; exact hdests j hj
    · rw [hf]; exact hcalls
    · exact unchangedOutside.again hdram (hm.of_subset (by simp))
  · exact congrArg Host.Outcome.next (fillBlock_of_not h)
  · intro off len buf filled
    have hpage : s.linePage n = some r := by rw [State.linePage, hp]; exact hr
    have hset := (setsLine_modifyLine n (fun l => { l with toSend := bs, inFlight := true }) filled).hand n
      (.block (s.line n).partialPage b len)
    obtain ⟨hf, hl, hls, hm⟩ := hset.after (s := filled) (onlySli_hand ..)
    exact ⟨_, congrArg Host.Outcome.next (fillBlock_of_ready hst hfree hsend hout hpage), hf, hl, hls, hm⟩
  · obtain ⟨v, hv, hframe, hself, hothers, hdest, hdests, hcalls, hdram⟩ := answered_spec (n := n) ht
    have hnext : nextPlace n v = takePage n doc t.confirmed p r v := nextPlace_of_sealed (t := { t with state := .sending })
      (State.lineDest_of (by rw [hself]; exact hk) hdest)
      (State.lineDoc_of (d := d) (by rw [hself]; exact hd) (by rw [hframe]; exact hdoc)) hp (by rw [hframe]; exact hr) hs
    obtain ⟨hf, hl, hls, hm⟩ := (setsLine_takePage_of_long n doc t.confirmed p v hlen).after ((onlySli_hand ..).hand ..)
    have hsli : (hand n .clear (hand n .abandon v)).sli = (hand n .clear (hand n .abandon s)).sli :=
      hand_sli n _ (hand_sli n _ (by rw [hframe]))
    have hspan : v.lineSpan n = (s.por (0x80 + 256 * n.val), 256) := by rw [hframe]; rfl
    rw [hself] at hl
    rw [hsli] at hf
    rw [hspan] at hm
    refine ⟨takePage n doc t.confirmed p r v, by rw [exec_answered_of_dialling h hst hk, hv, hnext], ?_⟩
    generalize takePage n doc t.confirmed p r v = u at hf hl hls hm ⊢
    refine ⟨?_, hl, fun m hne => (hls m hne).trans (hothers m hne), ?_, fun j hj => ?_, ?_, ?_⟩
    · rw [hf, hframe]
    · rw [hf]; exact hdest
    · rw [hf]; exact hdests j hj
    · rw [hf]; exact hcalls
    · exact unchangedOutside.again hdram (hm.of_subset (by simp))

end Sys2Proof.Machine
end

section
/-! PROOFS. The shelf's replies to partial pages and pages: repeats, the page confirmed, and the destination SENT (R92, R94, R97,
R132, R133). -/

namespace Sys2Proof.Machine

set_option Elab.async false

/-! ## Events and what they read -/

theorem postTagged_ceu_congr {s t : State} (hr : t.rgw = s.rgw) (hc : t.ceu = s.ceu) (hs : t.chg.seconds = s.chg.seconds)
    (kind : EventKind) (src : SourceKind) (idx tag code value : Nat) :
    (postTagged kind src idx tag code value t).ceu = (postTagged kind src idx tag code value s).ceu := by
  unfold postTagged
  rw [hr, hs]
  split
  · exact hc
  · exact deliverEvent_ceu_congr hr hc _

theorem eventSpans_congr {s t : State} (hr : t.rgw = s.rgw) (hc : t.ceu = s.ceu) : t.eventSpans = s.eventSpans := by
  rw [State.eventSpans, State.cfg, hr, hc]
  rfl

/-! ## Holds of a kept document's pages (R75, R76) -/

theorem State.keeps_of {s : State} {d : Nat} {doc : Doc} (h : s.doc? d = some doc) (hk : doc.keep = true) : s.keeps d = true := by
  simp only [State.keeps, h, hk]

/-- A page of a document that keeps its pages is not freed by a change of its holds. -/
theorem changeSendHolds_of_kept {s : State} {p : Nat} {r : PageRec} (hr : s.page? p = some r) (hk : s.keeps r.doc = true)
    (δ : Int) : changeSendHolds p δ s = putPage p { r with sendHolds := ((r.sendHolds : Int) + δ).toNat } s := by
  simp only [changeSendHolds, hr]
  split
  · rename_i hzero
    have hput : (putPage p { r with sendHolds := ((r.sendHolds : Int) + δ).toNat } s).page? p = some _ := page?_putPage_self ..
    have hkeeps : (putPage p { r with sendHolds := ((r.sendHolds : Int) + δ).toNat } s).keeps r.doc = true := hk
    simp only [testPageFree, hput]
    rw [if_neg]
    rw [hkeeps]
    simp
  · rfl

/-! ## A destination that becomes final (R92) -/

/-- What a destination's end has changed. -/
theorem finishDest_spec {s : State} {k : Nat} {t : Dest} {j : Job} (ht : s.dest? k = some t) (hj : s.job? t.job = some j)
    (st : DestState) :
    ∃ m, finishDest k st s = { s with
        dju := { s.dju with
          dests := Tab.set s.dju.dests k { t with state := st, cancelMark := false }
          jobs := Tab.set s.dju.jobs t.job (Job.count st j) }
        ceu := (postTagged .destDone .destination k j.tag st.doneCode t.confirmed s).ceu, dram := m }
      ∧ unchangedOutside ([(s.destAddr k, 64), (s.jobAddr t.job, 128)] ++ s.eventSpans) s.dram m := by
  obtain ⟨b, hb⟩ : ∃ b : State, b = putJob t.job (Job.count st j) (putDest k { t with state := st, cancelMark := false } s) := ⟨_, rfl⟩
  have hfinish : finishDest k st s = postTagged .destDone .destination k j.tag st.doneCode t.confirmed b := by
    have hput : (putDest k { t with state := st, cancelMark := false } s).job? t.job = some j := hj
    simp only [finishDest, ht, State.jobOf, hj, modifyJob_of_some hput, hb]
    rfl
  have hceu : (postTagged .destDone .destination k j.tag st.doneCode t.confirmed b).ceu = _ :=
    postTagged_ceu_congr (s := s) (by rw [hb]; rfl) (by rw [hb]; rfl) (by rw [hb]; rfl) ..
  obtain ⟨c, m, hpost, hm⟩ := postTagged_frame .destDone .destination k j.tag st.doneCode t.confirmed b
  have hspans : b.eventSpans = s.eventSpans := eventSpans_congr (by rw [hb]; rfl) (by rw [hb]; rfl)
  have hbytes : unchangedOutside [(s.destAddr k, 64), (s.jobAddr t.job, 128)] s.dram b.dram := by
    rw [hb]
    exact ((unchangedOutside_refl _ s.dram).write (a := s.destAddr k) (n := 64) (by simp)
      (bs := Dest.bytes { t with state := st, cancelMark := false }) (by simp)).write (a := s.jobAddr t.job) (n := 128) (by simp)
      (bs := (Job.count st j).bytes) (by simp)
  rw [hpost] at hceu
  rw [← hceu, hfinish, hpost]
  refine ⟨m, ?_, hspans ▸ hbytes.trans hm⟩
  rw [hb]
  rfl

/-! ## A page confirmed (R93, R94) -/

/-- The part as the line whose page is confirmed looks for the next one. -/
theorem confirmed_spec {n : Line} {s : State} {k d p : Nat} {t : Dest} {j : Job} {doc : Doc} {r : PageRec}
    (ht : s.dest? k = some t) (hj : s.job? t.job = some j) (hjd : j.doc = d)
    (hdoc : s.doc? d = some doc) (hkeep : doc.keep = true) (hp : doc.places[t.confirmed]? = some (some p))
    (hr : s.page? p = some r) (hrd : r.doc = d) :
    ∃ v, modifyLine n (fun l => { l with page := none }) (destConfirms k s) = v
      ∧ v = { s with
          lne := { s.lne with lines := v.lne.lines }, dju := { s.dju with dests := v.dju.dests }
          psm := { s.psm with pages := v.psm.pages }, dram := v.dram }
      ∧ v.line n = { s.line n with page := none } ∧ (∀ m, m ≠ n → v.line m = s.line m)
      ∧ v.dest? k = some { t with confirmed := t.confirmed + 1 } ∧ (∀ k', k' ≠ k → v.dest? k' = s.dest? k')
      ∧ v.page? p = some { r with sendHolds := r.sendHolds - 1 } ∧ (∀ q, q ≠ p → v.page? q = s.page? q)
      ∧ unchangedOutside [(s.por (0x80 + 256 * n.val), 256), (s.destAddr k, 64), (s.pageAddr p, 64)] s.dram v.dram := by
  have hnum : ((r.sendHolds : Int) + -1).toNat = r.sendHolds - 1 := by omega
  have hconfirm : destConfirms k s = putPage p { r with sendHolds := r.sendHolds - 1 }
      (putDest k { t with confirmed := t.confirmed + 1 } s) := by
    have hdocOf : s.docOf t = some d := by rw [State.docOf, State.jobOf, hj, Option.map_some, hjd]
    have hplace : ((s.docOf t).bind fun doc => (s.doc? doc).bind fun r => (r.places[t.confirmed]?).join) = some p := by
      rw [hdocOf, Option.bind_some, hdoc, Option.bind_some, hp]
      rfl
    have hkept : (putDest k { t with confirmed := t.confirmed + 1 } s).keeps r.doc = true := by
      rw [hrd]
      exact State.keeps_of hdoc hkeep
    have hput : (putDest k { t with confirmed := t.confirmed + 1 } s).page? p = some r := hr
    simp only [destConfirms, ht, hplace]
    rw [changeSendHolds_of_kept hput hkept, hnum]
  obtain ⟨b, hb⟩ : ∃ b : State, b = destConfirms k s := ⟨_, rfl⟩
  have hset := setsLine_modifyLine n (fun l => { l with page := none }) b
  rw [hconfirm] at hb
  have hline (m : Line) : b.line m = s.line m := by rw [hb]; rfl
  have hspan : b.lineSpan n = (s.por (0x80 + 256 * n.val), 256) := by rw [hb]; rfl
  have hbytes : unchangedOutside [(s.destAddr k, 64), (s.pageAddr p, 64)] s.dram b.dram := by
    rw [hb]
    exact ((unchangedOutside_refl _ s.dram).write (a := s.destAddr k) (n := 64) (by simp)
      (bs := Dest.bytes { t with confirmed := t.confirmed + 1 }) (by simp)).write (a := s.pageAddr p) (n := 64) (by simp)
      (bs := PageRec.bytes { r with sendHolds := r.sendHolds - 1 }) (by simp)
  have hdest : b.dju.dests = Tab.set s.dju.dests k { t with confirmed := t.confirmed + 1 } := by rw [hb]; rfl
  have hpage : b.psm.pages = Tab.set s.psm.pages p { r with sendHolds := r.sendHolds - 1 } := by rw [hb]; rfl
  have hframe := hset.frame
  have hself := hset.line_self
  have hbytes' := hset.dram
  rw [hspan] at hbytes'
  rw [hline] at hself
  rw [hconfirm, ← hb]
  refine ⟨_, rfl, ?_, hself, fun m hm => (hset.line_of_ne hm).trans (hline m), ?_, fun k' hk' => ?_, ?_, fun q hq => ?_, ?_⟩
  all_goals
    generalize modifyLine n (fun l => { l with page := none }) b = v at hframe hbytes' ⊢
  · rw [hb] at hframe
    rw [hframe]
    rfl
  · rw [hframe]
    show Tab.get? b.dju.dests k = _
    rw [hdest, Tab.get?_set_self]
  · rw [hframe]
    show Tab.get? b.dju.dests k' = _
    rw [hdest]
    exact Tab.get?_set_of_ne _ _ hk'
  · rw [hframe]
    show Tab.get? b.psm.pages p = _
    rw [hpage, Tab.get?_set_self]
  · rw [hframe]
    show Tab.get? b.psm.pages q = _
    rw [hpage]
    exact Tab.get?_set_of_ne _ _ hq
  · exact (hbytes.trans hbytes').of_subset (by simp)

theorem exec_pageConfirmed_of_pageWait {n : Line} {s : State} (h : s.hears = true) (hst : (s.line n).state = .pageWait) {k : Nat}
    (hk : (s.line n).dest = some k) :
    exec (.pageConfirmed n) s = .next (nextPlace n (modifyLine n (fun l => { l with page := none }) (destConfirms k s))) := by
  refine congrArg Host.Outcome.next ((delivered_of_hears h (by simp [hst])).trans ?_)
  simp only [onPageConfirmed, hst, hk, ↓reduceIte]

theorem setsLine_waitForData {n : Line} {s : State} (h : (s.line n).state ≠ .dataWait) :
    SetsLine n { s.line n with state := .dataWait, timer := some .dataWait, remaining := s.lne.timers.dataWait } s (waitForData n s) := by
  rw [waitForData, if_neg h]
  exact setsLine_enterState n .dataWait id s

/-- The state in which ABANDON has been handed unless the last page ended the document. -/
def State.abandoned (s : State) (n : Line) : State :=
  if (s.line n).lastEnd = some .docEnd then s else hand n .abandon s

theorem onlySli_abandoned (n : Line) (s : State) : OnlySli s (s.abandoned n) := by
  unfold State.abandoned
  split
  · exact rfl
  · exact onlySli_hand ..

theorem allPagesSent_eq {n : Line} {s : State} {k : Nat} (hk : (s.line n).dest = some k) :
    allPagesSent n s = clearLine n .normal (destSent k (s.abandoned n)) := by
  have hk' : ((s.abandoned n).line n).dest = some k := by rw [onlySli_abandoned n s]; exact hk
  unfold allPagesSent
  unfold State.abandoned at hk' ⊢
  simp only [hk']

/-- Settles O56: PARTIAL_OK and REPEAT by the line's record, PAGE_CONFIRMED by the next place of the document. -/
theorem shelfReplies : Obligations.ShelfReplies := by
  refine ⟨fun n map s h => ?_, fun n s h => ⟨fun hst hr => ?_, fun k d p t j doc r hst hk ht hd hj hjd hdoc hkeep hp hr hrd hholds => ?_⟩⟩
  · intro l span
    have hexec (hst : l.state = .partialWait) : (exec (.partialOk n) s = .next (onPartialOk n s))
        ∧ exec (.repeatBlocks n map) s = .next (onRepeat n map s) :=
      ⟨congrArg Host.Outcome.next (delivered_of_hears h (by rw [hst]; decide)),
        congrArg Host.Outcome.next (delivered_of_hears h (by rw [hst]; decide))⟩
    refine ⟨fun hst hrec => ?_, fun hst hend => ?_, fun hst hend p r hp hr => ?_, fun hst hround => ?_,
      fun hst hround b bs hlist => ?_, fun hst hround hlist p r d doc hp hr hd hdoc => ?_⟩
    · exact ⟨congrArg Host.Outcome.next ((delivered_of_hears h hrec).trans (if_neg hst)),
        congrArg Host.Outcome.next ((delivered_of_hears h hrec).trans (if_neg hst))⟩
    · have hset := (setsLine_modifyLine n (fun r => { r with rounds := 0 }) s).enter .pageWait id
      refine ⟨_, (hexec hst).1.trans (congrArg _ ((if_pos hst).trans (if_neg hend))), hset.frame, hset.line_self,
        fun m hm => hset.line_of_ne hm, hset.dram⟩
    · intro q count
      have hset := (setsLine_modifyLine n (fun r => { r with rounds := 0 }) s).sendPartial (p := p) hp hr q
      exact ⟨_, (hexec hst).1.trans (congrArg _ ((if_pos hst).trans (if_pos hend))), hset.frame, hset.line_self,
        fun m hm => hset.line_of_ne hm, hset.dram⟩
    · have hset := (((setsLine_modifyLine n (fun r => { r with rounds := l.rounds + 1 }) s).hand n .abandon).hand n .clear).enter
        .clearing fun r => { r with cause := some .repeatLimit }
      obtain ⟨hf, hl, hls, hm⟩ := hset.after ((onlySli_hand ..).hand ..)
      exact ⟨_, (hexec hst).2.trans (congrArg _ ((if_pos hst).trans (if_pos (by show 5 ≤ l.rounds + 1; omega)))), hf, hl, hls, hm⟩
    · have hset := (setsLine_modifyLine n (fun r => { r with rounds := l.rounds + 1 }) s).enter .sending
        fun r => { r with toSend := b :: bs, inFlight := false }
      have hrep : onRepeat n map s = enterState n .sending (fun r => { r with toSend := b :: bs, inFlight := false })
          (modifyLine n (fun r => { r with rounds := l.rounds + 1 }) s) := by
        refine (if_pos hst).trans ((if_neg (by show ¬5 ≤ l.rounds + 1; omega)).trans ?_)
        rw [hlist]
      exact ⟨_, (hexec hst).2.trans (congrArg _ hrep), hset.frame, hset.line_self, fun m hm => hset.line_of_ne hm, hset.dram⟩
    · intro kind
      have hmod := setsLine_modifyLine n (fun r => { r with rounds := l.rounds + 1 }) s
      obtain ⟨v, hv⟩ : ∃ v, v = modifyLine n (fun r => { r with rounds := l.rounds + 1 }) s := ⟨_, rfl⟩
      rw [← hv] at hmod
      have hframe := hmod.frame
      have hrep : onRepeat n map s = handPartialEnd n v := by
        refine (if_pos hst).trans ((if_neg (by show ¬5 ≤ l.rounds + 1; omega)).trans ?_)
        rw [hlist, hv]
      have hpage : v.linePage n = some r := by
        rw [State.linePage, hmod.line_self, show (s.line n).page = some p from hp, hframe]
        exact hr
      have hdoc' : v.lineDoc n = some doc := by
        rw [State.lineDoc, hmod.line_self, show (s.line n).doc = some d from hd, hframe]
        exact hdoc
      have hkind : v.endKindNow n = kind := by
        simp only [State.endKindNow, hpage, hdoc', hmod.line_self, Doc.isFinal_iff, and_assoc]
        rfl
      have hset := (hmod.hand n (.partialEnd l.partialPage l.blockCount kind)).enter .partialWait fun r => { r with lastEnd := some kind }
      obtain ⟨hf, hl, hls, hm⟩ := hset.after (onlySli_hand ..)
      have hend : handPartialEnd n v = enterState n .partialWait (fun r => { r with lastEnd := some kind })
          (hand n (.partialEnd l.partialPage l.blockCount kind) v) := by
        simp only [handPartialEnd, hkind, hmod.line_self]
        rfl
      have htimers : (hand n (.partialEnd l.partialPage l.blockCount kind) s).lne.timers = s.lne.timers := by rw [hand_eq]
      rw [htimers] at hl
      exact ⟨_, (hexec hst).2.trans (congrArg _ (hrep.trans hend)), hf, hl, hls, hm⟩
  · exact congrArg Host.Outcome.next ((delivered_of_hears h hr).trans (if_neg hst))
  · intro grows next spans moved
    obtain ⟨v, hv, hframe, hself, hothers, hdest, hdests, hpage, hpages, hdram⟩ := confirmed_spec (n := n) ht hj hjd hdoc hkeep hp hr hrd
    have hexec : exec (.pageConfirmed n) s = .next (nextPlace n v) := by rw [exec_pageConfirmed_of_pageWait h hst hk, hv]
    have hvk : (v.line n).dest = some k := by rw [hself]; exact hk
    have hvt : v.lineDest n = some { t with confirmed := t.confirmed + 1 } := State.lineDest_of hvk hdest
    have hvd : v.lineDoc n = some doc := State.lineDoc_of (d := d) (by rw [hself]; exact hd) (by rw [hframe]; exact hdoc)
    have htimers : v.lne.timers = s.lne.timers := by rw [hframe]
    have hspan : v.lineSpan n = (s.por (0x80 + 256 * n.val), 256) := by rw [hframe]; rfl
    have hwaits : (v.line n).state ≠ .dataWait := by rw [hself]; simp [hst]
    have hsli : v.sli = s.sli := by rw [hframe]
    have hmoved {u b : State} (hf : u = { v with sli := b.sli, lne := { v.lne with lines := u.lne.lines }, dram := u.dram })
        (hls : ∀ m, m ≠ n → u.line m = v.line m) (hm : unchangedOutside [v.lineSpan n] v.dram u.dram) : moved u := by
      rw [hspan] at hm
      refine ⟨?_, fun m hne => (hls m hne).trans (hothers m hne), ?_, fun k' hk' => ?_, ?_, fun q hq => ?_, ?_⟩
      · generalize b.sli = x at hf
        rw [hf, hframe]
      · rw [hf]; exact hdest
      · rw [hf]; exact hdests k' hk'
      · rw [hf]; exact hpage
      · rw [hf]; exact hpages q hq
      · exact unchangedOutside.again hdram (hm.of_subset (by simp [spans]))
    have hgrows : ¬grows ↔ doc.isFinal = true := by
      rw [Doc.isFinal_iff]
      exact not_or
    refine ⟨fun hwait => ?_, fun q rq hq hrq hsealed hlen => ?_, fun q rq hq hrq hsealed hlen => ?_, fun hnone hfinal => ?_⟩
    · have hnext : nextPlace n v = waitForData n v := by
        obtain ⟨hnone, hopen⟩ | ⟨q, rq, hq, hrq, hfilling⟩ := hwait
        · exact nextPlace_of_open hvt hvd hnone (Bool.eq_false_iff.mpr fun hf => hgrows.mpr hf hopen)
        · by_cases hqp : q = p
          · refine nextPlace_of_filling hvt hvd hq (r := { r with sendHolds := r.sendHolds - 1 }) (hqp ▸ hpage) ?_
            rw [hqp, hr] at hrq
            rw [Option.some.inj hrq]
            exact hfilling
          · exact nextPlace_of_filling hvt hvd hq ((hpages q hqp).trans hrq) hfilling
      have hset := setsLine_waitForData hwaits
      have hf := hset.frame
      refine ⟨_, hexec.trans (congrArg _ hnext), hmoved (b := v) hf (fun m hm => hset.line_of_ne hm) hset.dram, ?_, ?_⟩
      · generalize waitForData n v = u at hf
        rw [hf, hsli]
      · rw [hset.line_self, hself, htimers]
    · intro count left
      have hsame : ∃ rv, v.page? q = some rv ∧ rv.state = rq.state ∧ rv.codedLen = rq.codedLen ∧ rv.cls = rq.cls ∧ rv.res = rq.res := by
        by_cases hqp : q = p
        · rw [hqp, hr] at hrq
          exact ⟨_, hqp ▸ hpage, by rw [Option.some.inj hrq], by rw [Option.some.inj hrq], by rw [Option.some.inj hrq],
            by rw [Option.some.inj hrq]⟩
        · exact ⟨rq, (hpages q hqp).trans hrq, rfl, rfl, rfl, rfl⟩
      obtain ⟨rv, hrv, hstate, hlc, hcls, hres⟩ := hsame
      have hnext := nextPlace_of_sealed hvt hvd hq hrv (hstate ▸ hsealed)
      obtain ⟨hf, hl, hls, hm⟩ := (setsLine_takePage_of_fits n doc (t.confirmed + 1) hrv (hlc ▸ hlen)).after (onlySli_announced ..)
      refine ⟨_, hexec.trans (congrArg _ hnext), hmoved hf hls hm, ?_, ?_⟩
      · generalize takePage n doc (t.confirmed + 1) q rv v = u at hf
        rw [hf]
        have hlast : (v.line n).lastParams = (s.line n).lastParams := by rw [hself]
        have hleft : pagesLeft doc (t.confirmed + 1) = left := pagesLeft_eq _ _
        rw [State.announced, hlast, hcls, hres, hleft]
        split
        · exact hsli
        · exact hand_sli n _ hsli
      · rw [hl, hself, htimers, hlc, hcls, hres]
        rfl
    · have hsame : ∃ rv, v.page? q = some rv ∧ rv.state = rq.state ∧ rv.codedLen = rq.codedLen := by
        by_cases hqp : q = p
        · rw [hqp, hr] at hrq
          exact ⟨_, hqp ▸ hpage, by rw [Option.some.inj hrq], by rw [Option.some.inj hrq]⟩
        · exact ⟨rq, (hpages q hqp).trans hrq, rfl, rfl⟩
      obtain ⟨rv, hrv, hstate, hlc⟩ := hsame
      have hnext := nextPlace_of_sealed hvt hvd hq hrv (hstate ▸ hsealed)
      obtain ⟨hf, hl, hls, hm⟩ := (setsLine_takePage_of_long n doc (t.confirmed + 1) q v (hlc ▸ hlen)).after ((onlySli_hand ..).hand ..)
      refine ⟨_, hexec.trans (congrArg _ hnext), hmoved hf hls hm, ?_, ?_⟩
      · generalize takePage n doc (t.confirmed + 1) q rv v = u at hf
        rw [hf]
        exact hand_sli n _ (hand_sli n _ hsli)
      · rw [hl, hself]
        rfl
    · obtain ⟨b, hb⟩ : ∃ b, b = v.abandoned n := ⟨_, rfl⟩
      have honly : b = { v with sli := b.sli } := hb ▸ onlySli_abandoned n v
      have hbt : b.dest? k = some { t with confirmed := t.confirmed + 1 } := by rw [honly]; exact hdest
      have hbj : b.job? t.job = some j := by rw [honly, hframe]; exact hj
      obtain ⟨m, hfinish, hbytes⟩ := finishDest_spec hbt hbj .sent
      have hceu : (postTagged .destDone .destination k j.tag (DestState.doneCode .sent) (t.confirmed + 1) b).ceu
          = (postTagged .destDone .destination k j.tag 0 (t.confirmed + 1) s).ceu :=
        postTagged_ceu_congr (s := s) (by rw [honly, hframe]) (by rw [honly, hframe]) (by rw [honly, hframe]) ..
      have hspans : b.eventSpans = s.eventSpans := eventSpans_congr (by rw [honly, hframe]) (by rw [honly, hframe])
      have haddrs : b.destAddr k = s.destAddr k ∧ b.jobAddr t.job = s.jobAddr t.job := by rw [honly, hframe]; exact ⟨rfl, rfl⟩
      have hbsli : b.sli = (s.abandoned n).sli := by
        have hend : (v.line n).lastEnd = (s.line n).lastEnd := by rw [hself]
        rw [hb, State.abandoned, State.abandoned, hend]
        split
        · exact hsli
        · exact hand_sli n _ hsli
      obtain ⟨w, hw⟩ : ∃ w, w = destSent k b := ⟨_, rfl⟩
      have hwf : w = _ := hw.trans hfinish
      rw [hceu] at hwf
      rw [hspans, haddrs.1, haddrs.2] at hbytes
      have hwl (m : Line) : w.line m = v.line m := by rw [hwf, honly]; rfl
      have hwsli : (hand n .clear w).sli = (hand n .clear (s.abandoned n)).sli := hand_sli n _ (by rw [hwf]; exact hbsli)
      have hwspan : w.lineSpan n = (s.por (0x80 + 256 * n.val), 256) := by rw [hwf, honly]; exact hspan
      have hset := setsLine_clearLine n .normal w
      obtain ⟨hf, hl, hls, hm⟩ := hset.after (onlySli_hand ..)
      have hsent : allPagesSent n v = clearLine n .normal w := by rw [allPagesSent_eq hvk, hw, hb]
      refine ⟨_, hexec.trans (congrArg _ ((nextPlace_of_final hvt hvd hnone (hgrows.mp hfinal)).trans hsent)), ?_⟩
      rw [hwsli] at hf
      rw [hwspan] at hm
      generalize clearLine n .normal w = u at hf hl hls hm ⊢
      refine ⟨?_, ?_, fun m hne => (hls m hne).trans ((hwl m).trans (hothers m hne)), ?_, fun k' hk' => ?_, ?_, fun j' hj' => ?_, ?_,
        fun q hq => ?_, ?_⟩
      · rw [hf, hwf, honly, hframe]
        rfl
      · rw [hl, hwl, hself]
      · rw [hf, hwf]
        exact Tab.get?_set_self _ _ _
      · rw [hf, hwf]
        refine (Tab.get?_set_of_ne _ _ hk').trans ?_
        rw [honly]
        exact hdests k' hk'
      · rw [hf, hwf]
        exact Tab.get?_set_self _ _ _
      · rw [hf, hwf]
        refine (Tab.get?_set_of_ne _ _ hj').trans ?_
        rw [honly, hframe]
        rfl
      · rw [hf, hwf, honly]
        exact hpage
      · rw [hf, hwf, honly]
        exact hpages q hq
      · have hall : unchangedOutside _ s.dram u.dram := (hdram.trans (show unchangedOutside _ v.dram m from by
          have hbd : b.dram = v.dram := by rw [honly]
          exact hbd ▸ hbytes)).trans (show unchangedOutside _ m u.dram from by
          have hwd : w.dram = m := by rw [hwf]
          exact hwd ▸ hm)
        refine hall.of_subset ?_
        simp [spans, State.eventSpans]

end Sys2Proof.Machine
end

section
/-! PROOFS. The end of an outbound session without a settlement: the call released, the destination that may be tried again, and
the line's record (R94 to R96, R136, R189). -/

namespace Sys2Proof.Machine

set_option Elab.async false

/-! ## One destination's record -/

/-- `t` is `s` after destination `k` has taken the record `r`: nothing else has changed but the record's bytes in DRAM. -/
def SetsDest (k : Nat) (r : Dest) (s t : State) : Prop :=
  ∃ m, t = { s with dju := { s.dju with dests := Tab.set s.dju.dests k r }, dram := m }
    ∧ unchangedOutside [(s.destAddr k, 64)] s.dram m

theorem setsDest_putDest (k : Nat) (r : Dest) (s : State) : SetsDest k r s (putDest k r s) :=
  ⟨_, rfl, unchangedOutside_store (by simp)⟩

theorem setsDest_modifyDest {k : Nat} {r : Dest} {s : State} (h : s.dest? k = some r) (f : Dest → Dest) :
    SetsDest k (f r) s (modifyDest k f s) := by
  rw [modifyDest_of_some h]
  exact setsDest_putDest k (f r) s

theorem destAddr_congr {s t : State} {k : Nat} (h : t.rgw = s.rgw) : t.destAddr k = s.destAddr k := by
  rw [State.destAddr, State.por, State.cfg, h]
  rfl

namespace SetsDest

variable {k : Nat} {r r' : Dest} {s t u : State}

theorem dest?_self (h : SetsDest k r s t) : t.dest? k = some r := by
  obtain ⟨m, rfl, -⟩ := h
  exact Tab.get?_set_self ..

theorem dest?_of_ne (h : SetsDest k r s t) {x : Nat} (hx : x ≠ k) : t.dest? x = s.dest? x := by
  obtain ⟨m, rfl, -⟩ := h
  exact Tab.get?_set_of_ne _ _ hx

theorem trans (h : SetsDest k r s t) (h' : SetsDest k r' t u) : SetsDest k r' s u := by
  obtain ⟨m, rfl, hm⟩ := h
  obtain ⟨m', rfl, hm'⟩ := h'
  refine ⟨m', ?_, unchangedOutside.again hm hm'⟩
  simp only [Tab.set_set]

theorem put (h : SetsDest k r s t) (r' : Dest) : SetsDest k r' s (putDest k r' t) := h.trans (setsDest_putDest k r' t)

theorem modify (h : SetsDest k r s t) (f : Dest → Dest) : SetsDest k (f r) s (modifyDest k f t) :=
  h.trans (setsDest_modifyDest h.dest?_self f)

end SetsDest

/-! ## The call (R182, R189) -/

/-- Something is available on the account. -/
def Account.hasSome (a : Account) : Bool := a.state != .unused && a.limit.all fun l => decide (1 ≤ l - a.spent - a.reserved)

theorem Account.covers_one (a : Account) : a.covers 1 = a.hasSome := by
  by_cases hs : a.state = .unused
  · simp [Account.covers, Account.available, Account.hasSome, hs]
  · cases hl : a.limit <;> simp [Account.covers, Account.available, Account.hasSome, hs, hl]

/-- The account of a call that is released. -/
def Account.freed (a : Account) (h : Nat) : Account :=
  { a with reserved := a.reserved - h, armed := a.armed || { a with reserved := a.reserved - h }.hasSome }

/-- An unanswered call is released. -/
theorem releaseCall_spec (n : Line) (c : CallRec) (s : State) :
    ∃ m, releaseCall n c s = { s with
        dju := { s.dju with passDue := true }
        chg := { s.chg with
          logReserved := s.chg.logReserved - 1
          accounts := Tab.set s.chg.accounts c.account ((s.account c.account).freed c.reservation)
          calls := Tab.erase s.chg.calls n.val }
        dram := m }
      ∧ unchangedOutside [(s.por (0x38000 + 64 * c.account), 64)] s.dram m := by
  have hacc : Account.rearmed { s.account c.account with reserved := (s.account c.account).reserved - c.reservation }
      = (s.account c.account).freed c.reservation := by
    rw [Account.rearmed_eq, Account.covers_one]
    rfl
  refine ⟨_, ?_, unchangedOutside_store (bs := ((s.account c.account).freed c.reservation).bytes) (by simp)⟩
  simp only [releaseCall, hacc]
  rfl

/-! ## The destination (R94 to R96) -/

/-- The attempts of a destination once its session has ended with a cause. -/
def Dest.tries (t : Dest) (cause : Cause) : Nat := if cause.counts then t.attempts + 1 else t.attempts

/-- The part as a destination is about to be moved: its job has one session less, and it has the cause. -/
def State.sessionOver (s : State) (k : Nat) (t : Dest) (j : Job) (cause : Cause) : State :=
  putDest k { t with lastCause := some cause, attempts := t.tries cause } (putDest k { t with lastCause := some cause }
    (putJob t.job { j with sessions := j.sessions - 1 } s))

theorem State.sessionOver_setsDest (s : State) (k : Nat) (t : Dest) (j : Job) (cause : Cause) :
    SetsDest k { t with lastCause := some cause, attempts := t.tries cause } (putJob t.job { j with sessions := j.sessions - 1 } s)
      (s.sessionOver k t j cause) :=
  (setsDest_putDest k _ _).put _

section

variable {s : State} {k : Nat} {t : Dest} {j : Job} {cause : Cause}

/-- A destination that has not been SENT moves by its cancel mark, the cause and its attempts. -/
theorem destSessionEnd_of_unsent (ht : s.dest? k = some t) (hj : s.job? t.job = some j) (hsent : t.state ≠ .sent) :
    destSessionEnd k cause s =
      if t.cancelMark ∨ cause = .cancelled then destGivenUp k .cancelled (s.sessionOver k t j cause)
      else if cause = .seizeLost then modifyDest k (fun d => { d with state := .pending }) (s.sessionOver k t j cause)
      else if cause = .notFax then destGivenUp k .failed (s.sessionOver k t j cause)
      else if cause.counts then
        if t.tries cause < s.dju.maxAttempts then toRetryWait k (t.tries cause) (s.sessionOver k t j cause)
        else destGivenUp k .failed (s.sessionOver k t j cause)
      else s.sessionOver k t j cause := by
  have hput : (putJob t.job { j with sessions := j.sessions - 1 } s).dest? k = some t := ht
  have hself : (putDest k { t with lastCause := some cause } (putJob t.job { j with sessions := j.sessions - 1 } s)).dest? k
      = some { t with lastCause := some cause } := Tab.get?_set_self ..
  have hmax : (putDest k { t with lastCause := some cause, attempts := t.tries cause } (putDest k { t with lastCause := some cause }
    (putJob t.job { j with sessions := j.sessions - 1 } s))).dju.maxAttempts = s.dju.maxAttempts := rfl
  simp only [destSessionEnd, ht, modifyJob_of_some hj, modifyDest_of_some hput, moveDest, hself]
  refine (if_neg (by exact hsent)).trans ?_
  rfl

/-- A destination that has been SENT takes the cause of the end. -/
theorem destSessionEnd_of_sent (ht : s.dest? k = some t) (hj : s.job? t.job = some j) (hsent : t.state = .sent) :
    destSessionEnd k cause s = putDest k { t with lastCause := some cause } (putJob t.job { j with sessions := j.sessions - 1 } s) := by
  have hput : (putJob t.job { j with sessions := j.sessions - 1 } s).dest? k = some t := ht
  have hself : (putDest k { t with lastCause := some cause } (putJob t.job { j with sessions := j.sessions - 1 } s)).dest? k
      = some { t with lastCause := some cause } := Tab.get?_set_self ..
  simp only [destSessionEnd, ht, modifyJob_of_some hj, modifyDest_of_some hput, moveDest, hself]
  exact if_pos hsent

end

/-- `u` is `s` after the session of destination `k` has ended and the destination has the record `r`, its job the record `q`, and
the jitter generator the number `gen`. -/
def EndsDest (k : Nat) (r : Dest) (q : Job) (gen : Nat) (s u : State) : Prop :=
  ∃ m, u = { s with
      dju := { s.dju with dests := Tab.set s.dju.dests k r, jobs := Tab.set s.dju.jobs r.job q, gen := gen }, dram := m }
    ∧ unchangedOutside [(s.destAddr k, 64), (s.jobAddr r.job, 128)] s.dram m

theorem SetsDest.endsDest {s u : State} {k j : Nat} {r : Dest} {q : Job} (hr : r.job = j) (h : SetsDest k r (putJob j q s) u) :
    EndsDest k r q s.dju.gen s u := by
  subst hr
  obtain ⟨m, rfl, hm⟩ := h
  have hjob : unchangedOutside [(s.jobAddr r.job, 128)] s.dram (putJob r.job q s).dram := unchangedOutside_store (by simp)
  exact ⟨m, rfl, (hjob.trans hm).of_subset (by simp [State.destAddr, State.por, State.cfg])⟩

theorem destSessionEnd_of_seizeLost {s : State} {k : Nat} {t : Dest} {j : Job} (ht : s.dest? k = some t)
    (hj : s.job? t.job = some j) (hsent : t.state ≠ .sent) (hmark : t.cancelMark = false) :
    EndsDest k { t with state := .pending, lastCause := some .seizeLost } { j with sessions := j.sessions - 1 } s.dju.gen s
      (destSessionEnd k .seizeLost s) := by
  rw [destSessionEnd_of_unsent ht hj hsent, if_neg (by simp [hmark]), if_pos rfl]
  exact ((s.sessionOver_setsDest k t j .seizeLost).modify fun d => { d with state := .pending }).endsDest rfl

/-- A destination with attempts left waits (R96). -/
theorem destSessionEnd_of_retry {s : State} {k : Nat} {t : Dest} {j : Job} {cause : Cause} (ht : s.dest? k = some t)
    (hj : s.job? t.job = some j) (hsent : t.state ≠ .sent) (hmark : t.cancelMark = false) (hcounts : cause.counts = true)
    (hfax : cause ≠ .notFax) (htries : t.tries cause < s.dju.maxAttempts) :
    EndsDest k { t with
        state := .retryWait, attempts := t.tries cause, lastCause := some cause
        nextTry := (s.chg.seconds : Int)
          + (retryWait s.dju.baseWait (t.tries cause) (nextGen s.dju.gen % s.dju.baseWait) : Nat) }
      { j with sessions := j.sessions - 1 } (nextGen s.dju.gen) s (destSessionEnd k cause s) := by
  have hcancel : ¬(t.cancelMark = true ∨ cause = .cancelled) := by
    rintro (h | rfl)
    · rw [hmark] at h
      cases h
    · cases hcounts
  have hseize : cause ≠ .seizeLost := fun h => by
    rw [h] at hcounts
    cases hcounts
  rw [destSessionEnd_of_unsent ht hj hsent, if_neg hcancel, if_neg hseize, if_neg hfax, if_pos hcounts, if_pos htries]
  obtain ⟨m, hover, hm⟩ := SetsDest.endsDest (r := { t with lastCause := some cause, attempts := t.tries cause }) rfl
    (s.sessionOver_setsDest k t j cause)
  generalize s.sessionOver k t j cause = v at hover ⊢
  obtain ⟨x, hx⟩ : ∃ x : State, x = { v with dju := { v.dju with gen := nextGen v.dju.gen } } := ⟨_, rfl⟩
  have hxt : x.dest? k = some { t with lastCause := some cause, attempts := t.tries cause } := by
    rw [hx, hover]
    exact Tab.get?_set_self ..
  obtain ⟨m', hset, hm'⟩ := setsDest_modifyDest hxt fun d => { d with
    state := .retryWait
    nextTry := (v.chg.seconds : Int) + (retryWait v.dju.baseWait (t.tries cause) (nextGen v.dju.gen % v.dju.baseWait) : Nat) }
  have hwait : toRetryWait k (t.tries cause) v = modifyDest k (fun d => { d with
      state := .retryWait
      nextTry := (v.chg.seconds : Int)
        + (retryWait v.dju.baseWait (t.tries cause) (nextGen v.dju.gen % v.dju.baseWait) : Nat) }) x := by
    rw [hx, toRetryWait]
  have hdram : x.dram = m := by rw [hx, hover]
  rw [destAddr_congr (s := s) (by rw [hx, hover]), hdram] at hm'
  refine ⟨m', ?_, unchangedOutside.again hm (hm'.of_subset (by simp))⟩
  rw [hwait, hset, hx, hover]
  simp only [Tab.set_set]

/-! ## The line (R136) -/

theorem giveUpStore_of_none {n : Line} {s : State} (h : (s.line n).storing = none) : giveUpStore n s = s := by
  rw [giveUpStore, h]

/-- The record of a line whose session has ended. -/
def LineRec.over (dst : LineState) (cause : Cause) : LineRec := { LineRec.default with state := dst, cause := some cause }

/-- With the reports made, the line takes its defaults with the cause, and an idle line is an occasion. -/
theorem endSession_of_reports {n : Line} {cause : Cause} {s v : State} (hv : endReports n cause s = v)
    (hstore : (v.line n).storing = none) (dst : LineState) :
    ∃ w, SetsLine n (LineRec.over dst cause) v w ∧ endSession n cause dst s = if dst = .idle then occasion w else w := by
  refine ⟨writeLine n (setLine n (LineRec.over dst cause) v), setsLine_writeLine n _ v, ?_⟩
  simp only [endSession, hv, giveUpStore_of_none hstore]
  rfl

/-- The reports of an outbound session. -/
theorem endReports_of_outbound {n : Line} {cause : Cause} {s : State} {k j : Nat} (hdir : (s.line n).dir = some .outbound)
    (hk : (s.line n).dest = some k) (hj : (s.line n).job = some j) :
    endReports n cause s = testJob j (destSessionEnd k cause (occasion (endCall n cause s))) := by
  simp only [endReports, hdir, hk, hj]

theorem endCall_of_unanswered {n : Line} {cause : Cause} {s : State} {c : CallRec} (hc : Tab.get? s.chg.calls n.val = some c)
    (ha : c.answered = false) : endCall n cause s = releaseCall n c s := by
  simp only [endCall, hc, ha]
  rfl

/-- A job that has a destination which is not final does not end. -/
theorem testJob_of_open {s : State} {j k : Nat} {t : Dest} (ht : s.dest? k = some t) (hj : t.job = j)
    (hopen : t.isFinal = false) : testJob j s = s := by
  have hfinal : s.jobIsFinal j = false := by
    unfold State.jobIsFinal
    split
    · rfl
    · have hall : (s.dju.dests.all fun e => e.2.job != j || e.2.isFinal) = false := by
        refine Bool.eq_false_iff.mpr fun hall => ?_
        have := List.all_eq_true.mp hall (k, t) (Tab.mem_of_get? ht)
        rw [hopen, hj] at this
        simp at this
      rw [hall, Bool.and_false]
  unfold testJob
  split
  · rfl
  · exact if_neg (by rw [hfinal]; decide)

/-- The end of an unanswered session whose destination is not final afterwards. -/
theorem endSession_of_unanswered {n : Line} {cause : Cause} {s : State} {k : Nat} {t r : Dest} {q : Job} {c : CallRec} {gen : Nat}
    (hdir : (s.line n).dir = some .outbound) (hstore : (s.line n).storing = none) (hk : (s.line n).dest = some k)
    (hj : (s.line n).job = some t.job) (hc : Tab.get? s.chg.calls n.val = some c) (ha : c.answered = false)
    (hr : r.job = t.job) (hopen : r.isFinal = false)
    (hend : ∀ v : State, v.dju = { s.dju with passDue := true } → v.chg.seconds = s.chg.seconds →
      EndsDest k r q gen v (destSessionEnd k cause v)) (dst : LineState) :
    ∃ u, endSession n cause dst s = u
      ∧ u = { s with
          lne := { s.lne with lines := u.lne.lines }
          dju := { s.dju with
            dests := Tab.set s.dju.dests k r, jobs := Tab.set s.dju.jobs t.job q, gen := gen, passDue := true }
          chg := { s.chg with
            logReserved := s.chg.logReserved - 1
            accounts := Tab.set s.chg.accounts c.account ((s.account c.account).freed c.reservation)
            calls := Tab.erase s.chg.calls n.val }
          dram := u.dram }
      ∧ u.line n = LineRec.over dst cause ∧ (∀ m, m ≠ n → u.line m = s.line m)
      ∧ unchangedOutside [(s.por (0x80 + 256 * n.val), 256), (s.destAddr k, 64), (s.jobAddr t.job, 128),
          (s.por (0x38000 + 64 * c.account), 64)] s.dram u.dram := by
  obtain ⟨m, hrel, hm⟩ := releaseCall_spec n c s
  obtain ⟨v, hv⟩ : ∃ v, v = occasion (releaseCall n c s) := ⟨_, rfl⟩
  have hvf : v = _ := hv.trans (congrArg occasion hrel)
  obtain ⟨m', hdest, hm'⟩ := hend v (by rw [hvf]; rfl) (by rw [hvf]; rfl)
  have hreports : endReports n cause s = destSessionEnd k cause v := by
    rw [endReports_of_outbound hdir hk hj, endCall_of_unanswered hc ha, ← hv]
    exact testJob_of_open (k := k) (t := r) (by rw [hdest]; exact Tab.get?_set_self ..) hr hopen
  have hline (x : Line) : (destSessionEnd k cause v).line x = s.line x := by rw [hdest, hvf]; rfl
  obtain ⟨w, hset, hsession⟩ := endSession_of_reports hreports (by rw [hline]; exact hstore) dst
  have hspan : (destSessionEnd k cause v).lineSpan n = (s.por (0x80 + 256 * n.val), 256) := by rw [hdest, hvf]; rfl
  have hwm := hset.dram
  rw [hspan] at hwm
  have hbytes : unchangedOutside [(s.por (0x80 + 256 * n.val), 256), (s.destAddr k, 64), (s.jobAddr t.job, 128),
      (s.por (0x38000 + 64 * c.account), 64)] s.dram w.dram := by
    have hmv : v.dram = m := by rw [hvf]; rfl
    have hdv : (destSessionEnd k cause v).dram = m' := by rw [hdest]
    have haddrs : v.destAddr k = s.destAddr k ∧ v.jobAddr r.job = s.jobAddr t.job := by rw [hvf, hr]; exact ⟨rfl, rfl⟩
    rw [hmv, haddrs.1, haddrs.2] at hm'
    rw [hdv] at hwm
    exact ((hm.trans hm').trans hwm).of_subset (by simp)
  have hframe := hset.frame
  have hself := hset.line_self
  have hothers (x : Line) (hx : x ≠ n) : w.line x = s.line x := (hset.line_of_ne hx).trans (hline x)
  rw [hdest, hvf, hr] at hframe
  refine ⟨_, hsession, ?_⟩
  by_cases hidle : dst = .idle
  · rw [if_pos hidle]
    refine ⟨?_, hself, hothers, hbytes⟩
    rw [occasion, hframe]
    rfl
  · rw [if_neg hidle]
    refine ⟨?_, hself, hothers, hbytes⟩
    rw [hframe]
    rfl

end Sys2Proof.Machine
end

section
/-! PROOFS. The ring: its route, the answer decision, the answered call, and glare with an outbound call (R137, R138, R149, R151,
R152). -/

namespace Sys2Proof.Machine

set_option Elab.async false

/-! ## The route (R149) -/

/-! ## The answer decision (R138, R151) -/

/-- A refused ring. -/
theorem refuseRing_eq (n : Line) (why : RingRefusal) (s : State) :
    refuseRing n why s = post .ringRefused .line n.val why.code (hand n .refuse s).freeCount (hand n .refuse s) := rfl

theorem decideRing_of_refusal {n : Line} {called ident : List Byte} {s : State} {why : RingRefusal}
    (h : s.refusal (s.routeOf called) = some why) : decideRing n called ident s = refuseRing n why s := by
  unfold decideRing
  simp only [h]

theorem LineUse.answers_iff {u : LineUse} : u.answers = true ↔ u = .inOnly ∨ u = .both := by
  cases u <;> simp [LineUse.answers]

theorem LineUse.not_answers_iff {u : LineUse} : u.answers = false ↔ u = .disabled ∨ u = .outOnly := by
  cases u <;> simp [LineUse.answers]

/-! ## The answered call (R152) -/

/-- A call that prints: copies of a document that is not held. -/
def State.ringPrints (s : State) (r : Route) (ident : List Byte) : Bool := decide (0 < r.copies) && !s.isHeld r ident

/-- The document of an answered call, with its print entry when it prints. -/
theorem answerDoc_spec (n : Line) (d : Nat) (r : Route) (called ident : List Byte) {s : State}
    (hroom : 0 < r.copies → s.freeEntry.isSome) :
    ∃ v, answerDoc n d r called ident s = v
      ∧ v = { s with
          dju := { s.dju with docs := Tab.set s.dju.docs d { inboundDoc n r called ident s with
            printRefs := if s.ringPrints r ident then 1 else 0 } }
          prn := { s.prn with entries := v.prn.entries, arrival := v.prn.arrival }, dram := v.dram }
      ∧ (s.ringPrints r ident = false → v.prn = s.prn)
      ∧ (∀ e, s.ringPrints r ident = true → s.freeEntry = some e →
          v.entry? e = some (PrintEntry.fresh d r.copies r.tray r.printClass ((s.prn.arrival + 1) % 4294967296)))
      ∧ (∀ e, (s.ringPrints r ident = true → s.freeEntry ≠ some e) → v.entry? e = s.entry? e)
      ∧ unchangedOutside ([(s.docAddr d, 512)] ++ if s.ringPrints r ident then s.freeEntry.toList.map fun e => (s.entryAddr e, 64)
          else []) s.dram v.dram := by
  have hdocDram : unchangedOutside [(s.docAddr d, 512)] s.dram (putDoc d (inboundDoc n r called ident s) s).dram :=
    unchangedOutside_putDoc d _ s
  cases hprints : s.ringPrints r ident with
  | false =>
    have hno : ¬(0 < r.copies ∧ (!(inboundDoc n r called ident s).isHeld) = true) := fun h => by
      simp [State.ringPrints, inboundDoc] at hprints h
      simp [hprints h.1] at h
    have hanswer : answerDoc n d r called ident s = putDoc d (inboundDoc n r called ident s) s := by
      simp only [answerDoc]
      exact if_neg hno
    refine ⟨_, rfl, ?_⟩
    rw [hanswer]
    refine ⟨rfl, fun _ => rfl, fun _ h => (Bool.false_ne_true h).elim, fun _ _ => rfl, ?_⟩
    rw [if_neg Bool.false_ne_true, List.append_nil]
    exact hdocDram
  | true =>
    obtain ⟨hcopies, hheld⟩ : 0 < r.copies ∧ (!(inboundDoc n r called ident s).isHeld) = true := by
      simpa [State.ringPrints, inboundDoc] using hprints
    obtain ⟨e, he⟩ := Option.isSome_iff_exists.mp (hroom hcopies)
    have hfree : (putDoc d (inboundDoc n r called ident s) s).freeEntry = some e := he
    have hanswer : answerDoc n d r called ident s
        = createEntry e d r.copies r.tray r.printClass (putDoc d (inboundDoc n r called ident s) s) := by
      simp only [answerDoc, hfree]
      exact if_pos ⟨hcopies, hheld⟩
    have hcreate := createEntry_eq (doc?_putDoc_self d (inboundDoc n r called ident s) s) hcopies e r.tray r.printClass
    rw [show (inboundDoc n r called ident s).livePages = [] from rfl, List.foldl_nil] at hcreate
    refine ⟨_, rfl, ?_⟩
    rw [hanswer, hcreate]
    refine ⟨?_, fun h => (Bool.false_ne_true h.symm).elim, fun x _ hx => ?_, fun x hx => ?_, ?_⟩
    · rw [if_pos rfl]
      simp only [putDoc, enterEntry, putEntry, State.store, Tab.set_set]
      rfl
    · rw [he] at hx
      rw [← Option.some.inj hx]
      exact Tab.get?_set_self ..
    · exact Tab.get?_set_of_ne _ _ fun h => hx rfl (by rw [h]; exact he)
    · rw [if_pos rfl, he]
      exact (hdocDram.of_subset (by simp)).write (a := s.entryAddr e) (n := 64) (by simp) (by simp) |>.write
        (a := s.docAddr d) (n := 512) (by simp) (by simp)

/-- A call that is answered. -/
theorem decideRing_of_answer {n : Line} {called ident : List Byte} {s : State} {d : Nat}
    (h : s.refusal (s.routeOf called) = none) (hd : s.freeDoc = some d) :
    decideRing n called ident s
      = post .ring .line n.val (bit (((((enterState n .answering id (setLine n { LineRec.default with
            dir := some .inbound, doc := some d
            cause := ((hand n .answer (answerDoc n d (s.routeOf called) called ident s)).line n).cause }
              (hand n .answer (answerDoc n d (s.routeOf called) called ident s)))).doc? d).map Doc.isHeld).getD false))) d
          (enterState n .answering id (setLine n { LineRec.default with
            dir := some .inbound, doc := some d
            cause := ((hand n .answer (answerDoc n d (s.routeOf called) called ident s)).line n).cause }
              (hand n .answer (answerDoc n d (s.routeOf called) called ident s)))) := by
  simp only [decideRing, h, hd]

/-! ## The ring by the line's state (R137, R138) -/

section

variable {n : Line} {called ident : List Byte} {s : State}

theorem onRing_of_busy (hlen : ¬(8 < called.length ∨ 20 < ident.length)) (hidle : (s.line n).state ≠ .idle)
    (hseize : (s.line n).state ≠ .seizing) : onRing n called ident s = refuseRing n .lineNotIdle s := by
  refine (if_neg hlen).trans ?_
  split
  · contradiction
  · contradiction
  · rfl

theorem onRing_of_idle (hlen : ¬(8 < called.length ∨ 20 < ident.length)) (hidle : (s.line n).state = .idle) :
    onRing n called ident s = ringOnIdle n called ident s := by
  refine (if_neg hlen).trans ?_
  rw [hidle]

theorem onRing_of_seizing (hlen : ¬(8 < called.length ∨ 20 < ident.length)) (hseize : (s.line n).state = .seizing) :
    onRing n called ident s = ringOnIdle n called ident (endSession n .seizeLost .idle s) := by
  refine (if_neg hlen).trans ?_
  rw [hseize]

end

/-- A message in RECEIVING restarts the block gap timer before it acts (log 27). -/
theorem delivered_of_receiving {n : Line} {act : State → State} {s : State} (h : s.hears = true)
    (hr : (s.line n).state = .receiving) : delivered n act s = act (restartTimer n s) := by
  obtain ⟨hup, hpass⟩ := State.hears_iff.mp h
  rw [delivered, if_pos hup, deliver, if_neg hpass, if_pos hr]

/-- A restarted timer changes the line's record as the part holds it, and not as DRAM does. -/
theorem restartTimer_eq (n : Line) (s : State) :
    restartTimer n s = setLine n ((s.line n).restart s.lne.timers) s := if_pos (beq_self_eq_true _)

/-- Settles O57: the refusals and the answer by the line's state and the decision, and glare through the end of the outbound call. -/
theorem ringDecision : Obligations.RingDecision := by
  intro n called ident s h hc hi refused r
  have hlen : ¬(8 < called.length ∨ 20 < ident.length) := by omega
  have row (hr : (s.line n).state ≠ .receiving) : exec (.ring n called ident) s = .next (onRing n called ident s) :=
    congrArg Host.Outcome.next (delivered_of_hears h hr)
  refine ⟨fun h1 h2 h3 => ?_, fun hst => ?_, fun hnone => ?_, fun i q hget hne hdig hcount htake hfirst => ?_,
    fun hbad => ?_, fun hst huse => ?_, fun hst huse => ?_, fun k t j c hst hdir hstore hk hj ht hsent hmark hjob hcall hans => ?_⟩
  · rw [row h3, onRing_of_busy hlen h1 h2]
    rfl
  · have hset := restartTimer_eq n s
    have hself : (restartTimer n s).line n = { s.line n with timer := some .blockGap, remaining := s.lne.timers.blockGap } := by
      have htimer : (s.line n).state.timer = some .blockGap := by rw [hst]; rfl
      rw [hset, line_setLine_self, LineRec.restart, htimer]
      rfl
    have hstate : ((restartTimer n s).line n).state = .receiving := by rw [hself]; exact hst
    refine ⟨restartTimer n s, ?_, ?_, hself, fun m hm => by rw [hset, line_setLine_of_ne _ _ hm]⟩
    · refine (congrArg Host.Outcome.next (delivered_of_receiving h hst)).trans ?_
      rw [onRing_of_busy hlen (by rw [hstate]; decide) (by rw [hstate]; decide)]
      rfl
    · rw [hset]
      rfl
  · obtain rfl | hno := hnone
    · exact s.routeOf_nil
    · exact State.routeOf_of_noRoute hno
  · refine State.routeOf_of_firstRoute hne hget (Route.isFor_of_digits (List.length_pos_of_ne_nil hne) hc hdig hcount htake)
      fun k x hk hx => Bool.eq_false_iff.mpr fun hfor => hfirst k x hk hx ((x.isFor_iff called).mp hfor).2
  · obtain ⟨ch, hch, hdigit⟩ := hbad
    refine State.routeOf_of_noRoute fun q _ => Bool.eq_false_iff.mpr fun hfor => ?_
    obtain ⟨hvalid, htake⟩ := (q.isFor_iff called).mp hfor
    rw [Route.isValid, htake, Bool.and_eq_true, List.all_eq_true] at hvalid
    rw [hvalid.2 ch hch] at hdigit
    cases hdigit
  · rw [row (by simp [hst]), onRing_of_idle hlen hst, ringOnIdle, if_neg (by rw [LineUse.not_answers_iff.mpr huse]; decide)]
    rfl
  · have hring : exec (.ring n called ident) s = .next (decideRing n called ident s) := by
      rw [row (by simp [hst]), onRing_of_idle hlen hst, ringOnIdle, if_pos (LineUse.answers_iff.mpr huse)]
    have refusal {why : RingRefusal} (hwhy : s.refusal r = some why) :
        exec (.ring n called ident) s = .next (refused why (hand n .refuse s)) := by
      rw [hring, decideRing_of_refusal hwhy]
      rfl
    refine ⟨fun hlow => refusal (if_pos hlow), fun hlow hpages => refusal ?_, fun hlow hpages hdoc => refusal ?_,
      fun hlow hpages hdoc hcopies hentry => refusal ?_, fun d hlow hpages hdoc hroom => ?_⟩
    · rw [State.refusal, if_neg (by omega), if_pos hpages]
    · rw [State.refusal, if_neg (by omega), if_neg (by omega), if_pos (by rw [hdoc]; rfl)]
    · rw [State.refusal, if_neg (by omega), if_neg (by omega), if_neg (fun hno => Option.isSome_iff_ne_none.mp hdoc (Option.isNone_iff_eq_none.mp hno)),
        if_pos ⟨hcopies, by rw [hentry]; rfl⟩]
    · have hnone : s.refusal r = none := by
        rw [State.refusal, if_neg (by omega), if_neg (by omega), if_neg (by simp [hdoc]), if_neg]
        rintro ⟨hcopies, hentry⟩
        have := hroom hcopies
        simp_all
      intro held prints
      obtain ⟨v, hv, hframe, hprn, hentry, hentries, hdram⟩ := answerDoc_spec n d r called ident hroom
      have hline (m : Line) : v.line m = s.line m := by rw [hframe]; rfl
      have hcause : ((hand n .answer v).line n).cause = (s.line n).cause := by rw [line_hand, hline]
      have hset := ((setsLine_setLine n { LineRec.default with
        dir := some .inbound, doc := some d, cause := (s.line n).cause } (hand n .answer v))).enter .answering id
      obtain ⟨hf, hl, hls, hm⟩ := hset.after (onlySli_hand ..)
      have hsli : (hand n .answer v).sli = (hand n .answer s).sli := hand_sli n _ (by rw [hframe])
      have htimers : (hand n .answer v).lne.timers = s.lne.timers := by rw [hand_eq, hframe]
      have hspan : v.lineSpan n = (s.por (0x80 + 256 * n.val), 256) := by rw [hframe]; rfl
      have hanswer := decideRing_of_answer (called := called) (ident := ident) hnone hdoc (n := n)
      rw [show s.routeOf called = r from rfl, hv, hcause] at hanswer
      rw [hsli] at hf
      rw [htimers] at hl
      rw [hspan] at hm
      generalize enterState n .answering id (setLine n { LineRec.default with
        dir := some .inbound, doc := some d, cause := (s.line n).cause } (hand n .answer v)) = u at hf hl hls hm hanswer
      have hdoc' : u.doc? d = some { inboundDoc n r called ident s with printRefs := if s.ringPrints r ident then 1 else 0 } := by
        rw [hf, hframe]
        exact Tab.get?_set_self ..
      have hheld : bit (((u.doc? d).map Doc.isHeld).getD false) = if held then 1 else 0 := by
        rw [hdoc']
        show bit held = _
        cases held <;> rfl
      rw [hheld] at hanswer
      refine ⟨u, hring.trans (congrArg _ hanswer), ?_, hdoc', fun k hk => ?_, fun hp => ?_, fun e hp he => ?_, fun e he => ?_, hl,
        fun m hm => (hls m hm).trans (hline m), ?_, ?_⟩
      · rw [hf, hframe]
      · rw [hf, hframe]
        exact Tab.get?_set_of_ne _ _ hk
      · rw [hf]
        exact hprn hp
      · rw [hf]
        exact hentry e hp he
      · rw [hf]
        exact hentries e he
      · refine (hdram.trans hm).of_subset fun x hx => ?_
        rw [show prints = s.ringPrints r ident from rfl]
        simp only [List.mem_append, List.mem_cons, List.not_mem_nil, or_false] at hx ⊢
        obtain (hx | hx) | hx := hx
        · exact .inl (.inl hx)
        · exact .inr hx
        · exact .inl (.inr hx)
      · obtain ⟨c, m, hpost, hm'⟩ := post_frame .ring .line n.val (if held then 1 else 0) d u
        have hspans : u.eventSpans = s.eventSpans := eventSpans_congr (by rw [hf, hframe]) (by rw [hf, hframe])
        rw [hspans] at hm'
        rw [hpost]
        exact hm'
  · intro a freed
    have hdest (v : State) (hv : v.dju = { s.dju with passDue := true }) (_ : v.chg.seconds = s.chg.seconds) :
        EndsDest k { t with state := .pending, lastCause := some .seizeLost } { j with sessions := j.sessions - 1 } s.dju.gen v
          (destSessionEnd k .seizeLost v) := by
      have hgen : v.dju.gen = s.dju.gen := by rw [hv]
      rw [← hgen]
      exact destSessionEnd_of_seizeLost (by rw [State.dest?, hv]; exact ht) (by rw [State.job?, hv]; exact hjob) hsent hmark
    obtain ⟨u, hu, hframe, hself, hothers, hdram⟩ := endSession_of_unanswered hdir hstore hk hj hcall hans (by rfl) (by rfl) hdest .idle
    refine ⟨u, ?_, ?_, hself, hothers, ?_, fun x hx => ?_, ?_, fun x hx => ?_, ?_, fun x hx => ?_, ?_, fun x hx => ?_, hdram⟩
    · have hears : u.hears = true := by rw [hframe]; exact h
      rw [row (by simp [hst]), onRing_of_seizing hlen hst, hu]
      refine Eq.trans ?_ (congrArg Host.Outcome.next (delivered_of_hears hears (by rw [hself]; decide))).symm
      rw [onRing_of_idle hlen (by rw [hself]; rfl)]
    · rw [hframe]
    · rw [hframe]; exact Tab.get?_set_self ..
    · rw [hframe]; exact Tab.get?_set_of_ne _ _ hx
    · rw [hframe]; exact Tab.get?_set_self ..
    · rw [hframe]; exact Tab.get?_set_of_ne _ _ hx
    · rw [hframe]; exact (Tab.get?_erase _ _ _).trans (if_pos rfl)
    · rw [hframe]; exact Tab.get?_erase_of_ne _ hx
    · rw [hframe]; exact Tab.getD_set_self ..
    · rw [hframe]; exact Tab.getD_set_of_ne _ _ _ hx

end Sys2Proof.Machine
end

section
/-! PROOFS. Writes to raw slots: where the raw ring lies, the lapping write, what the RGW reports, and the end of a hold (R14, R15,
R16, R39, R40, R42). -/

namespace Sys2Proof.Machine

set_option Elab.async false

/-! ## The raw ring in the map (R7) -/

/-- The raw scan ring lies apart from the anchor, both other rings and the part-owned region. -/
theorem Anchor.passed_rawApart {a : Anchor} {w : Nat} (h : a.passed w = true) :
    a.rawSize ≠ 0 ∧ 64 ≤ a.rawBase
      ∧ (a.cmdBase + (a.slotCount + 1) * 64 ≤ a.rawBase ∨ a.rawBase + a.rawSize ≤ a.cmdBase)
      ∧ (a.evBase + (64 + 16 * a.recCount) ≤ a.rawBase ∨ a.rawBase + a.rawSize ≤ a.evBase)
      ∧ (a.rawBase + a.rawSize ≤ a.porBase ∨ a.porBase + a.porSize ≤ a.rawBase) := by
  simp only [Anchor.passed, Bool.and_eq_true] at h
  obtain ⟨⟨⟨⟨⟨⟨⟨⟨hformat, -⟩, -⟩, hapart⟩, -⟩, -⟩, -⟩, -⟩, -⟩ := h
  simp only [Anchor.formatOk, Bool.and_eq_true, bne_iff_ne] at hformat
  obtain ⟨⟨⟨-, hraw⟩, -⟩, -⟩ := hformat
  simp only [Anchor.apartOk, Anchor.regions, allApart, apart, List.all_cons, List.all_nil, Bool.and_true, Bool.and_eq_true,
    Bool.or_eq_true, decide_eq_true_eq] at hapart
  obtain ⟨⟨-, -, h0, -, -⟩, ⟨-, hcmd, -, -⟩, ⟨hev, -, -⟩, ⟨-, hpor⟩, -⟩ := hapart
  exact ⟨hraw, by omega, hcmd, hev, hpor⟩

/-- Where an offset in a raw slot lies. -/
theorem State.rawSlot_iff {s : State} {off : Nat} {g : RawGeom} {j r : Nat} : s.rawSlot off = some (g, j, r) ↔
    s.rgw.rawGeom = some g ∧ s.cfg.rawBase ≤ off ∧ off - s.cfg.rawBase < g.slots * g.stride
      ∧ j = (off - s.cfg.rawBase) / g.stride ∧ r = (off - s.cfg.rawBase) % g.stride := by
  unfold State.rawSlot
  cases hg : s.rgw.rawGeom with
  | none => simp
  | some x =>
    dsimp only
    split
    · rename_i hin
      simp only [Option.some.injEq, Prod.mk.injEq]
      constructor
      · rintro ⟨rfl, rfl, rfl⟩
        exact ⟨rfl, hin.1, hin.2, rfl, rfl⟩
      · rintro ⟨rfl, -, -, rfl, rfl⟩
        exact ⟨rfl, rfl, rfl⟩
    · rename_i hout
      simp only [Option.some.injEq, reduceCtorEq, false_iff]
      rintro ⟨rfl, h1, h2, -, -⟩
      exact hout ⟨h1, h2⟩

/-- A write to a word of a raw slot meets no other class of word. -/
theorem windowWrite_of_rawSlot {s : State} {a : BusAccess} (hrun : s.rgw.state = .run) (hmap : s.mapPassed = true) {g : RawGeom}
    {j r : Nat} (hraw : s.rawSlot a.off = some (g, j, r)) (hsize : g.slots * g.stride ≤ s.cfg.rawSize) :
    windowWrite a s = if s.slotWaits g j then { s with smp := { s.smp with held := some ⟨a, .scan j, s.cfg.scanHold⟩ } }
      else passWrite a s := by
  obtain ⟨-, hlow, hhigh, -, -⟩ := State.rawSlot_iff.mp hraw
  obtain ⟨hsome, hanchor, hcmd, hev, hpor⟩ := Anchor.passed_rawApart (State.cfg_passed hmap)
  have hevsize := (Anchor.passed_rings (State.cfg_passed hmap)).2.1
  have hcmdsize := (Anchor.passed_rings (State.cfg_passed hmap)).1
  have hown : s.partOwned a.off = false := by
    simp only [State.partOwned, Bool.or_eq_false_iff, Bool.and_eq_false_imp, decide_eq_true_eq, decide_eq_false_iff_not,
      beq_eq_false_iff_ne, ne_eq]
    refine ⟨⟨⟨?_, ?_⟩, ?_⟩, ?_⟩ <;> omega
  have hcommit : a.off ≠ 0x3C := by omega
  have hcmdword : a.off ≠ s.cfg.cmdBase := by omega
  have hevword : a.off ≠ s.cfg.evBase := by omega
  have hisrun : s.isRun = true := by simp [State.isRun, hrun]
  rw [windowWrite, if_neg (by simp [hrun]), regionWrite, if_neg hcommit, hown, if_neg Bool.false_ne_true,
    if_neg fun h => hcmdword h.1, if_neg hevword]
  simp only [State.lapping, hraw, hisrun, Bool.true_and]
  cases s.slotWaits g j <;> rfl

/-! ## What the RGW reports (R14, R39, R40) -/

/-- A write that has reached DRAM in a raw slot, in RUN. -/
theorem passWrite_of_rawSlot {s : State} {a : BusAccess} (hrun : s.rgw.state = .run) {g : RawGeom} {j r : Nat}
    (hraw : s.rawSlot a.off = some (g, j, r)) :
    passWrite a s = if r = g.win - 4 then lastPixelReport g j (storeAccess a s)
      else if r < g.win - 4 ∧ j = s.scn.comp ∧ s.scn.waiting < g.slots then
        { storeAccess a s with rgw := { s.rgw with started := true } }
      else storeAccess a s := by
  have hraw' : (storeAccess a s).rawSlot a.off = some (g, j, r) := hraw
  have hrun' : ¬(storeAccess a s).rgw.state ≠ .run := fun h => h hrun
  simp only [passWrite, rawWatch, hraw', if_neg hrun']
  rfl

theorem lapping_eq_some_iff {s : State} {off j : Nat} : s.lapping off = some j ↔
    s.rgw.state = .run ∧ ∃ g r, s.rawSlot off = some (g, j, r) ∧ s.slotWaits g j = true := by
  unfold State.lapping
  rcases hraw : s.rawSlot off with _ | ⟨g, i, r⟩
  · simp
  · dsimp only
    split
    · rename_i h
      obtain ⟨hrun, hwaits⟩ := (Bool.and_eq_true _ _).mp h
      simp only [Option.some.injEq, Prod.mk.injEq]
      constructor
      · rintro rfl
        exact ⟨by simpa [State.isRun] using hrun, g, r, ⟨rfl, rfl, rfl⟩, hwaits⟩
      · rintro ⟨-, g', r', ⟨-, rfl, -⟩, -⟩
        rfl
    · rename_i h
      simp only [reduceCtorEq, Option.some.injEq, Prod.mk.injEq, false_iff]
      rintro ⟨hrun, g', r', ⟨rfl, rfl, -⟩, hwaits⟩
      exact h (by simp [State.isRun, hrun, hwaits])

/-- A lapping write to a slot that the completion index does not meet while there is room is reported nowhere. -/
theorem passWrite_of_lapping {s : State} {a : BusAccess} {j : Nat} (hlap : s.lapping a.off = some j)
    (hcomp : j = s.scn.comp → s.rgw.rawGeom.any (fun g => decide (g.slots ≤ s.scn.waiting)) = true) :
    passWrite a s = storeAccess a s := by
  obtain ⟨hrun, g, r, hraw, hwaits⟩ := lapping_eq_some_iff.mp hlap
  rw [passWrite_of_rawSlot hrun hraw]
  split
  · exact if_pos hwaits
  · refine if_neg ?_
    rintro ⟨-, hj, hroom⟩
    have hfull := hcomp hj
    rw [(State.rawSlot_iff.mp hraw).1] at hfull
    simp only [Option.any_some, decide_eq_true_eq] at hfull
    omega

/-- Settles O45: the three rows are bus writes to a raw slot, held or watched; an expired hold lets its write pass. -/
theorem rawSlots : Obligations.RawSlots := by
  refine ⟨fun off data be c g j r s hc hready hmap hbe hrun hsize hraw => ?_, fun s hheld => ?_, fun h j s hheld => ⟨fun hreason hlap hcomp => ?_,
    fun hother => ?_⟩⟩
  · intro waits
    have hexec : exec c s = .next (windowWrite ⟨true, wordOffset off, data, be⟩ s) := by
      rw [← smpWrite_of_ready hready hbe data]
      obtain rfl | rfl | rfl := hc <;> rfl
    have hwaits : s.slotWaits g j = true ↔ waits := decide_eq_true_iff
    rw [hexec, windowWrite_of_rawSlot hrun hmap hraw hsize]
    refine ⟨fun h => by rw [if_pos (hwaits.mpr h)], fun h => ?_⟩
    rw [if_neg (fun hw => h (hwaits.mp hw)), passWrite_of_rawSlot hrun hraw]
    obtain ⟨u, hu⟩ : ∃ u, u = storeAccess ⟨true, wordOffset off, data, be⟩ s := ⟨_, rfl⟩
    have hstores := storesWord_storeAccess true (wordOffset off) data be s
    rw [← hu] at hstores ⊢
    have hframe := hstores.1
    have hscn : u.scn = s.scn := by rw [hframe]
    have hrgw : u.rgw = s.rgw := by rw [hframe]
    have hnot : ¬u.slotWaits g j = true := by
      rw [State.slotWaits, hscn]
      exact fun hw => h (hwaits.mp hw)
    refine ⟨u, hstores, fun hr hj => ?_, fun hr hj => ?_, fun hr hj hroom => ?_, fun hr hj => ?_, fun hr => ?_⟩
    · rw [if_pos hr, lastPixelReport, if_neg hnot, hscn, hrgw, if_pos hj]
    · rw [if_pos hr, lastPixelReport, if_neg hnot, hscn, if_neg hj]
      rfl
    · rw [if_neg (by omega), if_pos ⟨hr, hj, hroom⟩]
    · rw [if_neg (by omega), if_neg fun h => hj h.2.1]
    · rw [if_neg (by omega), if_neg fun h => by omega]
  · refine congrArg Host.Outcome.next ?_
    rw [scanHoldExpiry, hheld]
  · obtain ⟨v, hv⟩ : ∃ v : State, v = { s with smp := { s.smp with held := none }, scn := { s.scn with
        overruns := if j ∈ s.scn.overruns then s.scn.overruns else s.scn.overruns ++ [j] } } := ⟨_, rfl⟩
    have hexpiry : scanHoldExpiry s = passWrite h.access v := by
      simp only [scanHoldExpiry, hheld, hreason, hv]
    have hlap' : v.lapping h.access.off = some j := by rw [hv]; exact hlap
    have hstores := storesWord_storeAccess h.access.isWrite h.access.off h.access.data h.access.be v
    refine ⟨_, congrArg Host.Outcome.next (hexpiry.trans (passWrite_of_lapping hlap' (by rw [hv]; exact hcomp))), ?_, ?_, ?_⟩
    · rw [hv]
      rfl
    · rw [hv] at hstores ⊢
      exact hstores.2.1
    · rw [hv] at hstores ⊢
      exact hstores.2.2
  · refine congrArg Host.Outcome.next ?_
    simp only [scanHoldExpiry, hheld]

end Sys2Proof.Machine
end

section
/-! PROOFS. The reception and charge tables as RUN entry adopts them from their bytes, or sets them empty (R156, R192). -/

namespace Sys2Proof.Machine

set_option Elab.async false

/-! ## Numbers and bits of DRAM -/

theorem Mem.num_one (m : Mem) (a : Nat) : Mem.num m a 1 = (Mem.get m a).toNat := by
  simp [Mem.num, Mem.bytes, leNat]

theorem Mem.num_one_testBit (m : Mem) (a i : Nat) : (Mem.num m a 1).testBit i = (Mem.get m a).getLsbD i := by
  rw [Mem.num_one]
  rfl

theorem Mem.num_one_eq_zero_iff (m : Mem) (a : Nat) : Mem.num m a 1 = 0 ↔ Mem.get m a = 0 := by
  rw [Mem.num_one, ← BitVec.toNat_inj]
  rfl

/-- Bit `k` of a number in DRAM is bit `k % 8` of its byte `k / 8`. -/
theorem Mem.num_testBit (m : Mem) (a : Nat) {n k : Nat} (hk : k < 8 * n) :
    (Mem.num m a n).testBit k = (Mem.num m (a + k / 8) 1).testBit (k % 8) := by
  induction n generalizing a k with
  | zero => omega
  | succ n ih =>
    have hsplit : Mem.num m a (n + 1) = 2 ^ 8 * Mem.num m (a + 1) n + (Mem.get m a).toNat := Nat.add_comm ..
    rw [hsplit, Nat.testBit_two_pow_mul_add _ (Mem.get m a).isLt]
    by_cases hlow : k < 8
    · rw [if_pos hlow, Nat.div_eq_of_lt hlow, Nat.mod_eq_of_lt hlow, Nat.add_zero, Mem.num_one]
    · rw [if_neg hlow, ih (a + 1) (by omega), show a + 1 + (k - 8) / 8 = a + k / 8 by omega, show (k - 8) % 8 = k % 8 by omega]

theorem Mem.num_lt (m : Mem) (a n : Nat) : Mem.num m a n < 256 ^ n := by
  have h := leNat_lt (Mem.bytes m a n)
  rwa [Mem.bytes_length] at h

/-! ## Tables of consecutive records -/

/-- The table whose records 0 to `n - 1` are given by `f`. -/
theorem Tab.get?_range {α : Type} (f : Nat → α) (n k : Nat) :
    Tab.get? ((List.range n).map fun i => (i, f i)) k = if k < n then some (f k) else none := by
  induction n with
  | zero => rfl
  | succ n ih =>
    rw [List.range_succ, List.map_append, Tab.get?_append, ih]
    by_cases hlt : k < n
    · rw [if_pos hlt, if_pos (by omega)]
      rfl
    · rw [if_neg hlt]
      by_cases heq : n = k
      · simp [Tab.get?, heq]
      · rw [if_neg (by omega)]
        simp [Tab.get?, heq]

theorem Tab.getD_range {α : Type} (f : Nat → α) {n k : Nat} (d : α) (h : k < n) :
    Tab.getD ((List.range n).map fun i => (i, f i)) k d = f k := by
  rw [Tab.getD, Tab.get?_range, if_pos h]
  rfl

/-! ## Adopted records -/

theorem adopted_of_le {most c : Nat} (h : c ≤ most) : adopted most c = c := if_pos h

theorem accountStateOf_code (c : Nat) :
    accountStateOf c = if c = 1 then .opened else if c = 2 then .blocked else .unused := by
  match c with
  | 0 => rfl
  | 1 => rfl
  | 2 => rfl
  | n + 3 => rfl

theorem readRoute_eq (m : Mem) (a : Nat) :
    readRoute m a =
      { digitCount := Mem.num m a 1, digits := Mem.bytes m (a + 1) 8, desk := min 31 (Mem.num m (a + 9) 1),
        tray := min 3 (Mem.num m (a + 10) 1), copies := min 9 (Mem.num m (a + 11) 1),
        printClass := Mem.num m (a + 12) 1 % 2, filter := (Mem.num m (a + 13) 1).testBit 0,
        autoDelete := (Mem.num m (a + 13) 1).testBit 1 } := by
  rw [Mem.num_one_testBit, Mem.num_one_testBit]
  rfl

theorem readRxr_routes {m : Mem} {por : Nat} (h : Mem.num m (por + 0x2B820) 1 ≤ 64) :
    (readRxr m por).routes.length = Mem.num m (por + 0x2B820) 1
      ∧ ∀ i, i < Mem.num m (por + 0x2B820) 1 →
        (readRxr m por).routes[i]? = some (readRoute m (por + 0x2B000 + 32 * i)) := by
  unfold readRxr
  simp only [adopted_of_le h, List.length_map, List.length_range, true_and]
  intro i hi
  rw [List.getElem?_map, List.getElem?_range hi]
  rfl

theorem readRxr_bins (m : Mem) (por : Nat) {k : Nat} (hk : k < 256) :
    (readRxr m por).bins.getLsbD k = (Mem.num m (por + 0x2B800 + k / 8) 1).testBit (k % 8) := by
  unfold readRxr
  rw [BitVec.getLsbD_ofNat, Mem.num_testBit _ _ (by omega : k < 8 * 32), decide_eq_true hk, Bool.true_and]

theorem readChg_prefixes {m : Mem} {por : Nat} (h : Mem.num m (por + 0x34840) 2 ≤ 256) (c : Chg) :
    (readChg m por c).prefixes.length = Mem.num m (por + 0x34840) 2
      ∧ ∀ i, i < Mem.num m (por + 0x34840) 2 →
        (readChg m por c).prefixes[i]? = some (readPrefix m (por + 0x35000 + 32 * i)) := by
  unfold readChg
  simp only [adopted_of_le h, List.length_map, List.length_range, true_and]
  intro i hi
  rw [List.getElem?_map, List.getElem?_range hi]
  rfl

theorem readChg_log {m : Mem} {por : Nat} (h : Mem.num m (por + 0x34802) 2 ≤ 4096) (c : Chg) :
    (readChg m por c).logInUse = Mem.num m (por + 0x34802) 2
      ∧ (readChg m por c).nearArmed = decide (Mem.num m (por + 0x34802) 2 < 3840) := by
  unfold readChg
  simp only [adopted_of_le h, and_self]

/-- What the adopted reception tables hold, read from the bytes at part-owned base `por`. -/
theorem readRxr_spec (m : Mem) (por : Nat) {r : Rxr} (hr : r = readRxr m por) :
    ( let n := Mem.num m (por + 0x2B820) 1
      n ≤ 64 → r.routes.length = n ∧ ∀ i, i < n →
        let b (o : Nat) := Mem.num m (por + (0x2B000 + 32 * i + o)) 1
        r.routes[i]? = some
          { digitCount := b 0, digits := Mem.bytes m (por + (0x2B000 + 32 * i + 1)) 8, desk := min 31 (b 9),
            tray := min 3 (b 10), copies := min 9 (b 11), printClass := b 12 % 2, filter := (b 13).testBit 0,
            autoDelete := (b 13).testBit 1 })
    ∧ (∀ k, k < 256 → r.bins.getLsbD k = (Mem.num m (por + (0x2B800 + k / 8)) 1).testBit (k % 8))
    ∧ (let b (o : Nat) := Mem.num m (por + (0x2B840 + o)) 1
      r.defaultRoute = { digitCount := 0, digits := [], desk := min 31 (b 9), tray := min 3 (b 10),
                         copies := min 9 (b 11), printClass := b 12 % 2, filter := (b 13).testBit 0,
                         autoDelete := (b 13).testBit 1 }) := by
  subst hr
  refine ⟨fun h => ⟨(readRxr_routes h).1, fun i hi => ?_⟩, fun k hk => ?_, ?_⟩
  · rw [(readRxr_routes h).2 i hi, readRoute_eq]
    simp only [Nat.add_assoc, Nat.add_zero]
  · rw [readRxr_bins m por hk, Nat.add_assoc]
  · show { readRoute m (por + 0x2B840) with digitCount := 0, digits := [] } = _
    rw [readRoute_eq]

/-- What the adopted charge tables hold, read from the bytes at part-owned base `por`. -/
theorem readChg_spec (m : Mem) (por : Nat) (c : Chg) {t : State} (ht : t.chg = readChg m por c) :
    ( let n := Mem.num m (por + 0x34840) 2
      n ≤ 256 → t.chg.prefixes.length = n ∧ ∀ i, i < n → t.chg.prefixes[i]? = some
        { count := Mem.num m (por + (0x35000 + 32 * i)) 1, chars := Mem.bytes m (por + (0x35000 + 32 * i + 1)) 12,
          zone := min 31 (Mem.num m (por + (0x35000 + 32 * i + 13)) 1) })
    ∧ (∀ h, h < 168 → t.band h = min 3 (Mem.num m (por + (0x34000 + h)) 1))
    ∧ (∀ i, i < 128 → let f (k : Nat) := Mem.num m (por + (0x37000 + 16 * i + 2 * k)) 2
        t.rate i = { setUp := f 0, period := max 1 (min 36000 (f 1)), n1 := f 2, n2 := max (f 2) (f 3), a1 := f 4,
                     a2 := f 5, a3 := f 6 })
    ∧ (∀ i, i < 64 → let a := por + (0x38000 + 64 * i)
        let code := Mem.num m a 1
        (t.account i).reserved = 0 ∧ (t.account i).armed = true ∧ (t.account i).spent = Mem.num m (a + 8) 4
          ∧ (t.account i).secondsPerPage = max 10 (min 600 (Mem.num m (a + 0x1C) 2))
          ∧ (t.account i).state = (if code = 1 then .opened else if code = 2 then .blocked else .unused)
          ∧ (t.account i).limit = (if Mem.num m (a + 1) 1 = 0 then some (Mem.num m (a + 4) 4) else none)
          ∧ (t.account i).calls = Mem.num m (a + 0x18) 4)
    ∧ (let n := Mem.num m (por + 0x34802) 2
      n ≤ 4096 → t.chg.logInUse = n ∧ t.chg.nearArmed = decide (n < 3840))
    ∧ t.chg.logOldest = Mem.num m (por + 0x34800) 2 % 4096
    ∧ t.chg.logNext = (if Mem.num m (por + 0x34804) 4 = 0 then 1 else Mem.num m (por + 0x34804) 4) := by
  unfold State.band State.rate State.account
  rw [ht]
  refine ⟨fun h => ⟨(readChg_prefixes h c).1, fun i hi => ?_⟩, fun h hh => ?_, fun i hi => ?_, fun i hi => ?_,
    fun h => readChg_log h c, rfl, ?_⟩
  · rw [(readChg_prefixes h c).2 i hi]
    simp only [readPrefix, Nat.add_assoc]
  · refine (Tab.getD_range _ 0 hh).trans ?_
    rw [Nat.add_assoc]
  · refine (Tab.getD_range (fun i => readRate m (por + 0x37000 + 16 * i)) Rate.empty hi).trans ?_
    simp only [readRate, clampNat, Nat.add_assoc]
  · have e : Tab.getD (readChg m por c).accounts i Account.empty = readAccount m (por + 0x38000 + 64 * i) :=
      Tab.getD_range (fun i => readAccount m (por + 0x38000 + 64 * i)) Account.empty hi
    rw [e]
    simp only [readAccount, accountStateOf_code, clampNat, Nat.add_assoc, Mem.num_one_eq_zero_iff, true_and]
  · show max 1 (Mem.num m (por + 0x34804) 4) = _
    split <;> omega

end Sys2Proof.Machine
end

section
/-! PROOFS. RUN_ENTRY (R9, R37, R121, R192): the values of every block, the bytes written, the first events, and the entry with
a noted withdraw (R10, R17). -/

namespace Sys2Proof.Machine

set_option Elab.async false

/-! ## Bytes cleared, and records written in turn -/

theorem within_eq_false_iff (a b n : Nat) : within a b n = false ↔ ¬ (b ≤ a ∧ a < b + n) := by
  simp [within]

theorem unchangedOutside_clear (m : Mem) (a n : Nat) : unchangedOutside [(a, n)] m (Mem.clear m a n) := by
  intro b hb
  rw [Mem.get_clear, if_neg ((within_eq_false_iff ..).mp (hb _ (List.mem_singleton_self _)))]

theorem Mem.bytes_congr {m m' : Mem} {a n : Nat} (h : ∀ i, a ≤ i → i < a + n → Mem.get m' i = Mem.get m i) :
    Mem.bytes m' a n = Mem.bytes m a n := by
  induction n generalizing a with
  | zero => rfl
  | succ n ih => rw [Mem.bytes, Mem.bytes, h a le_rfl (by omega), ih fun i hi hlt => h i (by omega) (by omega)]

theorem Mem.num_congr {m m' : Mem} {a n : Nat} (h : ∀ i, a ≤ i → i < a + n → Mem.get m' i = Mem.get m i) :
    Mem.num m' a n = Mem.num m a n := congrArg leNat (Mem.bytes_congr h)

theorem Mem.num_eq_zero {m : Mem} {a n : Nat} (h : ∀ i, a ≤ i → i < a + n → Mem.get m i = 0) : Mem.num m a n = 0 := by
  induction n generalizing a with
  | zero => rfl
  | succ n ih =>
    have hrest : leNat (Mem.bytes m (a + 1) n) = 0 := ih fun i hi hlt => h i (by omega) (by omega)
    rw [Mem.num, Mem.bytes, h a le_rfl (by omega), leNat, hrest]
    rfl

theorem porBase_congr {s t : State} (h : t.rgw = s.rgw) : t.cfg.porBase = s.cfg.porBase := by
  rw [State.cfg, h]
  rfl

/-- Records written in turn into one stretch of the part-owned region change nothing else. -/
theorem foldl_store_frame {ι : Type} (off : ι → Nat) (bs : State → ι → List Byte) {a n : Nat} (l : List ι) (s : State)
    (h : ∀ t : State, ∀ i ∈ l, a ≤ off i ∧ off i + (bs t i).length ≤ a + n) :
    l.foldl (fun s i => s.store (s.por (off i)) (bs s i)) s
        = { s with dram := (l.foldl (fun s i => s.store (s.por (off i)) (bs s i)) s).dram }
      ∧ unchangedOutside [(s.por a, n)] s.dram (l.foldl (fun s i => s.store (s.por (off i)) (bs s i)) s).dram := by
  induction l generalizing s with
  | nil => exact ⟨rfl, unchangedOutside_refl _ _⟩
  | cons i l ih =>
    obtain ⟨hlow, hhigh⟩ := h s i (List.mem_cons_self ..)
    obtain ⟨hframe, hdram⟩ := ih (s.store (s.por (off i)) (bs s i)) fun t j hj => h t j (List.mem_cons_of_mem _ hj)
    refine ⟨hframe, fun b hb => ?_⟩
    have hout := (within_eq_false_iff ..).mp (hb _ (List.mem_singleton_self _))
    refine (hdram b hb).trans ((Mem.get_write ..).trans (if_neg fun hin => ?_))
    unfold State.por at hin hout
    omega

/-! ## The bytes that RUN entry writes -/

/-- The tables that every RUN entry sets empty. -/
def State.clearedSpans (s : State) : List (Nat × Nat) :=
  [(s.por 0x1000, 0x10000), (s.por 0x19000, 0x12000), (s.por 0x2C000, 0x8000), (s.por 0x89000, 0x20000)]

theorem clearTables_dram (s : State) : unchangedOutside s.clearedSpans s.dram (clearTables s).dram :=
  (((unchangedOutside_clear _ _ _).trans (unchangedOutside_clear _ _ _)).trans (unchangedOutside_clear _ _ _)).trans
    (unchangedOutside_clear _ _ _)

/-- The state as the adoptable tables' bytes have been cleared. -/
def State.tablesCleared (s : State) : State := (s.clear (s.por 0x2B000) 0x1000).clear (s.por 0x34000) 0x5000

/-- The adoptable tables set empty: the default route and the log state take their empty values; behind the cleared bytes only
the records that are not zero are written. -/
theorem writeEmptyTables_spec (s : State) :
    ∃ m, writeEmptyTables s = { s with
          rxr := { s.rxr with defaultRoute := Route.default },
          chg := { s.chg with logOldest := 0, logInUse := 0, logNext := 1 },
          dram := Mem.write m (s.por 0x34800) (le 2 0 ++ le 2 0 ++ le 4 1) }
      ∧ unchangedOutside [(s.por 0x2B840, 32), (s.por 0x37000, 0x800), (s.por 0x38000, 0x1000)] s.tablesCleared.dram m := by
  obtain ⟨hrates, hrateBytes⟩ := foldl_store_frame (fun i => 0x37000 + 16 * i) (fun _ _ => Rate.empty.bytes) (a := 0x37000)
    (n := 0x800) (List.range 128) (putDefaultRoute Route.default s.tablesCleared) fun t i hi => by
      rw [Rate.bytes_length]
      rw [List.mem_range] at hi
      omega
  unfold writeEmptyTables
  dsimp only
  change ∃ m, putLogState 0 0 1 (List.foldl _ (List.foldl _ (putDefaultRoute Route.default s.tablesCleared) _) _) = _ ∧ _
  rw [hrates]
  generalize State.dram (List.foldl _ _ (List.range 128)) = m at hrateBytes
  obtain ⟨haccounts, haccountBytes⟩ := foldl_store_frame (fun i => 0x38000 + 64 * i) (fun _ _ => Account.empty.bytes)
    (a := 0x38000) (n := 0x1000) (List.range 64)
    { putDefaultRoute Route.default s.tablesCleared with dram := m } fun t i hi => by
      rw [Account.bytes_length]
      rw [List.mem_range] at hi
      omega
  rw [haccounts]
  generalize State.dram (List.foldl _ _ (List.range 64)) = m' at haccountBytes
  exact ⟨m', rfl, ((unchangedOutside_putDefaultRoute Route.default s.tablesCleared).trans hrateBytes).trans haccountBytes⟩

/-- The records that RUN entry writes once the tables stand. -/
def State.statusSpans (s : State) : List (Nat × Nat) :=
  [(s.por 0x79000, 0x10000), (s.por 0, 12), (s.por 0x40, 24), (s.por 0x80, 2048)]

/-- The free-segment stack, the status records and the index words, written behind the tables of `T`. -/
def writeStatusRecords (s : State) : State :=
  let s := s.store (s.por 0x79000) (stackBytes s.cfg.segCount)
  let s := writeLinkStatus (writePathStatus s)
  let s := allLines.foldl (fun s n => writeLine n s) s
  (s.store (s.cfg.cmdBase + 4) (le 4 0)).store (s.cfg.evBase + 4) (le 4 0)

theorem runEntryWrites_eq (s : State) :
    runEntryWrites s = writeStatusRecords (if s.cfg.keep then clearTables s else writeEmptyTables (clearTables s)) := by
  unfold runEntryWrites writeStatusRecords
  dsimp only
  rfl

theorem stackBytes_length (n : Nat) : (stackBytes n).length = 2 * n := by
  simp [stackBytes, List.length_flatMap, Nat.mul_comm]

theorem writeLines_frame (s : State) :
    allLines.foldl (fun s n => writeLine n s) s = { s with dram := (allLines.foldl (fun s n => writeLine n s) s).dram }
      ∧ unchangedOutside [(s.por 0x80, 2048)] s.dram (allLines.foldl (fun s n => writeLine n s) s).dram :=
  foldl_store_frame (fun n : Line => 0x80 + 256 * n.val) (fun s n => s.lineBytes n) allLines s fun t n _ => by
    have hlen := t.lineBytes_length n
    have hline := n.isLt
    omega

theorem writeStatusRecords_spec {s : State} (hseg : s.cfg.segCount ≤ 32768) :
    ∃ m, writeStatusRecords s
          = { s with dram := Mem.write (Mem.write m (s.cfg.cmdBase + 4) (le 4 0)) (s.cfg.evBase + 4) (le 4 0) }
      ∧ unchangedOutside s.statusSpans s.dram m := by
  have hstack : unchangedOutside [(s.por 0x79000, 0x10000)] s.dram (s.store (s.por 0x79000) (stackBytes s.cfg.segCount)).dram :=
    unchangedOutside_store (by rw [stackBytes_length]; omega)
  unfold writeStatusRecords
  dsimp only
  obtain ⟨p, hp⟩ : ∃ p, p = writePathStatus (s.store (s.por 0x79000) (stackBytes s.cfg.segCount)) := ⟨_, rfl⟩
  have hpath : p = { s with dram := p.dram } := by rw [hp]; rfl
  have hpathBytes : unchangedOutside [(s.por 0x79000, 0x10000), (s.por 0, 12)] s.dram p.dram := by
    rw [hp]
    exact hstack.trans (unchangedOutside_writePathStatus (s.store (s.por 0x79000) (stackBytes s.cfg.segCount)))
  rw [← hp]
  obtain ⟨hlink, hlinkBytes⟩ := writeLinkStatus_frame p
  obtain ⟨hlines, hlinesBytes⟩ := writeLines_frame (writeLinkStatus p)
  rw [hlines]
  generalize State.dram (List.foldl _ _ allLines) = m at hlinesBytes
  generalize writeLinkStatus p = q at hlink hlinkBytes hlinesBytes ⊢
  generalize q.dram = m' at hlink hlinkBytes hlinesBytes
  subst hlink
  generalize p.dram = m'' at hpath hpathBytes hlinkBytes
  subst hpath
  exact ⟨m, rfl, (hpathBytes.trans hlinkBytes).trans hlinesBytes⟩

/-! ## The first events (R9, R111, R192) -/

/-- The CEU has placed `i` events in its ring since RUN entry, and nothing else. -/
def Ceu.placed (i : Nat) (accepted : Bool) : Ceu :=
  { Ceu.reset with evTail := i, attn := decide (0 < i), accepted := accepted }

/-- While few events stand in the ring, the next one is written behind them. -/
theorem post_of_placed {s : State} {i : Nat} {b : Bool} (hrun : s.rgw.state ≠ .pass) (hceu : s.ceu = Ceu.placed i b)
    (hring : 64 ≤ s.cfg.recCount) (hi : i < 3) {kind : EventKind} (hkind : kind ≠ .withdrawn) (src : SourceKind)
    (idx code value : Nat) :
    post kind src idx code value s = { s with
      ceu := Ceu.placed (i + 1) b,
      dram := Mem.write (Mem.write s.dram (s.cfg.evBase + 64 + 16 * i)
        ({ kind, src, idx, tag := 0, code, lost := 0, time := s.chg.seconds, value } : Event).bytes) (s.cfg.evBase + 4)
        (le 4 (i + 1)) } := by
  have hroom : s.ringFull = false := by
    rw [State.ringFull, State.unread, hceu, decide_eq_false_iff_not]
    show ¬ (i + s.cfg.recCount - 0) % s.cfg.recCount + 1 = s.cfg.recCount
    rw [Nat.sub_zero, Nat.add_mod_right, Nat.mod_eq_of_lt (by omega)]
    omega
  have htail : (i + 1) % s.cfg.recCount = i + 1 := Nat.mod_eq_of_lt (by omega)
  rw [post, postTagged_of_notPass hrun, deliverEvent_of_room (by rw [hceu]; rfl) hroom (by rw [hceu]; rfl), writeRecord_eq,
    writeRecord_dram]
  simp only [State.kept, hceu, Ceu.placed, Ceu.wrote, Ceu.reset, State.cfg]
  rw [State.cfg] at htail
  rw [htail]
  simp [hkind]

/-- A record written at place `i` of the event ring, with the tail word behind it. -/
def writeRing (a : Anchor) (i : Nat) (e : Event) (m : Mem) : Mem :=
  Mem.write (Mem.write m (a.evBase + 64 + 16 * i) e.bytes) (a.evBase + 4) (le 4 (i + 1))

theorem writeRing_self (a : Anchor) (i : Nat) (e : Event) (m : Mem) :
    Mem.bytes (writeRing a i e m) (a.evBase + 64 + 16 * i) 16 = e.bytes := by
  rw [writeRing, Mem.bytes_write_of_disjoint _ _ _ _ _ (.inr (by rw [le_length]; omega))]
  exact Mem.bytes_write_self _ _ e.bytes

theorem writeRing_of_ne (a : Anchor) {i j : Nat} (h : j ≠ i) (e : Event) (m : Mem) :
    Mem.bytes (writeRing a i e m) (a.evBase + 64 + 16 * j) 16 = Mem.bytes m (a.evBase + 64 + 16 * j) 16 := by
  rw [writeRing, Mem.bytes_write_of_disjoint _ _ _ _ _ (.inr (by rw [le_length]; omega)),
    Mem.bytes_write_of_disjoint _ _ _ _ _ (by rw [Event.bytes_length]; omega)]

theorem writeRing_below (a : Anchor) (i : Nat) (e : Event) (m : Mem) {b n : Nat} (h : b + n ≤ a.evBase) :
    Mem.bytes (writeRing a i e m) b n = Mem.bytes m b n := by
  rw [writeRing, Mem.bytes_write_of_disjoint _ _ _ _ _ (.inl (by omega)), Mem.bytes_write_of_disjoint _ _ _ _ _ (.inl (by omega))]

theorem writeRing_tail (a : Anchor) {i : Nat} (hi : i < 3) (e : Event) (m : Mem) :
    Mem.num (writeRing a i e m) (a.evBase + 4) 4 = i + 1 := by
  rw [writeRing, Mem.num_write_le4, Nat.mod_eq_of_lt (by omega)]

/-- The bytes of the event ring that the first events take, and the status word. -/
def Anchor.announceSpans (a : Anchor) : List (Nat × Nat) := [(0x30, 4), (a.evBase + 64, 48), (a.evBase + 4, 4)]

theorem writeRing_dram {a : Anchor} {i : Nat} (hi : i < 3) {m m' : Mem} (h : unchangedOutside a.announceSpans m m') (e : Event) :
    unchangedOutside a.announceSpans m (writeRing a i e m') := by
  refine unchangedOutside.write (fun b hb => ?_) (a := a.evBase + 4) (n := 4) (by simp [Anchor.announceSpans])
    (le_length ..).le
  have hring := (within_eq_false_iff ..).mp (hb (a.evBase + 64, 48) (by simp [Anchor.announceSpans]))
  rw [Mem.get_write, if_neg (by rw [Event.bytes_length]; omega), h b hb]

/-- ANCHOR_ACCEPTED, the link's state, and LOG_NEAR_FULL when the mark is disarmed. -/
theorem announce_spec {s : State} (hrun : s.rgw.state ≠ .pass) (hceu : s.ceu = Ceu.placed 0 false)
    (hring : 64 ≤ s.cfg.recCount) (hev : 64 ≤ s.cfg.evBase) :
    ∃ m, announce s = { s with ceu := Ceu.placed (if s.chg.nearArmed then 2 else 3) true, dram := m }
      ∧ Mem.bytes m 0x30 4 = [0x02, BitVec.ofNat 8 s.windowMiB, 0x00, 0x00]
      ∧ (let record (i : Nat) (kind : EventKind) (src : SourceKind) (idx code value : Nat) : Prop :=
          Mem.bytes m (s.cfg.evBase + 64 + 16 * i) 16
            = ({ kind, src, idx, tag := 0, code, lost := 0, time := s.chg.seconds, value } : Event).bytes
        record 0 .anchorAccepted .path 0 0 s.windowMiB
          ∧ record 1 .linkState .link 0 (bit s.linkUp) s.sli.losses
          ∧ (s.chg.nearArmed = false → record 2 .logNearFull .log s.chg.logOldest 0 s.chg.logInUse))
      ∧ Mem.num m (s.cfg.evBase + 4) 4 = (if s.chg.nearArmed then 2 else 3)
      ∧ unchangedOutside s.cfg.announceSpans s.dram m := by
  have hfirst := post_of_placed (s := writeStatus .accepted 0 s) hrun hceu hring (by omega) (kind := .anchorAccepted)
    (by decide) .path 0 0 s.windowMiB
  obtain ⟨m₀, hm₀⟩ : ∃ m, m = (writeStatus .accepted 0 s).dram := ⟨_, rfl⟩
  have hstatus : Mem.bytes m₀ 0x30 4 = [0x02, BitVec.ofNat 8 s.windowMiB, 0x00, 0x00] := by
    rw [hm₀]
    exact writeStatus_bytes .accepted 0 s
  have hdram₀ : unchangedOutside s.cfg.announceSpans s.dram m₀ := by
    rw [hm₀]
    exact (unchangedOutside_writeStatus .accepted 0 s).of_subset (by simp [Anchor.announceSpans])
  let e₀ : Event := { kind := .anchorAccepted, src := .path, idx := 0, tag := 0, code := 0, lost := 0,
                      time := s.chg.seconds, value := s.windowMiB }
  let e₁ : Event := { kind := .linkState, src := .link, idx := 0, tag := 0, code := bit s.linkUp, lost := 0,
                      time := s.chg.seconds, value := s.sli.losses }
  let e₂ : Event := { kind := .logNearFull, src := .log, idx := s.chg.logOldest, tag := 0, code := 0, lost := 0,
                      time := s.chg.seconds, value := s.chg.logInUse }
  have hone : post .anchorAccepted .path 0 0 s.windowMiB (writeStatus .accepted 0 s)
      = { s with ceu := Ceu.placed 1 false, dram := writeRing s.cfg 0 e₀ m₀ } := by
    rw [hm₀]
    exact hfirst
  have htwo : postLinkState { s with ceu := Ceu.placed 1 true, dram := writeRing s.cfg 0 e₀ m₀ }
      = { s with ceu := Ceu.placed 2 true, dram := writeRing s.cfg 1 e₁ (writeRing s.cfg 0 e₀ m₀) } :=
    post_of_placed (s := { s with ceu := Ceu.placed 1 true, dram := writeRing s.cfg 0 e₀ m₀ }) hrun rfl hring (by omega)
      (kind := .linkState) (by decide) .link 0 (bit s.linkUp) s.sli.losses
  have hthree : post .logNearFull .log s.chg.logOldest 0 s.chg.logInUse
        { s with ceu := Ceu.placed 2 true, dram := writeRing s.cfg 1 e₁ (writeRing s.cfg 0 e₀ m₀) }
      = { s with ceu := Ceu.placed 3 true, dram := writeRing s.cfg 2 e₂ (writeRing s.cfg 1 e₁ (writeRing s.cfg 0 e₀ m₀)) } :=
    post_of_placed (s := { s with ceu := Ceu.placed 2 true, dram := writeRing s.cfg 1 e₁ (writeRing s.cfg 0 e₀ m₀) }) hrun rfl
      hring (by omega) (kind := .logNearFull) (by decide) .log s.chg.logOldest 0 s.chg.logInUse
  have hann : announce s = if s.chg.nearArmed
      then { s with ceu := Ceu.placed 2 true, dram := writeRing s.cfg 1 e₁ (writeRing s.cfg 0 e₀ m₀) }
      else { s with ceu := Ceu.placed 3 true, dram := writeRing s.cfg 2 e₂ (writeRing s.cfg 1 e₁ (writeRing s.cfg 0 e₀ m₀)) } := by
    unfold announce
    dsimp only
    rw [hone]
    change (let u := postLinkState { s with ceu := Ceu.placed 1 true, dram := writeRing s.cfg 0 e₀ m₀ }
      if u.chg.nearArmed then u else post .logNearFull .log u.chg.logOldest 0 u.chg.logInUse u) = _
    rw [htwo, ← hthree]
  have hbelow : ∀ (i : Nat) (e : Event) (m : Mem), Mem.bytes (writeRing s.cfg i e m) 0x30 4 = Mem.bytes m 0x30 4 :=
    fun i e m => writeRing_below _ i e m (by omega)
  have hdram₁ := writeRing_dram (i := 1) (by omega) (writeRing_dram (i := 0) (by omega) hdram₀ e₀) e₁
  have hrecord₁ := writeRing_self s.cfg 1 e₁ (writeRing s.cfg 0 e₀ m₀)
  have hrecord₀ : Mem.bytes (writeRing s.cfg 1 e₁ (writeRing s.cfg 0 e₀ m₀)) (s.cfg.evBase + 64 + 16 * 0) 16 = e₀.bytes :=
    (writeRing_of_ne _ (by omega) _ _).trans (writeRing_self ..)
  rw [hann]
  cases s.chg.nearArmed with
  | true =>
    exact ⟨_, rfl, by rw [hbelow, hbelow, hstatus], ⟨hrecord₀, hrecord₁, fun h => absurd h.symm Bool.false_ne_true⟩,
      writeRing_tail _ (by omega) .., hdram₁⟩
  | false =>
    exact ⟨_, rfl, by rw [hbelow, hbelow, hbelow, hstatus],
      ⟨(writeRing_of_ne _ (by omega) _ _).trans hrecord₀, (writeRing_of_ne _ (by omega) _ _).trans hrecord₁,
        fun _ => writeRing_self ..⟩, writeRing_tail _ (by omega) .., writeRing_dram (by omega) hdram₁ e₂⟩

/-! ## RUN entry without a noted withdraw (R9) -/

/-- What the checks of a map give of the sizes of its rings and of its part-owned region. -/
theorem Anchor.passed_sizes {a : Anchor} {w : Nat} (h : a.passed w = true) :
    64 ≤ a.recCount ∧ a.segCount ≤ 32768 ∧ 1048576 ≤ a.porSize := by
  simp only [Anchor.passed, Bool.and_eq_true] at h
  obtain ⟨⟨⟨⟨⟨⟨⟨⟨hformat, -⟩, -⟩, -⟩, hpor⟩, -⟩, -⟩, -⟩, -⟩ := h
  simp only [Anchor.formatOk, Bool.and_eq_true, List.contains_iff_mem, List.mem_cons, List.not_mem_nil, or_false,
    decide_eq_true_eq] at hformat
  obtain ⟨⟨⟨⟨⟨⟨-, hrecs⟩, -⟩, hsegs⟩, -⟩, -⟩, -⟩ := hformat
  have hsize : 1048576 + 1024 * a.segCount ≤ a.porSize := of_decide_eq_true hpor
  exact ⟨by omega, hsegs, by omega⟩

/-- The tables as RUN entry leaves them: the cleared ones, and the adoptable ones kept or set empty. -/
def State.enteredTables (s : State) : State :=
  if s.cfg.keep then clearTables (runEntryValues s) else writeEmptyTables (clearTables (runEntryValues s))

theorem State.enteredTables_frame (s : State) : s.enteredTables = { runEntryValues s with dram := s.enteredTables.dram } := by
  unfold State.enteredTables
  by_cases hkeep : s.cfg.keep = true
  · rw [if_pos hkeep]
    rfl
  · obtain ⟨m, h, -⟩ := writeEmptyTables_spec (clearTables (runEntryValues s))
    have hrxr : (runEntryValues s).rxr = Rxr.reset := if_neg hkeep
    have hchg : (runEntryValues s).chg = emptyChg s.chg := if_neg hkeep
    rw [if_neg hkeep, h]
    have hrxr' : { (clearTables (runEntryValues s)).rxr with defaultRoute := Route.default } = (runEntryValues s).rxr := by
      rw [hrxr]
      show { (runEntryValues s).rxr with defaultRoute := Route.default } = Rxr.reset
      rw [hrxr]
      rfl
    have hchg' : { (clearTables (runEntryValues s)).chg with logOldest := 0, logInUse := 0, logNext := 1 }
        = (runEntryValues s).chg := by
      rw [hchg]
      show { (runEntryValues s).chg with logOldest := 0, logInUse := 0, logNext := 1 } = emptyChg s.chg
      rw [hchg]
      rfl
    rw [hrxr', hchg']
    rfl

/-- Adopted tables keep their bytes. -/
theorem State.enteredTables_kept {s : State} (hkeep : s.cfg.keep = true) {a : Nat}
    (ha : (s.por 0x2B000 ≤ a ∧ a < s.por 0x2C000) ∨ (s.por 0x34000 ≤ a ∧ a < s.por 0x79000)) :
    Mem.get s.enteredTables.dram a = Mem.get s.dram a := by
  rw [State.enteredTables, if_pos hkeep]
  refine clearTables_dram (runEntryValues s) a ?_
  have hpor : ∀ o, (runEntryValues s).por o = s.cfg.porBase + o := fun _ => rfl
  simp only [State.por] at ha
  simp only [State.clearedSpans, List.forall_mem_cons, within_eq_false_iff, hpor]
  refine ⟨by omega, by omega, by omega, by omega, fun _ h => nomatch h⟩

/-- Tables set empty are 00h outside the default route, the rates, the accounts and the log state. -/
theorem State.enteredTables_cleared {s : State} (hkeep : s.cfg.keep = false) {a : Nat}
    (ha : (s.por 0x2B800 ≤ a ∧ a < s.por 0x2B840) ∨ (s.por 0x34840 ≤ a ∧ a < s.por 0x34842)) :
    Mem.get s.enteredTables.dram a = 0 := by
  obtain ⟨m, h, hm⟩ := writeEmptyTables_spec (clearTables (runEntryValues s))
  have hpor : ∀ o, (clearTables (runEntryValues s)).por o = s.cfg.porBase + o := fun _ => rfl
  simp only [State.por] at ha
  rw [State.enteredTables, if_neg (by simp [hkeep]), h]
  have houter : Mem.get (Mem.write m ((clearTables (runEntryValues s)).por 0x34800) (le 2 0 ++ le 2 0 ++ le 4 1)) a
      = Mem.get m a := by
    rw [Mem.get_write, if_neg]
    simp only [hpor, List.length_append, le_length]
    omega
  refine houter.trans ((hm a ?_).trans ?_)
  · simp only [List.forall_mem_cons, within_eq_false_iff, hpor]
    refine ⟨by omega, by omega, by omega, fun _ h => nomatch h⟩
  · show Mem.get (Mem.clear (Mem.clear _ ((clearTables (runEntryValues s)).por 0x2B000) 0x1000)
      ((clearTables (runEntryValues s)).por 0x34000) 0x5000) a = 0
    rw [Mem.get_clear, Mem.get_clear]
    simp only [hpor]
    split
    · rfl
    · rw [if_pos (by omega)]

theorem State.enteredTables_log {s : State} (hkeep : s.cfg.keep = false) :
    Mem.num s.enteredTables.dram (s.por 0x34800) 2 = 0 ∧ Mem.num s.enteredTables.dram (s.por 0x34802) 2 = 0
      ∧ Mem.num s.enteredTables.dram (s.por 0x34804) 4 = 1 := by
  obtain ⟨m, h, -⟩ := writeEmptyTables_spec (clearTables (runEntryValues s))
  rw [State.enteredTables, if_neg (by simp [hkeep]), h]
  exact ⟨Mem.num_write_field m (s.por 0x34800) [] (le 2 0 ++ le 4 1) 2 0,
    Mem.num_write_field m (s.por 0x34800) (le 2 0) (le 4 1) 2 0,
    Mem.num_write_field m (s.por 0x34800) (le 2 0 ++ le 2 0) [] 4 1⟩

/-- RUN entry's writes: the index words are 0, and the tables' bytes stand as the adoption says. -/
theorem runEntryWrites_spec {s : State} (hmap : s.mapPassed = true) :
    ∃ m, runEntryWrites (runEntryValues s) = { runEntryValues s with dram := m }
      ∧ Mem.num m (s.cfg.cmdBase + 4) 4 = 0
      ∧ ∀ a, (s.por 0x2B000 ≤ a ∧ a < s.por 0x2C000) ∨ (s.por 0x34000 ≤ a ∧ a < s.por 0x79000) →
        Mem.get m a = Mem.get s.enteredTables.dram a := by
  obtain ⟨-, ⟨hrecs, -⟩, hrings⟩ := Anchor.passed_rings (State.cfg_passed hmap)
  obtain ⟨⟨hcmd, hev, -⟩, -, hcp, hep⟩ := Anchor.passed_regions (State.cfg_passed hmap)
  obtain ⟨-, hseg, hsize⟩ := Anchor.passed_sizes (State.cfg_passed hmap)
  have hframe := s.enteredTables_frame
  have hcfg : s.enteredTables.cfg = s.cfg := by rw [hframe]; rfl
  obtain ⟨m, h, hm⟩ := writeStatusRecords_spec (s := s.enteredTables) (by rw [hcfg]; exact hseg)
  refine ⟨Mem.write (Mem.write m (s.cfg.cmdBase + 4) (le 4 0)) (s.cfg.evBase + 4) (le 4 0), ?_, ?_, fun a ha => ?_⟩
  · refine (runEntryWrites_eq (runEntryValues s)).trans (h.trans ?_)
    rw [hcfg, hframe]
  · rw [Mem.num_write_of_disjoint _ _ _ _ _ (by rw [le_length]; omega), Mem.num_write_le4]
  · simp only [State.por] at ha
    rw [Mem.get_write, if_neg (by rw [le_length]; omega), Mem.get_write, if_neg (by rw [le_length]; omega)]
    refine hm a ?_
    simp only [State.statusSpans, List.forall_mem_cons, within_eq_false_iff, State.por, hcfg]
    exact ⟨by omega, by omega, by omega, by omega, fun _ h => nomatch h⟩

/-- RUN entry as it leaves the part before a noted withdraw is taken. -/
def State.entered (s : State) : State := announce (runEntryWrites (runEntryValues s))

/-- The state that RUN entry leaves is the block values with the CEU that holds the first events, and new bytes. -/
theorem State.entered_spec {s : State} (hmap : s.mapPassed = true) :
    ∃ m, s.entered = { runEntryValues s with
          ceu := Ceu.placed (if (runEntryValues s).chg.nearArmed then 2 else 3) true, dram := m }
      ∧ Mem.bytes m 0x30 4 = [0x02, BitVec.ofNat 8 s.windowMiB, 0x00, 0x00]
      ∧ (let record (i : Nat) (kind : EventKind) (src : SourceKind) (idx code value : Nat) : Prop :=
          Mem.bytes m (s.cfg.evBase + 64 + 16 * i) 16
            = ({ kind, src, idx, tag := 0, code, lost := 0, time := s.chg.seconds, value } : Event).bytes
        record 0 .anchorAccepted .path 0 0 s.windowMiB
          ∧ record 1 .linkState .link 0 (bit s.linkUp) 0
          ∧ ((runEntryValues s).chg.nearArmed = false →
            record 2 .logNearFull .log (runEntryValues s).chg.logOldest 0 (runEntryValues s).chg.logInUse))
      ∧ Mem.num m (s.cfg.cmdBase + 4) 4 = 0
      ∧ Mem.num m (s.cfg.evBase + 4) 4 = (if (runEntryValues s).chg.nearArmed then 2 else 3)
      ∧ ∀ a, (s.por 0x2B000 ≤ a ∧ a < s.por 0x2C000) ∨ (s.por 0x34000 ≤ a ∧ a < s.por 0x79000) →
        Mem.get m a = Mem.get s.enteredTables.dram a := by
  obtain ⟨⟨hslots, -⟩, ⟨hrecs, -⟩, -⟩ := Anchor.passed_rings (State.cfg_passed hmap)
  obtain ⟨⟨hcmd, hev, hporBase⟩, hce, -, hep⟩ := Anchor.passed_regions (State.cfg_passed hmap)
  obtain ⟨hring, -, hsize⟩ := Anchor.passed_sizes (State.cfg_passed hmap)
  obtain ⟨m₀, hwrites, hcmdWord, htables⟩ := runEntryWrites_spec hmap
  obtain ⟨m, hann, hstatus, hrecords, htail, hdram⟩ := announce_spec (s := { runEntryValues s with dram := m₀ })
    RgwState.noConfusion rfl hring hev
  have hseconds : (runEntryValues s).chg.seconds = s.chg.seconds := by
    show (if s.cfg.keep then readChg s.dram s.cfg.porBase s.chg else emptyChg s.chg).seconds = _
    split <;> rfl
  have houter : ∀ a, 64 ≤ a → (a + 1 ≤ s.cfg.evBase ∨ s.cfg.evBase + (64 + 16 * s.cfg.recCount) ≤ a) →
      Mem.get m a = Mem.get m₀ a := fun a hlow hout => by
    refine hdram a ?_
    have hanchor : ({ runEntryValues s with dram := m₀ } : State).cfg = s.cfg := rfl
    simp only [Anchor.announceSpans, List.forall_mem_cons, within_eq_false_iff, hanchor]
    exact ⟨by omega, by omega, by omega, fun _ h => nomatch h⟩
  refine ⟨m, ?_, hstatus, ?_, ?_, htail, fun a ha => ?_⟩
  · rw [State.entered, hwrites, hann]
  · rw [← hseconds]
    exact hrecords
  · rw [← hcmdWord]
    exact Mem.num_congr fun i hlow hhigh => houter i (by omega) (by omega)
  · rw [← htables a ha]
    simp only [State.por] at ha
    exact houter a (by omega) (by omega)

theorem runEntry_eq (s : State) : runEntry s = if s.entered.rgw.noted then startWithdraw s.entered else s.entered := rfl

theorem exec_runEntry_of_free {s : State} (hvalid : s.rgw.validating = true) (hnoted : s.rgw.noted = false)
    (hmap : s.mapPassed = true) : exec .runEntry s = .next s.entered := by
  obtain ⟨m, h, -⟩ := State.entered_spec hmap
  have hkept : s.entered.rgw.noted = false := by
    rw [h]
    exact hnoted
  rw [exec_runEntry, if_pos hvalid, runEntry_eq, hkept]
  rfl

/-! ## RUN entry with a noted withdraw (R10, R17) -/

/-- The state with the note of a withdraw set or cleared. -/
def State.noting (b : Bool) (s : State) : State := { s with rgw := { s.rgw with noted := b } }

theorem foldl_noting {ι : Type} {f : State → ι → State} (hf : ∀ (b : Bool) (s : State) (i : ι), f (s.noting b) i = (f s i).noting b)
    (b : Bool) (l : List ι) (s : State) : l.foldl f (s.noting b) = (l.foldl f s).noting b :=
  List.foldl_hom (State.noting b) fun s i => hf b s i

/-- The rates as RUN entry sets them empty. -/
def writeEmptyRates (s : State) : State :=
  (List.range 128).foldl (fun s i => s.store (s.por (0x37000 + 16 * i)) Rate.empty.bytes) s

/-- The accounts as RUN entry sets them empty. -/
def writeEmptyAccounts (s : State) : State :=
  (List.range 64).foldl (fun s i => s.store (s.por (0x38000 + 64 * i)) Account.empty.bytes) s

/-- The lines' records as RUN entry writes them. -/
def writeLines (s : State) : State := allLines.foldl (fun s n => writeLine n s) s

theorem writeEmptyTables_eq (s : State) :
    writeEmptyTables s
      = putLogState 0 0 1 (writeEmptyAccounts (writeEmptyRates (putDefaultRoute Route.default s.tablesCleared))) := rfl

theorem writeStatusRecords_eq (s : State) :
    writeStatusRecords s = (let u := writeLines (writeLinkStatus (writePathStatus (s.store (s.por 0x79000) (stackBytes s.cfg.segCount))))
      (u.store (u.cfg.cmdBase + 4) (le 4 0)).store (u.cfg.evBase + 4) (le 4 0)) := rfl

theorem por_noting (b : Bool) (s : State) (o : Nat) : (s.noting b).por o = s.por o := rfl

theorem clear_noting (b : Bool) (s : State) (a n : Nat) : (s.noting b).clear a n = (s.clear a n).noting b := rfl

theorem tablesCleared_noting (b : Bool) (s : State) : (s.noting b).tablesCleared = s.tablesCleared.noting b := by
  rw [State.tablesCleared, por_noting, clear_noting, por_noting, clear_noting]
  rfl

theorem putDefaultRoute_noting (b : Bool) (r : Route) (s : State) :
    putDefaultRoute r (s.noting b) = (putDefaultRoute r s).noting b := rfl

theorem writeEmptyRates_noting (b : Bool) (s : State) : writeEmptyRates (s.noting b) = (writeEmptyRates s).noting b :=
  foldl_noting (fun _ _ _ => rfl) b _ s

theorem writeEmptyAccounts_noting (b : Bool) (s : State) : writeEmptyAccounts (s.noting b) = (writeEmptyAccounts s).noting b :=
  foldl_noting (fun _ _ _ => rfl) b _ s

theorem writeLines_noting (b : Bool) (s : State) : writeLines (s.noting b) = (writeLines s).noting b :=
  foldl_noting (fun _ _ _ => rfl) b _ s

theorem writeEmptyTables_noting (b : Bool) (s : State) : writeEmptyTables (s.noting b) = (writeEmptyTables s).noting b := by
  have hlog : ∀ t : State, putLogState 0 0 1 (t.noting b) = (putLogState 0 0 1 t).noting b := fun _ => rfl
  rw [writeEmptyTables_eq, writeEmptyTables_eq, tablesCleared_noting, putDefaultRoute_noting, writeEmptyRates_noting, writeEmptyAccounts_noting, hlog]

theorem writeStatusRecords_noting (b : Bool) (s : State) : writeStatusRecords (s.noting b) = (writeStatusRecords s).noting b := by
  have hlink : ∀ t : State, writeLinkStatus (t.noting b) = (writeLinkStatus t).noting b := fun t => by
    unfold writeLinkStatus
    change (if t.rgw.state = .pass then t.noting b else (t.store (t.por 0x40) t.linkStatusBytes).noting b) = _
    split <;> rfl
  have hpath : writePathStatus ((s.noting b).store ((s.noting b).por 0x79000) (stackBytes (s.noting b).cfg.segCount))
      = (writePathStatus (s.store (s.por 0x79000) (stackBytes s.cfg.segCount))).noting b := rfl
  rw [writeStatusRecords_eq, writeStatusRecords_eq, hpath, hlink, writeLines_noting]
  generalize writeLines _ = t
  rfl

theorem runEntryWrites_noting (b : Bool) (s : State) : runEntryWrites (s.noting b) = (runEntryWrites s).noting b := by
  have hclear : clearTables (s.noting b) = (clearTables s).noting b := rfl
  rw [runEntryWrites_eq, runEntryWrites_eq, hclear, writeEmptyTables_noting, ← apply_ite (State.noting b),
    writeStatusRecords_noting]
  rfl

theorem post_noting (b : Bool) (kind : EventKind) (src : SourceKind) (idx code value : Nat) (s : State) :
    post kind src idx code value (s.noting b) = (post kind src idx code value s).noting b := by
  have hdeliver : ∀ e, deliverEvent e (s.noting b) = (deliverEvent e s).noting b := fun e => by
    unfold deliverEvent
    simp only [apply_ite (State.noting b)]
    rfl
  unfold post postTagged
  rw [hdeliver, apply_ite (State.noting b)]
  rfl

theorem State.entered_noting (b : Bool) (s : State) : (s.noting b).entered = s.entered.noting b := by
  have hvalues : runEntryValues (s.noting b) = (runEntryValues s).noting b := rfl
  have hann : ∀ t : State, announce (t.noting b) = (announce t).noting b := fun t => by
    have hstatus : writeStatus .accepted 0 (t.noting b) = (writeStatus .accepted 0 t).noting b := rfl
    have hlink : ∀ u : State, postLinkState { u.noting b with ceu := { u.ceu with accepted := true } }
        = (postLinkState { u with ceu := { u.ceu with accepted := true } }).noting b := fun u =>
      post_noting b .linkState .link 0 _ _ { u with ceu := { u.ceu with accepted := true } }
    have hfirst : post .anchorAccepted .path 0 0 (t.noting b).windowMiB (writeStatus .accepted 0 (t.noting b))
        = (post .anchorAccepted .path 0 0 t.windowMiB (writeStatus .accepted 0 t)).noting b :=
      post_noting b .anchorAccepted .path 0 0 t.windowMiB (writeStatus .accepted 0 t)
    unfold announce
    dsimp only
    rw [hfirst]
    generalize post .anchorAccepted .path 0 0 t.windowMiB (writeStatus .accepted 0 t) = u
    have hthird := hlink u
    generalize postLinkState { u with ceu := { u.ceu with accepted := true } } = v at hthird ⊢
    change (let w := postLinkState { u.noting b with ceu := { u.ceu with accepted := true } }
      if w.chg.nearArmed then w else post .logNearFull .log w.chg.logOldest 0 w.chg.logInUse w) = _
    rw [hthird, apply_ite (State.noting b), ← post_noting]
    rfl
  rw [State.entered, hvalues, runEntryWrites_noting, hann]
  rfl

/-- A withdraw of a part that has just entered RUN stops nothing. -/
theorem startWithdraw_of_entered {s : State} (hscn : s.scn = Scn.reset) (hdju : s.dju = Dju.reset) (hlne : s.lne = Lne.reset)
    (hprn : s.prn = Prn.reset) (hmad : s.mad.urgent = false) (hheld : ∀ h, s.smp.held = some h → h.reason ≠ .print) :
    startWithdraw s = post .withdrawn .path 0 0 0 { s with rgw := { s.rgw with state := .withdrawing, noted := false } } := by
  obtain ⟨pending, phase, smp, rgw, ⟨window, urgent⟩, ceu, scn, psm, dju, sli, lne, rxr, prn, chg, dram⟩ := s
  dsimp only at hscn hdju hlne hprn hmad hheld ⊢
  subst hscn hdju hlne hprn hmad
  obtain ⟨t, ht⟩ : ∃ t : State, t = ⟨pending, phase, smp, { rgw with state := .withdrawing, noted := false }, ⟨window, false⟩, ceu,
    Scn.reset, psm, Dju.reset, sli, Lne.reset, rxr, Prn.reset, chg, dram⟩ := ⟨_, rfl⟩
  have hprint : withdrawPrint t = t := by
    have hsame : withdrawPrint t = releasePrintHold t := by rw [ht]; rfl
    have hsmp : t.smp = smp := by rw [ht]
    rw [hsame]
    cases hs : t.smp.held with
    | none => exact releasePrintHold_of_none hs
    | some h => exact releasePrintHold_of_other hs (hheld h (by rw [← hsmp, hs]))
  have hline : ∀ n, t.line n = LineRec.default := fun n => by rw [ht]; rfl
  have hjobs : discardJobs t = t := by
    have hnone : (allLines.filterMap fun n => (t.line n).dest) = [] := by
      rw [List.filterMap_eq_nil_iff]
      exact fun n _ => congrArg LineRec.dest (hline n)
    unfold discardJobs
    rw [hnone, ht]
    rfl
  have hlines : withdrawLines t = t := by
    unfold withdrawLines
    rw [List.foldl_fixed' fun n => ?_]
    · rw [ht]
      rfl
    · rw [hline n]
      rfl
  show post .withdrawn .path 0 0 0 (withdrawLines (discardJobs (withdrawPrint ⟨pending, phase, smp,
    { rgw with state := .withdrawing, noted := false }, ⟨window, false⟩, ceu, Scn.reset, psm, Dju.reset, sli, Lne.reset, rxr,
    Prn.reset, chg, dram⟩))) = _
  rw [← ht, hprint, hjobs, hlines]

/-- With a withdraw noted, RUN entry does all that it does without the note, and the part goes on to WITHDRAWING. -/
theorem exec_runEntry_of_noted {s : State} (hvalid : s.rgw.validating = true) (hnoted : s.rgw.noted = true)
    (hmap : s.mapPassed = true) (hheld : ∀ h, s.smp.held = some h → h.reason ≠ .print) :
    exec .runEntry s = .next (post .withdrawn .path 0 0 0
      { (s.noting false).entered with rgw := { (s.noting false).entered.rgw with state := .withdrawing } }) := by
  have hentered : s.entered = (s.noting false).entered.noting true := by
    rw [← State.entered_noting, State.noting, State.noting, ← hnoted]
  obtain ⟨m, ht, -⟩ := State.entered_spec (s := s.noting false) hmap
  generalize (s.noting false).entered = t at hentered ht ⊢
  have hwithdraw : startWithdraw s.entered
      = post .withdrawn .path 0 0 0 { s.entered with rgw := { s.entered.rgw with state := .withdrawing, noted := false } } := by
    refine startWithdraw_of_entered ?_ ?_ ?_ ?_ ?_ ?_ <;> rw [hentered, ht]
    exacts [rfl, rfl, rfl, rfl, rfl, hheld]
  have hset : s.entered.rgw.noted = true := by
    rw [hentered]
    rfl
  rw [exec_runEntry, if_pos hvalid, runEntry_eq, hset, if_pos rfl, hwithdraw, hentered, ht]
  rfl

/-- Settles O13: the values of every block stand as RUN entry sets them, with the first events placed in the ring; a noted
withdraw then finds nothing to stop. -/
theorem Settled.runEntry : Obligations.RunEntry := by
  have hpassed : ∀ s : State, s.mapLaw = true → s.rgw.validating = true → s.mapPassed = true := fun s hlaw hvalid => by
    obtain ⟨-, h, -⟩ | ⟨-, -, -, h⟩ | ⟨-, -, h, -⟩ := (State.mapLaw_iff s).mp hlaw
    · exact absurd (h.symm.trans hvalid) Bool.false_ne_true
    · exact h
    · exact absurd (h.symm.trans hvalid) Bool.false_ne_true
  refine ⟨fun s hlaw hvalid hnoted => ?_, fun s hlaw hvalid hnoted hheld => ?_, fun s hvalid => ?_⟩
  · have hmap := hpassed s hlaw hvalid
    obtain ⟨m, ht, hstatus, hrecords, hcmdWord, htail, htables⟩ := State.entered_spec hmap
    have hcopy : some s.cfg = s.rgw.copy := by
      cases hc : s.rgw.copy with
      | none => simp [State.mapPassed, hc] at hmap
      | some a => rw [State.cfg, hc]; rfl
    refine ⟨_, exec_runEntry_of_free hvalid hnoted hmap, ?_⟩
    obtain ⟨t, htdef⟩ : ∃ t, t = s.entered := ⟨_, rfl⟩
    rw [← htdef] at ht ⊢
    have hchg : t.chg = if s.cfg.keep then readChg s.dram s.cfg.porBase s.chg else emptyChg s.chg := by rw [ht]; rfl
    have hrxr : t.rxr = if s.cfg.keep then readRxr s.dram s.cfg.porBase else Rxr.reset := by rw [ht]; rfl
    have hitems : t.sli.items = s.sli.items.filter fun i => match i with | .message _ _ => true | .block _ _ => false := by
      rw [ht]; rfl
    have hdram : t.dram = m := by rw [ht]
    have hnear : (runEntryValues s).chg.nearArmed = t.chg.nearArmed := by rw [ht]
    have htailReg : t.ceu.evTail = if t.chg.nearArmed then 2 else 3 := by rw [← hnear, ht]; rfl
    refine ⟨?_, by rw [ht]; rfl, by rw [ht]; rfl, by rw [ht]; rfl, by rw [ht]; rfl, by rw [ht]; rfl, by rw [ht]; rfl, hrxr, hchg, ?_,
      by rw [ht]; rfl, hitems ▸ List.filter_sublist, ?_, ?_, ?_, hdram ▸ hstatus, ?_, hdram ▸ hcmdWord, ?_, by rw [ht]; rfl,
      by rw [ht]; rfl, by rw [ht]; rfl, fun hkeep => ?_, fun hkeep => ?_, ?_, ?_, ?_, ?_, ?_, ?_, ?_⟩
    · rw [ht, ← hcopy]
      show ({ Rgw.reset with state := .run, copy := some s.cfg, noted := s.rgw.noted } : Rgw) = _
      rw [hnoted]
      rfl
    · rw [← hnear, ht]
      cases (runEntryValues s).chg.nearArmed <;> rfl
    · intro n b
      rw [hitems]
      simp
    · intro b f
      rw [hitems, List.count_filter (by rfl)]
    · rw [ht]
      exact Bool.or_false _
    · rw [hdram]
      rw [ht]
      exact hrecords
    · rw [hdram, htail, hnear, htailReg]
    · rw [if_pos hkeep] at hchg hrxr
      obtain ⟨hroutes, hbins, hdefault⟩ := readRxr_spec s.dram s.cfg.porBase hrxr
      obtain ⟨hprefixes, hbands, hrates, haccounts, hlog, holdest, hnext⟩ := readChg_spec s.dram s.cfg.porBase s.chg hchg
      exact ⟨fun a ha => by rw [hdram, htables a ha, State.enteredTables_kept hkeep ha], hroutes, hprefixes, hbands, hrates,
        haccounts, hbins, hdefault, hlog, holdest, hnext⟩
    · rw [if_neg (by simp [hkeep])] at hchg hrxr
      have hnum : ∀ o n, (0x2B800 ≤ o ∧ o + n ≤ 0x2B840) ∨ (0x34840 ≤ o ∧ o + n ≤ 0x34842) → Mem.num t.dram (s.por o) n = 0 :=
        fun o n h => Mem.num_eq_zero fun i hlow hhigh => by
          simp only [State.por] at hlow hhigh
          rw [hdram, htables i (by simp only [State.por]; omega)]
          exact State.enteredTables_cleared hkeep (by simp only [State.por]; omega)
      have hlog : ∀ o n, 0x34800 ≤ o → o + n ≤ 0x34808 →
          Mem.num t.dram (s.por o) n = Mem.num s.enteredTables.dram (s.por o) n := fun o n hlow hhigh =>
        Mem.num_congr fun i hl hh => by
          simp only [State.por] at hl hh
          rw [hdram, htables i (by simp only [State.por]; omega)]
      obtain ⟨holdest, hinUse, hnext⟩ := State.enteredTables_log hkeep
      unfold State.band State.rate State.account
      rw [hchg, hrxr]
      exact ⟨rfl, fun k => BitVec.getLsbD_zero, rfl, rfl, fun _ => rfl, fun _ => rfl, fun _ => rfl, rfl, rfl, rfl, rfl,
        hnum _ _ (by omega), hnum _ _ (by omega), hnum _ _ (by omega), (hlog _ _ (by omega) (by omega)).trans holdest,
        (hlog _ _ (by omega) (by omega)).trans hinUse, (hlog _ _ (by omega) (by omega)).trans hnext⟩
    all_goals
      rw [hchg]
      split <;> rfl
  · have hmap := hpassed s hlaw hvalid
    exact ⟨_, exec_runEntry_of_free (s := s.noting false) hvalid rfl hmap, exec_runEntry_of_noted hvalid hnoted hmap hheld⟩
  · rw [exec_runEntry, hvalid]
    rfl

end Sys2Proof.Machine
end

section
/-! PROOFS. What the deletion of documents and the ends of jobs and sessions can only take away (R76, R86, R87, R91, R134, R136):
each operation beneath them leaves a free record free and a document that is being deleted so, keeps the line of every session
but one that waits for a page, and loses no segment; with no line free to touch and none waiting, lines, link and charges stay. One lemma per operation; the claims about deletions chain them. -/

namespace Sys2Proof.Machine

set_option Elab.async false

/-! ## The relation -/

/-- What is left of document `d`, if anything, is DELETING with the keep flag clear. -/
def State.goes (s : State) (d : Nat) : Prop := ∀ r, s.doc? d = some r → r.state = .deleting ∧ r.keep = false

/-- The destination of number `e.1`, if there is one, belongs to another job than `e.2`. -/
def State.lacks (s : State) (e : Nat × Nat) : Prop := ∀ r, s.dest? e.1 = some r → r.job ≠ e.2

/-- What the end of another's session or document may do to a line: nothing, unless it waits for a page, and then it stays in
session. -/
def LineRec.staysOr (r r' : LineRec) : Prop :=
  (r.state ≠ .dataWait → r' = r) ∧ (r.state = .dataWait → r'.state.inSession = true)

/-- What an operation may touch beyond what all of them may: the scan with a held access, the record of one line, and the state
of one document. -/
structure Wane where
  scan : Bool
  line : Option Line
  doc : Option Nat

/-- Nothing changes but that an access held for the scan may be let go. -/
def Smp.letsGo (a b : Smp) : Prop := b = a ∨ ∃ h i, a.held = some h ∧ h.reason = .scan i ∧ b = { a with held := none }

/-- State `t` holds no more records than `s`, and a document that goes in `s` goes in `t`. -/
structure Wanes (w : Wane) (s t : State) : Prop where
  fixed : t.pending = s.pending ∧ t.phase = s.phase ∧ t.mad = s.mad ∧ t.rxr = s.rxr ∧ t.prn = s.prn
    ∧ t.rgw.state = s.rgw.state ∧ t.rgw.copy = s.rgw.copy ∧ t.lne = { s.lne with lines := t.lne.lines }
    ∧ t.chg.seconds = s.chg.seconds
  scan : w.scan = false → t.smp = s.smp ∧ t.rgw = s.rgw ∧ t.scn = s.scn
  doc : ∀ d, w.doc ≠ some d → s.goes d → t.goes d
  job : ∀ j, s.job? j = none → t.job? j = none
  dest : ∀ e, s.lacks e → t.lacks e
  call : ∀ k, Tab.get? s.chg.calls k = none → Tab.get? t.chg.calls k = none
  line : ∀ m, w.line ≠ some m → (s.line m).staysOr (t.line m)
  segs : Tab.rising s.psm.pages = true → Tab.rising t.psm.pages = true ∧ t.segments.Perm s.segments
  hold : s.smp.letsGo t.smp
  calm : w.line = none → (∀ m, (s.line m).state ≠ .dataWait) → t.lne = s.lne ∧ t.sli = s.sli ∧ t.chg = s.chg
  noted : t.rgw.noted = s.rgw.noted

theorem Smp.letsGo.trans {a b c : Smp} (h : a.letsGo b) (h' : b.letsGo c) : a.letsGo c := by
  obtain rfl | ⟨x, i, hx, hi, rfl⟩ := h
  · exact h'
  · obtain rfl | ⟨y, j, hy, -, -⟩ := h'
    · exact .inr ⟨x, i, hx, hi, rfl⟩
    · cases hy

theorem LineRec.staysOr_refl (r : LineRec) : r.staysOr r :=
  ⟨fun _ => rfl, fun h => by rw [h]; rfl⟩

theorem LineRec.staysOr.trans {r r' r'' : LineRec} (h : r.staysOr r') (h' : r'.staysOr r'') : r.staysOr r'' := by
  refine ⟨fun hr => ?_, fun hr => ?_⟩
  · have e := h.1 hr
    rw [h'.1 (by rw [e]; exact hr), e]
  · by_cases hr' : r'.state = .dataWait
    · exact h'.2 hr'
    · rw [h'.1 hr']
      exact h.2 hr

theorem LineRec.staysOr.inSession {r r' : LineRec} (h : r.staysOr r') (hr : r.state.inSession = true) :
    r'.state.inSession = true := by
  by_cases hd : r.state = .dataWait
  · exact h.2 hd
  · rw [h.1 hd]
    exact hr

/-- What the relation speaks of. -/
def State.view (s : State) :=
  (s.pending, s.phase, s.smp, s.rgw, s.mad, s.scn, (s.psm.pages, s.psm.stack), (s.dju.docs, s.dju.jobs, s.dju.dests), s.lne,
    s.rxr, s.prn, s.chg, s.sli)

section

variable {w : Wane} {s0 s : State}

theorem Wanes.refl (w : Wane) (s : State) : Wanes w s s :=
  ⟨⟨rfl, rfl, rfl, rfl, rfl, rfl, rfl, rfl, rfl⟩, fun _ => ⟨rfl, rfl, rfl⟩, fun _ _ => id, fun _ => id, fun _ => id, fun _ => id,
    fun _ _ => LineRec.staysOr_refl _, fun h => ⟨h, List.Perm.refl _⟩, .inl rfl, fun _ _ => ⟨rfl, rfl, rfl⟩, rfl⟩

theorem Wanes.trans {t u : State} (h : Wanes w s t) (h' : Wanes w t u) : Wanes w s u := by
  obtain ⟨p, ph, mad, rxr, prn, st, cp, lne, sec⟩ := h.fixed
  obtain ⟨p', ph', mad', rxr', prn', st', cp', lne', sec'⟩ := h'.fixed
  refine ⟨⟨p'.trans p, ph'.trans ph, mad'.trans mad, rxr'.trans rxr, prn'.trans prn, st'.trans st, cp'.trans cp, ?_,
    sec'.trans sec⟩, fun hs => ?_, fun d hw hd => h'.doc d hw (h.doc d hw hd), fun j hj => h'.job j (h.job j hj),
    fun k hk => h'.dest k (h.dest k hk), fun k hk => h'.call k (h.call k hk),
    fun m hm => (h.line m hm).trans (h'.line m hm), fun hr => ?_, h.hold.trans h'.hold, fun hw hs => ?_,
    h'.noted.trans h.noted⟩
  · rw [lne'] at *
    rw [lne]
  · obtain ⟨a, b, c⟩ := h.scan hs
    obtain ⟨a', b', c'⟩ := h'.scan hs
    exact ⟨a'.trans a, b'.trans b, c'.trans c⟩
  · obtain ⟨ht, hp⟩ := h.segs hr
    obtain ⟨hu, hp'⟩ := h'.segs ht
    exact ⟨hu, hp'.trans hp⟩
  · obtain ⟨a, b, c⟩ := h.calm hw hs
    obtain ⟨a', b', c'⟩ := h'.calm hw fun m => by
      rw [State.line, a]
      exact hs m
    exact ⟨a'.trans a, b'.trans b, c'.trans c⟩

theorem Wanes.dest_none {t : State} (h : Wanes w s t) {k : Nat} (hk : s.dest? k = none) : t.dest? k = none := by
  cases ht : t.dest? k with
  | none => rfl
  | some r => exact absurd rfl (h.dest (k, r.job) (fun r hr => by rw [show s.dest? k = some r from hr] at hk; cases hk) r ht)

/-- A state that shows the relation nothing else. -/
theorem Wanes.same (h : Wanes w s0 s) {t : State} (e : t.view = s.view) : Wanes w s0 t := by
  refine h.trans ?_
  simp only [State.view, Prod.mk.injEq] at e
  obtain ⟨hp, hph, hsmp, hrgw, hmad, hscn, ⟨hpages, hstack⟩, ⟨hdocs, hjobs, hdests⟩, hlne, hrxr, hprn, hchg, hsli⟩ := e
  have hline : ∀ m, t.line m = s.line m := fun m => by rw [State.line, hlne]; rfl
  refine ⟨⟨hp, hph, hmad, hrxr, hprn, by rw [hrgw], by rw [hrgw], by rw [hlne], by rw [hchg]⟩, fun _ => ⟨hsmp, hrgw, hscn⟩,
    fun d _ hd r hr => hd r (by rw [State.doc?, ← hdocs]; exact hr), fun j hj => by rw [State.job?, hjobs]; exact hj,
    fun e he r hr => he r (by rw [State.dest?, ← hdests]; exact hr), fun k hk => by rw [hchg]; exact hk,
    fun m _ => by rw [hline m]; exact LineRec.staysOr_refl _, fun hr => ⟨by rw [hpages]; exact hr, ?_⟩,
    .inl hsmp, fun _ _ => ⟨hlne, hsli, hchg⟩, by rw [hrgw]⟩
  rw [State.segments, hpages, hstack]
  exact List.Perm.refl _

theorem Wanes.foldl {ι : Type} {l : List ι} {f : State → ι → State} (hf : ∀ t i, Wanes w s0 t → Wanes w s0 (f t i))
    (h : Wanes w s0 s) : Wanes w s0 (l.foldl f s) := by
  induction l generalizing s with
  | nil => exact h
  | cons i l ih => exact ih (hf s i h)

/-! ## Events, bytes and settings -/

theorem wanes_store {a : Nat} {bs : List Byte} (h : Wanes w s0 s) : Wanes w s0 (s.store a bs) := h.same rfl

theorem postTagged_view (kind : EventKind) (src : SourceKind) (idx tag code value : Nat) (s : State) :
    (postTagged kind src idx tag code value s).view = s.view := by
  unfold postTagged
  split
  · rfl
  · rw [deliverEvent_frame]
    rfl

theorem post_scn (kind : EventKind) (src : SourceKind) (idx code value : Nat) (s : State) :
    (post kind src idx code value s).scn = s.scn := by
  obtain ⟨c, m, heq, -⟩ := post_frame kind src idx code value s
  rw [heq]

theorem wanes_postTagged {kind : EventKind} {src : SourceKind} {idx tag code value : Nat} (h : Wanes w s0 s) :
    Wanes w s0 (postTagged kind src idx tag code value s) := h.same (postTagged_view ..)

theorem wanes_post {kind : EventKind} {src : SourceKind} {idx code value : Nat} (h : Wanes w s0 s) :
    Wanes w s0 (post kind src idx code value s) := wanes_postTagged h

theorem wanes_occasion (h : Wanes w s0 s) : Wanes w s0 (occasion s) := h.same rfl

/-- A change of the link interface alone, for a line that is free. -/
theorem Wanes.sli (hw : w.line ≠ none) (h : Wanes w s0 s) {x : Sli} : Wanes w s0 { s with sli := x } :=
  h.trans ⟨⟨rfl, rfl, rfl, rfl, rfl, rfl, rfl, rfl, rfl⟩, fun _ => ⟨rfl, rfl, rfl⟩, fun _ _ => id, fun _ => id, fun _ => id,
    fun _ => id, fun _ _ => LineRec.staysOr_refl _, fun hr => ⟨hr, List.Perm.refl _⟩, .inl rfl, fun e => absurd e hw, rfl⟩

theorem wanes_hand {n : Line} {k : TxKind} (hw : w.line ≠ none) (h : Wanes w s0 s) : Wanes w s0 (hand n k s) := by
  rw [hand_eq]
  exact h.sli hw

theorem wanes_writePathStatus (h : Wanes w s0 s) : Wanes w s0 (writePathStatus s) := h.same rfl

theorem wanes_testLowMark (h : Wanes w s0 s) : Wanes w s0 (testLowMark s) := by
  unfold testLowMark
  split
  · exact wanes_post (h.same rfl)
  · split
    · exact h.same rfl
    · exact h

theorem wanes_freeCountChanged (h : Wanes w s0 s) : Wanes w s0 (freeCountChanged s) :=
  wanes_testLowMark (wanes_writePathStatus h)

/-! ## Records of pages and documents -/

/-- A change of the page store alone that loses no segment; bytes and the events of a changed free count go with it. -/
theorem Wanes.psm (h : Wanes w s0 s) {t : State} (e : ∃ x c m, t = { s with psm := x, ceu := c, dram := m })
    (hsegs : Tab.rising s.psm.pages = true → Tab.rising t.psm.pages = true ∧ t.segments.Perm s.segments) : Wanes w s0 t := by
  obtain ⟨x, c, m, rfl⟩ := e
  exact h.trans ⟨⟨rfl, rfl, rfl, rfl, rfl, rfl, rfl, rfl, rfl⟩, fun _ => ⟨rfl, rfl, rfl⟩, fun _ _ => id, fun _ => id, fun _ => id,
    fun _ => id, fun _ _ => LineRec.staysOr_refl _, hsegs, .inl rfl, fun _ _ => ⟨rfl, rfl, rfl⟩, rfl⟩

theorem freeCountChanged_psm {s t : State} (e : ∃ x c m, t = { s with psm := x, ceu := c, dram := m }) :
    ∃ x c m, freeCountChanged t = { s with psm := x, ceu := c, dram := m } := by
  obtain ⟨x, c, m, rfl⟩ := e
  obtain ⟨a, c', m', heq, -⟩ := freeCountChanged_frame { s with psm := x, ceu := c, dram := m }
  exact ⟨_, _, _, heq⟩

theorem wanes_putPage {p : Nat} {r r' : PageRec} (hp : s.page? p = some r) (hc : r'.chain = r.chain) (h : Wanes w s0 s) :
    Wanes w s0 (putPage p r' s) :=
  h.psm ⟨_, _, _, rfl⟩ fun hr => ⟨Tab.rising_set hr p r', segments_putPage_same hr hp hc⟩

theorem wanes_modifyPage {p : Nat} {f : PageRec → PageRec} (hf : ∀ r, (f r).chain = r.chain) (h : Wanes w s0 s) :
    Wanes w s0 (modifyPage p f s) := by
  unfold modifyPage
  split
  · exact h
  next r hp => exact wanes_putPage hp (hf r) h

theorem wanes_releasePage {p : Nat} {r : PageRec} (hp : s.page? p = some r) (h : Wanes w s0 s) :
    Wanes w s0 (releasePage p r s) := by
  refine h.psm ?_ fun hr => ⟨?_, segments_releasePage hr hp⟩
  · unfold releasePage
    split
    · exact ⟨_, _, _, rfl⟩
    · obtain ⟨m, hpush, -⟩ := pushSegments_frame r.chain s
      refine freeCountChanged_psm ?_
      rw [hpush]
      exact ⟨_, _, _, rfl⟩
  · unfold releasePage
    split
    · exact Tab.rising_erase hr p
    · rw [freeCountChanged_pages]
      show Tab.rising (Tab.erase (pushSegments r.chain s).psm.pages p) = true
      rw [pushSegments_pages]
      exact Tab.rising_erase hr p

theorem wanes_trimPage {p lc : Nat} (h : Wanes w s0 s) : Wanes w s0 (trimPage p lc s) := by
  cases hp : s.page? p with
  | none => rwa [trimPage_of_none hp]
  | some r =>
    rcases Nat.lt_or_ge (segsFor lc) r.chain.length with hlong | hshort
    · obtain ⟨ps, a, c, m, heq, -⟩ := trimPage_spec hp hlong.le
      refine h.psm ⟨_, _, _, heq⟩ fun hr => ⟨?_, segments_trimPage hr p lc⟩
      rw [trimPage_of_long hp hlong, freeCountChanged_pages]
      refine Tab.rising_set ?_ p _
      have hend : ∀ (c : List Nat) (u : State), (endChain c u).psm = u.psm := fun c u => by
        unfold endChain
        split <;> rfl
      rw [hend, pushSegments_pages]
      exact hr
    · rwa [trimPage_of_short hp hshort]

theorem wanes_sealRecord {p lc lines : Nat} (h : Wanes w s0 s) : Wanes w s0 (sealRecord p lc lines s) :=
  wanes_modifyPage (fun _ => rfl) (wanes_trimPage h)

theorem wanes_giveSegment {p : Nat} {t : State} (hg : giveSegment p s = some t) (h : Wanes w s0 s) : Wanes w s0 t := by
  refine h.psm ?_ fun hr => ⟨?_, segments_giveSegment hr hg⟩
  · unfold giveSegment at hg
    split at hg
    · cases hg
      refine freeCountChanged_psm ?_
      split <;> exact ⟨_, _, _, rfl⟩
    · cases hg
  · unfold giveSegment at hg
    split at hg
    · cases hg
      rw [freeCountChanged_pages]
      refine Tab.rising_set ?_ p _
      split <;> exact hr
    · cases hg

theorem wanes_giveSegments {p n : Nat} (h : Wanes w s0 s) : Wanes w s0 (giveSegments p n s).1 := by
  induction n generalizing s with
  | zero => exact h
  | succ n ih =>
    rw [giveSegments]
    split
    · exact h
    next t hg => exact ih (wanes_giveSegment hg h)

theorem wanes_writeStream {chain : List Nat} {o : Nat} {bs : List Byte} (h : Wanes w s0 s) :
    Wanes w s0 (writeStream chain o bs s) := by
  have hstretches : ∀ (l : List Nat) (a : Nat) (bs : List Byte) (u : State), (writeStretches l a bs u).view = u.view := by
    intro l
    induction l with
    | nil => exact fun _ _ _ => rfl
    | cons seg l ih => exact fun a bs u => (ih 0 _ _).trans rfl
  unfold writeStream
  split
  · exact h
  · exact h.same (hstretches ..)

/-- A change of a document that does not stop its going. -/
theorem wanes_putDoc {d : Nat} {r r' : Doc} (hd : s.doc? d = some r)
    (hgo : r.state = .deleting → r.keep = false → r'.state = .deleting ∧ r'.keep = false) (h : Wanes w s0 s) :
    Wanes w s0 (putDoc d r' s) := by
  refine h.trans ⟨⟨rfl, rfl, rfl, rfl, rfl, rfl, rfl, rfl, rfl⟩, fun _ => ⟨rfl, rfl, rfl⟩, fun x _ hx y hy => ?_, fun _ => id,
    fun _ => id, fun _ => id, fun _ _ => LineRec.staysOr_refl _, fun hr => ⟨hr, List.Perm.refl _⟩, .inl rfl,
    fun _ _ => ⟨rfl, rfl, rfl⟩, rfl⟩
  by_cases hxd : x = d
  · subst hxd
    have e : r' = y := Option.some.inj ((doc?_putDoc_self x r' s).symm.trans hy)
    obtain ⟨hst, hkeep⟩ := hx r hd
    rw [← e]
    exact hgo hst hkeep
  · exact hx y ((doc?_putDoc_of_ne r' s hxd).symm.trans hy)

theorem wanes_modifyDoc {d : Nat} {f : Doc → Doc}
    (hf : ∀ r, r.state = .deleting → r.keep = false → (f r).state = .deleting ∧ (f r).keep = false) (h : Wanes w s0 s) :
    Wanes w s0 (modifyDoc d f s) := by
  unfold modifyDoc
  split
  · exact h
  next r hd => exact wanes_putDoc hd (hf r) h

theorem wanes_clearDoc {d : Nat} (h : Wanes w s0 s) : Wanes w s0 (clearDoc d s) := by
  refine h.trans ⟨⟨rfl, rfl, rfl, rfl, rfl, rfl, rfl, rfl, rfl⟩, fun _ => ⟨rfl, rfl, rfl⟩, fun x _ hx y hy => ?_, fun _ => id,
    fun _ => id, fun _ => id, fun _ _ => LineRec.staysOr_refl _, fun hr => ⟨hr, List.Perm.refl _⟩, .inl rfl,
    fun _ _ => ⟨rfl, rfl, rfl⟩, rfl⟩
  have e : Tab.get? (Tab.erase s.dju.docs d) x = some y := hy
  rw [Tab.get?_erase] at e
  split at e
  · cases e
  · exact hx y e

/-! ## Holds and the freeing of pages and documents (R75, R76, R84, R87) -/

theorem wanes_testDocFree {d : Nat} (h : Wanes w s0 s) : Wanes w s0 (testDocFree d s) := by
  unfold testDocFree
  split
  · exact h
  · split
    · exact wanes_clearDoc h
    · exact h

theorem wanes_testPageFree {p : Nat} (h : Wanes w s0 s) : Wanes w s0 (testPageFree p s) := by
  unfold testPageFree
  split
  · exact h
  next r hp =>
    split
    · exact wanes_testDocFree (wanes_modifyDoc (fun _ h1 h2 => ⟨h1, h2⟩) (wanes_releasePage hp h))
    · exact h

theorem wanes_changeSendHolds {p : Nat} {delta : Int} (h : Wanes w s0 s) : Wanes w s0 (changeSendHolds p delta s) := by
  unfold changeSendHolds
  split
  · exact h
  next r hp =>
    have hput := wanes_putPage (r' := { r with sendHolds := ((r.sendHolds : Int) + delta).toNat }) hp rfl h
    dsimp only
    split
    · exact wanes_testPageFree hput
    · exact hput

theorem wanes_abandonPage {p : Nat} (h : Wanes w s0 s) : Wanes w s0 (abandonPage p s) := by
  unfold abandonPage
  split
  · exact h
  next r hp => exact wanes_modifyDoc (fun _ h1 h2 => ⟨h1, h2⟩) (wanes_releasePage hp h)

theorem wanes_markTruncated {p : Nat} (h : Wanes w s0 s) : Wanes w s0 (markTruncated p s) := wanes_modifyPage (fun _ => rfl) h

/-! ## Jobs and destinations (R91 to R97) -/

/-- A change of jobs and destinations alone that makes none. -/
theorem Wanes.dju (h : Wanes w s0 s) {x : Dju} {m : Mem} (hdocs : x.docs = s.dju.docs)
    (hjobs : ∀ j, Tab.get? s.dju.jobs j = none → Tab.get? x.jobs j = none)
    (hdests : ∀ e : Nat × Nat, s.lacks e → ∀ r, Tab.get? x.dests e.1 = some r → r.job ≠ e.2) : Wanes w s0 { s with dju := x, dram := m } :=
  h.trans ⟨⟨rfl, rfl, rfl, rfl, rfl, rfl, rfl, rfl, rfl⟩, fun _ => ⟨rfl, rfl, rfl⟩,
    fun d _ hd r hr => hd r (by rw [State.doc?, ← hdocs]; exact hr), hjobs, hdests, fun _ => id,
    fun _ _ => LineRec.staysOr_refl _, fun hr => ⟨hr, List.Perm.refl _⟩, .inl rfl, fun _ _ => ⟨rfl, rfl, rfl⟩, rfl⟩

theorem Tab.get?_set_none {α : Type} {t : Tab α} {k : Nat} {v v' : α} (hk : Tab.get? t k = some v) {j : Nat}
    (h : Tab.get? t j = none) : Tab.get? (Tab.set t k v') j = none := by
  have hne : j ≠ k := fun e => by rw [e, hk] at h; cases h
  rw [Tab.get?_set_of_ne _ _ hne, h]

theorem Tab.get?_erase_none {α : Type} {t : Tab α} {k j : Nat} (h : Tab.get? t j = none) : Tab.get? (Tab.erase t k) j = none := by
  rw [Tab.get?_erase, h, ite_self]

theorem wanes_putJob {j : Nat} {r r' : Job} (hj : s.job? j = some r) (h : Wanes w s0 s) : Wanes w s0 (putJob j r' s) :=
  h.dju rfl (fun _ => Tab.get?_set_none hj) fun _ => id

theorem wanes_modifyJob {j : Nat} {f : Job → Job} (h : Wanes w s0 s) : Wanes w s0 (modifyJob j f s) := by
  unfold modifyJob
  split
  · exact h
  next r hj => exact wanes_putJob hj h

theorem wanes_clearJob {j : Nat} (h : Wanes w s0 s) : Wanes w s0 (clearJob j s) :=
  h.dju rfl (fun _ => Tab.get?_erase_none) fun _ => id

theorem wanes_putDest {k : Nat} {r r' : Dest} (hk : s.dest? k = some r) (hr : r'.job = r.job) (h : Wanes w s0 s) :
    Wanes w s0 (putDest k r' s) := by
  refine h.dju rfl (fun _ => id) fun e he x hx => ?_
  rw [Tab.get?_set] at hx
  split at hx
  next hek =>
    rw [← Option.some.inj hx, hr]
    exact he r (by rw [hek, hk])
  next => exact he x hx

theorem wanes_modifyDest {k : Nat} {f : Dest → Dest} (hf : ∀ r, (f r).job = r.job) (h : Wanes w s0 s) :
    Wanes w s0 (modifyDest k f s) := by
  unfold modifyDest
  split
  · exact h
  next r hk => exact wanes_putDest hk (hf r) h

theorem wanes_clearDest {k : Nat} (h : Wanes w s0 s) : Wanes w s0 (clearDest k s) :=
  h.dju rfl (fun _ => id) fun e he x hx => by
    rw [Tab.get?_erase] at hx
    split at hx
    · cases hx
    · exact he x hx

theorem wanes_takeHoldsOff {k : Nat} (h : Wanes w s0 s) : Wanes w s0 (takeHoldsOff k s) := by
  unfold takeHoldsOff
  split
  · exact h
  · split
    · exact h
    · exact h.foldl fun _ _ => wanes_changeSendHolds

theorem wanes_finishDest {k : Nat} {st : DestState} (h : Wanes w s0 s) : Wanes w s0 (finishDest k st s) := by
  unfold finishDest
  split
  · exact h
  next r hk => exact wanes_postTagged (wanes_modifyJob (wanes_putDest hk rfl h))

theorem wanes_destGivenUp {k : Nat} {st : DestState} (h : Wanes w s0 s) : Wanes w s0 (destGivenUp k st s) :=
  wanes_finishDest (wanes_takeHoldsOff h)

theorem wanes_endJob {j : Nat} {r : Job} (h : Wanes w s0 s) : Wanes w s0 (endJob j r s) :=
  wanes_testDocFree (wanes_modifyDoc (fun _ h1 h2 => ⟨h1, h2⟩)
    (wanes_clearJob ((wanes_postTagged h).foldl fun _ _ => wanes_clearDest)))

theorem wanes_testJobEnd {j : Nat} (h : Wanes w s0 s) : Wanes w s0 (testJobEnd j s) := by
  unfold testJobEnd
  split
  · exact h
  · split
    · exact wanes_endJob h
    · exact h

theorem wanes_toRetryWait {k a : Nat} (h : Wanes w s0 s) : Wanes w s0 (toRetryWait k a s) := by
  unfold toRetryWait
  generalize nextGen s.dju.gen = g
  exact wanes_modifyDest (fun _ => rfl) (h.dju rfl (fun _ => id) fun _ => id)

theorem wanes_moveDest {k : Nat} {cause : Cause} (h : Wanes w s0 s) : Wanes w s0 (moveDest k cause s) := by
  unfold moveDest
  split
  · exact h
  next d hk =>
    have hput (a : Nat) := wanes_putDest (r' := { d with attempts := a }) hk rfl h
    dsimp only
    split
    · exact h
    · split
      · exact wanes_destGivenUp (hput _)
      · split
        · exact wanes_modifyDest (fun _ => rfl) (hput _)
        · split
          · exact wanes_destGivenUp (hput _)
          · split
            · split
              · exact wanes_toRetryWait (hput _)
              · exact wanes_destGivenUp (hput _)
            · exact hput _

theorem wanes_destSessionEnd {k : Nat} {cause : Cause} (h : Wanes w s0 s) : Wanes w s0 (destSessionEnd k cause s) := by
  unfold destSessionEnd
  split
  · exact h
  · exact wanes_moveDest (wanes_modifyDest (fun _ => rfl) (wanes_modifyJob h))

/-! ## Lines that wait for a page (R133, R134) -/

/-- Only line `n` has changed, and it is the free one. -/
theorem Wanes.setLine {n : Line} (hw : w.line = some n) {r : LineRec} {t : State} (e : SetsLine n r s t) (h : Wanes w s0 s) :
    Wanes w s0 t := by
  refine h.trans ?_
  have hline : ∀ m, w.line ≠ some m → (s.line m).staysOr (t.line m) := fun m hm => by
    rw [e.line_of_ne fun hmn => hm (by rw [hw, hmn])]
    exact LineRec.staysOr_refl _
  obtain ⟨m, rfl, -⟩ := e
  exact ⟨⟨rfl, rfl, rfl, rfl, rfl, rfl, rfl, rfl, rfl⟩, fun _ => ⟨rfl, rfl, rfl⟩, fun _ _ => id, fun _ => id, fun _ => id,
    fun _ => id, hline, fun hr => ⟨hr, List.Perm.refl _⟩, .inl rfl, fun e => (by rw [hw] at e; cases e), rfl⟩

theorem wanes_modifyLine {n : Line} {f : LineRec → LineRec} (hw : w.line = some n) (h : Wanes w s0 s) :
    Wanes w s0 (modifyLine n f s) := h.setLine hw (setsLine_modifyLine n f s)

theorem wanes_enterState {n : Line} {st : LineState} {f : LineRec → LineRec} (hw : w.line = some n) (h : Wanes w s0 s) :
    Wanes w s0 (enterState n st f s) := h.setLine hw (setsLine_enterState n st f s)

theorem wanes_clearLine {n : Line} {cause : Cause} (hw : w.line = some n) (h : Wanes w s0 s) :
    Wanes w s0 (clearLine n cause s) := (wanes_hand (by rw [hw]; simp) h).setLine hw (setsLine_clearLine n cause s)

theorem wanes_abandonLine {n : Line} {cause : Cause} (hw : w.line = some n) (h : Wanes w s0 s) :
    Wanes w s0 (abandonLine n cause s) := wanes_clearLine hw (wanes_hand (by rw [hw]; simp) h)

theorem wanes_takePage {n : Line} {d : Doc} {k p : Nat} {r : PageRec} (hw : w.line = some n) (h : Wanes w s0 s) :
    Wanes w s0 (takePage n d k p r s) := by
  unfold takePage
  dsimp only
  split
  · exact wanes_abandonLine hw (wanes_modifyLine hw h)
  · refine wanes_enterState hw ?_
    unfold announcePage
    split
    · exact wanes_modifyLine hw h
    · exact wanes_modifyLine hw (wanes_hand (by rw [hw]; simp) (wanes_modifyLine hw h))

theorem wanes_waitForData {n : Line} (hw : w.line = some n) (h : Wanes w s0 s) : Wanes w s0 (waitForData n s) := by
  unfold waitForData
  split
  · exact h
  · exact wanes_enterState hw h

theorem wanes_allPagesSent {n : Line} (hw : w.line = some n) (h : Wanes w s0 s) : Wanes w s0 (allPagesSent n s) := by
  unfold allPagesSent
  have hfirst : Wanes w s0 (if (s.line n).lastEnd = some .docEnd then s else hand n .abandon s) := by
    split
    · exact h
    · exact wanes_hand (by rw [hw]; simp) h
  dsimp only
  refine wanes_clearLine hw ?_
  split
  · exact hfirst
  · exact wanes_finishDest hfirst

theorem enterState_state (n : Line) (st : LineState) (f : LineRec → LineRec) (s : State) :
    ((enterState n st f s).line n).state = st := by
  rw [(setsLine_enterState n st f s).line_self]
  rfl

theorem clearLine_state (n : Line) (cause : Cause) (s : State) : ((clearLine n cause s).line n).state = .clearing :=
  enterState_state n .clearing _ _

theorem waitForData_state {n : Line} (hn : (s.line n).state = .dataWait) : ((waitForData n s).line n).state = .dataWait := by
  rw [waitForData, if_pos hn, hn]

theorem takePage_inSession (n : Line) (d : Doc) (k p : Nat) (r : PageRec) (s : State) :
    ((takePage n d k p r s).line n).state.inSession = true := by
  unfold takePage
  dsimp only
  split
  · rw [abandonLine, clearLine_state]
    rfl
  · rw [sendPartial, enterState_state]
    rfl

theorem allPagesSent_inSession (n : Line) (s : State) : ((allPagesSent n s).line n).state.inSession = true := by
  unfold allPagesSent
  dsimp only
  rw [clearLine_state]
  rfl

/-- A line that waits for a page stays in session, with the page taken or its session over. -/
theorem nextPlace_inSession {n : Line} (hn : (s.line n).state = .dataWait) : ((nextPlace n s).line n).state.inSession = true := by
  have hwait : ((waitForData n s).line n).state.inSession = true := by rw [waitForData_state hn]; rfl
  unfold nextPlace
  split
  · split
    · split
      · split
        · exact takePage_inSession ..
        · exact hwait
      · exact hwait
    · split
      · exact allPagesSent_inSession ..
      · exact hwait
  · rw [hn]
    rfl

theorem wanes_nextPlace_of_free {n : Line} (hw : w.line = some n) (h : Wanes w s0 s) : Wanes w s0 (nextPlace n s) := by
  unfold nextPlace
  split
  · split
    · split
      · split
        · exact wanes_takePage hw h
        · exact wanes_waitForData hw h
      · exact wanes_waitForData hw h
    · split
      · exact wanes_allPagesSent hw h
      · exact wanes_waitForData hw h
  · exact h

theorem wanes_nextPlace {n : Line} (hn : (s.line n).state = .dataWait) (h : Wanes w s0 s) : Wanes w s0 (nextPlace n s) := by
  have hfree := wanes_nextPlace_of_free (w := { w with line := some n }) rfl (Wanes.refl _ s)
  refine h.trans { hfree with line := fun m hm => ?_, calm := fun _ hnone => absurd hn (hnone n) }
  by_cases hmn : m = n
  · subst hmn
    exact ⟨fun hne => absurd hn hne, fun _ => nextPlace_inSession hn⟩
  · exact hfree.line m fun e => hmn (Option.some.inj e).symm

theorem wanes_recheckLines {d : Nat} (h : Wanes w s0 s) : Wanes w s0 (recheckLines d s) := by
  refine h.foldl fun t n ht => ?_
  split
  next hn => exact wanes_nextPlace hn.1 ht
  · exact ht

/-! ## The end of a page under way (R58, R73, R77) -/

theorem wanes_giveUpPage {d p : Nat} (h : Wanes w s0 s) : Wanes w s0 (giveUpPage d p s) :=
  wanes_recheckLines (wanes_abandonPage h)

theorem wanes_sealPage {p lc lines : Nat} (h : Wanes w s0 s) : Wanes w s0 (sealPage p lc lines s) := by
  unfold sealPage
  split
  · exact h
  · split
    · exact wanes_giveUpPage h
    · exact wanes_testPageFree (wanes_occasion (wanes_recheckLines (wanes_sealRecord h)))

/-! ## The end of a scan (R16, R56 to R58) -/

/-- A change of the scan, of the access it holds and of the slot geometry. -/
theorem Wanes.scanMoves (hw : w.scan = true) (h : Wanes w s0 s) {t : State}
    (hhold : s.smp.letsGo t.smp)
    (e : ∃ x y g b c m, t = { s with smp := x, scn := y, rgw := { s.rgw with rawGeom := g, started := b }, ceu := c, dram := m }) :
    Wanes w s0 t := by
  obtain ⟨x, y, g, b, c, m, rfl⟩ := e
  exact h.trans ⟨⟨rfl, rfl, rfl, rfl, rfl, rfl, rfl, rfl, rfl⟩, fun e => (by rw [hw] at e; cases e), fun _ _ => id, fun _ => id,
    fun _ => id, fun _ => id, fun _ _ => LineRec.staysOr_refl _, fun hr => ⟨hr, List.Perm.refl _⟩, hhold,
    fun _ _ => ⟨rfl, rfl, rfl⟩, rfl⟩

theorem passWrite_frame (a : BusAccess) (s : State) :
    ∃ y b c m, passWrite a s = { s with scn := y, rgw := { s.rgw with started := b }, ceu := c, dram := m } := by
  have hreport : ∀ (g : RawGeom) (j : Nat) (t : State),
      ∃ y b c m, lastPixelReport g j t = { t with scn := y, rgw := { t.rgw with started := b }, ceu := c, dram := m } := fun g j t => by
    unfold lastPixelReport
    split
    · exact ⟨_, _, _, _, rfl⟩
    · split
      · exact ⟨_, _, _, _, rfl⟩
      · obtain ⟨c, m, heq, -⟩ := post_frame .scanOrder .document (orAbsent 0 t.scn.doc) 0 j t
        exact ⟨_, _, c, m, heq⟩
  unfold passWrite rawWatch
  split
  · exact ⟨_, _, _, _, rfl⟩
  · split
    · exact ⟨_, _, _, _, rfl⟩
    · split
      · obtain ⟨y, b, c, m, heq⟩ := hreport _ _ (storeAccess a s)
        exact ⟨y, b, c, m, heq⟩
      · split <;> exact ⟨_, _, _, _, rfl⟩

theorem releaseScanHold_frame (s : State) :
    ∃ x y b c m, releaseScanHold s = { s with smp := x, scn := y, rgw := { s.rgw with started := b }, ceu := c, dram := m }
      ∧ s.smp.letsGo x := by
  unfold releaseScanHold
  split
  next h hheld =>
    split
    next i hi =>
      split
      · obtain ⟨y, b, c, m, heq⟩ := passWrite_frame h.access { s with smp := { s.smp with held := none } }
        exact ⟨_, y, b, c, m, heq, .inr ⟨h, i, hheld, hi, rfl⟩⟩
      · exact ⟨_, _, _, _, _, rfl, .inl rfl⟩
    · exact ⟨_, _, _, _, _, rfl, .inl rfl⟩
  · exact ⟨_, _, _, _, _, rfl, .inl rfl⟩

theorem wanes_endScan (hw : w.scan = true) (h : Wanes w s0 s) : Wanes w s0 (endScan s) := by
  unfold endScan
  obtain ⟨u, hu⟩ : ∃ u : State, u = { s with
      rgw := { s.rgw with rawGeom := none, started := false },
      scn := { s.scn with state := .scanIdle, doc := none, active := none, mode := none, take := 0, comp := 0,
                          waiting := 0, overruns := [], voids := [], page := none, half := none, ref := [],
                          outLines := 0, rawLines := 0, streamLen := 0 } } := ⟨_, rfl⟩
  obtain ⟨x, y, b, c, m, heq, hhold⟩ := releaseScanHold_frame u
  rw [← hu, heq]
  have hhold' : s.smp.letsGo x := by
    rw [hu] at hhold
    exact hhold
  refine h.scanMoves hw hhold' ⟨x, y, none, b, c, m, ?_⟩
  rw [hu]

theorem wanes_scn (hw : w.scan = true) {x : Scn} (h : Wanes w s0 s) : Wanes w s0 { s with scn := x } :=
  h.scanMoves hw (.inl rfl) ⟨_, _, _, _, _, _, rfl⟩

theorem wanes_sealOpenPage (hw : w.scan = true) (h : Wanes w s0 s) : Wanes w s0 (sealOpenPage s) := by
  unfold sealOpenPage
  split
  · exact h
  · exact wanes_sealPage (wanes_scn hw h)

theorem wanes_faultPage (hw : w.scan = true) (h : Wanes w s0 s) : Wanes w s0 (faultPage s).1 := by
  unfold faultPage
  split
  · exact h
  next p _ =>
    have hclosed : Wanes w s0 { s with scn := { s.scn with page := none } } := wanes_scn hw h
    split
    · dsimp only
      exact wanes_giveUpPage hclosed
    · exact wanes_sealOpenPage hw (wanes_markTruncated h)

theorem wanes_scanFault {f : ScanFault} (hw : w.scan = true) (h : Wanes w s0 s) : Wanes w s0 (scanFault f s) :=
  wanes_post (wanes_endScan hw (wanes_faultPage hw (wanes_scn hw h)))

theorem wanes_appendLine {dots : List Bool} (hw : w.scan = true) (h : Wanes w s0 s) : Wanes w s0 (appendLine dots s) := by
  unfold appendLine
  split
  next p prof _ _ =>
    dsimp only
    generalize hu : writeStream _ _ _ _ = u
    have hwrite : Wanes w s0 u := hu ▸ wanes_writeStream (wanes_giveSegments h)
    split
    · exact wanes_scn hw hwrite
    · exact wanes_scanFault hw hwrite
  · exact h

theorem wanes_finishPage (hw : w.scan = true) (h : Wanes w s0 s) : Wanes w s0 (finishPage s) := by
  unfold finishPage
  split
  · dsimp only
    refine wanes_sealOpenPage hw ?_
    split
    · exact h
    · exact wanes_appendLine hw (wanes_scn hw h)
  · exact h

theorem wanes_cutScan (hw : w.scan = true) (h : Wanes w s0 s) : Wanes w s0 (cutScan s) := by
  unfold cutScan
  split
  · exact h
  · exact wanes_endScan hw (wanes_finishPage hw h)

/-! ## The deletion of documents (R85 to R87, R91, R155) -/

theorem wanes_idleSent {j places : Nat} (h : Wanes w s0 s) : Wanes w s0 (idleSent j places s) := by
  refine h.foldl fun t k ht => ?_
  split
  · exact ht
  · split
    · exact wanes_finishDest ht
    · exact ht

theorem wanes_listFinal {test : Nat → State → State} (htest : ∀ u j, Wanes w s0 u → Wanes w s0 (test j u)) {d : Nat}
    (h : Wanes w s0 s) : Wanes w s0 (listFinal test d s) :=
  wanes_occasion (wanes_recheckLines (h.foldl fun _ j ht => htest _ j (wanes_idleSent ht)))

/-- The scan may be cut off: it may be touched, or there is none. -/
def Wane.mayCut (w : Wane) (s : State) : Prop := w.scan = true ∨ s.scn.state = .scanIdle

theorem wanes_cutScan_of_mayCut (hw : w.mayCut s) (h : Wanes w s0 s) : Wanes w s0 (cutScan s) := by
  obtain hscan | hidle := hw
  · exact wanes_cutScan hscan h
  · rw [cutScan, if_pos hidle]
    exact h

theorem wanes_beginDelete {d : Nat} (hw : s.scn.doc = some d → w.mayCut s) (h : Wanes w s0 s) :
    Wanes w s0 (beginDelete d s) := by
  unfold beginDelete
  dsimp only
  refine Wanes.foldl (fun _ _ => wanes_testPageFree) (wanes_modifyDoc (fun _ _ _ => ⟨rfl, rfl⟩) ?_)
  split
  next hd => exact wanes_cutScan_of_mayCut (hw hd) h
  · exact h

theorem wanes_finishDelete {d : Nat} (h : Wanes w s0 s) : Wanes w s0 (finishDelete d s) :=
  wanes_testDocFree (wanes_listFinal (fun _ _ => wanes_testJobEnd) h)

theorem wanes_deleteDoc {d : Nat} (hw : s.scn.doc = some d → w.mayCut s) (h : Wanes w s0 s) : Wanes w s0 (deleteDoc d s) :=
  wanes_finishDelete (wanes_beginDelete hw h)

/-- A document that is deleted goes. -/
theorem goes_deleteDoc (d : Nat) (s : State) : (deleteDoc d s).goes d := by
  have hmark : ∀ t : State, (modifyDoc d (fun r => { r with keep := false, state := .deleting }) t).goes d := fun t r hr => by
    cases hd : t.doc? d with
    | none =>
      rw [modifyDoc_of_none hd, hd] at hr
      cases hr
    | some x =>
      rw [modifyDoc_of_some hd, doc?_putDoc_self] at hr
      cases hr
      exact ⟨rfl, rfl⟩
  unfold deleteDoc beginDelete
  dsimp only
  refine (wanes_finishDelete (w := ⟨false, none, none⟩) (Wanes.foldl (fun _ _ => wanes_testPageFree) (Wanes.refl _ _))).doc d (fun e => nomatch e) ?_
  exact hmark _

theorem wanes_testJob {j : Nat} (hw : ∀ r, s.job? j = some r → s.scn.doc = some r.doc → w.mayCut s) (h : Wanes w s0 s) :
    Wanes w s0 (testJob j s) := by
  unfold testJob
  split
  · exact h
  next r hj =>
    split
    · have hend : (endJob j r s).scn = s.scn := ((wanes_endJob (w := ⟨false, none, none⟩) (Wanes.refl _ s)).scan rfl).2.2
      have h' := wanes_endJob (j := j) (r := r) h
      dsimp only
      split
      · exact h'
      · split
        · exact wanes_deleteDoc (by unfold Wane.mayCut; rw [hend]; exact hw r hj) h'
        · exact h'
    · exact h

theorem wanes_testAutoDelete {d : Nat} (hw : s.scn.doc = some d → w.mayCut s) (h : Wanes w s0 s) :
    Wanes w s0 (testAutoDelete d s) := by
  unfold testAutoDelete
  split
  · exact h
  · split
    · exact wanes_deleteDoc hw h
    · exact h

/-! ## The end of a session (R136, R141, R154, R188, R189) -/

theorem wanes_setLine {n : Line} {r : LineRec} (hw : w.line = some n) (h : Wanes w s0 s) : Wanes w s0 (setLine n r s) :=
  h.setLine hw (setsLine_setLine n r s)

theorem wanes_giveUpStore {n : Line} (hw : w.line = some n) (h : Wanes w s0 s) : Wanes w s0 (giveUpStore n s) := by
  unfold giveUpStore
  split
  · exact h
  · exact (wanes_setLine hw h).sli (by rw [hw]; simp)

theorem wanes_closeEarly {n : Line} (hw : w.line = some n) (h : Wanes w s0 s) : Wanes w s0 (closeEarly n s) := by
  unfold closeEarly
  have hstore := wanes_giveUpStore hw h
  dsimp only
  split
  · exact hstore
  · exact wanes_sealPage (wanes_markTruncated (wanes_modifyLine hw hstore))

/-- A change of the charge unit that adds no call and leaves the time, for a line that is free. -/
theorem Wanes.chg (hw : w.line ≠ none) (h : Wanes w s0 s) {x : Chg} (hsec : x.seconds = s.chg.seconds)
    (hcalls : ∀ k, Tab.get? s.chg.calls k = none → Tab.get? x.calls k = none) : Wanes w s0 { s with chg := x } :=
  h.trans ⟨⟨rfl, rfl, rfl, rfl, rfl, rfl, rfl, rfl, hsec⟩, fun _ => ⟨rfl, rfl, rfl⟩, fun _ _ => id, fun _ => id, fun _ => id,
    hcalls, fun _ _ => LineRec.staysOr_refl _, fun hr => ⟨hr, List.Perm.refl _⟩, .inl rfl, fun e => absurd e hw, rfl⟩

theorem wanes_putAccount {i : Nat} {a : Account} (hw : w.line ≠ none) (h : Wanes w s0 s) : Wanes w s0 (putAccount i a s) :=
  wanes_store (h.chg hw rfl fun _ => id)

theorem wanes_dropCall {n : Line} (hw : w.line ≠ none) (h : Wanes w s0 s) : Wanes w s0 (dropCall n s) :=
  h.chg hw rfl fun _ => Tab.get?_erase_none

theorem wanes_testExhausted {i : Nat} (hw : w.line ≠ none) (h : Wanes w s0 s) : Wanes w s0 (testExhausted i s) := by
  have hmark : Wanes w s0 (markTested i s) := by
    unfold markTested
    split
    · exact h
    · exact wanes_putAccount hw h
  rw [testExhausted_eq]
  split
  · exact wanes_post hmark
  · exact hmark

theorem wanes_releaseCall {n : Line} {c : CallRec} (hw : w.line ≠ none) (h : Wanes w s0 s) : Wanes w s0 (releaseCall n c s) :=
  wanes_occasion (wanes_dropCall hw ((wanes_putAccount hw h).chg hw rfl fun _ => id))

theorem wanes_settleCall {n : Line} {c : CallRec} {cause : Cause} (hw : w.line ≠ none) (h : Wanes w s0 s) :
    Wanes w s0 (settleCall n c cause s).1 := by
  unfold settleCall
  refine wanes_post (wanes_putAccount hw ?_)
  unfold testNearFull
  split
  · exact wanes_post (Wanes.chg hw (wanes_store (Wanes.chg hw (Wanes.chg hw (wanes_store h) rfl fun _ => id) rfl fun _ => id)) rfl
      fun _ => id)
  · exact wanes_store (Wanes.chg hw (Wanes.chg hw (wanes_store h) rfl fun _ => id) rfl fun _ => id)

theorem wanes_endCall {n : Line} {cause : Cause} (hw : w.line ≠ none) (h : Wanes w s0 s) : Wanes w s0 (endCall n cause s) := by
  unfold endCall
  split
  · exact h
  · split
    · dsimp only
      refine wanes_occasion (wanes_dropCall hw (wanes_testExhausted hw ?_))
      split
      · exact wanes_settleCall hw h
      · exact wanes_modifyDest (fun _ => rfl) (wanes_settleCall hw h)
    · exact wanes_releaseCall hw h

/-- The inbound document that ends takes another state. -/
theorem wanes_endInbound {d : Nat} {whole : Bool} (hw : w.doc = some d) (hscan : w.mayCut s) (h : Wanes w s0 s) :
    Wanes w s0 (endInbound d whole s) := by
  unfold endInbound
  split
  · exact h
  next r hd =>
    dsimp only
    refine wanes_testAutoDelete (fun _ => hscan.imp_right fun hidle => ?_) (wanes_post (h.trans ?_))
    · rw [post_scn]
      exact hidle
    refine ⟨⟨rfl, rfl, rfl, rfl, rfl, rfl, rfl, rfl, rfl⟩, fun _ => ⟨rfl, rfl, rfl⟩, fun x hx hgo y hy => ?_, fun _ => id,
      fun _ => id, fun _ => id, fun _ _ => LineRec.staysOr_refl _, fun hr => ⟨hr, List.Perm.refl _⟩, .inl rfl,
      fun _ _ => ⟨rfl, rfl, rfl⟩, rfl⟩
    have hxd : x ≠ d := fun e => hx (by rw [hw, e])
    exact hgo y ((doc?_putDoc_of_ne _ s hxd).symm.trans hy)

theorem wanes_endReports {n : Line} {cause : Cause} (hline : w.line = some n) (hscan : w.mayCut s)
    (hdoc : (s.line n).dir = some .inbound → w.doc = (s.line n).doc) (h : Wanes w s0 s) : Wanes w s0 (endReports n cause s) := by
  unfold endReports
  dsimp only
  split
  · exact h
  next hdir =>
    have hearly := wanes_closeEarly hline h
    have hscn : (closeEarly n s).scn = s.scn :=
      ((wanes_closeEarly (w := ⟨false, some n, none⟩) rfl (Wanes.refl _ s)).scan rfl).2.2
    split
    · exact hearly
    next d hd => exact wanes_endInbound ((hdoc hdir).trans hd) (by unfold Wane.mayCut; rw [hscn]; exact hscan) hearly
  · have hcall := wanes_occasion (wanes_endCall (n := n) (cause := cause) (by rw [hline]; simp) h)
    split
    next k _ _ _ =>
      have hscn : (destSessionEnd k cause (occasion (endCall n cause s))).scn = s.scn :=
        ((wanes_destSessionEnd (w := ⟨false, some n, none⟩) (wanes_occasion (wanes_endCall (by simp) (Wanes.refl _ s)))).scan rfl).2.2
      exact wanes_testJob (fun _ _ _ => by unfold Wane.mayCut; rw [hscn]; exact hscan) (wanes_destSessionEnd hcall)
    · exact hcall

/-- What the end of a session may touch. -/
def State.sessionWane (s : State) (n : Line) : Wane := ⟨true, some n, if (s.line n).dir = some .inbound then (s.line n).doc else none⟩

/-- Once the reports are made, the end of a session takes away. -/
theorem wanes_endSession_of_reports {n : Line} {cause : Cause} {dst : LineState} (hw : w.line = some n)
    (h : Wanes w s0 (endReports n cause s)) : Wanes w s0 (endSession n cause dst s) := by
  have hover := wanes_store (a := (setLine n { LineRec.default with state := dst, cause := some cause }
      (giveUpStore n (endReports n cause s))).por (0x80 + 256 * n.val))
    (bs := (setLine n { LineRec.default with state := dst, cause := some cause }
      (giveUpStore n (endReports n cause s))).lineBytes n)
    (wanes_setLine (r := { LineRec.default with state := dst, cause := some cause }) hw (wanes_giveUpStore hw h))
  unfold endSession
  dsimp only
  split
  · exact wanes_occasion hover
  · exact hover

/-- The end of a session takes away, and touches no line but its own and those that wait for a page. -/
theorem wanes_endSession (n : Line) (cause : Cause) (dst : LineState) (s : State) :
    Wanes (s.sessionWane n) s (endSession n cause dst s) :=
  wanes_endSession_of_reports rfl (wanes_endReports rfl (.inl rfl) (fun h => if_pos h) (Wanes.refl _ s))

/-- With no scan active there is none to touch. -/
theorem wanes_endSession_of_idle (n : Line) (cause : Cause) (dst : LineState) {s : State} (h : s.scn.state = .scanIdle) :
    Wanes { s.sessionWane n with scan := false } s (endSession n cause dst s) :=
  wanes_endSession_of_reports rfl (wanes_endReports rfl (.inr h) (fun h => if_pos h) (Wanes.refl _ s))

theorem endSession_line (n : Line) (cause : Cause) (dst : LineState) (s : State) :
    (endSession n cause dst s).line n = { LineRec.default with state := dst, cause := some cause } := by
  unfold endSession
  dsimp only
  have hset := (setsLine_writeLine n { LineRec.default with state := dst, cause := some cause }
    (giveUpStore n (endReports n cause s))).line_self
  split
  · exact hset
  · exact hset

end

end Sys2Proof.Machine
end

section
/-! PROOFS. The print queue (R158 to R162): PRINT_DOCUMENT, CANCEL_PRINT and the removal of an entry. -/

namespace Sys2Proof.Machine

set_option Elab.async false

/-! ## Print holds that come off (R160, R162) -/

/-- A page of a document that keeps its pages is not freed by a change of its holds. -/
theorem changePrintHolds_of_kept {s : State} {p : Nat} {r : PageRec} (hr : s.page? p = some r) (hk : s.keeps r.doc = true)
    (δ : Int) : changePrintHolds p δ s = putPage p { r with printHolds := ((r.printHolds : Int) + δ).toNat } s := by
  simp only [changePrintHolds, hr]
  split
  · have hput : (putPage p { r with printHolds := ((r.printHolds : Int) + δ).toNat } s).page? p = some _ := page?_putPage_self ..
    have hkeeps : (putPage p { r with printHolds := ((r.printHolds : Int) + δ).toNat } s).keeps r.doc = true := hk
    simp only [testPageFree, hput]
    rw [if_neg]
    rw [hkeeps]
    simp
  · rfl

theorem changePrintHolds_of_none {s : State} {p : Nat} (h : s.page? p = none) (δ : Int) : changePrintHolds p δ s = s := by
  rw [changePrintHolds, h]

/-- Print holds that come off the pages of documents that keep theirs, each page once. -/
theorem dropHolds_of_kept (f : Nat → Nat) (l : List (Nat × Nat)) (hnodup : (l.map Prod.snd).Nodup) (s : State)
    (hkept : ∀ kp ∈ l, ∀ q, s.page? kp.2 = some q → s.keeps q.doc = true) :
    ∃ ps m, l.foldl (fun s kp => changePrintHolds kp.2 (-(f kp.1 : Int)) s) s
        = { s with psm := { s.psm with pages := ps }, dram := m }
      ∧ (∀ kp ∈ l, ∀ q, s.page? kp.2 = some q → Tab.get? ps kp.2 = some { q with printHolds := q.printHolds - f kp.1 })
      ∧ (∀ p, p ∉ l.map Prod.snd → Tab.get? ps p = s.page? p) := by
  induction l generalizing s with
  | nil => exact ⟨_, _, rfl, fun _ h => (nomatch h), fun _ _ => rfl⟩
  | cons kp l ih =>
    obtain ⟨hfirst, hrest⟩ := List.nodup_cons.mp hnodup
    have hstep : ∃ ps m, changePrintHolds kp.2 (-(f kp.1 : Int)) s = { s with psm := { s.psm with pages := ps }, dram := m }
        ∧ (∀ q, s.page? kp.2 = some q → Tab.get? ps kp.2 = some { q with printHolds := q.printHolds - f kp.1 })
        ∧ ∀ p, p ≠ kp.2 → Tab.get? ps p = s.page? p := by
      cases hq : s.page? kp.2 with
      | none => exact ⟨_, _, changePrintHolds_of_none hq _, fun _ h => (nomatch h), fun _ _ => rfl⟩
      | some q =>
        have hnum : ((q.printHolds : Int) + -(f kp.1 : Int)).toNat = q.printHolds - f kp.1 := by omega
        refine ⟨_, _, changePrintHolds_of_kept hq (hkept kp List.mem_cons_self q hq) _, fun x hx => ?_, fun p hp =>
          page?_putPage_of_ne _ s hp⟩
        cases hx
        rw [hnum]
        exact page?_putPage_self ..
    obtain ⟨ps, m, heq, hself, hother⟩ := hstep
    have hne : ∀ x ∈ l, x.2 ≠ kp.2 := fun x hx e => hfirst (e ▸ List.mem_map_of_mem hx)
    obtain ⟨ps', m', heq', hself', hother'⟩ := ih hrest { s with psm := { s.psm with pages := ps }, dram := m }
      fun x hx q hq => hkept x (List.mem_cons_of_mem _ hx) q ((hother x.2 (hne x hx)).symm.trans hq)
    refine ⟨ps', m', ?_, fun x hx q hq => ?_, fun p hp => ?_⟩
    · rw [List.foldl_cons, heq, heq']
    · rcases List.mem_cons.mp hx with rfl | hx
      · rw [hother' _ hfirst]
        exact hself q hq
      · exact hself' x hx q ((hother x.2 (hne x hx)).trans hq)
    · rw [List.map_cons, List.mem_cons, not_or] at hp
      rw [hother' p hp.2]
      exact hother p hp.1

theorem mem_placed (l : List (Option Nat)) (b k p : Nat) : (k, p) ∈ placed b l ↔ b ≤ k ∧ l[k - b]? = some (some p) := by
  induction l generalizing b with
  | nil => simp [placed]
  | cons x l ih =>
    have hnext : b + 1 ≤ k → (x :: l)[k - b]? = l[k - (b + 1)]? := fun h => by
      rw [show k - b = k - (b + 1) + 1 by omega, List.getElem?_cons_succ]
    have hcase : b ≤ k ↔ k = b ∨ b + 1 ≤ k := by omega
    cases x with
    | none =>
      rw [placed, ih, hcase]
      constructor
      · rintro ⟨h, e⟩
        exact ⟨.inr h, (hnext h).trans e⟩
      · rintro ⟨rfl | h, e⟩
        · simp at e
        · exact ⟨h, (hnext h).symm.trans e⟩
    | some q =>
      rw [placed, List.mem_cons, ih, hcase, Prod.mk.injEq]
      constructor
      · rintro (⟨rfl, rfl⟩ | ⟨h, e⟩)
        · simp
        · exact ⟨.inr h, (hnext h).trans e⟩
      · rintro ⟨rfl | h, e⟩
        · simp at e
          exact .inl ⟨rfl, e.symm⟩
        · exact .inr ⟨h, (hnext h).symm.trans e⟩

theorem placed_map_snd (l : List (Option Nat)) (b : Nat) : (placed b l).map Prod.snd = l.filterMap id := by
  induction l generalizing b with
  | nil => rfl
  | cons x l ih => cases x <;> simp [placed, ih]

/-- The holds that an entry still has come off the pages of a kept document. -/
theorem dropPrintHolds_of_kept {s : State} {r : PrintEntry} {d : Doc} (hdoc : s.doc? r.doc = some d) (hkeep : d.keep = true)
    (hnodup : d.livePages.Nodup) (hown : ∀ p q, p ∈ d.livePages → s.page? p = some q → q.doc = r.doc) :
    ∃ ps m, dropPrintHolds r s = { s with psm := { s.psm with pages := ps }, dram := m }
      ∧ (∀ k p q, d.places[k]? = some (some p) → s.page? p = some q →
          Tab.get? ps p = some { q with printHolds := q.printHolds - r.left k })
      ∧ (∀ p, p ∉ d.livePages → Tab.get? ps p = s.page? p) := by
  have hlive : (placed 0 d.places).map Prod.snd = d.livePages := placed_map_snd ..
  obtain ⟨ps, m, heq, hself, hother⟩ := dropHolds_of_kept r.left (placed 0 d.places) (by rw [hlive]; exact hnodup) s
    fun kp hkp q hq => by
      have hmem : kp.2 ∈ d.livePages := hlive ▸ List.mem_map_of_mem hkp
      rw [hown kp.2 q hmem hq]
      exact State.keeps_of hdoc hkeep
  refine ⟨ps, m, ?_, fun k p q hp hq => hself (k, p) ((mem_placed ..).mpr ⟨Nat.zero_le _, hp⟩) q hq, ?_⟩
  · rw [dropPrintHolds, hdoc]
    exact heq
  · rw [hlive] at hother
    exact hother

/-! ## The removal of an entry (R162) -/

section

variable {w : Wane} {s0 s : State}

theorem wanes_changePrintHolds {p : Nat} {delta : Int} (h : Wanes w s0 s) : Wanes w s0 (changePrintHolds p delta s) := by
  unfold changePrintHolds
  split
  · exact h
  next r hp =>
    have hput := wanes_putPage (r' := { r with printHolds := ((r.printHolds : Int) + delta).toNat }) hp rfl h
    dsimp only
    split
    · exact wanes_testPageFree hput
    · exact hput

theorem wanes_dropPrintHolds {r : PrintEntry} (h : Wanes w s0 s) : Wanes w s0 (dropPrintHolds r s) :=
  h.foldl fun _ _ => wanes_changePrintHolds

end

/-- The print unit once entry `e` has left the queue. -/
def Prn.without (x : Prn) (e : Nat) (r : PrintEntry) : Prn :=
  { x with entries := Tab.erase x.entries e,
           slots := if r.printing then markLast e x.slots else x.slots,
           rendering := if r.printing then none else x.rendering,
           sheetOpen := if r.printing then false else x.sheetOpen }

/-- The state once entry `e` has left the queue, before its document knows. -/
def withoutEntry (e : Nat) (r : PrintEntry) (s : State) : State :=
  { s with prn := s.prn.without e r, dram := Mem.write s.dram (s.entryAddr e) (zeros 64) }

/-- The document loses the reference of an entry, and an inbound one takes its printed mark. -/
def loseEntry (d : Nat) (s : State) : State :=
  let s := testDocFree d (modifyDoc d (fun x => { x with printRefs := x.printRefs - 1 }) s)
  match s.doc? d with
  | none => s
  | some x => if x.dir = .inbound then testAutoDelete d (modifyDoc d (fun x => { x with printed := true }) s) else s

theorem removeEntry_eq {s : State} {e : Nat} {r : PrintEntry} (he : s.entry? e = some r) (cancelled : Bool) :
    removeEntry e cancelled s = loseEntry r.doc (withoutEntry e r (if cancelled then dropPrintHolds r s else s)) := by
  have hleft : ∀ t : State, (if r.printing then
        { clearEntry e t with prn := { (clearEntry e t).prn with
            rendering := none, sheetOpen := false, slots := markLast e (clearEntry e t).prn.slots } }
      else clearEntry e t) = withoutEntry e r t := fun t => by
    unfold withoutEntry Prn.without
    cases r.printing <;> rfl
  simp only [removeEntry, he, hleft]
  rfl

theorem wanes_loseEntry {w : Wane} {s0 s : State} {d : Nat} (hw : w.scan = true) (h : Wanes w s0 s) :
    Wanes w s0 (loseEntry d s) := by
  have hfree := wanes_testDocFree (d := d) (wanes_modifyDoc (d := d) (f := fun x => { x with printRefs := x.printRefs - 1 })
    (fun _ h1 h2 => ⟨h1, h2⟩) h)
  unfold loseEntry
  dsimp only
  split
  · exact hfree
  · split
    · exact wanes_testAutoDelete (fun _ => .inl hw) (wanes_modifyDoc (fun _ h1 h2 => ⟨h1, h2⟩) hfree)
    · exact hfree

/-- The removal of an entry changes the print unit in one way only, whatever becomes of its document. -/
theorem removeEntry_prn {s : State} {e : Nat} {r : PrintEntry} (he : s.entry? e = some r) (cancelled : Bool) :
    (removeEntry e cancelled s).prn = s.prn.without e r := by
  have hdrop : (if cancelled then dropPrintHolds r s else s).prn = s.prn := by
    split
    · exact (wanes_dropPrintHolds (w := ⟨false, none, none⟩) (Wanes.refl _ s)).fixed.2.2.2.2.1
    · rfl
  have hlose := (wanes_loseEntry (w := ⟨true, none, none⟩) (d := r.doc) rfl
    (Wanes.refl _ (withoutEntry e r (if cancelled then dropPrintHolds r s else s)))).fixed.2.2.2.2.1
  rw [removeEntry_eq he, hlose]
  show (State.prn _).without e r = _
  rw [hdrop]

theorem Prn.without_entries (x : Prn) (e : Nat) (r : PrintEntry) (k : Nat) :
    Tab.get? (x.without e r).entries k = if k = e then none else Tab.get? x.entries k := Tab.get?_erase ..

/-- The document that loses an entry's reference, as long as it is not due for deletion. -/
theorem loseEntry_of_stays {s : State} {d : Nat} {x : Doc} (hd : s.doc? d = some x) (hst : x.state ≠ .deleting)
    (hstays : ({ x with printRefs := x.printRefs - 1, printed := true } : Doc).autoDeletes = false ∨ x.dir ≠ .inbound) :
    ∃ m, loseEntry d s = { s with
        dju := { s.dju with docs := (loseEntry d s).dju.docs }, dram := m }
      ∧ (loseEntry d s).doc? d = some { x with printRefs := x.printRefs - 1, printed := x.printed || x.dir == .inbound }
      ∧ ∀ k, k ≠ d → (loseEntry d s).doc? k = s.doc? k := by
  have hmod := modifyDoc_of_some hd fun x => { x with printRefs := x.printRefs - 1 }
  have hself := doc?_putDoc_self d { x with printRefs := x.printRefs - 1 } s
  have hfree : testDocFree d (putDoc d { x with printRefs := x.printRefs - 1 } s) = putDoc d { x with printRefs := x.printRefs - 1 } s := by
    rw [testDocFree, hself]
    exact if_neg fun h => hst h.1
  unfold loseEntry
  rw [hmod, hfree]
  simp only [hself]
  by_cases hin : x.dir = .inbound
  · have hprinted := modifyDoc_of_some hself fun x => { x with printed := true }
    have hself' := doc?_putDoc_self d { x with printRefs := x.printRefs - 1, printed := true }
      (putDoc d { x with printRefs := x.printRefs - 1 } s)
    rw [if_pos hin, hprinted, testAutoDelete_of_stays hself' (hstays.resolve_right fun h => h hin)]
    refine ⟨_, rfl, ?_, fun k hk => (doc?_putDoc_of_ne _ _ hk).trans (doc?_putDoc_of_ne _ _ hk)⟩
    rw [hself', hin]
    simp
  · rw [if_neg hin]
    refine ⟨_, rfl, ?_, fun k hk => doc?_putDoc_of_ne _ _ hk⟩
    rw [hself]
    simp [hin]

/-- A document that is due for deletion as it loses an entry's reference goes. -/
theorem loseEntry_goes {s : State} {d : Nat} {x : Doc} (hd : s.doc? d = some x) (hst : x.state ≠ .deleting)
    (hdue : ({ x with printRefs := x.printRefs - 1, printed := true } : Doc).autoDeletes = true) (hin : x.dir = .inbound) :
    (loseEntry d s).goes d := by
  have hmod := modifyDoc_of_some hd fun x => { x with printRefs := x.printRefs - 1 }
  have hself := doc?_putDoc_self d { x with printRefs := x.printRefs - 1 } s
  have hfree : testDocFree d (putDoc d { x with printRefs := x.printRefs - 1 } s) = putDoc d { x with printRefs := x.printRefs - 1 } s := by
    rw [testDocFree, hself]
    exact if_neg fun h => hst h.1
  have hprinted := modifyDoc_of_some hself fun x => { x with printed := true }
  have hself' := doc?_putDoc_self d { x with printRefs := x.printRefs - 1, printed := true }
    (putDoc d { x with printRefs := x.printRefs - 1 } s)
  unfold loseEntry
  rw [hmod, hfree]
  simp only [hself]
  rw [if_pos hin, hprinted, testAutoDelete, hself']
  dsimp only
  rw [if_pos hdue]
  exact goes_deleteDoc d _

/-- An inbound document is due for deletion with its last print reference. -/
theorem Doc.autoDeletes_lastRef (d : Doc) :
    ({ d with printRefs := d.printRefs - 1, printed := true } : Doc).autoDeletes = true ∧ d.dir = .inbound
      ↔ d.dir = .inbound ∧ d.autoDelete = true ∧ (d.state = .complete ∨ d.state = .incomplete) ∧ d.isHeld = false
        ∧ d.printRefs ≤ 1 := by
  have hrefs : d.printRefs - 1 = 0 ↔ d.printRefs ≤ 1 := by omega
  simp only [Doc.autoDeletes, Bool.and_eq_true, Bool.or_eq_true, beq_iff_eq, decide_eq_true_eq, hrefs, Bool.not_eq_true']
  tauto

/-! ## PRINT_DOCUMENT and CANCEL_PRINT (R159, R161) -/

theorem exec_printDocument_of_ready {s u : State} {q : Reply} (h : s.readyFor 0x49 4 = true)
    (hbody : Machine.printDocument s.headSlot s.carry = (u, q)) : exec .printDocument s = .next (s.answered q u) := by
  rw [exec_printDocument, take_of_readyFor h le_rfl, hbody]

theorem exec_cancelPrint_of_ready {s u : State} {q : Reply} (h : s.readyFor 0x4A 1 = true)
    (hbody : Machine.cancelPrint s.headSlot s.carry = (u, q)) : exec .cancelPrint s = .next (s.answered q u) := by
  rw [exec_cancelPrint, take_of_readyFor h le_rfl, hbody]

/-- CANCEL_PRINT of an entry outside the middle of a sheet removes it. -/
theorem exec_cancelPrint_of_removed {s : State} {r : PrintEntry} (h : s.readyFor 0x4A 1 = true)
    (he : s.entry? (s.headSlot.num 0) = some r) (hmark : r.cancelMark = false) (hsheet : ¬(r.printing = true ∧ s.prn.sheetOpen = true)) :
    exec .cancelPrint s
      = .next (s.answered ⟨.done, .print, s.headSlot.num 0, 0⟩ (removeEntry (s.headSlot.num 0) true s.carry)) := by
  refine exec_cancelPrint_of_ready h ?_
  rw [Machine.cancelPrint, show s.carry.entry? (s.headSlot.num 0) = some r from he]
  dsimp only
  rw [if_neg (by simp [hmark])]
  exact if_neg hsheet

theorem printDocument_of_bad {s : State} {sl : Slot} {r : Doc} (hclass : sl.num 3 ≤ 1) (hd : s.doc? (sl.num 0) = some r)
    (hbad : r.state = .opened ∨ r.state = .deleting) : Machine.printDocument sl s = (s, Reply.path .wrongState 0) := by
  rw [Machine.printDocument, if_neg (by omega), hd]
  exact if_pos hbad

theorem printDocument_of_full {s : State} {sl : Slot} {r : Doc} (hclass : sl.num 3 ≤ 1) (hd : s.doc? (sl.num 0) = some r)
    (hopen : r.state ≠ .opened) (hdel : r.state ≠ .deleting) (he : s.freeEntry = none) :
    Machine.printDocument sl s = (s, Reply.path .full 0) := by
  rw [Machine.printDocument, if_neg (by omega), hd]
  dsimp only
  rw [if_neg (by simp [hopen, hdel]), he]

theorem printDocument_of_free {s : State} {sl : Slot} {r : Doc} {e : Nat} (hclass : sl.num 3 ≤ 1)
    (hd : s.doc? (sl.num 0) = some r) (hopen : r.state ≠ .opened) (hdel : r.state ≠ .deleting) (he : s.freeEntry = some e) :
    Machine.printDocument sl s
      = (createEntry e (sl.num 0) (clampNat 1 9 (sl.num 1)) (clampNat 0 3 (sl.num 2)) (sl.num 3) s,
          Reply.doneOr (firstClamped [(1, sl.num 1, clampNat 1 9 (sl.num 1)), (2, sl.num 2, clampNat 0 3 (sl.num 2))])
            .print e e) := by
  rw [Machine.printDocument, if_neg (by omega), hd]
  dsimp only
  rw [if_neg (by simp [hopen, hdel]), he]

theorem printDocument_clamped (num : Nat → Nat) :
    firstClamped [(1, num 1, clampNat 1 9 (num 1)), (2, num 2, clampNat 0 3 (num 2))]
      = if num 1 < 1 ∨ 9 < num 1 then some 1 else if 3 < num 2 then some 2 else none := by
  have hcopies : num 1 = clampNat 1 9 (num 1) ↔ ¬ (num 1 < 1 ∨ 9 < num 1) := by
    rw [eq_clampNat_iff (by decide)]
    omega
  have htray : num 2 = clampNat 0 3 (num 2) ↔ ¬ 3 < num 2 := by
    rw [eq_clampNat_iff (by decide)]
    omega
  rw [firstClamped, firstClamped, firstClamped, if_congr hcopies rfl rfl, if_congr htray rfl rfl, ite_not, ite_not]

/-- Settles O39: PRINT_DOCUMENT with its checks, CANCEL_PRINT, and what the removal of an entry does to its document. -/
theorem printQueueCommands : Obligations.PrintQueueCommands := by
  refine ⟨fun s h => ?_, fun s h => ?_, fun r d s h => ?_⟩
  · intro sl d copies
    have hslot : sl = s.headSlot := rfl
    refine ⟨fun hclass => exec_printDocument_of_ready h (if_pos hclass), fun hclass hnone => exec_printDocument_of_ready h ?_,
      fun r hclass hr => ⟨fun hbad => exec_printDocument_of_ready h ?_, fun hopen hdel hfull => exec_printDocument_of_ready h ?_,
        fun e hopen hdel he hnodup => ?_⟩⟩
    · rw [Machine.printDocument, if_neg (by rw [← hslot]; omega), show s.carry.doc? (s.headSlot.num 0) = none from hnone]
    · exact printDocument_of_bad hclass (s := s.carry) hr hbad
    · exact printDocument_of_full hclass (s := s.carry) hr hopen hdel hfull
    · have hcopies : 0 < clampNat 1 9 (sl.num 1) := by unfold clampNat; omega
      obtain ⟨u, hcreate, hframe, hself, hother, hentry, hentries, hpages, hbytes⟩ :=
        createEntry_spec (s := s.carry) hr hcopies e (clampNat 0 3 (sl.num 2)) (sl.num 3)
      refine ⟨u, ?_, hframe, ?_, hentries, hself, hother, hpages hnodup, hbytes⟩
      · rw [← printDocument_clamped sl.num, ← hcreate]
        refine exec_printDocument_of_ready h ?_
        exact printDocument_of_free hclass (s := s.carry) hr hopen hdel he
      · rw [hentry, PrintEntry.fresh, clampNat_zero]
        rfl
  · intro e
    refine ⟨fun hnone => exec_cancelPrint_of_ready h ?_, fun r hr => ⟨fun hmark => exec_cancelPrint_of_ready h ?_,
      fun hmark hprinting hsheet => ?_, fun hmark hsheet => ?_⟩⟩
    · rw [Machine.cancelPrint, show s.carry.entry? (s.headSlot.num 0) = none from hnone]
    · rw [Machine.cancelPrint, show s.carry.entry? (s.headSlot.num 0) = some r from hr]
      exact if_pos hmark
    · refine ⟨putEntry e { r with cancelMark := true } s.carry, exec_cancelPrint_of_ready h ?_, rfl, entry?_putEntry_self ..,
        fun k hk => entry?_putEntry_of_ne _ _ hk, unchangedOutside_store (by simp)⟩
      rw [Machine.cancelPrint, show s.carry.entry? (s.headSlot.num 0) = some r from hr]
      exact (if_neg (by simp [hmark])).trans (if_pos ⟨hprinting, hsheet⟩)
    · have hprn := removeEntry_prn (s := s.carry) hr true
      refine ⟨_, exec_cancelPrint_of_removed h hr hmark hsheet, ?_, fun k hk => ?_⟩
      · rw [State.entry?, hprn, Prn.without_entries, if_pos rfl]
      · rw [State.entry?, hprn, Prn.without_entries, if_neg hk]
        rfl
  · intro e he hmark hsheet hd hnodup hkeep hst hown left printed deletes
    have hprn := removeEntry_prn (s := s.carry) he true
    obtain ⟨ps, m, hdrop, hheld, hothers⟩ := dropPrintHolds_of_kept (s := s.carry) hd hkeep hnodup hown
    have hremove := removeEntry_eq (s := s.carry) he true
    rw [if_pos rfl, hdrop] at hremove
    obtain ⟨v, hv⟩ : ∃ v : State, v = withoutEntry e r { s.carry with psm := { s.carry.psm with pages := ps }, dram := m } := ⟨_, rfl⟩
    have hvd : v.doc? r.doc = some d := by rw [hv]; exact hd
    rw [← hv] at hremove
    have hdue : ({ d with printRefs := d.printRefs - 1, printed := true } : Doc).autoDeletes = true ∧ d.dir = .inbound ↔ deletes :=
      Doc.autoDeletes_lastRef d
    refine ⟨_, exec_cancelPrint_of_removed h he hmark hsheet, ?_, fun k hk => ?_, ?_, fun hstays => ?_, fun hdel => ?_⟩
    · rw [State.entry?, hprn, Prn.without_entries, if_pos rfl]
    · rw [State.entry?, hprn, Prn.without_entries, if_neg hk]
      rfl
    · rw [hprn]
      rfl
    · have hstays' : ({ d with printRefs := d.printRefs - 1, printed := true } : Doc).autoDeletes = false ∨ d.dir ≠ .inbound := by
        by_contra hc
        rw [not_or, Bool.not_eq_false, not_not] at hc
        exact hstays (hdue.mp hc)
      obtain ⟨m', hlose, hself, hother⟩ := loseEntry_of_stays hvd hst hstays'
      rw [hremove]
      generalize loseEntry r.doc v = u at hlose hself hother ⊢
      rw [hv] at hlose
      have hpsm : u.psm = { s.psm with pages := ps } := by rw [hlose]; rfl
      refine ⟨?_, hself, fun k hk => ?_, fun k p q hk hq => ?_, fun p hp => ?_⟩
      · rw [hlose]
        rfl
      · rw [hother k hk, hv]
        rfl
      · rw [State.page?, hpsm]
        exact hheld k p q hk hq
      · rw [State.page?, hpsm]
        exact hothers p hp
    · obtain ⟨hauto, hin⟩ := hdue.mpr hdel
      rw [hremove]
      exact loseEntry_goes hvd hst hauto hin

end Sys2Proof.Machine
end

section
/-! PROOFS. CLOSE_DOCUMENT of a document with several jobs on it, of which one asks for automatic deletion. -/

namespace Sys2Proof.Machine

set_option Elab.async false

open Sys2Proof.Tests in
/-- CLOSE_DOCUMENT waits for an OPEN document of one page, with a job that asks for automatic deletion and has no destination
left, and a second job whose one destination has still to send the page. -/
def closingWithDeletion : State :=
  slot 0x21 1 [0] (work [(0, { doc .outbound .opened [some 0] with jobRefs := 1 })] [(0, { page .complete with sendHolds := 0 })]
    [(0, { job .queued 0 with autoDelete := true }), (1, job .queued 0)] [(0, { dest 0 .pending with job := 1 })])

/-- The answer of a command changes only the CEU and DRAM. -/
theorem finishCommand_frame (tag : Nat) (r : Reply) (s : State) :
    ∃ c m, finishCommand tag r s = { s with ceu := c, dram := m } := by
  obtain ⟨c, m, h, -⟩ := postTagged_frame .commandDone r.src r.idx tag r.result.code r.value s.headMoved
  exact ⟨_, _, congrArg (fun u : State => { u with ceu := { u.ceu with carrying := false } }) h⟩

/-- What an answered command has done to the documents and the jobs stands in the next state. -/
theorem dju_of_answered {s u v : State} {r : Reply} {c : Instr} {t : State} (hu : exec c t = .next (s.answered r u))
    (hv : exec c t = .next v) : v.dju = u.dju := by
  rw [hu] at hv
  injection hv with h
  obtain ⟨c, m, hf⟩ := finishCommand_frame s.headSlot.tag r u
  rw [← h, State.answered, hf]

/-- The first job's end deletes the document with its page; the list of places that the second job's destination has to
confirm is then empty, so that this destination is SENT and its job ends as well. -/
theorem exec_closingWithDeletion : ∃ u, exec .closeDocument closingWithDeletion = .next u ∧ u.job? 1 = none :=
  ⟨_, rfl, by decide +kernel⟩

/-- Refutes O28: with a job that asks for automatic deletion on the document, CLOSE_DOCUMENT can delete the document before the
next job is tested, and a destination that has confirmed nothing counts as SENT; the third part keeps that destination's job. -/
theorem not_closeAndDeleteDocument : ¬ Obligations.CloseAndDeleteDocument := by
  rintro ⟨-, -, hjobs, -⟩
  obtain ⟨u, hu, hjob, -⟩ := hjobs { Tests.doc .outbound .opened [some 0] with jobRefs := 1 } closingWithDeletion
    (by decide +kernel) (by decide +kernel) (by decide +kernel) rfl rfl (by decide +kernel) (by decide +kernel)
  obtain ⟨v, hv, hgone⟩ := exec_closingWithDeletion
  have hkept := hjob 1 (Tests.job .queued 0) (by decide +kernel)
  have hsame : v.dju = u.dju := dju_of_answered hu hv
  have hgone' : u.job? 1 = none := by rw [← hgone]; exact congrArg (fun x : Dju => x.jobs.get? 1) hsame.symm
  rw [hgone'] at hkept
  exact absurd hkept (by decide +kernel)

end Sys2Proof.Machine
end

section
/-! PROOFS. Reads of print slots, the consumption of a slot, and the substitution of a slot as a print hold expires (R164, R170
to R172). -/

namespace Sys2Proof.Machine

set_option Elab.async false

/-! ## Reads of print slots (R1, R164, R171) -/

/-- A ready bus read is held when it is early, and finishes when it is not. -/
theorem smpRead_of_ready {s : State} {off : BusAddr} {be : ByteEnables} (h : s.busReady off = true) (hbe : be ≠ 0) :
    smpRead off be s = if s.isEarly (wordOffset off) then
        { s with smp := { s.smp with held := some ⟨⟨false, wordOffset off, 0, be⟩, .print, s.cfg.printHold⟩ } }
      else finishRead (wordOffset off) s := by
  obtain ⟨hup, hheld, hin⟩ := (State.busReady_iff s off).1 h
  rw [smpRead, smpAccess_of_up hup hheld, goAhead, if_neg Bool.false_ne_true, readAhead, if_neg hbe,
    if_neg (Nat.not_le.2 hin)]

/-- The state with the word of a read on the bus. -/
def State.withRead (s : State) (off : Nat) : State := { s with smp := { s.smp with busData := s.readWord off } }

theorem Smp.eq_of_held_none {p : Smp} (h : p.held = none) (w : Word) :
    ({ p with held := none, busData := w } : Smp) = { p with busData := w } := by
  rw [← h]

/-- A read of a word in a print slot consumes the slot when the word is the last one of the slot at the read index. -/
theorem finishRead_of_printSlot {s : State} {off j r : Nat} (hheld : s.smp.held = none) (hrun : s.isRun = true)
    {g : PrintGeom} (hg : s.rgw.printGeom = some g) (hslot : s.printSlot off = some (j, r)) :
    finishRead off s = if r + 4 = slotBytes g.width ∧ j = s.prn.read then consume (s.withRead off) else s.withRead off := by
  have hstart : finishRead off s = readWatch off (s.withRead off) := by
    rw [finishRead, Smp.eq_of_held_none hheld]
    rfl
  rw [hstart, readWatch, show (s.withRead off).printSlot off = some (j, r) from hslot]
  have hrun' : (s.withRead off).isRun = true := hrun
  have hg' : (s.withRead off).rgw.printGeom = some g := hg
  simp only [hrun', hg', Option.map_some, Option.getD_some, Bool.true_and, Bool.and_eq_true, beq_iff_eq]
  rfl

/-- The read index and the urgent flag as the slot at the read index is consumed, with `qs` left (R170). -/
def State.consumed (s : State) (qs : List SlotRec) : State :=
  { s with
    prn := { s.prn with slots := qs, read := (s.prn.read + 1) % s.printSlots },
    mad := { s.mad with
      urgent := (s.prn.state != .stopped && decide (qs.length < (s.prn.active.map PrintProfile.threshold).getD 0)) } }

theorem consume_of_empty {s : State} (h : s.prn.slots = []) : consume s = s := by rw [consume, h]

theorem testUrgent_of_consumed {s : State} (hrun : s.isRun = true) (qs : List SlotRec) :
    testUrgent { s with prn := { s.prn with slots := qs, read := (s.prn.read + 1) % s.printSlots } } = s.consumed qs :=
  testUrgent_of_run (s := { s with prn := { s.prn with slots := qs, read := (s.prn.read + 1) % s.printSlots } }) hrun

/-- A slot that ends no sheet is consumed without an event. -/
theorem consume_of_inside {s : State} (hrun : s.isRun = true) {q : SlotRec} {qs : List SlotRec} (h : s.prn.slots = q :: qs)
    (hq : q.sheet = none ∨ q.ends = false) : consume s = s.consumed qs := by
  simp only [consume, h, testUrgent_of_consumed hrun]
  cases hsheet : q.sheet with
  | none => rfl
  | some x =>
    have hends : q.ends = false := hq.resolve_left (by simp [hsheet])
    simp [hends]

/-- A slot that ends its sheet posts PRINT_SHEET_DONE as it is consumed. -/
theorem consume_of_ends {s : State} (hrun : s.isRun = true) {q : SlotRec} {qs : List SlotRec} (h : s.prn.slots = q :: qs)
    {e doc sheet : Nat} (hsheet : q.sheet = some (e, doc, sheet)) (hends : q.ends = true) :
    consume s = post .printSheetDone .print e (s.sheetCode q) (doc + 256 * (sheet % 16777216)) (s.consumed qs) := by
  simp only [consume, h, testUrgent_of_consumed hrun, hsheet, hends, if_true]

/-! ## The code of a consumed sheet (log 31) -/

/-- Nothing is left of the entry in the document that it names, if that document is still there. -/
theorem State.entryIsOver_iff (s : State) (w : PrintEntry) :
    s.entryIsOver w = true ↔ ∀ d, s.doc? w.doc = some d → s.prn.sheetOpen = false ∧ s.prn.rendering = none ∧ d.isFinal = true
      ∧ (∀ i p, w.position ≤ i → d.places[i]? ≠ some (some p)) ∧ (w.copies ≤ w.copiesDone + 1 ∨ d.livePages = []) := by
  unfold State.entryIsOver
  cases hd : s.doc? w.doc with
  | none => simp
  | some d =>
    have hplaces : ((d.places.drop w.position).all Option.isNone = true)
        ↔ ∀ i p, w.position ≤ i → d.places[i]? ≠ some (some p) := by
      rw [List.all_eq_true]
      constructor
      · intro h i p hi hp
        have hmem : some p ∈ d.places.drop w.position := by
          refine List.mem_of_getElem? (i := i - w.position) ?_
          rw [List.getElem?_drop, Nat.add_sub_cancel' hi, hp]
        simpa using h _ hmem
      · intro h x hx
        obtain ⟨i, hi⟩ := List.mem_iff_getElem?.1 hx
        rw [List.getElem?_drop] at hi
        cases x with
        | none => rfl
        | some p => exact absurd hi (h _ p (Nat.le_add_right _ _))
    simp [and_assoc, ← hplaces]

/-- The printing entry `s` has begun sheet `sheet` last and nothing is left of it: with this the sheet of a slot of entry `e` is
its entry's last one. -/
def State.entryGoneAfter (s : State) (e sheet : Nat) : Prop :=
  ∃ w, s.printingEntry = some (e, w) ∧ w.sheetNumber = sheet + 1
    ∧ ∀ d, s.doc? w.doc = some d → s.prn.sheetOpen = false ∧ s.prn.rendering = none ∧ d.isFinal = true
      ∧ (∀ i p, w.position ≤ i → d.places[i]? ≠ some (some p)) ∧ (w.copies ≤ w.copiesDone + 1 ∨ d.livePages = [])

/-- The code that the PRINTING entry gives for a sheet of entry `e`, while that entry is still there. -/
def State.liveSheetCode (s : State) (e sheet : Nat) : Nat :=
  match s.printingEntry with
  | none => 0
  | some (e', w) => bit (e == e' && decide (sheet + 1 = w.sheetNumber) && s.entryIsOver w)

theorem State.sheetCode_of_sheet (s : State) {q : SlotRec} {e doc sheet : Nat} (h : q.sheet = some (e, doc, sheet)) :
    s.sheetCode q = if q.entryLast then 1 else if q.entryGone then 0 else s.liveSheetCode e sheet := by
  rw [State.sheetCode, h]
  rfl

theorem State.liveSheetCode_of_goneAfter {s : State} {e sheet : Nat} (h : s.entryGoneAfter e sheet) :
    s.liveSheetCode e sheet = 1 := by
  obtain ⟨w, hw, hn, hover⟩ := h
  simp only [State.liveSheetCode, hw]
  simp [hn, (s.entryIsOver_iff w).2 hover, bit]

theorem State.liveSheetCode_of_more {s : State} {e sheet : Nat} (h : ¬s.entryGoneAfter e sheet) :
    s.liveSheetCode e sheet = 0 := by
  unfold State.liveSheetCode
  cases hw : s.printingEntry with
  | none => rfl
  | some x =>
    obtain ⟨e', w⟩ := x
    have hfalse : (e == e' && decide (sheet + 1 = w.sheetNumber) && s.entryIsOver w) = false := by
      rw [Bool.eq_false_iff]
      intro hall
      simp only [Bool.and_eq_true, beq_iff_eq, decide_eq_true_eq] at hall
      obtain ⟨⟨rfl, hn⟩, hover⟩ := hall
      exact h ⟨w, hw, hn.symm, (s.entryIsOver_iff w).1 hover⟩
    simp only [hfalse]
    rfl

theorem State.sheetCode_eq {s : State} {q : SlotRec} {e doc sheet : Nat} (hsheet : q.sheet = some (e, doc, sheet)) {code : Nat}
    (h : (code = 1 ∧ (q.entryLast = true ∨ (q.entryGone = false ∧ s.entryGoneAfter e sheet)))
      ∨ (code = 0 ∧ q.entryLast = false ∧ (q.entryGone = true ∨ ¬s.entryGoneAfter e sheet))) : s.sheetCode q = code := by
  rw [s.sheetCode_of_sheet hsheet]
  obtain ⟨rfl, hl | ⟨hg, hover⟩⟩ | ⟨rfl, hl, hg | hover⟩ := h
  · rw [if_pos hl]
  · rw [State.liveSheetCode_of_goneAfter hover]
    simp [hg]
  · simp [hl, hg]
  · rw [State.liveSheetCode_of_more hover]
    simp [hl]

/-! ## Sheet lines (R167, R172) -/

/-- A line in hand of which a sheet line is still owed needs no decoding. -/
theorem owedLine_of_owed {g : Rendering} {line : PageLine} (hcur : g.cur = some line) (howed : 0 < line.owed)
    (prof : PrintProfile) (r : PageRec) (s : State) : owedLine prof g r s = (g, line, s) := by
  simp only [owedLine, hcur]
  rw [if_neg (Nat.pos_iff_ne_zero.mp howed)]

/-- The next sheet line, of a page line that is in hand. -/
def lineInHand (prof : PrintProfile) (e : Nat) (r : PrintEntry) (n : Rendering) (page : PageRec) (line : PageLine) : SheetLine :=
  { entry := e, entryRec := r, rendering := n, page := page, line := line, sheet := r.sheetNumber - 1, number := r.sheetLine,
    endsPage := line.last && line.owed == 1,
    endsSheet := line.last && line.owed == 1 || r.sheetLine + 1 == prof.height }

theorem nextSheetLine_of_owed {s : State} (hopen : s.prn.sheetOpen = true) {e : Nat} {r : PrintEntry} {n : Rendering}
    (he : s.printingEntry = some (e, r)) (hn : s.prn.rendering = some n) {page : PageRec} (hpage : s.page? n.page = some page)
    {line : PageLine} (hcur : n.cur = some line) (howed : 0 < line.owed) (prof : PrintProfile) :
    nextSheetLine prof s = some (lineInHand prof e r n page line, s) := by
  simp only [nextSheetLine, he, hn, hopen, hpage, owedLine_of_owed hcur howed]
  rfl

theorem nextSheetLine_of_closed {s : State} (h : s.prn.sheetOpen = false) (prof : PrintProfile) :
    nextSheetLine prof s = none := by
  unfold nextSheetLine
  rw [h]
  split
  · simp_all
  · rfl

/-- A PRN with a sheet in progress looks for no next one. -/
theorem settle_of_open {s : State} (h : s.prn.sheetOpen = true) : settle s = s := by
  rw [settle, if_neg (by simp [h])]

theorem settle_of_notPrinting {s : State} (h : s.prn.state ≠ .printing) : settle s = s := by
  rw [settle, if_neg fun hc => h hc.1]

/-- A sheet line in the middle of its page and sheet: the entry goes on to the next line, and the page line owes one less. -/
theorem handled_of_middle {l : SheetLine} (hpage : l.endsPage = false) (hsheet : l.endsSheet = false) (givenUp : Bool)
    (s : State) :
    handled l givenUp s
      = let u := putEntry l.entry { l.entryRec with sheetLine := l.number + 1 } s
        { u with prn := { u.prn with sheetOpen := true,
                                     rendering := some { l.rendering with cur := some { l.line with owed := l.line.owed - 1 } } } } := by
  simp only [handled, hpage, hsheet, Bool.false_eq_true, if_false, Bool.not_false]
  exact settle_of_open rfl

/-- A line owed that ends neither page nor sheet. -/
theorem lineInHand_ends {prof : PrintProfile} {e : Nat} {r : PrintEntry} {n : Rendering} {page : PageRec} {line : PageLine}
    (hlast : line.last = true → 1 < line.owed) (hheight : r.sheetLine + 1 ≠ prof.height) :
    (lineInHand prof e r n page line).endsPage = false ∧ (lineInHand prof e r n page line).endsSheet = false := by
  have hpage : (line.last && line.owed == 1) = false := by
    cases hl : line.last with
    | false => rfl
    | true =>
      have := hlast hl
      simp
      omega
  refine ⟨hpage, ?_⟩
  change (line.last && line.owed == 1 || r.sheetLine + 1 == prof.height) = false
  rw [hpage]
  simpa using hheight

/-! ## Substitution (R172) -/

theorem substitute_of_closed {s : State} (h : s.prn.sheetOpen = false) :
    substitute s = testUrgent (post .printUnderrun .print ((s.printingEntry.map Prod.fst).getD 0) 1 s.prn.fill
      (fillSlot blankSubstitute s)) := by
  have hnone : (s.prn.active.bind fun prof => nextSheetLine prof s) = none := by
    cases s.prn.active with
    | none => rfl
    | some prof => exact nextSheetLine_of_closed h prof
  simp only [substitute, hnone]

theorem substitute_of_line {s t : State} {prof : PrintProfile} {l : SheetLine} (hactive : s.prn.active = some prof)
    (hl : nextSheetLine prof s = some (l, t)) :
    substitute s = testUrgent (handled l true (post .printUnderrun .print ((s.printingEntry.map Prod.fst).getD 0) 0 s.prn.fill
      (fillSlot (l.slot (some l.substituteTag)) t))) := by
  have hsome : (s.prn.active.bind fun prof => nextSheetLine prof s) = some (l, t) := by rw [hactive]; exact hl
  simp only [substitute, hsome]

theorem printHoldExpiry_of_print {s : State} {h : Held} (hheld : s.smp.held = some h) (hr : h.reason = .print) :
    exec .printHoldExpiry s = .next (finishRead h.access.off (substitute s)) := by
  rw [exec_printHoldExpiry, printHoldExpiry, hheld]
  simp only [hr, if_true]

theorem unchangedOutside_putEntry (e : Nat) (r : PrintEntry) (s : State) :
    unchangedOutside [(s.entryAddr e, 64)] s.dram (putEntry e r s).dram :=
  unchangedOutside_store (by simp)

/-- Settles O47: reads by the place of their word and the slots that wait, and an expired hold by the sheet in progress. -/
theorem printSlots : Obligations.PrintSlots := by
  refine ⟨fun off be c g j r s hc hready hbe hst hg hslot => ?_, fun s hheld => ?_, fun h s hheld => ⟨fun hr => ?_, fun hr => ?_, rfl,
    fun t ht => ?_⟩, fun h prof g s hheld hr hst hactive hg hopen e r n page line he hn hpage hcur howed hlast hheight => ?_⟩
  · intro word read
    obtain ⟨-, hheld, -⟩ := (State.busReady_iff s off).1 hready
    have hrun : s.isRun = true := by simp [State.isRun, hst]
    have hexec : exec c s = .next (smpRead off be s) := by
      obtain rfl | rfl := hc
      · rfl
      · rfl
    have hread : s.withRead (wordOffset off) = read := by
      have hword : s.readWord (wordOffset off) = word := by
        simp only [State.readWord, hslot]
        rfl
      rw [State.withRead, hword]
    have hearly : s.isEarly (wordOffset off) = true ↔ s.prn.slots = [] ∧ s.prn.state ≠ .stopped ∧ j = s.prn.read := by
      rw [State.isEarly_iff, hslot]
      simp [hrun, State.isPrinting]
      tauto
    have hlate (hn : ¬(s.prn.slots = [] ∧ s.prn.state ≠ .stopped ∧ j = s.prn.read)) : exec c s
        = .next (if r + 4 = slotBytes g.width ∧ j = s.prn.read then consume read else read) := by
      rw [hexec, smpRead_of_ready hready hbe, if_neg (fun h => hn (hearly.1 h)), finishRead_of_printSlot hheld hrun hg hslot, hread]
    refine ⟨fun hs hp hj => ?_, fun hn hword => ?_, fun q qs hq hj hword => ?_⟩
    · rw [hexec, smpRead_of_ready hready hbe, if_pos (hearly.2 ⟨hs, hp, hj⟩)]
    · rw [hlate (by tauto)]
      split
      next hlastWord =>
        rw [consume_of_empty (by tauto)]
      · rfl
    · intro u
      have hu : State.consumed read qs = u := by
        have hcount : State.printSlots read = g.slotCount := congrArg (fun x => (x.map PrintGeom.slotCount).getD 0) hg
        rw [State.consumed, hcount]
      rw [hlate (by simp [hq]), if_pos ⟨hword, hj⟩]
      refine ⟨fun hinside => ?_, fun e doc sheet code hsheet hends hcode => ?_⟩
      · rw [consume_of_inside (s := read) hrun hq hinside, hu]
      · rw [consume_of_ends (s := read) hrun hq hsheet hends, hu, State.sheetCode_eq (s := read) hsheet hcode]
  · rw [exec_printHoldExpiry, printHoldExpiry, hheld]
  · rw [exec_printHoldExpiry, printHoldExpiry, hheld]
    exact congrArg _ (if_neg hr)
  · exact ⟨printHoldExpiry_of_print hheld hr, substitute_of_closed⟩
  · obtain rfl : _ = t := Option.some.inj ht
    exact ⟨rfl, rfl, rfl, rfl, rfl, rfl⟩
  · intro tag slot
    have hrun : s.isRun = true := by simp [State.isRun, hst]
    obtain ⟨hpageEnd, hsheetEnd⟩ := lineInHand_ends (e := e) (n := n) (page := page) hlast hheight
    have hcount : s.printSlots = g.slotCount := congrArg (fun x => (x.map PrintGeom.slotCount).getD 0) hg
    obtain ⟨l, hl⟩ : ∃ l, lineInHand prof e r n page line = l := ⟨_, rfl⟩
    have hslot : l.slot (some l.substituteTag) = slot := by
      rw [SheetLine.slot, SheetLine.substituteTag, ← hl, hsheetEnd]
      rfl
    have hfilled : fillSlot slot s
        = { s with prn := { s.prn with slots := s.prn.slots ++ [slot], fill := (s.prn.fill + 1) % g.slotCount } } := by
      rw [fillSlot, hcount]
    obtain ⟨c, m, hpost, hm⟩ := post_frame .printUnderrun .print e 0 s.prn.fill (fillSlot slot s)
    have hc := post_ceu_congr (s := s) (t := fillSlot slot s) rfl rfl rfl .printUnderrun .print e 0 s.prn.fill
    have hsub : substitute s = testUrgent (handled l true { fillSlot slot s with ceu := c, dram := m }) := by
      rw [substitute_of_line hactive (nextSheetLine_of_owed hopen he hn hpage hcur howed prof), hl, hslot, he]
      exact congrArg (fun x => testUrgent (handled l true x)) hpost
    rw [handled_of_middle (hl ▸ hpageEnd) (hl ▸ hsheetEnd), testUrgent_of_run (by exact hrun), hfilled, ← hl] at hsub
    rw [hpost] at hc
    obtain ⟨u, hu⟩ : ∃ u : State, substitute s = u := ⟨_, rfl⟩
    have hentries : u.prn.entries = Tab.set s.prn.entries e { r with sheetLine := r.sheetLine + 1 } := by rw [← hu, hsub]; rfl
    have hdram : u.dram = Mem.write m (s.entryAddr e) ({ r with sheetLine := r.sheetLine + 1 } : PrintEntry).bytes := by
      rw [← hu, hsub]; rfl
    refine ⟨u, (printHoldExpiry_of_print hheld hr).trans (by rw [hu]), ?_, ?_, ?_, ?_⟩
    · rw [← hc, hentries, hdram, ← hu, hsub, ← List.length_singleton (a := slot), ← List.length_append, ← hopen]
      have hthreshold : prof.threshold = (s.prn.active.map PrintProfile.threshold).getD 0 := by rw [hactive]; rfl
      rw [hthreshold]
      rfl
    · rw [State.entry?, hentries, Tab.get?_set_self]
    · intro k hk
      rw [State.entry?, hentries, Tab.get?_set_of_ne _ _ hk]
      rfl
    · rw [hdram]
      have hm' : unchangedOutside s.eventSpans s.dram m := hm
      exact (hm'.of_subset (by simp [State.eventSpans])).write (a := s.entryAddr e) (n := 64) (by simp) (by simp)

end Sys2Proof.Machine
end

section
/-! PROOFS. The segments that a page is given, and the stream bytes that are written into a chain (R67 to R69, R80). -/

namespace Sys2Proof.Machine

set_option Elab.async false

/-! ## The low-store mark while segments are given (R80) -/

/-- The low-store mark has fired, and while the free count does not grow it neither fires again nor arms. -/
def State.lowFired (s : State) : Prop := s.psm.lowArmed = false ∧ s.freeCount ≤ s.psm.lowMark

theorem testLowMark_of_fired {s : State} (h : s.lowFired) : testLowMark s = s := by
  obtain ⟨harmed, hle⟩ := h
  rw [testLowMark, harmed]
  simp only [Bool.false_and, Bool.false_eq_true, if_false, Bool.not_false, Bool.true_and, decide_eq_true_eq]
  exact if_neg (Nat.not_lt.2 hle)

/-- A test of the low-store mark posts no event, or the mark has then fired. -/
theorem testLowMark_cases (s : State) :
    (∃ a, testLowMark s = { s with psm := { s.psm with lowArmed := a } })
      ∨ ∃ c m, testLowMark s = { s with psm := { s.psm with lowArmed := false }, ceu := c, dram := m }
        ∧ s.freeCount ≤ s.psm.lowMark ∧ unchangedOutside s.eventSpans s.dram m := by
  unfold testLowMark
  split
  next h =>
    obtain ⟨c, m, heq, hmem⟩ := post_frame .storeLow .path 0 0 s.freeCount { s with psm := { s.psm with lowArmed := false } }
    simp only [Bool.and_eq_true, decide_eq_true_eq] at h
    exact .inr ⟨c, m, heq, h.2.le, hmem⟩
  · split
    · exact .inl ⟨_, rfl⟩
    · exact .inl ⟨_, rfl⟩

/-! ## Segments given (R69) -/

/-- Segment `seg` hangs behind the chain of page `p`, before the reports of the free count. -/
def chainSegment (p seg : Nat) (rest : List Nat) (r : PageRec) (s : State) : State :=
  let t := writeTrailer seg chainEnd { s with psm := { s.psm with stack := rest } }
  let t := match r.chain.getLast? with
    | none => t
    | some l => writeTrailer l seg t
  putPage p { r with chain := r.chain ++ [seg] } t

theorem giveSegment_of_some {s : State} {p seg : Nat} {rest : List Nat} {r : PageRec} (hstack : s.psm.stack = seg :: rest)
    (hp : s.page? p = some r) : giveSegment p s = some (freeCountChanged (chainSegment p seg rest r s)) := by
  simp only [giveSegment, hstack, hp]
  rfl

theorem giveSegment_of_empty {s : State} (h : s.psm.stack = []) (p : Nat) : giveSegment p s = none := by
  simp only [giveSegment, h]

/-- The bytes of DRAM that change as page `p` of chain `chain` is given the segments `segs`, but for events: its record, the
path status record and the trailers. -/
def State.giveSpans (s : State) (p : Nat) (chain segs : List Nat) : List (Nat × Nat) :=
  (s.pageAddr p, 64) :: (s.por 0, 12) :: (chain.getLast?.toList ++ segs).map fun i => (s.segAddr i + 1020, 4)

theorem chainSegment_spec (p seg : Nat) (rest : List Nat) (r : PageRec) (s : State) :
    ∃ m, chainSegment p seg rest r s
        = { s with psm := { s.psm with pages := Tab.set s.psm.pages p { r with chain := r.chain ++ [seg] }, stack := rest },
                   dram := m }
      ∧ unchangedOutside (s.giveSpans p r.chain [seg]) s.dram m := by
  have hfirst : unchangedOutside (s.giveSpans p r.chain [seg]) s.dram (Mem.write s.dram (s.segAddr seg + 1020) (le 4 chainEnd)) :=
    (unchangedOutside_refl _ _).write (n := 4) (by simp [State.giveSpans]) (by simp)
  unfold chainSegment
  cases hl : r.chain.getLast? with
  | none =>
    exact ⟨_, rfl, hfirst.write (a := s.pageAddr p) (n := 64) (by simp [State.giveSpans]) (by simp)⟩
  | some l =>
    refine ⟨_, rfl, (hfirst.write (a := s.segAddr l + 1020) (n := 4) ?_ (by simp)).write (a := s.pageAddr p) (n := 64) ?_ (by simp)⟩
    · simp [State.giveSpans, hl]
    · simp [State.giveSpans]

/-- One segment given: it leaves the stack and hangs behind the page's chain; the free count's reports post STORE_LOW at most
once, and not when the mark has fired. -/
theorem giveSegment_spec {s : State} {p seg : Nat} {rest : List Nat} {r : PageRec} (hstack : s.psm.stack = seg :: rest)
    (hp : s.page? p = some r) :
    ∃ t ps a c m, giveSegment p s = some t
      ∧ t = { s with psm := { s.psm with pages := ps, stack := rest, lowArmed := a }, ceu := c, dram := m }
      ∧ Tab.get? ps p = some { r with chain := r.chain ++ [seg] } ∧ (∀ q, q ≠ p → Tab.get? ps q = s.page? q)
      ∧ ((c = s.ceu ∧ unchangedOutside (s.giveSpans p r.chain [seg]) s.dram m)
        ∨ (t.lowFired ∧ unchangedOutside (s.giveSpans p r.chain [seg] ++ s.eventSpans) s.dram m))
      ∧ (s.lowFired → t.lowFired ∧ c = s.ceu ∧ unchangedOutside (s.giveSpans p r.chain [seg]) s.dram m) := by
  obtain ⟨m1, hchain, hm1⟩ := chainSegment_spec p seg rest r s
  obtain ⟨u, hu⟩ : ∃ u, writePathStatus (chainSegment p seg rest r s) = u := ⟨_, rfl⟩
  have hstatus : u = { s with
      psm := { s.psm with pages := Tab.set s.psm.pages p { r with chain := r.chain ++ [seg] }, stack := rest },
      dram := u.dram } := by
    rw [← hu, hchain]
    rfl
  have hm2 : unchangedOutside (s.giveSpans p r.chain [seg]) s.dram u.dram := by
    rw [← hu, hchain]
    exact hm1.write (a := s.por 0) (n := 12) (by simp [State.giveSpans]) (by simp)
  have hgive : giveSegment p s = some (testLowMark u) := by
    rw [giveSegment_of_some hstack hp, ← hu]
    rfl
  have hself := Tab.get?_set_self s.psm.pages p { r with chain := r.chain ++ [seg] }
  have hother (q : Nat) (hq : q ≠ p) : Tab.get? (Tab.set s.psm.pages p { r with chain := r.chain ++ [seg] }) q = s.page? q :=
    Tab.get?_set_of_ne _ _ hq
  have hfired (h : s.lowFired) : u.lowFired := by
    obtain ⟨harmed, hle⟩ := h
    rw [hstatus]
    refine ⟨harmed, ?_⟩
    rw [State.freeCount, hstack, List.length_cons] at hle
    exact Nat.le_of_succ_le hle
  have hquiet (h : s.lowFired) := testLowMark_of_fired (hfired h)
  rcases testLowMark_cases u with ⟨a, heq⟩ | ⟨c, m, heq, hle, hm⟩
  · refine ⟨testLowMark u, _, a, s.ceu, u.dram, hgive, ?_, hself, hother, .inl ⟨rfl, hm2⟩, fun h => ⟨?_, rfl, hm2⟩⟩
    · rw [heq, hstatus]
    · rw [hquiet h]
      exact hfired h
  · refine ⟨testLowMark u, _, false, c, m, hgive, ?_, hself, hother, .inr ⟨?_, ?_⟩, fun h => ?_⟩
    · rw [heq, hstatus]
    · rw [heq]
      exact ⟨rfl, hle⟩
    · rw [hstatus] at hm
      exact hm2.trans hm
    · have hsame := (hquiet h).symm.trans heq
      have hc : c = s.ceu := (congrArg State.ceu hsame).symm.trans (by rw [hstatus])
      have hd : m = u.dram := (congrArg State.dram hsame).symm
      refine ⟨?_, hc, ?_⟩
      · rw [hquiet h]
        exact hfired h
      · rw [hd]
        exact hm2

theorem giveSpans_step (s : State) (p : Nat) (chain : List Nat) (seg : Nat) (segs : List Nat) :
    s.giveSpans p chain [seg] ⊆ s.giveSpans p chain (seg :: segs)
      ∧ s.giveSpans p (chain ++ [seg]) segs ⊆ s.giveSpans p chain (seg :: segs) := by
  unfold State.giveSpans
  constructor
  · refine List.cons_subset_cons _ (List.cons_subset_cons _ (List.map_subset _ ?_))
    intro i hi
    simp only [List.mem_append, List.mem_cons] at hi ⊢
    tauto
  · refine List.cons_subset_cons _ (List.cons_subset_cons _ (List.map_subset _ ?_))
    intro i hi
    simp only [List.getLast?_concat, Option.toList_some, List.mem_append, List.mem_cons] at hi ⊢
    tauto

/-- Segments given in turn, while the stack holds them: they hang behind the page's chain in the stack's order. STORE_LOW is
posted at most once. -/
theorem giveSegments_spec {p n : Nat} {s : State} {r : PageRec} (hp : s.page? p = some r) (hn : n ≤ s.psm.stack.length) :
    ∃ t ps a c m, giveSegments p n s = (t, true)
      ∧ t = { s with psm := { s.psm with pages := ps, stack := s.psm.stack.drop n, lowArmed := a }, ceu := c, dram := m }
      ∧ Tab.get? ps p = some { r with chain := r.chain ++ s.psm.stack.take n } ∧ (∀ q, q ≠ p → Tab.get? ps q = s.page? q)
      ∧ unchangedOutside (s.giveSpans p r.chain (s.psm.stack.take n) ++ s.eventSpans) s.dram m
      ∧ (s.lowFired → c = s.ceu ∧ unchangedOutside (s.giveSpans p r.chain (s.psm.stack.take n)) s.dram m) := by
  induction n generalizing s r with
  | zero =>
    refine ⟨s, s.psm.pages, s.psm.lowArmed, s.ceu, s.dram, rfl, rfl, ?_, fun _ _ => rfl, unchangedOutside_refl _ _,
      fun _ => ⟨rfl, unchangedOutside_refl _ _⟩⟩
    rw [List.take_zero, List.append_nil]
    exact hp
  | succ n ih =>
    obtain ⟨seg, rest, hstack⟩ := List.exists_cons_of_length_pos (Nat.lt_of_lt_of_le n.succ_pos hn)
    rw [hstack, List.length_cons] at hn
    obtain ⟨t1, ps1, a1, c1, m1, hgive, ht1, hself1, hother1, hquiet1, hfired1⟩ := giveSegment_spec hstack hp
    have hp1 : t1.page? p = some { r with chain := r.chain ++ [seg] } := by rw [ht1]; exact hself1
    have hstack1 : t1.psm.stack = rest := by rw [ht1]
    have haddr : ∀ chain segs, t1.giveSpans p chain segs = s.giveSpans p chain segs := fun _ _ => by rw [ht1]; rfl
    obtain ⟨t, ps, a, c, m, hgives, ht, hself, hother, hmem, hfired⟩ := ih hp1 (by rw [hstack1]; omega)
    rw [hstack1] at ht hself hmem hfired
    rw [haddr] at hmem hfired
    have hdram1 : t1.dram = m1 := by rw [ht1]
    obtain ⟨hsub1, hsub2⟩ := giveSpans_step s p r.chain seg (rest.take n)
    rw [hstack, List.take_succ_cons, List.drop_succ_cons]
    refine ⟨t, ps, a, c, m, ?_, ?_, ?_, fun q hq => ?_, ?_, fun h => ?_⟩
    · rw [giveSegments, hgive]
      exact hgives
    · rw [ht, ht1]
    · rw [hself]
      simp
    · rw [hother q hq, ht1]
      exact hother1 q hq
    · rw [hdram1] at hmem hfired
      obtain ⟨hc1, hm1⟩ | ⟨hlow, hm1⟩ := hquiet1
      · have hev : t1.eventSpans = s.eventSpans := by
          rw [ht1, State.eventSpans]
          simp only [hc1]
          rfl
        rw [hev] at hmem
        refine (hm1.trans hmem).of_subset (List.append_subset.2 ⟨fun x hx => List.mem_append_left _ (hsub1 hx), ?_⟩)
        exact List.append_subset.2 ⟨fun x hx => List.mem_append_left _ (hsub2 hx), fun x hx => List.mem_append_right _ hx⟩
      · refine (hm1.trans (hfired hlow).2).of_subset (List.append_subset.2 ⟨?_, fun x hx => List.mem_append_left _ (hsub2 hx)⟩)
        exact List.append_subset.2 ⟨fun x hx => List.mem_append_left _ (hsub1 hx), fun x hx => List.mem_append_right _ hx⟩
    · obtain ⟨hlow, hc1, hm1⟩ := hfired1 h
      obtain ⟨hc, hm⟩ := hfired hlow
      rw [hdram1] at hm
      refine ⟨hc.trans (by rw [ht1]; exact hc1), (hm1.trans hm).of_subset (List.append_subset.2 ⟨hsub1, hsub2⟩)⟩

/-- More segments asked for than the stack holds: all of it is given, and the answer is no. -/
theorem giveSegments_of_short {p n : Nat} {s : State} {r : PageRec} (hp : s.page? p = some r) (hn : s.psm.stack.length < n) :
    giveSegments p n s = ((giveSegments p s.psm.stack.length s).1, false) := by
  induction n generalizing s r with
  | zero => exact absurd hn (Nat.not_lt_zero _)
  | succ n ih =>
    cases hstack : s.psm.stack with
    | nil => rw [giveSegments, giveSegment_of_empty hstack, List.length_nil, giveSegments]
    | cons seg rest =>
      obtain ⟨t1, ps1, a1, c1, m1, hgive, ht1, hself1, -⟩ := giveSegment_spec hstack hp
      have hp1 : t1.page? p = some { r with chain := r.chain ++ [seg] } := by rw [ht1]; exact hself1
      have hstack1 : t1.psm.stack = rest := by rw [ht1]
      rw [hstack, List.length_cons] at hn
      have hrest := ih hp1 (by rw [hstack1]; omega)
      rw [hstack1] at hrest
      rw [giveSegments, hgive, List.length_cons, giveSegments, hgive]
      exact hrest

/-! ## Bytes of a stream (R67) -/

/-- The place of stream byte `k` counted from the start of the chain `segs`. -/
theorem streamAddr_eq (s : State) (segs : List Nat) (k : Nat) :
    s.streamAddr segs k = s.segAddr (segs.getD (k / 1020) 0) + k % 1020 := rfl

theorem streamAddr_first (s : State) (seg : Nat) (segs : List Nat) {k : Nat} (h : k < 1020) :
    s.streamAddr (seg :: segs) k = s.segAddr seg + k := by
  rw [streamAddr_eq, Nat.div_eq_of_lt h, Nat.mod_eq_of_lt h, List.getD_cons_zero]

theorem streamAddr_later (s : State) (seg : Nat) (segs : List Nat) (k : Nat) :
    s.streamAddr (seg :: segs) (k + 1020) = s.streamAddr segs k := by
  rw [streamAddr_eq, streamAddr_eq, Nat.add_div_right _ (by omega), List.getD_cons_succ, Nat.add_mod_right]

/-- A byte of one segment lies in no other. -/
theorem segAddr_apart (s : State) {i j x : Nat} (h : i ≠ j) (hx : x < 1024) :
    ¬(s.segAddr j ≤ s.segAddr i + x ∧ s.segAddr i + x < s.segAddr j + 1024) := by
  unfold State.segAddr State.por
  omega

/-- A stream written from byte `at_` of the first segment of a chain: the bytes written stand there, the chain's other bytes
stay, and so does DRAM outside the segments. -/
theorem writeStretches_spec (segs : List Nat) (at_ : Nat) (bs : List Byte) (s : State) (hat : at_ < 1020) :
    ∃ m, writeStretches segs at_ bs s = { s with dram := m }
      ∧ unchangedOutside (segs.map fun i => (s.segAddr i, 1020)) s.dram m
      ∧ (segs.Nodup → at_ + bs.length ≤ 1020 * segs.length → ∀ k, k < 1020 * segs.length →
          Mem.get m (s.streamAddr segs k)
            = if at_ ≤ k ∧ k < at_ + bs.length then bs.getD (k - at_) 0 else Mem.get s.dram (s.streamAddr segs k)) := by
  induction segs generalizing at_ bs s with
  | nil => exact ⟨s.dram, rfl, unchangedOutside_refl _ _, fun _ _ k hk => by simp at hk⟩
  | cons seg segs ih =>
    obtain ⟨m, heq, hmem, hget⟩ := ih 0 (bs.drop (1020 - at_)) (s.store (s.segAddr seg + at_) (bs.take (1020 - at_))) (by omega)
    have hfirst : unchangedOutside [(s.segAddr seg, 1020)] s.dram (s.store (s.segAddr seg + at_) (bs.take (1020 - at_))).dram := by
      intro b hb
      have hout := hb _ (List.mem_singleton_self _)
      rw [within_eq_false_iff] at hout
      rw [State.store_dram, Mem.get_write, if_neg]
      rw [List.length_take]
      omega
    refine ⟨m, heq, (hfirst.trans hmem).of_subset ?_, fun hnodup hlen k hk => ?_⟩
    · rw [List.map_cons]
      exact fun x hx => hx
    · have hnot : seg ∉ segs := (List.nodup_cons.1 hnodup).1
      have hstore (b : Nat) : Mem.get (s.store (s.segAddr seg + at_) (bs.take (1020 - at_))).dram b
          = if s.segAddr seg + at_ ≤ b ∧ b < s.segAddr seg + at_ + (bs.take (1020 - at_)).length
            then (bs.take (1020 - at_)).getD (b - (s.segAddr seg + at_)) 0 else Mem.get s.dram b := Mem.get_write ..
      rw [List.length_cons] at hlen hk
      rcases Nat.lt_or_ge k 1020 with hlow | hhigh
      · have hafter : Mem.get m (s.segAddr seg + k) = Mem.get (s.store (s.segAddr seg + at_) (bs.take (1020 - at_))).dram
            (s.segAddr seg + k) := by
          refine hmem _ fun x hx => ?_
          obtain ⟨i, hi, rfl⟩ := List.mem_map.1 hx
          have hne : seg ≠ i := fun h => hnot (h ▸ hi)
          have hfar := segAddr_apart s hne (x := k) (by omega)
          rw [within_eq_false_iff]
          intro hin
          exact hfar ⟨hin.1, Nat.lt_of_lt_of_le hin.2 (by change s.segAddr i + 1020 ≤ _; omega)⟩
        rw [streamAddr_first s seg segs hlow, hafter, hstore, List.length_take]
        by_cases hin : at_ ≤ k ∧ k < at_ + bs.length
        · rw [if_pos (by omega), if_pos hin, show s.segAddr seg + k - (s.segAddr seg + at_) = k - at_ by omega,
            List.getD_eq_getElem?_getD, List.getElem?_take_of_lt (by omega), List.getD_eq_getElem?_getD]
        · rw [if_neg (by omega), if_neg hin]
      · obtain ⟨k, rfl⟩ : ∃ j, k = j + 1020 := ⟨k - 1020, by omega⟩
        have hrest : Mem.get m (s.streamAddr segs k) = if 0 ≤ k ∧ k < 0 + (bs.drop (1020 - at_)).length
            then (bs.drop (1020 - at_)).getD (k - 0) 0
            else Mem.get (s.store (s.segAddr seg + at_) (bs.take (1020 - at_))).dram (s.streamAddr segs k) :=
          hget (List.nodup_cons.1 hnodup).2 (by rw [List.length_drop]; omega) k (by omega)
        have hin : k / 1020 < segs.length := by omega
        have hne : segs.getD (k / 1020) 0 ≠ seg := by
          rw [List.getD_eq_getElem _ _ hin]
          exact fun h => hnot (h ▸ List.getElem_mem hin)
        have hold : Mem.get (s.store (s.segAddr seg + at_) (bs.take (1020 - at_))).dram (s.streamAddr segs k)
            = Mem.get s.dram (s.streamAddr segs k) := by
          have hfar := segAddr_apart s hne (x := k % 1020) (by omega)
          rw [hstore, if_neg]
          rw [streamAddr_eq, List.length_take]
          omega
        rw [streamAddr_later]
        refine hrest.trans ?_
        rw [List.length_drop, hold]
        by_cases hin' : at_ ≤ k + 1020 ∧ k + 1020 < at_ + bs.length
        · rw [if_pos (by omega), if_pos hin', List.getD_eq_getElem?_getD, List.getElem?_drop, List.getD_eq_getElem?_getD,
            show 1020 - at_ + (k - 0) = k + 1020 - at_ by omega]
        · rw [if_neg (by omega), if_neg hin']

theorem streamAddr_drop (s : State) (chain : List Nat) (j k : Nat) :
    s.streamAddr (chain.drop j) k = s.streamAddr chain (1020 * j + k) := by
  rw [streamAddr_eq, streamAddr_eq, List.getD_eq_getElem?_getD, List.getElem?_drop, List.getD_eq_getElem?_getD,
    Nat.mul_add_div (by omega), Nat.mul_add_mod]

/-- A stretch of a page's stream written: its bytes stand in the stream, the stream's other bytes stay, and so does DRAM
outside the chain's segments. -/
theorem writeStream_spec (chain : List Nat) (o : Nat) (bs : List Byte) (s : State) :
    ∃ m, writeStream chain o bs s = { s with dram := m }
      ∧ unchangedOutside (chain.map fun i => (s.segAddr i, 1020)) s.dram m
      ∧ (chain.Nodup → o + bs.length ≤ 1020 * chain.length →
        (∀ i, i < bs.length → Mem.get m (s.streamAddr chain (o + i)) = bs.getD i 0)
        ∧ ∀ i, i < 1020 * chain.length → i < o ∨ o + bs.length ≤ i →
            Mem.get m (s.streamAddr chain i) = Mem.get s.dram (s.streamAddr chain i)) := by
  unfold writeStream
  split
  next hnil =>
    subst hnil
    exact ⟨s.dram, rfl, unchangedOutside_refl _ _, fun _ _ => ⟨fun i hi => absurd hi (Nat.not_lt_zero i), fun _ _ _ => rfl⟩⟩
  next hne =>
    obtain ⟨m, heq, hmem, hget⟩ := writeStretches_spec (chain.drop (o / 1020)) (o % 1020) bs s (Nat.mod_lt _ (by omega))
    refine ⟨m, heq, hmem.of_subset (List.map_subset _ (List.drop_subset _ _)), fun hnodup hlen => ?_⟩
    have hpos : 0 < bs.length := List.length_pos_iff.2 hne
    have hplace (i : Nat) (h1 : o / 1020 * 1020 ≤ i) (h2 : i < 1020 * chain.length) :=
      hget (hnodup.sublist (List.drop_sublist _ _)) (by rw [List.length_drop]; omega) (i - 1020 * (o / 1020))
        (by rw [List.length_drop]; omega)
    have haddr (i : Nat) (h1 : o / 1020 * 1020 ≤ i) :
        s.streamAddr (chain.drop (o / 1020)) (i - 1020 * (o / 1020)) = s.streamAddr chain i := by
      rw [streamAddr_drop]
      congr 1
      omega
    refine ⟨fun i hi => ?_, fun i hi hout => ?_⟩
    · rw [← haddr (o + i) (by omega), hplace (o + i) (by omega) (by omega), if_pos (by omega)]
      congr 1
      omega
    · rcases Nat.lt_or_ge i (o / 1020 * 1020) with hlow | hhigh
      · refine hmem _ fun x hx => ?_
        obtain ⟨j, hj, rfl⟩ := List.mem_map.1 hx
        have hlt : i / 1020 < chain.length := by omega
        have hne : chain.getD (i / 1020) 0 ≠ j := by
          rw [List.getD_eq_getElem _ _ hlt]
          rintro rfl
          obtain ⟨y, hy, hyj⟩ := List.mem_iff_getElem.1 hj
          rw [List.getElem_drop] at hyj
          have := hnodup.getElem_inj_iff.1 hyj
          omega
        have hfar := segAddr_apart s hne (x := i % 1020) (by omega)
        rw [within_eq_false_iff, streamAddr_eq]
        intro hin
        exact hfar ⟨hin.1, Nat.lt_of_lt_of_le hin.2 (by change s.segAddr j + 1020 ≤ _; omega)⟩
      · rw [← haddr i hhigh, hplace i hhigh hi, if_neg (by omega), haddr i hhigh]

/-- The bytes read back where they were written. -/
theorem streamBytes_eq_of_get {s : State} {chain : List Nat} {o : Nat} {bs : List Byte}
    (h : ∀ i, i < bs.length → Mem.get s.dram (s.streamAddr chain (o + i)) = bs.getD i 0) :
    s.streamBytes chain o bs.length = bs := by
  refine List.ext_getElem (by simp [State.streamBytes]) fun i h1 h2 => ?_
  simp only [State.streamBytes, List.getElem_map, List.getElem_range]
  rw [h i h2, List.getD_eq_getElem _ _ h2]

/-- Streams read the same where DRAM from the first segment on is the same. -/
theorem streamBytes_congr {s t : State} (hcfg : t.cfg.porBase = s.cfg.porBase)
    (h : ∀ a, s.por 0x100000 ≤ a → Mem.get t.dram a = Mem.get s.dram a) (chain : List Nat) (o n : Nat) :
    t.streamBytes chain o n = s.streamBytes chain o n := by
  refine List.map_congr_left fun i _ => ?_
  have haddr : t.streamAddr chain (o + i) = s.streamAddr chain (o + i) := by
    simp only [State.streamAddr, State.segAddr, State.por, hcfg]
  rw [haddr]
  refine h _ ?_
  simp only [State.streamAddr, State.segAddr, State.por]
  omega

end Sys2Proof.Machine
end

section
/-! PROOFS. A page closed: sealed with its coded length or freed without one, in a document that keeps its pages and for which no
line waits (R68, R73, R74, R76, R77, R80, R141). -/

namespace Sys2Proof.Machine

set_option Elab.async false

/-! ## Segments returned (R68, R76, R80) -/

/-- The segments `back` are on the stack again, and the change of the free count is reported when there are any. -/
def State.returned (s : State) (back : List Nat) : State :=
  if back = [] then s else freeCountChanged { s with psm := { s.psm with stack := back ++ s.psm.stack } }

theorem State.returned_nil (s : State) : s.returned [] = s := if_pos rfl

theorem State.returned_spec (s : State) (back : List Nat) :
    ∃ a c m, s.returned back
      = { s with psm := { s.psm with stack := back ++ s.psm.stack, lowArmed := a }, ceu := c, dram := m } := by
  by_cases h : back = []
  · exact ⟨s.psm.lowArmed, s.ceu, s.dram, by rw [h, State.returned_nil, List.nil_append]⟩
  · obtain ⟨a, c, m, heq, -⟩ := freeCountChanged_frame { s with psm := { s.psm with stack := back ++ s.psm.stack } }
    exact ⟨a, c, m, by rw [State.returned, if_neg h, heq]⟩

/-- The test of the low-store mark depends on the mark, the free count, the map and the CEU alone. -/
theorem testLowMark_congr {s t : State} (hr : t.rgw = s.rgw) (hc : t.ceu = s.ceu) (hs : t.chg.seconds = s.chg.seconds)
    (harmed : t.psm.lowArmed = s.psm.lowArmed) (hmark : t.psm.lowMark = s.psm.lowMark) (hstack : t.psm.stack = s.psm.stack) :
    (testLowMark t).psm.lowArmed = (testLowMark s).psm.lowArmed ∧ (testLowMark t).ceu = (testLowMark s).ceu := by
  have hfree : t.freeCount = s.freeCount := congrArg List.length hstack
  unfold testLowMark
  rw [harmed, hmark, hfree]
  split
  · obtain ⟨c1, m1, h1, -⟩ := post_frame .storeLow .path 0 0 s.freeCount { t with psm := { t.psm with lowArmed := false } }
    obtain ⟨c2, m2, h2, -⟩ := post_frame .storeLow .path 0 0 s.freeCount { s with psm := { s.psm with lowArmed := false } }
    refine ⟨by rw [h1, h2], ?_⟩
    exact post_ceu_congr (s := { s with psm := { s.psm with lowArmed := false } })
      (t := { t with psm := { t.psm with lowArmed := false } }) hr hc hs ..
  · split
    · exact ⟨rfl, hc⟩
    · exact ⟨harmed, hc⟩

/-- The reports after segments have gone back, whatever else of the pages and of DRAM has changed on the way. -/
theorem freeCountChanged_returned {s t : State} {back : List Nat} (hback : back ≠ []) {ps : Tab PageRec} {m : Mem}
    (ht : t = { s with psm := { s.psm with pages := ps, stack := back ++ s.psm.stack }, dram := m }) :
    ∃ m', freeCountChanged t = { s with psm := { (s.returned back).psm with pages := ps }, ceu := (s.returned back).ceu,
                                        dram := m' }
      ∧ unchangedOutside ((s.por 0, 12) :: s.eventSpans) m m' := by
  obtain ⟨a, c, m', heq, hmem⟩ := freeCountChanged_frame t
  obtain ⟨a2, c2, m2, heq2, -⟩ := freeCountChanged_frame { s with psm := { s.psm with stack := back ++ s.psm.stack } }
  have hreturned : s.returned back
      = { s with psm := { s.psm with stack := back ++ s.psm.stack, lowArmed := a2 }, ceu := c2, dram := m2 } := by
    rw [State.returned, if_neg hback, heq2]
  have hcongr := testLowMark_congr (s := writePathStatus { s with psm := { s.psm with stack := back ++ s.psm.stack } })
    (t := writePathStatus t) (by rw [ht]; rfl) (by rw [ht]; rfl) (by rw [ht]; rfl) (by rw [ht]; rfl) (by rw [ht]; rfl)
    (by rw [ht]; rfl)
  have ha : a = a2 := by
    have h := hcongr.1
    rw [show testLowMark (writePathStatus t) = freeCountChanged t from rfl, heq] at h
    exact h.trans (congrArg (fun x : State => x.psm.lowArmed) heq2)
  have hc : c = c2 := by
    have h := hcongr.2
    rw [show testLowMark (writePathStatus t) = freeCountChanged t from rfl, heq] at h
    exact h.trans (congrArg State.ceu heq2)
  refine ⟨m', ?_, ?_⟩
  · rw [heq, hreturned, ha, hc, ht]
  · rw [ht] at hmem
    exact hmem

/-! ## The trim and the seal (R73) -/

/-- The bytes of DRAM that change as page `p`, of chain `chain`, is closed: its record, the path status record, an event, the
trailers, and the stack's new entries. -/
def State.closeSpans (s : State) (p : Nat) (chain : List Nat) : List (Nat × Nat) :=
  [(s.pageAddr p, 64), (s.por 0, 12)] ++ s.eventSpans ++ (chain.map fun i => (s.segAddr i + 1020, 4))
    ++ (List.range chain.length).map fun i => (s.por (0x79000 + 2 * (s.freeCount + i)), 2)

theorem closeSpans_stack (s : State) (p : Nat) {chain l : List Nat} (h : l.length ≤ chain.length) :
    ((List.range l.length).map fun i => (s.por (0x79000 + 2 * (s.freeCount + i)), 2)) ⊆ s.closeSpans p chain :=
  fun _ hx => List.mem_append_right _
    (List.map_subset _ (fun _ hi => List.mem_range.2 (Nat.lt_of_lt_of_le (List.mem_range.1 hi) h)) hx)

theorem closeSpans_trailers (s : State) (p : Nat) {chain l : List Nat} (h : l ⊆ chain) :
    (l.map fun i => (s.segAddr i + 1020, 4)) ⊆ s.closeSpans p chain :=
  fun _ hx => List.mem_append_left _ (List.mem_append_right _ (List.map_subset _ h hx))

theorem closeSpans_reports (s : State) (p : Nat) (chain : List Nat) :
    ((s.por 0, 12) :: s.eventSpans) ⊆ s.closeSpans p chain := by
  intro x hx
  simp only [State.closeSpans, List.mem_append, List.mem_cons] at hx ⊢
  tauto

theorem mem_closeSpans_page (s : State) (p : Nat) (chain : List Nat) : (s.pageAddr p, 64) ∈ s.closeSpans p chain := by
  simp [State.closeSpans]

theorem mem_closeSpans_status (s : State) (p : Nat) (chain : List Nat) : (s.por 0, 12) ∈ s.closeSpans p chain := by
  simp [State.closeSpans]

/-- The bytes of DRAM that change as page `p` of `n` segments is freed: its record, the path status record, an event, and the stack's
new entries. -/
def State.freeSpans (s : State) (p n : Nat) : List (Nat × Nat) :=
  [(s.pageAddr p, 64), (s.por 0, 12)] ++ s.eventSpans ++ (List.range n).map fun i => (s.por (0x79000 + 2 * (s.freeCount + i)), 2)

theorem freeSpans_subset (s : State) (p : Nat) (chain : List Nat) : s.freeSpans p chain.length ⊆ s.closeSpans p chain :=
  List.append_subset.2 ⟨fun _ hx => List.mem_append_left _ (List.mem_append_left _ hx), List.subset_append_right _ _⟩

theorem freeSpans_reports (s : State) (p n : Nat) : ((s.por 0, 12) :: s.eventSpans) ⊆ s.freeSpans p n := by
  intro x hx
  simp only [State.freeSpans, List.mem_append, List.mem_cons] at hx ⊢
  tauto

theorem mem_freeSpans_page (s : State) (p n : Nat) : (s.pageAddr p, 64) ∈ s.freeSpans p n := by
  simp [State.freeSpans]

/-- A trim, whole, with the reports of the free count named. -/
theorem trimPage_returned {s : State} {p : Nat} {r : PageRec} (hp : s.page? p = some r) (lc : Nat) :
    ∃ ps m, trimPage p lc s = { s with
          psm := { (s.returned (r.chain.drop (segsFor lc)).reverse).psm with pages := ps },
          ceu := (s.returned (r.chain.drop (segsFor lc)).reverse).ceu, dram := m }
      ∧ Tab.get? ps p = some { r with chain := r.chain.take (segsFor lc) } ∧ (∀ q, q ≠ p → Tab.get? ps q = s.page? q)
      ∧ (r.chain.length ≤ segsFor lc → trimPage p lc s = s) ∧ unchangedOutside (s.closeSpans p r.chain) s.dram m := by
  rcases Nat.lt_or_ge (segsFor lc) r.chain.length with hlt | hle
  · obtain ⟨m1, hpush, hmem1⟩ := pushSegments_frame (r.chain.drop (segsFor lc)) s
    obtain ⟨m2, hend, hmem2⟩ := endChain_frame (r.chain.take (segsFor lc)) (pushSegments (r.chain.drop (segsFor lc)) s)
    have hback : (r.chain.drop (segsFor lc)).reverse ≠ [] := by
      rw [Ne, List.reverse_eq_nil_iff, List.drop_eq_nil_iff]
      omega
    rw [hpush] at hend hmem2
    obtain ⟨m, hreport, hmem3⟩ := freeCountChanged_returned (s := s) hback
      (t := putPage p { r with chain := r.chain.take (segsFor lc) }
        { s with psm := { s.psm with stack := (r.chain.drop (segsFor lc)).reverse ++ s.psm.stack }, dram := m2 }) rfl
    refine ⟨_, m, ?_, Tab.get?_set_self _ _ _, fun q hq => Tab.get?_set_of_ne _ _ hq, fun h => absurd h (by omega), ?_⟩
    · rw [trimPage_of_long hp hlt, hpush, hend]
      exact hreport
    · have hput : unchangedOutside [(s.pageAddr p, 64)] m2 (Mem.write m2 (s.pageAddr p)
          { r with chain := r.chain.take (segsFor lc) }.bytes) :=
        (unchangedOutside_refl _ _).write (n := 64) (List.mem_singleton_self _) (by simp)
      refine (((hmem1.trans hmem2).trans hput).trans hmem3).of_subset ?_
      refine List.append_subset.2 ⟨List.append_subset.2 ⟨List.append_subset.2 ⟨?_, ?_⟩, ?_⟩, closeSpans_reports s p _⟩
      · exact closeSpans_stack s p (by rw [List.length_drop]; omega)
      · refine closeSpans_trailers s p fun i hi => List.mem_of_mem_take (i := segsFor lc) ?_
        rw [Option.mem_toList] at hi
        exact List.mem_of_getLast? hi
      · exact List.cons_subset.2 ⟨mem_closeSpans_page s p _, List.nil_subset _⟩
  · have hsame := trimPage_of_short hp hle
    have hdrop : (r.chain.drop (segsFor lc)).reverse = [] := by rw [List.drop_eq_nil_of_le hle, List.reverse_nil]
    refine ⟨s.psm.pages, s.dram, ?_, ?_, fun _ _ => rfl, fun _ => hsame, unchangedOutside_refl _ _⟩
    · rw [hsame, hdrop, State.returned_nil]
    · rw [List.take_of_length_le hle]
      exact hp

/-- A sealed record, whole: the page's coded length, line count, check, state and time, with the segments kept. -/
theorem sealRecord_spec {s : State} {p : Nat} {r : PageRec} (hp : s.page? p = some r) (lc lines : Nat) :
    ∃ ps m, sealRecord p lc lines s = { s with
          psm := { (s.returned (r.chain.drop (segsFor lc)).reverse).psm with pages := ps },
          ceu := (s.returned (r.chain.drop (segsFor lc)).reverse).ceu, dram := m }
      ∧ (∃ check, Tab.get? ps p = some { r with
            codedLen := lc, lineCount := lines, chain := r.chain.take (segsFor lc), check := check,
            state := if r.scanOverrun || r.truncated then .damaged else .complete, sealedTime := s.chg.seconds }
          ∧ (r.chain.length ≤ segsFor lc → check = crc16 (s.streamBytes r.chain 0 lc)))
      ∧ (∀ q, q ≠ p → Tab.get? ps q = s.page? q)
      ∧ (r.chain.length ≤ segsFor lc → unchangedOutside [(s.pageAddr p, 64)] s.dram m)
      ∧ unchangedOutside (s.closeSpans p r.chain) s.dram m := by
  obtain ⟨ps, m, heq, hself, hother, hshort, hmem⟩ := trimPage_returned hp lc
  have hq : (trimPage p lc s).page? p = some { r with chain := r.chain.take (segsFor lc) } := by rw [heq]; exact hself
  have hsealed : sealRecord p lc lines s = putPage p
      { r with
        codedLen := lc, lineCount := lines, chain := r.chain.take (segsFor lc), sealedTime := s.chg.seconds,
        check := crc16 ((trimPage p lc s).streamBytes (r.chain.take (segsFor lc)) 0 lc),
        state := if r.scanOverrun || r.truncated then .damaged else .complete } (trimPage p lc s) :=
    modifyPage_of_some hq _
  obtain ⟨rec, hrec⟩ : ∃ x, x = ({ r with
        codedLen := lc, lineCount := lines, chain := r.chain.take (segsFor lc), sealedTime := s.chg.seconds,
        check := crc16 ((trimPage p lc s).streamBytes (r.chain.take (segsFor lc)) 0 lc),
        state := if r.scanOverrun || r.truncated then .damaged else .complete } : PageRec) := ⟨_, rfl⟩
  rw [← hrec] at hsealed
  have hpage : (trimPage p lc s).pageAddr p = s.pageAddr p := by rw [heq]; rfl
  refine ⟨Tab.set ps p rec, Mem.write m (s.pageAddr p) rec.bytes, ?_,
    ⟨crc16 ((trimPage p lc s).streamBytes (r.chain.take (segsFor lc)) 0 lc), ?_, fun hle => ?_⟩, fun q hq => ?_, fun hle => ?_, ?_⟩
  · rw [hsealed, heq]
    rfl
  · rw [Tab.get?_set_self, hrec]
  · rw [hshort hle, List.take_of_length_le hle]
  · rw [Tab.get?_set_of_ne _ _ hq]
    exact hother q hq
  · have hm : m = s.dram := by
      have h := heq.symm.trans (hshort hle)
      exact congrArg State.dram h
    rw [hm]
    exact (unchangedOutside_refl _ _).write (n := 64) (List.mem_singleton_self _) (by simp)
  · exact hmem.write (mem_closeSpans_page s p _) (by simp)

/-! ## A page freed without a seal (R76, R77) -/

theorem releasePage_spec {s : State} (p : Nat) (r : PageRec) :
    ∃ m, releasePage p r s = { s with
          psm := { (s.returned r.chain.reverse).psm with pages := Tab.erase s.psm.pages p },
          ceu := (s.returned r.chain.reverse).ceu, dram := m }
      ∧ (s.returned r.chain.reverse).psm.stack = r.chain.reverse ++ s.psm.stack
      ∧ unchangedOutside (s.freeSpans p r.chain.length) s.dram m := by
  unfold releasePage
  split
  next h =>
    rw [h, List.reverse_nil, State.returned_nil]
    refine ⟨_, rfl, rfl, ?_⟩
    refine ((unchangedOutside_refl _ _).write (a := s.pageAddr p) (n := 64) (mem_freeSpans_page s p _) (by simp)).write
      (a := s.por 0) (n := 12) (freeSpans_reports s p _ (List.mem_cons_self ..)) (by simp)
  next h =>
    obtain ⟨m1, hpush, hmem1⟩ := pushSegments_frame r.chain s
    have hback : r.chain.reverse ≠ [] := by rwa [Ne, List.reverse_eq_nil_iff]
    obtain ⟨m, hreport, hmem3⟩ := freeCountChanged_returned (s := s) hback
      (t := clearPage p { s with psm := { s.psm with stack := r.chain.reverse ++ s.psm.stack }, dram := m1 }) rfl
    obtain ⟨a2, c2, m2, heq2, -⟩ := freeCountChanged_frame
      { s with psm := { s.psm with stack := r.chain.reverse ++ s.psm.stack } }
    refine ⟨m, ?_, ?_, ?_⟩
    · rw [hpush]
      exact hreport
    · rw [State.returned, if_neg hback, heq2]
    · have hput : unchangedOutside [(s.pageAddr p, 64)] m1 (Mem.write m1 (s.pageAddr p) (zeros 64)) :=
        (unchangedOutside_refl _ _).write (n := 64) (List.mem_singleton_self _) (by simp)
      refine ((hmem1.trans hput).trans hmem3).of_subset ?_
      refine List.append_subset.2 ⟨List.append_subset.2 ⟨List.subset_append_right _ _, ?_⟩, freeSpans_reports s p _⟩
      exact List.cons_subset.2 ⟨mem_freeSpans_page s p _, List.nil_subset _⟩

/-! ## The close of a page (R73, R77) -/

/-- No line waits for the next page of document `d` (R134). -/
def State.noneWaits (s : State) (d : Nat) : Prop := ∀ n, (s.line n).state = .dataWait → (s.line n).doc ≠ some d

theorem recheckLines_of_noneWaits {s : State} {d : Nat} (h : s.noneWaits d) : recheckLines d s = s := by
  have hfold (l : List Line) : l.foldl (fun s n =>
      if (s.line n).state = .dataWait ∧ (s.line n).doc = some d then nextPlace n s else s) s = s := by
    induction l with
    | nil => rfl
    | cons n l ih => rw [List.foldl_cons, if_neg fun hc => h n hc.1 hc.2, ih]
  exact hfold allLines

theorem testPageFree_of_kept {s : State} {p : Nat} (h : ∀ r, s.page? p = some r → s.keeps r.doc = true) :
    testPageFree p s = s := by
  unfold testPageFree
  split
  · rfl
  next r hr => rw [if_neg (by simp [h r hr])]

/-- A page with stored bytes, of a document that keeps its pages and that no line waits for, is sealed and no more. -/
theorem sealPage_of_kept {s : State} {p lc : Nat} {r : PageRec} (hp : s.page? p = some r) (hlc : lc ≠ 0)
    (hkeep : s.keeps r.doc = true) (hwaits : s.noneWaits r.doc) (lines : Nat) :
    sealPage p lc lines s = occasion (sealRecord p lc lines s) := by
  obtain ⟨ps, m, heq, ⟨check, hself, -⟩, -, -, -⟩ := sealRecord_spec hp lc lines
  have hnone : (sealRecord p lc lines s).noneWaits r.doc := by rw [heq]; exact hwaits
  have hfree : testPageFree p (occasion (sealRecord p lc lines s)) = occasion (sealRecord p lc lines s) := by
    refine testPageFree_of_kept fun x hx => ?_
    rw [heq] at hx ⊢
    have : x.doc = r.doc := by
      obtain rfl := Option.some.inj (hself.symm.trans hx)
      rfl
    rw [this]
    exact hkeep
  simp only [sealPage, hp]
  rw [if_neg hlc, recheckLines_of_noneWaits hnone, hfree]

theorem sealPage_of_none {s : State} {p : Nat} (h : s.page? p = none) (lc lines : Nat) : sealPage p lc lines s = s := by
  simp only [sealPage, h]

/-- A page without a stored byte is freed: its segments are on the stack, its record is EMPTY, and its document's list ends
before it. -/
theorem giveUpPage_spec {s : State} {p : Nat} {r : PageRec} {doc : Doc} (hp : s.page? p = some r)
    (hdoc : s.doc? r.doc = some doc) (hwaits : s.noneWaits r.doc) :
    ∃ m, giveUpPage r.doc p s = { s with
          psm := { (s.returned r.chain.reverse).psm with pages := Tab.erase s.psm.pages p },
          ceu := (s.returned r.chain.reverse).ceu,
          dju := { s.dju with docs := Tab.set s.dju.docs r.doc { doc with places := doc.places.dropLast } }, dram := m }
      ∧ (s.returned r.chain.reverse).psm.stack = r.chain.reverse ++ s.psm.stack
      ∧ unchangedOutside ((s.docAddr r.doc, 512) :: s.freeSpans p r.chain.length) s.dram m := by
  obtain ⟨m, heq, hstack, hmem⟩ := releasePage_spec (s := s) p r
  have hdoc' : (releasePage p r s).doc? r.doc = some doc := by rw [heq]; exact hdoc
  have habandon : abandonPage p s = putDoc r.doc { doc with places := doc.places.dropLast } (releasePage p r s) := by
    simp only [abandonPage, hp]
    exact modifyDoc_of_some hdoc' _
  have hnone : (abandonPage p s).noneWaits r.doc := by rw [habandon, heq]; exact hwaits
  have hwhole : giveUpPage r.doc p s = putDoc r.doc { doc with places := doc.places.dropLast } (releasePage p r s) := by
    rw [giveUpPage, recheckLines_of_noneWaits hnone, habandon]
  refine ⟨Mem.write m (s.docAddr r.doc) (({ doc with places := doc.places.dropLast } : Doc).bytes r.doc), ?_, hstack, ?_⟩
  · rw [hwhole, heq]
    rfl
  · exact (hmem.of_subset (List.subset_cons_self _ _)).write (a := s.docAddr r.doc) (n := 512) (List.mem_cons_self ..) (by simp)

end Sys2Proof.Machine
end

section
/-! PROOFS. SCAN_TAKE_SLOT: the slot taken, the line coded and stored, the page sealed at its height, the page begun, and scan
faults (R41, R46, R50, R52, R53, R57). -/

namespace Sys2Proof.Machine

set_option Elab.async false

/-! ## The slot taken (R41) -/

/-- The SCN's registers once the slot at the take index is taken. -/
def State.slotTaken (s : State) (g : RawGeom) : Scn :=
  { s.scn with take := (s.scn.take + 1) % g.slots, waiting := s.scn.waiting - 1,
               overruns := s.scn.overruns.erase s.scn.take, voids := s.scn.voids.erase s.scn.take }

theorem releaseScanHold_of_none {s : State} (h : s.smp.held = none) : releaseScanHold s = s := by
  simp only [releaseScanHold, h]

theorem releaseScanHold_of_lapping {s : State} {h : Held} (hheld : s.smp.held = some h) {i j : Nat} (hr : h.reason = .scan i)
    (hlap : s.lapping h.access.off = some j) : releaseScanHold s = s := by
  simp only [releaseScanHold, hheld, hr, hlap, Option.isNone_some, Bool.false_eq_true, if_false]

theorem releaseScanHold_of_free {s : State} {h : Held} (hheld : s.smp.held = some h) {i : Nat} (hr : h.reason = .scan i)
    (hlap : s.lapping h.access.off = none) :
    releaseScanHold s = passWrite h.access { s with smp := { s.smp with held := none } } := by
  simp only [releaseScanHold, hheld, hr, hlap, Option.isNone_none, if_true]

theorem advanceTake_eq {s : State} {g : RawGeom} (hg : s.rgw.rawGeom = some g) :
    advanceTake s = releaseScanHold { s with scn := s.slotTaken g } := by
  simp only [advanceTake, hg]
  rfl

theorem advanceTake_of_none {s : State} {g : RawGeom} (hg : s.rgw.rawGeom = some g) (h : s.smp.held = none) :
    advanceTake s = { s with scn := s.slotTaken g } := by
  rw [advanceTake_eq hg]
  exact releaseScanHold_of_none h

theorem exec_scanTakeSlot_of_run {s : State} (h : s.rgw.state = .run) : exec .scanTakeSlot s = .next (takeSlot s) := by
  have hrun : s.isRun = true := by simp [State.isRun, h]
  rw [exec_scanTakeSlot, hrun]
  rfl

/-- The SCN goes through the branches of R41 when it has a profile and a document, is not idle, and a slot waits. -/
theorem takeSlot_of_waiting {s : State} {prof : Profile} {doc : Nat} (hactive : s.scn.active = some prof)
    (hdoc : s.scn.doc = some doc) (hidle : s.scn.state ≠ .scanIdle) (hwait : 0 < s.scn.waiting) :
    (s.scn.take ∈ s.scn.voids → takeSlot s = advanceTake s)
      ∧ (s.scn.take ∉ s.scn.voids →
        (s.scn.state = .pageFull → takeSlot s = extraLine s)
        ∧ (s.scn.state = .inPage → takeSlot s = takeLine prof s)
        ∧ (s.scn.state = .betweenPages →
            takeSlot s = if (newPage doc prof s).scn.state = .inPage then takeLine prof (newPage doc prof s)
              else newPage doc prof s)) := by
  have hgo : ¬(s.scn.state = .scanIdle ∨ s.scn.waiting = 0) := by
    rintro (h | h)
    · exact hidle h
    · omega
  unfold takeSlot
  simp only [hactive, hdoc]
  rw [if_neg hgo]
  refine ⟨fun h => if_pos h, fun h => ?_⟩
  rw [if_neg h]
  refine ⟨fun hs => ?_, fun hs => ?_, fun hs => ?_⟩ <;> rw [hs]

/-! ## A line coded and stored (R53) -/

theorem unchangedOutside.widen {sp sq : List (Nat × Nat)} {m m' : Mem} (h : unchangedOutside sp m m')
    (hcover : ∀ x ∈ sp, ∃ y ∈ sq, y.1 ≤ x.1 ∧ x.1 + x.2 ≤ y.1 + y.2) : unchangedOutside sq m m' := by
  refine fun a ha => h a fun x hx => ?_
  obtain ⟨y, hy, hlow, hhigh⟩ := hcover x hx
  have hout := ha y hy
  rw [within_eq_false_iff] at hout ⊢
  omega

/-- The segments that a page of record `r` needs beyond its own, for a stream of `len` bytes. -/
def segsMore (r : PageRec) (len : Nat) : Nat := segsFor len - r.chain.length

theorem segsFor_covers (r : PageRec) (len : Nat) (l : List Nat) (h : l.length = segsMore r len) :
    len ≤ 1020 * (r.chain ++ l).length := by
  rw [List.length_append, h]
  unfold segsMore segsFor
  omega

/-- A line appended while the stack holds the segments it needs. -/
theorem appendLine_of_room {s : State} {p : Nat} {prof : Profile} {r : PageRec} (hpage : s.scn.page = some p)
    (hactive : s.scn.active = some prof) (hp : s.page? p = some r) {line : List Bool} {code : List Byte}
    (hcode : code = codeLine prof.cls.dots s.scn.ref line) {len more : Nat} (hlen : len = s.scn.streamLen + code.length)
    (hmore : more = segsMore r len) {chain : List Nat} (hchain : chain = r.chain ++ s.psm.stack.take more)
    (hroom : more ≤ s.psm.stack.length) (hnodup : chain.Nodup) :
    ∃ ps a c m, appendLine line s = { s with
          scn := { s.scn with ref := line, outLines := s.scn.outLines + 1, streamLen := len },
          psm := { s.psm with pages := ps, stack := s.psm.stack.drop more, lowArmed := a }, ceu := c, dram := m }
      ∧ (more = 0 → a = s.psm.lowArmed ∧ c = s.ceu)
      ∧ Tab.get? ps p = some { r with chain := chain } ∧ (∀ q, q ≠ p → Tab.get? ps q = s.page? q)
      ∧ (∀ i, i < code.length → Mem.get m (s.streamAddr chain (s.scn.streamLen + i)) = code.getD i 0)
      ∧ unchangedOutside ((chain.map fun i => (s.segAddr i, if more = 0 then 1020 else 1024))
          ++ (if more = 0 then [] else (s.pageAddr p, 64) :: (s.por 0, 12) :: s.eventSpans)) s.dram m := by
  obtain ⟨t, ps, a, c, m1, hgive, ht, hself, hother, hmem1, -⟩ := giveSegments_spec hp hroom
  obtain ⟨m, hwrite, hmem2, hbytes⟩ := writeStream_spec chain s.scn.streamLen code t
  have hchainLen : (s.psm.stack.take more).length = segsMore r len := by rw [List.length_take, Nat.min_eq_left hroom, hmore]
  have hcover : s.scn.streamLen + code.length ≤ 1020 * chain.length := by
    rw [← hlen, hchain]
    exact segsFor_covers r len _ hchainLen
  have hget : t.page? p = some { r with chain := chain } := by rw [ht, hchain]; exact hself
  have hneed : segsFor (s.scn.streamLen + code.length) - r.chain.length = more := by rw [← hlen, hmore, segsMore]
  have hscn : t.scn = s.scn := by rw [ht]
  have happend : appendLine line s = { t with
      scn := { s.scn with ref := line, outLines := s.scn.outLines + 1, streamLen := len }, dram := m } := by
    simp only [appendLine, hpage, hactive, ← hcode, hp, Option.map_some, Option.getD_some, hneed, hgive, hget, hwrite, if_true]
    rw [hscn, hlen, hpage, hactive]
  have hnone (hz : more = 0) : t = s ∧ m1 = s.dram := by
    subst hz
    have h0 : t = s := (congrArg Prod.fst hgive).symm
    refine ⟨h0, ?_⟩
    rw [ht] at h0
    exact congrArg State.dram h0
  refine ⟨ps, a, c, m, ?_, fun hz => ?_, ?_, hother, fun i hi => ?_, ?_⟩
  · rw [happend, ht]
  · have h0 := (hnone hz).1
    rw [ht] at h0
    exact ⟨congrArg (fun x : State => x.psm.lowArmed) h0, congrArg State.ceu h0⟩
  · rw [hchain]
    exact hself
  · have h := (hbytes hnodup hcover).1 i hi
    rw [ht] at h
    exact h
  · rw [show t.dram = m1 by rw [ht]] at hmem2
    have hseg : (chain.map fun i => (t.segAddr i, 1020)) = chain.map fun i => (s.segAddr i, 1020) := by rw [ht]; rfl
    rw [hseg] at hmem2
    by_cases hz : more = 0
    · rw [(hnone hz).2] at hmem2
      simp only [hz, if_true, List.append_nil]
      exact hmem2
    · simp only [if_neg hz]
      refine (hmem1.trans hmem2).widen fun x hx => ?_
      have hcovers (i : Nat) (hi : i ∈ chain) (o n : Nat) (hx : x = (s.segAddr i + o, n)) (hon : o + n ≤ 1024) :
          ∃ y ∈ (chain.map fun i => (s.segAddr i, 1024)) ++ (s.pageAddr p, 64) :: (s.por 0, 12) :: s.eventSpans,
            y.1 ≤ x.1 ∧ x.1 + x.2 ≤ y.1 + y.2 := by
        refine ⟨_, List.mem_append_left _ (List.mem_map.2 ⟨i, hi, rfl⟩), ?_, ?_⟩
        · rw [hx]
          exact Nat.le_add_right _ _
        · rw [hx]
          change s.segAddr i + o + n ≤ s.segAddr i + 1024
          omega
      simp only [State.giveSpans, List.mem_append, List.mem_cons, List.mem_map] at hx
      rcases hx with ((rfl | rfl | ⟨i, hi, rfl⟩) | hev) | ⟨i, hi, rfl⟩
      · exact ⟨_, List.mem_append_right _ (List.mem_cons_self ..), le_rfl, le_rfl⟩
      · exact ⟨_, List.mem_append_right _ (List.mem_cons_of_mem _ (List.mem_cons_self ..)), le_rfl, le_rfl⟩
      · refine hcovers i ?_ 1020 4 rfl le_rfl
        rw [hchain, List.mem_append]
        rcases hi with hi | hi
        · rw [Option.mem_toList] at hi
          exact .inl (List.mem_of_getLast? hi)
        · exact .inr hi
      · exact ⟨x, List.mem_append_right _ (List.mem_cons_of_mem _ (List.mem_cons_of_mem _ hev)), le_rfl, le_rfl⟩
      · exact hcovers i hi 0 1020 rfl (by omega)

/-! ## The line of a slot (R42, R46, R50) -/

/-- A page's record with the overrun mark of the slot at the take index. -/
def State.overrunMarked (s : State) (r : PageRec) : PageRec :=
  { r with scanOverrun := r.scanOverrun || decide (s.scn.take ∈ s.scn.overruns) }

/-- The dots of the slot at the take index. -/
def State.slotDots (s : State) (prof : Profile) : List Bool :=
  if prof.lineIsWhite s.scn.outLines then whiteLine prof.cls.dots else s.rawDots prof s.scn.take

/-- The line that the slot at the take index completes: at FINE its dots, at STANDARD those of the pair. -/
def State.slotLine (s : State) (prof : Profile) (line : List Bool) : Prop :=
  (prof.res = .fine ∧ line = s.slotDots prof) ∨ (prof.res = .standard ∧ s.scn.half = some .unread ∧ line = s.slotDots prof)
    ∨ ∃ first, prof.res = .standard ∧ s.scn.half = some (.dots first)
      ∧ line = List.zipWith (fun a b => a || b) first (s.slotDots prof)

/-- The state with the slot taken and its overrun mark in the page's record, before its line is coded. -/
theorem takeLine_spec {s : State} {g : RawGeom} (hg : s.rgw.rawGeom = some g) (hheld : s.smp.held = none) {p : Nat} {r : PageRec}
    (hpage : s.scn.page = some p) (hp : s.page? p = some r) (prof : Profile) :
    ∃ t ps m, t = { s with scn := { s.slotTaken g with rawLines := s.scn.rawLines + 1 },
                           psm := { s.psm with pages := ps }, dram := m }
      ∧ Tab.get? ps p = some (s.overrunMarked r) ∧ (∀ q, q ≠ p → Tab.get? ps q = s.page? q)
      ∧ unchangedOutside (if s.scn.take ∈ s.scn.overruns then [(s.pageAddr p, 64)] else []) s.dram m
      ∧ (prof.res = .standard → s.scn.half = none →
        takeLine prof s = { t with scn := { t.scn with
          half := some (if prof.lineIsWhite s.scn.outLines then .unread else .dots (s.slotDots prof)) } })
      ∧ ∀ line, s.slotLine prof line →
        takeLine prof s = testHeight (appendLine line { t with scn := { t.scn with
          half := if prof.res = .fine then s.scn.half else none } }) := by
  obtain ⟨u, hu⟩ : ∃ u, u = (if s.scn.take ∈ s.scn.overruns then modifyPage p (fun r => { r with scanOverrun := true }) s else s) :=
    ⟨_, rfl⟩
  have hmarked : ∃ ps m, u = { s with psm := { s.psm with pages := ps }, dram := m }
      ∧ Tab.get? ps p = some (s.overrunMarked r) ∧ (∀ q, q ≠ p → Tab.get? ps q = s.page? q)
      ∧ unchangedOutside (if s.scn.take ∈ s.scn.overruns then [(s.pageAddr p, 64)] else []) s.dram m := by
    by_cases hover : s.scn.take ∈ s.scn.overruns
    · rw [if_pos hover] at hu
      have hmod := hu.trans (modifyPage_of_some hp _)
      refine ⟨_, _, hmod, ?_, fun q hq => Tab.get?_set_of_ne _ _ hq, ?_⟩
      · rw [Tab.get?_set_self, State.overrunMarked]
        simp [hover]
      · rw [if_pos hover]
        exact unchangedOutside_store (by simp)
    · rw [if_neg hover] at hu
      refine ⟨s.psm.pages, s.dram, hu, ?_, fun _ _ => rfl, unchangedOutside_refl _ _⟩
      rw [State.overrunMarked]
      simp only [hover, decide_false, Bool.or_false]
      exact hp
  obtain ⟨ps, m, hframe, hself, hother, hmem⟩ := hmarked
  obtain ⟨t, ht⟩ : ∃ t, t = { s with
      scn := { s.slotTaken g with rawLines := s.scn.rawLines + 1 }, psm := { s.psm with pages := ps }, dram := m } := ⟨_, rfl⟩
  have htaken : advanceTake { u with scn := { u.scn with rawLines := u.scn.rawLines + 1 } } = t := by
    rw [hframe, ht]
    exact advanceTake_of_none (s := { s with
      scn := { s.scn with rawLines := s.scn.rawLines + 1 }, psm := { s.psm with pages := ps }, dram := m }) hg hheld
  have hhalf : t.scn.half = s.scn.half := by rw [ht]; rfl
  have hline : takeLine prof s = match prof.res, t.scn.half with
      | .fine, _ => testHeight (appendLine (s.slotDots prof) t)
      | .standard, none =>
        let half := if prof.lineIsWhite s.scn.outLines then .unread else .dots (s.slotDots prof)
        { t with scn := { t.scn with half := some half } }
      | .standard, some h =>
        let line := match h with
          | .unread => s.slotDots prof
          | .dots first => combine first (s.slotDots prof)
        testHeight (appendLine line { t with scn := { t.scn with half := none } }) := by
    rw [← htaken, hu]
    simp only [takeLine, hpage]
    rfl
  refine ⟨t, ps, m, ht, hself, hother, hmem, fun hres hnone => ?_, fun line hl => ?_⟩
  · rw [hline, hhalf, hnone, hres]
  · rw [hline, hhalf]
    rcases hl with ⟨hres, rfl⟩ | ⟨hres, hunread, rfl⟩ | ⟨first, hres, hdots, rfl⟩
    · simp only [hres, if_true, ← hhalf]
    · simp only [hres, hunread, reduceCtorEq, if_false]
    · simp only [hres, hdots, reduceCtorEq, if_false]
      rfl

theorem testHeight_of_below {s : State} {prof : Profile} (hactive : s.scn.active = some prof)
    (h : s.scn.outLines < prof.height) : testHeight s = s := by
  unfold testHeight
  split
  next hp =>
    obtain rfl := Option.some.inj (hactive.symm.trans hp)
    exact if_pos h
  · rfl

theorem testHeight_of_noPage {s : State} (h : s.scn.page = none) : testHeight s = s := by
  unfold testHeight
  rw [h]

theorem testHeight_of_reached {s : State} {prof : Profile} {p : Nat} (hactive : s.scn.active = some prof)
    (hpage : s.scn.page = some p) (h : prof.height ≤ s.scn.outLines) :
    testHeight s = sealOpenPage { s with scn := { s.scn with
      state := if s.scn.mode = some .single then .pageFull else .betweenPages } } := by
  simp only [testHeight, hactive, hpage]
  rw [if_neg (Nat.not_lt.2 h)]

/-- The open page sealed as it stands, with the bytes coded. -/
theorem sealOpenPage_of_some {s : State} {p : Nat} (h : s.scn.page = some p) :
    sealOpenPage s = sealPage p s.scn.streamLen s.scn.outLines
      { s with scn := { s.scn with page := none, half := none, sealedCount := s.scn.sealedCount + 1,
                                   lastSealed := some (p, s.scn.outLines), extraPosted := false } } := by
  simp only [sealOpenPage, h]

/-- The open page sealed with its coded bytes, in a document that keeps its pages and that no line waits for: no segment is left
over. -/
theorem sealOpenPage_of_kept {s : State} {p : Nat} {r : PageRec} (hpage : s.scn.page = some p) (hp : s.page? p = some r)
    (hlen : s.scn.streamLen ≠ 0) (hkeep : s.keeps r.doc = true) (hwaits : s.noneWaits r.doc) :
    ∃ ps m, sealOpenPage s = { s with
          scn := { s.scn with page := none, half := none, sealedCount := s.scn.sealedCount + 1,
                              lastSealed := some (p, s.scn.outLines), extraPosted := false },
          psm := { (s.returned (r.chain.drop (segsFor s.scn.streamLen)).reverse).psm with pages := ps },
          dju := { s.dju with passDue := true },
          ceu := (s.returned (r.chain.drop (segsFor s.scn.streamLen)).reverse).ceu, dram := m }
      ∧ (∃ check, Tab.get? ps p = some { r with
            codedLen := s.scn.streamLen, lineCount := s.scn.outLines, chain := r.chain.take (segsFor s.scn.streamLen),
            check := check, state := if r.scanOverrun || r.truncated then .damaged else .complete,
            sealedTime := s.chg.seconds }
          ∧ (r.chain.length ≤ segsFor s.scn.streamLen → check = crc16 (s.streamBytes r.chain 0 s.scn.streamLen)))
      ∧ (∀ q, q ≠ p → Tab.get? ps q = s.page? q)
      ∧ (r.chain.length ≤ segsFor s.scn.streamLen → unchangedOutside [(s.pageAddr p, 64)] s.dram m)
      ∧ unchangedOutside (s.closeSpans p r.chain) s.dram m := by
  obtain ⟨w, hw⟩ : ∃ w, w = { s with scn := { s.scn with
      page := none, half := none, sealedCount := s.scn.sealedCount + 1, lastSealed := some (p, s.scn.outLines),
      extraPosted := false } } := ⟨_, rfl⟩
  have hp' : w.page? p = some r := by rw [hw]; exact hp
  have hkeep' : w.keeps r.doc = true := by rw [hw]; exact hkeep
  have hwaits' : w.noneWaits r.doc := by rw [hw]; exact hwaits
  obtain ⟨ps, m, heq, ⟨check, hself, hcheck⟩, hother, hshort, hmem⟩ := sealRecord_spec hp' s.scn.streamLen s.scn.outLines
  have hreturned : ∀ back, (w.returned back).psm.lowArmed = (s.returned back).psm.lowArmed
      ∧ (w.returned back).ceu = (s.returned back).ceu := fun back => by
    unfold State.returned
    split
    · exact ⟨by rw [hw], by rw [hw]⟩
    · refine testLowMark_congr (s := writePathStatus { s with psm := { s.psm with stack := back ++ s.psm.stack } })
        (t := writePathStatus { w with psm := { w.psm with stack := back ++ w.psm.stack } }) ?_ ?_ ?_ ?_ ?_ ?_ <;> rw [hw] <;> rfl
  have hpsm : ∀ back, ∃ a, (w.returned back).psm = { s.psm with stack := back ++ s.psm.stack, lowArmed := a }
      ∧ (s.returned back).psm = { s.psm with stack := back ++ s.psm.stack, lowArmed := a } := fun back => by
    obtain ⟨a, c, m, h1⟩ := w.returned_spec back
    obtain ⟨a2, c2, m2, h2⟩ := s.returned_spec back
    have ha : a = a2 := by
      have h := (hreturned back).1
      rw [h1, h2] at h
      exact h
    refine ⟨a, ?_, ?_⟩
    · rw [h1, hw]
    · rw [h2, ha]
  refine ⟨ps, m, ?_, ⟨check, ?_, fun hle => ?_⟩, fun q hq => ?_, fun hle => ?_, ?_⟩
  · obtain ⟨b, hb1, hb2⟩ := hpsm (r.chain.drop (segsFor s.scn.streamLen)).reverse
    rw [sealOpenPage_of_some hpage, ← hw, sealPage_of_kept hp' hlen hkeep' hwaits', heq, hb1, hb2, (hreturned _).2, hw]
    rfl
  · rw [hself, hw]
  · rw [hcheck hle, hw]
    rfl
  · rw [hother q hq, hw]
    rfl
  · have h := hshort hle
    rw [hw] at h
    exact h
  · rw [hw] at hmem
    exact hmem

/-! ## A line into the open page (R53, R54, R57) -/

/-- The SCN's registers once the line of the slot is coded and stored. -/
def State.lineCoded (s : State) (g : RawGeom) (prof : Profile) (line : List Bool) (len : Nat) : Scn :=
  { s.slotTaken g with rawLines := s.scn.rawLines + 1, outLines := s.scn.outLines + 1, ref := line, streamLen := len,
                       half := if prof.res = .fine then s.scn.half else none }

/-- A line is taken and stored while the stack holds the segments it needs; the page's height is tested then. -/
theorem takeLine_of_room {s : State} {g : RawGeom} (hg : s.rgw.rawGeom = some g) (hheld : s.smp.held = none) {p : Nat}
    {r : PageRec} (hpage : s.scn.page = some p) (hp : s.page? p = some r) {prof : Profile} (hactive : s.scn.active = some prof)
    {line : List Bool} (hline : s.slotLine prof line) {code : List Byte} (hcode : code = codeLine prof.cls.dots s.scn.ref line)
    {len more : Nat} (hlen : len = s.scn.streamLen + code.length) (hmore : more = segsMore r len) {chain : List Nat}
    (hchain : chain = r.chain ++ s.psm.stack.take more) (hroom : more ≤ s.psm.stack.length) (hnodup : chain.Nodup) :
    ∃ v ps a c m, takeLine prof s = testHeight v
      ∧ v = { s with scn := s.lineCoded g prof line len,
                     psm := { s.psm with pages := ps, stack := s.psm.stack.drop more, lowArmed := a }, ceu := c, dram := m }
      ∧ (more = 0 → a = s.psm.lowArmed ∧ c = s.ceu)
      ∧ Tab.get? ps p = some { s.overrunMarked r with chain := chain } ∧ (∀ q, q ≠ p → Tab.get? ps q = s.page? q)
      ∧ (∀ i, i < code.length → Mem.get m (s.streamAddr chain (s.scn.streamLen + i)) = code.getD i 0)
      ∧ unchangedOutside ((chain.map fun i => (s.segAddr i, if more = 0 then 1020 else 1024))
          ++ (if more = 0 then (if s.scn.take ∈ s.scn.overruns then [(s.pageAddr p, 64)] else [])
              else [(s.pageAddr p, 64)] ++ (s.por 0, 12) :: s.eventSpans)) s.dram m := by
  obtain ⟨t, ps1, m1, ht, hself1, hother1, hmem1, -, hstored⟩ := takeLine_spec hg hheld hpage hp prof
  obtain ⟨w, hw⟩ : ∃ w : State, w = { t with scn := { t.scn with half := if prof.res = Resolution.fine then s.scn.half else none } } := ⟨_, rfl⟩
  have hscn : w.scn = { s.slotTaken g with rawLines := s.scn.rawLines + 1, half := if prof.res = .fine then s.scn.half else none } := by
    rw [hw, ht]
  have hp1 : w.page? p = some (s.overrunMarked r) := by rw [hw, ht]; exact hself1
  have hstack : w.psm.stack = s.psm.stack := by rw [hw, ht]
  have hwdram : w.dram = m1 := by rw [hw, ht]
  obtain ⟨ps, a, c, m, happ, hnone, hself, hother, hbytes, hmem⟩ := appendLine_of_room (s := w) (p := p) (prof := prof)
    (by rw [hscn]; exact hpage) (by rw [hscn]; exact hactive) hp1 (code := code) (line := line) (by rw [hscn]; exact hcode)
    (len := len) (more := more) (by rw [hscn]; exact hlen) hmore (chain := chain) (by rw [hstack]; exact hchain)
    (by rw [hstack]; exact hroom) hnodup
  refine ⟨appendLine line w, ps, a, c, m, ?_, ?_, fun hz => ?_, hself, fun q hq => ?_, fun i hi => ?_, ?_⟩
  · rw [hstored line hline, ← hw]
  · rw [happ, hscn, hstack, hw, ht]
    rfl
  · obtain ⟨ha, hc⟩ := hnone hz
    rw [ha, hc, hw, ht]
    exact ⟨rfl, rfl⟩
  · rw [hother q hq, hw, ht]
    exact hother1 q hq
  · have h := hbytes i hi
    rw [hscn, hw, ht] at h
    exact h
  · rw [hwdram] at hmem
    have hseg : ∀ n : Nat, (chain.map fun i => (w.segAddr i, n)) = chain.map fun i => (s.segAddr i, n) := fun n => by
      rw [hw, ht]
      rfl
    have hspans : (w.pageAddr p, 64) :: (w.por 0, 12) :: w.eventSpans = (s.pageAddr p, 64) :: (s.por 0, 12) :: s.eventSpans := by
      rw [hw, ht]
      rfl
    rw [hseg, hspans] at hmem
    refine (hmem1.trans hmem).of_subset (List.append_subset.2 ⟨?_, List.append_subset.2 ⟨List.subset_append_left _ _, ?_⟩⟩)
    · refine List.Subset.trans ?_ (List.subset_append_right _ _)
      by_cases hz : more = 0
      · rw [if_pos hz]
        exact List.Subset.refl _
      · rw [if_neg hz]
        split
        · simp
        · exact List.nil_subset _
    · refine List.Subset.trans ?_ (List.subset_append_right _ _)
      by_cases hz : more = 0
      · rw [if_pos hz]
        exact List.nil_subset _
      · rw [if_neg hz, if_neg hz]
        exact List.Subset.refl _

/-- A page's record and the tables below it lie before the segments. -/
theorem get_above_page {s : State} {p : Nat} (hp : p < 1024) {m m' : Mem} (h : unchangedOutside [(s.pageAddr p, 64)] m m') {a : Nat}
    (ha : s.por 0x100000 ≤ a) : Mem.get m' a = Mem.get m a := by
  refine h a fun x hx => ?_
  obtain rfl := List.mem_singleton.1 hx
  rw [within_eq_false_iff]
  simp only [State.pageAddr, State.por] at ha ⊢
  omega

/-! ## Scan faults (R57) -/

/-- The SCN's registers as the scan ends. -/
def Scn.toIdle (c : Scn) : Scn :=
  { c with state := .scanIdle, doc := none, active := none, mode := none, take := 0, comp := 0, waiting := 0, overruns := [],
           voids := [], page := none, half := none, ref := [], outLines := 0, rawLines := 0, streamLen := 0 }

theorem endScan_of_none {s : State} (h : s.smp.held = none) :
    endScan s = { s with rgw := { s.rgw with rawGeom := none, started := false }, scn := s.scn.toIdle } :=
  releaseScanHold_of_none h

theorem scanFault_eq (f : ScanFault) (s : State) :
    scanFault f s = post .scanFault .document (orAbsent 0 s.scn.doc) f.code
      (faultPage { s with scn := { s.scn with half := none } }).2 (endScan (faultPage { s with scn := { s.scn with half := none } }).1) :=
  rfl

/-- A fault between pages: SCAN_FAULT names no page. -/
theorem scanFault_of_noPage {s : State} (hheld : s.smp.held = none) (hpage : s.scn.page = none) {doc : Nat}
    (hdoc : s.scn.doc = some doc) (f : ScanFault) :
    scanFault f s = post .scanFault .document doc f.code 0xFFFFFFFF
      { s with rgw := { s.rgw with rawGeom := none, started := false }, scn := s.scn.toIdle } := by
  have hfault : faultPage { s with scn := { s.scn with half := none } } = ({ s with scn := { s.scn with half := none } }, 0xFFFFFFFF) := by
    simp only [faultPage, hpage]
  rw [scanFault_eq, hfault, hdoc, endScan_of_none (s := { s with scn := { s.scn with half := none } }) hheld]
  rfl

/-- A fault in a page with lines: the page is sealed TRUNCATED, and SCAN_FAULT names it. -/
theorem scanFault_of_page {s : State} {p : Nat} (hpage : s.scn.page = some p) {doc : Nat} (hdoc : s.scn.doc = some doc)
    (hlines : s.scn.outLines ≠ 0) (f : ScanFault) :
    scanFault f s = post .scanFault .document doc f.code p
      (endScan (sealOpenPage (markTruncated p { s with scn := { s.scn with half := none } }))) := by
  have hfault : faultPage { s with scn := { s.scn with half := none } }
      = (sealOpenPage (markTruncated p { s with scn := { s.scn with half := none } }), p) := by
    simp only [faultPage, hpage]
    exact if_neg hlines
  rw [scanFault_eq, hfault, hdoc]
  rfl

/-- A line appended when the stack runs out: the page keeps the segments it was given, and the fault is STORE_FULL. -/
theorem appendLine_of_short {s : State} {p : Nat} {prof : Profile} {r : PageRec} (hpage : s.scn.page = some p)
    (hactive : s.scn.active = some prof) (hp : s.page? p = some r) {line : List Bool}
    (hshort : s.psm.stack.length < segsMore r (s.scn.streamLen + (codeLine prof.cls.dots s.scn.ref line).length)) :
    ∃ v ps a c m, appendLine line s = scanFault .storeFull v
      ∧ v = { s with psm := { s.psm with pages := ps, stack := [], lowArmed := a }, ceu := c, dram := m }
      ∧ Tab.get? ps p = some { r with chain := r.chain ++ s.psm.stack } ∧ (∀ q, q ≠ p → Tab.get? ps q = s.page? q) := by
  obtain ⟨t, ps, a, c, m1, hgive, ht, hself, hother, -, -⟩ := giveSegments_spec hp (le_refl s.psm.stack.length)
  rw [List.drop_length] at ht
  rw [List.take_length] at hself
  have hgive' : giveSegments p (segsFor (s.scn.streamLen + (codeLine prof.cls.dots s.scn.ref line).length) - r.chain.length) s
      = (t, false) := by
    rw [giveSegments_of_short hp (n := segsFor (s.scn.streamLen + (codeLine prof.cls.dots s.scn.ref line).length) - r.chain.length)
      hshort, hgive]
  have hget : t.page? p = some { r with chain := r.chain ++ s.psm.stack } := by rw [ht]; exact hself
  obtain ⟨m, hwrite, -, -⟩ := writeStream_spec (r.chain ++ s.psm.stack) s.scn.streamLen (codeLine prof.cls.dots s.scn.ref line) t
  refine ⟨{ t with dram := m }, ps, a, c, m, ?_, by rw [ht], hself, hother⟩
  simp only [appendLine, hpage, hactive, hp, Option.map_some, Option.getD_some, hgive', hget, hwrite, Bool.false_eq_true, if_false]

/-! ## A page begun (R52, R72, R84, R93) -/

theorem openDests_congr {s t : State} (hjobs : t.dju.jobs = s.dju.jobs) (hdests : t.dju.dests = s.dju.dests) (d : Nat) :
    t.openDests d = s.openDests d := by
  simp only [State.openDests, State.docOf, State.jobOf, State.job?, hjobs, hdests]

/-- The record of a page that begins. -/
def PageRec.begun (doc pos : Nat) (dir : Dir) (cls : WidthClass) (res : Resolution) : PageRec :=
  { state := .filling, doc := doc, pos := pos, dir := dir, cls := cls, res := res, lineCount := 0, codedLen := 0, chain := [],
    check := 0, scanOverrun := false, truncated := false, checkFail := false, decodeFault := false, sendHolds := 0,
    printHolds := 0, sealedTime := 0 }

/-- The lowest EMPTY page record takes the new page, and the document's list ends with it. -/
theorem startPage_spec {s : State} {d q : Nat} {doc : Doc} (hdoc : s.doc? d = some doc)
    (hfree : Tab.firstFree s.psm.pages 1024 = some q) (dir : Dir) (cls : WidthClass) (res : Resolution) :
    ∃ m, startPage d dir cls res s = some (q, { s with
        psm := { s.psm with pages := Tab.set s.psm.pages q (PageRec.begun d doc.places.length dir cls res) },
        dju := { s.dju with docs := Tab.set s.dju.docs d { doc with places := doc.places ++ [some q] } }, dram := m })
      ∧ unchangedOutside [(s.pageAddr q, 64), (s.por 0, 12), (s.docAddr d, 512)] s.dram m := by
  have hstart : startPage d dir cls res s = some (q, putDoc d { doc with places := doc.places ++ [some q] }
      (writePathStatus (putPage q (PageRec.begun d doc.places.length dir cls res) s))) := by
    unfold startPage
    generalize Tab.firstFree s.psm.pages 1024 = x at hfree
    subst hfree
    generalize s.doc? d = y at hdoc
    subst hdoc
    rfl
  have hpage : unchangedOutside [(s.pageAddr q, 64)] s.dram (putPage q (PageRec.begun d doc.places.length dir cls res) s).dram :=
    unchangedOutside_store (by simp)
  have hdoc := unchangedOutside_putDoc d { doc with places := doc.places ++ [some q] }
    (writePathStatus (putPage q (PageRec.begun d doc.places.length dir cls res) s))
  exact ⟨_, hstart, (hpage.trans (unchangedOutside_writePathStatus _)).trans hdoc⟩

theorem startPage_of_full {s : State} (h : Tab.firstFree s.psm.pages 1024 = none) (d : Nat) (dir : Dir) (cls : WidthClass)
    (res : Resolution) : startPage d dir cls res s = none := by
  unfold startPage
  generalize Tab.firstFree s.psm.pages 1024 = x at h
  subst h
  rfl

end Sys2Proof.Machine
end

section
/-! PROOFS. SCAN_TAKE_SLOT: the line for which no segment is left, the page that a slot begins, and held lapping writes (R41, R52,
R57). -/

namespace Sys2Proof.Machine

set_option Elab.async false

/-! ## A line that brings the page to its height (R54) -/

/-- The line that reaches the profile's height seals the page with it. -/
theorem takeLine_of_height {s : State} {g : RawGeom} (hg : s.rgw.rawGeom = some g) (hheld : s.smp.held = none) {p : Nat}
    {r : PageRec} (hpage : s.scn.page = some p) (hp : s.page? p = some r) {prof : Profile} (hactive : s.scn.active = some prof)
    {line : List Bool} (hline : s.slotLine prof line) {code : List Byte} (hcode : code = codeLine prof.cls.dots s.scn.ref line)
    {len more : Nat} (hlen : len = s.scn.streamLen + code.length) (hmore : more = segsMore r len) {chain : List Nat}
    (hchain : chain = r.chain ++ s.psm.stack.take more) (hroom : more ≤ s.psm.stack.length) (hnodup : chain.Nodup)
    (hheight : prof.height ≤ s.scn.outLines + 1) (hlen0 : len ≠ 0) (hfits : r.chain.length ≤ segsFor len) (hp1024 : p < 1024)
    (hkeep : s.keeps r.doc = true) (hwaits : s.noneWaits r.doc) :
    ∃ u ps a c m, takeLine prof s = u
      ∧ u = { s with
          scn := { s.lineCoded g prof line len with
                    half := none, page := none, sealedCount := s.scn.sealedCount + 1, extraPosted := false,
                    lastSealed := some (p, s.scn.outLines + 1),
                    state := if s.scn.mode = some .single then .pageFull else .betweenPages },
          psm := { s.psm with pages := ps, stack := s.psm.stack.drop more, lowArmed := a },
          dju := { s.dju with passDue := true }, ceu := c, dram := m }
      ∧ Tab.get? ps p = some { s.overrunMarked r with
          chain := chain, codedLen := len, lineCount := s.scn.outLines + 1,
          check := crc16 (u.streamBytes chain 0 len), sealedTime := s.chg.seconds,
          state := if (s.overrunMarked r).scanOverrun || (s.overrunMarked r).truncated then .damaged else .complete }
      ∧ (∀ q, q ≠ p → Tab.get? ps q = s.page? q) ∧ u.streamBytes chain s.scn.streamLen code.length = code
      ∧ unchangedOutside ((chain.map fun i => (s.segAddr i, if more = 0 then 1020 else 1024)) ++ [(s.pageAddr p, 64)]
          ++ (if more = 0 then [] else (s.por 0, 12) :: s.eventSpans)) s.dram m := by
  obtain ⟨v, ps1, a, c, m1, htake, hv, -, hself1, hother1, hbytes, hmem1⟩ :=
    takeLine_of_room hg hheld hpage hp hactive hline hcode hlen hmore hchain hroom hnodup
  obtain ⟨x, hx⟩ : ∃ x : State, x = { v with scn := { v.scn with
      state := if s.scn.mode = some .single then .pageFull else .betweenPages } } := ⟨_, rfl⟩
  have hheight' : testHeight v = sealOpenPage x := by
    rw [testHeight_of_reached (s := v) (prof := prof) (p := p) (by rw [hv]; exact hactive) (by rw [hv]; exact hpage)
      (by rw [hv]; exact hheight), hx]
    congr 3
    rw [hv]
    rfl
  have hchainLen : chain.length = segsFor len := by
    rw [hchain, List.length_append, List.length_take, Nat.min_eq_left hroom, hmore, segsMore]
    omega
  have hxlen : x.scn.streamLen = len := by rw [hx, hv]; rfl
  have hxlines : x.scn.outLines = s.scn.outLines + 1 := by rw [hx, hv]; rfl
  have hxsec : x.chg.seconds = s.chg.seconds := by rw [hx, hv]
  have hxp : x.page? p = some { s.overrunMarked r with chain := chain } := by
    rw [hx, hv]
    exact hself1
  obtain ⟨ps, m, hseal, ⟨check, hself, hcheck⟩, hother, hmem, -⟩ := sealOpenPage_of_kept (s := x) (p := p)
    (by rw [hx, hv]; exact hpage) hxp (by rw [hxlen]; exact hlen0) (by rw [hx, hv]; exact hkeep) (by rw [hx, hv]; exact hwaits)
  rw [hxlen] at hseal hcheck hmem
  rw [hxlen, hxlines, hxsec, ← hchainLen, List.take_length] at hself
  rw [hxlines, ← hchainLen, List.drop_length, List.reverse_nil, State.returned_nil] at hseal
  have hcheck := hcheck hchainLen.le
  have hmem : unchangedOutside [(s.pageAddr p, 64)] m1 m := by
    have h := hmem hchainLen.le
    rw [hx, hv] at h
    exact h
  have hu : sealOpenPage x = { s with
      scn := { s.lineCoded g prof line len with
                half := none, page := none, sealedCount := s.scn.sealedCount + 1, extraPosted := false,
                lastSealed := some (p, s.scn.outLines + 1),
                state := if s.scn.mode = some .single then .pageFull else .betweenPages },
      psm := { s.psm with pages := ps, stack := s.psm.stack.drop more, lowArmed := a },
      dju := { s.dju with passDue := true }, ceu := c, dram := m } := by
    rw [hseal, hx, hv]
    rfl
  have hxdram : x.dram = m1 := by rw [hx, hv]
  have hstreams (o n : Nat) : (sealOpenPage x).streamBytes chain o n = x.streamBytes chain o n := by
    refine streamBytes_congr (by rw [hu, hx, hv]; rfl) (fun b hb => ?_) chain o n
    rw [hxdram, hu]
    exact get_above_page hp1024 hmem (by rw [hx, hv] at hb; exact hb)
  refine ⟨_, ps, a, c, m, htake.trans hheight', hu, hself.trans ?_, fun q hq => ?_, ?_, ?_⟩
  · rw [hcheck, hstreams]
  · rw [hother q hq, hx, hv]
    exact hother1 q hq
  · rw [hstreams]
    refine streamBytes_eq_of_get fun i hi => ?_
    rw [hx, hv]
    exact hbytes i hi
  · refine (hmem1.trans hmem).of_subset (List.append_subset.2 ⟨List.append_subset.2 ⟨?_, ?_⟩, ?_⟩)
    · exact List.Subset.trans (List.subset_append_left _ _) (List.subset_append_left _ _)
    · by_cases hz : more = 0
      · rw [if_pos hz]
        refine List.Subset.trans ?_ (List.subset_append_left _ _)
        refine List.Subset.trans ?_ (List.subset_append_right _ _)
        split
        · exact List.Subset.refl _
        · exact List.nil_subset _
      · rw [if_neg hz, if_neg hz, if_neg hz]
        refine List.append_subset.2 ⟨?_, List.subset_append_right _ _⟩
        exact List.Subset.trans (List.subset_append_right _ _) (List.subset_append_left _ _)
    · exact List.Subset.trans (List.subset_append_right _ _) (List.subset_append_left _ _)

/-! ## A line for which no segment is left (R57) -/

/-- A line for which the stack runs out ends the scan: the page is sealed TRUNCATED without it, and the segments given go back. -/
theorem takeLine_of_short {s : State} {g : RawGeom} (hg : s.rgw.rawGeom = some g) (hheld : s.smp.held = none) {p : Nat}
    {r : PageRec} (hpage : s.scn.page = some p) (hp : s.page? p = some r) {prof : Profile} (hactive : s.scn.active = some prof)
    {doc : Nat} (hdoc : s.scn.doc = some doc) {line : List Bool} (hline : s.slotLine prof line) (hlines : s.scn.outLines ≠ 0)
    (hlen : s.scn.streamLen ≠ 0) (hchain : r.chain.length = segsFor s.scn.streamLen) (hkeep : s.keeps r.doc = true)
    (hwaits : s.noneWaits r.doc)
    (hshort : s.psm.stack.length < segsMore r (s.scn.streamLen + (codeLine prof.cls.dots s.scn.ref line).length)) :
    ∃ v ps a c m, takeLine prof s = post .scanFault .document doc 0 p v
      ∧ v = { s with
          rgw := { s.rgw with rawGeom := none, started := false },
          scn := { s.scn.toIdle with sealedCount := s.scn.sealedCount + 1, extraPosted := false,
                                     lastSealed := some (p, s.scn.outLines) },
          psm := { s.psm with pages := ps, stack := s.psm.stack.reverse, lowArmed := a },
          dju := { s.dju with passDue := true }, ceu := c, dram := m }
      ∧ (∃ check, Tab.get? ps p = some { s.overrunMarked r with
          truncated := true, state := .damaged, codedLen := s.scn.streamLen, lineCount := s.scn.outLines, check := check,
          sealedTime := s.chg.seconds })
      ∧ (∀ q, q ≠ p → Tab.get? ps q = s.page? q) := by
  obtain ⟨t, ps1, m1, ht, hself1, hother1, -, -, hstored⟩ := takeLine_spec hg hheld hpage hp prof
  obtain ⟨w, hw⟩ : ∃ w : State, w = { t with scn := { t.scn with half := if prof.res = Resolution.fine then s.scn.half else none } } :=
    ⟨_, rfl⟩
  have hp1 : w.page? p = some (s.overrunMarked r) := by rw [hw, ht]; exact hself1
  obtain ⟨v1, ps2, a2, c2, m2, happ, hv1, hself2, hother2⟩ := appendLine_of_short (s := w) (p := p) (prof := prof) (line := line)
    (by rw [hw, ht]; exact hpage) (by rw [hw, ht]; exact hactive) hp1 (by rw [hw, ht]; exact hshort)
  obtain ⟨y, hy⟩ : ∃ y : State, y = { v1 with scn := { v1.scn with half := none } } := ⟨_, rfl⟩
  have hyp : y.page? p = some { s.overrunMarked r with chain := r.chain ++ s.psm.stack } := by
    rw [hw, ht] at hself2
    rw [hy, hv1]
    exact hself2
  have hmark : markTruncated p y = putPage p { s.overrunMarked r with chain := r.chain ++ s.psm.stack, truncated := true } y :=
    modifyPage_of_some hyp _
  obtain ⟨x, hx⟩ : ∃ x : State, x = markTruncated p y := ⟨_, rfl⟩
  have hxframe : x = { w with
      scn := { w.scn with half := none },
      psm := { w.psm with pages := Tab.set ps2 p { s.overrunMarked r with chain := r.chain ++ s.psm.stack, truncated := true },
                          stack := [], lowArmed := a2 }, ceu := c2, dram := x.dram } := by
    rw [hx, hmark, hy, hv1]
    rfl
  have hxp : x.page? p = some { s.overrunMarked r with chain := r.chain ++ s.psm.stack, truncated := true } := by
    rw [hx, hmark]
    exact page?_putPage_self ..
  obtain ⟨ps, m, hseal, ⟨check, hself, -⟩, hother, -, -⟩ := sealOpenPage_of_kept (s := x) (p := p) (by rw [hxframe, hw, ht]; exact hpage)
    hxp (by rw [hxframe, hw, ht]; exact hlen) (by rw [hxframe, hw, ht]; exact hkeep) (by rw [hxframe, hw, ht]; exact hwaits)
  have hstream : x.scn.streamLen = s.scn.streamLen := by rw [hxframe, hw, ht]; rfl
  have houtlines : x.scn.outLines = s.scn.outLines := by rw [hxframe, hw, ht]; rfl
  have hseconds : x.chg.seconds = s.chg.seconds := by rw [hxframe, hw, ht]
  have hdrop : (r.chain ++ s.psm.stack).drop (segsFor s.scn.streamLen) = s.psm.stack := by rw [← hchain, List.drop_left]
  have htake : (r.chain ++ s.psm.stack).take (segsFor s.scn.streamLen) = r.chain := by rw [← hchain, List.take_left]
  rw [hstream, houtlines, htake, hseconds] at hself
  rw [hstream, houtlines, hdrop] at hseal
  obtain ⟨a, c, m3, hret⟩ := x.returned_spec s.psm.stack.reverse
  have hend : endScan (sealOpenPage x) = { s with
      rgw := { s.rgw with rawGeom := none, started := false },
      scn := { s.scn.toIdle with sealedCount := s.scn.sealedCount + 1, extraPosted := false,
                                 lastSealed := some (p, s.scn.outLines) },
      psm := { s.psm with pages := ps, stack := s.psm.stack.reverse, lowArmed := a },
      dju := { s.dju with passDue := true }, ceu := c, dram := m } := by
    rw [endScan_of_none (by rw [hseal, hxframe, hw, ht]; exact hheld), hseal, hret, hxframe, hw, ht, List.append_nil]
    rfl
  refine ⟨endScan (sealOpenPage x), ps, a, c, m, ?_, hend, ⟨check, hself.trans ?_⟩, fun q hq => ?_⟩
  · have hfault := scanFault_of_page (s := v1) (p := p) (by rw [hv1, hw, ht]; exact hpage) (doc := doc)
      (by rw [hv1, hw, ht]; exact hdoc) (by rw [hv1, hw, ht]; exact hlines) .storeFull
    rw [← hy, ← hx] at hfault
    rw [hstored line hline, ← hw, happ, hfault]
    refine testHeight_of_noPage ?_
    obtain ⟨c3, m3, hpost, -⟩ := post_frame .scanFault .document doc ScanFault.storeFull.code p (endScan (sealOpenPage x))
    rw [hpost, hend]
    rfl
  · simp only [Bool.or_true, if_true]
    rfl
  · rw [hother q hq, hx, hmark, page?_putPage_of_ne _ _ hq, hy, hv1]
    refine (hother2 q hq).trans ?_
    rw [hw, ht]
    exact hother1 q hq

/-! ## The page that a slot begins (R52) -/

theorem newPage_of_fullDoc {s : State} {doc : Nat} {d : Doc} (hd : s.doc? doc = some d) (h : 128 ≤ d.places.length)
    (prof : Profile) : newPage doc prof s = scanFault .docFull s := by
  have hroom : s.docHasRoom doc = false := by
    simp only [State.docHasRoom, hd]
    exact decide_eq_false (Nat.not_lt.2 h)
  rw [newPage, hroom]
  rfl

theorem docHasRoom_of_lt {s : State} {doc : Nat} {d : Doc} (hd : s.doc? doc = some d) (h : d.places.length < 128) :
    s.docHasRoom doc = true := by
  simp only [State.docHasRoom, hd]
  exact decide_eq_true h

theorem newPage_of_fullTable {s : State} {doc : Nat} {d : Doc} (hd : s.doc? doc = some d) (h : d.places.length < 128)
    (hfull : Tab.firstFree s.psm.pages 1024 = none) (prof : Profile) : newPage doc prof s = scanFault .pageTableFull s := by
  rw [newPage, docHasRoom_of_lt hd h, startPage_of_full hfull]
  rfl

theorem newPage_of_emptyStack {s : State} {doc : Nat} {d : Doc} (hd : s.doc? doc = some d) (h : d.places.length < 128) {q : Nat}
    (hfree : Tab.firstFree s.psm.pages 1024 = some q) (hstack : s.psm.stack = []) (prof : Profile) :
    newPage doc prof s = scanFault .storeFull s := by
  obtain ⟨m, hstart, -⟩ := startPage_spec hd hfree .outbound prof.cls prof.res
  rw [newPage, docHasRoom_of_lt hd h, hstart]
  simp only [giveSegment_of_empty (s := { s with
    psm := { s.psm with pages := Tab.set s.psm.pages q (PageRec.begun doc d.places.length .outbound prof.cls prof.res) },
    dju := { s.dju with docs := Tab.set s.dju.docs doc { d with places := d.places ++ [some q] } }, dram := m }) hstack]
  rfl

theorem begunSpans_subset {α : Type} (page status doc seg : α) (events : List α) :
    ([page, status, doc] ++ page :: status :: seg :: events) ++ [page] ⊆ [page, doc, seg, status] ++ events := by
  intro x hx
  simp only [List.mem_append, List.mem_cons, List.not_mem_nil, or_false] at hx ⊢
  tauto

/-- A new page takes the lowest EMPTY record, the top segment of the stack and a send hold for each destination still to send
it. -/
theorem newPage_of_room {s : State} {doc : Nat} {d : Doc} (hd : s.doc? doc = some d) (h : d.places.length < 128) {q : Nat}
    (hfree : Tab.firstFree s.psm.pages 1024 = some q) {seg : Nat} {rest : List Nat} (hstack : s.psm.stack = seg :: rest)
    (prof : Profile) :
    ∃ v ps a c m, newPage doc prof s = v
      ∧ v = { s with
          scn := { s.scn with state := .inPage, page := some q, outLines := 0, rawLines := 0, half := none,
                              ref := whiteLine prof.cls.dots, streamLen := 0 },
          psm := { s.psm with pages := ps, stack := rest, lowArmed := a },
          dju := { s.dju with docs := Tab.set s.dju.docs doc { d with places := d.places ++ [some q] } }, ceu := c, dram := m }
      ∧ Tab.get? ps q = some { PageRec.begun doc d.places.length .outbound prof.cls prof.res with
          chain := [seg], sendHolds := s.openDests doc }
      ∧ (∀ x, x ≠ q → Tab.get? ps x = s.page? x)
      ∧ unchangedOutside ([(s.pageAddr q, 64), (s.docAddr doc, 512), (s.segAddr seg + 1020, 4), (s.por 0, 12)] ++ s.eventSpans)
          s.dram m := by
  obtain ⟨m1, hstart, hmem1⟩ := startPage_spec hd hfree .outbound prof.cls prof.res
  obtain ⟨u, hu⟩ : ∃ u : State, u = { s with
      psm := { s.psm with pages := Tab.set s.psm.pages q (PageRec.begun doc d.places.length .outbound prof.cls prof.res) },
      dju := { s.dju with docs := Tab.set s.dju.docs doc { d with places := d.places ++ [some q] } }, dram := m1 } := ⟨_, rfl⟩
  rw [← hu] at hstart
  have hup : u.page? q = some (PageRec.begun doc d.places.length .outbound prof.cls prof.res) := by
    rw [hu]
    exact Tab.get?_set_self ..
  obtain ⟨t, ps1, a, c, m2, hgive, ht, hself, hother, hspans, -⟩ := giveSegment_spec (s := u) (by rw [hu]; exact hstack) hup
  have hopen : t.openDests doc = s.openDests doc := openDests_congr (by rw [ht, hu]) (by rw [ht, hu]) doc
  have htp : t.page? q = some { PageRec.begun doc d.places.length .outbound prof.cls prof.res with chain := [seg] } := by
    rw [ht]
    exact hself
  have hjoin : joinHolds doc q t = putPage q { PageRec.begun doc d.places.length .outbound prof.cls prof.res with
      chain := [seg], sendHolds := s.openDests doc } t := by
    rw [joinHolds, modifyPage_of_some htp, hopen, PageRec.begun, Nat.zero_add]
  obtain ⟨z, hz⟩ : ∃ z : State, z = putPage q { PageRec.begun doc d.places.length .outbound prof.cls prof.res with
      chain := [seg], sendHolds := s.openDests doc } t := ⟨_, rfl⟩
  have hzmem : unchangedOutside [(s.pageAddr q, 64)] m2 z.dram := by
    have hput : unchangedOutside [(t.pageAddr q, 64)] t.dram z.dram := by
      rw [hz]
      exact unchangedOutside_store (by simp)
    rw [ht, hu] at hput
    exact hput
  refine ⟨_, Tab.set ps1 q { PageRec.begun doc d.places.length .outbound prof.cls prof.res with
      chain := [seg], sendHolds := s.openDests doc }, a, c, z.dram, rfl, ?_, Tab.get?_set_self .., fun x hx => ?_, ?_⟩
  · rw [newPage, docHasRoom_of_lt hd h, hstart]
    simp only [hgive, hjoin, Bool.not_true, Bool.false_eq_true, if_false]
    rw [← hz, show z.scn = s.scn by rw [hz, ht, hu]; rfl, hz, ht, hu]
    rfl
  · rw [Tab.get?_set_of_ne _ _ hx, hother x hx, hu]
    exact Tab.get?_set_of_ne _ _ hx
  · have hgiven : unchangedOutside (u.giveSpans q [] [seg] ++ u.eventSpans) m1 m2 := by
      rw [show m1 = u.dram by rw [hu]]
      rcases hspans with ⟨-, hm⟩ | ⟨-, hm⟩
      · exact hm.of_subset (List.subset_append_left _ _)
      · exact hm
    have haddr : u.pageAddr q = s.pageAddr q ∧ u.por 0 = s.por 0 ∧ u.segAddr seg = s.segAddr seg
        ∧ u.eventSpans = s.eventSpans := by
      rw [hu]
      exact ⟨rfl, rfl, rfl, rfl⟩
    simp only [State.giveSpans, List.getLast?_nil, Option.toList_none, List.nil_append, List.map_cons, List.map_nil, haddr] at hgiven
    exact ((hmem1.trans hgiven).trans hzmem).of_subset (begunSpans_subset _ _ _ _ _)

/-! ## A held lapping write, released by the taking of its slot (R38, R41) -/

theorem releaseScanHold_smp {s : State} {h : Held} (hheld : s.smp.held = some h) {i : Nat} (hr : h.reason = .scan i)
    (hlap : s.lapping h.access.off = none) : (releaseScanHold s).smp = { s.smp with held := none } := by
  obtain ⟨y, b, c, m, heq⟩ := passWrite_frame h.access { s with smp := { s.smp with held := none } }
  rw [releaseScanHold_of_free hheld hr hlap, heq]

theorem passWrite_extraPosted (a : BusAccess) (s : State) : (passWrite a s).scn.extraPosted = s.scn.extraPosted := by
  have hreport (g : RawGeom) (j : Nat) (t : State) : (lastPixelReport g j t).scn.extraPosted = t.scn.extraPosted := by
    unfold lastPixelReport
    split
    · rfl
    · split
      · rfl
      · obtain ⟨c, m, hpost, -⟩ := post_frame .scanOrder .document (orAbsent 0 t.scn.doc) 0 j t
        rw [hpost]
  unfold passWrite rawWatch
  split
  · rfl
  · split
    · rfl
    · split
      · exact hreport ..
      · split <;> rfl

/-- The slot just taken waits no more. -/
theorem lapping_of_taken {s : State} {g : RawGeom} {off r : Nat} (hraw : s.rawSlot off = some (g, s.scn.take, r))
    (hwait : s.scn.waiting ≤ g.slots) {t : State} (hrgw : t.rgw = s.rgw) (htake : t.scn.take = (s.scn.take + 1) % g.slots)
    (hwaits : t.scn.waiting = s.scn.waiting - 1) : t.lapping off = none := by
  obtain ⟨hg, hlow, hhigh, hj, hr⟩ := State.rawSlot_iff.mp hraw
  have hlt : s.scn.take < g.slots := by
    rw [hj]
    exact Nat.div_lt_of_lt_mul (by rwa [Nat.mul_comm] at hhigh)
  have hraw' : t.rawSlot off = some (g, s.scn.take, r) := by
    rw [← hraw, State.rawSlot, State.rawSlot, State.cfg, State.cfg, hrgw]
  have hfree : t.slotWaits g s.scn.take = false := by
    rw [State.slotWaits, htake, hwaits]
    refine decide_eq_false (Nat.not_lt.2 ?_)
    rcases Nat.lt_or_ge (s.scn.take + 1) g.slots with h1 | h1
    · rw [Nat.mod_eq_of_lt h1, show s.scn.take + g.slots - (s.scn.take + 1) = g.slots - 1 by omega,
        Nat.mod_eq_of_lt (by omega)]
      omega
    · have h2 : s.scn.take + 1 = g.slots := by omega
      rw [h2, Nat.mod_self, Nat.sub_zero, Nat.add_mod_right, Nat.mod_eq_of_lt hlt]
      omega
  cases hlap : t.lapping off with
  | none => rfl
  | some j =>
    obtain ⟨-, g', r', hraw2, hwaits2⟩ := lapping_eq_some_iff.mp hlap
    rw [hraw'] at hraw2
    cases hraw2
    rw [hfree] at hwaits2
    cases hwaits2

/-- A slot that waits behind the one taken waits on. -/
theorem lapping_of_behind {s : State} {g : RawGeom} {off j r : Nat} (hrun : s.rgw.state = .run)
    (hraw : s.rawSlot off = some (g, j, r)) (hlt : s.scn.take < g.slots) (hj : j ≠ s.scn.take)
    (hwaiting : (j + g.slots - s.scn.take) % g.slots < s.scn.waiting) {t : State} (hrgw : t.rgw = s.rgw)
    (htake : t.scn.take = (s.scn.take + 1) % g.slots) (hwaits : t.scn.waiting = s.scn.waiting - 1) : t.lapping off = some j := by
  obtain ⟨hg, hlow, hhigh, hjdiv, hr⟩ := State.rawSlot_iff.mp hraw
  have hjlt : j < g.slots := by
    rw [hjdiv]
    exact Nat.div_lt_of_lt_mul (by rwa [Nat.mul_comm] at hhigh)
  have hraw' : t.rawSlot off = some (g, j, r) := by
    rw [← hraw, State.rawSlot, State.rawSlot, State.cfg, State.cfg, hrgw]
  refine lapping_eq_some_iff.mpr ⟨by rw [hrgw]; exact hrun, g, r, hraw', ?_⟩
  rw [State.slotWaits, htake, hwaits, decide_eq_true_iff]
  have hplace (x : Nat) (hx : x < g.slots) : (j + g.slots - x) % g.slots = if x ≤ j then j - x else j + g.slots - x := by
    split
    · rw [show j + g.slots - x = j - x + g.slots by omega, Nat.add_mod_right, Nat.mod_eq_of_lt (by omega)]
    · rw [Nat.mod_eq_of_lt (by omega)]
  rw [hplace _ hlt] at hwaiting
  rcases Nat.lt_or_ge (s.scn.take + 1) g.slots with h1 | h1
  · rw [Nat.mod_eq_of_lt h1, hplace _ h1]
    split at hwaiting <;> split <;> omega
  · have h2 : s.scn.take + 1 = g.slots := by omega
    rw [h2, Nat.mod_self, hplace 0 (by omega), if_pos (Nat.zero_le _)]
    rw [if_neg (by omega)] at hwaiting
    omega

theorem wanes_testHeight {w : Wane} {s0 s : State} (hw : w.scan = true) (h : Wanes w s0 s) : Wanes w s0 (testHeight s) := by
  unfold testHeight
  split
  · split
    · exact h
    · exact wanes_sealOpenPage hw (wanes_scn hw h)
  · exact h

/-- After the slot is taken, a line ends with no further change of the bus than the release of a scan hold. -/
theorem takeLine_wanes (prof : Profile) (s : State) :
    ∃ u, (∃ x m, u = { s with scn := { s.scn with rawLines := s.scn.rawLines + 1 }, psm := x, dram := m })
      ∧ Wanes ⟨true, none, none⟩ (advanceTake u) (takeLine prof s) := by
  unfold takeLine
  dsimp only
  generalize hu : (if s.scn.take ∈ s.scn.overruns then _ else s) = u
  have hmarked : ∃ x m, u = { s with psm := x, dram := m } := by
    rw [← hu]
    split
    · split
      · exact ⟨_, _, rfl⟩
      next p _ =>
        cases hp : s.page? p with
        | none => exact ⟨s.psm, s.dram, modifyPage_of_none hp _⟩
        | some r => exact ⟨_, _, modifyPage_of_some hp _⟩
    · exact ⟨_, _, rfl⟩
  obtain ⟨x, m, rfl⟩ := hmarked
  refine ⟨{ s with scn := { s.scn with rawLines := s.scn.rawLines + 1 }, psm := x, dram := m }, ⟨x, m, rfl⟩, ?_⟩
  obtain ⟨v, hv⟩ : ∃ v : State, advanceTake { s with scn := { s.scn with rawLines := s.scn.rawLines + 1 }, psm := x, dram := m } = v :=
    ⟨_, rfl⟩
  dsimp only at hv ⊢
  rw [hv]
  have h0 := Wanes.refl ⟨true, none, none⟩ v
  split
  · exact wanes_testHeight rfl (wanes_appendLine rfl h0)
  · exact wanes_scn rfl h0
  · exact wanes_testHeight rfl (wanes_appendLine rfl (wanes_scn rfl h0))

/-! ## The row (R41) -/

theorem takeSlot_of_emptyRing {s : State} (h : s.scn.waiting = 0) : takeSlot s = s := by
  unfold takeSlot
  split
  · exact if_pos (.inr h)
  · rfl

theorem extraLine_of_none {s : State} {g : RawGeom} (hg : s.rgw.rawGeom = some g) (hheld : s.smp.held = none) {p lines : Nat}
    (hsealed : s.scn.lastSealed = some (p, lines)) :
    extraLine s = if s.scn.extraPosted then { s with scn := s.slotTaken g }
      else post .extraLines .page p 0 s.scn.take { s with scn := { s.slotTaken g with extraPosted := true } } := by
  unfold extraLine
  dsimp only
  rw [advanceTake_of_none hg hheld]
  have hsealed' : (s.slotTaken g).lastSealed = some (p, lines) := hsealed
  rw [hsealed']
  rfl

theorem extraLine_of_posted {s : State} (h : (advanceTake s).scn.extraPosted = true) : extraLine s = advanceTake s := by
  unfold extraLine
  dsimp only
  split
  · exact if_pos h
  · rfl

theorem State.noneWaits_of {s : State} {d : Nat} {doc : Doc} (hd : s.doc? d = some doc) (hk : doc.keep = true)
    (h : ∀ n, (s.line n).state = .dataWait → (s.line n).doc ≠ some d) : s.keeps d = true ∧ s.noneWaits d :=
  ⟨State.keeps_of hd hk, h⟩

/-- Settles O46: the row goes to the branch that the take index, its marks and the state of the scan choose. -/
theorem scanTakeSlot : Obligations.ScanTakeSlot := by
  refine ⟨fun prof doc g s hrun hheld hactive hdoc hg hidle => ?_, fun h g r s hrun hactive hdoc hg hheld hreason hraw hwait hsize hcase hidle => ?_,
    fun h g j r s hrun hactive hdoc hg hheld hraw htake hsize hwait hvoid hidle i hreason hj hwaits => ?_,
    fun h g r s hrun hactive hdoc hg hheld hreason hraw hwait hsize hstate => ?_⟩
  · intro k taken idle fault events
    refine ⟨fun hz => ?_, fun hwait hvoid => ?_, fun hwait hvoid hfull p lines hsealed => ?_,
      fun hwait hvoid hin p r hpage hp => ?_, fun hwait hvoid hbetween hpage d hd => ?_⟩
    · rw [exec_scanTakeSlot_of_run hrun, takeSlot_of_emptyRing hz]
    · rw [exec_scanTakeSlot_of_run hrun, (takeSlot_of_waiting hactive hdoc hidle hwait).1 hvoid, advanceTake_of_none hg hheld]
      rfl
    · rw [exec_scanTakeSlot_of_run hrun, ((takeSlot_of_waiting hactive hdoc hidle hwait).2 hvoid).1 hfull,
        extraLine_of_none hg hheld hsealed]
      rfl
    · have hexec : exec .scanTakeSlot s = .next (takeLine prof s) := by
        rw [exec_scanTakeSlot_of_run hrun, ((takeSlot_of_waiting hactive hdoc hidle hwait).2 hvoid).2.1 hin]
      intro dots marked pageSpan
      refine ⟨fun hres hhalf => ?_, fun line hline => ?_⟩
      · obtain ⟨t, ps, m, ht, hself, hother, hmem, hfirst, -⟩ := takeLine_spec hg hheld hpage hp prof
        refine ⟨_, hexec.trans (congrArg Host.Outcome.next (hfirst hres hhalf)), ?_, ?_, fun q hq => ?_, ?_⟩
        · rw [ht]
          rfl
        · rw [ht]
          exact hself
        · rw [ht]
          exact hother q hq
        · rw [ht]
          refine hmem.of_subset ?_
          split
          · exact List.Subset.refl _
          · exact List.nil_subset _
      · intro code len more chain coded bytesSpan kept
        have hkept : kept r → s.keeps r.doc = true ∧ s.noneWaits r.doc := fun ⟨d, hd, hk, hn⟩ => State.noneWaits_of hd hk hn
        refine ⟨fun hroom hnodup hbelow => ?_, fun hroom hnodup hreach hlen hfits hp1024 hk => ?_,
          fun hshort hlines hlen hchain hk => ?_⟩
        · obtain ⟨v, ps, a, c, m, htake, hv, hnone, hself, hother, hbytes, hmem⟩ :=
            takeLine_of_room hg hheld hpage hp hactive hline (code := code) rfl (len := len) rfl (more := more) rfl (chain := chain) rfl hroom hnodup
          have hheight : testHeight v = v :=
            testHeight_of_below (prof := prof) (by rw [hv]; exact hactive) (by rw [hv]; exact hbelow)
          refine ⟨v, hexec.trans (congrArg Host.Outcome.next (htake.trans hheight)), ?_, ?_, ?_, fun q hq => ?_, ?_, ?_⟩
          · rw [hv]
            rfl
          · rw [hv]
            exact hnone
          · rw [hv]
            exact hself
          · rw [hv]
            exact hother q hq
          · refine streamBytes_eq_of_get fun i hi => ?_
            rw [hv]
            exact hbytes i hi
          · rw [hv]
            exact hmem
        · obtain ⟨hkeep, hwaits⟩ := hkept hk
          obtain ⟨u, ps, a, c, m, htake, hu, hself, hother, hstream, hmem⟩ := takeLine_of_height hg hheld hpage hp hactive hline
            (code := code) rfl (len := len) rfl (more := more) rfl (chain := chain) rfl hroom hnodup hreach hlen hfits hp1024 hkeep hwaits
          refine ⟨u, hexec.trans (congrArg Host.Outcome.next htake), ?_, ?_, fun q hq => ?_, hstream, ?_⟩
          · rw [hu]
            rfl
          · have hpages : u.psm.pages = ps := by rw [hu]
            exact (congrArg (fun x => Tab.get? x p) hpages).trans hself
          · rw [hu]
            exact hother q hq
          · rw [hu]
            exact hmem
        · obtain ⟨hkeep, hwaits⟩ := hkept hk
          obtain ⟨v, ps, a, c, m, htake, hv, hself, hother⟩ :=
            takeLine_of_short hg hheld hpage hp hactive hdoc hline hlines hlen hchain hkeep hwaits hshort
          refine ⟨v, hexec.trans (congrArg Host.Outcome.next htake), ?_, ?_, fun q hq => ?_⟩
          · rw [hv]
            rfl
          · rw [hv]
            exact hself
          · rw [hv]
            exact hother q hq
    · have hexec := exec_scanTakeSlot_of_run hrun
      have hbranch := ((takeSlot_of_waiting hactive hdoc hidle hwait).2 hvoid).2.2 hbetween
      have hfault (f : ScanFault) (hf : newPage doc prof s = scanFault f s) : exec .scanTakeSlot s = .next (fault f.code) := by
        rw [scanFault_of_noPage hheld hpage hdoc] at hf
        obtain ⟨c, m, hpost, -⟩ := post_frame .scanFault .document doc f.code 0xFFFFFFFF
          { s with rgw := { s.rgw with rawGeom := none, started := false }, scn := s.scn.toIdle }
        have hstate : (newPage doc prof s).scn.state ≠ .inPage := by
          rw [hf, hpost]
          exact fun h => nomatch h
        rw [hexec, hbranch, if_neg hstate, hf]
        rfl
      refine ⟨fun hfull => ?_, fun hroom hfull => ?_, fun q hroom hq hfree hbelow => ?_⟩
      · exact hfault .docFull (newPage_of_fullDoc hd hfull prof)
      · exact hfault .pageTableFull (newPage_of_fullTable hd hroom ((Tab.firstFree_eq_none_iff _ _).2 hfull) prof)
      · have hlowest := (Tab.firstFree_eq_some_iff s.psm.pages 1024 q).2 ⟨hq, hfree, hbelow⟩
        refine ⟨fun hstack => ?_, fun seg rest hstack => ?_⟩
        · exact hfault .storeFull (newPage_of_emptyStack hd hroom hlowest hstack prof)
        · obtain ⟨v, ps, a, c, m, hnew, hv, hself, hother, hmem⟩ := newPage_of_room hd hroom hlowest hstack prof
          have hvin : v.scn.state = .inPage := by rw [hv]
          have hvexec : exec .scanTakeSlot v = .next (takeLine prof v) := by
            rw [exec_scanTakeSlot_of_run (by rw [hv]; exact hrun)]
            have hv' := (takeSlot_of_waiting (s := v) (prof := prof) (doc := doc) (by rw [hv]; exact hactive)
              (by rw [hv]; exact hdoc) (by rw [hvin]; exact fun h => nomatch h) (by rw [hv]; exact hwait)).2
              (by rw [hv]; exact hvoid)
            rw [hv'.2.1 hvin]
          refine ⟨v, ?_, ?_, ?_, fun x hx => ?_, ?_, fun x hx => ?_, ?_⟩
          · rw [hvexec, hexec, hbranch, hnew, if_pos hvin]
          · rw [hv]
          · rw [hv]
            exact hself
          · rw [hv]
            exact hother x hx
          · rw [hv]
            exact Tab.get?_set_self ..
          · rw [hv]
            exact Tab.get?_set_of_ne _ _ hx
          · rw [hv]
            exact hmem
  · obtain ⟨prof, hprof⟩ := Option.isSome_iff_exists.mp hactive
    obtain ⟨doc, hdoc⟩ := Option.isSome_iff_exists.mp hdoc
    intro k taken
    have hlap := lapping_of_taken hraw hsize (t := { s with scn := s.slotTaken g }) rfl rfl rfl
    have hadvance : advanceTake s = passWrite h.access taken := by
      rw [advanceTake_eq hg, releaseScanHold_of_free (s := { s with scn := s.slotTaken g }) hheld hreason hlap]
      rfl
    have hexec : exec .scanTakeSlot s = .next (passWrite h.access taken) := by
      have hbranch := takeSlot_of_waiting hprof hdoc hidle hwait
      by_cases hvoid : s.scn.take ∈ s.scn.voids
      · rw [exec_scanTakeSlot_of_run hrun, hbranch.1 hvoid, hadvance]
      · obtain ⟨hfull, hposted⟩ := hcase.resolve_left hvoid
        rw [exec_scanTakeSlot_of_run hrun, (hbranch.2 hvoid).1 hfull, extraLine_of_posted, hadvance]
        rw [hadvance, passWrite_extraPosted]
        exact hposted
    have htakenRaw : taken.rawSlot h.access.off = some (g, k, r) := hraw
    refine ⟨storeAccess h.access taken, storesWord_storeAccess .., ?_⟩
    rw [hexec, passWrite_of_rawSlot (s := taken) hrun htakenRaw, lastPixelReport]
    have hnot : ¬(storeAccess h.access taken).slotWaits g k = true := fun hw => by
      have : taken.lapping h.access.off = some k := lapping_eq_some_iff.mpr ⟨hrun, g, r, htakenRaw, hw⟩
      rw [show taken.lapping h.access.off = none from hlap] at this
      cases this
    rw [if_neg hnot]
    have hscn : (storeAccess h.access taken).scn = taken.scn := rfl
    refine congrArg Host.Outcome.next ?_
    by_cases hr : r = g.win - 4
    · rw [if_pos hr, if_pos hr, hscn]
      by_cases hcomp : s.scn.comp = k
      · rw [if_pos hcomp, if_pos hcomp.symm, show taken.scn.waiting + 1 = s.scn.waiting from Nat.sub_add_cancel hwait]
        rfl
      · rw [if_neg hcomp, if_neg (Ne.symm hcomp)]
        obtain ⟨x, hx⟩ := Option.isSome_iff_exists.mp (show s.scn.doc.isSome by rw [hdoc]; rfl)
        rw [show taken.scn.doc = s.scn.doc from rfl, hx]
        rfl
    · rw [if_neg hr, if_neg hr]
      by_cases hstart : r < g.win - 4 ∧ s.scn.comp = k
      · rw [if_pos hstart, if_pos ⟨hstart.1, hstart.2.symm, Nat.lt_of_lt_of_le (Nat.sub_lt hwait Nat.one_pos) hsize⟩]
      · rw [if_neg hstart, if_neg fun h => hstart ⟨h.1, h.2.1.symm⟩]
  · obtain ⟨prof, hprof⟩ := Option.isSome_iff_exists.mp hactive
    obtain ⟨doc, hdoc⟩ := Option.isSome_iff_exists.mp hdoc
    rw [exec_scanTakeSlot_of_run hrun, (takeSlot_of_waiting hprof hdoc hidle hwait).1 hvoid, advanceTake_eq hg]
    have hlap := lapping_of_behind hrun hraw htake hj hwaits (t := { s with scn := s.slotTaken g }) rfl rfl rfl
    rw [releaseScanHold_of_lapping (s := { s with scn := s.slotTaken g }) hheld hreason hlap]
    rfl
  · obtain ⟨prof, hprof⟩ := Option.isSome_iff_exists.mp hactive
    obtain ⟨doc, hdoc⟩ := Option.isSome_iff_exists.mp hdoc
    have hbranch := takeSlot_of_waiting hprof hdoc (by rw [hstate]; exact fun h => nomatch h) hwait
    by_cases hvoid : s.scn.take ∈ s.scn.voids
    · refine ⟨_, exec_scanTakeSlot_of_run hrun, ?_⟩
      have hlap := lapping_of_taken hraw hsize (t := { s with scn := s.slotTaken g }) rfl rfl rfl
      rw [hbranch.1 hvoid, advanceTake_eq hg]
      exact releaseScanHold_smp (s := { s with scn := s.slotTaken g }) hheld hreason hlap
    · obtain ⟨u, ⟨x, m, hu⟩, hw⟩ := takeLine_wanes prof s
      have hlap := lapping_of_taken hraw hsize (t := { u with scn := u.slotTaken g }) (by rw [hu]) (by rw [hu]; rfl) (by rw [hu]; rfl)
      have hreleased : (advanceTake u).smp = { s.smp with held := none } := by
        rw [advanceTake_eq (g := g) (by rw [hu]; exact hg),
          releaseScanHold_smp (s := { u with scn := u.slotTaken g }) (by rw [hu]; exact hheld) hreason hlap, hu]
      refine ⟨_, exec_scanTakeSlot_of_run hrun, ?_⟩
      rw [(hbranch.2 hvoid).2.1 hstate]
      obtain hsame | ⟨y, i, hy, -⟩ := hw.hold
      · rw [hsame, hreleased]
      · rw [hreleased] at hy
        cases hy

end Sys2Proof.Machine
end

section
/-! PROOFS. END_PAGE and END_SCAN: the boundary between pages, the open page's seal, and the release of a held lapping write (R38,
R55, R56, R58). -/

namespace Sys2Proof.Machine

set_option Elab.async false

/-! ## A seal does not look at the scan (R73) -/

/-- The state with other registers of the SCN. -/
def State.withScn (s : State) (x : Scn) : State := { s with scn := x }

theorem deliverEvent_withScn (e : Event) (s : State) (x : Scn) :
    deliverEvent e (s.withScn x) = (deliverEvent e s).withScn x := by
  unfold deliverEvent
  by_cases h1 : s.ceu.withdrawnWritten = true
  · refine (if_pos h1).trans ?_
    rw [if_pos h1]
  · refine (if_neg h1).trans ?_
    rw [if_neg h1]
    by_cases h2 : (!s.ringFull && s.ceu.queue.isEmpty) = true
    · refine (if_pos h2).trans ?_
      rw [if_pos h2]
      rfl
    · refine (if_neg h2).trans ?_
      rw [if_neg h2]
      by_cases h3 : s.ceu.queue.length < s.openPlaces e.kind
      · refine (if_pos h3).trans ?_
        rw [if_pos h3]
        rfl
      · refine (if_neg h3).trans ?_
        rw [if_neg h3]
        by_cases h4 : e.kind = .withdrawn
        · refine (if_pos h4).trans ?_
          rw [if_pos h4]
          rfl
        · refine (if_neg h4).trans ?_
          rw [if_neg h4]
          rfl

theorem post_withScn (kind : EventKind) (src : SourceKind) (idx code value : Nat) (s : State) (x : Scn) :
    post kind src idx code value (s.withScn x) = (post kind src idx code value s).withScn x := by
  unfold post postTagged
  by_cases h : s.rgw.state = .pass
  · refine (if_pos h).trans ?_
    rw [if_pos h]
  · refine (if_neg h).trans ?_
    rw [if_neg h]
    exact deliverEvent_withScn ..

theorem testLowMark_withScn (s : State) (x : Scn) : testLowMark (s.withScn x) = (testLowMark s).withScn x := by
  unfold testLowMark
  by_cases h : (s.psm.lowArmed && decide (s.freeCount < s.psm.lowMark)) = true
  · refine (if_pos h).trans ?_
    rw [if_pos h]
    exact post_withScn .storeLow .path 0 0 s.freeCount { s with psm := { s.psm with lowArmed := false } } x
  · refine (if_neg h).trans ?_
    rw [if_neg h]
    by_cases h2 : (!s.psm.lowArmed && decide (s.psm.lowMark < s.freeCount)) = true
    · refine (if_pos h2).trans ?_
      rw [if_pos h2]
      rfl
    · refine (if_neg h2).trans ?_
      rw [if_neg h2]

theorem freeCountChanged_withScn (s : State) (x : Scn) : freeCountChanged (s.withScn x) = (freeCountChanged s).withScn x :=
  testLowMark_withScn (writePathStatus s) x

theorem pushSegments_withScn (segs : List Nat) (s : State) (x : Scn) :
    pushSegments segs (s.withScn x) = (pushSegments segs s).withScn x := by
  induction segs generalizing s with
  | nil => rfl
  | cons seg segs ih => exact ih (pushSegment s seg)

theorem endChain_withScn (chain : List Nat) (s : State) (x : Scn) :
    endChain chain (s.withScn x) = (endChain chain s).withScn x := by
  unfold endChain
  split <;> rfl

theorem trimPage_withScn (p lc : Nat) (s : State) (x : Scn) : trimPage p lc (s.withScn x) = (trimPage p lc s).withScn x := by
  cases hp : s.page? p with
  | none => rw [trimPage_of_none hp, trimPage_of_none (s := s.withScn x) hp]
  | some r =>
    have hp' : (s.withScn x).page? p = some r := hp
    rcases Nat.lt_or_ge (segsFor lc) r.chain.length with hlong | hshort
    · rw [trimPage_of_long hp hlong, trimPage_of_long hp' hlong, pushSegments_withScn, endChain_withScn]
      exact freeCountChanged_withScn (putPage p _ (endChain _ (pushSegments _ s))) x
    · rw [trimPage_of_short hp hshort, trimPage_of_short hp' hshort]

theorem sealRecord_withScn (p lc lines : Nat) (s : State) (x : Scn) :
    sealRecord p lc lines (s.withScn x) = (sealRecord p lc lines s).withScn x := by
  unfold sealRecord
  rw [trimPage_withScn]
  cases hp : (trimPage p lc s).page? p with
  | none => rw [modifyPage_of_none hp, modifyPage_of_none (s := (trimPage p lc s).withScn x) hp]
  | some r =>
    rw [modifyPage_of_some hp, modifyPage_of_some (s := (trimPage p lc s).withScn x) hp]
    rfl

/-! ## The boundary between pages (R55, R58) -/

/-- The marks of void slots once the command has marked the slot that was started. -/
def State.boundaryMarks (s : State) : List Nat :=
  if s.rgw.started = true ∧ s.scn.comp ∉ s.scn.voids then s.scn.voids ++ [s.scn.comp] else s.scn.voids

theorem voidStarted_eq (s : State) : voidStarted s = { s with scn := { s.scn with voids := s.boundaryMarks } } := by
  unfold voidStarted State.boundaryMarks
  split <;> rfl

theorem finishPage_of_none {s : State} (h : s.scn.page = none) : finishPage s = s := by
  unfold finishPage
  rw [h]

theorem finishPage_of_whole {s : State} {p : Nat} {prof : Profile} (hpage : s.scn.page = some p)
    (hactive : s.scn.active = some prof) (hhalf : s.scn.half = none) : finishPage s = sealOpenPage s := by
  unfold finishPage
  rw [hpage, hactive, hhalf]

/-- With no slot waiting and no page open the boundary is there already. -/
theorem toBoundary_of_noPage {s : State} (hwait : s.scn.waiting = 0) (hpage : s.scn.page = none) :
    toBoundary s = { s with scn := { s.scn with voids := s.boundaryMarks } } := by
  unfold toBoundary
  rw [hwait, voidStarted_eq]
  exact finishPage_of_none hpage

/-- With no slot waiting and no line owed the open page is sealed as it stands. -/
theorem toBoundary_of_whole {s : State} {p : Nat} {r : PageRec} {prof : Profile} (hwait : s.scn.waiting = 0)
    (hpage : s.scn.page = some p) (hactive : s.scn.active = some prof) (hhalf : s.scn.half = none) (hlen : s.scn.streamLen ≠ 0)
    (hp : s.page? p = some r) (hkeep : s.keeps r.doc = true) (hwaits : s.noneWaits r.doc) :
    toBoundary s = { sealRecord p s.scn.streamLen s.scn.outLines s with
      scn := { s.scn with voids := s.boundaryMarks, page := none, half := none, sealedCount := s.scn.sealedCount + 1,
                          lastSealed := some (p, s.scn.outLines), extraPosted := false },
      dju := { s.dju with passDue := true } } := by
  obtain ⟨x, hx⟩ : ∃ x : Scn, x = { s.scn with
      voids := s.boundaryMarks, page := none, half := none, sealedCount := s.scn.sealedCount + 1,
      lastSealed := some (p, s.scn.outLines), extraPosted := false } := ⟨_, rfl⟩
  have hseal : toBoundary s = sealPage p s.scn.streamLen s.scn.outLines (s.withScn x) := by
    unfold toBoundary
    rw [hwait, voidStarted_eq]
    refine (finishPage_of_whole (s := { s with scn := { s.scn with voids := s.boundaryMarks } }) hpage hactive hhalf).trans ?_
    rw [sealOpenPage_of_some (s := { s with scn := { s.scn with voids := s.boundaryMarks } }) hpage, hx]
    rfl
  have hdju : (sealRecord p s.scn.streamLen s.scn.outLines s).dju = s.dju := by
    obtain ⟨ps, m, heq, -⟩ := sealRecord_spec hp s.scn.streamLen s.scn.outLines
    rw [heq]
  rw [hseal, sealPage_of_kept (s := s.withScn x) hp hlen hkeep hwaits, sealRecord_withScn, ← hx, occasion, State.withScn]
  dsimp only
  rw [hdju]

/-! ## The end of the scan (R56) -/

theorem rawSlot_of_noGeom {s : State} (h : s.rgw.rawGeom = none) (off : Nat) : s.rawSlot off = none := by
  unfold State.rawSlot
  rw [h]

theorem passWrite_of_noGeom {s : State} (h : s.rgw.rawGeom = none) (a : BusAccess) : passWrite a s = storeAccess a s := by
  have : (storeAccess a s).rawSlot a.off = none := rawSlot_of_noGeom h _
  simp only [passWrite, rawWatch, this]

/-- The end of the scan releases an access held for it, whose bytes reach DRAM; another one stays held. -/
theorem endScan_of_scan {s : State} {h : Held} (hheld : s.smp.held = some h) {i : Nat} (hr : h.reason = .scan i) :
    endScan s = storeAccess h.access { s with
      smp := { s.smp with held := none }, rgw := { s.rgw with rawGeom := none, started := false }, scn := s.scn.toIdle } := by
  have hlap : ({ s with rgw := { s.rgw with rawGeom := none, started := false }, scn := s.scn.toIdle } : State).lapping h.access.off
      = none := by
    unfold State.lapping
    rw [rawSlot_of_noGeom rfl]
  exact (releaseScanHold_of_free (s := { s with rgw := { s.rgw with rawGeom := none, started := false }, scn := s.scn.toIdle })
    hheld hr hlap).trans (passWrite_of_noGeom rfl _)

theorem endScan_of_other {s : State} {h : Held} (hheld : s.smp.held = some h) (hr : ∀ i, h.reason ≠ .scan i) :
    endScan s = { s with rgw := { s.rgw with rawGeom := none, started := false }, scn := s.scn.toIdle } := by
  show releaseScanHold { s with rgw := { s.rgw with rawGeom := none, started := false }, scn := s.scn.toIdle } = _
  unfold releaseScanHold
  dsimp only
  rw [hheld]
  dsimp only
  split
  next i hi => exact absurd hi (hr i)
  · rfl

theorem endScan_frame (s : State) :
    ∃ x m, endScan s = { s with smp := x, rgw := { s.rgw with rawGeom := none, started := false }, scn := s.scn.toIdle, dram := m } := by
  cases hheld : s.smp.held with
  | none => exact ⟨_, _, endScan_of_none hheld⟩
  | some h =>
    cases hr : h.reason with
    | scan i => exact ⟨_, _, endScan_of_scan hheld hr⟩
    | _ => exact ⟨_, _, endScan_of_other hheld (fun i => by rw [hr]; exact fun e => nomatch e)⟩

/-! ## Held accesses through a command that ends pages (R38) -/

theorem advanceTake_letsGo (s : State) : s.smp.letsGo (advanceTake s).smp := by
  obtain ⟨x, y, b, c, m, heq, hgo⟩ := releaseScanHold_frame { s with scn := { s.scn with
    take := (s.scn.take + 1) % (s.rgw.rawGeom.map RawGeom.slots).getD 1, waiting := s.scn.waiting - 1,
    overruns := s.scn.overruns.erase s.scn.take, voids := s.scn.voids.erase s.scn.take } }
  have hadvance : advanceTake s = _ := heq
  rw [hadvance]
  exact hgo

theorem extraLine_letsGo (s : State) : s.smp.letsGo (extraLine s).smp := by
  have h := advanceTake_letsGo s
  unfold extraLine
  dsimp only
  split
  next p lines _ =>
    split
    · exact h
    · obtain ⟨c, m, hpost, -⟩ := post_frame .extraLines .page p 0 s.scn.take
        { advanceTake s with scn := { (advanceTake s).scn with extraPosted := true } }
      rw [hpost]
      exact h
  · exact h

theorem takeLine_letsGo (prof : Profile) (s : State) : s.smp.letsGo (takeLine prof s).smp := by
  obtain ⟨u, ⟨x, m, hu⟩, hw⟩ := takeLine_wanes prof s
  have h := (advanceTake_letsGo u).trans hw.hold
  rw [hu] at h
  exact h

theorem newPage_letsGo (doc : Nat) (prof : Profile) (s : State) : s.smp.letsGo (newPage doc prof s).smp := by
  have hfault (f : ScanFault) : s.smp.letsGo (scanFault f s).smp := (wanes_scanFault (w := ⟨true, none, none⟩) rfl (Wanes.refl _ s)).hold
  unfold newPage
  split
  · exact hfault _
  · split
    · exact hfault _
    next q s1 hstart =>
      have hsmp : s1.smp = s.smp := by
        unfold startPage at hstart
        split at hstart
        · cases hstart
          rfl
        · cases hstart
      split
      · exact hfault _
      next s2 hgive =>
        have h := (wanes_modifyPage (w := ⟨true, none, none⟩) (p := q) (f := fun r => { r with sendHolds := r.sendHolds + s2.openDests doc })
          (fun _ => rfl) (wanes_giveSegment hgive (Wanes.refl _ s1))).hold
        rw [hsmp] at h
        exact h

theorem takeSlot_letsGo (s : State) : s.smp.letsGo (takeSlot s).smp := by
  unfold takeSlot
  split
  next prof doc _ _ =>
    split
    · exact .inl rfl
    · split
      · exact advanceTake_letsGo s
      · split
        · exact extraLine_letsGo s
        · exact takeLine_letsGo prof s
        · dsimp only
          split
          · exact (newPage_letsGo doc prof s).trans (takeLine_letsGo prof _)
          · exact newPage_letsGo doc prof s
        · exact .inl rfl
  · exact .inl rfl

theorem takeSlots_letsGo (n : Nat) (s : State) : s.smp.letsGo (takeSlots n s).smp := by
  induction n generalizing s with
  | zero => exact .inl rfl
  | succ n ih => exact (takeSlot_letsGo s).trans (ih (takeSlot s))

theorem toBoundary_letsGo (s : State) : s.smp.letsGo (toBoundary s).smp := by
  have h := takeSlots_letsGo s.scn.waiting (voidStarted s)
  rw [voidStarted_eq] at h
  unfold toBoundary
  rw [voidStarted_eq]
  exact h.trans (wanes_finishPage (w := ⟨true, none, none⟩) rfl (Wanes.refl _ _)).hold

/-- At the end of the scan a lapping write is held no more, and another access is held on. -/
theorem endScan_held {s t : State} {h : Held} (hheld : s.smp.held = some h) (hgo : s.smp.letsGo t.smp) :
    (endScan t).smp = { s.smp with held := match h.reason with | .scan _ => none | _ => some h } := by
  obtain hsame | ⟨h', i, hh, hi, hgone⟩ := hgo
  · have hheld' : t.smp.held = some h := by rw [hsame]; exact hheld
    cases hr : h.reason with
    | scan i =>
      rw [endScan_of_scan hheld' hr, ← hsame]
      rfl
    | _ =>
      rw [endScan_of_other hheld' (fun i => by rw [hr]; exact fun e => nomatch e), hsame, ← hheld]
  · obtain rfl := Option.some.inj (hheld.symm.trans hh)
    rw [endScan_of_none (by rw [hgone]), hgone, hi]

/-! ## What END_PAGE and END_SCAN answer -/

theorem scanCheck_of_none {s : State} {d : Nat} (h : s.doc? d = none) : s.scanCheck d = some (Reply.path .noEntry 0) := by
  unfold State.scanCheck
  rw [h]

theorem scanCheck_of_other {s : State} {d : Nat} (hd : (s.doc? d).isSome) (h : s.scn.doc ≠ some d) :
    s.scanCheck d = some (Reply.path .wrongState 0) := by
  obtain ⟨r, hr⟩ := Option.isSome_iff_exists.mp hd
  unfold State.scanCheck
  rw [hr]
  exact if_neg h

theorem scanCheck_of_scanned {s : State} {d : Nat} (hd : (s.doc? d).isSome) (h : s.scn.doc = some d) : s.scanCheck d = none := by
  obtain ⟨r, hr⟩ := Option.isSome_iff_exists.mp hd
  unfold State.scanCheck
  rw [hr]
  exact if_pos h

theorem exec_endPage_of_readyFor {s : State} (h : s.readyFor 0x12 1 = true) :
    exec .endPage s = .next (s.answered (endPage s.headSlot s.carry).2 (endPage s.headSlot s.carry).1) := by
  rw [exec_endPage, take_of_readyFor h le_rfl]

theorem exec_endScan_of_readyFor {s : State} (h : s.readyFor 0x13 1 = true) :
    exec .endScan s = .next (s.answered (endScanCommand s.headSlot s.carry).2 (endScanCommand s.headSlot s.carry).1) := by
  rw [exec_endScan, take_of_readyFor h le_rfl]

theorem endScanCommand_of_scanned {s : State} {sl : Slot} (hd : (s.doc? (sl.num 0)).isSome) (h : s.scn.doc = some (sl.num 0)) :
    endScanCommand sl s = (endScan (toBoundary s), ⟨.done, .document, sl.num 0, (toBoundary s).scn.sealedCount⟩) := by
  unfold endScanCommand
  rw [scanCheck_of_scanned hd h]

end Sys2Proof.Machine
end

section
/-! PROOFS. A lapping write held while a scan ends: its bytes stand in the raw ring whatever the end of the scan writes elsewhere
(R38, R56). -/

namespace Sys2Proof.Machine

set_option Elab.async false

/-! ## The event tail stays in the ring (R32) -/

/-- The event tail names a place of the event ring. -/
def State.tailIn (s : State) : Prop := s.ceu.evTail < s.cfg.recCount

theorem tailIn_deliverEvent {e : Event} {s : State} (h : s.tailIn) : (deliverEvent e s).tailIn := by
  have hpos : 0 < s.cfg.recCount := Nat.lt_of_le_of_lt (Nat.zero_le _) h
  unfold deliverEvent
  split
  · exact h
  · split
    · exact Nat.mod_lt _ hpos
    · split
      · exact h
      · split <;> exact h

theorem tailIn_post {kind : EventKind} {src : SourceKind} {idx code value : Nat} {s : State} (h : s.tailIn) :
    (post kind src idx code value s).tailIn := by
  unfold post postTagged
  split
  · exact h
  · exact tailIn_deliverEvent h

theorem tailIn_freeCountChanged {s : State} (h : s.tailIn) : (freeCountChanged s).tailIn := by
  unfold freeCountChanged testLowMark
  split
  · exact tailIn_post (s := { writePathStatus s with psm := { (writePathStatus s).psm with lowArmed := false } }) h
  · split <;> exact h

theorem tailIn_giveSegment {p : Nat} {s t : State} (hg : giveSegment p s = some t) (h : s.tailIn) : t.tailIn := by
  unfold giveSegment at hg
  split at hg
  · cases hg
    refine tailIn_freeCountChanged ?_
    split <;> exact h
  · cases hg

theorem tailIn_giveSegments {p n : Nat} {s : State} (h : s.tailIn) : (giveSegments p n s).1.tailIn := by
  induction n generalizing s with
  | zero => exact h
  | succ n ih =>
    rw [giveSegments]
    split
    · exact h
    next t hg => exact ih (tailIn_giveSegment hg h)

theorem tailIn_returned {back : List Nat} {s : State} (h : s.tailIn) : (s.returned back).ceu.evTail < s.cfg.recCount := by
  unfold State.returned
  split
  · exact h
  · obtain ⟨a, c, m, heq, -⟩ := freeCountChanged_frame { s with psm := { s.psm with stack := back ++ s.psm.stack } }
    have ht := tailIn_freeCountChanged (s := { s with psm := { s.psm with stack := back ++ s.psm.stack } }) h
    rw [State.tailIn, heq] at ht
    rw [heq]
    exact ht

/-! ## What the end of a page writes lies apart from the raw ring (R7) -/

/-- A span of DRAM in the part-owned region or in the event ring. -/
def Anchor.keepsIn (a : Anchor) (x : Nat × Nat) : Prop :=
  (a.porBase ≤ x.1 ∧ x.1 + x.2 ≤ a.porBase + a.porSize) ∨ (a.evBase ≤ x.1 ∧ x.1 + x.2 ≤ a.evBase + (64 + 16 * a.recCount))

theorem Anchor.passed_porSize {a : Anchor} {w : Nat} (h : a.passed w = true) : 1048576 + 1024 * a.segCount ≤ a.porSize := by
  simp only [Anchor.passed, Anchor.porOk, Bool.and_eq_true, decide_eq_true_eq] at h
  omega

theorem keepsIn_eventSpans {s : State} (h : s.tailIn) : ∀ x ∈ s.eventSpans, s.cfg.keepsIn x := by
  intro x hx
  unfold State.tailIn at h
  simp only [State.eventSpans, List.mem_cons, List.not_mem_nil, or_false] at hx
  right
  rcases hx with rfl | rfl
  · exact ⟨by simp only; omega, by simp only; omega⟩
  · exact ⟨by simp only; omega, by simp only; omega⟩

section

variable {w : Nat} {s : State} (hpass : s.cfg.passed w = true)
include hpass

theorem keepsIn_por {o n : Nat} (h : o + n ≤ 1048576) : s.cfg.keepsIn (s.por o, n) := by
  have hsize := Anchor.passed_porSize hpass
  left
  simp only [State.por]
  omega

theorem keepsIn_seg {i o n : Nat} (hi : i < s.cfg.segCount) (h : o + n ≤ 1024) : s.cfg.keepsIn (s.segAddr i + o, n) := by
  have hsize := Anchor.passed_porSize hpass
  left
  simp only [State.segAddr, State.por]
  omega

theorem keepsIn_giveSpans {p : Nat} (hp : p < 1024) {chain segs : List Nat} (hc : ∀ i ∈ chain, i < s.cfg.segCount)
    (hs : ∀ i ∈ segs, i < s.cfg.segCount) : ∀ x ∈ s.giveSpans p chain segs, s.cfg.keepsIn x := by
  intro x hx
  simp only [State.giveSpans, List.mem_cons, List.mem_map, List.mem_append, Option.mem_toList] at hx
  rcases hx with rfl | rfl | ⟨i, hi, rfl⟩
  · exact keepsIn_por hpass (by omega)
  · exact keepsIn_por hpass (by omega)
  · refine keepsIn_seg hpass ?_ (by omega)
    rcases hi with hi | hi
    · exact hc i (List.mem_of_getLast? hi)
    · exact hs i hi

theorem keepsIn_closeSpans {p : Nat} (hp : p < 1024) {chain : List Nat} (hc : ∀ i ∈ chain, i < s.cfg.segCount)
    (hlen : s.psm.stack.length + chain.length ≤ 32768) (htail : s.tailIn) : ∀ x ∈ s.closeSpans p chain, s.cfg.keepsIn x := by
  intro x hx
  simp only [State.closeSpans, List.mem_append, List.mem_cons, List.not_mem_nil, or_false, List.mem_map, List.mem_range] at hx
  rcases hx with (((rfl | rfl) | hx) | ⟨i, hi, rfl⟩) | ⟨i, hi, rfl⟩
  · exact keepsIn_por hpass (by omega)
  · exact keepsIn_por hpass (by omega)
  · exact keepsIn_eventSpans htail x hx
  · exact keepsIn_seg hpass (hc i hi) (by omega)
  · refine keepsIn_por hpass ?_
    simp only [State.freeCount]
    omega

end

/-! ## The held write (R38) -/

/-- State `t` as the scan ends: the write that was held in `s` is held on, its word as it was, or its bytes stand in DRAM. -/
structure Lapsed (h : Held) (s t : State) : Prop where
  copy : t.rgw.copy = s.rgw.copy
  tail : t.tailIn
  word : (t.smp.held = some h ∧ ∀ i, i < 4 → Mem.get t.dram (h.access.off + i) = Mem.get s.dram (h.access.off + i))
    ∨ (t.smp.held = none ∧ ∀ i, i < 4 → Mem.get t.dram (h.access.off + i)
        = s.byteAfter h.access.off i h.access.data h.access.be)

/-- The word that the held access writes lies in the raw ring of a map that passed. -/
structure RawWord (h : Held) (s : State) : Prop where
  passed : s.cfg.passed s.windowBytes = true
  low : s.cfg.rawBase ≤ h.access.off
  high : h.access.off + 4 ≤ s.cfg.rawBase + s.cfg.rawSize
  reason : ∃ j, h.reason = .scan j

section

variable {h : Held} {s t u : State}

theorem Lapsed.cfg (l : Lapsed h s t) : t.cfg = s.cfg := by
  rw [State.cfg, State.cfg, l.copy]

theorem Lapsed.cfg_passed (l : Lapsed h s t) (hw : RawWord h s) : t.cfg.passed s.windowBytes = true := by
  rw [l.cfg]
  exact hw.passed

/-- A change outside the raw ring that leaves the bus alone. -/
theorem Lapsed.outside (l : Lapsed h s t) (hw : RawWord h s) (hcopy : u.rgw.copy = t.rgw.copy) (hsmp : u.smp = t.smp)
    (htail : u.tailIn) {sp : List (Nat × Nat)} (hin : ∀ x ∈ sp, t.cfg.keepsIn x) (hmem : unchangedOutside sp t.dram u.dram) :
    Lapsed h s u := by
  obtain ⟨-, -, -, hev, hpor⟩ := Anchor.passed_rawApart hw.passed
  have hlow := hw.low
  have hhigh := hw.high
  have hsame : ∀ i, i < 4 → Mem.get u.dram (h.access.off + i) = Mem.get t.dram (h.access.off + i) := fun i hi => by
    refine hmem _ fun x hx => ?_
    have hk := hin x hx
    rw [l.cfg, Anchor.keepsIn] at hk
    rw [within_eq_false_iff]
    omega
  refine ⟨hcopy.trans l.copy, htail, ?_⟩
  rcases l.word with ⟨hheld, hbytes⟩ | ⟨hheld, hbytes⟩
  · exact .inl ⟨by rw [hsmp, hheld], fun i hi => (hsame i hi).trans (hbytes i hi)⟩
  · exact .inr ⟨by rw [hsmp, hheld], fun i hi => (hsame i hi).trans (hbytes i hi)⟩

/-- A change of registers alone. -/
theorem Lapsed.registers (l : Lapsed h s t) (hcopy : u.rgw.copy = t.rgw.copy) (hsmp : u.smp = t.smp) (hceu : u.ceu = t.ceu)
    (hdram : u.dram = t.dram) : Lapsed h s u := by
  refine ⟨hcopy.trans l.copy, ?_, ?_⟩
  · have ht := l.tail
    rw [State.tailIn, State.cfg] at ht ⊢
    rw [hceu, hcopy]
    exact ht
  · rw [hsmp, hdram]
    exact l.word

theorem lapsed_post {kind : EventKind} {src : SourceKind} {idx code value : Nat} (l : Lapsed h s t) (hw : RawWord h s) :
    Lapsed h s (post kind src idx code value t) := by
  obtain ⟨c, m, heq, hmem⟩ := post_frame kind src idx code value t
  have htail := tailIn_post (kind := kind) (src := src) (idx := idx) (code := code) (value := value) l.tail
  refine l.outside hw ?_ ?_ htail (keepsIn_eventSpans l.tail) ?_
  · rw [heq]
  · rw [heq]
  · rw [heq]
    exact hmem

/-- The registers of the scan that a passing write moves. -/
theorem passWrite_scn (a : BusAccess) (s : State) :
    ∃ cmp n, (passWrite a s).scn = { s.scn with comp := cmp, waiting := n } := by
  have hreport (g : RawGeom) (j : Nat) (t : State) : ∃ cmp n, (lastPixelReport g j t).scn = { t.scn with comp := cmp, waiting := n } := by
    unfold lastPixelReport
    split
    · exact ⟨_, _, rfl⟩
    · split
      · exact ⟨_, _, rfl⟩
      · obtain ⟨c, m, hpost, -⟩ := post_frame .scanOrder .document (orAbsent 0 t.scn.doc) 0 j t
        exact ⟨t.scn.comp, t.scn.waiting, by rw [hpost]⟩
  unfold passWrite rawWatch
  split
  · exact ⟨_, _, rfl⟩
  · split
    · exact ⟨_, _, rfl⟩
    · split
      · exact hreport _ _ (storeAccess a s)
      · split <;> exact ⟨_, _, rfl⟩

/-- The held write goes ahead. -/
theorem lapsed_passWrite (l : Lapsed h s t) (hw : RawWord h s) (hheld : t.smp.held = some h) :
    Lapsed h s (passWrite h.access { t with smp := { t.smp with held := none } }) := by
  have hbytes : ∀ i, i < 4 → Mem.get t.dram (h.access.off + i) = Mem.get s.dram (h.access.off + i) := by
    rcases l.word with ⟨-, hb⟩ | ⟨hnone, -⟩
    · exact hb
    · rw [hheld] at hnone
      cases hnone
  obtain ⟨v, hv⟩ : ∃ v, v = storeAccess h.access { t with smp := { t.smp with held := none } } := ⟨_, rfl⟩
  have hstores := storesWord_storeAccess h.access.isWrite h.access.off h.access.data h.access.be
    { t with smp := { t.smp with held := none } }
  have lv : Lapsed h s v := by
    refine ⟨by rw [hv]; exact l.copy, by rw [hv]; exact l.tail, .inr ⟨by rw [hv]; rfl, fun i hi => ?_⟩⟩
    rw [hv, hstores.2.1 i hi, State.byteAfter, State.byteAfter]
    split
    · rfl
    · exact hbytes i hi
  have hreport (g : RawGeom) (j : Nat) : Lapsed h s (lastPixelReport g j v) := by
    unfold lastPixelReport
    split
    · exact lv
    · split
      · exact lv.registers rfl rfl rfl rfl
      · exact lapsed_post lv hw
  unfold passWrite rawWatch
  dsimp only
  rw [← hv]
  split
  · exact lv
  · split
    · exact lv
    · split
      · exact hreport _ _
      · split
        · exact lv.registers rfl rfl rfl rfl
        · exact lv

theorem lapsed_releaseScanHold (l : Lapsed h s t) (hw : RawWord h s) : Lapsed h s (releaseScanHold t) := by
  rcases l.word with ⟨hheld, -⟩ | ⟨hheld, -⟩
  · obtain ⟨j, hj⟩ := hw.reason
    cases hlap : t.lapping h.access.off with
    | some k => rwa [releaseScanHold_of_lapping hheld hj hlap]
    | none =>
      rw [releaseScanHold_of_free hheld hj hlap]
      exact lapsed_passWrite l hw hheld
  · rwa [releaseScanHold_of_none hheld]

theorem lapsed_advanceTake (l : Lapsed h s t) (hw : RawWord h s) : Lapsed h s (advanceTake t) :=
  lapsed_releaseScanHold (l.registers rfl rfl rfl rfl) hw

/-- The registers of the scan that the taking of a slot leaves alone. -/
theorem advanceTake_scn (t : State) : ∃ k cmp n o v,
    (advanceTake t).scn = { t.scn with take := k, comp := cmp, waiting := n, overruns := o, voids := v } := by
  unfold advanceTake releaseScanHold
  dsimp only
  split
  next h _ =>
    split
    · split
      · obtain ⟨cmp, n, heq⟩ := passWrite_scn h.access { t with
          smp := { t.smp with held := none }
          scn := { t.scn with take := (t.scn.take + 1) % (t.rgw.rawGeom.map RawGeom.slots).getD 1, waiting := t.scn.waiting - 1,
                              overruns := t.scn.overruns.erase t.scn.take, voids := t.scn.voids.erase t.scn.take } }
        exact ⟨_, cmp, n, _, _, heq⟩
      · exact ⟨_, _, _, _, _, rfl⟩
    · exact ⟨_, _, _, _, _, rfl⟩
  · exact ⟨_, _, _, _, _, rfl⟩

/-- The end of the scan lets the write go, if it has not gone before. -/
theorem lapsed_endScan (l : Lapsed h s t) (hw : RawWord h s) :
    ∀ i, i < 4 → Mem.get (endScan t).dram (h.access.off + i) = s.byteAfter h.access.off i h.access.data h.access.be := by
  have lend : Lapsed h s (endScan t) := lapsed_releaseScanHold (l.registers rfl rfl rfl rfl) hw
  rcases lend.word with ⟨hheld, -⟩ | ⟨-, hbytes⟩
  · exfalso
    obtain ⟨j, hj⟩ := hw.reason
    rcases l.word with ⟨hheld', -⟩ | ⟨hheld', -⟩
    · rw [endScan_of_scan hheld' hj] at hheld
      cases hheld
    · rw [endScan_of_none hheld'] at hheld
      exact nomatch hheld'.symm.trans hheld
  · exact hbytes

end

/-! ## The page that ends (R58, R73, R76, R77) -/

/-- State `t` as the scan of document `d` ends, with its page `p`: what the seal of the page needs, beside the held write. -/
structure Sealing (h : Held) (d p : Nat) (s t : State) : Prop where
  lapsed : Lapsed h s t
  doc : ∃ doc, t.doc? d = some doc ∧ doc.keep = true
  waits : t.noneWaits d
  page : ∀ r, t.page? p = some r → r.doc = d ∧ (∀ g ∈ t.psm.stack ++ r.chain, g < t.cfg.segCount)
    ∧ t.psm.stack.length + r.chain.length ≤ 32768
  scan : t.scn.page = none ∨ (t.scn.page = some p ∧ t.scn.doc = some d)

section

variable {h : Held} {d p : Nat} {s t u : State}

/-- A step that leaves the documents and the lines alone. -/
theorem Sealing.step (e : Sealing h d p s t) (lu : Lapsed h s u) (hdocs : u.dju.docs = t.dju.docs) (hlne : u.lne = t.lne)
    (hpage : ∀ r, u.page? p = some r → r.doc = d ∧ (∀ g ∈ u.psm.stack ++ r.chain, g < u.cfg.segCount)
      ∧ u.psm.stack.length + r.chain.length ≤ 32768)
    (hscan : u.scn.page = none ∨ (u.scn.page = some p ∧ u.scn.doc = some d)) : Sealing h d p s u := by
  refine ⟨lu, ?_, fun n => ?_, hpage, hscan⟩
  · rw [State.doc?, hdocs]
    exact e.doc
  · rw [State.line, hlne]
    exact e.waits n

/-- A step of the bus, the CEU and the scan alone. -/
theorem Sealing.apart (e : Sealing h d p s t) (lu : Lapsed h s u) (hdju : u.dju = t.dju) (hlne : u.lne = t.lne)
    (hpsm : u.psm = t.psm) (hscan : u.scn.page = none ∨ (u.scn.page = some p ∧ u.scn.doc = some d)) : Sealing h d p s u := by
  refine e.step lu (by rw [hdju]) hlne (fun r hr => ?_) hscan
  rw [State.page?, hpsm] at hr
  rw [hpsm, lu.cfg, ← e.lapsed.cfg]
  exact e.page r hr

theorem sealing_scn (e : Sealing h d p s t) {x : Scn} (hscan : x.page = none ∨ (x.page = some p ∧ x.doc = some d)) :
    Sealing h d p s { t with scn := x } :=
  e.apart (e.lapsed.registers rfl rfl rfl rfl) rfl rfl rfl hscan

theorem sealing_post {kind : EventKind} {src : SourceKind} {idx code value : Nat} (e : Sealing h d p s t) (hw : RawWord h s) :
    Sealing h d p s (post kind src idx code value t) := by
  have l := lapsed_post (kind := kind) (src := src) (idx := idx) (code := code) (value := value) e.lapsed hw
  obtain ⟨c, m, heq, -⟩ := post_frame kind src idx code value t
  rw [heq] at l ⊢
  exact e.apart l rfl rfl rfl e.scan

theorem sealing_advanceTake (e : Sealing h d p s t) (hw : RawWord h s) : Sealing h d p s (advanceTake t) := by
  obtain ⟨x, y, b, c, m, heq, -⟩ := releaseScanHold_frame { t with scn := { t.scn with
    take := (t.scn.take + 1) % (t.rgw.rawGeom.map RawGeom.slots).getD 1, waiting := t.scn.waiting - 1,
    overruns := t.scn.overruns.erase t.scn.take, voids := t.scn.voids.erase t.scn.take } }
  have hadvance : advanceTake t = _ := heq
  obtain ⟨k, cmp, n, o, v, hscn⟩ := advanceTake_scn t
  refine e.apart (lapsed_advanceTake e.lapsed hw) ?_ ?_ ?_ ?_
  · rw [hadvance]
  · rw [hadvance]
  · rw [hadvance]
  · rw [hscn]
    exact e.scan

theorem sealing_modifyPage {f : PageRec → PageRec} (hf : ∀ r, (f r).doc = r.doc ∧ (f r).chain = r.chain) (hp : p < 1024)
    (e : Sealing h d p s t) (hw : RawWord h s) : Sealing h d p s (modifyPage p f t) := by
  cases hr : t.page? p with
  | none => rwa [modifyPage_of_none hr]
  | some r =>
    rw [modifyPage_of_some hr]
    obtain ⟨hdoc, hsegs, hlen⟩ := e.page r hr
    have hmem : unchangedOutside [(t.pageAddr p, 64)] t.dram (putPage p (f r) t).dram := unchangedOutside_store (by simp)
    have l : Lapsed h s (putPage p (f r) t) := e.lapsed.outside hw rfl rfl e.lapsed.tail (fun x hx => by
      obtain rfl := List.mem_singleton.1 hx
      exact keepsIn_por (e.lapsed.cfg_passed hw) (by omega)) hmem
    refine e.step l rfl rfl (fun r' hr' => ?_) e.scan
    rw [page?_putPage_self] at hr'
    obtain rfl := Option.some.inj hr'
    rw [(hf r).1, (hf r).2]
    exact ⟨hdoc, hsegs, hlen⟩

theorem sealing_giveSegments (hp : p < 1024) (n : Nat) (e : Sealing h d p s t) (hw : RawWord h s) :
    Sealing h d p s (giveSegments p n t).1 := by
  cases hr : t.page? p with
  | none =>
    have hnone (x : State) (hx : x.page? p = none) : giveSegment p x = none := by
      unfold giveSegment
      rw [hx]
      cases x.psm.stack <;> rfl
    cases n with
    | zero => exact e
    | succ n =>
      rw [giveSegments, hnone t hr]
      exact e
  | some r =>
    obtain ⟨hdoc, hsegs, hlen⟩ := e.page r hr
    have hchain : ∀ g ∈ r.chain, g < t.cfg.segCount := fun g hg => hsegs g (List.mem_append_right _ hg)
    have hgiven (n : Nat) (hn : n ≤ t.psm.stack.length) : Sealing h d p s (giveSegments p n t).1 := by
      obtain ⟨v, ps, a, c, m, hgive, hv, hself, -, hmem, -⟩ := giveSegments_spec hr hn
      have htail := tailIn_giveSegments (p := p) (n := n) e.lapsed.tail
      rw [hgive] at htail ⊢
      have hstack : ∀ g ∈ t.psm.stack.take n, g < t.cfg.segCount := fun g hg => hsegs g (List.mem_append_left _ (List.mem_of_mem_take hg))
      have l : Lapsed h s v := e.lapsed.outside hw (by rw [hv]) (by rw [hv]) htail (fun x hx => by
        rcases List.mem_append.1 hx with hx | hx
        · exact keepsIn_giveSpans (e.lapsed.cfg_passed hw) hp hchain hstack x hx
        · exact keepsIn_eventSpans e.lapsed.tail x hx) (by rw [hv]; exact hmem)
      refine e.step l (by rw [hv]) (by rw [hv]) (fun r' hr' => ?_) (by rw [hv]; exact e.scan)
      rw [hv] at hr'
      obtain rfl := Option.some.inj (hself.symm.trans hr')
      rw [l.cfg, ← e.lapsed.cfg, hv]
      refine ⟨hdoc, fun g hg => ?_, ?_⟩
      · rcases List.mem_append.1 hg with hg | hg
        · exact hsegs g (List.mem_append_left _ (List.mem_of_mem_drop hg))
        · rcases List.mem_append.1 hg with hg | hg
          · exact hchain g hg
          · exact hstack g hg
      · simp only [List.length_append, List.length_drop, List.length_take]
        omega
    rcases Nat.lt_or_ge t.psm.stack.length n with hshort | hroom
    · rw [giveSegments_of_short hr hshort]
      exact hgiven _ le_rfl
    · exact hgiven n hroom

theorem sealing_writeStream {chain : List Nat} (hchain : ∀ g ∈ chain, g < t.cfg.segCount) (o : Nat) (bs : List Byte)
    (e : Sealing h d p s t) (hw : RawWord h s) : Sealing h d p s (writeStream chain o bs t) := by
  obtain ⟨m, heq, hmem, -⟩ := writeStream_spec chain o bs t
  rw [heq]
  refine e.apart (u := { t with dram := m }) (e.lapsed.outside hw rfl rfl e.lapsed.tail (fun x hx => ?_) hmem) rfl rfl rfl e.scan
  obtain ⟨g, hg, rfl⟩ := List.mem_map.1 hx
  exact keepsIn_seg (o := 0) (e.lapsed.cfg_passed hw) (hchain g hg) (by omega)

theorem sealing_giveUpPage (hp : p < 1024) (hd : d < 256) (e : Sealing h d p s t) (hw : RawWord h s) (hscan : t.scn.page = none) :
    Sealing h d p s (giveUpPage d p t) := by
  obtain ⟨doc, hdoc, hkeep⟩ := e.doc
  cases hr : t.page? p with
  | none =>
    have hsame : giveUpPage d p t = t := by
      have habandon : abandonPage p t = t := by
        unfold abandonPage
        rw [hr]
      rw [giveUpPage, habandon, recheckLines_of_noneWaits e.waits]
    rwa [hsame]
  | some r =>
    obtain ⟨hrd, hsegs, hlen⟩ := e.page r hr
    obtain ⟨m, heq, hstack, hmem⟩ := giveUpPage_spec hr (doc := doc) (by rw [hrd]; exact hdoc) (by rw [hrd]; exact e.waits)
    rw [hrd] at heq hmem
    have hchain : ∀ g ∈ r.chain, g < t.cfg.segCount := fun g hg => hsegs g (List.mem_append_right _ hg)
    have l : Lapsed h s (giveUpPage d p t) := e.lapsed.outside hw (by rw [heq]) (by rw [heq])
      (by rw [heq]; exact tailIn_returned e.lapsed.tail) (fun x hx => by
        rcases List.mem_cons.1 hx with rfl | hx
        · exact keepsIn_por (o := 0x89000 + 512 * d) (n := 512) (e.lapsed.cfg_passed hw) (by omega)
        · exact keepsIn_closeSpans (e.lapsed.cfg_passed hw) hp hchain hlen e.lapsed.tail x (freeSpans_subset _ _ _ hx))
      (by rw [heq]; exact hmem)
    refine ⟨l, ?_, ?_, fun r' hr' => ?_, .inl (by rw [heq]; exact hscan)⟩
    · rw [heq]
      exact ⟨_, Tab.get?_set_self .., hkeep⟩
    · rw [heq]
      exact e.waits
    · rw [heq] at hr'
      have hgone : Tab.get? (Tab.erase t.psm.pages p) p = some r' := hr'
      rw [Tab.get?_erase, if_pos rfl] at hgone
      cases hgone

theorem sealing_sealPage (hp : p < 1024) (hd : d < 256) {lc lines : Nat} (e : Sealing h d p s t) (hw : RawWord h s)
    (hscan : t.scn.page = none) : Sealing h d p s (sealPage p lc lines t) := by
  obtain ⟨doc, hdoc, hkeep⟩ := e.doc
  cases hr : t.page? p with
  | none => rwa [sealPage_of_none hr]
  | some r =>
    obtain ⟨hrd, hsegs, hlen⟩ := e.page r hr
    by_cases hlc : lc = 0
    · have hgive : sealPage p lc lines t = giveUpPage d p t := by
        simp only [sealPage, hr]
        rw [if_pos hlc, hrd]
      rw [hgive]
      exact sealing_giveUpPage hp hd e hw hscan
    · have hseal := sealPage_of_kept hr hlc (by rw [hrd]; exact State.keeps_of hdoc hkeep) (by rw [hrd]; exact e.waits) lines
      obtain ⟨ps, m, heq, ⟨check, hself, -⟩, -, -, hmem⟩ := sealRecord_spec hr lc lines
      obtain ⟨a, c, m', hret⟩ := t.returned_spec (r.chain.drop (segsFor lc)).reverse
      have hchain : ∀ g ∈ r.chain, g < t.cfg.segCount := fun g hg => hsegs g (List.mem_append_right _ hg)
      have htail := tailIn_returned (back := (r.chain.drop (segsFor lc)).reverse) e.lapsed.tail
      have l : Lapsed h s (sealPage p lc lines t) := e.lapsed.outside hw (by rw [hseal, occasion, heq]) (by rw [hseal, occasion, heq])
        (by rw [hseal, occasion, heq]; exact htail)
        (keepsIn_closeSpans (e.lapsed.cfg_passed hw) hp hchain hlen e.lapsed.tail) (by rw [hseal, occasion, heq]; exact hmem)
      refine e.step l (by rw [hseal, occasion, heq]) (by rw [hseal, occasion, heq]) (fun r' hr' => ?_)
        (.inl (by rw [hseal, occasion, heq]; exact hscan))
      rw [hseal, occasion, heq] at hr'
      obtain rfl := Option.some.inj (hself.symm.trans hr')
      rw [l.cfg, ← e.lapsed.cfg, hseal, occasion, heq, hret]
      refine ⟨hrd, fun g hg => hsegs g ?_, ?_⟩
      · simp only [List.mem_append, List.mem_reverse] at hg ⊢
        rcases hg with (hg | hg) | hg
        · exact .inr (List.mem_of_mem_drop hg)
        · exact .inl hg
        · exact .inr (List.mem_of_mem_take hg)
      · simp only [List.length_append, List.length_reverse, List.length_drop, List.length_take]
        omega

theorem sealing_sealOpenPage (hp : p < 1024) (hd : d < 256) (e : Sealing h d p s t) (hw : RawWord h s) :
    Sealing h d p s (sealOpenPage t) := by
  rcases e.scan with hnone | ⟨hpage, -⟩
  · have : sealOpenPage t = t := by
      unfold sealOpenPage
      rw [hnone]
    rwa [this]
  · rw [sealOpenPage_of_some hpage]
    exact sealing_sealPage hp hd (sealing_scn e (.inl rfl)) hw rfl

theorem sealing_faultPage (hp : p < 1024) (hd : d < 256) (e : Sealing h d p s t) (hw : RawWord h s) :
    Sealing h d p s (faultPage t).1 := by
  unfold faultPage
  split
  · exact e
  next q hq =>
    rcases e.scan with hnone | ⟨hpage, hdoc⟩
    · rw [hnone] at hq
      cases hq
    · obtain rfl := Option.some.inj (hpage.symm.trans hq)
      rw [hdoc]
      split
      · dsimp only [orAbsent, Option.getD]
        exact sealing_giveUpPage hp hd (sealing_scn e (.inl rfl)) hw rfl
      · exact sealing_sealOpenPage hp hd (sealing_modifyPage (fun _ => ⟨rfl, rfl⟩) hp e hw) hw

theorem sealing_endScan (e : Sealing h d p s t) (hw : RawWord h s) : Sealing h d p s (endScan t) := by
  have l : Lapsed h s (endScan t) := lapsed_releaseScanHold (e.lapsed.registers rfl rfl rfl rfl) hw
  obtain ⟨x, m, heq⟩ := endScan_frame t
  rw [heq] at l ⊢
  exact e.apart l rfl rfl rfl (.inl rfl)

theorem sealing_scanFault (hp : p < 1024) (hd : d < 256) {f : ScanFault} (e : Sealing h d p s t) (hw : RawWord h s) :
    Sealing h d p s (scanFault f t) :=
  sealing_post (sealing_endScan (sealing_faultPage hp hd (sealing_scn e e.scan) hw) hw) hw

theorem sealing_appendLine (hp : p < 1024) (hd : d < 256) (dots : List Bool) (e : Sealing h d p s t) (hw : RawWord h s) :
    Sealing h d p s (appendLine dots t) := by
  unfold appendLine
  split
  next q prof hq _ =>
    rcases e.scan with hnone | ⟨hpage, hdoc⟩
    · rw [hnone] at hq
      cases hq
    · obtain rfl := Option.some.inj (hpage.symm.trans hq)
      dsimp only
      generalize hg : giveSegments p _ t = g
      have hgive : Sealing h d p s g.1 := hg ▸ sealing_giveSegments hp _ e hw
      have hchain : ∀ x ∈ ((g.1.page? p).map PageRec.chain).getD [], x < g.1.cfg.segCount := fun x hx => by
        cases hr : g.1.page? p with
        | none =>
          rw [hr] at hx
          cases hx
        | some r =>
          rw [hr] at hx
          exact (hgive.page r hr).2.1 x (List.mem_append_right _ hx)
      have hwrite := sealing_writeStream hchain t.scn.streamLen (codeLine prof.cls.dots t.scn.ref dots) hgive hw
      split
      · exact sealing_scn hwrite hwrite.scan
      · exact sealing_scanFault hp hd hwrite hw
  · exact e

theorem sealing_testHeight (hp : p < 1024) (hd : d < 256) (e : Sealing h d p s t) (hw : RawWord h s) :
    Sealing h d p s (testHeight t) := by
  unfold testHeight
  split
  · split
    · exact e
    · exact sealing_sealOpenPage hp hd (sealing_scn e e.scan) hw
  · exact e

theorem sealing_takeLine (hp : p < 1024) (hd : d < 256) (prof : Profile) (e : Sealing h d p s t) (hw : RawWord h s) :
    Sealing h d p s (takeLine prof t) := by
  unfold takeLine
  dsimp only
  generalize hu : (if t.scn.take ∈ t.scn.overruns then _ else t) = u
  have hmarked : Sealing h d p s u := by
    rw [← hu]
    split
    · split
      · exact e
      next q hq =>
        rcases e.scan with hnone | ⟨hpage, -⟩
        · rw [hnone] at hq
          cases hq
        · obtain rfl := Option.some.inj (hpage.symm.trans hq)
          exact sealing_modifyPage (fun _ => ⟨rfl, rfl⟩) hp e hw
    · exact e
  have htaken := sealing_advanceTake (sealing_scn (x := { u.scn with rawLines := u.scn.rawLines + 1 }) hmarked hmarked.scan) hw
  split
  · exact sealing_testHeight hp hd (sealing_appendLine hp hd _ htaken hw) hw
  · exact sealing_scn htaken htaken.scan
  · exact sealing_testHeight hp hd (sealing_appendLine hp hd _ (sealing_scn htaken htaken.scan) hw) hw

theorem sealing_finishPage (hp : p < 1024) (hd : d < 256) (e : Sealing h d p s t) (hw : RawWord h s) :
    Sealing h d p s (finishPage t) := by
  unfold finishPage
  split
  · dsimp only
    refine sealing_sealOpenPage hp hd ?_ hw
    split
    · exact e
    · exact sealing_appendLine hp hd _ (sealing_scn e e.scan) hw
  · exact e

/-- A slot that waits while the page is open. -/
theorem sealing_takeSlot (hp : p < 1024) (hd : d < 256) (e : Sealing h d p s t) (hw : RawWord h s) (hin : t.scn.state = .inPage) :
    Sealing h d p s (takeSlot t) := by
  unfold takeSlot
  split
  next prof doc _ _ =>
    split
    · exact e
    · split
      · exact sealing_advanceTake e hw
      · rw [hin]
        exact sealing_takeLine hp hd prof e hw
  · exact e

end

/-! ## Further slots of a full page (R53) -/

/-- A full page: no page is open, and what still waits is void or extra. -/
structure Overfull (h : Held) (s t : State) : Prop where
  lapsed : Lapsed h s t
  state : t.scn.state = .pageFull
  page : t.scn.page = none

theorem overfull_advanceTake {h : Held} {s t : State} (e : Overfull h s t) (hw : RawWord h s) : Overfull h s (advanceTake t) := by
  obtain ⟨k, cmp, n, o, v, hscn⟩ := advanceTake_scn t
  exact ⟨lapsed_advanceTake e.lapsed hw, by rw [hscn]; exact e.state, by rw [hscn]; exact e.page⟩

theorem overfull_takeSlot {h : Held} {s t : State} (e : Overfull h s t) (hw : RawWord h s) : Overfull h s (takeSlot t) := by
  have htaken := overfull_advanceTake e hw
  unfold takeSlot
  split
  · split
    · exact e
    · split
      · exact htaken
      · rw [e.state]
        dsimp only
        unfold extraLine
        dsimp only
        split
        next q lines _ =>
          split
          · exact htaken
          · have l := lapsed_post (kind := .extraLines) (src := .page) (idx := q) (code := 0) (value := t.scn.take)
              (htaken.lapsed.registers (u := { advanceTake t with scn := { (advanceTake t).scn with extraPosted := true } })
                rfl rfl rfl rfl) hw
            obtain ⟨c, m, heq, -⟩ := post_frame .extraLines .page q 0 t.scn.take
              { advanceTake t with scn := { (advanceTake t).scn with extraPosted := true } }
            rw [heq] at l ⊢
            exact ⟨l, htaken.state, htaken.page⟩
        · exact htaken
  · exact e

theorem overfull_takeSlots {h : Held} {s t : State} (n : Nat) (e : Overfull h s t) (hw : RawWord h s) :
    Overfull h s (takeSlots n t) := by
  induction n generalizing t with
  | zero => exact e
  | succ n ih => exact ih (overfull_takeSlot e hw)

end Sys2Proof.Machine
end

section
/-! PROOFS. What END_PAGE and END_SCAN answer, with the boundary between pages of ScanEnds and the held write of LappingWrites (R55,
R56). -/

namespace Sys2Proof.Machine

set_option Elab.async false

/-- The state in which END_PAGE looks for the boundary: but in a full page, no page sealed before counts. -/
def State.forgotten (s : State) : State :=
  if s.scn.state = .pageFull then s else { s with scn := { s.scn with lastSealed := none } }

/-- The scan goes on between pages, unless it has ended. -/
def State.betweened (s : State) : State :=
  if s.scn.state = .scanIdle then s else { s with scn := { s.scn with state := .betweenPages } }

/-- The reply of END_PAGE: the page sealed last. -/
def Scn.endReply (c : Scn) : Reply :=
  match c.lastSealed with
  | none => Reply.path .done 0
  | some (p, lines) => ⟨.done, .page, p, lines⟩

theorem State.forgotten_of_full {s : State} (h : s.scn.state = .pageFull) : s.forgotten = s := if_pos h

theorem State.forgotten_of_other {s : State} (h : s.scn.state ≠ .pageFull) :
    s.forgotten = { s with scn := { s.scn with lastSealed := none } } := if_neg h

theorem Scn.endReply_of_none {c : Scn} (h : c.lastSealed = none) : c.endReply = Reply.path .done 0 := by
  rw [Scn.endReply, h]

theorem Scn.endReply_of_some {c : Scn} {p lines : Nat} (h : c.lastSealed = some (p, lines)) :
    c.endReply = ⟨.done, .page, p, lines⟩ := by
  rw [Scn.endReply, h]

theorem endPage_of_scanned {s : State} {sl : Slot} (hd : (s.doc? (sl.num 0)).isSome) (h : s.scn.doc = some (sl.num 0)) :
    endPage sl s = ((toBoundary s.forgotten).betweened, (toBoundary s.forgotten).betweened.scn.endReply) := by
  unfold endPage
  rw [scanCheck_of_scanned hd h]
  rfl

theorem State.betweened_of {s : State} (h : s.scn.state ≠ .scanIdle) :
    s.betweened = { s with scn := { s.scn with state := .betweenPages } } := if_neg h

section

variable {s : State} (hd : (s.doc? (s.headSlot.num 0)).isSome) (hdoc : s.scn.doc = some (s.headSlot.num 0))
include hd hdoc

theorem exec_endPage_of_scanned (h : s.readyFor 0x12 1 = true) {v : State} (hv : toBoundary s.carry.forgotten = v)
    (hidle : v.scn.state ≠ .scanIdle) {r : Reply} (hr : v.scn.endReply = r) :
    exec .endPage s = .next (s.answered r { v with scn := { v.scn with state := .betweenPages } }) := by
  rw [exec_endPage_of_readyFor h, endPage_of_scanned (s := s.carry) hd hdoc, hv, State.betweened_of hidle, ← hr]
  rfl

theorem exec_endScan_of_scanned (h : s.readyFor 0x13 1 = true) :
    exec .endScan s = .next (s.answered ⟨.done, .document, s.headSlot.num 0, (toBoundary s.carry).scn.sealedCount⟩
      (endScan (toBoundary s.carry))) := by
  rw [exec_endScan_of_readyFor h, endScanCommand_of_scanned (s := s.carry) hd hdoc]

end

theorem toBoundary_eq (s : State) :
    toBoundary s = finishPage (takeSlots s.scn.waiting { s with scn := { s.scn with voids := s.boundaryMarks } }) := by
  unfold toBoundary
  rw [voidStarted_eq]

/-- Settles O26: the answers come from the boundary, and a held write's bytes stand through whatever the end of the scan writes
elsewhere. -/
theorem endPageAndEndScan : Obligations.EndPageAndEndScan := by
  refine ⟨fun s => ?_, fun d s h hd0 hd hdoc => ?_, fun h j d s hready hd0 hd hdoc hmap htail hd256 hheld hreason hlow hhigh hcase => ?_⟩
  · intro sl d marks ended
    have hkind {k n : Nat} (h : s.readyFor k n = true) : s.headSlot.kind = k := ((s.readyFor_iff k n).1 h).2.1
    refine ⟨fun hready c hc => ?_, fun hd hdoc hwait hpage => ⟨fun hstate h => ?_, fun hstate h p lines hlast => ?_,
      fun h hheld => ?_⟩, fun p r doc prof hdoc hactive hwait hstate hpage hhalf hlen hp hrd hd hkeep hwaits => ?_, fun hd hdoc h => ?_⟩
    · have hmine : (c = .endPage ∧ s.readyFor 0x12 1 = true) ∨ (c = .endScan ∧ s.readyFor 0x13 1 = true) := by
        rcases hc with ⟨rfl, hk⟩ | ⟨rfl, hk⟩
        · exact .inl ⟨rfl, hready.resolve_right fun h => by rw [hkind h] at hk; cases hk⟩
        · exact .inr ⟨rfl, hready.resolve_left fun h => by rw [hkind h] at hk; cases hk⟩
      refine ⟨fun hnone => ?_, fun hd hother => ?_⟩
      · rcases hmine with ⟨rfl, h⟩ | ⟨rfl, h⟩
        · rw [exec_endPage_of_readyFor h, endPage, scanCheck_of_none (s := s.carry) hnone]
        · rw [exec_endScan_of_readyFor h, endScanCommand, scanCheck_of_none (s := s.carry) hnone]
      · rcases hmine with ⟨rfl, h⟩ | ⟨rfl, h⟩
        · rw [exec_endPage_of_readyFor h, endPage, scanCheck_of_other (s := s.carry) hd hother]
        · rw [exec_endScan_of_readyFor h, endScanCommand, scanCheck_of_other (s := s.carry) hd hother]
    · obtain ⟨v, hv⟩ : ∃ v, toBoundary s.carry.forgotten = v := ⟨_, rfl⟩
      have hframe := hv.symm
      rw [State.forgotten_of_other (s := s.carry) (by rw [show s.carry.scn.state = _ from hstate]; exact fun e => nomatch e),
        toBoundary_of_noPage (by exact hwait) (by exact hpage)] at hframe
      rw [exec_endPage_of_scanned hd hdoc h hv (by rw [hframe]; exact fun e => nomatch hstate.symm.trans e)
        (Scn.endReply_of_none (by rw [hframe])), hframe, ← hstate]
      rfl
    · obtain ⟨v, hv⟩ : ∃ v, toBoundary s.carry.forgotten = v := ⟨_, rfl⟩
      have hframe := hv.symm
      rw [State.forgotten_of_full (s := s.carry) hstate, toBoundary_of_noPage (by exact hwait) (by exact hpage)] at hframe
      rw [exec_endPage_of_scanned hd hdoc h hv (by rw [hframe]; exact fun e => nomatch hstate.symm.trans e)
        (Scn.endReply_of_some (by rw [hframe]; exact hlast)), hframe]
      rfl
    · rw [exec_endScan_of_scanned hd hdoc h, toBoundary_of_noPage (s := s.carry) hwait hpage, endScan_of_none (by exact hheld)]
      rfl
    · have hscanned : (s.doc? (s.headSlot.num 0)).isSome := by rw [show s.doc? (s.headSlot.num 0) = some doc from hd]; rfl
      have hboundary (last : Option (Nat × Nat)) := toBoundary_of_whole
        (s := { s.carry with scn := { s.scn with lastSealed := last } }) hwait hpage hactive hhalf hlen hp
        (by rw [hrd]; exact State.keeps_of hd hkeep) (by rw [hrd]; exact hwaits)
      refine ⟨fun h => ?_, fun h hheld => ?_⟩
      · obtain ⟨v, hv⟩ : ∃ v, toBoundary s.carry.forgotten = v := ⟨_, rfl⟩
        have hframe : v = _ := hv.symm.trans ((congrArg toBoundary (State.forgotten_of_other (s := s.carry)
          (by rw [show s.carry.scn.state = _ from hstate]; exact fun e => nomatch e))).trans (hboundary none))
        rw [exec_endPage_of_scanned hscanned hdoc h hv (by rw [hframe]; exact fun e => nomatch hstate.symm.trans e)
          (Scn.endReply_of_some (by rw [hframe])), hframe]
        rw [show ({ s.carry with scn := { s.scn with lastSealed := none } } : State) = s.carry.withScn { s.scn with lastSealed := none } from rfl,
          sealRecord_withScn]
        rfl
      · have hv := hboundary s.scn.lastSealed
        obtain ⟨v, hv'⟩ : ∃ v, toBoundary s.carry = v := ⟨_, rfl⟩
        have hframe : v = _ := hv'.symm.trans hv
        have hnone : v.smp.held = none := by
          obtain ⟨ps, m, heq, -⟩ := sealRecord_spec (s := s.carry) hp s.carry.scn.streamLen s.carry.scn.outLines
          rw [hframe, show ({ s.carry with scn := { s.scn with lastSealed := s.scn.lastSealed } } : State) = s.carry from rfl]
          rw [heq]
          exact hheld
        rw [exec_endScan_of_scanned hscanned hdoc h, hv', endScan_of_none hnone, hframe]
        rfl
    · obtain ⟨x, m, hend⟩ := endScan_frame (toBoundary s.carry)
      refine ⟨_, _, exec_endScan_of_scanned hd hdoc h, ?_⟩
      rw [hend]
      exact ⟨rfl, rfl, rfl, rfl, rfl⟩
  · subst hd0
    exact ⟨_, _, exec_endScan_of_scanned hd hdoc h, fun x hx => endScan_held (s := s) hx (toBoundary_letsGo s.carry)⟩
  · subst hd0
    refine ⟨_, _, exec_endScan_of_scanned hd hdoc hready, ?_⟩
    have hw : RawWord h s := ⟨State.cfg_passed hmap, hlow, hhigh, j, hreason⟩
    have hstart : Lapsed h s { s.carry with scn := { s.scn with voids := s.boundaryMarks } } :=
      ⟨rfl, htail, .inl ⟨hheld, fun _ _ => rfl⟩⟩
    have hboundary : toBoundary s.carry = finishPage (takeSlots s.scn.waiting
      { s.carry with scn := { s.scn with voids := s.boundaryMarks } }) := toBoundary_eq s.carry
    refine lapsed_endScan ?_ hw
    rw [hboundary]
    rcases hcase with ⟨hpage, hwait | hfull⟩ | ⟨hin, hwait, hwaits, p, r, doc, hpage, hp1024, hp, hrd, hdd, hkeep, hsegs, hlen⟩
    · rw [hwait, takeSlots, finishPage_of_none (s := { s.carry with scn := { s.scn with voids := s.boundaryMarks } }) hpage]
      exact hstart
    · have e := overfull_takeSlots s.scn.waiting (t := { s.carry with scn := { s.scn with voids := s.boundaryMarks } })
        ⟨hstart, hfull, hpage⟩ hw
      rw [finishPage_of_none e.page]
      exact e.lapsed
    · have e : Sealing h (s.headSlot.num 0) p s { s.carry with scn := { s.scn with voids := s.boundaryMarks } } :=
        ⟨hstart, ⟨doc, hdd, hkeep⟩, hwaits, fun r' hr' => by
          obtain rfl := Option.some.inj (hp.symm.trans hr')
          exact ⟨hrd, hsegs, hlen⟩, .inr ⟨hpage, hdoc⟩⟩
      have etaken : Sealing h (s.headSlot.num 0) p s
          (takeSlots s.scn.waiting { s.carry with scn := { s.scn with voids := s.boundaryMarks } }) := by
        rcases Nat.le_one_iff_eq_zero_or_eq_one.1 hwait with h0 | h1
        · rw [h0]
          exact e
        · rw [h1]
          exact sealing_takeSlot hp1024 hd256 e hw hin
      exact (sealing_finishPage hp1024 hd256 etaken hw).lapsed

end Sys2Proof.Machine
end

section
/-! PROOFS. The page in hand of an inbound session: its close, at its own end and before it (R73, R76, R77, R141). -/

namespace Sys2Proof.Machine

set_option Elab.async false

/-! ## A page closed with the bytes kept (R73, R77) -/

/-- The free count's report does not look at the lines, the records of pages or DRAM. -/
theorem returned_congr {s t : State} (hr : t.rgw = s.rgw) (hc : t.ceu = s.ceu) (hs : t.chg.seconds = s.chg.seconds)
    (hpsm : t.psm = { s.psm with pages := t.psm.pages }) (back : List Nat) :
    (t.returned back).psm = { (s.returned back).psm with pages := t.psm.pages } ∧ (t.returned back).ceu = (s.returned back).ceu := by
  obtain ⟨a, c, m, ht⟩ := t.returned_spec back
  obtain ⟨b, d, m', hs'⟩ := s.returned_spec back
  have hreport : (t.returned back).psm.lowArmed = (s.returned back).psm.lowArmed ∧ (t.returned back).ceu = (s.returned back).ceu := by
    unfold State.returned
    split
    · exact ⟨by rw [hpsm], hc⟩
    · refine testLowMark_congr (s := writePathStatus { s with psm := { s.psm with stack := back ++ s.psm.stack } })
        (t := writePathStatus { t with psm := { t.psm with stack := back ++ t.psm.stack } }) ?_ ?_ ?_ ?_ ?_ ?_
      · exact hr
      · exact hc
      · exact hs
      · show t.psm.lowArmed = s.psm.lowArmed
        rw [hpsm]
      · show t.psm.lowMark = s.psm.lowMark
        rw [hpsm]
      · show back ++ t.psm.stack = back ++ s.psm.stack
        rw [hpsm]
  refine ⟨?_, hreport.2⟩
  have ha : a = b := by
    have h := hreport.1
    rw [ht, hs'] at h
    exact h
  rw [ht, hs', ha, hpsm]

/-- `u` is `t` after page `p` of record `r` has been closed with `kept` bytes: sealed with them, or freed as the last place of its
document when there are none. -/
structure PageClosed (t u : State) (p kept lines : Nat) (r : PageRec) : Prop where
  frame : u = { t with
    psm := { (t.returned (r.chain.drop (segsFor kept)).reverse).psm with pages := u.psm.pages },
    ceu := (t.returned (r.chain.drop (segsFor kept)).reverse).ceu,
    dju := { t.dju with docs := u.dju.docs, passDue := t.dju.passDue || decide (kept ≠ 0) }, dram := u.dram }
  other : ∀ q, q ≠ p → u.page? q = t.page? q
  sealed : kept ≠ 0 → u.dju.docs = t.dju.docs
    ∧ (∃ check, u.page? p = some { r with
        codedLen := kept, lineCount := lines, chain := r.chain.take (segsFor kept), check := check,
        state := if r.scanOverrun || r.truncated then .damaged else .complete, sealedTime := t.chg.seconds }
      ∧ (r.chain.length ≤ segsFor kept → check = crc16 (t.streamBytes r.chain 0 kept)))
    ∧ unchangedOutside (t.closeSpans p r.chain) t.dram u.dram
  freed : kept = 0 → u.page? p = none
    ∧ u.doc? r.doc = (t.doc? r.doc).map (fun d => { d with places := d.places.dropLast })
    ∧ (∀ d, d ≠ r.doc → u.doc? d = t.doc? d)
    ∧ unchangedOutside ((t.docAddr r.doc, 512) :: t.freeSpans p r.chain.length) t.dram u.dram

/-- A page of a document that keeps its pages and that no line waits for is closed. -/
theorem pageClosed_sealPage {t : State} {p : Nat} {r : PageRec} {doc : Doc} (hp : t.page? p = some r) (hdoc : t.doc? r.doc = some doc)
    (hkeep : doc.keep = true) (hwaits : t.noneWaits r.doc) (kept lines : Nat) :
    PageClosed t (sealPage p kept lines t) p kept lines r := by
  by_cases hz : kept = 0
  · have hgive : sealPage p kept lines t = giveUpPage r.doc p t := by
      simp only [sealPage, hp]
      rw [if_pos hz]
    obtain ⟨m, heq, -, hmem⟩ := giveUpPage_spec hp hdoc hwaits
    have hdrop : r.chain.drop (segsFor kept) = r.chain := by rw [hz, show segsFor 0 = 0 from rfl, List.drop_zero]
    rw [hgive]
    refine ⟨?_, fun q hq => ?_, fun h => absurd hz h, fun _ => ⟨?_, ?_, fun d hd => ?_, ?_⟩⟩
    · rw [hdrop, heq]
      rw [decide_eq_false (not_not_intro hz), Bool.or_false]
    · rw [heq]
      exact (Tab.get?_erase ..).trans (if_neg hq)
    · rw [heq]
      exact (Tab.get?_erase ..).trans (if_pos rfl)
    · rw [hdoc, heq]
      exact Tab.get?_set_self ..
    · rw [heq]
      exact Tab.get?_set_of_ne _ _ hd
    · rw [heq]
      exact hmem
  · have hseal := sealPage_of_kept hp hz (State.keeps_of hdoc hkeep) hwaits lines
    obtain ⟨ps, m, heq, ⟨check, hself, hcheck⟩, hother, -, hmem⟩ := sealRecord_spec hp kept lines
    have hu : sealPage p kept lines t = occasion { t with
        psm := { (t.returned (r.chain.drop (segsFor kept)).reverse).psm with pages := ps },
        ceu := (t.returned (r.chain.drop (segsFor kept)).reverse).ceu, dram := m } := by rw [hseal, heq]
    have hone : decide (kept ≠ 0) = true := decide_eq_true hz
    refine ⟨?_, fun q hq => ?_, fun _ => ⟨?_, ⟨check, ?_, hcheck⟩, ?_⟩, fun h => absurd h hz⟩
    · rw [hone, Bool.or_true, hu]
      rfl
    · rw [hu]
      exact hother q hq
    · rw [hu]
      rfl
    · rw [hu]
      exact hself
    · rw [hu]
      exact hmem

/-! ## The bytes of a page closed before its own end (R141) -/

theorem extentFrom_eq {m : Tab Nat} {b len : Nat} (hfull : ∀ i, i < b → Tab.get? m i = some 256) (hb : b ≤ 64)
    (hlen : len = if b < 64 then (Tab.get? m b).getD 0 else 0) (hshort : len ≠ 256) :
    ∀ fuel j, j ≤ b → j + fuel = 64 → extentFrom m j fuel = 256 * (b - j) + len := by
  intro fuel
  induction fuel with
  | zero =>
    intro j hj hsum
    have : b = 64 := by omega
    rw [extentFrom, hlen, if_neg (by omega)]
    omega
  | succ fuel ih =>
    intro j hj hsum
    rcases Nat.lt_or_ge j b with hlt | hge
    · rw [extentFrom, hfull j hlt]
      dsimp only
      rw [if_pos rfl, ih (j + 1) hlt (by omega)]
      omega
    · obtain rfl : j = b := by omega
      rw [if_pos (by omega)] at hlen
      rw [extentFrom]
      cases hget : Tab.get? m j with
      | none =>
        rw [hget] at hlen
        rw [hlen]
        simp
      | some l =>
        rw [hget] at hlen
        obtain rfl : len = l := hlen
        dsimp only
        rw [if_neg hshort]
        omega

theorem LineRec.extended_of_keepsEarly {l : LineRec} {kept : Nat} (h : l.KeepsEarly kept) : l.extended = kept := by
  obtain ⟨b, len, hb, hfull, hlen, hshort, hkept⟩ := h
  have hextent : extentFrom l.blockMap 0 64 = 256 * b + len := by
    rw [extentFrom_eq hfull hb hlen hshort 64 0 (Nat.zero_le _) rfl, Nat.sub_zero]
  rw [LineRec.extended, hextent, hkept, Nat.add_assoc]

/-! ## The page closed before its own end -/

theorem closeEarly_of_noPage {n : Line} {s : State} (hstore : (s.line n).storing = none) (hpage : (s.line n).page = none) :
    closeEarly n s = s := by
  unfold closeEarly
  rw [giveUpStore_of_none hstore]
  dsimp only
  rw [hpage]

theorem State.noneWaits_of_setsLine {s t : State} {n : Line} {r : LineRec} {d : Nat} (h : SetsLine n r s t)
    (hstate : r.state = (s.line n).state) (hdoc : r.doc = (s.line n).doc) (hw : s.noneWaits d) : t.noneWaits d := by
  intro m hm
  by_cases hmn : m = n
  · subst hmn
    rw [h.line_self, hstate] at hm
    rw [h.line_self, hdoc]
    exact hw m hm
  · rw [h.line_of_ne hmn] at hm ⊢
    exact hw m hm

theorem setsLine_frame {s t : State} {n : Line} {l : LineRec} (h : SetsLine n l s t) :
    ∃ x m, t = { s with lne := { s.lne with lines := x }, dram := m } ∧ unchangedOutside [s.lineSpan n] s.dram m :=
  ⟨_, _, h.frame, h.dram⟩

/-- A line's record lies before the segments. -/
theorem get_above_line {s : State} {n : Line} {p : Nat} (hp : p < 1024) {m m' : Mem}
    (h : unchangedOutside [s.lineSpan n, (s.pageAddr p, 64)] m m') {a : Nat} (ha : s.por 0x100000 ≤ a) :
    Mem.get m' a = Mem.get m a := by
  refine h a fun x hx => ?_
  rw [within_eq_false_iff]
  have hn : n.val < 8 := n.isLt
  simp only [List.mem_cons, List.not_mem_nil, or_false] at hx
  rcases hx with rfl | rfl
  · simp only [State.lineSpan, State.por] at ha ⊢
    omega
  · simp only [State.pageAddr, State.por] at ha ⊢
    omega

theorem closedEarlySpans_sealed {α : Type} (line page status : α) (events trailers entries : List α) :
    [line, page] ++ ([page, status] ++ events ++ trailers ++ entries) ⊆ line :: page :: status :: events ++ [] ++ trailers ++ entries := by
  intro x hx
  simp only [List.mem_append, List.mem_cons, List.not_mem_nil, or_false, List.cons_append] at hx ⊢
  tauto

theorem closedEarlySpans_freed {α : Type} (line page status doc : α) (events trailers entries : List α) :
    [line, page] ++ (doc :: ([page, status] ++ events ++ trailers ++ entries))
      ⊆ line :: page :: status :: events ++ [doc] ++ trailers ++ entries := by
  intro x hx
  simp only [List.mem_append, List.mem_cons, List.not_mem_nil, or_false, List.cons_append] at hx ⊢
  tauto

/-- The page in hand closed before its own end: its line keeps no page, and its record is sealed TRUNCATED or freed. -/
theorem closedEarly_closeEarly {s : State} {n : Line} {p kept : Nat} {r : PageRec} {doc : Doc} (hpage : (s.line n).page = some p)
    (hstore : (s.line n).storing = none) (hp : s.page? p = some r) (hp1024 : p < 1024) (hdoc : s.doc? r.doc = some doc)
    (hkeep : doc.keep = true) (hwaits : s.noneWaits r.doc) (hk : (s.line n).KeepsEarly kept) :
    ClosedEarly s (closeEarly n s) n { s.line n with page := none, kept := kept } p kept r := by
  obtain ⟨t, ht⟩ : ∃ t, t = modifyLine n (fun r => { r with page := none, kept := kept }) s := ⟨_, rfl⟩
  have hsets : SetsLine n { s.line n with page := none, kept := kept } s t := by
    rw [ht]
    exact setsLine_modifyLine n _ s
  obtain ⟨ls, m, hframe, hmem⟩ := setsLine_frame hsets
  have htp : t.page? p = some r := by rw [hframe]; exact hp
  have hmark : markTruncated p t = putPage p { r with truncated := true } t := modifyPage_of_some htp _
  obtain ⟨w, hw⟩ : ∃ w, w = putPage p { r with truncated := true } t := ⟨_, rfl⟩
  have hclose : closeEarly n s = sealPage p kept 0 w := by
    unfold closeEarly
    rw [giveUpStore_of_none hstore]
    dsimp only
    rw [hpage]
    dsimp only
    rw [LineRec.extended_of_keepsEarly hk, ← ht, hmark, hw]
  have hwaitsw : w.noneWaits r.doc := by
    have hwaitst : t.noneWaits r.doc := State.noneWaits_of_setsLine hsets rfl rfl hwaits
    rw [hw]
    exact hwaitst
  have hc := pageClosed_sealPage (t := w) (p := p) (r := { r with truncated := true }) (doc := doc) (by rw [hw]; exact page?_putPage_self ..)
    (by rw [hw, hframe]; exact hdoc) hkeep hwaitsw kept 0
  rw [← hclose] at hc
  have hwframe : w = { s with lne := { s.lne with lines := ls },
                              psm := { s.psm with pages := Tab.set s.psm.pages p { r with truncated := true } }, dram := w.dram } := by
    rw [hw, hframe]
    rfl
  have hmemw : unchangedOutside [s.lineSpan n, (s.pageAddr p, 64)] s.dram w.dram := by
    have hput : unchangedOutside [(t.pageAddr p, 64)] t.dram w.dram := by
      rw [hw]
      exact unchangedOutside_store (by simp)
    rw [hframe] at hput
    exact hmem.trans hput
  have hlsw : w.lne.lines = ls := by rw [hwframe]
  obtain ⟨hretp, hretc⟩ := returned_congr (s := s) (t := w) (by rw [hwframe]) (by rw [hwframe]) (by rw [hwframe])
    (by rw [hwframe]) (r.chain.drop (segsFor kept)).reverse
  obtain ⟨v, hv⟩ : ∃ v, closeEarly n s = v := ⟨_, rfl⟩
  rw [hv] at hc ⊢
  have hspans : w.closeSpans p r.chain = s.closeSpans p r.chain := by
    rw [hwframe]
    rfl
  have hlne : v.lne = w.lne := by rw [hc.frame]
  have hvframe : v = { s with
      lne := { s.lne with lines := v.lne.lines },
      psm := { (s.returned (r.chain.drop (segsFor kept)).reverse).psm with pages := v.psm.pages },
      ceu := (s.returned (r.chain.drop (segsFor kept)).reverse).ceu,
      dju := { s.dju with docs := v.dju.docs, passDue := s.dju.passDue || decide (kept ≠ 0) }, dram := v.dram } := by
    have hf := hc.frame
    rw [hretp, hretc] at hf
    rw [hwframe] at hf
    exact hf.trans (by rw [hlne, hlsw])
  have hline (m : Line) : v.line m = t.line m := by
    rw [State.line, hlne, State.line, hlsw, hframe]
  refine ⟨hvframe, (hline n).trans hsets.line_self, fun m hm => (hline m).trans (hsets.line_of_ne hm), fun q hq => ?_,
    fun hz => ?_, fun hz => ?_, ?_⟩
  · rw [hc.other q hq, hw, page?_putPage_of_ne _ _ hq, hframe]
    rfl
  · obtain ⟨hdocs, ⟨check, hself, hcheck⟩, -⟩ := hc.sealed hz
    refine ⟨by rw [hdocs, hwframe], check, ?_, fun hback => ?_⟩
    · rw [hself]
      simp only [Bool.or_true, if_true]
      rw [show w.chg = s.chg by rw [hwframe]]
    · rw [hcheck (by rwa [List.reverse_eq_nil_iff, List.drop_eq_nil_iff] at hback)]
      refine congrArg crc16 (streamBytes_congr (by rw [hwframe]; rfl) (fun a ha => get_above_line hp1024 hmemw ha) ..)
  · obtain ⟨hgone, hlast, hothers, -⟩ := hc.freed hz
    refine ⟨hgone, ?_, fun d hd => ?_⟩
    · rw [hlast, hwframe]
      rfl
    · rw [hothers d hd, hwframe]
      rfl
  · have hdocAddr : w.docAddr r.doc = s.docAddr r.doc := by
      rw [hwframe]
      rfl
    by_cases hz : kept = 0
    · obtain ⟨-, -, -, hmemc⟩ := hc.freed hz
      replace hmemc := hmemc.of_subset (List.cons_subset_cons _ (freeSpans_subset w p r.chain))
      rw [hspans, hdocAddr] at hmemc
      refine (hmemw.trans hmemc).of_subset ?_
      rw [if_pos hz]
      exact closedEarlySpans_freed ..
    · obtain ⟨-, -, hmemc⟩ := hc.sealed hz
      rw [hspans] at hmemc
      refine (hmemw.trans hmemc).of_subset ?_
      rw [if_neg hz]
      exact closedEarlySpans_sealed ..

end Sys2Proof.Machine
end

section
/-! PROOFS. The inbound session: RX_PAGE_BEGIN, RX_PARTIAL_END and BLOCK_STORED (R139 to R142). -/

namespace Sys2Proof.Machine

set_option Elab.async false

/-! ## The end of a page or document after an RX_PARTIAL_OK (R141) -/

/-- A line's record with no page in hand, as the end kind `k` of its page leaves it. -/
def LineRec.ended (l : LineRec) (k : EndKind) (gap : Nat) : LineRec :=
  if k = .pageEnd then { l with page := none, state := .receiving, timer := some .blockGap, remaining := gap }
  else { l with page := none, state := .clearing, cause := some .normal, timer := some .clearing, remaining := 100 }

/-- What an end kind that ends the page hands. -/
def State.endHanded (t : State) (n : Line) (k : EndKind) : Sli := if k = .pageEnd then t.sli else (hand n .clear t).sli

/-- `u` is `t` after the page in hand of line `n` has ended with end kind `k`. -/
structure PageEnded (t u : State) (n : Line) (k : EndKind) (p kept : Nat) (r : PageRec) (doc : Doc) : Prop where
  frame : u = { t with
    sli := t.endHanded n k, lne := { t.lne with lines := u.lne.lines },
    psm := { t.psm with pages := u.psm.pages, stack := u.psm.stack, lowArmed := u.psm.lowArmed },
    dju := { t.dju with docs := u.dju.docs, passDue := u.dju.passDue }, ceu := u.ceu, dram := u.dram }
  self : u.line n = (t.line n).ended k t.lne.timers.blockGap
  lines : ∀ m, m ≠ n → u.line m = t.line m
  pages : ∀ q, q ≠ p → u.page? q = t.page? q
  sealed : kept ≠ 0 →
    (∃ check, u.page? p = some { r with
        codedLen := kept, lineCount := 0, chain := r.chain.take (segsFor kept), check := check, sealedTime := t.chg.seconds,
        state := if r.scanOverrun || r.truncated then .damaged else .complete }
      ∧ (r.chain.length ≤ segsFor kept → check = crc16 (t.streamBytes r.chain 0 kept)))
    ∧ u.dju = { t.dju with passDue := true }
    ∧ unchangedOutside (t.lineSpan n :: t.closeSpans p r.chain) t.dram u.dram
  freed : kept = 0 → u.page? p = none ∧ u.psm.stack = r.chain.reverse ++ t.psm.stack ∧ u.dju.passDue = t.dju.passDue
    ∧ u.doc? r.doc = some { doc with places := doc.places.dropLast } ∧ (∀ d, d ≠ r.doc → u.doc? d = t.doc? d)
    ∧ unchangedOutside (t.lineSpan n :: (t.docAddr r.doc, 512) :: t.freeSpans p r.chain.length) t.dram u.dram

/-- The closed page's line enters its next state. -/
theorem afterPartialOk_setsLine {t c : State} {n : Line} {k : EndKind} (hk : k ≠ .more) (hclose : closePage n t = c)
    {l : LineRec} (hl : c.line n = { l with page := none }) (htimers : c.lne.timers = t.lne.timers) (hsli : c.sli = t.sli) :
    ∃ b, OnlySli c b ∧ b.sli = t.endHanded n k
      ∧ SetsLine n (l.ended k t.lne.timers.blockGap) b (afterPartialOk n k t) := by
  cases k with
  | more => exact absurd rfl hk
  | pageEnd =>
    refine ⟨c, rfl, hsli, ?_⟩
    have h := setsLine_enterState n .receiving id c
    rw [htimers] at h
    simp only [afterPartialOk, hclose]
    simp only [id, hl] at h
    exact h
  | docEnd =>
    refine ⟨hand n .clear c, onlySli_hand n .clear c, hand_sli n .clear hsli, ?_⟩
    have h := setsLine_clearLine n .normal c
    simp only [afterPartialOk, hclose]
    rw [hl] at h
    exact h

theorem pageEnded_afterPartialOk {t : State} {n : Line} {p : Nat} {r : PageRec} {doc : Doc} (hpage : (t.line n).page = some p)
    (hp : t.page? p = some r) (hp1024 : p < 1024) (hdoc : t.doc? r.doc = some doc) (hkeep : doc.keep = true)
    (hwaits : t.noneWaits r.doc) {k : EndKind} (hk : k ≠ .more) {kept : Nat} (hkept : (t.line n).kept = kept) :
    PageEnded t (afterPartialOk n k t) n k p kept r doc := by
  obtain ⟨w, hw⟩ : ∃ w, w = modifyLine n (fun r => { r with page := none }) t := ⟨_, rfl⟩
  have hsets : SetsLine n { t.line n with page := none } t w := by
    rw [hw]
    exact setsLine_modifyLine n _ t
  obtain ⟨ls, m, hframe, hmem⟩ := setsLine_frame hsets
  have hclose : closePage n t = sealPage p kept 0 w := by
    simp only [closePage, hpage]
    rw [hkept, hw]
  have hwaitsw : w.noneWaits r.doc := State.noneWaits_of_setsLine hsets rfl rfl hwaits
  have hc := pageClosed_sealPage (t := w) (p := p) (r := r) (doc := doc) (by rw [hframe]; exact hp) (by rw [hframe]; exact hdoc)
    hkeep hwaitsw kept 0
  rw [← hclose] at hc
  obtain ⟨c, hcdef⟩ : ∃ c, closePage n t = c := ⟨_, rfl⟩
  rw [hcdef] at hc
  have hclne : c.lne = w.lne := by rw [hc.frame]
  have hcline (m : Line) : c.line m = w.line m := by rw [State.line, hclne]; rfl
  obtain ⟨b, hb, hbsli, hset⟩ := afterPartialOk_setsLine hk hcdef (l := t.line n) ((hcline n).trans hsets.line_self)
    (by rw [hclne, hframe]) (by rw [hc.frame, hframe])
  obtain ⟨hu, hself, hlines, hmemu⟩ := hset.after hb
  rw [hbsli] at hu
  obtain ⟨u, hudef⟩ : ∃ u, afterPartialOk n k t = u := ⟨_, rfl⟩
  rw [hudef] at hu hself hlines hmemu ⊢
  have hupsm : u.psm = c.psm := by rw [hu]
  have hudju : u.dju = c.dju := by rw [hu]
  have hupages (q : Nat) : u.page? q = c.page? q := by rw [State.page?, hupsm]; rfl
  have hudocs (d : Nat) : u.doc? d = c.doc? d := by rw [State.doc?, hudju]; rfl
  obtain ⟨a, ce, m', hret⟩ := w.returned_spec (r.chain.drop (segsFor kept)).reverse
  have hspan : c.lineSpan n = t.lineSpan n := by rw [hc.frame, hframe]; rfl
  rw [hspan] at hmemu
  have hcpsm : c.psm = { t.psm with pages := c.psm.pages, stack := (r.chain.drop (segsFor kept)).reverse ++ t.psm.stack,
                                    lowArmed := a } := by
    have h := congrArg State.psm hc.frame
    rw [hret, hframe] at h
    exact h
  have hcdju : c.dju = { t.dju with docs := c.dju.docs, passDue := t.dju.passDue || decide (kept ≠ 0) } := by
    have h := congrArg State.dju hc.frame
    rw [hframe] at h
    exact h
  refine ⟨?_, hself, fun m hm => ?_, fun q hq => ?_, fun hz => ?_, fun hz => ?_⟩
  · have hrest : c = { t with
        lne := c.lne, psm := c.psm, dju := c.dju, ceu := c.ceu, dram := c.dram } := by
      rw [hc.frame, hframe]
    have hlne' : { t.lne with lines := u.lne.lines } = { c.lne with lines := u.lne.lines } := by rw [hclne, hframe]
    have hpsm' : { t.psm with pages := u.psm.pages, stack := u.psm.stack, lowArmed := u.psm.lowArmed } = c.psm := by
      rw [hupsm]
      rw [hcpsm]
    have hdju' : { t.dju with docs := u.dju.docs, passDue := u.dju.passDue } = c.dju := by
      rw [hudju]
      rw [hcdju]
    rw [hlne', hpsm', hdju', show u.ceu = c.ceu by rw [hu]]
    exact hu.trans (by rw [hrest])
  · rw [hlines m hm, hcline, hsets.line_of_ne hm]
  · rw [hupages, hc.other q hq, hframe]
    rfl
  · obtain ⟨hdocs, ⟨check, hsealed, hcheck⟩, hmemc⟩ := hc.sealed hz
    refine ⟨⟨check, ?_, fun hle => ?_⟩, ?_, ?_⟩
    · rw [hupages, hsealed, hframe]
    · rw [hcheck hle]
      refine congrArg crc16 (streamBytes_congr (by rw [hframe]; rfl) (fun a ha => ?_) ..)
      rw [hframe]
      exact get_above_line hp1024 (hmem.of_subset (List.cons_subset_cons _ (List.nil_subset _))) ha
    · rw [hudju, hcdju, hdocs, hframe, decide_eq_true hz, Bool.or_true]
    · rw [show w.closeSpans p r.chain = t.closeSpans p r.chain by rw [hframe]; rfl, show w.dram = m by rw [hframe]] at hmemc
      refine ((hmem.trans hmemc).trans hmemu).of_subset ?_
      exact List.append_subset.2 ⟨List.Subset.refl _, List.cons_subset_cons _ (List.nil_subset _)⟩
  · obtain ⟨hgone, hlast, hothers, hmemc⟩ := hc.freed hz
    refine ⟨by rw [hupages]; exact hgone, ?_, ?_, ?_, fun d hd => ?_, ?_⟩
    · rw [hupsm, hcpsm, hz, show segsFor 0 = 0 from rfl, List.drop_zero]
    · rw [hudju, hcdju, decide_eq_false (not_not_intro hz), Bool.or_false]
    · rw [hudocs, hlast, hframe]
      show (t.doc? r.doc).map _ = _
      rw [hdoc]
      rfl
    · rw [hudocs, hothers d hd, hframe]
      rfl
    · rw [show w.freeSpans p r.chain.length = t.freeSpans p r.chain.length by rw [hframe]; rfl,
        show w.docAddr r.doc = t.docAddr r.doc by rw [hframe]; rfl, show w.dram = m by rw [hframe]] at hmemc
      refine ((hmem.trans hmemc).trans hmemu).of_subset ?_
      exact List.append_subset.2 ⟨List.Subset.refl _, List.cons_subset_cons _ (List.nil_subset _)⟩

/-! ## What a message of an inbound session finds (R127, R139) -/

/-- The record of line `n` with the block gap timer started afresh. -/
def State.gapStarted (s : State) (n : Line) : LineRec :=
  { s.line n with timer := some .blockGap, remaining := s.lne.timers.blockGap }

theorem restartTimer_of_receiving {n : Line} {s : State} (hr : (s.line n).state = .receiving) :
    restartTimer n s = setLine n (s.gapStarted n) s := by
  have hrestart : LineRec.restart s.lne.timers (s.line n) = s.gapStarted n := by
    simp only [LineRec.restart, State.gapStarted, hr]
    rfl
  rw [restartTimer_eq, hrestart]

/-- A message delivered in ANSWERING or RECEIVING acts on a state that differs in the line's timer at most. -/
theorem delivered_of_inbound {n : Line} {act : State → State} {s : State} (h : s.hears = true)
    (hst : (s.line n).state = .answering ∨ (s.line n).state = .receiving) :
    ∃ t ls, delivered n act s = act t ∧ t = { s with lne := { s.lne with lines := ls } }
      ∧ (∃ x y, t.line n = { s.line n with timer := x, remaining := y }) ∧ ∀ m, m ≠ n → t.line m = s.line m := by
  rcases hst with hst | hst
  · exact ⟨s, s.lne.lines, delivered_of_hears h (by rw [hst]; exact fun e => nomatch e), rfl, ⟨_, _, rfl⟩, fun _ _ => rfl⟩
  · refine ⟨setLine n (s.gapStarted n) s, _, ?_, rfl, ⟨_, _, line_setLine_self ..⟩, fun m hm => line_setLine_of_ne _ _ hm⟩
    rw [delivered_of_receiving h hst, restartTimer_of_receiving hst]

theorem widthClassOf_of_le {c : Nat} (h : c ≤ 2) : ∃ w, widthClassOf c = some w := by
  obtain rfl | rfl | rfl : c = 0 ∨ c = 1 ∨ c = 2 := by omega
  · exact ⟨_, rfl⟩
  · exact ⟨_, rfl⟩
  · exact ⟨_, rfl⟩

theorem resolutionOf_of_le {c : Nat} (h : c ≤ 1) : ∃ q, resolutionOf c = some q := by
  obtain rfl | rfl : c = 0 ∨ c = 1 := by omega
  · exact ⟨_, rfl⟩
  · exact ⟨_, rfl⟩

theorem widthClassOf_of_gt {c : Nat} (h : 2 < c) : widthClassOf c = none := by
  unfold widthClassOf
  split <;> first | omega | rfl

theorem resolutionOf_of_gt {c : Nat} (h : 1 < c) : resolutionOf c = none := by
  unfold resolutionOf
  split <;> first | omega | rfl

theorem onRxPageBegin_of_codes {n : Line} {c r : Nat} {w : WidthClass} {q : Resolution} {t : State} (hw : widthClassOf c = some w)
    (hq : resolutionOf r = some q) (hst : (t.line n).state = .answering ∨ (t.line n).state = .receiving) :
    onRxPageBegin n c r t = beginPage n w q t := by
  unfold onRxPageBegin
  rw [hw, hq]
  exact if_pos hst

theorem onRxPageBegin_of_badCodes {n : Line} {c r : Nat} {t : State} (h : 2 < c ∨ 1 < r) : onRxPageBegin n c r t = t := by
  unfold onRxPageBegin
  rcases h with h | h
  · rw [widthClassOf_of_gt h]
  · rw [resolutionOf_of_gt h]
    cases widthClassOf c <;> rfl

/-! ## A page begins (R139) -/

theorem begunLineSpans_subset {α : Type} (line page doc status : α) :
    ([page, status, doc] ++ [page]) ++ [line] ⊆ [line, page, doc, status] := by
  intro x hx
  simp only [List.mem_append, List.mem_cons, List.not_mem_nil, or_false] at hx ⊢
  tauto

section

variable {n : Line} {w : WidthClass} {q : Resolution} {t : State} {d : Nat} {doc : Doc} (hpage : (t.line n).page = none)
  (hstore : (t.line n).storing = none) (hd : (t.line n).doc = some d) (hdoc : t.doc? d = some doc)
include hpage hstore hd hdoc

theorem beginPage_of_fullDoc (hfull : 128 ≤ doc.places.length) : beginPage n w q t = abandonLine n .pageLimit t := by
  have hroom : t.docHasRoom d = false := by
    simp only [State.docHasRoom, hdoc]
    exact decide_eq_false (Nat.not_lt.2 hfull)
  unfold beginPage
  rw [closeEarly_of_noPage hstore hpage]
  dsimp only
  rw [hd]
  dsimp only
  rw [hroom]
  rfl

theorem beginPage_of_fullTable (hroom : doc.places.length < 128) (hfull : Tab.firstFree t.psm.pages 1024 = none) :
    beginPage n w q t = abandonLine n .storeFull t := by
  unfold beginPage
  rw [closeEarly_of_noPage hstore hpage]
  dsimp only
  rw [hd]
  dsimp only
  rw [docHasRoom_of_lt hdoc hroom, startPage_of_full hfull]
  rfl

/-- A page that begins takes the lowest EMPTY record and its document's print holds; the line receives it from its start. -/
theorem beginPage_of_room (hroom : doc.places.length < 128) {p : Nat} (hfree : Tab.firstFree t.psm.pages 1024 = some p) :
    ∃ u, beginPage n w q t = u
      ∧ u = { t with lne := { t.lne with lines := u.lne.lines }, dju := { t.dju with docs := u.dju.docs },
                     psm := { t.psm with pages := u.psm.pages }, dram := u.dram }
      ∧ u.page? p = some { PageRec.begun d doc.places.length .inbound w q with
          printHolds := ((t.prn.entries.filter fun e => e.2.doc == d).map fun e => e.2.copies - e.2.copiesDone).sum }
      ∧ (∀ k, k ≠ p → u.page? k = t.page? k)
      ∧ u.doc? d = some { doc with places := doc.places ++ [some p] } ∧ (∀ k, k ≠ d → u.doc? k = t.doc? k)
      ∧ u.line n = { t.line n with
          state := .receiving, page := some p, pagePos := doc.places.length, partialPage := 0, blockMap := [],
          rounds := 0, kept := 0, cut := false, blockCount := 0, timer := some .blockGap,
          remaining := t.lne.timers.blockGap }
      ∧ (∀ m, m ≠ n → u.line m = t.line m)
      ∧ unchangedOutside [(t.por (0x80 + 256 * n.val), 256), (t.pageAddr p, 64), (t.docAddr d, 512), (t.por 0, 12)]
          t.dram u.dram := by
  obtain ⟨m1, hstart, hmem1⟩ := startPage_spec hdoc hfree .inbound w q
  obtain ⟨v, hv⟩ : ∃ v : State, v = { t with
      psm := { t.psm with pages := Tab.set t.psm.pages p (PageRec.begun d doc.places.length .inbound w q) },
      dju := { t.dju with docs := Tab.set t.dju.docs d { doc with places := doc.places ++ [some p] } }, dram := m1 } := ⟨_, rfl⟩
  rw [← hv] at hstart
  have hvp : v.page? p = some (PageRec.begun d doc.places.length .inbound w q) := by
    rw [hv]
    exact Tab.get?_set_self ..
  obtain ⟨r', hr'⟩ : ∃ r' : PageRec, r' = { PageRec.begun d doc.places.length .inbound w q with
      printHolds := ((t.prn.entries.filter fun e => e.2.doc == d).map fun e => e.2.copies - e.2.copiesDone).sum } := ⟨_, rfl⟩
  have hjoin : joinPrintHolds d p v = putPage p r' v := by
    rw [joinPrintHolds, modifyPage_of_some hvp, hr', hv, PageRec.begun, Nat.zero_add]
  obtain ⟨x, hx⟩ : ∃ x, x = putPage p r' v := ⟨_, rfl⟩
  have hxmem : unchangedOutside [(t.pageAddr p, 64)] m1 x.dram := by
    have hput : unchangedOutside [(v.pageAddr p, 64)] v.dram x.dram := by
      rw [hx]
      exact unchangedOutside_store (by simp)
    rw [hv] at hput
    exact hput
  have hxframe : x = { t with psm := { t.psm with pages := x.psm.pages }, dju := { t.dju with docs := x.dju.docs }, dram := x.dram } := by
    rw [hx, hv]
    rfl
  have hbegin : beginPage n w q t = enterState n .receiving (fun r => { r with
      page := some p, pagePos := doc.places.length, partialPage := 0, blockMap := [], rounds := 0, kept := 0, cut := false,
      blockCount := 0 }) x := by
    unfold beginPage
    rw [closeEarly_of_noPage hstore hpage]
    dsimp only
    rw [hd]
    dsimp only
    rw [docHasRoom_of_lt hdoc hroom, hstart]
    dsimp only
    rw [if_neg (by simp), hjoin, ← hx, hvp]
    rfl
  have hset := setsLine_enterState n .receiving (fun r => { r with
      page := some p, pagePos := doc.places.length, partialPage := 0, blockMap := [], rounds := 0, kept := 0, cut := false,
      blockCount := 0 }) x
  rw [← hbegin] at hset
  obtain ⟨u, hu⟩ : ∃ u, beginPage n w q t = u := ⟨_, rfl⟩
  rw [hu] at hset ⊢
  obtain ⟨ls, m, hframe, hmem⟩ := setsLine_frame hset
  have hxl (m : Line) : x.line m = t.line m := by rw [hxframe]; rfl
  have hlines (m : Line) (hm : m ≠ n) : u.line m = t.line m := (hset.line_of_ne hm).trans (hxl m)
  refine ⟨u, rfl, ?_, ?_, fun k hk => ?_, ?_, fun k hk => ?_, ?_, hlines, ?_⟩
  · rw [hframe, hxframe]
  · rw [hframe, ← hr', hx]
    exact page?_putPage_self ..
  · rw [hframe]
    show x.page? k = t.page? k
    rw [hx, page?_putPage_of_ne _ _ hk, hv]
    exact Tab.get?_set_of_ne _ _ hk
  · rw [hframe]
    show x.doc? d = _
    rw [hx, hv]
    exact Tab.get?_set_self ..
  · rw [hframe]
    show x.doc? k = _
    rw [hx, hv]
    exact Tab.get?_set_of_ne _ _ hk
  · rw [hset.line_self, hxl n, show x.lne.timers = t.lne.timers by rw [hxframe]]
    rfl
  · rw [show x.lineSpan n = t.lineSpan n by rw [hxframe]; rfl] at hmem
    rw [hframe]
    exact ((hmem1.trans hxmem).trans hmem).of_subset (begunLineSpans_subset _ _ _ _)

end

/-! ## The check of a partial page (R141) -/

theorem onRxPartialEnd_of_bad {n : Line} {pp c kind : Nat} {t : State}
    (h : pp ≠ (t.line n).partialPage ∨ c < 1 ∨ 64 < c ∨ 2 < kind ∨ (kind = 0 ∧ c ≠ 64)) : onRxPartialEnd n pp c kind t = t := by
  unfold onRxPartialEnd
  dsimp only
  split
  · rfl
  next k hk =>
    refine if_pos ?_
    rcases h with h | h | h | h | ⟨rfl, h⟩
    · exact .inr (.inr (.inl h))
    · exact .inr (.inr (.inr (.inl h)))
    · exact .inr (.inr (.inr (.inr (.inl h))))
    · have : endKindOf kind = none := by
        unfold endKindOf
        split <;> first | omega | rfl
      rw [this] at hk
      cases hk
    · cases hk
      exact .inr (.inr (.inr (.inr (.inr ⟨rfl, h⟩))))

/-- A sound RX_PARTIAL_END with no block on its way has its partial page checked. -/
theorem onRxPartialEnd_of_good {n : Line} {pp c kind p : Nat} {k : EndKind} {t : State} (hr : (t.line n).state = .receiving)
    (hpage : (t.line n).page = some p) (hstore : (t.line n).storing = none) (hpp : pp = (t.line n).partialPage) (h1 : 1 ≤ c)
    (h64 : c ≤ 64) (hk : endKindOf kind = some k) (hmore : k = .more → c = 64) :
    ∃ w, SetsLine n { t.line n with
        state := .rxCheck, blockCount := c, checking := none, timer := none, remaining := 0 } t w
      ∧ onRxPartialEnd n pp c kind t = checkPartial n c k w := by
  have henter := setsLine_enterState n .rxCheck (fun r => { r with blockCount := c, checking := some (c, k) }) t
  obtain ⟨v, hv⟩ : ∃ v, enterState n .rxCheck (fun r => { r with blockCount := c, checking := some (c, k) }) t = v := ⟨_, rfl⟩
  rw [hv] at henter
  have hself := henter.line_self
  refine ⟨setLine n { v.line n with checking := none } v, ?_, ?_⟩
  · have hset := henter.trans (setsLine_setLine n { v.line n with checking := none } v)
    rw [hself] at hset ⊢
    exact hset
  · unfold onRxPartialEnd
    rw [hk]
    dsimp only
    rw [if_neg, hv, hself]
    · refine (if_neg ?_).trans ?_
      · simp only [LineRec.restart, hstore]
        exact Bool.false_ne_true
      · rfl
    · rintro (h | h | h | h | h | ⟨h, h'⟩)
      · exact h hr
      · rw [hpage] at h
        cases h
      · exact h hpp
      · omega
      · omega
      · exact h' (hmore h)

/-- What the check of a partial page finds: the page is damaged, the rounds, the kept length and the page's record. -/
def LineRec.Accepts (l : LineRec) (c : Nat) (damaged : Bool) (rounds kept : Nat) (r r' : PageRec) : Prop :=
  (l.cut = true ∧ damaged = true ∧ rounds = l.rounds ∧ kept = l.kept ∧ r' = r)
    ∨ (l.cut = false ∧ listedBlocks l.blockMap c = [] ∧ damaged = false ∧ rounds = 0 ∧ r' = r
      ∧ kept = 16384 * l.partialPage + ((List.range c).map fun b => Tab.getD l.blockMap b 0).sum)
    ∨ (l.cut = false ∧ 4 ≤ l.rounds ∧ damaged = true ∧ rounds = l.rounds ∧ r' = { r with truncated := true }
      ∧ ∃ b, (listedBlocks l.blockMap c).head? = some b ∧ kept = 16384 * l.partialPage + 256 * b)

/-- With blocks missing and rounds left, RX_REPEAT names them. -/
theorem checkPartial_of_repeats {n : Line} {c : Nat} {k : EndKind} {w : State} (hcut : (w.line n).cut = false)
    (hmiss : listedBlocks (w.line n).blockMap c ≠ []) (hrounds : (w.line n).rounds < 4) :
    checkPartial n c k w = enterState n .receiving (fun r => { r with rounds := r.rounds + 1 })
      (hand n (.rxRepeat (listedBlocks (w.line n).blockMap c)) w) := by
  unfold checkPartial
  dsimp only
  rw [hcut, if_neg Bool.false_ne_true]
  split
  next h => exact absurd h hmiss
  next b bs h => rw [if_pos hrounds, h]

/-- A page cut before is accepted damaged, and one with every block present as it is; neither touches a page's record. -/
def LineRec.AcceptsWhole (l : LineRec) (c : Nat) (damaged : Bool) (rounds kept : Nat) : Prop :=
  (l.cut = true ∧ damaged = true ∧ rounds = l.rounds ∧ kept = l.kept)
    ∨ (l.cut = false ∧ listedBlocks l.blockMap c = [] ∧ damaged = false ∧ rounds = 0
      ∧ kept = 16384 * l.partialPage + ((List.range c).map fun b => Tab.getD l.blockMap b 0).sum)

theorem checkPartial_of_acceptsWhole {n : Line} {c : Nat} {k : EndKind} {w : State} {damaged : Bool} {rounds kept : Nat}
    (h : (w.line n).AcceptsWhole c damaged rounds kept) :
    ∃ x, checkPartial n c k w = afterPartialOk n k x
      ∧ x = { w with sli := (hand n (.rxPartialOk damaged) w).sli, lne := { w.lne with lines := x.lne.lines }, dram := x.dram }
      ∧ x.line n = { w.line n with rounds := rounds, kept := kept, cut := damaged } ∧ (∀ m, m ≠ n → x.line m = w.line m)
      ∧ unchangedOutside [w.lineSpan n] w.dram x.dram := by
  rcases h with ⟨hcut, rfl, rfl, rfl⟩ | ⟨hcut, hlist, rfl, rfl, rfl⟩
  · refine ⟨hand n (.rxPartialOk true) w, ?_, ?_, ?_, fun m _ => line_hand .., ?_⟩
    · unfold checkPartial
      dsimp only
      rw [hcut]
      rfl
    · rw [hand_eq]
    · rw [line_hand, ← hcut]
    · rw [hand_eq]
      exact unchangedOutside_refl _ _
  · have hset := setsLine_modifyLine n (fun r => { r with
      rounds := 0, kept := 16384 * (w.line n).partialPage + ((List.range c).map fun b => Tab.getD (w.line n).blockMap b 0).sum })
      (hand n (.rxPartialOk false) w)
    obtain ⟨x, hx⟩ : ∃ x, modifyLine n (fun r => { r with
      rounds := 0, kept := 16384 * (w.line n).partialPage + ((List.range c).map fun b => Tab.getD (w.line n).blockMap b 0).sum })
      (hand n (.rxPartialOk false) w) = x := ⟨_, rfl⟩
    rw [hx, line_hand] at hset
    obtain ⟨hframe, hself, hlines, hmem⟩ := hset.after (onlySli_hand n _ w)
    refine ⟨x, ?_, hframe, ?_, hlines, hmem⟩
    · unfold checkPartial
      dsimp only
      rw [hcut, if_neg Bool.false_ne_true, hlist]
      dsimp only
      rw [hx]
    · rw [hself, ← hcut]

theorem checkPartial_of_accepts {n : Line} {c p : Nat} {k : EndKind} {w : State} (hpage : (w.line n).page = some p)
    {r r' : PageRec} (hp : w.page? p = some r) {damaged : Bool} {rounds kept : Nat}
    (h : (w.line n).Accepts c damaged rounds kept r r') :
    ∃ x, checkPartial n c k w = afterPartialOk n k x
      ∧ x = { w with sli := (hand n (.rxPartialOk damaged) w).sli, lne := { w.lne with lines := x.lne.lines },
                     psm := { w.psm with pages := x.psm.pages }, dram := x.dram }
      ∧ x.line n = { w.line n with rounds := rounds, kept := kept, cut := damaged } ∧ (∀ m, m ≠ n → x.line m = w.line m)
      ∧ x.page? p = some r' ∧ (∀ q, q ≠ p → x.page? q = w.page? q)
      ∧ unchangedOutside [w.lineSpan n, (w.pageAddr p, 64)] w.dram x.dram := by
  have hwhole (hw : (w.line n).AcceptsWhole c damaged rounds kept) (hr : r' = r) : ∃ x, checkPartial n c k w = afterPartialOk n k x
      ∧ x = { w with sli := (hand n (.rxPartialOk damaged) w).sli, lne := { w.lne with lines := x.lne.lines },
                     psm := { w.psm with pages := x.psm.pages }, dram := x.dram }
      ∧ x.line n = { w.line n with rounds := rounds, kept := kept, cut := damaged } ∧ (∀ m, m ≠ n → x.line m = w.line m)
      ∧ x.page? p = some r' ∧ (∀ q, q ≠ p → x.page? q = w.page? q)
      ∧ unchangedOutside [w.lineSpan n, (w.pageAddr p, 64)] w.dram x.dram := by
    obtain ⟨x, hx, hframe, hself, hlines, hmem⟩ := checkPartial_of_acceptsWhole (k := k) hw
    have hpsm : x.psm = w.psm := by rw [hframe]
    refine ⟨x, hx, ?_, hself, hlines, ?_, fun q _ => by rw [State.page?, hpsm]; rfl, hmem.of_subset (by simp)⟩
    · rw [hpsm]
      exact hframe
    · rw [State.page?, hpsm, hr]
      exact hp
  rcases h with ⟨hcut, hd, hr, hk, hrr⟩ | ⟨hcut, hlist, hd, hr, hrr, hk⟩ | ⟨hcut, hrounds, rfl, rfl, rfl, b, hb, rfl⟩
  · exact hwhole (.inl ⟨hcut, hd, hr, hk⟩) hrr
  · exact hwhole (.inr ⟨hcut, hlist, hd, hr, hk⟩) hrr
  · obtain ⟨y, hy⟩ : ∃ y, y = hand n (.rxPartialOk true) w := ⟨_, rfl⟩
    have hyframe : y = { w with sli := y.sli } := by
      rw [hy]
      exact hand_eq ..
    have hyp : y.page? p = some r := by
      rw [hyframe]
      exact hp
    have hmark : markTruncated p y = putPage p { r with truncated := true } y := modifyPage_of_some hyp _
    obtain ⟨v, hv⟩ : ∃ v, v = putPage p { r with truncated := true } y := ⟨_, rfl⟩
    have hvl (m : Line) : v.line m = w.line m := by
      rw [hv, hyframe]
      rfl
    have hset := setsLine_modifyLine n (fun r => { r with kept := blockOffset r.partialPage b, cut := true }) v
    obtain ⟨x, hx⟩ : ∃ x, modifyLine n (fun r => { r with kept := blockOffset r.partialPage b, cut := true }) v = x := ⟨_, rfl⟩
    rw [hx, hvl] at hset
    obtain ⟨ls, m, hframe, hmem⟩ := setsLine_frame hset
    have hvmem : unchangedOutside [(w.pageAddr p, 64)] w.dram v.dram := by
      have hput : unchangedOutside [(y.pageAddr p, 64)] y.dram v.dram := by
        rw [hv]
        exact unchangedOutside_store (by simp)
      rw [hyframe] at hput
      exact hput
    have hlist : ∃ bs, listedBlocks (w.line n).blockMap c = b :: bs := by
      cases hl : listedBlocks (w.line n).blockMap c with
      | nil =>
        rw [hl] at hb
        cases hb
      | cons x xs =>
        rw [hl] at hb
        cases hb
        exact ⟨xs, rfl⟩
    obtain ⟨bs, hlist⟩ := hlist
    refine ⟨x, ?_, ?_, ?_, fun m hm => ?_, ?_, fun q hq => ?_, ?_⟩
    · unfold checkPartial
      dsimp only
      rw [hcut, if_neg Bool.false_ne_true, hlist]
      dsimp only
      rw [if_neg (by omega), hpage]
      dsimp only
      rw [← hy, hmark, ← hv, hx]
    · rw [hframe, hv, ← hy, hyframe]
      rfl
    · rw [hset.line_self]
      rfl
    · rw [hset.line_of_ne hm, hvl]
    · rw [hframe, hv]
      exact page?_putPage_self ..
    · rw [hframe]
      show v.page? q = _
      rw [hv, page?_putPage_of_ne _ _ hq, hyframe]
      rfl
    · rw [show v.lineSpan n = w.lineSpan n by rw [hv, hyframe]; rfl] at hmem
      rw [hframe]
      exact (hvmem.trans hmem).of_subset (List.cons_subset.2 ⟨by simp, by simp⟩)

/-- More follows: the next partial page is received from its start. -/
theorem setsLine_morePartial (n : Line) (x : State) :
    SetsLine n { x.line n with
      partialPage := (x.line n).partialPage + 1, blockMap := [], rounds := 0, state := .receiving, timer := some .blockGap,
      remaining := x.lne.timers.blockGap } x (afterPartialOk n .more x) :=
  setsLine_enterState n .receiving (fun r => { r with partialPage := r.partialPage + 1, blockMap := [], rounds := 0 }) x

/-- `u` is `w` after a checked partial page has been accepted and its page has ended with end kind `k`. -/
structure PartialEnded (w u : State) (n : Line) (k : EndKind) (p : Nat) (damaged : Bool) (rounds kept : Nat) (r : PageRec) (doc : Doc) :
    Prop where
  frame : u = { w with
    sli := (hand n (.rxPartialOk damaged) w).endHanded n k, lne := { w.lne with lines := u.lne.lines },
    psm := { w.psm with pages := u.psm.pages, stack := u.psm.stack, lowArmed := u.psm.lowArmed },
    dju := { w.dju with docs := u.dju.docs, passDue := u.dju.passDue }, ceu := u.ceu, dram := u.dram }
  self : u.line n = ({ w.line n with rounds := rounds, kept := kept, cut := damaged } : LineRec).ended k w.lne.timers.blockGap
  lines : ∀ m, m ≠ n → u.line m = w.line m
  pages : ∀ q, q ≠ p → u.page? q = w.page? q
  sealed : kept ≠ 0 →
    (∃ check, u.page? p = some { r with
        codedLen := kept, lineCount := 0, chain := r.chain.take (segsFor kept), check := check, sealedTime := w.chg.seconds,
        state := if r.scanOverrun || r.truncated then .damaged else .complete }
      ∧ (r.chain.length ≤ segsFor kept → check = crc16 (w.streamBytes r.chain 0 kept)))
    ∧ u.dju = { w.dju with passDue := true }
    ∧ unchangedOutside (w.lineSpan n :: w.closeSpans p r.chain) w.dram u.dram
  freed : kept = 0 → u.page? p = none ∧ u.psm.stack = r.chain.reverse ++ w.psm.stack ∧ u.dju.passDue = w.dju.passDue
    ∧ u.doc? r.doc = some { doc with places := doc.places.dropLast } ∧ (∀ d, d ≠ r.doc → u.doc? d = w.doc? d)
    ∧ unchangedOutside (w.lineSpan n :: (w.docAddr r.doc, 512) :: w.freeSpans p r.chain.length) w.dram u.dram

theorem LineRec.Accepts.same {l : LineRec} {c : Nat} {damaged : Bool} {rounds kept : Nat} {r r' : PageRec}
    (h : l.Accepts c damaged rounds kept r r') : r'.doc = r.doc ∧ r'.chain = r.chain := by
  rcases h with ⟨-, -, -, -, rfl⟩ | ⟨-, -, -, -, rfl, -⟩ | ⟨-, -, -, -, rfl, -⟩ <;> exact ⟨rfl, rfl⟩

theorem partialEnded_checkPartial {n : Line} {c p : Nat} {k : EndKind} {w : State} (hpage : (w.line n).page = some p)
    {r r' : PageRec} (hp : w.page? p = some r) (hp1024 : p < 1024) {doc : Doc} (hdoc : w.doc? r.doc = some doc)
    (hkeep : doc.keep = true) (hwaits : w.noneWaits r.doc) (hk : k ≠ .more) {damaged : Bool} {rounds kept : Nat}
    (h : (w.line n).Accepts c damaged rounds kept r r') :
    PartialEnded w (checkPartial n c k w) n k p damaged rounds kept r' doc := by
  obtain ⟨x, hx, hframe, hself, hlines, hxp, hpages, hmem⟩ := checkPartial_of_accepts (k := k) hpage hp h
  obtain ⟨hrd, hrc⟩ := h.same
  have hwaitsx : x.noneWaits r'.doc := by
    intro m hm
    rw [hrd]
    by_cases hmn : m = n
    · subst hmn
      rw [hself] at hm ⊢
      exact hwaits m hm
    · rw [hlines m hmn] at hm ⊢
      exact hwaits m hm
  have e := pageEnded_afterPartialOk (t := x) (n := n) (p := p) (r := r') (doc := doc) (by rw [hself]; exact hpage) hxp hp1024
    (by rw [hrd, hframe]; exact hdoc) hkeep hwaitsx hk (kept := kept) (by rw [hself])
  rw [← hx] at e
  obtain ⟨u, hu⟩ : ∃ u, checkPartial n c k w = u := ⟨_, rfl⟩
  rw [hu] at e ⊢
  have hsli : x.endHanded n k = (hand n (.rxPartialOk damaged) w).endHanded n k := by
    have hs : x.sli = (hand n (.rxPartialOk damaged) w).sli := by rw [hframe]
    unfold State.endHanded
    rw [hs, hand_sli n .clear hs]
  have hspan : x.lineSpan n = w.lineSpan n ∧ x.closeSpans p r'.chain = w.closeSpans p r'.chain
      ∧ x.docAddr r'.doc = w.docAddr r'.doc ∧ x.freeSpans p r'.chain.length = w.freeSpans p r'.chain.length := by
    rw [hframe]
    exact ⟨rfl, rfl, rfl, rfl⟩
  obtain ⟨hspanl, hspanc, hspand, hspanf⟩ := hspan
  refine ⟨?_, ?_, fun m hm => ?_, fun q hq => ?_, fun hz => ?_, fun hz => ?_⟩
  · have hf := e.frame
    rw [hsli] at hf
    rw [hframe] at hf
    exact hf
  · rw [e.self, hself, show x.lne.timers = w.lne.timers by rw [hframe]]
  · rw [e.lines m hm, hlines m hm]
  · rw [e.pages q hq, hpages q hq]
  · obtain ⟨⟨check, hsealed, hcheck⟩, hdju, hmemu⟩ := e.sealed hz
    refine ⟨⟨check, ?_, fun hle => ?_⟩, ?_, ?_⟩
    · rw [hsealed, show x.chg = w.chg by rw [hframe]]
    · rw [hcheck hle]
      exact congrArg crc16 (streamBytes_congr (by rw [hframe]; rfl) (fun a ha => get_above_line hp1024 hmem ha) ..)
    · rw [hdju, hframe]
    · rw [hspanl, hspanc] at hmemu
      refine (hmem.trans hmemu).of_subset (List.append_subset.2 ⟨?_, List.Subset.refl _⟩)
      exact List.cons_subset_cons _ (List.cons_subset.2 ⟨mem_closeSpans_page w p _, List.nil_subset _⟩)
  · obtain ⟨hgone, hstack, hpass, hlast, hothers, hmemu⟩ := e.freed hz
    refine ⟨hgone, ?_, ?_, hlast, fun d hd => ?_, ?_⟩
    · rw [hstack, hframe]
    · rw [hpass, hframe]
    · rw [hothers d hd, hframe]
      rfl
    · rw [hspanl, hspand, hspanf] at hmemu
      refine (hmem.trans hmemu).of_subset (List.append_subset.2 ⟨?_, List.Subset.refl _⟩)
      exact List.cons_subset_cons _ (List.cons_subset.2 ⟨List.mem_cons_of_mem _ (mem_freeSpans_page w p _), List.nil_subset _⟩)

/-- `u` is `w` after a checked partial page has been accepted with more to follow. -/
structure PartialMore (w u : State) (n : Line) (p : Nat) (damaged : Bool) (kept : Nat) (r : PageRec) : Prop where
  frame : u = { w with
    sli := (hand n (.rxPartialOk damaged) w).sli, lne := { w.lne with lines := u.lne.lines },
    psm := { w.psm with pages := u.psm.pages }, dram := u.dram }
  self : u.line n = { w.line n with
    partialPage := (w.line n).partialPage + 1, blockMap := [], rounds := 0, state := .receiving, timer := some .blockGap,
    remaining := w.lne.timers.blockGap, kept := kept, cut := damaged }
  lines : ∀ m, m ≠ n → u.line m = w.line m
  page : u.page? p = some r
  pages : ∀ q, q ≠ p → u.page? q = w.page? q
  dram : unchangedOutside [w.lineSpan n, (w.pageAddr p, 64)] w.dram u.dram

theorem partialMore_checkPartial {n : Line} {c p : Nat} {w : State} (hpage : (w.line n).page = some p) {r r' : PageRec}
    (hp : w.page? p = some r) {damaged : Bool} {rounds kept : Nat} (h : (w.line n).Accepts c damaged rounds kept r r') :
    PartialMore w (checkPartial n c .more w) n p damaged kept r' := by
  obtain ⟨x, hx, hframe, hself, hlines, hxp, hpages, hmem⟩ := checkPartial_of_accepts (k := .more) hpage hp h
  have hset := setsLine_morePartial n x
  rw [← hx] at hset
  obtain ⟨u, hu⟩ : ∃ u, checkPartial n c .more w = u := ⟨_, rfl⟩
  rw [hu] at hset ⊢
  obtain ⟨ls, m, huframe, hmemu⟩ := setsLine_frame hset
  have hspan : x.lineSpan n = w.lineSpan n := by
    rw [hframe]
    rfl
  rw [hspan] at hmemu
  have hudram : u.dram = m := by rw [huframe]
  have hupsm : u.psm = x.psm := by rw [huframe]
  refine ⟨?_, ?_, fun m hm => ?_, ?_, fun q hq => ?_, ?_⟩
  · rw [huframe, hframe]
  · rw [hset.line_self, hself, show x.lne.timers = w.lne.timers by rw [hframe]]
  · rw [hset.line_of_ne hm, hlines m hm]
  · rw [State.page?, hupsm]
    exact hxp
  · rw [State.page?, hupsm]
    exact hpages q hq
  · rw [hudram]
    exact (hmem.trans hmemu).of_subset (by simp)

end Sys2Proof.Machine
end

section
/-! PROOFS. The rows of the inbound session, from what its page, its partial pages and its blocks do (R139 to R141). -/

namespace Sys2Proof.Machine

set_option Elab.async false

/-! ## A block stored (R140) -/

theorem blockStored_of_none {n : Line} {s : State} (h : (s.line n).storing = none) : blockStored n s = s := by
  unfold blockStored
  dsimp only
  rw [h]

/-- A line's record lies apart from every segment, so its bytes are no stream's. -/
theorem get_stream_line {s : State} {n : Line} {m m' : Mem} (h : unchangedOutside [s.lineSpan n] m m') (chain : List Nat) (o : Nat) :
    Mem.get m' (s.streamAddr chain o) = Mem.get m (s.streamAddr chain o) := by
  refine h _ fun x hx => ?_
  obtain rfl := List.mem_singleton.1 hx
  rw [within_eq_false_iff]
  have hn : n.val < 8 := n.isLt
  simp only [State.lineSpan, State.por, State.streamAddr, State.segAddr] at *
  omega

/-- The block on its way into the page's store stands there, and its line's record and its buffer know it. -/
theorem blockStored_of_some {n : Line} {s : State} {b : StoringBlock} {p : Nat} {r : PageRec} (hstore : (s.line n).storing = some b)
    (hpage : (s.line n).page = some p) (hp : s.page? p = some r) (hnodup : r.chain.Nodup)
    (hfits : 16384 * b.partialPage + 256 * b.block + b.bytes.length ≤ 1020 * r.chain.length) :
    ∃ v, v = { s with sli := { s.sli with inLines := v.sli.inLines }, lne := { s.lne with lines := v.lne.lines }, dram := v.dram }
      ∧ v.streamBytes r.chain (16384 * b.partialPage + 256 * b.block) b.bytes.length = b.bytes
      ∧ (∀ i, i < 1020 * r.chain.length → i < 16384 * b.partialPage + 256 * b.block
            ∨ 16384 * b.partialPage + 256 * b.block + b.bytes.length ≤ i →
          Mem.get v.dram (s.streamAddr r.chain i) = Mem.get s.dram (s.streamAddr r.chain i))
      ∧ v.line n = { s.line n with storing := none, checking := none,
                                   blockMap := Tab.set (s.line n).blockMap b.block b.bytes.length }
      ∧ (∀ m, m ≠ n → v.line m = s.line m)
      ∧ v.inLine n.val = { s.inLine n.val with complete := false, occupied := false }
      ∧ (∀ k, k ≠ n.val → v.inLine k = s.inLine k)
      ∧ unchangedOutside ([s.lineSpan n] ++ r.chain.map fun i => (s.segAddr i, 1020)) s.dram v.dram
      ∧ ((s.line n).checking = none → blockStored n s = v)
      ∧ ∀ c k, (s.line n).checking = some (c, k) → blockStored n s = checkPartial n c k v := by
  obtain ⟨m1, hstream, hmem1, hbytes⟩ := writeStream_spec r.chain (16384 * b.partialPage + 256 * b.block) b.bytes s
  obtain ⟨hnew, hold⟩ := hbytes hnodup hfits
  obtain ⟨t, ht⟩ : ∃ t : State, t = { s with dram := m1 } := ⟨_, rfl⟩
  rw [← ht] at hstream
  have hset := setsLine_modifyLine n (fun l => { l with storing := none, blockMap := Tab.set l.blockMap b.block b.bytes.length }) t
  obtain ⟨x, hx⟩ : ∃ x, modifyLine n (fun l => { l with storing := none, blockMap := Tab.set l.blockMap b.block b.bytes.length }) t = x :=
    ⟨_, rfl⟩
  rw [hx] at hset
  have htl (m : Line) : t.line m = s.line m := by
    rw [ht]
    rfl
  obtain ⟨y, hy⟩ : ∃ y, y = releaseBuffer n.val x := ⟨_, rfl⟩
  obtain ⟨v, hv⟩ : ∃ v, v = setLine n { y.line n with checking := none } y := ⟨_, rfl⟩
  have hself := hset.line_self
  obtain ⟨m2, hxeq, hmem2⟩ := hset
  rw [htl] at hxeq hself
  have hyl (m : Line) : y.line m = x.line m := by
    rw [hy]
    rfl
  have hmem1' : t.dram = m1 := by rw [ht]
  rw [hmem1', show t.lineSpan n = s.lineSpan n by rw [ht]; rfl] at hmem2
  have hvframe : v = { s with
      sli := { s.sli with inLines := Tab.set s.sli.inLines n.val { s.inLine n.val with complete := false, occupied := false } },
      lne := { s.lne with lines := v.lne.lines }, dram := m2 } := by
    rw [hv, hy, hxeq, ht]
    rfl
  have hlp : s.linePage n = some r := by
    rw [State.linePage, hpage]
    exact hp
  refine ⟨v, ?_, ?_, fun i hi hapart => ?_, ?_, fun m hm => ?_, ?_, fun k hk => ?_, ?_, fun hnone => ?_, fun c k hck => ?_⟩
  · rw [hvframe]
  · refine streamBytes_eq_of_get fun i hi => ?_
    have haddr (o : Nat) : v.streamAddr r.chain o = s.streamAddr r.chain o := by
      rw [hvframe]
      rfl
    rw [haddr, show v.dram = m2 by rw [hvframe], get_stream_line hmem2]
    exact hnew i hi
  · rw [show v.dram = m2 by rw [hvframe], get_stream_line hmem2]
    exact hold i hi hapart
  · rw [hv, line_setLine_self, hyl, hself]
  · rw [hv, line_setLine_of_ne _ _ hm, hyl, hxeq]
    exact (line_setLine_of_ne _ t hm).trans (htl m)
  · rw [hvframe]
    exact Tab.getD_set_self ..
  · rw [hvframe]
    exact Tab.getD_set_of_ne _ _ _ hk
  · rw [show v.dram = m2 by rw [hvframe]]
    exact (hmem1.trans hmem2).of_subset (List.append_subset.2 ⟨List.subset_append_right _ _, List.subset_append_left _ _⟩)
  · have hblock : blockStored n s = y := by
      unfold blockStored
      dsimp only
      rw [hstore, hlp]
      dsimp only [blockOffset]
      rw [hnone, hstream, hx, ← hy]
    have hrec : ({ y.line n with checking := none } : LineRec) = y.line n := by
      rw [hyl, hself]
      simp only [hnone]
    rw [hblock, hv, hrec, hyl, hself, hy, hxeq]
    simp only [setLine, releaseBuffer, setInLine, Tab.set_set]
  · unfold blockStored
    dsimp only
    rw [hstore, hlp]
    dsimp only [blockOffset]
    rw [hck, hstream, hx, ← hy]
    dsimp only
    rw [hv]

/-! ## A page already open when another begins (R139, R141) -/

theorem closedEarly_of_restart {s v : State} {n : Line} {l l' : LineRec} {p kept : Nat} {r : PageRec}
    (h : ClosedEarly (setLine n l' s) v n l p kept r) : ClosedEarly s v n l p kept r := by
  obtain ⟨hframe, hself, hlines, hpages, hsealed, hfreed, hmem⟩ := h
  obtain ⟨hpsm, hceu⟩ := returned_congr (s := s) (t := setLine n l' s) rfl rfl rfl rfl (r.chain.drop (segsFor kept)).reverse
  have hps : ((setLine n l' s).returned (r.chain.drop (segsFor kept)).reverse).psm
      = (s.returned (r.chain.drop (segsFor kept)).reverse).psm := by
    obtain ⟨a, c, m, hret⟩ := s.returned_spec (r.chain.drop (segsFor kept)).reverse
    rw [hpsm, hret]
    rfl
  refine ⟨?_, hself, fun m hm => ?_, hpages, hsealed, hfreed, hmem⟩
  · have hf : v = { setLine n l' s with
        lne := { (setLine n l' s).lne with lines := v.lne.lines },
        psm := { ((setLine n l' s).returned (r.chain.drop (segsFor kept)).reverse).psm with pages := v.psm.pages },
        ceu := ((setLine n l' s).returned (r.chain.drop (segsFor kept)).reverse).ceu,
        dju := { s.dju with docs := v.dju.docs, passDue := s.dju.passDue || decide (kept ≠ 0) }, dram := v.dram } := hframe
    rw [hps, hceu] at hf
    exact hf
  · exact (hlines m hm).trans (line_setLine_of_ne _ _ hm)

theorem closeEarly_lines {s : State} {n : Line} {p kept : Nat} {r : PageRec} {doc : Doc} (hpage : (s.line n).page = some p)
    (hstore : (s.line n).storing = none) (hp : s.page? p = some r) (hdoc : s.doc? r.doc = some doc) (hkeep : doc.keep = true)
    (hwaits : s.noneWaits r.doc) (hk : (s.line n).KeepsEarly kept) :
    (closeEarly n s).lne.lines = Tab.set s.lne.lines n.val { s.line n with page := none, kept := kept } := by
  obtain ⟨t, ht⟩ : ∃ t, t = modifyLine n (fun r => { r with page := none, kept := kept }) s := ⟨_, rfl⟩
  have hsets : SetsLine n { s.line n with page := none, kept := kept } s t := by
    rw [ht]
    exact setsLine_modifyLine n _ s
  have hwaitst : t.noneWaits r.doc := State.noneWaits_of_setsLine hsets rfl rfl hwaits
  obtain ⟨m, hframe, -⟩ := hsets
  have htp : t.page? p = some r := by rw [hframe]; exact hp
  have hmark : markTruncated p t = putPage p { r with truncated := true } t := modifyPage_of_some htp _
  have hclose : closeEarly n s = sealPage p kept 0 (putPage p { r with truncated := true } t) := by
    unfold closeEarly
    rw [giveUpStore_of_none hstore]
    dsimp only
    rw [hpage]
    dsimp only
    rw [LineRec.extended_of_keepsEarly hk, ← ht, hmark]
  have hc := pageClosed_sealPage (t := putPage p { r with truncated := true } t) (p := p) (r := { r with truncated := true }) (doc := doc)
    (page?_putPage_self ..) (by rw [hframe]; exact hdoc) hkeep hwaitst kept 0
  rw [hclose, hc.frame, hframe]
  rfl

theorem exec_rxPageBegin_of_hears {n : Line} {cls res : Byte} {s : State} (h : s.hears = true) (hst : (s.line n).state = .receiving) :
    exec (.rxPageBegin n cls res) s = .next (onRxPageBegin n cls.toNat res.toNat (setLine n (s.gapStarted n) s)) := by
  rw [exec_rxPageBegin, delivered_of_receiving h hst, restartTimer_of_receiving hst]

/-- The closed page's row and the row again from there are one. -/
theorem rxPageBegin_closes {n : Line} {cls res : Byte} {s : State} {p kept : Nat} {r : PageRec} {doc : Doc} (h : s.hears = true)
    (hst : (s.line n).state = .receiving) (hc : cls.toNat ≤ 2) (hr : res.toNat ≤ 1) (hpage : (s.line n).page = some p)
    (hp : s.page? p = some r) (hp1024 : p < 1024) (hstore : (s.line n).storing = none) (hdoc : s.doc? r.doc = some doc)
    (hkeep : doc.keep = true) (hwaits : s.noneWaits r.doc) (hk : (s.line n).KeepsEarly kept) :
    ∃ v, exec (.rxPageBegin n cls res) s = exec (.rxPageBegin n cls res) v
      ∧ ClosedEarly s v n { s.gapStarted n with page := none, kept := kept } p kept r := by
  obtain ⟨w, hw⟩ := widthClassOf_of_le hc
  obtain ⟨q, hq⟩ := resolutionOf_of_le hr
  obtain ⟨t, ht⟩ : ∃ t, t = setLine n (s.gapStarted n) s := ⟨_, rfl⟩
  have htn : t.line n = s.gapStarted n := by rw [ht, line_setLine_self]
  have hset : SetsLine n (s.gapStarted n) s t := by
    rw [ht]
    exact setsLine_setLine ..
  have hwaitst : t.noneWaits r.doc := State.noneWaits_of_setsLine hset rfl rfl hwaits
  have htp : t.page? p = some r := by rw [ht]; exact hp
  have htdoc : t.doc? r.doc = some doc := by rw [ht]; exact hdoc
  have hkt : (t.line n).KeepsEarly kept := by rw [htn]; exact hk
  have hlines := closeEarly_lines (s := t) (n := n) (by rw [htn]; exact hpage) (by rw [htn]; exact hstore) htp htdoc hkeep hwaitst hkt
  have hclosed := closedEarly_closeEarly (s := t) (n := n) (by rw [htn]; exact hpage) (by rw [htn]; exact hstore) htp hp1024 htdoc
    hkeep hwaitst hkt
  obtain ⟨v, hv⟩ : ∃ v, closeEarly n t = v := ⟨_, rfl⟩
  rw [hv] at hclosed hlines
  rw [htn] at hclosed hlines
  have hvn : v.line n = { s.gapStarted n with page := none, kept := kept } := hclosed.2.1
  have hvrest : v.sli = s.sli ∧ v.rgw = s.rgw ∧ v.lne.timers = s.lne.timers := by
    rw [hclosed.1, ht]
    exact ⟨rfl, rfl, rfl⟩
  obtain ⟨hvsli, hvrgw, hvtimers⟩ := hvrest
  have hvhears : v.hears = true := by
    rw [State.hears_iff] at h ⊢
    rw [State.linkUp, hvsli, hvrgw]
    exact h
  have hvst : (v.line n).state = .receiving := by rw [hvn]; exact hst
  have hsame : setLine n (v.gapStarted n) v = v := by
    have hrec : v.gapStarted n = { s.gapStarted n with page := none, kept := kept } := by
      rw [State.gapStarted, hvn, hvtimers]
      rfl
    have hset : Tab.set v.lne.lines n.val (v.gapStarted n) = v.lne.lines := by
      rw [hlines, Tab.set_set, hrec]
    rw [setLine, hset]
  refine ⟨v, ?_, closedEarly_of_restart (by rw [ht] at hclosed; exact hclosed)⟩
  rw [exec_rxPageBegin_of_hears h hst, exec_rxPageBegin_of_hears hvhears hvst, hsame, ← ht]
  rw [onRxPageBegin_of_codes hw hq (by rw [htn]; exact .inr hst), onRxPageBegin_of_codes hw hq (.inr hvst)]
  unfold beginPage
  rw [hv, closeEarly_of_noPage (s := v) (by rw [hvn]; exact hstore) (by rw [hvn])]

/-! ## RX_PARTIAL_END in RECEIVING (R141) -/

theorem exec_rxPartialEnd_of_hears {n : Line} {pp count kind : Byte} {s : State} (h : s.hears = true)
    (hst : (s.line n).state = .receiving) : exec (.rxPartialEnd n pp count kind) s
      = .next (onRxPartialEnd n pp.toNat count.toNat kind.toNat (setLine n (s.gapStarted n) s)) := by
  rw [exec_rxPartialEnd, delivered_of_receiving h hst, restartTimer_of_receiving hst]

/-- The record of line `n` as its partial page of `c` blocks is checked. -/
def State.checked (s : State) (n : Line) (c : Nat) : LineRec :=
  { s.line n with state := .rxCheck, blockCount := c, checking := none, timer := none, remaining := 0 }

theorem rxPartialEnd_checked {n : Line} {pp count kind : Byte} {p : Nat} {k : EndKind} {s : State} (h : s.hears = true)
    (hst : (s.line n).state = .receiving) (hpage : (s.line n).page = some p) (hstore : (s.line n).storing = none)
    (hpp : pp.toNat = (s.line n).partialPage) (h1 : 1 ≤ count.toNat) (h64 : count.toNat ≤ 64) (hk : endKindOf kind.toNat = some k)
    (hmore : k = .more → count.toNat = 64) :
    ∃ w, SetsLine n (s.checked n count.toNat) s w
      ∧ exec (.rxPartialEnd n pp count kind) s = .next (checkPartial n count.toNat k w) := by
  have hself : (setLine n (s.gapStarted n) s).line n = s.gapStarted n := line_setLine_self ..
  obtain ⟨w, hw, heq⟩ := onRxPartialEnd_of_good (t := setLine n (s.gapStarted n) s) (n := n) (pp := pp.toNat) (c := count.toNat)
    (kind := kind.toNat) (p := p) (k := k) (by rw [hself]; exact hst) (by rw [hself]; exact hpage) (by rw [hself]; exact hstore)
    (by rw [hself]; exact hpp) h1 h64 hk hmore
  rw [hself] at hw
  exact ⟨w, (setsLine_setLine n (s.gapStarted n) s).trans hw, by rw [exec_rxPartialEnd_of_hears h hst, heq]⟩

theorem closeSpans_cover {α : Type} (line page status : α) (events trailers entries : List α) :
    [line] ++ (line :: ([page, status] ++ events ++ trailers ++ entries))
      ⊆ (line :: page :: status :: events ++ entries) ++ trailers := by
  intro x hx
  simp only [List.mem_append, List.mem_cons, List.not_mem_nil, List.cons_append] at hx ⊢
  tauto

theorem freeSpans_cover {α : Type} (line page status doc : α) (events entries : List α) :
    [line] ++ (line :: doc :: ([page, status] ++ events ++ entries)) ⊆ doc :: (line :: page :: status :: events ++ entries) := by
  intro x hx
  simp only [List.mem_append, List.mem_cons, List.not_mem_nil, List.cons_append] at hx ⊢
  tauto

theorem spans_head {α : Type} (a : α) (l : List α) : [a] ++ (a :: l) ⊆ a :: l := by simp

/-- A checked partial page accepted with its page's end, seen from before the check. -/
theorem PartialEnded.before {s w u : State} {n : Line} {k : EndKind} {c p : Nat} {damaged : Bool} {rounds kept : Nat} {r : PageRec}
    {doc : Doc} (e : PartialEnded w u n k p damaged rounds kept r doc) (hw : SetsLine n (s.checked n c) s w) :
    u = { s with
        sli := (hand n (.rxPartialOk damaged) s).endHanded n k, lne := { s.lne with lines := u.lne.lines },
        psm := { s.psm with pages := u.psm.pages, stack := u.psm.stack, lowArmed := u.psm.lowArmed },
        dju := { s.dju with docs := u.dju.docs, passDue := u.dju.passDue }, ceu := u.ceu, dram := u.dram }
      ∧ u.line n = ({ s.checked n c with rounds := rounds, kept := kept, cut := damaged } : LineRec).ended k s.lne.timers.blockGap
      ∧ (∀ m, m ≠ n → u.line m = s.line m) ∧ (∀ q, q ≠ p → u.page? q = s.page? q)
      ∧ (kept ≠ 0 →
        (p < 1024 → ∃ check, u.page? p = some { r with
            codedLen := kept, lineCount := 0, chain := r.chain.take (segsFor kept), check := check, sealedTime := s.chg.seconds,
            state := if r.scanOverrun || r.truncated then .damaged else .complete }
          ∧ (r.chain.length ≤ segsFor kept → check = crc16 (s.streamBytes r.chain 0 kept)))
        ∧ u.dju = { s.dju with passDue := true }
        ∧ unchangedOutside ([s.lineSpan n] ++ s.lineSpan n :: s.closeSpans p r.chain) s.dram u.dram)
      ∧ (kept = 0 → u.page? p = none ∧ u.psm.stack = r.chain.reverse ++ s.psm.stack ∧ u.dju.passDue = s.dju.passDue
        ∧ u.doc? r.doc = some { doc with places := doc.places.dropLast } ∧ (∀ d, d ≠ r.doc → u.doc? d = s.doc? d)
        ∧ unchangedOutside ([s.lineSpan n] ++ s.lineSpan n :: (s.docAddr r.doc, 512) :: s.freeSpans p r.chain.length)
            s.dram u.dram) := by
  obtain ⟨ls, m, hframe, hmem⟩ := setsLine_frame hw
  have hsame : w.lineSpan n = s.lineSpan n ∧ w.closeSpans p r.chain = s.closeSpans p r.chain
      ∧ w.docAddr r.doc = s.docAddr r.doc ∧ w.freeSpans p r.chain.length = s.freeSpans p r.chain.length := by
    rw [hframe]
    exact ⟨rfl, rfl, rfl, rfl⟩
  obtain ⟨hspanl, hspanc, hspand, hspanf⟩ := hsame
  have hdram : w.dram = m := by rw [hframe]
  have hsli : (hand n (.rxPartialOk damaged) w).endHanded n k = (hand n (.rxPartialOk damaged) s).endHanded n k := by
    have hs : (hand n (.rxPartialOk damaged) w).sli = (hand n (.rxPartialOk damaged) s).sli := hand_sli n _ (by rw [hframe])
    unfold State.endHanded
    rw [hs, hand_sli n .clear hs]
  refine ⟨?_, ?_, fun j hj => ?_, fun q hq => ?_, fun hz => ⟨fun hp1024 => ?_, ?_, ?_⟩, fun hz => ?_⟩
  · have hf := e.frame
    rw [hsli] at hf
    rw [hframe] at hf
    exact hf
  · rw [e.self, hw.line_self, show w.lne.timers = s.lne.timers by rw [hframe]]
  · rw [e.lines j hj, hw.line_of_ne hj]
  · rw [e.pages q hq, hframe]
    rfl
  · obtain ⟨⟨check, hsealed, hcheck⟩, -, -⟩ := e.sealed hz
    refine ⟨check, ?_, fun hle => ?_⟩
    · rw [hsealed, show w.chg = s.chg by rw [hframe]]
    · rw [hcheck hle]
      refine congrArg crc16 (streamBytes_congr (by rw [hframe]; rfl) (fun a ha => ?_) ..)
      rw [hdram]
      exact get_above_line hp1024 (hmem.of_subset (List.cons_subset_cons _ (List.nil_subset _))) ha
  · rw [(e.sealed hz).2.1, hframe]
  · have hmemu := (e.sealed hz).2.2
    rw [hspanl, hspanc, hdram] at hmemu
    exact hmem.trans hmemu
  · obtain ⟨hgone, hstack, hpass, hlast, hothers, hmemu⟩ := e.freed hz
    rw [hspanl, hspand, hspanf, hdram] at hmemu
    refine ⟨hgone, ?_, ?_, hlast, fun d hd => ?_, hmem.trans hmemu⟩
    · rw [hstack, hframe]
    · rw [hpass, hframe]
    · rw [hothers d hd, hframe]
      rfl

end Sys2Proof.Machine
end

section
/-! PROOFS. What the part does with an inbound session's pages, partial pages and blocks (R139 to R142): O58. -/

namespace Sys2Proof.Machine

set_option Elab.async false

/-! ## RX_PAGE_BEGIN -/

theorem rxPageBegin_of_badCodes {n : Line} {cls res : Byte} {s : State} (h : s.hears = true) (hst : (s.line n).state = .answering)
    (hbad : 2 < cls.toNat ∨ 1 < res.toNat) : exec (.rxPageBegin n cls res) s = .next s := by
  rw [exec_rxPageBegin, delivered_of_hears h (by rw [hst]; exact fun e => nomatch e), onRxPageBegin_of_badCodes hbad]

theorem exec_rxPageBegin_of_codes {n : Line} {cls res : Byte} {s : State} {w : WidthClass} {q : Resolution} (h : s.hears = true)
    (hst : (s.line n).state = .answering ∨ (s.line n).state = .receiving) (hw : widthClassOf cls.toNat = some w)
    (hq : resolutionOf res.toNat = some q) : ∃ t ls, exec (.rxPageBegin n cls res) s = .next (beginPage n w q t)
      ∧ t = { s with lne := { s.lne with lines := ls } }
      ∧ (∃ x y, t.line n = { s.line n with timer := x, remaining := y }) ∧ ∀ m, m ≠ n → t.line m = s.line m := by
  obtain ⟨t, ls, ht, hframe, ⟨x, y, hself⟩, hlines⟩ :=
    delivered_of_inbound (act := onRxPageBegin n cls.toNat res.toNat) h hst
  refine ⟨t, ls, ?_, hframe, ⟨x, y, hself⟩, hlines⟩
  rw [exec_rxPageBegin, ht, onRxPageBegin_of_codes hw hq (by rw [hself]; exact hst)]

/-- A session given up hands ABANDON and CLEAR and clears its line. -/
theorem abandonLine_spec {n : Line} {cause : Cause} {s t : State} {ls : Tab LineRec}
    (ht : t = { s with lne := { s.lne with lines := ls } })
    (hself : ∃ x y, t.line n = { s.line n with timer := x, remaining := y }) (hlines : ∀ m, m ≠ n → t.line m = s.line m) :
    ∃ u, abandonLine n cause t = u
      ∧ u = { s with sli := (hand n .clear (hand n .abandon s)).sli, lne := { s.lne with lines := u.lne.lines }, dram := u.dram }
      ∧ u.line n = { s.line n with state := .clearing, cause := some cause, timer := some .clearing, remaining := 100 }
      ∧ (∀ m, m ≠ n → u.line m = s.line m) ∧ unchangedOutside [(s.por (0x80 + 256 * n.val), 256)] s.dram u.dram := by
  obtain ⟨x, y, hself⟩ := hself
  have hset := setsLine_clearLine n cause (hand n .abandon t)
  have hsli : (hand n .clear (hand n .abandon t)).sli = (hand n .clear (hand n .abandon s)).sli :=
    hand_sli n .clear (hand_sli n .abandon (by rw [ht]))
  have hb : OnlySli t (hand n .clear (hand n .abandon t)) := (onlySli_hand n .abandon t).hand n .clear
  obtain ⟨hu, hun, hum, hmem⟩ := hset.after hb
  rw [hsli] at hu
  refine ⟨_, rfl, ?_, ?_, fun m hm => (hum m hm).trans (hlines m hm), ?_⟩
  · rw [abandonLine, hu, ht]
  · rw [abandonLine, hun, line_hand, hself]
  · rw [ht] at hmem
    rw [ht]
    exact hmem

/-! ## RX_PARTIAL_END -/

/-- A checked partial page accepted with more to follow, seen from before the check. -/
theorem PartialMore.before {s w u : State} {n : Line} {c p : Nat} {damaged : Bool} {kept : Nat} {r : PageRec}
    (e : PartialMore w u n p damaged kept r) (hw : SetsLine n (s.checked n c) s w) (hst : (s.line n).state = .receiving) :
    u = { s with
        sli := (hand n (.rxPartialOk damaged) s).sli, lne := { s.lne with lines := u.lne.lines },
        psm := { s.psm with pages := u.psm.pages }, dram := u.dram }
      ∧ u.line n = { s.gapStarted n with
          blockCount := c, checking := none, partialPage := (s.line n).partialPage + 1, blockMap := [], rounds := 0, kept := kept,
          cut := damaged }
      ∧ (∀ m, m ≠ n → u.line m = s.line m) ∧ u.page? p = some r ∧ (∀ q, q ≠ p → u.page? q = s.page? q)
      ∧ unchangedOutside [(s.pageAddr p, 64), s.lineSpan n] s.dram u.dram := by
  obtain ⟨ls, m, hframe, hmem⟩ := setsLine_frame hw
  have hspan : w.lineSpan n = s.lineSpan n := by rw [hframe]; rfl
  have hspanp : w.pageAddr p = s.pageAddr p := by rw [hframe]; rfl
  have hdram : w.dram = m := by rw [hframe]
  have hsli : (hand n (.rxPartialOk damaged) w).sli = (hand n (.rxPartialOk damaged) s).sli := hand_sli n _ (by rw [hframe])
  refine ⟨?_, ?_, fun j hj => ?_, e.page, fun q hq => ?_, ?_⟩
  · have hf := e.frame
    rw [hsli] at hf
    rw [hframe] at hf
    exact hf
  · rw [e.self, hw.line_self, show w.lne.timers = s.lne.timers by rw [hframe]]
    simp only [State.checked, State.gapStarted, hst]
  · rw [e.lines j hj, hw.line_of_ne hj]
  · rw [e.pages q hq, hframe]
    rfl
  · have h := e.dram
    rw [hspan, hspanp, hdram] at h
    exact (hmem.trans h).of_subset (by simp)

theorem State.noneWaits_of_busy {s t : State} {n : Line} {r : LineRec} {d : Nat} (h : SetsLine n r s t)
    (hstate : r.state ≠ .dataWait) (hw : s.noneWaits d) : t.noneWaits d := by
  intro m hm
  by_cases hmn : m = n
  · subst hmn
    rw [h.line_self] at hm
    exact absurd hm hstate
  · rw [h.line_of_ne hmn] at hm ⊢
    exact hw m hm

theorem endKindOf_one_or_two {kind : Byte} (h : kind = 1 ∨ kind = 2) : ∃ k, endKindOf kind.toNat = some k ∧ k ≠ .more
    ∧ (kind = 1 ↔ k = .pageEnd) := by
  rcases h with rfl | rfl
  · exact ⟨.pageEnd, rfl, by decide, by decide⟩
  · exact ⟨.docEnd, rfl, by decide, by decide⟩

theorem endKindOf_of_le {kind : Byte} (h : kind.toNat ≤ 2) : ∃ k, endKindOf kind.toNat = some k ∧ (k = .more → kind = 0) := by
  obtain h0 | h1 | h2 : kind.toNat = 0 ∨ kind.toNat = 1 ∨ kind.toNat = 2 := by omega
  · exact ⟨.more, by rw [h0]; rfl, fun _ => BitVec.eq_of_toNat_eq h0⟩
  · exact ⟨.pageEnd, by rw [h1]; rfl, fun e => nomatch e⟩
  · exact ⟨.docEnd, by rw [h2]; rfl, fun e => nomatch e⟩

section

variable {n : Line} {pp count kind : Byte} {p : Nat} {s : State} (h : s.hears = true) (hst : (s.line n).state = .receiving)
include h hst

theorem rxPartialEnd_ignored (hbad : pp.toNat ≠ (s.line n).partialPage ∨ count.toNat < 1 ∨ 64 < count.toNat ∨ 2 < kind.toNat
      ∨ (kind = 0 ∧ count.toNat ≠ 64)) :
    exec (.rxPartialEnd n pp count kind) s = .next (setLine n (s.gapStarted n) s) := by
  rw [exec_rxPartialEnd_of_hears h hst, onRxPartialEnd_of_bad]
  rw [line_setLine_self]
  rcases hbad with hb | hb | hb | hb | ⟨rfl, hb⟩
  · exact .inl hb
  · exact .inr (.inl hb)
  · exact .inr (.inr (.inl hb))
  · exact .inr (.inr (.inr (.inl hb)))
  · exact .inr (.inr (.inr (.inr ⟨rfl, hb⟩)))

variable (hpage : (s.line n).page = some p) (hstore : (s.line n).storing = none) (hpp : pp.toNat = (s.line n).partialPage)
  (h1 : 1 ≤ count.toNat) (h64 : count.toNat ≤ 64)
include hpage hstore hpp h1 h64

theorem rxPartialEnd_repeats {k : EndKind} (hk : endKindOf kind.toNat = some k) (hmore : k = .more → count.toNat = 64)
    (hcut : (s.line n).cut = false) (hmiss : listedBlocks (s.line n).blockMap count.toNat ≠ []) (hrounds : (s.line n).rounds < 4) :
    ∃ u, exec (.rxPartialEnd n pp count kind) s = .next u
      ∧ u = { s with sli := (hand n (.rxRepeat (listedBlocks (s.line n).blockMap count.toNat)) s).sli,
                     lne := { s.lne with lines := u.lne.lines }, dram := u.dram }
      ∧ u.line n = { s.gapStarted n with blockCount := count.toNat, checking := none, rounds := (s.line n).rounds + 1 }
      ∧ (∀ m, m ≠ n → u.line m = s.line m) ∧ unchangedOutside [s.lineSpan n] s.dram u.dram := by
  obtain ⟨w, hw, hexec⟩ := rxPartialEnd_checked h hst hpage hstore hpp h1 h64 hk hmore
  have hself := hw.line_self
  rw [checkPartial_of_repeats (by rw [hself]; exact hcut) (by rw [hself]; exact hmiss) (by rw [hself]; exact hrounds)] at hexec
  have hset := setsLine_enterState n .receiving (fun r => { r with rounds := r.rounds + 1 })
    (hand n (.rxRepeat (listedBlocks (w.line n).blockMap count.toNat)) w)
  rw [show listedBlocks (w.line n).blockMap count.toNat = listedBlocks (s.line n).blockMap count.toNat by rw [hself]; rfl] at hset hexec
  obtain ⟨u, hu⟩ : ∃ u, enterState n .receiving (fun r => { r with rounds := r.rounds + 1 })
    (hand n (.rxRepeat (listedBlocks (s.line n).blockMap count.toNat)) w) = u := ⟨_, rfl⟩
  rw [hu] at hset hexec
  obtain ⟨hf, hun, hum, hmem⟩ := hset.after (onlySli_hand n _ w)
  obtain ⟨ls, m, hframe, hmemw⟩ := setsLine_frame hw
  rw [hand_sli n _ (show w.sli = s.sli by rw [hframe])] at hf
  refine ⟨u, hexec, ?_, ?_, fun j hj => (hum j hj).trans (hw.line_of_ne hj), ?_⟩
  · rw [hf, hframe]
  · rw [hun, line_hand, hself, hand_eq, show w.lne.timers = s.lne.timers by rw [hframe]]
    simp only [LineRec.restart, State.checked, State.gapStarted, hst]
    rfl
  · rw [show w.lineSpan n = s.lineSpan n by rw [hframe]; rfl, show w.dram = m by rw [hframe]] at hmem
    exact (hmemw.trans hmem).of_subset (by simp)

theorem rxPartialEnd_acceptsWhole_more (hc : count.toNat = 64) {damaged : Bool} {rounds kept : Nat}
    (ha : (s.line n).AcceptsWhole 64 damaged rounds kept) :
    ∃ u, exec (.rxPartialEnd n pp count 0) s = .next u
      ∧ u = { s with sli := (hand n (.rxPartialOk damaged) s).sli, lne := { s.lne with lines := u.lne.lines }, dram := u.dram }
      ∧ u.line n = { s.gapStarted n with
          blockCount := 64, checking := none, partialPage := (s.line n).partialPage + 1, blockMap := [], rounds := 0, kept := kept,
          cut := damaged }
      ∧ (∀ m, m ≠ n → u.line m = s.line m) ∧ unchangedOutside [s.lineSpan n] s.dram u.dram := by
  obtain ⟨w, hw, hexec⟩ := rxPartialEnd_checked (kind := 0) (k := .more) h hst hpage hstore hpp h1 h64 rfl fun _ => hc
  rw [hc] at hw hexec
  obtain ⟨ls, m, hframe, hmem⟩ := setsLine_frame hw
  have hself := hw.line_self
  obtain ⟨x, hx, hxf, hxself, hxlines, hxmem⟩ := checkPartial_of_acceptsWhole (k := .more) (c := 64) (w := w) (n := n)
    (damaged := damaged) (rounds := rounds) (kept := kept) (by rw [hself]; exact ha)
  have hset := setsLine_morePartial n x
  rw [← hx] at hset
  obtain ⟨u, hu⟩ : ∃ u, checkPartial n 64 .more w = u := ⟨_, rfl⟩
  rw [hu] at hset hexec
  obtain ⟨ls', m', huf, humem⟩ := setsLine_frame hset
  refine ⟨u, hexec, ?_, ?_, fun j hj => ?_, ?_⟩
  · rw [hand_sli n _ (show w.sli = s.sli by rw [hframe])] at hxf
    rw [huf, hxf, hframe]
  · rw [hset.line_self, hxself, hself, show x.lne.timers = s.lne.timers by rw [hxf, hframe]]
    simp only [State.checked, State.gapStarted, hst]
  · rw [hset.line_of_ne hj, hxlines j hj, hw.line_of_ne hj]
  · rw [show x.lineSpan n = s.lineSpan n by rw [hxf, hframe]; rfl] at humem
    rw [show w.lineSpan n = s.lineSpan n by rw [hframe]; rfl, show w.dram = m by rw [hframe]] at hxmem
    rw [show u.dram = m' by rw [huf]]
    exact ((hmem.trans hxmem).trans humem).of_subset (by simp)

theorem rxPartialEnd_accepts_more (hc : count.toNat = 64) {r r' : PageRec} (hp : s.page? p = some r) {damaged : Bool} {rounds kept : Nat}
    (ha : (s.line n).Accepts 64 damaged rounds kept r r') :
    ∃ u, exec (.rxPartialEnd n pp count 0) s = .next u
      ∧ u = { s with
          sli := (hand n (.rxPartialOk damaged) s).sli, lne := { s.lne with lines := u.lne.lines },
          psm := { s.psm with pages := u.psm.pages }, dram := u.dram }
      ∧ u.line n = { s.gapStarted n with
          blockCount := 64, checking := none, partialPage := (s.line n).partialPage + 1, blockMap := [], rounds := 0, kept := kept,
          cut := damaged }
      ∧ (∀ m, m ≠ n → u.line m = s.line m) ∧ u.page? p = some r' ∧ (∀ q, q ≠ p → u.page? q = s.page? q)
      ∧ unchangedOutside [(s.pageAddr p, 64), s.lineSpan n] s.dram u.dram := by
  obtain ⟨w, hw, hexec⟩ := rxPartialEnd_checked (kind := 0) (k := .more) h hst hpage hstore hpp h1 h64 rfl fun _ => hc
  rw [hc] at hw hexec
  have hself := hw.line_self
  obtain ⟨ls, m, hframe, -⟩ := setsLine_frame hw
  have e := partialMore_checkPartial (w := w) (n := n) (c := 64) (p := p) (r := r) (r' := r') (damaged := damaged) (rounds := rounds)
    (kept := kept) (by rw [hself]; exact hpage) (by rw [hframe]; exact hp) (by rw [hself]; exact ha)
  exact ⟨_, hexec, e.before hw hst⟩

theorem rxPartialEnd_accepts_end (hkind : kind = 1 ∨ kind = 2) (hp1024 : p < 1024) {r r' : PageRec} {doc : Doc} (hp : s.page? p = some r)
    (hdoc : s.doc? r.doc = some doc) (hkeep : doc.keep = true) (hwaits : s.noneWaits r.doc) {damaged : Bool} {rounds kept : Nat}
    (ha : (s.line n).Accepts count.toNat damaged rounds kept r r') :
    ∃ w u k, exec (.rxPartialEnd n pp count kind) s = .next u ∧ (kind = 1 ↔ k = .pageEnd)
      ∧ SetsLine n (s.checked n count.toNat) s w ∧ PartialEnded w u n k p damaged rounds kept r' doc := by
  obtain ⟨k, hk, hnot, hiff⟩ := endKindOf_one_or_two hkind
  obtain ⟨w, hw, hexec⟩ := rxPartialEnd_checked h hst hpage hstore hpp h1 h64 hk fun e => absurd e hnot
  have hself := hw.line_self
  have hwaitsw : w.noneWaits r.doc := State.noneWaits_of_busy hw (fun e => nomatch e) hwaits
  obtain ⟨ls, m, hframe, -⟩ := setsLine_frame hw
  exact ⟨w, _, k, hexec, hiff, hw, partialEnded_checkPartial (by rw [hself]; exact hpage) (by rw [hframe]; exact hp) hp1024
    (by rw [hframe]; exact hdoc) hkeep hwaitsw hnot (by rw [hself]; exact ha)⟩

end

theorem endHanded_of_iff {t : State} {n : Line} {k : EndKind} {P : Prop} [Decidable P] (h : P ↔ k = .pageEnd) :
    t.endHanded n k = (if P then t else hand n .clear t).sli := by
  by_cases hp : P
  · rw [if_pos hp, State.endHanded, if_pos (h.1 hp)]
  · rw [if_neg hp, State.endHanded, if_neg fun e => hp (h.2 e)]

theorem ended_of_iff {l closed : LineRec} {k : EndKind} {gap : Nat} {P : Prop} [Decidable P] (h : P ↔ k = .pageEnd)
    (hl : closed = { l with page := none, state := .receiving, timer := some .blockGap, remaining := gap }) :
    l.ended k gap = if P then closed
      else { closed with state := .clearing, cause := some .normal, timer := some .clearing, remaining := 100 } := by
  subst hl
  by_cases hp : P
  · rw [if_pos hp, LineRec.ended, if_pos (h.1 hp)]
  · rw [if_neg hp, LineRec.ended, if_neg fun e => hp (h.2 e)]

/-- Settles O58: the page, partial pages and blocks of an inbound session. -/
theorem receivingPages : Obligations.ReceivingPages := by
  unfold Obligations.ReceivingPages
  refine ⟨?_, ?_, ?_, ?_, ?_, ?_, ?_⟩
  · intro n cls res s h hst
    refine ⟨fun ha hbad => rxPageBegin_of_badCodes h ha hbad, ?_⟩
    intro d doc p w q hw hq hpage hstore hd hdoc hroom hp hfree hbefore
    obtain ⟨t, ls, hexec, hframe, ⟨x, y, hself⟩, hlines⟩ := exec_rxPageBegin_of_codes h hst hw hq
    have hfirst : Tab.firstFree t.psm.pages 1024 = some p := by
      rw [hframe]
      exact (Tab.firstFree_eq_some_iff ..).2 ⟨hp, hfree, hbefore⟩
    obtain ⟨u, hu, huf, hup, hupages, hud, hudocs, hun, hum, hmem⟩ := beginPage_of_room (w := w) (q := q)
      (by rw [hself]; exact hpage) (by rw [hself]; exact hstore) (by rw [hself]; exact hd) (by rw [hframe]; exact hdoc) hroom hfirst
    rw [hu] at hexec
    refine ⟨u, hexec, ?_, ?_, fun k hk => ?_, hud, fun k hk => ?_, ?_, fun m hm => (hum m hm).trans (hlines m hm), ?_⟩
    · rw [huf, hframe]
    · rw [hup, hframe]
      rfl
    · rw [hupages k hk, hframe]
      rfl
    · rw [hudocs k hk, hframe]
      rfl
    · rw [hun, hself, hframe]
    · rw [hframe] at hmem
      exact hmem
  · intro n cls res s d doc h hst hc hr hpage hstore hd hdoc cause hcause
    obtain ⟨w, hw⟩ := widthClassOf_of_le hc
    obtain ⟨q, hq⟩ := resolutionOf_of_le hr
    obtain ⟨t, ls, hexec, hframe, hself, hlines⟩ := exec_rxPageBegin_of_codes h hst hw hq
    have hbegin : beginPage n w q t = abandonLine n cause t := by
      obtain ⟨x, y, hself⟩ := hself
      have hpage' : (t.line n).page = none := by rw [hself]; exact hpage
      have hstore' : (t.line n).storing = none := by rw [hself]; exact hstore
      have hd' : (t.line n).doc = some d := by rw [hself]; exact hd
      have hdoc' : t.doc? d = some doc := by rw [hframe]; exact hdoc
      rcases hcause with ⟨rfl, hfull⟩ | ⟨rfl, hroom, hfull⟩
      · exact beginPage_of_fullDoc hpage' hstore' hd' hdoc' hfull
      · refine beginPage_of_fullTable hpage' hstore' hd' hdoc' hroom ((Tab.firstFree_eq_none_iff ..).2 fun k hk => ?_)
        rw [hframe]
        exact hfull k hk
    rw [hbegin] at hexec
    obtain ⟨u, hu, hrest⟩ := abandonLine_spec (cause := cause) hframe hself hlines
    exact ⟨u, by rw [hexec, hu], hrest⟩
  · intro n cls res s p kept r doc h hst hc hr hpage hp hp1024 hstore hdoc hkeep hwaits hk
    exact rxPageBegin_closes h hst hc hr hpage hp hp1024 hstore hdoc hkeep hwaits hk
  · intro n pp count kind p s h hst hpage hstore hcut
    refine ⟨fun hbad => ?_, fun hpp hc hkind hmiss => ?_, fun hpp h1 h64 hkind hmore hmiss hrounds => ?_,
      fun r b bs hpp hc hkind hmiss hrounds hp => ?_, fun hpp h1 h64 hkind hmiss hp1024 r doc hp hdoc hkeep hwaits hkept => ?_⟩
    · exact ⟨_, rxPartialEnd_ignored h hst hbad, rfl, line_setLine_self .., fun m hm => line_setLine_of_ne _ _ hm,
        unchangedOutside_refl _ _⟩
    · subst hkind
      have ha : (s.line n).AcceptsWhole 64 false 0 _ := .inr ⟨hcut, by rw [← hc]; exact hmiss, rfl, rfl, rfl⟩
      obtain ⟨u, hu, hf, hun, hrest⟩ := rxPartialEnd_acceptsWhole_more h hst hpage hstore hpp (by omega) (by omega) hc ha
      exact ⟨u, hu, hf, by rw [hun, ← hcut]; rfl, hrest⟩
    · obtain ⟨k, hk, hzero⟩ := endKindOf_of_le hkind
      exact rxPartialEnd_repeats h hst hpage hstore hpp h1 h64 hk (fun e => hmore (hzero e)) hcut hmiss hrounds
    · subst hkind
      have hlist : listedBlocks (s.line n).blockMap 64 = b :: bs := by
        rw [← hc]
        exact hmiss
      have ha : (s.line n).Accepts 64 true (s.line n).rounds (16384 * (s.line n).partialPage + 256 * b) r { r with truncated := true } :=
        .inr (.inr ⟨hcut, hrounds, rfl, rfl, rfl, b, by rw [hlist]; rfl, rfl⟩)
      obtain ⟨u, hu, hf, hun, hrest⟩ := rxPartialEnd_accepts_more h hst hpage hstore hpp (by omega) (by omega) hc hp ha
      exact ⟨u, hu, hf, hun, hrest⟩
    · have ha : (s.line n).Accepts count.toNat false 0 (16384 * (s.line n).partialPage
          + ((List.range count.toNat).map fun b => Tab.getD (s.line n).blockMap b 0).sum) r r := .inr (.inl ⟨hcut, hmiss, rfl, rfl, rfl, rfl⟩)
      obtain ⟨w, u, k, hu, hiff, hw, e⟩ := rxPartialEnd_accepts_end h hst hpage hstore hpp h1 h64 hkind hp1024 hp hdoc hkeep hwaits ha
      obtain ⟨hf, hun, hum, hupages, hsealed, -⟩ := e.before hw
      obtain ⟨hpage', hdju, hmem⟩ := hsealed hkept
      refine ⟨u, hu, ?_, ?_, hum, hpage' hp1024, hupages, ?_⟩
      · rw [← endHanded_of_iff hiff, ← hdju]
        rw [hdju] at hf ⊢
        exact hf
      · rw [hun]
        refine ended_of_iff hiff ?_
        simp only [State.checked, hst, hcut]
      · exact hmem.of_subset (spans_head _ _)
  · intro n pp count p s h hst hpage hstore hcut hpp hc
    obtain rfl : count = 64 := hc
    have ha : (s.line n).AcceptsWhole 64 true (s.line n).rounds (s.line n).kept := .inl ⟨hcut, rfl, rfl, rfl⟩
    obtain ⟨u, hu, hf, hun, hrest⟩ := rxPartialEnd_acceptsWhole_more (count := 64) h hst hpage hstore hpp (by decide) (by decide) (by decide) ha
    exact ⟨u, hu, hf, by rw [hun, ← hcut]; rfl, hrest⟩
  · intro n pp count kind p kept r r' doc s h hst hpage hstore hp1024 hp hdoc hkeep hwaits l c bad hpp h1 h64 hkind hcase
    have ha : (s.line n).Accepts count.toNat true (s.line n).rounds kept r r' := by
      rcases hcase with ⟨hcut, hk, hr⟩ | ⟨hcut, hrounds, hr, b, hb, hk⟩
      · exact .inl ⟨hcut, rfl, rfl, hk, hr⟩
      · exact .inr (.inr ⟨hcut, hrounds, rfl, rfl, hr, b, hb, hk⟩)
    obtain ⟨hrdoc, hrchain⟩ := ha.same
    obtain ⟨w, u, k, hu, hiff, hw, e⟩ := rxPartialEnd_accepts_end h hst hpage hstore hpp h1 h64 hkind hp1024 hp hdoc hkeep hwaits ha
    obtain ⟨hf, hun, hum, hupages, hsealed, hfreed⟩ := e.before hw
    rw [hrchain] at hsealed hfreed
    rw [hrdoc] at hfreed
    refine ⟨u, hu, ?_, ?_, hum, hupages, fun hz => ?_, fun hz => ?_⟩
    · rw [← endHanded_of_iff hiff]
      exact hf
    · rw [hun]
      refine ended_of_iff hiff ?_
      simp only [l, c, State.checked, hst]
    · obtain ⟨hpage', hdju, hmem⟩ := hsealed hz
      exact ⟨hpage' hp1024, hdju, hmem.of_subset (closeSpans_cover _ _ _ _ _ _)⟩
    · obtain ⟨hgone, hstack, hpass, hlast, hothers, hmem⟩ := hfreed hz
      exact ⟨hgone, hstack, hpass, hlast, hothers, hmem.of_subset (freeSpans_cover _ _ _ _ _ _)⟩
  · intro n s
    refine ⟨fun hnone => ?_, fun b p r hstore hpage hp hnodup hfits => ?_⟩
    · rw [exec_blockStored, blockStored_of_none hnone]
    · obtain ⟨v, hf, hstream, hkeeps, hself, hlines, hin, hins, hmem, hplain, hchecks⟩ :=
        blockStored_of_some hstore hpage hp hnodup hfits
      have htimers : v.lne.timers = s.lne.timers := by rw [hf]
      have hspan : v.lineSpan n = s.lineSpan n := by rw [hf]; rfl
      have hvp : v.page? p = some r := by rw [hf]; exact hp
      have hvpage : (v.line n).page = some p := by rw [hself]; exact hpage
      have hvlne (ls : Tab LineRec) : { v.lne with lines := ls } = { s.lne with lines := ls } := by rw [hf]
      refine ⟨v, hf, hstream, hkeeps, hself, hlines, hin, hins, hmem, fun hnone => by rw [exec_blockStored, hplain hnone],
        fun c k hck => ⟨fun hcut hmiss hrounds => ?_, fun damaged rounds kept r' ha => ⟨?_, ?_⟩⟩⟩
      · have hset := setsLine_enterState n .receiving (fun r => { r with rounds := r.rounds + 1 })
          (hand n (.rxRepeat (listedBlocks (v.line n).blockMap c)) v)
        rw [exec_blockStored, hchecks c k hck, checkPartial_of_repeats hcut hmiss hrounds]
        obtain ⟨huf, hun, hum, hmemu⟩ := hset.after (onlySli_hand n _ v)
        refine ⟨_, rfl, ?_, ?_, fun m hm => (hum m hm).trans (hlines m hm), ?_⟩
        · rw [← hvlne]
          exact huf
        · rw [hun, line_hand, hand_eq, htimers]
          rfl
        · rw [hspan] at hmemu
          exact hmemu
      · intro hmore
        subst hmore
        have e := partialMore_checkPartial hvpage hvp ha
        rw [exec_blockStored, hchecks c .more hck]
        refine ⟨_, rfl, ?_, ?_, fun m hm => (e.lines m hm).trans (hlines m hm), e.page, fun q hq => (e.pages q hq).trans ?_, ?_⟩
        · rw [← hvlne, show s.psm = v.psm by rw [hf]]
          exact e.frame
        · rw [e.self, htimers]
        · rw [hf]
          rfl
        · have hd := e.dram
          rw [hspan, show v.pageAddr p = s.pageAddr p by rw [hf]; rfl] at hd
          exact hd.of_subset (by simp [State.lineSpan])
      · intro hnot hp1024 doc hdoc hkeep hwaits
        have hvwaits : v.noneWaits r.doc := by
          intro m hm
          by_cases hmn : m = n
          · subst hmn
            rw [hself] at hm ⊢
            exact hwaits m hm
          · rw [hlines m hmn] at hm ⊢
            exact hwaits m hm
        obtain ⟨hrdoc, hrchain⟩ := LineRec.Accepts.same ha
        have e := partialEnded_checkPartial hvpage hvp hp1024 (doc := doc) (by rw [hf]; exact hdoc) hkeep hvwaits hnot ha
        rw [exec_blockStored, hchecks c k hck]
        obtain ⟨u, hu⟩ : ∃ u, checkPartial n c k v = u := ⟨_, rfl⟩
        rw [hu] at e ⊢
        obtain ⟨huf, hun, hum, hupages, hsealed, hfreed⟩ := e
        rw [hrchain, hspan] at hsealed hfreed
        rw [hrdoc] at hfreed
        have hiff : k = .pageEnd ↔ k = .pageEnd := Iff.rfl
        have hvdju : v.dju = s.dju := by rw [hf]
        have hvpsm : v.psm = s.psm := by rw [hf]
        refine ⟨u, rfl, ?_, ?_, fun m hm => (hum m hm).trans (hlines m hm), fun q hq => (hupages q hq).trans (by rw [hf]; rfl),
          fun hz => ?_, fun hz => ?_⟩
        · rw [← endHanded_of_iff hiff, ← hvlne, ← hvpsm, ← hvdju]
          exact huf
        · rw [hun, htimers]
          exact ended_of_iff hiff rfl
        · obtain ⟨hpage', hdju, hmemu⟩ := hsealed hz
          rw [show v.chg = s.chg by rw [hf]] at hpage'
          rw [show v.closeSpans p r.chain = s.closeSpans p r.chain by rw [hf]; rfl] at hmemu
          rw [hvdju] at hdju
          refine ⟨hpage', hdju, hmemu.of_subset (List.Subset.trans ?_ (closeSpans_cover _ _ _ _ _ _))⟩
          exact List.subset_append_right [s.lineSpan n] _
        · obtain ⟨hgone, hstack, hpass, hlast, hothers, hmemu⟩ := hfreed hz
          rw [hvpsm] at hstack
          rw [hvdju] at hpass
          rw [show v.freeSpans p r.chain.length = s.freeSpans p r.chain.length by rw [hf]; rfl,
            show v.docAddr r.doc = s.docAddr r.doc by rw [hf]; rfl] at hmemu
          refine ⟨hgone, hstack, hpass, hlast, fun d hd => (hothers d hd).trans (by rw [hf]; rfl),
            hmemu.of_subset (List.Subset.trans ?_ (freeSpans_cover _ _ _ _ _ _))⟩
          exact List.subset_append_right [s.lineSpan n] _

end Sys2Proof.Machine
end

section
/-! PROOFS. Numbered lists that agree outside a stretch of numbers: tables that differ in one record, memories that differ in one
span. What a write does to them is the same on both sides. -/

namespace Sys2Proof.Machine

set_option Elab.async false

/-- The entries numbered below `a` and from `b` on are the same. -/
def AgreeOutside {α : Type} (a b : Nat) (l l' : List (Nat × α)) : Prop :=
  (l'.filter fun e => decide (e.1 < a)) = l.filter (fun e => decide (e.1 < a))
    ∧ (l'.filter fun e => decide (b ≤ e.1)) = l.filter fun e => decide (b ≤ e.1)

/-- The entries from `c` on and below `d` give way to `x`. -/
def splice {α : Type} (l : List (Nat × α)) (c d : Nat) (x : List (Nat × α)) : List (Nat × α) :=
  (l.filter fun e => decide (e.1 < c)) ++ x ++ l.filter fun e => decide (d ≤ e.1)

theorem Tab.set_eq_splice {α : Type} (t : Tab α) (k : Nat) (v : α) : Tab.set t k v = splice t k (k + 1) [(k, v)] := by
  simp [Tab.set, splice, Tab.below, Tab.from]

theorem Mem.write_eq_splice (m : Mem) (a : Nat) (bs : List Byte) : Mem.write m a bs = splice m a (a + bs.length) (Mem.cells a bs) :=
  rfl

section

variable {α : Type} {a b : Nat} {l l' : List (Nat × α)}

theorem AgreeOutside.refl (a b : Nat) (l : List (Nat × α)) : AgreeOutside a b l l := ⟨rfl, rfl⟩

theorem filter_filter_congr {p : Nat × α → Bool} (h : l'.filter p = l.filter p) (q : Nat × α → Bool) :
    (l'.filter q).filter p = (l.filter q).filter p := by
  have hswap (m : List (Nat × α)) : (m.filter q).filter p = (m.filter p).filter q := by
    rw [List.filter_filter, List.filter_filter]
    exact List.filter_congr fun _ _ => Bool.and_comm ..
  rw [hswap, hswap, h]

theorem AgreeOutside.splice {x x' : List (Nat × α)} (h : AgreeOutside a b l l') (hx : AgreeOutside a b x x') (c d : Nat) :
    AgreeOutside a b (splice l c d x) (splice l' c d x') := by
  obtain ⟨hlow, hhigh⟩ := h
  obtain ⟨xlow, xhigh⟩ := hx
  unfold Machine.splice
  constructor
  · rw [List.filter_append, List.filter_append, filter_filter_congr hlow, filter_filter_congr hlow, xlow,
      ← List.filter_append, ← List.filter_append]
  · rw [List.filter_append, List.filter_append, filter_filter_congr hhigh, filter_filter_congr hhigh, xhigh,
      ← List.filter_append, ← List.filter_append]

/-- A write over the whole stretch ends the difference. -/
theorem AgreeOutside.splice_eq (h : AgreeOutside a b l l') {c d : Nat} (hc : c ≤ a) (hd : b ≤ d) (x : List (Nat × α)) :
    Machine.splice l' c d x = Machine.splice l c d x := by
  have hlow (m : List (Nat × α)) : (m.filter fun e => decide (e.1 < c)) = (m.filter fun e => decide (e.1 < a)).filter fun e => decide (e.1 < c) := by
    rw [List.filter_filter]
    exact List.filter_congr fun e _ => by
      rw [← Bool.decide_and]
      exact decide_eq_decide.2 ⟨fun he => ⟨he, by omega⟩, fun he => he.1⟩
  have hhigh (m : List (Nat × α)) : (m.filter fun e => decide (d ≤ e.1)) = (m.filter fun e => decide (b ≤ e.1)).filter fun e => decide (d ≤ e.1) := by
    rw [List.filter_filter]
    exact List.filter_congr fun e _ => by
      rw [← Bool.decide_and]
      exact decide_eq_decide.2 ⟨fun he => ⟨he, by omega⟩, fun he => he.1⟩
  unfold Machine.splice
  rw [hlow l', hhigh l', h.1, h.2, ← hlow, ← hhigh]

theorem AgreeOutside.write {m m' : Mem} (h : AgreeOutside a b m m') (o : Nat) (bs : List Byte) :
    AgreeOutside a b (Mem.write m o bs) (Mem.write m' o bs) := h.splice (.refl ..) ..

theorem AgreeOutside.set {t t' : Tab α} (h : AgreeOutside a b t t') (k : Nat) (v : α) :
    AgreeOutside a b (Tab.set t k v) (Tab.set t' k v) := by
  rw [Tab.set_eq_splice, Tab.set_eq_splice]
  exact AgreeOutside.splice h (.refl ..) ..

/-- What one side alone writes inside the stretch. -/
theorem agreeOutside_splice {c d : Nat} (hc : a ≤ c) (hd : d ≤ b) (l : List (Nat × α)) {x : List (Nat × α)}
    (hx : ∀ e ∈ x, a ≤ e.1 ∧ e.1 < b) (hcd : c ≤ d) : AgreeOutside a b l (Machine.splice l c d x) := by
  unfold Machine.splice
  constructor
  · have hx' : x.filter (fun e => decide (e.1 < a)) = [] :=
      List.filter_eq_nil_iff.2 fun e he => by simpa using (hx e he).1
    have hhigh : (l.filter fun e => decide (d ≤ e.1)).filter (fun e => decide (e.1 < a)) = [] :=
      List.filter_eq_nil_iff.2 fun e he => by
        have := of_decide_eq_true (List.mem_filter.1 he).2
        simp only [decide_eq_true_eq]
        omega
    rw [List.filter_append, List.filter_append, hx', hhigh, List.append_nil, List.append_nil, List.filter_filter]
    exact List.filter_congr fun e _ => by
      rw [← Bool.decide_and]
      exact decide_eq_decide.2 ⟨fun he => he.1, fun he => ⟨he, by omega⟩⟩
  · have hx' : x.filter (fun e => decide (b ≤ e.1)) = [] :=
      List.filter_eq_nil_iff.2 fun e he => by simpa using (hx e he).2
    have hlow : (l.filter fun e => decide (e.1 < c)).filter (fun e => decide (b ≤ e.1)) = [] :=
      List.filter_eq_nil_iff.2 fun e he => by
        have := of_decide_eq_true (List.mem_filter.1 he).2
        simp only [decide_eq_true_eq]
        omega
    rw [List.filter_append, List.filter_append, hx', hlow, List.nil_append, List.nil_append, List.filter_filter]
    exact List.filter_congr fun e _ => by
      rw [← Bool.decide_and]
      exact decide_eq_decide.2 ⟨fun he => he.1, fun he => ⟨he, by omega⟩⟩

theorem AgreeOutside.trans {l'' : List (Nat × α)} (h : AgreeOutside a b l l') (h' : AgreeOutside a b l' l'') : AgreeOutside a b l l'' :=
  ⟨h'.1.trans h.1, h'.2.trans h.2⟩

theorem AgreeOutside.symm (h : AgreeOutside a b l l') : AgreeOutside a b l' l := ⟨h.1.symm, h.2.symm⟩

theorem Tab.get?_filter {t : Tab α} {k : Nat} (p : Nat → Bool) (hp : p k = true) : Tab.get? (t.filter fun e => p e.1) k = Tab.get? t k := by
  induction t with
  | nil => rfl
  | cons e t ih =>
    by_cases he : e.1 = k
    · subst he
      rw [List.filter_cons_of_pos (by exact hp)]
      simp [Tab.get?]
    · by_cases hpe : p e.1 = true
      · rw [List.filter_cons_of_pos (by exact hpe)]
        simp [Tab.get?, he, ih]
      · rw [List.filter_cons_of_neg (by exact hpe), ih]
        simp [Tab.get?, he]

theorem AgreeOutside.get? {t t' : Tab α} (h : AgreeOutside a b t t') {k : Nat} (hk : k < a ∨ b ≤ k) : Tab.get? t' k = Tab.get? t k := by
  rcases hk with hk | hk
  · have hp (u : Tab α) := Tab.get?_filter (t := u) (fun i => decide (i < a)) (decide_eq_true hk)
    rw [← hp t', h.1, hp t]
  · have hp (u : Tab α) := Tab.get?_filter (t := u) (fun i => decide (b ≤ i)) (decide_eq_true hk)
    rw [← hp t', h.2, hp t]

theorem Mem.get_eq_get? (m : Mem) (k : Nat) : Mem.get m k = (Tab.get? m k).getD 0 := by
  induction m with
  | nil => rfl
  | cons e m ih =>
    simp only [Mem.get, Tab.get?]
    split
    · rfl
    · exact ih

theorem AgreeOutside.get {m m' : Mem} (h : AgreeOutside a b m m') {k : Nat} (hk : k < a ∨ b ≤ k) : Mem.get m' k = Mem.get m k := by
  rw [Mem.get_eq_get?, Mem.get_eq_get?, h.get? hk]

theorem Mem.cells_bounds (o : Nat) (bs : List Byte) : ∀ e ∈ Mem.cells o bs, o ≤ e.1 ∧ e.1 < o + bs.length := by
  induction bs generalizing o with
  | nil => simp [Mem.cells]
  | cons b bs ih =>
    intro e he
    unfold Mem.cells at he
    have hrest (h : e ∈ Mem.cells (o + 1) bs) : o ≤ e.1 ∧ e.1 < o + (b :: bs).length := by
      have := ih (o + 1) e h
      simp only [List.length_cons]
      omega
    split at he
    · exact hrest he
    · rcases List.mem_cons.1 he with rfl | he
      · simp
      · exact hrest he

/-- Bytes that differ only where they fall inside the stretch. -/
theorem agreeOutside_cells {a b : Nat} (o : Nat) (xs ys : List Byte) (hlen : ys.length = xs.length)
    (hout : ∀ i, i < xs.length → o + i < a ∨ b ≤ o + i → ys[i]? = xs[i]?) : AgreeOutside a b (Mem.cells o xs) (Mem.cells o ys) := by
  induction xs generalizing o ys with
  | nil =>
    obtain rfl := List.length_eq_zero_iff.1 hlen
    exact .refl ..
  | cons x xs ih =>
    cases ys with
    | nil => cases hlen
    | cons y ys =>
      have hrest : AgreeOutside a b (Mem.cells (o + 1) xs) (Mem.cells (o + 1) ys) := by
        refine ih (o + 1) ys (by simpa using hlen) fun i hi h => ?_
        have := hout (i + 1) (by simpa using hi) (by omega)
        simpa using this
      by_cases hin : a ≤ o ∧ o < b
      · have hhead (z : Byte) (zs : List Byte) :
            ((Mem.cells o (z :: zs)).filter fun e => decide (e.1 < a)) = (Mem.cells (o + 1) zs).filter (fun e => decide (e.1 < a))
            ∧ ((Mem.cells o (z :: zs)).filter fun e => decide (b ≤ e.1)) = (Mem.cells (o + 1) zs).filter fun e => decide (b ≤ e.1) := by
          unfold Mem.cells
          split
          · cases zs <;> exact ⟨rfl, rfl⟩
          · rw [List.filter_cons_of_neg (by simpa using hin.1), List.filter_cons_of_neg (by simpa using hin.2)]
            cases zs <;> exact ⟨rfl, rfl⟩
        exact ⟨by rw [(hhead ..).1, (hhead ..).1, hrest.1], by rw [(hhead ..).2, (hhead ..).2, hrest.2]⟩
      · have hxy : y = x := by
          have := hout 0 (by simp) (by omega)
          simpa using this
        subst hxy
        unfold Mem.cells
        split
        · exact hrest
        · constructor
          · rw [List.filter_cons, List.filter_cons, hrest.1]
          · rw [List.filter_cons, List.filter_cons, hrest.2]

end

end Sys2Proof.Machine
end

section
/-! PROOFS. Two states that differ in one known way only, and that every operation on tables and pages leaves so: the state that a
statement starts from and a variant of it. -/

namespace Sys2Proof.Machine

set_option Elab.async false

/-- What the check of a multiframe goes by, and the inbound blocks that it closes (R113, R120). -/
structure Check where
  due : Bool
  items : List RxItem
  crc : Byte
  report : Byte
  lines : Tab InLine

def Sli.check (x : Sli) : Check := ⟨x.mfEndDue, x.items, x.rxCrc, x.rxReport, x.inLines⟩

def Sli.withCheck (x : Sli) (c : Check) : Sli :=
  { x with mfEndDue := c.due, items := c.items, rxCrc := c.crc, rxReport := c.report, inLines := c.lines }

/-- The inbound blocks once a check that matches has closed them. -/
def Check.closing (l : Tab InLine) : Tab InLine := l.map fun e => (e.1, closeLine false e.2)

/-- What two states may differ in. -/
inductive Slack where
  /-- the timer and the kept length of one line without a wait for data, and the bytes of its record -/
  | line (n : Line)
  /-- the charges, the events and DRAM, and the sequence `seq` that destination `k` holds on the second side alone -/
  | call (k seq : Nat)
  /-- what the receiver holds for the check of a multiframe: on the second side it is `c`, with the inbound blocks closed -/
  | check (c : Check)
  /-- a read of a print slot that the second side alone holds -/
  | held (h : Held)

/-- The fields that a slack can speak of. -/
structure Alter where
  lines : Tab LineRec
  dests : Tab Dest
  check : Check
  smp : Smp
  chg : Chg
  ceu : Ceu
  dram : Mem

def State.own (s : State) : Alter := ⟨s.lne.lines, s.dju.dests, s.sli.check, s.smp, s.chg, s.ceu, s.dram⟩

def State.alter (x : Alter) (s : State) : State :=
  { s with
    lne := { s.lne with lines := x.lines }, dju := { s.dju with dests := x.dests }, sli := s.sli.withCheck x.check,
    smp := x.smp, chg := x.chg, ceu := x.ceu, dram := x.dram }

/-- The records differ in what the slack of a line allows. -/
def LineRec.near (r r' : LineRec) : Prop :=
  r.state ≠ .dataWait ∧ ∃ x y z, r' = { r with timer := x, remaining := y, kept := z }

def Slack.lines : Slack → Tab LineRec → Tab LineRec → Prop
  | .line n, a, b => AgreeOutside n.val (n.val + 1) a b ∧ (Tab.getD a n.val LineRec.default).near (Tab.getD b n.val LineRec.default)
  | _, a, b => b = a

/-- Destination `k` holds the sequence. -/
def Dest.sequenced (k seq i : Nat) (d : Dest) : Dest := if i = k then { d with logSeq := some seq } else d

def Slack.dest : Slack → Nat → Dest → Dest
  | .call k seq => Dest.sequenced k seq
  | _ => fun _ d => d

def Slack.check? : Slack → Check → Check → Prop
  | .check c, a, b => b = { c with lines := Check.closing a.lines }
  | _, a, b => b = a

def Slack.smp : Slack → Smp → Smp → Prop
  | .held h, a, b => h.reason = .print ∧ a.held = none ∧ b = { a with held := some h }
  | _, a, b => b = a

def Slack.chg : Slack → Chg → Chg → Prop
  | .call .., a, b => b.seconds = a.seconds
  | _, a, b => b = a

def Slack.ceu : Slack → Ceu → Ceu → Prop
  | .call .., _, _ => True
  | _, a, b => b = a

/-- `p` is where the part-owned region begins. -/
def Slack.dram (p : Nat) : Slack → Mem → Mem → Prop
  | .line n, a, b => AgreeOutside (p + (0x80 + 256 * n.val)) (p + (0x80 + 256 * n.val) + 256) a b
  | .call .., _, _ => True
  | _, a, b => b = a

/-- The slack leaves events and stored pages as they are. -/
def Slack.keepsPages : Slack → Prop
  | .call .. => False
  | _ => True

/-- The slack leaves the record of line `n` as it is. -/
def Slack.keepsLine (n : Line) : Slack → Prop
  | .line m => m ≠ n
  | _ => True

structure Slack.agrees (w : Slack) (p : Nat) (a b : Alter) : Prop where
  lines : w.lines a.lines b.lines
  dests : b.dests = a.dests.map fun e => (e.1, w.dest e.1 e.2)
  check : w.check? a.check b.check
  smp : w.smp a.smp b.smp
  chg : w.chg a.chg b.chg
  ceu : w.ceu a.ceu b.ceu
  dram : w.dram p a.dram b.dram

/-- The states differ in the slack alone. -/
def Alike (w : Slack) (s t : State) : Prop := ∃ x, t = s.alter x ∧ w.agrees s.cfg.porBase s.own x

/-! ## What the slack keeps -/

section

variable {w : Slack} {s t : State}

theorem Slack.dram_write {p : Nat} {a b : Mem} (h : w.dram p a b) (o : Nat) (bs : List Byte) :
    w.dram p (Mem.write a o bs) (Mem.write b o bs) := by
  cases w with
  | line n => exact AgreeOutside.write h o bs
  | call k seq => trivial
  | check c => exact congrArg (Mem.write · o bs) h
  | held x => exact congrArg (Mem.write · o bs) h

theorem Slack.lines_set {n : Line} (hn : w.keepsLine n) {a b : Tab LineRec} (h : w.lines a b) (r : LineRec) :
    w.lines (Tab.set a n.val r) (Tab.set b n.val r) := by
  cases w with
  | line m =>
    have hne : m.val ≠ n.val := fun e => hn (Fin.ext e)
    refine ⟨h.1.set _ _, ?_⟩
    rw [Tab.getD_set_of_ne _ _ _ hne, Tab.getD_set_of_ne _ _ _ hne]
    exact h.2
  | call k seq => exact congrArg (Tab.set · n.val r) h
  | check c => exact congrArg (Tab.set · n.val r) h
  | held x => exact congrArg (Tab.set · n.val r) h

theorem Slack.lines_eq {n : Line} (hn : w.keepsLine n) {a b : Tab LineRec} (h : w.lines a b) :
    Tab.getD b n.val LineRec.default = Tab.getD a n.val LineRec.default := by
  cases w with
  | line m =>
    have hne : m.val ≠ n.val := fun e => hn (Fin.ext e)
    rw [Tab.getD, h.1.get? (by omega), Tab.getD]
  | call k seq => exact congrArg (Tab.getD · n.val LineRec.default) h
  | check c => exact congrArg (Tab.getD · n.val LineRec.default) h
  | held x => exact congrArg (Tab.getD · n.val LineRec.default) h

theorem Tab.get?_mapKeyed {α : Type} (f : Nat → α → α) (t : Tab α) (k : Nat) :
    Tab.get? (t.map fun e => (e.1, f e.1 e.2)) k = (Tab.get? t k).map (f k) := by
  induction t with
  | nil => rfl
  | cons e t ih =>
    simp only [List.map_cons, Tab.get?]
    by_cases h : e.1 = k
    · simp [h]
    · simp [h, ih]

theorem Tab.set_mapKeyed {α : Type} (f : Nat → α → α) (t : Tab α) (k : Nat) (v : α) :
    Tab.set (t.map fun e => (e.1, f e.1 e.2)) k (f k v) = (Tab.set t k v).map fun e => (e.1, f e.1 e.2) := by
  simp [Tab.set, Tab.below, Tab.from, List.filter_map, Function.comp_def]

theorem Tab.erase_mapKeyed {α : Type} (f : Nat → α → α) (t : Tab α) (k : Nat) :
    Tab.erase (t.map fun e => (e.1, f e.1 e.2)) k = (Tab.erase t k).map fun e => (e.1, f e.1 e.2) := by
  simp [Tab.erase, Tab.below, Tab.from, List.filter_map, Function.comp_def]

theorem Tab.keysWhere_mapKeyed {α : Type} (f : Nat → α → α) (t : Tab α) {p : α → Bool} (hp : ∀ k v, p (f k v) = p v) :
    Tab.keysWhere (t.map fun e => (e.1, f e.1 e.2)) p = Tab.keysWhere t p := by
  simp [Tab.keysWhere, List.filter_map, Function.comp_def, hp]

/-- The slack does not touch what a destination's place in its job rests on. -/
theorem Slack.dest_eq (w : Slack) (k : Nat) (d : Dest) : ∃ q, w.dest k d = { d with logSeq := q } := by
  cases w with
  | call k' seq =>
    unfold Slack.dest Dest.sequenced
    dsimp only
    split
    · exact ⟨_, rfl⟩
    · exact ⟨_, rfl⟩
  | line n => exact ⟨_, rfl⟩
  | check c => exact ⟨_, rfl⟩
  | held h => exact ⟨_, rfl⟩

theorem Slack.dest_comm (w : Slack) (k : Nat) (d : Dest) {f : Dest → Dest}
    (hf : ∀ d q, f { d with logSeq := q } = { f d with logSeq := q }) : w.dest k (f d) = f (w.dest k d) := by
  cases w with
  | call k' seq =>
    unfold Slack.dest Dest.sequenced
    dsimp only
    split
    · exact (hf d (some seq)).symm
    · rfl
  | line n => rfl
  | check c => rfl
  | held h => rfl

theorem Slack.agrees.of_dram {p : Nat} {a b : Alter} (h : w.agrees p a b) {m m' : Mem} (hm : w.dram p m m') :
    w.agrees p { a with dram := m } { b with dram := m' } := ⟨h.lines, h.dests, h.check, h.smp, h.chg, h.ceu, hm⟩

end

/-! ## What both states show -/

section

variable {w : Slack} {s t : State} (h : Alike w s t)
include h

theorem Alike.core : t.pending = s.pending ∧ t.phase = s.phase ∧ t.rgw = s.rgw ∧ t.mad = s.mad ∧ t.scn = s.scn ∧ t.psm = s.psm
    ∧ t.rxr = s.rxr ∧ t.prn = s.prn := by
  obtain ⟨x, rfl, -⟩ := h
  exact ⟨rfl, rfl, rfl, rfl, rfl, rfl, rfl, rfl⟩

theorem Alike.rgw : t.rgw = s.rgw := h.core.2.2.1
theorem Alike.scn : t.scn = s.scn := h.core.2.2.2.2.1
theorem Alike.psm : t.psm = s.psm := h.core.2.2.2.2.2.1
theorem Alike.rxr : t.rxr = s.rxr := h.core.2.2.2.2.2.2.1
theorem Alike.prn : t.prn = s.prn := h.core.2.2.2.2.2.2.2

theorem Alike.cfg : t.cfg = s.cfg := by rw [State.cfg, h.rgw, State.cfg]
theorem Alike.por (o : Nat) : t.por o = s.por o := by rw [State.por, h.cfg, State.por]
theorem Alike.page? (p : Nat) : t.page? p = s.page? p := by rw [State.page?, h.psm, State.page?]
theorem Alike.freeCount : t.freeCount = s.freeCount := by
  obtain ⟨x, rfl, -⟩ := h
  rfl
theorem Alike.segAddr (i : Nat) : t.segAddr i = s.segAddr i := by rw [State.segAddr, h.por, State.segAddr]
theorem Alike.doc? (d : Nat) : t.doc? d = s.doc? d := by
  obtain ⟨x, rfl, -⟩ := h
  rfl
theorem Alike.job? (j : Nat) : t.job? j = s.job? j := by
  obtain ⟨x, rfl, -⟩ := h
  rfl
theorem Alike.keeps (d : Nat) : t.keeps d = s.keeps d := by
  obtain ⟨x, rfl, -⟩ := h
  rfl
theorem Alike.pagesFrom (d k : Nat) : t.pagesFrom d k = s.pagesFrom d k := by
  obtain ⟨x, rfl, -⟩ := h
  rfl
theorem Alike.isRun : t.isRun = s.isRun := by
  obtain ⟨x, rfl, -⟩ := h
  rfl
theorem Alike.rest : t.lne = { s.lne with lines := t.lne.lines } ∧ t.dju = { s.dju with dests := t.dju.dests }
    ∧ t.sli = s.sli.withCheck t.sli.check := by
  obtain ⟨x, rfl, -⟩ := h
  exact ⟨rfl, rfl, rfl⟩
theorem Alike.dju : t.dju = { s.dju with dests := t.dju.dests } := h.rest.2.1
theorem Alike.jobs : t.dju.jobs = s.dju.jobs := by rw [h.dju]
theorem Alike.timers : t.lne.timers = s.lne.timers := by rw [h.rest.1]
theorem Alike.plan (n : Line) : t.plan n = s.plan n := by
  obtain ⟨x, rfl, -⟩ := h
  rfl

theorem Alike.seconds : t.chg.seconds = s.chg.seconds := by
  obtain ⟨x, rfl, hx⟩ := h
  have := hx.chg
  cases w <;> first | exact this | exact congrArg Chg.seconds this

theorem Alike.dest? (k : Nat) : t.dest? k = (s.dest? k).map (w.dest k) := by
  obtain ⟨x, rfl, hx⟩ := h
  show Tab.get? x.dests k = _
  rw [hx.dests]
  exact Tab.get?_mapKeyed ..

theorem Alike.line {n : Line} (hn : w.keepsLine n) : t.line n = s.line n := by
  obtain ⟨x, rfl, hx⟩ := h
  exact Slack.lines_eq hn hx.lines

theorem Alike.keysWhere {p : Dest → Bool} (hp : ∀ d q, p { d with logSeq := q } = p d) :
    Tab.keysWhere t.dju.dests p = Tab.keysWhere s.dju.dests p := by
  obtain ⟨x, rfl, hx⟩ := h
  show Tab.keysWhere x.dests p = _
  rw [hx.dests]
  refine Tab.keysWhere_mapKeyed _ _ fun k v => ?_
  obtain ⟨q, hq⟩ := w.dest_eq k v
  rw [hq, hp]

theorem Alike.destsOf (j : Nat) : t.destsOf j = s.destsOf j := h.keysWhere fun _ _ => rfl

end

/-! ## One update on both sides -/

section

variable {w : Slack} {s t : State}

theorem Alike.ite {P Q : Prop} [Decidable P] [Decidable Q] {a b a' b' : State} (hpq : Q ↔ P) (ha : P → Alike w a a')
    (hb : ¬P → Alike w b b') : Alike w (if P then a else b) (if Q then a' else b') := by
  by_cases hp : P
  · rw [if_pos hp, if_pos (hpq.2 hp)]
    exact ha hp
  · rw [if_neg hp, if_neg fun hq => hp (hpq.1 hq)]
    exact hb hp

theorem Alike.foldl {ι : Type} {l : List ι} {f : State → ι → State} (hf : ∀ a b i, Alike w a b → Alike w (f a i) (f b i))
    (h : Alike w s t) : Alike w (l.foldl f s) (l.foldl f t) := by
  induction l generalizing s t with
  | nil => exact h
  | cons i l ih => exact ih (hf _ _ i h)

theorem alike_store (h : Alike w s t) {a a' : Nat} {bs : List Byte} (ha : a' = a) : Alike w (s.store a bs) (t.store a' bs) := by
  subst ha
  obtain ⟨x, rfl, hx⟩ := h
  exact ⟨{ x with dram := Mem.write x.dram a' bs }, rfl, hx.of_dram (Slack.dram_write hx.dram ..)⟩

theorem alike_psm (h : Alike w s t) (x : Psm) : Alike w { s with psm := x } { t with psm := x } := by
  obtain ⟨x, rfl, hx⟩ := h
  exact ⟨x, rfl, hx⟩

theorem alike_scn (h : Alike w s t) (x : Scn) : Alike w { s with scn := x } { t with scn := x } := by
  obtain ⟨x, rfl, hx⟩ := h
  exact ⟨x, rfl, hx⟩

theorem alike_mad (h : Alike w s t) (x : Mad) : Alike w { s with mad := x } { t with mad := x } := by
  obtain ⟨x, rfl, hx⟩ := h
  exact ⟨x, rfl, hx⟩

theorem alike_prn (h : Alike w s t) (x : Prn) : Alike w { s with prn := x } { t with prn := x } := by
  obtain ⟨x, rfl, hx⟩ := h
  exact ⟨x, rfl, hx⟩

theorem alike_rgw (h : Alike w s t) {x : Rgw} (hx : x.copy = s.rgw.copy) : Alike w { s with rgw := x } { t with rgw := x } := by
  obtain ⟨y, rfl, hy⟩ := h
  refine ⟨y, rfl, ?_⟩
  have hcfg : State.cfg { s with rgw := x } = s.cfg := by rw [State.cfg, hx, State.cfg]
  rw [hcfg]
  exact hy

theorem alike_rgwBy (h : Alike w s t) {f : Rgw → Rgw} (hf : ∀ x, (f x).copy = x.copy) :
    Alike w { s with rgw := f s.rgw } { t with rgw := f t.rgw } := by
  rw [h.rgw]
  exact alike_rgw h (hf _)

theorem alike_scnBy (h : Alike w s t) {f : Scn → Scn} : Alike w { s with scn := f s.scn } { t with scn := f t.scn } := by
  rw [h.scn]
  exact alike_scn h _

theorem alike_dju (h : Alike w s t) {f : Dju → Dju} (hf : ∀ x d, f { x with dests := d } = { f x with dests := d })
    (hd : (f s.dju).dests = s.dju.dests) : Alike w { s with dju := f s.dju } { t with dju := f t.dju } := by
  obtain ⟨x, rfl, hx⟩ := h
  refine ⟨x, ?_, ?_⟩
  · show _ = State.alter x { s with dju := f s.dju }
    unfold State.alter
    dsimp only
    rw [hf]
  · refine ⟨hx.lines, ?_, hx.check, hx.smp, hx.chg, hx.ceu, hx.dram⟩
    exact hx.dests.trans (by show _ = List.map _ (f s.dju).dests; rw [hd]; rfl)

theorem alike_sli (h : Alike w s t) {f : Sli → Sli} (hf : ∀ x c, f (x.withCheck c) = (f x).withCheck c)
    (hr : (f s.sli).check = s.sli.check) : Alike w { s with sli := f s.sli } { t with sli := f t.sli } := by
  obtain ⟨x, rfl, hx⟩ := h
  refine ⟨x, ?_, ?_⟩
  · show _ = State.alter x { s with sli := f s.sli }
    unfold State.alter
    dsimp only
    rw [hf]
  · refine ⟨hx.lines, hx.dests, ?_, hx.smp, hx.chg, hx.ceu, hx.dram⟩
    show w.check? (f s.sli).check _
    rw [hr]
    exact hx.check

/-- A change of a line's inbound block that does not meet the closing. -/
theorem alike_inLine (h : Alike w s t) (n : Nat) {f : InLine → InLine} (hf : ∀ l, f (closeLine false l) = closeLine false (f l)) :
    Alike w (setInLine n (f (s.inLine n)) s) (setInLine n (f (t.inLine n)) t) := by
  obtain ⟨x, rfl, hx⟩ := h
  refine ⟨{ x with check := { x.check with lines := Tab.set x.check.lines n (f (Tab.getD x.check.lines n InLine.none)) } }, rfl,
    hx.lines, hx.dests, ?_, hx.smp, hx.chg, hx.ceu, hx.dram⟩
  have hcheck := hx.check
  cases w with
  | check c =>
    have hx' : x.check = { c with lines := Check.closing s.sli.inLines } := hcheck
    show ({ x.check with lines := _ } : Check) = { c with lines := Check.closing (Tab.set s.sli.inLines n (f (s.inLine n))) }
    rw [hx']
    have hget : Tab.getD (Check.closing s.sli.inLines) n InLine.none = closeLine false (s.inLine n) := by
      rw [Tab.getD, State.inLine, Tab.getD, Check.closing, Tab.get?_mapKeyed fun _ => closeLine false]
      cases Tab.get? s.sli.inLines n <;> rfl
    dsimp only
    rw [hget, hf, Check.closing, Tab.set_mapKeyed fun _ => closeLine false]
    rfl
  | line m | call m k | held m =>
    have hx' : x.check = s.sli.check := hcheck
    show ({ x.check with lines := _ } : Check) = _
    rw [hx']
    rfl

theorem alike_setLine {n : Line} (hn : w.keepsLine n) (h : Alike w s t) (r : LineRec) : Alike w (setLine n r s) (setLine n r t) := by
  obtain ⟨x, rfl, hx⟩ := h
  exact ⟨{ x with lines := Tab.set x.lines n.val r }, rfl, Slack.lines_set hn hx.lines r, hx.dests, hx.check, hx.smp, hx.chg, hx.ceu,
    hx.dram⟩

theorem alike_dests_set (h : Alike w s t) (k : Nat) {r r' : Dest} (hr : r' = w.dest k r) :
    Alike w { s with dju := { s.dju with dests := Tab.set s.dju.dests k r } }
      { t with dju := { t.dju with dests := Tab.set t.dju.dests k r' } } := by
  obtain ⟨x, rfl, hx⟩ := h
  refine ⟨{ x with dests := Tab.set x.dests k r' }, rfl, hx.lines, ?_, hx.check, hx.smp, hx.chg, hx.ceu, hx.dram⟩
  rw [hr, hx.dests]
  exact Tab.set_mapKeyed ..

theorem alike_dests_erase (h : Alike w s t) (k : Nat) :
    Alike w { s with dju := { s.dju with dests := Tab.erase s.dju.dests k } }
      { t with dju := { t.dju with dests := Tab.erase t.dju.dests k } } := by
  obtain ⟨x, rfl, hx⟩ := h
  refine ⟨{ x with dests := Tab.erase x.dests k }, rfl, hx.lines, ?_, hx.check, hx.smp, hx.chg, hx.ceu, hx.dram⟩
  rw [hx.dests]
  exact Tab.erase_mapKeyed ..

theorem alike_chg (hw : w.keepsPages) (h : Alike w s t) {f : Chg → Chg} : Alike w { s with chg := f s.chg } { t with chg := f t.chg } := by
  obtain ⟨x, rfl, hx⟩ := h
  refine ⟨{ x with chg := f x.chg }, rfl, hx.lines, hx.dests, hx.check, hx.smp, ?_, hx.ceu, hx.dram⟩
  have := hx.chg
  cases w with
  | call k q => exact absurd hw id
  | line n => exact congrArg f this
  | check c => exact congrArg f this
  | held y => exact congrArg f this

theorem Alike.chg (hw : w.keepsPages) (h : Alike w s t) : t.chg = s.chg := by
  obtain ⟨x, rfl, hx⟩ := h
  have := hx.chg
  cases w with
  | call k q => exact absurd hw id
  | line n => exact this
  | check c => exact this
  | held y => exact this

theorem Alike.ceu (hw : w.keepsPages) (h : Alike w s t) : t.ceu = s.ceu := by
  obtain ⟨x, rfl, hx⟩ := h
  have := hx.ceu
  cases w with
  | call k q => exact absurd hw id
  | line n => exact this
  | check c => exact this
  | held y => exact this

theorem alike_ceu (h : Alike w s t) (x : Ceu) : Alike w { s with ceu := x } { t with ceu := x } := by
  obtain ⟨y, rfl, hy⟩ := h
  refine ⟨{ y with ceu := x }, rfl, hy.lines, hy.dests, hy.check, hy.smp, hy.chg, ?_, hy.dram⟩
  cases w <;> first | rfl | trivial

theorem alike_ceuBy (hw : w.keepsPages) {f : Ceu → Ceu} (h : Alike w s t) : Alike w { s with ceu := f s.ceu } { t with ceu := f t.ceu } := by
  rw [h.ceu hw]
  exact alike_ceu h _

/-- The bytes of stored pages lie outside every line's record. -/
theorem Alike.streamBytes (hw : w.keepsPages) (h : Alike w s t) (chain : List Nat) (o k : Nat) :
    t.streamBytes chain o k = s.streamBytes chain o k := by
  refine streamBytes_congr (by rw [h.cfg]) (fun a ha => ?_) ..
  obtain ⟨x, rfl, hx⟩ := h
  have hd := hx.dram
  cases w with
  | call k q => exact absurd hw id
  | line n =>
    refine AgreeOutside.get hd (.inr ?_)
    have hn : n.val < 8 := n.isLt
    simp only [State.por] at ha
    omega
  | check c => exact congrArg (Mem.get · a) hd
  | held y => exact congrArg (Mem.get · a) hd

end

end Sys2Proof.Machine
end

section
/-! PROOFS. Events, pages, documents, jobs and destinations on two states that differ in one slack alone. -/

namespace Sys2Proof.Machine

set_option Elab.async false

variable {w : Slack} {s t : State}

/-! ## Events and the free count -/

theorem alike_deliverEvent (h : Alike w s t) (hw : w.keepsPages) (e : Event) : Alike w (deliverEvent e s) (deliverEvent e t) := by
  have hc := h.ceu hw
  have hrecord {a b : State} (h : Alike w a b) (e : Event) : Alike w (writeRecord e a) (writeRecord e b) := by
    have hstores := alike_store (alike_store (a := a.cfg.evBase + 64 + 16 * a.ceu.evTail) (bs := e.bytes) h rfl)
      (a := a.cfg.evBase + 4) (bs := le 4 ((a.ceu.evTail + 1) % a.cfg.recCount)) rfl
    unfold writeRecord
    dsimp only
    rw [h.ceu hw, h.cfg, show (b.store (a.cfg.evBase + 64 + 16 * a.ceu.evTail) e.bytes).cfg = a.cfg from h.cfg]
    exact alike_ceuBy hw (f := fun c => { c with
      evTail := (a.ceu.evTail + 1) % a.cfg.recCount, attn := true,
      withdrawnWritten := c.withdrawnWritten || e.kind == .withdrawn }) hstores
  have hfull : t.ringFull = s.ringFull := by
    unfold State.ringFull State.unread
    rw [hc, h.cfg]
  have hkept : t.kept e = s.kept e := by
    unfold State.kept
    rw [hc]
  have hopen : t.openPlaces e.kind = s.openPlaces e.kind := by
    unfold State.openPlaces
    rw [hc]
  unfold deliverEvent
  rw [hfull, hkept, hopen, hc]
  refine .ite Iff.rfl (fun _ => h) fun _ => .ite Iff.rfl (fun _ => hrecord (alike_ceu h _) _) fun _ => .ite Iff.rfl
    (fun _ => alike_ceu h _) fun _ => .ite Iff.rfl (fun _ => alike_ceu h _) fun _ => alike_ceu h _

theorem alike_postTagged (h : Alike w s t) {kind : EventKind} {src : SourceKind} {idx tag code value : Nat} :
    Alike w (postTagged kind src idx tag code value s) (postTagged kind src idx tag code value t) := by
  by_cases hw : w.keepsPages
  · unfold postTagged
    rw [h.rgw, h.seconds]
    exact .ite Iff.rfl (fun _ => h) fun _ => alike_deliverEvent h hw _
  · obtain ⟨c, m, hs, -⟩ := postTagged_frame kind src idx tag code value s
    obtain ⟨c', m', ht, -⟩ := postTagged_frame kind src idx tag code value t
    rw [hs, ht]
    obtain ⟨x, rfl, hx⟩ := h
    refine ⟨{ x with ceu := c', dram := m' }, rfl, hx.lines, hx.dests, hx.check, hx.smp, hx.chg, ?_, ?_⟩
    · cases w with
      | call k q => trivial
      | line n => exact absurd trivial hw
      | check c => exact absurd trivial hw
      | held y => exact absurd trivial hw
    · cases w with
      | call k q => trivial
      | line n => exact absurd trivial hw
      | check c => exact absurd trivial hw
      | held y => exact absurd trivial hw

theorem alike_post (h : Alike w s t) {kind : EventKind} {src : SourceKind} {idx code value : Nat} :
    Alike w (post kind src idx code value s) (post kind src idx code value t) := alike_postTagged h

theorem alike_occasion (h : Alike w s t) : Alike w (occasion s) (occasion t) :=
  alike_dju (f := fun d => { d with passDue := true }) h (fun _ _ => rfl) rfl

theorem alike_hand (h : Alike w s t) (n : Line) (k : TxKind) : Alike w (hand n k s) (hand n k t) := by
  have hq : t.sli.handings = s.sli.handings ∧ t.sli.queue = s.sli.queue := by
    rw [h.rest.2.2]
    exact ⟨rfl, rfl⟩
  unfold hand
  rw [hq.1, hq.2]
  refine .ite Iff.rfl (fun _ => ?_) fun _ => ?_
  · exact alike_sli (f := fun x => { x with queue := s.sli.queue ++ [k.msg n] }) h (fun _ _ => rfl) rfl
  · exact alike_sli (f := fun x => { x with handings := s.sli.handings ++ [k.msg n] }) h (fun _ _ => rfl) rfl

theorem alike_writePathStatus (h : Alike w s t) : Alike w (writePathStatus s) (writePathStatus t) := by
  have hbytes : t.pathStatusBytes = s.pathStatusBytes := by
    obtain ⟨x, rfl, -⟩ := h
    rfl
  unfold writePathStatus
  rw [hbytes]
  exact alike_store h (h.por _)

theorem alike_testLowMark (h : Alike w s t) : Alike w (testLowMark s) (testLowMark t) := by
  unfold testLowMark
  rw [h.freeCount, h.psm]
  exact .ite Iff.rfl (fun _ => alike_post (alike_psm h _)) fun _ => .ite Iff.rfl (fun _ => alike_psm h _) fun _ => h

theorem alike_freeCountChanged (h : Alike w s t) : Alike w (freeCountChanged s) (freeCountChanged t) :=
  alike_testLowMark (alike_writePathStatus h)

/-! ## Pages -/

theorem alike_putPage (h : Alike w s t) (p : Nat) (r : PageRec) : Alike w (putPage p r s) (putPage p r t) := by
  unfold putPage
  rw [h.psm]
  exact alike_store (alike_psm h _) (h.por _)

theorem alike_clearPage (h : Alike w s t) (p : Nat) : Alike w (clearPage p s) (clearPage p t) := by
  unfold clearPage
  rw [h.psm]
  exact alike_store (alike_psm h _) (h.por _)

theorem alike_modifyPage (h : Alike w s t) (p : Nat) (f : PageRec → PageRec) : Alike w (modifyPage p f s) (modifyPage p f t) := by
  unfold modifyPage
  rw [h.page?]
  cases s.page? p with
  | none => exact h
  | some r => exact alike_putPage h p _

theorem alike_markTruncated (h : Alike w s t) (p : Nat) : Alike w (markTruncated p s) (markTruncated p t) := alike_modifyPage h p _

theorem alike_writeTrailer (h : Alike w s t) (i next : Nat) : Alike w (writeTrailer i next s) (writeTrailer i next t) := by
  refine alike_store h ?_
  rw [h.segAddr]

theorem alike_pushSegments (h : Alike w s t) (segs : List Nat) : Alike w (pushSegments segs s) (pushSegments segs t) := by
  refine Alike.foldl (fun a b i h => ?_) h
  unfold pushSegment
  dsimp only
  simp only [State.store_psm]
  rw [h.psm, h.freeCount]
  exact alike_psm (alike_store h (h.por _)) _

theorem alike_releasePage (h : Alike w s t) (p : Nat) (r : PageRec) : Alike w (releasePage p r s) (releasePage p r t) :=
  .ite Iff.rfl (fun _ => alike_writePathStatus (alike_clearPage h p)) fun _ =>
    alike_freeCountChanged (alike_clearPage (alike_pushSegments h _) p)

/-- With the slack of an ended call DRAM is free. -/
theorem alike_trimPage (h : Alike w s t) (p lc : Nat) : Alike w (trimPage p lc s) (trimPage p lc t) := by
  unfold trimPage
  rw [h.page?]
  cases s.page? p with
  | none => exact h
  | some r =>
    refine .ite Iff.rfl (fun _ => h) fun _ => alike_freeCountChanged (alike_putPage ?_ p _)
    have hp := alike_pushSegments h (r.chain.drop (segsFor lc))
    cases (r.chain.take (segsFor lc)).getLast? with
    | none => exact hp
    | some l => exact alike_writeTrailer hp l chainEnd

theorem alike_sealRecord (h : Alike w s t) (hw : w.keepsPages) (p lc lines : Nat) :
    Alike w (sealRecord p lc lines s) (sealRecord p lc lines t) := by
  have ht := alike_trimPage h p lc
  unfold sealRecord
  rw [h.seconds]
  simp only [ht.streamBytes hw]
  exact alike_modifyPage ht p _

/-- A segment is given on both sides or on neither. -/
theorem alike_giveSegment (h : Alike w s t) (p : Nat) : (giveSegment p s = none ∧ giveSegment p t = none)
    ∨ ∃ a b, giveSegment p s = some a ∧ giveSegment p t = some b ∧ Alike w a b := by
  unfold giveSegment
  rw [h.page?, h.psm]
  cases s.psm.stack with
  | nil => exact .inl ⟨rfl, rfl⟩
  | cons seg rest =>
    cases s.page? p with
    | none => exact .inl ⟨rfl, rfl⟩
    | some r =>
      refine .inr ⟨_, _, rfl, rfl, alike_freeCountChanged (alike_putPage ?_ p _)⟩
      have hg := alike_writeTrailer (alike_psm h { s.psm with stack := rest }) seg chainEnd
      cases r.chain.getLast? with
      | none => exact hg
      | some l => exact alike_writeTrailer hg l seg

theorem alike_giveSegments (h : Alike w s t) (p k : Nat) :
    Alike w (giveSegments p k s).1 (giveSegments p k t).1 ∧ (giveSegments p k t).2 = (giveSegments p k s).2 := by
  induction k generalizing s t with
  | zero => exact ⟨h, rfl⟩
  | succ k ih =>
    unfold giveSegments
    rcases alike_giveSegment h p with ⟨hs, ht⟩ | ⟨a, b, hs, ht, hab⟩
    · rw [hs, ht]
      exact ⟨h, rfl⟩
    · rw [hs, ht]
      exact ih hab

theorem alike_writeStream (h : Alike w s t) (chain : List Nat) (o : Nat) (bs : List Byte) :
    Alike w (writeStream chain o bs s) (writeStream chain o bs t) := by
  have hstretch (l : List Nat) : ∀ (o : Nat) (bs : List Byte) (s t : State), Alike w s t →
      Alike w (writeStretches l o bs s) (writeStretches l o bs t) := by
    induction l with
    | nil => exact fun _ _ _ _ h => h
    | cons seg l ih => exact fun o bs s t h => ih _ _ _ _ (alike_store h (by rw [h.segAddr]))
  exact .ite Iff.rfl (fun _ => h) fun _ => hstretch _ _ _ _ _ h

/-! ## Documents -/

theorem alike_putDoc (h : Alike w s t) (d : Nat) (r : Doc) : Alike w (putDoc d r s) (putDoc d r t) :=
  alike_store (alike_dju (f := fun x => { x with docs := Tab.set x.docs d r }) h (fun _ _ => rfl) rfl) (h.por _)

theorem alike_clearDoc (h : Alike w s t) (d : Nat) : Alike w (clearDoc d s) (clearDoc d t) :=
  alike_store (alike_dju (f := fun x => { x with docs := Tab.erase x.docs d }) h (fun _ _ => rfl) rfl) (h.por _)

theorem alike_modifyDoc (h : Alike w s t) (d : Nat) (f : Doc → Doc) : Alike w (modifyDoc d f s) (modifyDoc d f t) := by
  unfold modifyDoc
  rw [h.doc?]
  cases s.doc? d with
  | none => exact h
  | some r => exact alike_putDoc h d _

theorem alike_testDocFree (h : Alike w s t) (d : Nat) : Alike w (testDocFree d s) (testDocFree d t) := by
  unfold testDocFree
  rw [h.doc?]
  cases s.doc? d with
  | none => exact h
  | some r => exact .ite Iff.rfl (fun _ => alike_clearDoc h d) fun _ => h

theorem alike_testPageFree (h : Alike w s t) (p : Nat) : Alike w (testPageFree p s) (testPageFree p t) := by
  unfold testPageFree
  rw [h.page?]
  cases s.page? p with
  | none => exact h
  | some r =>
    dsimp only
    rw [h.keeps]
    exact .ite Iff.rfl (fun _ => alike_testDocFree (alike_modifyDoc (alike_releasePage h p r) _ _) _) fun _ => h

theorem alike_changeSendHolds (h : Alike w s t) (p : Nat) (delta : Int) :
    Alike w (changeSendHolds p delta s) (changeSendHolds p delta t) := by
  unfold changeSendHolds
  rw [h.page?]
  cases s.page? p with
  | none => exact h
  | some r => exact .ite Iff.rfl (fun _ => alike_testPageFree (alike_putPage h p _) p) fun _ => alike_putPage h p _

theorem alike_changePrintHolds (h : Alike w s t) (p : Nat) (delta : Int) :
    Alike w (changePrintHolds p delta s) (changePrintHolds p delta t) := by
  unfold changePrintHolds
  rw [h.page?]
  cases s.page? p with
  | none => exact h
  | some r => exact .ite Iff.rfl (fun _ => alike_testPageFree (alike_putPage h p _) p) fun _ => alike_putPage h p _

theorem alike_abandonPage (h : Alike w s t) (p : Nat) : Alike w (abandonPage p s) (abandonPage p t) := by
  unfold abandonPage
  rw [h.page?]
  cases s.page? p with
  | none => exact h
  | some r => exact alike_modifyDoc (alike_releasePage h p r) _ _

/-! ## Jobs and destinations -/

theorem alike_putJob (h : Alike w s t) (j : Nat) (r : Job) : Alike w (putJob j r s) (putJob j r t) :=
  alike_store (alike_dju (f := fun x => { x with jobs := Tab.set x.jobs j r }) h (fun _ _ => rfl) rfl) (h.por _)

theorem alike_clearJob (h : Alike w s t) (j : Nat) : Alike w (clearJob j s) (clearJob j t) :=
  alike_store (alike_dju (f := fun x => { x with jobs := Tab.erase x.jobs j }) h (fun _ _ => rfl) rfl) (h.por _)

theorem alike_modifyJob (h : Alike w s t) (j : Nat) (f : Job → Job) : Alike w (modifyJob j f s) (modifyJob j f t) := by
  unfold modifyJob
  rw [h.job?]
  cases s.job? j with
  | none => exact h
  | some r => exact alike_putJob h j _

theorem Slack.dest_of_keepsPages (hw : w.keepsPages) (k : Nat) (d : Dest) : w.dest k d = d := by
  cases w with
  | call k' q => exact absurd hw id
  | line n => rfl
  | check c => rfl
  | held x => rfl

/-- DRAM after writes of different bytes, where the slack leaves them free. -/
theorem alike_store_of_call (h : Alike w s t) (hw : ¬w.keepsPages) (a a' : Nat) (bs bs' : List Byte) :
    Alike w (s.store a bs) (t.store a' bs') := by
  obtain ⟨x, rfl, hx⟩ := h
  refine ⟨{ x with dram := Mem.write x.dram a' bs' }, rfl, hx.of_dram ?_⟩
  cases w with
  | call k q => trivial
  | line n => exact absurd trivial hw
  | check c => exact absurd trivial hw
  | held y => exact absurd trivial hw

theorem alike_putDest (h : Alike w s t) (k : Nat) {r r' : Dest} (hr : r' = w.dest k r) : Alike w (putDest k r s) (putDest k r' t) := by
  by_cases hw : w.keepsPages
  · have hr' : r' = r := hr.trans (Slack.dest_of_keepsPages hw k r)
    have hset := alike_dests_set h k hr
    rw [hr'] at hset ⊢
    exact alike_store hset (h.por _)
  · exact alike_store_of_call (alike_dests_set h k hr) hw ..

theorem alike_clearDest (h : Alike w s t) (k : Nat) : Alike w (clearDest k s) (clearDest k t) :=
  alike_store (alike_dests_erase h k) (h.por _)

theorem alike_modifyDest (h : Alike w s t) (k : Nat) {f : Dest → Dest}
    (hf : ∀ d q, f { d with logSeq := q } = { f d with logSeq := q }) : Alike w (modifyDest k f s) (modifyDest k f t) := by
  unfold modifyDest
  rw [h.dest?]
  cases s.dest? k with
  | none => exact h
  | some r => exact alike_putDest h k (w.dest_comm k r hf).symm

/-- What a destination shows besides its sequence. -/
theorem Slack.dest_fields (w : Slack) (k : Nat) (d : Dest) : (w.dest k d).job = d.job ∧ (w.dest k d).state = d.state
    ∧ (w.dest k d).confirmed = d.confirmed ∧ (w.dest k d).attempts = d.attempts ∧ (w.dest k d).cancelMark = d.cancelMark
    ∧ (w.dest k d).isFinal = d.isFinal ∧ (w.dest k d).isIdle = d.isIdle ∧ (w.dest k d).digits = d.digits
    ∧ (w.dest k d).index = d.index := by
  obtain ⟨q, hq⟩ := w.dest_eq k d
  rw [hq]
  exact ⟨rfl, rfl, rfl, rfl, rfl, rfl, rfl, rfl, rfl⟩

theorem Alike.docOf (h : Alike w s t) (k : Nat) (d : Dest) : t.docOf (w.dest k d) = s.docOf d := by
  unfold State.docOf State.jobOf
  rw [(w.dest_fields k d).1, h.job?]

theorem alike_takeHoldsOff (h : Alike w s t) (k : Nat) : Alike w (takeHoldsOff k s) (takeHoldsOff k t) := by
  unfold takeHoldsOff
  rw [h.dest?]
  cases s.dest? k with
  | none => exact h
  | some d =>
    simp only [Option.map_some]
    rw [h.docOf, (w.dest_fields k d).2.2.1]
    cases s.docOf d with
    | none => exact h
    | some doc =>
      simp only [h.pagesFrom]
      exact h.foldl fun _ _ p h => alike_changeSendHolds h p _

theorem alike_finishDest (h : Alike w s t) (k : Nat) (st : DestState) : Alike w (finishDest k st s) (finishDest k st t) := by
  unfold finishDest
  rw [h.dest?]
  cases s.dest? k with
  | none => exact h
  | some d =>
    have hc := w.dest_comm k d (f := fun d => { d with state := st, cancelMark := false }) fun _ _ => rfl
    obtain ⟨q, hq⟩ := w.dest_eq k d
    rw [hq] at hc
    simp only [Option.map_some, hq, State.jobOf]
    rw [h.job?]
    exact alike_postTagged (alike_modifyJob (alike_putDest h k hc.symm) _ _)

theorem alike_destGivenUp (h : Alike w s t) (k : Nat) (st : DestState) : Alike w (destGivenUp k st s) (destGivenUp k st t) :=
  alike_finishDest (alike_takeHoldsOff h k) k st

theorem Alike.jobIsFinal (h : Alike w s t) (j : Nat) : t.jobIsFinal j = s.jobIsFinal j := by
  unfold State.jobIsFinal
  rw [h.job?]
  cases s.job? j with
  | none => rfl
  | some r =>
    obtain ⟨x, rfl, hx⟩ := h
    show (decide (r.sessions = 0) && x.dests.all _) = _
    rw [hx.dests, List.all_map]
    refine congrArg _ (congrArg (List.all s.dju.dests) (funext fun e => ?_))
    obtain ⟨hjob, -, -, -, -, hfinal, -⟩ := w.dest_fields e.1 e.2
    simp only [Function.comp, hjob, hfinal]

theorem alike_endJob (h : Alike w s t) (j : Nat) (r : Job) : Alike w (endJob j r s) (endJob j r t) := by
  have hp := alike_postTagged (kind := .jobDone) (src := .job) (idx := j) (tag := r.tag) (code := r.state.doneCode) (value := r.doneValue) h
  unfold endJob
  dsimp only
  rw [hp.destsOf]
  exact alike_testDocFree (alike_modifyDoc (alike_clearJob (hp.foldl fun _ _ k h => alike_clearDest h k) j) _ _) _

theorem alike_testJobEnd (h : Alike w s t) (j : Nat) : Alike w (testJobEnd j s) (testJobEnd j t) := by
  unfold testJobEnd
  rw [h.job?]
  cases s.job? j with
  | none => exact h
  | some r =>
    dsimp only
    rw [h.jobIsFinal]
    exact .ite Iff.rfl (fun _ => alike_endJob h j r) fun _ => h

theorem alike_toRetryWait (h : Alike w s t) (k a : Nat) : Alike w (toRetryWait k a s) (toRetryWait k a t) := by
  have hgen : t.dju.gen = s.dju.gen ∧ t.dju.baseWait = s.dju.baseWait := by
    rw [h.dju]
    exact ⟨rfl, rfl⟩
  have hwait : retryWait t.dju.baseWait a (nextGen t.dju.gen % t.dju.baseWait)
      = retryWait s.dju.baseWait a (nextGen s.dju.gen % s.dju.baseWait) := by rw [hgen.1, hgen.2]
  unfold toRetryWait
  dsimp only
  rw [hwait, h.seconds]
  have hd := alike_dju (f := fun x => { x with gen := nextGen x.gen }) h (fun _ _ => rfl) rfl
  exact alike_modifyDest hd k fun _ _ => rfl

theorem alike_moveDest (h : Alike w s t) (k : Nat) (cause : Cause) : Alike w (moveDest k cause s) (moveDest k cause t) := by
  unfold moveDest
  rw [h.dest?]
  cases s.dest? k with
  | none => exact h
  | some d =>
    have hc := w.dest_comm k d
      (f := fun q => { q with attempts := if cause.counts = true then d.attempts + 1 else d.attempts }) fun _ _ => rfl
    obtain ⟨q, hq⟩ := w.dest_eq k d
    rw [hq] at hc
    have hput := alike_putDest h k hc.symm
    simp only [Option.map_some, hq]
    refine .ite Iff.rfl (fun _ => h) fun _ => .ite Iff.rfl (fun _ => alike_destGivenUp hput ..) fun _ => .ite Iff.rfl
      (fun _ => alike_modifyDest hput k fun _ _ => rfl) fun _ => .ite Iff.rfl (fun _ => alike_destGivenUp hput ..) fun _ =>
      .ite Iff.rfl (fun _ => .ite ?_ (fun _ => alike_toRetryWait hput ..) fun _ => alike_destGivenUp hput ..) fun _ => hput
    exact Iff.of_eq (congrArg (_ < ·) (show t.dju.maxAttempts = s.dju.maxAttempts by rw [h.dju]))

theorem alike_destSessionEnd (h : Alike w s t) (k : Nat) (cause : Cause) :
    Alike w (destSessionEnd k cause s) (destSessionEnd k cause t) := by
  unfold destSessionEnd
  rw [h.dest?]
  cases s.dest? k with
  | none => exact h
  | some d =>
    simp only [Option.map_some]
    rw [(w.dest_fields k d).1]
    exact alike_moveDest (alike_modifyDest (alike_modifyJob h _ _) k fun _ _ => rfl) k cause

end Sys2Proof.Machine
end

section
/-! PROOFS. Lines, scans, deletions and the ends of sessions on two states that differ in one slack alone. -/

namespace Sys2Proof.Machine

set_option Elab.async false

variable {w : Slack} {s t : State}

/-! ## Lines -/

theorem alike_writeLine {n : Line} (hn : w.keepsLine n) (h : Alike w s t) : Alike w (writeLine n s) (writeLine n t) := by
  have hbytes : t.lineBytes n = s.lineBytes n := by
    unfold State.lineBytes
    rw [h.line hn, h.plan, show t.lne.grace = s.lne.grace by rw [h.rest.1]]
  unfold writeLine
  rw [hbytes]
  exact alike_store h (h.por _)

theorem alike_modifyLine {n : Line} (hn : w.keepsLine n) (h : Alike w s t) (f : LineRec → LineRec) :
    Alike w (modifyLine n f s) (modifyLine n f t) := by
  unfold modifyLine
  rw [h.line hn]
  exact .ite Iff.rfl (fun _ => alike_setLine hn h _) fun _ => alike_writeLine hn (alike_setLine hn h _)

theorem alike_enterState {n : Line} (hn : w.keepsLine n) (h : Alike w s t) (st : LineState) (f : LineRec → LineRec) :
    Alike w (enterState n st f s) (enterState n st f t) := by
  unfold enterState
  rw [h.timers]
  exact alike_modifyLine hn h _

theorem alike_restartTimer {n : Line} (hn : w.keepsLine n) (h : Alike w s t) : Alike w (restartTimer n s) (restartTimer n t) := by
  unfold restartTimer
  rw [h.timers]
  exact alike_modifyLine hn h _

theorem alike_clearLine {n : Line} (hn : w.keepsLine n) (h : Alike w s t) (cause : Cause) :
    Alike w (clearLine n cause s) (clearLine n cause t) := alike_enterState hn (alike_hand h ..) ..

theorem alike_abandonLine {n : Line} (hn : w.keepsLine n) (h : Alike w s t) (cause : Cause) :
    Alike w (abandonLine n cause s) (abandonLine n cause t) := alike_clearLine hn (alike_hand h ..) cause

theorem Alike.linePage {n : Line} (hn : w.keepsLine n) (h : Alike w s t) : t.linePage n = s.linePage n := by
  unfold State.linePage
  rw [h.line hn]
  exact congrArg _ (funext fun p => h.page? p)

theorem Alike.lineDoc {n : Line} (hn : w.keepsLine n) (h : Alike w s t) : t.lineDoc n = s.lineDoc n := by
  unfold State.lineDoc
  rw [h.line hn]
  exact congrArg _ (funext fun p => h.doc? p)

theorem alike_sendPartial {n : Line} (hn : w.keepsLine n) (h : Alike w s t) (p : Nat) :
    Alike w (sendPartial n p s) (sendPartial n p t) := by
  unfold sendPartial
  rw [h.linePage hn]
  exact alike_enterState hn h ..

theorem alike_takePage {n : Line} (hn : w.keepsLine n) (h : Alike w s t) (d : Doc) (k p : Nat) (r : PageRec) :
    Alike w (takePage n d k p r s) (takePage n d k p r t) := by
  have hm := alike_modifyLine hn h fun l => { l with page := some p, pagePos := k, rounds := 0 }
  refine .ite Iff.rfl (fun _ => alike_abandonLine hn hm _) fun _ => alike_sendPartial hn ?_ 0
  unfold announcePage
  rw [hm.line hn]
  exact .ite Iff.rfl (fun _ => hm) fun _ => alike_modifyLine hn (alike_hand hm ..) _

theorem alike_waitForData {n : Line} (hn : w.keepsLine n) (h : Alike w s t) : Alike w (waitForData n s) (waitForData n t) := by
  unfold waitForData
  rw [h.line hn]
  exact .ite Iff.rfl (fun _ => h) fun _ => alike_enterState hn h ..

theorem alike_allPagesSent {n : Line} (hn : w.keepsLine n) (h : Alike w s t) : Alike w (allPagesSent n s) (allPagesSent n t) := by
  have hg : Alike w (if (s.line n).lastEnd = some .docEnd then s else hand n .abandon s)
      (if (t.line n).lastEnd = some .docEnd then t else hand n .abandon t) := by
    rw [h.line hn]
    exact .ite Iff.rfl (fun _ => h) fun _ => alike_hand h ..
  unfold allPagesSent
  dsimp only
  rw [hg.line hn]
  refine alike_clearLine hn ?_ _
  cases (State.line (if (s.line n).lastEnd = some .docEnd then s else hand n .abandon s) n).dest with
  | none => exact hg
  | some k => exact alike_finishDest hg k .sent

theorem alike_nextPlace {n : Line} (hn : w.keepsLine n) (h : Alike w s t) : Alike w (nextPlace n s) (nextPlace n t) := by
  have hdest : (s.lineDest n = none ∧ t.lineDest n = none)
      ∨ ∃ q q', s.lineDest n = some q ∧ t.lineDest n = some q' ∧ q'.confirmed = q.confirmed := by
    unfold State.lineDest
    rw [h.line hn]
    cases (s.line n).dest with
    | none => exact .inl ⟨rfl, rfl⟩
    | some k =>
      show (s.dest? k = none ∧ t.dest? k = none) ∨ ∃ q q', s.dest? k = some q ∧ t.dest? k = some q' ∧ _
      rw [h.dest?]
      cases s.dest? k with
      | none => exact .inl ⟨rfl, rfl⟩
      | some q => exact .inr ⟨_, _, rfl, rfl, (w.dest_fields k q).2.2.1⟩
  unfold nextPlace
  rw [h.lineDoc hn]
  rcases hdest with ⟨hs, ht⟩ | ⟨q, q', hs, ht, hconf⟩
  · rw [hs, ht]
    exact h
  · rw [hs, ht]
    cases s.lineDoc n with
    | none => exact h
    | some d =>
      dsimp only
      rw [hconf]
      cases d.places[q.confirmed]? with
      | none => exact .ite Iff.rfl (fun _ => alike_allPagesSent hn h) fun _ => alike_waitForData hn h
      | some place =>
        simp only [h.page?]
        cases place.bind fun p => (s.page? p).map fun r => (p, r) with
        | none => exact alike_waitForData hn h
        | some x => exact .ite Iff.rfl (fun _ => alike_takePage hn h ..) fun _ => alike_waitForData hn h

/-- No line whose record differs waits for data. -/
theorem Alike.waits (h : Alike w s t) (n : Line) (d : Nat) :
    ((t.line n).state = .dataWait ∧ (t.line n).doc = some d ↔ (s.line n).state = .dataWait ∧ (s.line n).doc = some d)
      ∧ ((s.line n).state = .dataWait → w.keepsLine n) := by
  by_cases hn : w.keepsLine n
  · exact ⟨by rw [h.line hn], fun _ => hn⟩
  · cases w with
    | line m =>
      obtain rfl : m = n := by
        by_contra e
        exact hn e
      obtain ⟨x, rfl, hx⟩ := h
      obtain ⟨-, hne, a, b, c, hr⟩ := hx.lines
      have hr' : (s.alter x).line m = { s.line m with timer := a, remaining := b, kept := c } := hr
      have hne' : (s.line m).state ≠ .dataWait := hne
      rw [hr']
      exact ⟨Iff.rfl, fun e => absurd e hne'⟩
    | call k q => exact absurd trivial hn
    | check c => exact absurd trivial hn
    | held x => exact absurd trivial hn

theorem alike_recheckLines (h : Alike w s t) (d : Nat) : Alike w (recheckLines d s) (recheckLines d t) := by
  refine Alike.foldl (fun a b n h => ?_) h
  obtain ⟨hiff, hn⟩ := h.waits n d
  exact .ite hiff (fun hc => alike_nextPlace (hn hc.1) h) fun _ => h

theorem alike_giveUpPage (h : Alike w s t) (d p : Nat) : Alike w (giveUpPage d p s) (giveUpPage d p t) :=
  alike_recheckLines (alike_abandonPage h p) d

theorem alike_sealPage (hw : w.keepsPages) (h : Alike w s t) (p lc lines : Nat) : Alike w (sealPage p lc lines s) (sealPage p lc lines t) := by
  unfold sealPage
  rw [h.page?]
  cases s.page? p with
  | none => exact h
  | some r =>
    exact .ite Iff.rfl (fun _ => alike_giveUpPage h ..) fun _ =>
      alike_testPageFree (alike_occasion (alike_recheckLines (alike_sealRecord h hw ..) _)) p

/-! ## A held bus write and the end of a scan -/

theorem alike_storeAccess (h : Alike w s t) (a : BusAccess) : Alike w (storeAccess a s) (storeAccess a t) := by
  obtain ⟨x, rfl, hx⟩ := h
  refine ⟨{ x with dram := (storeAccess a (s.alter x)).dram }, rfl, hx.of_dram ?_⟩
  show w.dram _ (Mem.write s.dram a.off _) (Mem.write x.dram a.off _)
  have hd := hx.dram
  cases w with
  | call k q => trivial
  | check c =>
    have e : x.dram = s.dram := hd
    show Mem.write x.dram a.off (le 4 (mergeWord (Mem.word x.dram a.off) a.data a.be).toNat) = _
    rw [e]
  | held y =>
    have e : x.dram = s.dram := hd
    show Mem.write x.dram a.off (le 4 (mergeWord (Mem.word x.dram a.off) a.data a.be).toNat) = _
    rw [e]
  | line n =>
    obtain ⟨iw, off, data, be⟩ := a
    have hbytes (u : State) : le 4 (mergeWord (Mem.word u.dram off) data be).toNat = u.bytesAfter off data be := by
      have e := storeAccess_eq false off data be u
      have hself := congrArg (fun v : State => Mem.bytes v.dram off 4) e
      have h1 := Mem.bytes_write_self u.dram off (le 4 (mergeWord (Mem.word u.dram off) data be).toNat)
      have h2 := Mem.bytes_write_self u.dram off (u.bytesAfter off data be)
      rw [State.bytesAfter_length] at h2
      rw [le_length] at h1
      exact h1.symm.trans (hself.trans h2)
    dsimp only
    rw [hbytes s, hbytes (s.alter x), Mem.write_eq_splice, Mem.write_eq_splice, State.bytesAfter_length, State.bytesAfter_length]
    refine AgreeOutside.splice hd (agreeOutside_cells _ _ _ (by simp) fun i hi hout => ?_) ..
    have hget : Mem.get x.dram (off + i) = Mem.get s.dram (off + i) := AgreeOutside.get hd hout
    rw [State.bytesAfter_length] at hi
    simp only [State.bytesAfter, List.getElem?_map, List.getElem?_range hi, Option.map_some, State.byteAfter]
    rw [show (s.alter x).dram = x.dram from rfl, hget]

theorem alike_rawWatch (h : Alike w s t) (off : Nat) : Alike w (rawWatch off s) (rawWatch off t) := by
  have hslot : t.rawSlot off = s.rawSlot off := by
    unfold State.rawSlot
    rw [h.rgw, h.cfg]
  have hwaits (g : RawGeom) (j : Nat) : t.slotWaits g j = s.slotWaits g j := by
    unfold State.slotWaits
    rw [h.scn]
  unfold rawWatch
  rw [hslot]
  cases s.rawSlot off with
  | none => exact h
  | some x =>
    obtain ⟨g, j, r⟩ := x
    have hreport : Alike w (lastPixelReport g j s) (lastPixelReport g j t) := by
      unfold lastPixelReport
      refine .ite (by rw [hwaits]) (fun _ => h) fun _ => .ite (by rw [h.scn]) (fun _ => ?_) fun _ => ?_
      · exact alike_rgwBy (alike_scnBy h (f := fun x => { x with comp := (j + 1) % g.slots, waiting := x.waiting + 1 }))
          (f := fun x => { x with started := false }) fun _ => rfl
      · rw [h.scn]
        exact alike_post h
    exact .ite (by rw [h.rgw]) (fun _ => h) fun _ => .ite Iff.rfl (fun _ => hreport) fun _ => .ite (by rw [h.scn])
      (fun _ => alike_rgwBy h (f := fun x => { x with started := true }) fun _ => rfl) fun _ => h

theorem alike_passWrite (h : Alike w s t) (a : BusAccess) : Alike w (passWrite a s) (passWrite a t) :=
  alike_rawWatch (alike_storeAccess h a) a.off

/-- Both hold the same access, or the second alone holds a read of a print slot. -/
theorem Alike.smp (h : Alike w s t) :
    t.smp = s.smp ∨ ∃ x, w = .held x ∧ x.reason = .print ∧ s.smp.held = none ∧ t.smp = { s.smp with held := some x } := by
  obtain ⟨x, rfl, hx⟩ := h
  have hs := hx.smp
  cases w with
  | held y => exact .inr ⟨y, rfl, hs⟩
  | line n => exact .inl hs
  | call k q => exact .inl hs
  | check c => exact .inl hs

theorem Slack.smp_of_ne {p : Nat} {a b : Alter} (hw : ∀ x, w ≠ .held x) (h : w.agrees p a b) (m : Smp) :
    w.agrees p { a with smp := m } { b with smp := m } := by
  refine ⟨h.lines, h.dests, h.check, ?_, h.chg, h.ceu, h.dram⟩
  cases w with
  | held y => exact absurd rfl (hw y)
  | line n => rfl
  | call k q => rfl
  | check c => rfl

theorem alike_releaseScanHold (h : Alike w s t) : Alike w (releaseScanHold s) (releaseScanHold t) := by
  by_cases hw : ∃ x, w = .held x
  · obtain ⟨x, rfl⟩ := hw
    rcases h.smp with he | ⟨y, -, hy, hs, ht⟩
    · obtain ⟨x', rfl, hx⟩ := h
      obtain ⟨-, hnone, hsome⟩ := hx.smp
      have hnone' : s.smp.held = none := hnone
      have hx' : x'.smp = s.smp := he
      rw [hx'] at hsome
      have := congrArg Smp.held (show s.smp = { s.smp with held := some x } from hsome)
      rw [hnone'] at this
      cases this
    · have hs' : releaseScanHold s = s := by
        unfold releaseScanHold
        rw [hs]
      have ht' : releaseScanHold t = t := by
        unfold releaseScanHold
        rw [ht]
        dsimp only
        rw [hy]
      rw [hs', ht']
      exact h
  · have hsmp : t.smp = s.smp := by
      rcases h.smp with he | ⟨y, hy, -⟩
      · exact he
      · exact absurd ⟨y, hy⟩ hw
    have hlap (off : Nat) : t.lapping off = s.lapping off := by
      unfold State.lapping State.rawSlot State.slotWaits
      rw [h.rgw, h.cfg, h.scn, h.isRun]
    unfold releaseScanHold
    rw [hsmp]
    cases hheld : s.smp.held with
    | none => exact h
    | some y =>
      dsimp only
      rw [hlap]
      cases y.reason with
      | reset => exact h
      | print => exact h
      | scan j =>
        refine .ite Iff.rfl (fun _ => alike_passWrite ?_ _) fun _ => h
        obtain ⟨x', rfl, hx⟩ := h
        exact ⟨{ x' with smp := { s.smp with held := none } }, by rw [← hsmp]; rfl, Slack.smp_of_ne (fun x e => hw ⟨x, e⟩) hx _⟩

theorem alike_endScan (h : Alike w s t) : Alike w (endScan s) (endScan t) := by
  unfold endScan
  rw [h.rgw, h.scn]
  exact alike_releaseScanHold (alike_scn (alike_rgw h (x := { s.rgw with rawGeom := none, started := false }) rfl) _)

/-- A coded line behind the segments that it was given. -/
def lineStored (p : Nat) (dots : List Bool) (bytes : List Byte) (len : Nat) (g : State × Bool) : State :=
  let s := writeStream (((g.1.page? p).map PageRec.chain).getD []) len bytes g.1
  if g.2 then
    { s with scn := { s.scn with ref := dots, outLines := s.scn.outLines + 1, streamLen := s.scn.streamLen + bytes.length } }
  else scanFault .storeFull s

theorem appendLine_eq_lineStored {dots : List Bool} {s : State} {p : Nat} {prof : Profile} (hp : s.scn.page = some p)
    (hprof : s.scn.active = some prof) : appendLine dots s = lineStored p dots (codeLine prof.cls.dots s.scn.ref dots) s.scn.streamLen
      (giveSegments p (segsFor (s.scn.streamLen + (codeLine prof.cls.dots s.scn.ref dots).length)
        - (((s.page? p).map PageRec.chain).getD []).length) s) := by
  unfold appendLine
  rw [hp, hprof]
  rfl

theorem appendLine_of_idle {dots : List Bool} {s : State} (h : s.scn.page = none ∨ s.scn.active = none) : appendLine dots s = s := by
  unfold appendLine
  rcases h with h | h
  · rw [h]
  · rw [h]
    cases s.scn.page <;> rfl

section

variable (hw : w.keepsPages) (h : Alike w s t)
include hw h

theorem alike_sealOpenPage : Alike w (sealOpenPage s) (sealOpenPage t) := by
  unfold sealOpenPage
  rw [h.scn]
  cases s.scn.page with
  | none => exact h
  | some p => exact alike_sealPage hw (alike_scn h _) ..

theorem alike_faultPage : Alike w (faultPage s).1 (faultPage t).1 ∧ (faultPage t).2 = (faultPage s).2 := by
  unfold faultPage
  rw [h.scn]
  cases s.scn.page with
  | none => exact ⟨h, rfl⟩
  | some p =>
    by_cases hz : s.scn.outLines = 0
    · simp only [hz, if_true]
      exact ⟨alike_giveUpPage (alike_scn h _) .., trivial⟩
    · simp only [hz, if_false]
      exact ⟨alike_sealOpenPage hw (alike_markTruncated h p), trivial⟩

theorem alike_scanFault (f : ScanFault) : Alike w (scanFault f s) (scanFault f t) := by
  obtain ⟨hp, hv⟩ := alike_faultPage hw (alike_scn h { s.scn with half := none })
  unfold scanFault
  dsimp only
  rw [h.scn, hv]
  exact alike_post (alike_endScan hp)

omit h in
theorem alike_lineStored {g g' : State × Bool} (hg : Alike w g.1 g'.1) (hok : g'.2 = g.2) (p : Nat) (dots : List Bool)
    (bytes : List Byte) (len : Nat) : Alike w (lineStored p dots bytes len g) (lineStored p dots bytes len g') := by
  have hs := alike_writeStream hg (((g.1.page? p).map PageRec.chain).getD []) len bytes
  unfold lineStored
  dsimp only
  rw [hg.page?]
  exact .ite (by rw [hok]) (fun _ => alike_scnBy hs (f := fun x => { x with
    ref := dots, outLines := x.outLines + 1, streamLen := x.streamLen + bytes.length })) fun _ => alike_scanFault hw hs _

theorem alike_appendLine (dots : List Bool) : Alike w (appendLine dots s) (appendLine dots t) := by
  cases hp : s.scn.page with
  | none =>
    have hpt : t.scn.page = none := by rw [h.scn, hp]
    rw [appendLine_of_idle (.inl hp), appendLine_of_idle (.inl hpt)]
    exact h
  | some p =>
    cases hprof : s.scn.active with
    | none =>
      have hpt : t.scn.active = none := by rw [h.scn, hprof]
      rw [appendLine_of_idle (.inr hprof), appendLine_of_idle (.inr hpt)]
      exact h
    | some prof =>
      obtain ⟨hg, hok⟩ := alike_giveSegments h p
        (segsFor (s.scn.streamLen + (codeLine prof.cls.dots s.scn.ref dots).length) - (((s.page? p).map PageRec.chain).getD []).length)
      rw [appendLine_eq_lineStored hp hprof, appendLine_eq_lineStored (s := t) (by rw [h.scn, hp]) (by rw [h.scn, hprof]),
        h.scn, h.page?]
      exact alike_lineStored hw hg hok p dots _ _

theorem alike_finishPage : Alike w (finishPage s) (finishPage t) := by
  unfold finishPage
  rw [h.scn]
  cases hp : s.scn.page with
  | none => exact h
  | some p =>
    cases hprof : s.scn.active with
    | none => exact h
    | some prof =>
      refine alike_sealOpenPage hw ?_
      dsimp only
      cases hhalf : s.scn.half with
      | none => exact h
      | some x => exact alike_appendLine hw (alike_scn h _) _

theorem alike_cutScan : Alike w (cutScan s) (cutScan t) := by
  unfold cutScan
  rw [h.scn]
  exact .ite Iff.rfl (fun _ => h) fun _ => alike_endScan (alike_finishPage hw h)

end

/-! ## Deletions and the ends of jobs -/

theorem alike_idleSent (h : Alike w s t) (j places : Nat) : Alike w (idleSent j places s) (idleSent j places t) := by
  unfold idleSent
  rw [h.destsOf]
  refine h.foldl fun a b k h => ?_
  rw [h.dest?]
  cases a.dest? k with
  | none => exact h
  | some q =>
    obtain ⟨-, -, hconf, -, -, -, hidle, -⟩ := w.dest_fields k q
    simp only [Option.map_some]
    rw [hconf, hidle]
    exact .ite Iff.rfl (fun _ => alike_finishDest h k .sent) fun _ => h

theorem alike_listFinal {test : Nat → State → State} (htest : ∀ a b j, Alike w a b → Alike w (test j a) (test j b)) (h : Alike w s t)
    (d : Nat) : Alike w (listFinal test d s) (listFinal test d t) := by
  unfold listFinal State.jobsOn
  dsimp only
  rw [h.doc?, h.jobs]
  refine alike_occasion (alike_recheckLines ?_ d)
  exact Alike.foldl (fun a b j h => htest _ _ j (alike_idleSent h j _)) h

theorem alike_beginDelete {d : Nat} (hw : s.scn.doc = some d → w.keepsPages) (h : Alike w s t) :
    Alike w (beginDelete d s) (beginDelete d t) := by
  have hcut : Alike w (if s.scn.doc = some d then cutScan s else s) (if t.scn.doc = some d then cutScan t else t) := by
    rw [h.scn]
    exact .ite Iff.rfl (fun hd => alike_cutScan (hw hd) h) fun _ => h
  have hm := alike_modifyDoc hcut d fun r => { r with keep := false, state := .deleting }
  unfold beginDelete
  dsimp only
  rw [hm.doc?]
  exact hm.foldl fun _ _ p h => alike_testPageFree h p

theorem alike_deleteDoc {d : Nat} (hw : s.scn.doc = some d → w.keepsPages) (h : Alike w s t) :
    Alike w (deleteDoc d s) (deleteDoc d t) :=
  alike_testDocFree (alike_listFinal (fun _ _ j h => alike_testJobEnd h j) (alike_beginDelete hw h) d) d

theorem endJob_scn (j : Nat) (r : Job) (s : State) : (endJob j r s).scn = s.scn :=
  ((wanes_endJob (w := ⟨false, none, none⟩) (Wanes.refl _ s)).scan rfl).2.2

theorem alike_testJob {j : Nat} (hw : ∀ r, s.job? j = some r → s.scn.doc = some r.doc → w.keepsPages) (h : Alike w s t) :
    Alike w (testJob j s) (testJob j t) := by
  unfold testJob
  rw [h.job?]
  cases hj : s.job? j with
  | none => exact h
  | some r =>
    dsimp only
    rw [h.jobIsFinal]
    refine .ite Iff.rfl (fun _ => ?_) fun _ => h
    have he := alike_endJob h j r
    rw [he.doc?]
    cases (endJob j r s).doc? r.doc with
    | none => exact he
    | some d =>
      refine .ite Iff.rfl (fun _ => alike_deleteDoc (fun hd => hw r hj ?_) he) fun _ => he
      rw [← endJob_scn j r s]
      exact hd

theorem alike_testAutoDelete {d : Nat} (hw : s.scn.doc = some d → w.keepsPages) (h : Alike w s t) :
    Alike w (testAutoDelete d s) (testAutoDelete d t) := by
  unfold testAutoDelete
  rw [h.doc?]
  cases s.doc? d with
  | none => exact h
  | some r => exact .ite Iff.rfl (fun _ => alike_deleteDoc hw h) fun _ => h

theorem alike_endInbound (hw : w.keepsPages) (h : Alike w s t) (d : Nat) (whole : Bool) :
    Alike w (endInbound d whole s) (endInbound d whole t) := by
  unfold endInbound
  rw [h.doc?]
  cases s.doc? d with
  | none => exact h
  | some r => exact alike_testAutoDelete (fun _ => hw) (alike_post (alike_putDoc h d _))

/-! ## The end of a call -/

/-- A reserved slot of the log is used or given back. -/
def State.logReservedLess (s : State) : State := { s with chg := { s.chg with logReserved := s.chg.logReserved - 1 } }

/-- The account of a settled call bears its charge. -/
def State.chargeAccount (c : CallRec) (s : State) : State :=
  putAccount c.account { s.account c.account with
    reserved := (s.account c.account).reserved - c.reservation,
    spent := sat32 ((s.account c.account).spent + chargeOf c.rate c.connected), calls := sat32 ((s.account c.account).calls + 1) } s

theorem settleCall_eq (n : Line) (c : CallRec) (cause : Cause) (s : State) : settleCall n c cause s
    = (post .chargePosted .log ((s.chg.logOldest + s.chg.logInUse) % 4096) cause.code s.chg.logNext
        (State.chargeAccount c (testNearFull (putLogState s.chg.logOldest (s.chg.logInUse + 1) (seqNext s.chg.logNext)
          (s.store (s.por (0x39000 + 64 * ((s.chg.logOldest + s.chg.logInUse) % 4096)))
            (logRecordBytes s.chg.logNext n c cause)).logReservedLess))), s.chg.logNext) := rfl

section

variable (hw : w.keepsPages)
include hw

theorem alike_putAccount (h : Alike w s t) (i : Nat) (a : Account) : Alike w (putAccount i a s) (putAccount i a t) :=
  alike_store (alike_chg hw h (f := fun c => { c with accounts := Tab.set c.accounts i a })) (h.por _)

theorem Alike.account (h : Alike w s t) (i : Nat) : t.account i = s.account i := by
  unfold State.account
  rw [h.chg hw]

theorem alike_dropCall (h : Alike w s t) (n : Line) : Alike w (dropCall n s) (dropCall n t) :=
  alike_chg hw h (f := fun c => { c with calls := Tab.erase c.calls n.val })

theorem alike_testExhausted (h : Alike w s t) (i : Nat) : Alike w (testExhausted i s) (testExhausted i t) := by
  unfold testExhausted
  rw [h.account hw]
  exact .ite Iff.rfl (fun _ => alike_post (alike_putAccount hw h ..)) fun _ => .ite Iff.rfl (fun _ => h) fun _ =>
    alike_putAccount hw h ..

theorem alike_releaseCall (h : Alike w s t) (n : Line) (c : CallRec) : Alike w (releaseCall n c s) (releaseCall n c t) := by
  unfold releaseCall
  dsimp only
  rw [h.account hw]
  exact alike_occasion (alike_dropCall hw (alike_chg hw (alike_putAccount hw h ..)
    (f := fun c => { c with logReserved := c.logReserved - 1 })) n)

theorem alike_testNearFull (h : Alike w s t) : Alike w (testNearFull s) (testNearFull t) := by
  have hc := h.chg hw
  have ha := alike_chg hw h (f := fun c => { c with nearArmed := false })
  unfold testNearFull
  rw [hc] at ha ⊢
  exact .ite Iff.rfl (fun _ => alike_post ha) fun _ => h

theorem alike_putLogState (h : Alike w s t) (oldest inUse next : Nat) :
    Alike w (putLogState oldest inUse next s) (putLogState oldest inUse next t) :=
  alike_store (alike_chg hw h (f := fun c => { c with logOldest := oldest, logInUse := inUse, logNext := next })) (h.por _)

theorem alike_logReservedLess (h : Alike w s t) : Alike w s.logReservedLess t.logReservedLess :=
  alike_chg hw h (f := fun c => { c with logReserved := c.logReserved - 1 })

theorem alike_chargeAccount (h : Alike w s t) (c : CallRec) : Alike w (s.chargeAccount c) (t.chargeAccount c) := by
  unfold State.chargeAccount
  rw [h.account hw]
  exact alike_putAccount hw h ..

theorem alike_settleCall (h : Alike w s t) (n : Line) (c : CallRec) (cause : Cause) :
    Alike w (settleCall n c cause s).1 (settleCall n c cause t).1 ∧ (settleCall n c cause t).2 = (settleCall n c cause s).2 := by
  have hc := h.chg hw
  rw [settleCall_eq, settleCall_eq, hc]
  have hstore := alike_store (a := s.por (0x39000 + 64 * ((s.chg.logOldest + s.chg.logInUse) % 4096))) h
    (bs := logRecordBytes s.chg.logNext n c cause) (h.por _)
  exact ⟨alike_post (alike_chargeAccount hw (alike_testNearFull hw (alike_putLogState hw (alike_logReservedLess hw hstore) ..)) c), rfl⟩

theorem alike_destSequence (h : Alike w s t) (k seq : Nat) : Alike w (destSequence k seq s) (destSequence k seq t) := by
  unfold destSequence modifyDest
  rw [h.dest?]
  cases s.dest? k with
  | none => exact h
  | some r =>
    simp only [Option.map_some, Slack.dest_of_keepsPages hw]
    exact alike_putDest h k (Slack.dest_of_keepsPages hw k _).symm

theorem alike_endCall {n : Line} (hn : (t.line n).dest = (s.line n).dest) (h : Alike w s t) (cause : Cause) :
    Alike w (endCall n cause s) (endCall n cause t) := by
  unfold endCall
  rw [h.chg hw]
  cases Tab.get? s.chg.calls n.val with
  | none => exact h
  | some c =>
    refine .ite Iff.rfl (fun _ => ?_) fun _ => alike_releaseCall hw h n c
    obtain ⟨hs, hseq⟩ := alike_settleCall hw h n c cause
    have hend {a b : State} (h : Alike w a b) : Alike w (settleEnd n c a) (settleEnd n c b) :=
      alike_occasion (alike_dropCall hw (alike_testExhausted hw h _) n)
    dsimp only
    rw [hseq, hn]
    refine hend ?_
    cases (s.line n).dest with
    | none => exact hs
    | some k => exact alike_destSequence hw hs k _

end

/-! ## The end of a session -/

theorem alike_closeEarly_rest (hw : w.keepsPages) (h : Alike w s t) (p kept : Nat) :
    Alike w (sealPage p kept 0 (markTruncated p s)) (sealPage p kept 0 (markTruncated p t)) :=
  alike_sealPage hw (alike_markTruncated h p) ..

/-- The records of the last session of the line are overwritten, and with them what the states differed in. -/
theorem endRecord_eq {n : Line} {s t : State} (h : Alike (.line n) s t) (r : LineRec) :
    writeLine n (setLine n r t) = writeLine n (setLine n r s) := by
  obtain ⟨x, rfl, hx⟩ := h
  obtain ⟨hlines, -⟩ := hx.lines
  have hdram := hx.dram
  have hset : Tab.set x.lines n.val r = Tab.set s.lne.lines n.val r := by
    rw [Tab.set_eq_splice, Tab.set_eq_splice]
    exact AgreeOutside.splice_eq hlines (Nat.le_refl _) (Nat.le_refl _) _
  have hbytes : (setLine n r (s.alter x)).lineBytes n = (setLine n r s).lineBytes n := by
    unfold State.lineBytes
    rw [line_setLine_self, line_setLine_self]
    rfl
  have hlen := (setLine n r s).lineBytes_length n
  obtain ⟨bs, hbs⟩ : ∃ bs, (setLine n r s).lineBytes n = bs := ⟨_, rfl⟩
  rw [hbs] at hlen hbytes
  have hmem : Mem.write x.dram (s.por (0x80 + 256 * n.val)) bs = Mem.write s.dram (s.por (0x80 + 256 * n.val)) bs := by
    rw [Mem.write_eq_splice, Mem.write_eq_splice, hlen]
    exact AgreeOutside.splice_eq hdram (Nat.le_refl _) (Nat.le_refl _) _
  have hrest : x.dests = s.dju.dests ∧ x.check = s.sli.check ∧ x.smp = s.smp ∧ x.chg = s.chg ∧ x.ceu = s.ceu := by
    refine ⟨?_, hx.check, hx.smp, hx.chg, hx.ceu⟩
    rw [hx.dests]
    exact List.map_id' _
  obtain ⟨hd, hr, hs, hc, he⟩ := hrest
  unfold writeLine
  rw [hbytes, hbs]
  show State.store _ (s.por _) _ = State.store _ (s.por _) _
  unfold State.store setLine State.alter
  dsimp only
  rw [hset, hd, hr, hs, hc, he, hmem]
  rfl

end Sys2Proof.Machine
end

section
/-! PROOFS. The end of a session (R136): what the line's own record says of its timer and its kept length leaves no trace; the ends
of inbound sessions with their pages and documents (R141, R154). -/

namespace Sys2Proof.Machine

set_option Elab.async false

/-! ## The record of the session that ends -/

theorem agreeOutside_lines {n : Line} (a : Tab LineRec) (r : LineRec) : AgreeOutside n.val (n.val + 1) a (Tab.set a n.val r) := by
  rw [Tab.set_eq_splice]
  refine agreeOutside_splice (Nat.le_refl _) (Nat.le_refl _) a (fun e he => ?_) (Nat.le_succ _)
  obtain rfl := List.mem_singleton.1 he
  exact ⟨Nat.le_refl _, Nat.lt_succ_self _⟩

theorem alike_line_of_near {n : Line} {s : State} {r : LineRec} (h : (s.line n).near r) : Alike (.line n) s (setLine n r s) := by
  refine ⟨{ s.own with lines := Tab.set s.lne.lines n.val r }, rfl, ⟨agreeOutside_lines _ _, ?_⟩, (List.map_id' _).symm, rfl, rfl, rfl,
    rfl, .refl ..⟩
  show LineRec.near _ (Tab.getD (Tab.set s.lne.lines n.val r) n.val LineRec.default)
  rw [Tab.getD_set_self]
  exact h

section

variable {n : Line} {s t : State}

theorem Alike.near (h : Alike (.line n) s t) : (s.line n).near (t.line n) := by
  obtain ⟨x, rfl, hx⟩ := h
  exact hx.lines.2

theorem alike_setLine_near (h : Alike (.line n) s t) {r r' : LineRec} (hr : r.near r') : Alike (.line n) (setLine n r s) (setLine n r' t) := by
  obtain ⟨x, rfl, hx⟩ := h
  obtain ⟨hlines, -⟩ := hx.lines
  refine ⟨{ x with lines := Tab.set x.lines n.val r' }, rfl, ⟨?_, ?_⟩, hx.dests, hx.check, hx.smp, hx.chg, hx.ceu, hx.dram⟩
  · exact (agreeOutside_lines _ r).symm.trans (AgreeOutside.trans hlines (agreeOutside_lines _ r'))
  · show LineRec.near (Tab.getD (Tab.set s.lne.lines n.val r) n.val LineRec.default) (Tab.getD (Tab.set x.lines n.val r') n.val _)
    rw [Tab.getD_set_self, Tab.getD_set_self]
    exact hr

theorem alike_writeLine_near (h : Alike (.line n) s t) : Alike (.line n) (writeLine n s) (writeLine n t) := by
  obtain ⟨x, rfl, hx⟩ := h
  refine ⟨{ x with dram := Mem.write x.dram (s.por (0x80 + 256 * n.val)) ((s.alter x).lineBytes n) }, rfl, hx.of_dram ?_⟩
  have hwrite (u : State) (m : Mem) : AgreeOutside (s.por (0x80 + 256 * n.val)) (s.por (0x80 + 256 * n.val) + 256) m
      (Mem.write m (s.por (0x80 + 256 * n.val)) (u.lineBytes n)) := by
    rw [Mem.write_eq_splice, State.lineBytes_length]
    refine agreeOutside_splice (Nat.le_refl _) (Nat.le_refl _) m (fun e he => ?_) (by omega)
    have := Mem.cells_bounds _ _ e he
    rw [State.lineBytes_length] at this
    exact this
  exact (hwrite s s.dram).symm.trans (AgreeOutside.trans hx.dram (hwrite (s.alter x) x.dram))

theorem alike_modifyLine_near (h : Alike (.line n) s t) {f : LineRec → LineRec} (hf : (f (s.line n)).near (f (t.line n)))
    (hw : ((f (t.line n)).written == (t.line n).written) = ((f (s.line n)).written == (s.line n).written)) :
    Alike (.line n) (modifyLine n f s) (modifyLine n f t) := by
  unfold modifyLine
  refine .ite (by rw [hw]) (fun _ => alike_setLine_near h hf) fun _ => alike_writeLine_near (alike_setLine_near h hf)

theorem LineRec.near.same {r r' : LineRec} (h : r.near r') : r'.state = r.state ∧ r'.dir = r.dir ∧ r'.dest = r.dest ∧ r'.job = r.job
    ∧ r'.doc = r.doc ∧ r'.page = r.page ∧ r'.storing = r.storing ∧ r'.written = r.written := by
  obtain ⟨-, x, y, z, rfl⟩ := h
  exact ⟨rfl, rfl, rfl, rfl, rfl, rfl, rfl, rfl⟩

theorem alike_giveUpStore (h : Alike (.line n) s t) : Alike (.line n) (giveUpStore n s) (giveUpStore n t) := by
  have hn := h.near
  unfold giveUpStore
  rw [hn.same.2.2.2.2.2.2.1]
  cases (s.line n).storing with
  | none => exact h
  | some b =>
    have hset := alike_setLine_near h (r := { s.line n with storing := none }) (r' := { t.line n with storing := none }) (by
      obtain ⟨hne, x, y, z, hr⟩ := hn
      exact ⟨hne, x, y, z, by rw [hr]⟩)
    exact alike_inLine hset n.val (f := fun l => { l with complete := false, occupied := false }) fun _ => rfl

theorem giveUpStore_line (n : Line) (s : State) : (giveUpStore n s).line n = { s.line n with storing := none } := by
  unfold giveUpStore
  cases h : (s.line n).storing with
  | none =>
    show s.line n = _
    rw [← h]
  | some b => exact line_setLine_self n _ s

theorem alike_closeEarly (h : Alike (.line n) s t) (hk : (t.line n).kept = (s.line n).kept) :
    Alike (.line n) (closeEarly n s) (closeEarly n t) := by
  have hg := alike_giveUpStore h
  have hn := hg.near
  have hext : ((giveUpStore n t).line n).extended = ((giveUpStore n s).line n).extended := by
    rw [giveUpStore_line, giveUpStore_line]
    obtain ⟨-, x, y, z, hr⟩ := h.near
    rw [hr] at hk ⊢
    unfold LineRec.extended
    rw [show z = (s.line n).kept from hk]
  unfold closeEarly
  dsimp only
  rw [hext, hn.same.2.2.2.2.2.1]
  cases ((giveUpStore n s).line n).page with
  | none => exact hg
  | some p =>
    refine alike_sealPage (w := .line n) trivial (alike_markTruncated (alike_modifyLine_near hg ?_ ?_) p) ..
    · obtain ⟨hne, x, y, z, hr⟩ := hn
      exact ⟨hne, x, y, ((giveUpStore n s).line n).extended, by rw [hr]⟩
    · obtain ⟨-, x, y, z, hr⟩ := hn
      rw [hr]
      rfl

theorem alike_endReports (h : Alike (.line n) s t) (hk : (t.line n).kept = (s.line n).kept) (cause : Cause) :
    Alike (.line n) (endReports n cause s) (endReports n cause t) := by
  obtain ⟨-, hdir, hdest, hjob, hdoc, -⟩ := h.near.same
  unfold endReports
  dsimp only
  rw [hdir, hdest, hjob, hdoc, hk]
  cases (s.line n).dir with
  | none => exact h
  | some d =>
    cases d with
    | inbound =>
      have hc := alike_closeEarly h hk
      dsimp only
      cases (s.line n).doc with
      | none => exact hc
      | some d => exact alike_endInbound (w := .line n) trivial hc d _
    | outbound =>
      have hc := alike_occasion (alike_endCall (w := .line n) trivial hdest h cause)
      cases (s.line n).dest with
      | none => exact hc
      | some k =>
        cases (s.line n).job with
        | none => exact hc
        | some j => exact alike_testJob (w := .line n) (fun _ _ _ => trivial) (alike_destSessionEnd hc k cause)

/-- What the states differ in ends with the session. -/
theorem endSession_of_alike {cause : Cause} (h : Alike (.line n) (endReports n cause s) (endReports n cause t)) (dst : LineState) :
    endSession n cause dst t = endSession n cause dst s := by
  unfold endSession
  dsimp only
  rw [endRecord_eq (alike_giveUpStore h)]

end

/-- A timer restarted in RECEIVING leaves no trace in the end of the session. -/
theorem endSession_of_gapStarted {n : Line} {s : State} (hst : (s.line n).state = .receiving) (cause : Cause) (dst : LineState) :
    endSession n cause dst (setLine n (s.gapStarted n) s) = endSession n cause dst s := by
  refine endSession_of_alike (alike_endReports (alike_line_of_near ⟨?_, _, _, _, rfl⟩) ?_ cause) dst
  · rw [hst]
    exact fun e => nomatch e
  · rw [line_setLine_self]

/-! ## Inbound sessions -/

/-- A page of a session that ends with it closes first. -/
theorem endSession_closes {n : Line} {d p kept : Nat} {r : PageRec} {doc : Doc} {s : State} (hdir : (s.line n).dir = some .inbound)
    (hstore : (s.line n).storing = none) (hd : (s.line n).doc = some d) (hpage : (s.line n).page = some p) (hp : s.page? p = some r)
    (hrd : r.doc = d) (hdoc : s.doc? d = some doc) (hkeep : doc.keep = true) (hk : (s.line n).KeepsEarly kept)
    (hwaits : s.noneWaits d) (cause : Cause) (dst : LineState) :
    endSession n cause dst s = endSession n cause dst (setLine n { s.line n with page := none } (closeEarly n s)) := by
  subst hrd
  obtain ⟨c, hc⟩ : ∃ c, closeEarly n s = c := ⟨_, rfl⟩
  obtain ⟨v, hv⟩ : ∃ v, v = setLine n { s.line n with page := none } c := ⟨_, rfl⟩
  have hcn : c.line n = { s.line n with page := none, kept := kept } := by
    rw [State.line, ← hc, closeEarly_lines hpage hstore hp hdoc hkeep hwaits hk]
    exact Tab.getD_set_self ..
  have hvn : v.line n = { s.line n with page := none } := by rw [hv, line_setLine_self]
  have hreports : endReports n cause s = endInbound r.doc (decide (cause = .normal ∧ (s.line n).kept ≠ 0)) c := by
    simp only [endReports, hdir, hd, hc]
  have hreportsv : endReports n cause v = endInbound r.doc (decide (cause = .normal ∧ (s.line n).kept ≠ 0)) v := by
    have hclose : closeEarly n v = v := closeEarly_of_noPage (by rw [hvn]; exact hstore) (by rw [hvn])
    simp only [endReports, hvn, hdir, hd, hclose]
  have hne : (s.line n).state ≠ .dataWait := fun e => hwaits n e hd
  have halike : Alike (.line n) c v := by
    rw [hv]
    exact alike_line_of_near ⟨by rw [hcn]; exact hne, _, _, (s.line n).kept, by rw [hcn]⟩
  rw [hc, ← hv]
  refine (endSession_of_alike ?_ dst).symm
  rw [hreports, hreportsv]
  exact alike_endInbound (w := .line n) trivial halike _ _

theorem closedEarly_setLine {s v : State} {n : Line} {l l' : LineRec} {p kept : Nat} {r : PageRec} (h : ClosedEarly s v n l p kept r) :
    ClosedEarly s (setLine n l' v) n l' p kept r := by
  obtain ⟨hframe, -, hlines, hpages, hsealed, hfreed, hmem⟩ := h
  refine ⟨?_, line_setLine_self .., fun m hm => (line_setLine_of_ne _ _ hm).trans (hlines m hm), hpages, hsealed, hfreed, hmem⟩
  obtain ⟨ls, hls⟩ : ∃ ls, (setLine n l' v).lne.lines = ls := ⟨_, rfl⟩
  obtain ⟨b, hb⟩ : ∃ b, b = (r.chain.drop (segsFor kept)).reverse := ⟨_, rfl⟩
  have hv : v.lne = { s.lne with lines := v.lne.lines } := by rw [hframe]
  show { v with lne := { v.lne with lines := Tab.set v.lne.lines n.val l' } } = _
  rw [hv]
  exact congrArg (fun u : State => { u with lne := { s.lne with lines := Tab.set v.lne.lines n.val l' } }) hframe

/-- The state that an inbound document ends in. -/
def DocState.ofWhole (whole : Bool) : DocState := if whole then .complete else .incomplete

/-- DOC_RECEIVED for document `d`, posted on `s`. -/
def State.receivedTold (s : State) (d : Nat) (whole : Bool) (doc : Doc) : State :=
  post .docReceived .document d (bit (!whole)) doc.receivedValue s

/-- An inbound document that is not due for deletion takes its state and is reported. -/
theorem endInbound_of_stays {d : Nat} {doc : Doc} {s : State} (hdoc : s.doc? d = some doc) {whole : Bool}
    (hstays : ({ doc with state := DocState.ofWhole whole } : Doc).autoDeletes = false) :
    ∃ m, endInbound d whole s = { s with
        dju := { s.dju with docs := Tab.set s.dju.docs d { doc with state := DocState.ofWhole whole } },
        ceu := (s.receivedTold d whole doc).ceu, dram := m }
      ∧ unchangedOutside [(s.docAddr d, 512), (s.cfg.evBase + 64 + 16 * s.ceu.evTail, 16), (s.cfg.evBase + 4, 4)] s.dram m := by
  obtain ⟨r', hr'⟩ : ∃ r' : Doc, r' = { doc with state := DocState.ofWhole whole } := ⟨_, rfl⟩
  obtain ⟨p, hp⟩ : ∃ p, p = putDoc d r' s := ⟨_, rfl⟩
  obtain ⟨c, m, hpost, hmem⟩ := post_frame .docReceived .document d (bit (!whole)) doc.receivedValue p
  have hceu : (post .docReceived .document d (bit (!whole)) doc.receivedValue p).ceu = (s.receivedTold d whole doc).ceu :=
    postTagged_ceu_congr (by rw [hp]; rfl) (by rw [hp]; rfl) (by rw [hp]; rfl) ..
  have hreceived : r'.receivedValue = doc.receivedValue := by
    rw [hr']
    rfl
  have hin : endInbound d whole s = post .docReceived .document d (bit (!whole)) doc.receivedValue p := by
    unfold endInbound
    rw [hdoc]
    dsimp only
    rw [show ({ doc with state := if whole then .complete else .incomplete } : Doc) = r' from hr'.symm, hreceived, ← hp]
    refine testAutoDelete_of_stays (r := r') ?_ (by rw [hr']; exact hstays)
    rw [hpost, hp]
    exact Tab.get?_set_self ..
  have hput : unchangedOutside [(s.docAddr d, 512)] s.dram p.dram := by
    rw [hp]
    exact unchangedOutside_putDoc d r' s
  have hspans : p.eventSpans = s.eventSpans := by
    rw [hp]
    rfl
  rw [hspans] at hmem
  refine ⟨m, ?_, hput.trans hmem⟩
  rw [hin, ← hceu, hpost, hp, ← hr']
  rfl

/-- The end of an inbound session without a page in hand, whose document is not due for deletion. -/
theorem endSession_of_noPage {n : Line} {d : Nat} {doc : Doc} {s : State} (hdir : (s.line n).dir = some .inbound)
    (hstore : (s.line n).storing = none) (hd : (s.line n).doc = some d) (hpage : (s.line n).page = none) (hdoc : s.doc? d = some doc)
    (cause : Cause) {whole : Bool} (hwhole : whole = decide (cause = .normal ∧ (s.line n).kept ≠ 0))
    (hstays : ({ doc with state := DocState.ofWhole whole } : Doc).autoDeletes = false) (dst : LineState) :
    ∃ u, endSession n cause dst s = u
      ∧ u = { s with
          lne := { s.lne with lines := u.lne.lines }, ceu := (s.receivedTold d whole doc).ceu, dram := u.dram,
          dju := { s.dju with docs := u.dju.docs, passDue := s.dju.passDue || decide (dst = .idle) } }
      ∧ (∀ m, m ≠ n → u.line m = s.line m) ∧ u.doc? d = some { doc with state := DocState.ofWhole whole }
      ∧ (∀ x, x ≠ d → u.doc? x = s.doc? x)
      ∧ unchangedOutside [s.lineSpan n, (s.docAddr d, 512), (s.cfg.evBase + 64 + 16 * s.ceu.evTail, 16), (s.cfg.evBase + 4, 4)]
          s.dram u.dram := by
  obtain ⟨m, hin, hmem⟩ := endInbound_of_stays hdoc hstays
  obtain ⟨v, hv⟩ : ∃ v, endInbound d whole s = v := ⟨_, rfl⟩
  have hreports : endReports n cause s = v := by
    simp only [endReports, hdir, hd, closeEarly_of_noPage hstore hpage, ← hwhole, hv]
  rw [hv] at hin
  have hvl (m : Line) : v.line m = s.line m := by
    rw [hin]
    rfl
  obtain ⟨w, hset, hend⟩ := endSession_of_reports hreports (by rw [hvl]; exact hstore) dst
  obtain ⟨ls, m', hw, hmem'⟩ := setsLine_frame hset
  have hwl (m : Line) (hm : m ≠ n) : w.line m = s.line m := (hset.line_of_ne hm).trans (hvl m)
  have hcfg : v.lineSpan n = s.lineSpan n := by
    rw [hin]
    rfl
  rw [hcfg, show v.dram = m by rw [hin]] at hmem'
  have hdocs : w.dju = { s.dju with docs := Tab.set s.dju.docs d { doc with state := DocState.ofWhole whole } } := by rw [hw, hin]
  have hdram : w.dram = m' := by rw [hw]
  have hpass : ∃ b, (if dst = .idle then occasion w else w) = { w with dju := { w.dju with passDue := b } }
      ∧ b = (s.dju.passDue || decide (dst = .idle)) := by
    by_cases hi : dst = .idle
    · rw [if_pos hi, decide_eq_true hi, Bool.or_true]
      exact ⟨_, rfl, rfl⟩
    · rw [if_neg hi, decide_eq_false hi, Bool.or_false]
      refine ⟨w.dju.passDue, rfl, ?_⟩
      rw [hdocs]
  obtain ⟨b, hu, hb⟩ := hpass
  rw [hend, hu]
  refine ⟨_, rfl, ?_, hwl, ?_, fun x hx => ?_, ?_⟩
  · rw [← hb, hw, hin]
  · show Tab.get? w.dju.docs d = _
    rw [hdocs]
    exact Tab.get?_set_self ..
  · show Tab.get? w.dju.docs x = _
    rw [hdocs]
    exact Tab.get?_set_of_ne _ _ hx
  · show unchangedOutside _ s.dram w.dram
    rw [hdram]
    exact (hmem.trans hmem').of_subset (List.append_subset.2 ⟨List.subset_cons_self _ _, by simp⟩)

/-- A page whose chain is no longer than the kept bytes need is sealed where it lies. -/
theorem closeEarly_of_short {n : Line} {p kept : Nat} {r : PageRec} {doc : Doc} {s : State} (hpage : (s.line n).page = some p)
    (hstore : (s.line n).storing = none) (hp : s.page? p = some r) (hp1024 : p < 1024) (hdoc : s.doc? r.doc = some doc) (hkeep : doc.keep = true)
    (hwaits : s.noneWaits r.doc) (hk : (s.line n).KeepsEarly kept) (hz : kept ≠ 0) (hshort : r.chain.length ≤ segsFor kept) :
    ∃ c, closeEarly n s = c
      ∧ c = { s with lne := { s.lne with lines := c.lne.lines }, psm := { s.psm with pages := c.psm.pages },
                     dju := { s.dju with passDue := true }, dram := c.dram }
      ∧ c.line n = { s.line n with page := none, kept := kept } ∧ (∀ m, m ≠ n → c.line m = s.line m)
      ∧ c.page? p = some { r with
          truncated := true, state := .damaged, codedLen := kept, lineCount := 0,
          check := crc16 (s.streamBytes r.chain 0 kept), sealedTime := s.chg.seconds }
      ∧ (∀ q, q ≠ p → c.page? q = s.page? q) ∧ unchangedOutside [s.lineSpan n, (s.pageAddr p, 64)] s.dram c.dram := by
  obtain ⟨t, ht⟩ : ∃ t, t = modifyLine n (fun r => { r with page := none, kept := kept }) s := ⟨_, rfl⟩
  have hsets : SetsLine n { s.line n with page := none, kept := kept } s t := by
    rw [ht]
    exact setsLine_modifyLine n _ s
  have hwaitst : t.noneWaits r.doc := State.noneWaits_of_setsLine hsets rfl rfl hwaits
  obtain ⟨ls, m, hframe, hmem⟩ := setsLine_frame hsets
  have htp : t.page? p = some r := by rw [hframe]; exact hp
  have hmark : markTruncated p t = putPage p { r with truncated := true } t := modifyPage_of_some htp _
  obtain ⟨y, hy⟩ : ∃ y, y = putPage p { r with truncated := true } t := ⟨_, rfl⟩
  have hyp : y.page? p = some { r with truncated := true } := by
    rw [hy]
    exact page?_putPage_self ..
  have hclose : closeEarly n s = sealPage p kept 0 y := by
    unfold closeEarly
    rw [giveUpStore_of_none hstore]
    dsimp only
    rw [hpage]
    dsimp only
    rw [LineRec.extended_of_keepsEarly hk, ← ht, hmark, ← hy]
  have hyrest : y = { s with lne := y.lne, psm := { s.psm with pages := y.psm.pages }, dram := y.dram } := by
    rw [hy, hframe]
    rfl
  have hydoc : y.doc? r.doc = some doc := by rw [hyrest]; exact hdoc
  have hyl (m : Line) : y.line m = t.line m := by rw [hy]; rfl
  have hseal := sealPage_of_kept hyp hz (State.keeps_of hydoc hkeep) (fun m hm => by rw [hyl] at hm ⊢; exact hwaitst m hm) 0
  have htrim : trimPage p kept y = y := trimPage_of_short hyp hshort
  obtain ⟨r', hr'⟩ : ∃ r' : PageRec, r' = { r with
      truncated := true, state := .damaged, codedLen := kept, lineCount := 0,
      check := crc16 (s.streamBytes r.chain 0 kept), sealedTime := s.chg.seconds } := ⟨_, rfl⟩
  have hymem : unchangedOutside [s.lineSpan n, (s.pageAddr p, 64)] s.dram y.dram := by
    have hput : unchangedOutside [(t.pageAddr p, 64)] t.dram y.dram := by
      rw [hy]
      exact unchangedOutside_store (by simp)
    rw [show t.pageAddr p = s.pageAddr p by rw [hframe]; rfl, show t.dram = m by rw [hframe]] at hput
    exact hmem.trans hput
  have hstream : y.streamBytes r.chain 0 kept = s.streamBytes r.chain 0 kept :=
    streamBytes_congr (by rw [hyrest]; rfl) (fun a ha => get_above_line hp1024 hymem ha) ..
  have hrecord : sealRecord p kept 0 y = putPage p r' y := by
    unfold sealRecord
    rw [htrim, modifyPage_of_some hyp, hr']
    dsimp only
    rw [hstream, show y.chg.seconds = s.chg.seconds by rw [hyrest], Bool.or_true]
    rfl
  rw [hclose, hseal, hrecord]
  refine ⟨_, rfl, ?_, ?_, fun m hm => ?_, ?_, fun q hq => ?_, ?_⟩
  · rw [hyrest, hy, hframe]
    rfl
  · exact (hyl n).trans hsets.line_self
  · exact (hyl m).trans (hsets.line_of_ne hm)
  · rw [← hr']
    exact page?_putPage_self ..
  · refine (page?_putPage_of_ne r' y hq).trans ?_
    rw [hy, page?_putPage_of_ne _ _ hq, hframe]
    rfl
  · have hput : unchangedOutside [(y.pageAddr p, 64)] y.dram (putPage p r' y).dram := unchangedOutside_store (by simp)
    rw [show y.pageAddr p = s.pageAddr p by rw [hyrest]; rfl] at hput
    exact (hymem.trans hput).of_subset (by simp)

end Sys2Proof.Machine
end

section
/-! PROOFS. The rows that end sessions (R127, R136, R143): O59. -/

namespace Sys2Proof.Machine

set_option Elab.async false

/-! ## Every session ends (R143) -/

/-- One line's turn as every session ends. -/
def endOne (cause : Cause) (s : State) (n : Line) : State :=
  if (s.line n).state.inSession then endSession n (s.causeOr n cause) .unavailable s else s

theorem endAllSessions_eq (cause : Cause) (s : State) : endAllSessions cause s = allLines.foldl (endOne cause) s := rfl

/-- The cause of a session of record `l` that ends at once. -/
def LineRec.causeOr (l : LineRec) (cause : Cause) : Cause := if l.state = .clearing then l.cause.getD cause else cause

section

variable {cause : Cause} {s : State}

theorem endOne_of_noSession {n : Line} (h : (s.line n).state.inSession = false) : endOne cause s n = s := by
  rw [endOne, h]
  rfl

theorem endOne_of_session {n : Line} (h : (s.line n).state.inSession = true) :
    endOne cause s n = endSession n ((s.line n).causeOr cause) .unavailable s := by
  rw [endOne, if_pos h]
  rfl

theorem endOne_staysOr {n m : Line} (h : m ≠ n) : (s.line m).staysOr ((endOne cause s n).line m) := by
  cases hn : (s.line n).state.inSession with
  | false =>
    rw [endOne_of_noSession hn]
    exact LineRec.staysOr_refl _
  | true =>
    rw [endOne_of_session hn]
    exact (wanes_endSession ..).line m fun e => h (Option.some.inj e).symm

theorem LineRec.staysOr.same {r r' : LineRec} (h : r.staysOr r') (hr : r.state.inSession = false) : r' = r :=
  h.1 fun e => by
    rw [e] at hr
    cases hr

/-- A line without a session stays as it is. -/
theorem endSessions_of_noSession {m : Line} (l : List Line) (h : (s.line m).state.inSession = false) :
    (l.foldl (endOne cause) s).line m = s.line m := by
  induction l generalizing s with
  | nil => rfl
  | cons n l ih =>
    have hstep : (endOne cause s n).line m = s.line m := by
      by_cases hm : m = n
      · subst hm
        rw [endOne_of_noSession h]
      · exact (endOne_staysOr hm).same h
    exact (ih (by rw [hstep]; exact h)).trans hstep

theorem endOne_line {n : Line} (h : (s.line n).state.inSession = true) :
    (endOne cause s n).line n = { LineRec.default with state := .unavailable, cause := some ((s.line n).causeOr cause) } := by
  rw [endOne_of_session h]
  exact endSession_line ..

theorem endSessions_of_session {m : Line} {l : List Line} (hm : m ∈ l) (h : (s.line m).state.inSession = true) :
    ∃ c, (l.foldl (endOne cause) s).line m = { LineRec.default with state := .unavailable, cause := some c } := by
  induction l generalizing s with
  | nil => cases hm
  | cons n l ih =>
    by_cases hn : m = n
    · subst hn
      refine ⟨(s.line m).causeOr cause, ?_⟩
      rw [List.foldl_cons, endSessions_of_noSession l (by rw [endOne_line h]; rfl), endOne_line h]
    · exact ih ((List.mem_cons.1 hm).resolve_left hn) ((endOne_staysOr hn).inSession h)

/-- With no line waiting for data, each session ends with the cause that its record had at first. -/
theorem endSessions_of_noneWaiting {m : Line} {l : List Line} (hm : m ∈ l) (h : (s.line m).state.inSession = true)
    (hw : ∀ k, (s.line k).state ≠ .dataWait) :
    (l.foldl (endOne cause) s).line m
      = { LineRec.default with state := .unavailable, cause := some ((s.line m).causeOr cause) } := by
  induction l generalizing s with
  | nil => cases hm
  | cons n l ih =>
    by_cases hn : m = n
    · subst hn
      rw [List.foldl_cons, endSessions_of_noSession l (by rw [endOne_line h]; rfl), endOne_line h]
    · have hsame {k : Line} (hk : k ≠ n) : (endOne cause s n).line k = s.line k := (endOne_staysOr hk).1 (hw k)
      have hwait (k : Line) : ((endOne cause s n).line k).state ≠ .dataWait := by
        by_cases hk : k = n
        · subst hk
          cases hs : (s.line k).state.inSession with
          | false =>
            rw [endOne_of_noSession hs]
            exact hw k
          | true =>
            rw [endOne_line hs]
            exact fun e => nomatch e
        · rw [hsame hk]
          exact hw k
      rw [List.foldl_cons, ih ((List.mem_cons.1 hm).resolve_left hn) (by rw [hsame hn]; exact h) hwait, hsame hn]

theorem endSessions_of_none (l : List Line) (h : ∀ m, (s.line m).state.inSession = false) : l.foldl (endOne cause) s = s := by
  induction l with
  | nil => rfl
  | cons n l ih => rw [List.foldl_cons, endOne_of_noSession (h n), ih]

end

/-! ## The timers (R127) -/

theorem State.timerOut_iff {s : State} {n : Line} :
    s.timerOut n = true ↔ (s.line n).timer.isSome = true ∧ (s.line n).remaining = 0 ∧ s.lne.grace = none := by
  simp [State.timerOut, and_assoc]

theorem clearLine_spec (n : Line) (cause : Cause) (s : State) :
    ∃ u, clearLine n cause s = u
      ∧ u = { s with sli := (hand n .clear s).sli, lne := { s.lne with lines := u.lne.lines }, dram := u.dram }
      ∧ u.line n = { s.line n with state := .clearing, cause := some cause, timer := some .clearing, remaining := 100 }
      ∧ (∀ m, m ≠ n → u.line m = s.line m) ∧ unchangedOutside [s.lineSpan n] s.dram u.dram :=
  ⟨_, rfl, (setsLine_clearLine n cause s).after (onlySli_hand n .clear s)⟩

/-! ## Messages that end a session -/

/-- A message of a line in session acts as if its timer had not been restarted. -/
theorem delivered_ends {n : Line} {act : State → State} {s : State} {cause : Cause} {dst : LineState} (h : s.hears = true)
    (hact : act s = endSession n cause dst s)
    (hgap : (s.line n).state = .receiving → act (setLine n (s.gapStarted n) s) = endSession n cause dst (setLine n (s.gapStarted n) s)) :
    delivered n act s = endSession n cause dst s := by
  by_cases hr : (s.line n).state = .receiving
  · rw [delivered_of_receiving h hr, restartTimer_of_receiving hr, hgap hr, endSession_of_gapStarted hr]
  · rw [delivered_of_hears h hr, hact]

theorem gapStarted_receiving {n : Line} {s : State} (h : (s.line n).state = .receiving) :
    ((setLine n (s.gapStarted n) s).line n).state = .receiving := by
  rw [line_setLine_self]
  exact h

theorem causeOr_gapStarted {n : Line} {s : State} (h : (s.line n).state = .receiving) (cause : Cause) :
    (setLine n (s.gapStarted n) s).causeOr n cause = (s.line n).causeOr cause := by
  unfold State.causeOr LineRec.causeOr
  rw [gapStarted_receiving h, h]
  rfl

theorem onRemoteClear_of_session {n : Line} {v : State} (hv : (v.line n).state.inSession = true) :
    onRemoteClear n v = endSession n (v.causeOr n .remoteClear) .idle v := if_pos hv

theorem onLineNotReady_of_session {n : Line} {v : State} (hv : (v.line n).state.inSession = true) :
    onLineNotReady n v = endSession n (v.causeOr n .lineDisabled) .unavailable v := by
  unfold onLineNotReady
  rw [if_neg, if_pos hv]
  intro e
  rw [e] at hv
  cases hv

theorem exec_remoteClear_of_session {n : Line} {b : Byte} {s : State} (h : s.hears = true) (hs : (s.line n).state.inSession = true) :
    exec (.remoteClear n b) s = .next (endSession n ((s.line n).causeOr .remoteClear) .idle s) := by
  rw [exec_remoteClear, delivered_ends h (onRemoteClear_of_session hs) fun hr => ?_]
  · rfl
  · rw [onRemoteClear_of_session (by rw [gapStarted_receiving hr]; rfl), causeOr_gapStarted hr]
    rfl

theorem exec_lineNotReady_of_session {n : Line} {s : State} (h : s.hears = true) (hs : (s.line n).state.inSession = true) :
    exec (.lineNotReady n) s = .next (endSession n ((s.line n).causeOr .lineDisabled) .unavailable s) := by
  rw [exec_lineNotReady, delivered_ends h (onLineNotReady_of_session hs) fun hr => ?_]
  · rfl
  · rw [onLineNotReady_of_session (by rw [gapStarted_receiving hr]; rfl), causeOr_gapStarted hr]
    rfl

theorem exec_cleared_of_clearing {n : Line} {s : State} (h : s.hears = true) (hs : (s.line n).state = .clearing) :
    exec (.cleared n) s = .next (endSession n ((s.line n).causeOr .normal) .idle s) := by
  rw [exec_cleared, delivered_of_hears h (by rw [hs]; exact fun e => nomatch e)]
  exact congrArg _ (if_pos hs)

theorem exec_clearingTimerExpiry_of_out {n : Line} {s : State} (hs : (s.line n).state = .clearing)
    (ht : (s.line n).timer.isSome = true) (hr : (s.line n).remaining = 0) (hg : s.lne.grace = none) :
    exec (.clearingTimerExpiry n) s = .next (endSession n ((s.line n).causeOr .normal) .idle s) := by
  rw [exec_clearingTimerExpiry, if_pos (State.timerOut_iff.2 ⟨ht, hr, hg⟩)]
  exact congrArg _ (if_pos hs)

/-- What every end of a session leaves as it was. -/
theorem endSession_leaves (n : Line) (cause : Cause) (dst : LineState) (s : State) :
    (endSession n cause dst s).line n = { LineRec.default with state := dst, cause := some cause }
      ∧ (endSession n cause dst s).pending = s.pending ∧ (endSession n cause dst s).phase = s.phase
      ∧ (endSession n cause dst s).mad = s.mad ∧ (endSession n cause dst s).rxr = s.rxr
      ∧ (endSession n cause dst s).rgw.state = s.rgw.state ∧ (endSession n cause dst s).rgw.copy = s.rgw.copy
      ∧ (endSession n cause dst s).lne.plan = s.lne.plan ∧ (endSession n cause dst s).lne.timers = s.lne.timers := by
  obtain ⟨hpending, hphase, hmad, hrxr, -, hstate, hcopy, hlne, -⟩ := (wanes_endSession n cause dst s).fixed
  exact ⟨endSession_line .., hpending, hphase, hmad, hrxr, hstate, hcopy, by rw [hlne], by rw [hlne]⟩

theorem autoDeletes_of_not {doc : Doc} {whole : Bool}
    (h : ¬(doc.autoDelete = true ∧ doc.isHeld = false ∧ doc.printed = true ∧ doc.printRefs = 0)) :
    ({ doc with state := DocState.ofWhole whole } : Doc).autoDeletes = false := by
  rw [Bool.eq_false_iff]
  intro e
  simp only [Doc.autoDeletes, Bool.and_eq_true, Bool.not_eq_true', decide_eq_true_eq] at e
  obtain ⟨⟨⟨⟨ha, -⟩, hh⟩, hp⟩, hr⟩ := e
  exact h ⟨ha, hh, hp, hr⟩

theorem autoDeletes_of {doc : Doc} {whole : Bool}
    (h : doc.autoDelete = true ∧ doc.isHeld = false ∧ doc.printed = true ∧ doc.printRefs = 0) :
    ({ doc with state := DocState.ofWhole whole } : Doc).autoDeletes = true := by
  obtain ⟨ha, hh, hp, hr⟩ := h
  cases whole <;> simp [Doc.autoDeletes, DocState.ofWhole, ha, hh, hp, hr]

/-- Once the reports are made, the end of a session only takes away. -/
theorem wanes_endSession_reports (n : Line) (cause : Cause) (dst : LineState) (s : State) :
    Wanes ⟨true, some n, none⟩ (endReports n cause s) (endSession n cause dst s) :=
  wanes_endSession_of_reports rfl (Wanes.refl _ _)

/-- A document that is due for deletion goes with its session. -/
theorem endSession_goes {n : Line} {d : Nat} {doc : Doc} {s : State} (hdir : (s.line n).dir = some .inbound)
    (hstore : (s.line n).storing = none) (hd : (s.line n).doc = some d) (hpage : (s.line n).page = none) (hdoc : s.doc? d = some doc)
    (hdel : doc.autoDelete = true ∧ doc.isHeld = false ∧ doc.printed = true ∧ doc.printRefs = 0) (cause : Cause) (dst : LineState) :
    (endSession n cause dst s).goes d := by
  obtain ⟨whole, hwhole⟩ : ∃ whole, whole = decide (cause = .normal ∧ (s.line n).kept ≠ 0) := ⟨_, rfl⟩
  have hgoes : (endInbound d whole s).goes d := by
    obtain ⟨r', hr'⟩ : ∃ r' : Doc, r' = { doc with state := DocState.ofWhole whole } := ⟨_, rfl⟩
    obtain ⟨t, ht⟩ : ∃ t, t = post .docReceived .document d (bit (!whole)) r'.receivedValue (putDoc d r' s) := ⟨_, rfl⟩
    have htd : t.doc? d = some r' := by
      obtain ⟨c, m, hpost, -⟩ := post_frame .docReceived .document d (bit (!whole)) r'.receivedValue (putDoc d r' s)
      rw [ht, hpost]
      exact Tab.get?_set_self ..
    have hin : endInbound d whole s = deleteDoc d t := by
      unfold endInbound
      rw [hdoc]
      dsimp only
      rw [show ({ doc with state := if whole then .complete else .incomplete } : Doc) = r' from hr'.symm, ← ht, testAutoDelete, htd]
      exact if_pos (by rw [hr']; exact autoDeletes_of hdel)
    rw [hin]
    exact goes_deleteDoc d t
  have hreports : endReports n cause s = endInbound d whole s := by
    simp only [endReports, hdir, hd, closeEarly_of_noPage hstore hpage, ← hwhole]
  have hwanes := wanes_endSession_reports n cause dst s
  rw [hreports] at hwanes
  exact hwanes.doc d (fun e => nomatch e) hgoes

theorem bit_not_ofWhole (P : Prop) [Decidable P] : bit (!decide P) = if P then 0 else 1 := by
  by_cases h : P
  · rw [if_pos h, decide_eq_true h]
    rfl
  · rw [if_neg h, decide_eq_false h]
    rfl

/-- Settles O59: the rows that end sessions, the timers and the grace, and the ends of inbound sessions. -/
theorem sessionEndsAndTimers : Obligations.SessionEndsAndTimers := by
  unfold Obligations.SessionEndsAndTimers
  refine ⟨fun n b s => ?_, fun n s => ?_, fun s hg hw => ?_, fun n d doc cause dst s hdir hstore hd hdoc => ?_⟩
  · refine ⟨fun h hs => ⟨⟨_, exec_remoteClear_of_session h hs, rfl, endSession_leaves ..⟩,
        ⟨_, exec_lineNotReady_of_session h hs, rfl, endSession_leaves ..⟩⟩, fun h hs => ?_,
      fun h hs => ⟨_, exec_cleared_of_clearing h hs, rfl, endSession_leaves ..⟩, fun h hs hr => ?_,
      fun hs ht hr hg => ⟨_, exec_clearingTimerExpiry_of_out hs ht hr hg, rfl, endSession_leaves ..⟩, fun hout => ?_⟩
    · rw [exec_remoteClear, delivered_of_hears h, onRemoteClear, if_neg (by rw [hs]; exact Bool.false_ne_true)]
      intro e
      rw [e] at hs
      cases hs
    · rw [exec_cleared, delivered_of_hears h hr, onCleared, if_neg hs]
    · rw [exec_clearingTimerExpiry]
      by_cases ht : s.timerOut n = true
      · rw [if_pos ht, onCleared, if_neg]
        obtain ⟨h1, h2, h3⟩ := State.timerOut_iff.1 ht
        rcases hout with h | h | h | h
        · rw [h] at h1
          cases h1
        · exact absurd h2 h
        · exact absurd h3 h
        · exact h
      · rw [if_neg ht]
  · refine ⟨fun hout => ?_, fun hout hst => ?_, fun hg => ?_, fun hg => ⟨?_, fun hnone => ?_, fun u hu m => ?_⟩⟩
    · rw [exec_sessionTimerExpiry, if_neg fun h => hout (State.timerOut_iff.1 h)]
    · rw [exec_sessionTimerExpiry, if_pos (State.timerOut_iff.2 hout)]
      by_cases hw : (s.line n).state = .dataWait
      · obtain ⟨u, hu, hf, hun, hrest⟩ := abandonLine_spec (n := n) (cause := .dataNotReady) (s := s) (t := s) (ls := s.lne.lines) rfl
          ⟨_, _, rfl⟩ fun _ _ => rfl
        refine ⟨u, ?_, ?_, ?_, hrest⟩
        · rw [← hu, timerExpires, hw]
        · rw [if_pos hw]
          exact hf
        · rw [if_pos hw]
          exact hun
      · obtain ⟨u, hu, hf, hun, hrest⟩ := clearLine_spec n .timeout s
        refine ⟨u, ?_, ?_, ?_, hrest⟩
        · rw [← hu]
          have hin := hst.resolve_left hw
          unfold timerExpires
          generalize (s.line n).state = st at hin
          simp only [List.mem_cons, List.not_mem_nil, or_false] at hin
          rcases hin with rfl | rfl | rfl | rfl | rfl | rfl | rfl <;> rfl
        · rw [if_neg hw]
          exact hf
        · rw [if_neg hw]
          exact hun
    · rw [exec_graceExpiry, if_neg hg]
    · rw [exec_graceExpiry, if_pos hg]
      rfl
    · exact endSessions_of_none allLines hnone
    · rw [exec_graceExpiry, if_pos hg] at hu
      obtain rfl := Host.Outcome.next.inj hu
      exact ⟨fun hs => endSessions_of_session (mem_allLines m) hs, fun hs => endSessions_of_noSession allLines hs⟩
  · refine ⟨_, by rw [exec_graceExpiry, if_pos hg], fun m hm => ?_⟩
    exact endSessions_of_noneWaiting (s := dropMessages { s with lne := { s.lne with grace := none } }) (mem_allLines m) hm hw
  · intro u whole st told deletes spans
    have hbit : bit (!decide whole) = if whole then 0 else 1 := bit_not_ofWhole whole
    have hstate : DocState.ofWhole (decide whole) = st := by
      by_cases hw : whole
      · simp only [st, DocState.ofWhole, decide_eq_true hw, if_pos hw, if_true]
      · simp only [st, DocState.ofWhole, decide_eq_false hw, if_neg hw]
        rfl
    have htold (v : State) (hr : v.rgw = s.rgw) (hc : v.ceu = s.ceu) (hs : v.chg.seconds = s.chg.seconds) :
        (v.receivedTold d (decide whole) doc).ceu = told.ceu := by
      have hvalue : doc.receivedValue = doc.livePages.length + 256 * (if doc.isHeld then 1 else 0) + 65536 * doc.desk := by
        unfold Doc.receivedValue bit
        cases doc.isHeld <;> rfl
      unfold State.receivedTold
      rw [hbit, hvalue]
      exact postTagged_ceu_congr hr hc hs ..
    refine ⟨endSession_line .., fun hstays => ⟨fun hpage => ?_, fun p r kept hpage hp hrd hkeep hk hz hshort hp1024 hwaits => ?_⟩,
      fun p r kept hpage hp hrd hkeep hk hp1024 hwaits => ?_, fun hdel hpage => ?_⟩
    · obtain ⟨v, hv, hf, hlines, hdoc', hdocs, hmem⟩ :=
        endSession_of_noPage hdir hstore hd hpage hdoc cause (whole := decide whole) rfl (autoDeletes_of_not hstays) dst
      obtain rfl : u = v := hv
      rw [htold s rfl rfl rfl] at hf
      rw [hstate] at hdoc'
      exact ⟨hf, hlines, hdoc', hdocs, hmem⟩
    · subst hrd
      have hcloses := endSession_closes hdir hstore hd hpage hp rfl hdoc hkeep hk hwaits cause dst
      obtain ⟨c, hc, hcf, hcn, hclines, hcp, hcpages, hcmem⟩ :=
        closeEarly_of_short hpage hstore hp hp1024 hdoc hkeep hwaits hk hz hshort
      rw [hc] at hcloses
      obtain ⟨v, hv⟩ : ∃ v, v = setLine n { s.line n with page := none } c := ⟨_, rfl⟩
      rw [← hv] at hcloses
      have hvn : v.line n = { s.line n with page := none } := by rw [hv, line_setLine_self]
      have hvf : v = { s with
          lne := { s.lne with lines := v.lne.lines }, psm := { s.psm with pages := v.psm.pages },
          dju := { s.dju with passDue := true }, dram := v.dram } := by
        rw [hv, hcf]
        rfl
      have hvdoc : v.doc? r.doc = some doc := by
        rw [hvf]
        exact hdoc
      obtain ⟨x, hx, hxf, hxlines, hxdoc, hxdocs, hxmem⟩ := endSession_of_noPage (s := v) (n := n) (d := r.doc) (doc := doc)
        (by rw [hvn]; exact hdir) (by rw [hvn]; exact hstore) (by rw [hvn]; exact hd) (by rw [hvn]) hvdoc cause
        (whole := decide whole) (by rw [hvn]) (autoDeletes_of_not hstays) dst
      have hux : u = x := hcloses.trans hx
      subst hux
      rw [htold v (by rw [hvf]) (by rw [hvf]) (by rw [hvf])] at hxf
      rw [hstate] at hxdoc
      have hvl {m : Line} (hm : m ≠ n) : v.line m = s.line m := by
        rw [hv, line_setLine_of_ne _ _ hm]
        exact hclines m hm
      have hupsm : u.psm = v.psm := by rw [hxf]
      refine ⟨?_, fun m hm => (hxlines m hm).trans (hvl hm), hxdoc, fun y hy => (hxdocs y hy).trans (by rw [hvf]; rfl), ?_,
        fun q hq => ?_, ?_⟩
      · have hvpsm : v.psm = { s.psm with pages := v.psm.pages } := by rw [hvf]
        rw [hupsm, ← hvpsm, show s.lne = { v.lne with lines := s.lne.lines } by rw [hvf],
          show ({ s.dju with docs := u.dju.docs, passDue := true } : Dju)
            = { v.dju with docs := u.dju.docs, passDue := v.dju.passDue || decide (dst = .idle) } by rw [hvf, Bool.true_or]]
        refine hxf.trans ?_
        rw [hvf]
      · rw [State.page?, hupsm, hv]
        exact hcp
      · rw [State.page?, hupsm, hv]
        exact hcpages q hq
      · rw [show v.lineSpan n = s.lineSpan n by rw [hvf]; rfl, show v.docAddr r.doc = s.docAddr r.doc by rw [hvf]; rfl,
          show v.cfg = s.cfg by rw [hvf]; rfl, show v.ceu = s.ceu by rw [hvf]] at hxmem
        rw [show c.dram = v.dram by rw [hv]; rfl] at hcmem
        exact (hcmem.trans hxmem).of_subset (by simp [spans, State.lineSpan])
    · subst hrd
      refine ⟨_, endSession_closes hdir hstore hd hpage hp rfl hdoc hkeep hk hwaits cause dst, ?_⟩
      exact closedEarly_setLine (closedEarly_closeEarly hpage hstore hp hp1024 hdoc hkeep hwaits hk)
    · exact endSession_goes hdir hstore hd hpage hdoc hdel cause dst

end Sys2Proof.Machine
end

section
/-! PROOFS. Destinations that are given up, with their send holds, and the ends of jobs (R91, R93, R95, R99). -/

namespace Sys2Proof.Machine

set_option Elab.async false

/-! ## Holds that come off pages -/

/-- `t` is `s` but for the page store, the documents' records, the CEU and DRAM. -/
def TakesPages (s t : State) : Prop :=
  ∃ x docs c m, t = { s with psm := x, dju := { s.dju with docs := docs }, ceu := c, dram := m }

theorem TakesPages.refl (s : State) : TakesPages s s := ⟨_, _, _, _, rfl⟩

theorem TakesPages.trans {s t u : State} (h : TakesPages s t) (h' : TakesPages t u) : TakesPages s u := by
  obtain ⟨_, _, _, _, rfl⟩ := h
  obtain ⟨_, _, _, _, rfl⟩ := h'
  exact ⟨_, _, _, _, rfl⟩

theorem takesPages_modifyDoc (d : Nat) (f : Doc → Doc) (s : State) : TakesPages s (modifyDoc d f s) := by
  unfold modifyDoc
  split
  · exact .refl s
  · exact ⟨_, _, _, _, rfl⟩

theorem takesPages_testDocFree (d : Nat) (s : State) : TakesPages s (testDocFree d s) := by
  unfold testDocFree
  split
  · exact .refl s
  · split
    · exact ⟨_, _, _, _, rfl⟩
    · exact .refl s

theorem takesPages_releasePage (p : Nat) (r : PageRec) (s : State) : TakesPages s (releasePage p r s) := by
  unfold releasePage
  split
  · exact ⟨_, _, _, _, rfl⟩
  · obtain ⟨m, hpush, -⟩ := pushSegments_frame r.chain s
    obtain ⟨x, c, m', heq⟩ := freeCountChanged_psm (s := s) (t := clearPage p (pushSegments r.chain s))
      (by rw [hpush]; exact ⟨_, _, _, rfl⟩)
    exact ⟨_, _, _, _, heq⟩

theorem takesPages_testPageFree (p : Nat) (s : State) : TakesPages s (testPageFree p s) := by
  unfold testPageFree
  split
  · exact .refl s
  · split
    · exact (takesPages_releasePage p _ s).trans ((takesPages_modifyDoc _ _ _).trans (takesPages_testDocFree _ _))
    · exact .refl s

theorem takesPages_changeSendHolds (p : Nat) (δ : Int) (s : State) : TakesPages s (changeSendHolds p δ s) := by
  unfold changeSendHolds
  split
  · exact .refl s
  next r hp =>
    have hput : TakesPages s (putPage p { r with sendHolds := ((r.sendHolds : Int) + δ).toNat } s) := ⟨_, _, _, _, rfl⟩
    dsimp only
    split
    · exact hput.trans (takesPages_testPageFree p _)
    · exact hput

theorem takesPages_unhold (l : List Nat) (s : State) : TakesPages s (l.foldl (fun s p => changeSendHolds p (-1) s) s) := by
  induction l generalizing s with
  | nil => exact .refl s
  | cons p l ih => exact (takesPages_changeSendHolds p (-1) s).trans (ih _)

theorem takesPages_takeHoldsOff (k : Nat) (s : State) : TakesPages s (takeHoldsOff k s) := by
  unfold takeHoldsOff
  split
  · exact .refl s
  · split
    · exact .refl s
    · exact takesPages_unhold _ s

/-- A page record with a send hold less. -/
def PageRec.unheld (r : PageRec) : PageRec := { r with sendHolds := r.sendHolds - 1 }

/-- Pages of documents that keep theirs lose a send hold each. -/
theorem unhold_of_kept (l : List Nat) (s : State) (hkeep : ∀ p r, p ∈ l → s.page? p = some r → s.keeps r.doc = true) :
    l.foldl (fun s p => changeSendHolds p (-1) s) s = l.foldl (fun s p => modifyPage p PageRec.unheld s) s := by
  induction l generalizing s with
  | nil => rfl
  | cons p l ih =>
    have hstep : changeSendHolds p (-1) s = modifyPage p PageRec.unheld s := by
      cases h : s.page? p with
      | none => rw [changeSendHolds, h, modifyPage_of_none h]
      | some r =>
        rw [changeSendHolds_of_kept h (hkeep p r (List.mem_cons_self ..) h), modifyPage_of_some h]
        have hnum : ((r.sendHolds : Int) + (-1)).toNat = r.sendHolds - 1 := by omega
        rw [hnum, PageRec.unheld]
    rw [List.foldl_cons, List.foldl_cons, hstep]
    refine ih _ fun q r hq hr => ?_
    obtain ⟨ps, m, hframe, -⟩ := modifyPage_frame p PageRec.unheld s
    have hkeeps (d : Nat) : (modifyPage p PageRec.unheld s).keeps d = s.keeps d := by rw [hframe]; rfl
    rw [hkeeps]
    rw [modifyPage_page?] at hr
    split at hr
    · obtain ⟨r', hr', rfl⟩ := Option.map_eq_some_iff.1 hr
      exact hkeep q r' (List.mem_cons_of_mem _ hq) hr'
    · exact hkeep q r (List.mem_cons_of_mem _ hq) hr

/-- Document `x` of record `d` keeps its pages, its own, which lie in it once. -/
def State.SoundFrom (s : State) (x : Nat) (d : Doc) (k : Nat) : Prop :=
  s.doc? x = some d ∧ d.keep = true ∧ ((d.places.drop k).filterMap id).Nodup
    ∧ ∀ p q, some p ∈ d.places.drop k → s.page? p = some q → q.doc = x

section

variable {s : State} {k : Nat} {t : Dest} {j : Job} {d : Doc}

/-- The pages that a destination has not confirmed lose a send hold each. -/
theorem takeHoldsOff_of_sound (ht : s.dest? k = some t) (hj : s.job? t.job = some j) (hd : s.SoundFrom j.doc d t.confirmed) :
    ∃ ps m, takeHoldsOff k s = { s with psm := { s.psm with pages := ps }, dram := m }
      ∧ (∀ p, Tab.get? ps p = if some p ∈ d.places.drop t.confirmed then (s.page? p).map PageRec.unheld else s.page? p)
      ∧ unchangedOutside (((d.places.drop t.confirmed).filterMap id).map fun p => (s.pageAddr p, 64)) s.dram m := by
  obtain ⟨hdoc, hkeep, hnodup, hown⟩ := hd
  have hmem (p : Nat) : p ∈ (d.places.drop t.confirmed).filterMap id ↔ some p ∈ d.places.drop t.confirmed := by
    simp
  obtain ⟨ps, m, heq, hget, hbytes⟩ := modifyPages_eq PageRec.unheld ((d.places.drop t.confirmed).filterMap id) s
  refine ⟨ps, m, ?_, fun p => ?_, hbytes⟩
  · have hpages : s.pagesFrom j.doc t.confirmed = (d.places.drop t.confirmed).filterMap id := by rw [State.pagesFrom, hdoc]
    have hdocOf : s.docOf t = some j.doc := by rw [State.docOf, State.jobOf, hj]; rfl
    rw [takeHoldsOff, ht]
    dsimp only
    rw [hdocOf]
    dsimp only
    rw [hpages, unhold_of_kept _ _ fun p r hp hr => ?_, heq]
    rw [hown p r ((hmem p).1 hp) hr]
    exact State.keeps_of hdoc hkeep
  · rw [hget hnodup]
    exact ite_congr (propext (hmem p)) (fun _ => rfl) fun _ => rfl

/-! ## A destination given up -/

/-- Only the tables of destinations, jobs and documents, the page store, the CEU and DRAM change. -/
theorem destGivenUp_frame (ht : s.dest? k = some t) (hj : s.job? t.job = some j) (st : DestState) :
    ∃ x docs c m, destGivenUp k st s = { s with
      psm := x
      dju := { s.dju with
        docs := docs
        dests := Tab.set s.dju.dests k { t with state := st, cancelMark := false }
        jobs := Tab.set s.dju.jobs t.job (Job.count st j) }
      ceu := c, dram := m } := by
  obtain ⟨x, docs, c, m, htake⟩ := takesPages_takeHoldsOff k s
  rw [destGivenUp, htake]
  obtain ⟨m', hfinish, -⟩ := finishDest_spec (s := { s with psm := x, dju := { s.dju with docs := docs }, ceu := c, dram := m }) ht hj st
  exact ⟨_, _, _, _, hfinish⟩

/-- A destination of a sound document given up: its holds come off, its job counts it and DEST_DONE is posted. -/
theorem destGivenUp_of_sound (ht : s.dest? k = some t) (hj : s.job? t.job = some j) (hd : s.SoundFrom j.doc d t.confirmed)
    (st : DestState) :
    ∃ ps m, destGivenUp k st s = { s with
        psm := { s.psm with pages := ps }
        dju := { s.dju with
          dests := Tab.set s.dju.dests k { t with state := st, cancelMark := false }
          jobs := Tab.set s.dju.jobs t.job (Job.count st j) }
        ceu := (postTagged .destDone .destination k j.tag st.doneCode t.confirmed s).ceu, dram := m }
      ∧ (∀ p, Tab.get? ps p = if some p ∈ d.places.drop t.confirmed then (s.page? p).map PageRec.unheld else s.page? p)
      ∧ unchangedOutside ([(s.destAddr k, 64), (s.jobAddr t.job, 128)] ++ s.eventSpans
          ++ ((d.places.drop t.confirmed).filterMap id).map fun p => (s.pageAddr p, 64)) s.dram m := by
  obtain ⟨ps, m, htake, hget, hbytes⟩ := takeHoldsOff_of_sound ht hj hd
  rw [destGivenUp, htake]
  obtain ⟨m', hfinish, hmem⟩ := finishDest_spec (s := { s with psm := { s.psm with pages := ps }, dram := m }) ht hj st
  refine ⟨ps, m', ?_, hget, (hbytes.trans hmem).of_subset ?_⟩
  · rw [hfinish]
    have hceu := postTagged_ceu_congr (s := s) (t := { s with psm := { s.psm with pages := ps }, dram := m }) rfl rfl rfl
      .destDone .destination k j.tag st.doneCode t.confirmed
    rw [hceu]
  · intro x hx
    simp only [List.mem_append] at hx ⊢
    exact hx.symm

end

/-! ## The end of a job (R91) -/

theorem State.jobIsFinal_iff {s : State} {j : Nat} {r : Job} (h : s.job? j = some r) :
    s.jobIsFinal j = true ↔ r.sessions = 0 ∧ ∀ e ∈ s.dju.dests, e.2.job = j → e.2.isFinal = true := by
  rw [State.jobIsFinal, h]
  simp only [Bool.and_eq_true, decide_eq_true_eq, List.all_eq_true, Bool.or_eq_true, bne_iff_ne]
  exact and_congr Iff.rfl (forall_congr' fun e => forall_congr' fun _ => Decidable.imp_iff_not_or.symm)

/-- Destinations freed in turn. -/
theorem clearDests_eq (l : List Nat) (s : State) :
    ∃ ds m, l.foldl (fun s k => clearDest k s) s = { s with dju := { s.dju with dests := ds }, dram := m }
      ∧ (∀ x, Tab.get? ds x = if x ∈ l then none else s.dest? x) ∧ (Tab.rising s.dju.dests = true → Tab.rising ds = true) := by
  induction l generalizing s with
  | nil => exact ⟨_, _, rfl, fun x => by simp [State.dest?], id⟩
  | cons k l ih =>
    obtain ⟨ds, m, heq, hget, hrising⟩ := ih (clearDest k s)
    refine ⟨ds, m, heq, fun x => ?_, fun h => hrising (Tab.rising_erase h k)⟩
    have herase : (clearDest k s).dest? x = if x = k then none else s.dest? x := Tab.get?_erase ..
    rw [hget, herase]
    by_cases hx : x = k
    · simp [hx]
    · simp [hx]

/-- A job ends: JOB_DONE is posted, its records are freed, and its document has a reference less. -/
theorem endJob_spec (j : Nat) (r : Job) (s : State) :
    ∃ ds docs m, endJob j r s = { s with
        dju := { s.dju with dests := ds, jobs := Tab.erase s.dju.jobs j, docs := docs }
        ceu := (postTagged .jobDone .job j r.tag r.state.doneCode r.doneValue s).ceu, dram := m }
      ∧ (∀ x, Tab.get? ds x = if x ∈ s.destsOf j then none else s.dest? x)
      ∧ (Tab.rising s.dju.dests = true → Tab.rising ds = true)
      ∧ ∀ d, s.doc? r.doc = some d → d.state ≠ .deleting →
        Tab.get? docs r.doc = some { d with jobRefs := d.jobRefs - 1 } ∧ ∀ x, x ≠ r.doc → Tab.get? docs x = s.doc? x := by
  obtain ⟨c, m, hpost, -⟩ := postTagged_frame .jobDone .job j r.tag r.state.doneCode r.doneValue s
  rw [endJob]
  dsimp only
  rw [hpost]
  have hof : ({ s with ceu := c, dram := m } : State).destsOf j = s.destsOf j := rfl
  obtain ⟨ds, m', hclear, hget, hrising⟩ := clearDests_eq (s.destsOf j) { s with ceu := c, dram := m }
  rw [hof, hclear]
  obtain ⟨b, hb⟩ : ∃ b : State, b = clearJob j { s with ceu := c, dju := { s.dju with dests := ds }, dram := m' } := ⟨_, rfl⟩
  obtain ⟨x, docs, c', m'', hdocs⟩ := (takesPages_modifyDoc r.doc (fun d => { d with jobRefs := d.jobRefs - 1 }) b).trans
    (takesPages_testDocFree r.doc _)
  have hcases : b.psm = x ∧ b.ceu = c' := by
    obtain ⟨y, hy⟩ : ∃ y, y = modifyDoc r.doc (fun d => { d with jobRefs := d.jobRefs - 1 }) b := ⟨_, rfl⟩
    have hmod : y.psm = b.psm ∧ y.ceu = b.ceu := by
      rw [hy, modifyDoc]
      split <;> exact ⟨rfl, rfl⟩
    have hfree : (testDocFree r.doc y).psm = y.psm ∧ (testDocFree r.doc y).ceu = y.ceu := by
      rw [testDocFree]
      split
      · exact ⟨rfl, rfl⟩
      · split <;> exact ⟨rfl, rfl⟩
    rw [← hy] at hdocs
    rw [hdocs] at hfree
    exact ⟨(hmod.1.symm.trans hfree.1.symm), (hmod.2.symm.trans hfree.2.symm)⟩
  refine ⟨ds, docs, m'', ?_, hget, hrising, fun d hd hst => ?_⟩
  · rw [← hb, hdocs, ← hcases.1, ← hcases.2, hb]
    rfl
  · have hbd : b.doc? r.doc = some d := by rw [hb]; exact hd
    have hput : (putDoc r.doc { d with jobRefs := d.jobRefs - 1 } b).doc? r.doc = some { d with jobRefs := d.jobRefs - 1 } :=
      doc?_putDoc_self ..
    have hstays : testDocFree r.doc (modifyDoc r.doc (fun d => { d with jobRefs := d.jobRefs - 1 }) b)
        = putDoc r.doc { d with jobRefs := d.jobRefs - 1 } b := by
      rw [modifyDoc_of_some hbd, testDocFree, hput]
      exact if_neg fun h => hst h.1
    have hdju : docs = Tab.set b.dju.docs r.doc { d with jobRefs := d.jobRefs - 1 } := by
      have := congrArg (fun u : State => u.dju.docs) (hdocs.symm.trans hstays)
      exact this
    rw [hdju]
    refine ⟨Tab.get?_set_self .., fun x hx => (Tab.get?_set_of_ne _ _ hx).trans ?_⟩
    rw [hb]
    rfl

/-- A job that is final ends, and its document goes with it when the job asks for that. -/
theorem testJob_of_final {s : State} {j : Nat} {r : Job} (hj : s.job? j = some r) (hf : s.jobIsFinal j = true) :
    (testJob j s = endJob j r s ∧ (r.autoDelete = false ∨ ∀ d, (endJob j r s).doc? r.doc = some d → d.state = .deleting))
      ∨ (testJob j s = deleteDoc r.doc (endJob j r s) ∧ r.autoDelete = true) := by
  unfold testJob
  rw [hj]
  dsimp only
  rw [if_pos hf]
  cases hd : (endJob j r s).doc? r.doc with
  | none => exact .inl ⟨rfl, .inr fun d h => nomatch h⟩
  | some d =>
    dsimp only
    by_cases hc : r.autoDelete = true ∧ d.state ≠ .deleting
    · exact .inr ⟨if_pos hc, hc.1⟩
    · refine .inl ⟨if_neg hc, ?_⟩
      rw [not_and_or, Bool.not_eq_true, not_not] at hc
      exact hc.imp_right fun h d' e => by rw [← Option.some.inj e]; exact h

theorem testJob_of_notFinal {s : State} {j : Nat} (hf : s.jobIsFinal j = false) : testJob j s = s := by
  unfold testJob
  split
  · rfl
  · exact if_neg (by rw [hf]; decide)

theorem testJob_of_noAutoDelete {s : State} {j : Nat} {r : Job} (hj : s.job? j = some r) (hf : s.jobIsFinal j = true)
    (ha : r.autoDelete = false) : testJob j s = endJob j r s := by
  obtain ⟨h, -⟩ | ⟨-, h⟩ := testJob_of_final hj hf
  · exact h
  · rw [ha] at h
    cases h

theorem testJob_goes {s : State} {j : Nat} {r : Job} (hj : s.job? j = some r) (hf : s.jobIsFinal j = true)
    (ha : r.autoDelete = true) {d : Doc} (hd : s.doc? r.doc = some d) (hst : d.state ≠ .deleting) :
    (testJob j s).goes r.doc := by
  obtain ⟨ds, docs, m, heq, -, -, hdocs⟩ := endJob_spec j r s
  have hdoc : (endJob j r s).doc? r.doc = some { d with jobRefs := d.jobRefs - 1 } := by
    rw [heq]
    exact (hdocs d hd hst).1
  obtain ⟨-, h | h⟩ | ⟨h, -⟩ := testJob_of_final hj hf
  · rw [ha] at h
    cases h
  · exact absurd (h _ hdoc) hst
  · rw [h]
    exact goes_deleteDoc r.doc _

/-- No destination of a job that ends stays. -/
theorem testJob_lacks {s : State} {j : Nat} {r : Job} (hj : s.job? j = some r) (hf : s.jobIsFinal j = true)
    (hrising : Tab.rising s.dju.dests = true) (x : Nat) : (testJob j s).lacks (x, j) := by
  obtain ⟨ds, docs, m, heq, hget, -⟩ := endJob_spec j r s
  have hend : (endJob j r s).lacks (x, j) := by
    intro t ht
    rw [heq] at ht
    have hx : (if x ∈ s.destsOf j then none else s.dest? x) = some t := (hget x).symm.trans ht
    split at hx
    · cases hx
    next hnot =>
      intro htj
      refine hnot ((Tab.mem_keysWhere hrising _ x).2 ⟨t, hx, ?_⟩)
      simpa using htj
  obtain ⟨h, -⟩ | ⟨h, -⟩ := testJob_of_final hj hf
  · rw [h]
    exact hend
  · rw [h]
    exact (wanes_deleteDoc (w := ⟨true, none, none⟩) (fun _ => .inl rfl) (.refl _ _)).dest _ hend

/-- The records of a job that ends are free. -/
theorem testJob_frees {s : State} {j : Nat} {r : Job} (hj : s.job? j = some r) (hf : s.jobIsFinal j = true) :
    (testJob j s).job? j = none ∧ ∀ x, x ∈ s.destsOf j → (testJob j s).dest? x = none := by
  obtain ⟨ds, docs, m, heq, hget, -⟩ := endJob_spec j r s
  have hjob : (endJob j r s).job? j = none := by
    rw [heq]
    exact (Tab.get?_erase ..).trans (if_pos rfl)
  have hdest (x : Nat) (hx : x ∈ s.destsOf j) : (endJob j r s).dest? x = none := by
    rw [heq]
    exact (hget x).trans (if_pos hx)
  have hw : Wanes ⟨true, none, none⟩ (endJob j r s) (testJob j s) := by
    obtain ⟨h, -⟩ | ⟨h, -⟩ := testJob_of_final hj hf
    · rw [h]
      exact .refl _ _
    · rw [h]
      exact wanes_deleteDoc (fun _ => .inl rfl) (.refl _ _)
  exact ⟨hw.job j hjob, fun x hx => hw.dest_none (hdest x hx)⟩

end Sys2Proof.Machine
end

section
/-! PROOFS. The settlement of an answered call: its charge, the log record, the account and the events (R182, R188, R190). -/

namespace Sys2Proof.Machine

set_option Elab.async false

/-! ## What the settlement computes -/

/-- The account of a call once the call has been charged to it, before its exhausted mark is tested. -/
def Account.charged (a : Account) (c : CallRec) : Account :=
  { a with reserved := a.reserved - c.reservation, spent := sat32 (a.spent + chargeOf c.rate c.connected),
           calls := sat32 (a.calls + 1) }

/-- The slot of the next log record. -/
def State.logSlot (s : State) : Nat := (s.chg.logOldest + s.chg.logInUse) % 4096

/-- One record more in use disarms the near-full mark. -/
def State.nearsFull (s : State) : Bool := s.chg.nearArmed && decide (3840 ≤ s.chg.logInUse + 1)

/-- LOG_NEAR_FULL, when the mark falls. -/
def State.nearTold (s : State) : State :=
  if s.nearsFull then post .logNearFull .log s.chg.logOldest 0 (s.chg.logInUse + 1) s else s

/-- CHARGE_POSTED behind it. -/
def State.chargeTold (s : State) (cause : Cause) : State :=
  post .chargePosted .log s.logSlot cause.code s.chg.logNext s.nearTold

/-- ACCOUNT_EXHAUSTED behind both, when the exhausted mark falls. -/
def State.settledTold (s : State) (c : CallRec) (cause : Cause) : State :=
  if (s.account c.account).armed && !((s.account c.account).charged c).hasSome then
    post .accountExhausted .account c.account 0 ((s.account c.account).charged c).spent (s.chargeTold cause)
  else s.chargeTold cause

/-! ## Its events -/

/-- State `v` has posted what `t` has. -/
def State.ToldAs (t v : State) : Prop := v.rgw = t.rgw ∧ v.ceu = t.ceu ∧ v.chg.seconds = t.chg.seconds

theorem State.ToldAs.post {t v : State} (h : t.ToldAs v) (kind : EventKind) (src : SourceKind) (idx code value : Nat) :
    State.ToldAs (post kind src idx code value t) (Machine.post kind src idx code value v) := by
  obtain ⟨hr, hc, hs⟩ := h
  have hceu := postTagged_ceu_congr hr hc hs kind src idx 0 code value
  obtain ⟨c, m, ht, -⟩ := post_frame kind src idx code value t
  obtain ⟨c', m', hv, -⟩ := post_frame kind src idx code value v
  refine ⟨?_, hceu, ?_⟩
  · rw [ht, hv]
    exact hr
  · rw [ht, hv]
    exact hs

/-- The event ring's records and its tail word. -/
def State.ringSpans (s : State) : List (Nat × Nat) := [(s.cfg.evBase + 64, 16 * s.cfg.recCount), (s.cfg.evBase + 4, 4)]

theorem ringSpans_congr {s t : State} (h : t.rgw = s.rgw) : t.ringSpans = s.ringSpans := by
  rw [State.ringSpans, State.cfg, h]
  rfl

theorem unchangedOutside_eventSpans {s : State} (h : s.tailIn) {m m' : Mem} (hm : unchangedOutside s.eventSpans m m') :
    unchangedOutside s.ringSpans m m' := by
  unfold State.tailIn at h
  refine hm.mono fun r hr a ha => ?_
  simp only [State.eventSpans, List.mem_cons, List.not_mem_nil, or_false] at hr
  simp only [within, Bool.and_eq_true, decide_eq_true_eq] at ha
  rcases hr with rfl | rfl
  · refine ⟨(s.cfg.evBase + 64, 16 * s.cfg.recCount), by simp [State.ringSpans], ?_⟩
    simp only [within, Bool.and_eq_true, decide_eq_true_eq]
    simp only at ha
    omega
  · refine ⟨(s.cfg.evBase + 4, 4), by simp [State.ringSpans], ?_⟩
    simp only [within, Bool.and_eq_true, decide_eq_true_eq]
    exact ha

/-- An event within the ring. -/
theorem post_ring {s : State} (h : s.tailIn) (kind : EventKind) (src : SourceKind) (idx code value : Nat) :
    ∃ c m, post kind src idx code value s = { s with ceu := c, dram := m } ∧ unchangedOutside s.ringSpans s.dram m
      ∧ State.tailIn { s with ceu := c, dram := m } := by
  obtain ⟨c, m, hpost, hm⟩ := post_frame kind src idx code value s
  have htail := tailIn_post (kind := kind) (src := src) (idx := idx) (code := code) (value := value) h
  rw [hpost] at htail
  exact ⟨c, m, hpost, unchangedOutside_eventSpans h hm, htail⟩

/-! ## Its steps -/

/-- The charge log once the record stands: one slot more in use, one less reserved. -/
def State.logged (s : State) (n : Line) (c : CallRec) (cause : Cause) : State :=
  putLogState s.chg.logOldest (s.chg.logInUse + 1) (seqNext s.chg.logNext)
    (s.store (s.por (0x39000 + 64 * s.logSlot)) (logRecordBytes s.chg.logNext n c cause)).logReservedLess

theorem logRecordBytes_length (seq : Nat) (n : Line) (c : CallRec) (cause : Cause) :
    (logRecordBytes seq n c cause).length = 64 := by
  simp [logRecordBytes]

theorem State.logged_spec (s : State) (n : Line) (c : CallRec) (cause : Cause) :
    ∃ m, s.logged n c cause = { s with
        chg := { s.chg with
          logInUse := s.chg.logInUse + 1, logNext := seqNext s.chg.logNext, logReserved := s.chg.logReserved - 1 }
        dram := m }
      ∧ Mem.bytes m (s.por (0x39000 + 64 * s.logSlot)) 64 = logRecordBytes s.chg.logNext n c cause
      ∧ Mem.num m (s.por 0x34800) 2 = s.chg.logOldest % 65536
      ∧ unchangedOutside [(s.por (0x39000 + 64 * s.logSlot), 64), (s.por 0x34800, 8)] s.dram m := by
  refine ⟨_, rfl, ?_, ?_, ?_⟩
  · have hself := Mem.bytes_write_self s.dram (s.por (0x39000 + 64 * s.logSlot)) (logRecordBytes s.chg.logNext n c cause)
    rw [logRecordBytes_length] at hself
    have hlen : (le 2 s.chg.logOldest ++ le 2 (s.chg.logInUse + 1) ++ le 4 (seqNext s.chg.logNext)).length = 8 := by simp
    refine (Mem.bytes_write_of_disjoint _ (s.por 0x34800)
      (le 2 s.chg.logOldest ++ le 2 (s.chg.logInUse + 1) ++ le 4 (seqNext s.chg.logNext)) _ _ (.inr ?_)).trans hself
    rw [hlen]
    simp only [State.por]
    omega
  · have hfield := Mem.num_write_field (s.store (s.por (0x39000 + 64 * s.logSlot)) (logRecordBytes s.chg.logNext n c cause)).dram
      (s.por 0x34800) [] (le 2 (s.chg.logInUse + 1) ++ le 4 (seqNext s.chg.logNext)) 2 s.chg.logOldest
    exact hfield
  · exact ((unchangedOutside_refl _ s.dram).write (a := s.por (0x39000 + 64 * s.logSlot)) (n := 64) (by simp)
      (logRecordBytes_length ..).le).write (a := s.por 0x34800) (n := 8) (by simp) (by simp)

/-- The near-full mark after a settlement. -/
theorem testNearFull_logged {s t : State} (ht : s.ToldAs t) (harm : t.chg.nearArmed = s.chg.nearArmed)
    (hold : t.chg.logOldest = s.chg.logOldest) (huse : t.chg.logInUse = s.chg.logInUse + 1) (htail : t.tailIn) :
    ∃ m, testNearFull t = { t with
        chg := { t.chg with nearArmed := s.chg.nearArmed && !s.nearsFull }, ceu := s.nearTold.ceu, dram := m }
      ∧ unchangedOutside t.ringSpans t.dram m ∧ State.tailIn { t with ceu := s.nearTold.ceu } := by
  have hcond : (t.chg.nearArmed && decide (3840 ≤ t.chg.logInUse)) = s.nearsFull := by rw [harm, huse]; rfl
  unfold testNearFull State.nearTold
  rw [hcond, hold, huse]
  cases hn : s.nearsFull with
  | true =>
    have hpost := (show s.ToldAs { t with chg := { t.chg with nearArmed := false } } from ht).post .logNearFull .log
      s.chg.logOldest 0 (s.chg.logInUse + 1)
    obtain ⟨c, m, heq, hm, htl⟩ := post_ring (s := { t with chg := { t.chg with nearArmed := false } }) htail .logNearFull .log
      s.chg.logOldest 0 (s.chg.logInUse + 1)
    obtain ⟨-, hceu, -⟩ := hpost
    rw [heq] at hceu
    rw [if_pos rfl, if_pos rfl, heq, ← hceu]
    exact ⟨m, by simp, hm, htl⟩
  | false =>
    rw [if_neg Bool.false_ne_true, if_neg Bool.false_ne_true, ← ht.2.1]
    refine ⟨t.dram, ?_, unchangedOutside_refl _ _, htail⟩
    rw [Bool.not_false, Bool.and_true, ← harm]

/-- The part as a settlement goes on: the log has its record, and these are the accounts, the destinations, the events and
DRAM. -/
def State.settling (s : State) (accounts : Tab Account) (dests : Tab Dest) (ceu : Ceu) (m : Mem) : State :=
  { s with
    chg := { s.chg with
      accounts := accounts, logInUse := s.chg.logInUse + 1, logNext := seqNext s.chg.logNext
      logReserved := s.chg.logReserved - 1, nearArmed := s.chg.nearArmed && !s.nearsFull }
    dju := { s.dju with dests := dests }, ceu := ceu, dram := m }

theorem post_settling {s w : State} (hw : s.ToldAs { w with ceu := s.ceu }) {as : Tab Account} {ds : Tab Dest} {m : Mem}
    (htail : State.tailIn { s with ceu := w.ceu }) (kind : EventKind) (src : SourceKind) (idx code value : Nat) :
    ∃ m', post kind src idx code value (s.settling as ds w.ceu m) = s.settling as ds (post kind src idx code value w).ceu m'
      ∧ unchangedOutside s.ringSpans m m' ∧ State.tailIn { s with ceu := (post kind src idx code value w).ceu } := by
  obtain ⟨hr, -, hs⟩ := hw
  have hold : w.ToldAs (s.settling as ds w.ceu m) := ⟨hr.symm, rfl, hs.symm⟩
  obtain ⟨-, hceu, -⟩ := hold.post kind src idx code value
  obtain ⟨c, m', heq, hm, htl⟩ := post_ring (s := s.settling as ds w.ceu m) htail kind src idx code value
  rw [heq] at hceu
  rw [heq, ← hceu]
  exact ⟨m', rfl, hm, htl⟩

theorem post_toldAs {s w : State} (hw : s.ToldAs { w with ceu := s.ceu }) (kind : EventKind) (src : SourceKind)
    (idx code value : Nat) : s.ToldAs { post kind src idx code value w with ceu := s.ceu } := by
  obtain ⟨hr, hc, hs⟩ := hw
  obtain ⟨c, m, heq, -⟩ := post_frame kind src idx code value w
  rw [heq]
  exact ⟨hr, hc, hs⟩

theorem nearTold_toldAs (s : State) : s.ToldAs { s.nearTold with ceu := s.ceu } := by
  unfold State.nearTold
  split
  · exact post_toldAs ⟨rfl, rfl, rfl⟩ ..
  · exact ⟨rfl, rfl, rfl⟩

section

variable {s : State} {n : Line} {cause : Cause} {c : CallRec} {k : Nat} {t : Dest}

theorem endCall_of_answered (hc : Tab.get? s.chg.calls n.val = some c) (ha : c.answered = true) (hk : (s.line n).dest = some k) :
    endCall n cause s = settleEnd n c (destSequence k s.chg.logNext (post .chargePosted .log s.logSlot cause.code s.chg.logNext
      (State.chargeAccount c (testNearFull (s.logged n c cause))))) := by
  simp only [endCall, hc, ha, hk, if_true, settleCall_eq]
  rfl

/-- The bytes that a settlement writes behind the log's. -/
def State.settledSpans (s : State) (c : CallRec) (k : Nat) : List (Nat × Nat) :=
  [(s.por (0x38000 + 64 * c.account), 64), (s.destAddr k, 64)] ++ s.ringSpans

/-- A call that was answered is settled. -/
theorem endCall_settles (hc : Tab.get? s.chg.calls n.val = some c) (ha : c.answered = true) (hk : (s.line n).dest = some k)
    (ht : s.dest? k = some t) (htail : s.tailIn) :
    ∃ as m₁ m, occasion (endCall n cause s) = { s with
        chg := { s.chg with
          accounts := as, calls := Tab.erase s.chg.calls n.val, logInUse := s.chg.logInUse + 1
          logNext := seqNext s.chg.logNext, logReserved := s.chg.logReserved - 1
          nearArmed := s.chg.nearArmed && !s.nearsFull }
        dju := { s.dju with dests := Tab.set s.dju.dests k { t with logSeq := some s.chg.logNext }, passDue := true }
        ceu := (s.settledTold c cause).ceu, dram := m }
      ∧ Tab.getD as c.account Account.empty
          = { (s.account c.account).charged c with armed := ((s.account c.account).charged c).hasSome }
      ∧ (∀ x, x ≠ c.account → Tab.getD as x Account.empty = s.account x)
      ∧ Mem.bytes m₁ (s.por (0x39000 + 64 * s.logSlot)) 64 = logRecordBytes s.chg.logNext n c cause
      ∧ Mem.num m₁ (s.por 0x34800) 2 = s.chg.logOldest % 65536
      ∧ unchangedOutside [(s.por (0x39000 + 64 * s.logSlot), 64), (s.por 0x34800, 8)] s.dram m₁
      ∧ unchangedOutside (s.settledSpans c k) m₁ m := by
  obtain ⟨m₁, hlog, hrec, hold, hm₁⟩ := s.logged_spec n c cause
  obtain ⟨m₂, hnear, hm₂, htail₂⟩ := testNearFull_logged (s := s) (t := s.logged n c cause) (by rw [hlog]; exact ⟨rfl, rfl, rfl⟩)
    (by rw [hlog]) (by rw [hlog]) (by rw [hlog]) (by rw [hlog]; exact htail)
  obtain ⟨b, hb⟩ : ∃ b, b = s.settling s.chg.accounts s.dju.dests s.nearTold.ceu m₂ := ⟨_, rfl⟩
  have hnearb : testNearFull (s.logged n c cause) = b := by
    rw [hnear, hlog, hb]
    rfl
  have hringb : (s.logged n c cause).ringSpans = s.ringSpans := ringSpans_congr (by rw [hlog])
  rw [hringb, hlog] at hm₂
  rw [hlog] at htail₂
  obtain ⟨a', ha'⟩ : ∃ a', a' = (s.account c.account).charged c := ⟨_, rfl⟩
  obtain ⟨d, hd⟩ : ∃ d, d = s.settling (Tab.set s.chg.accounts c.account a') s.dju.dests s.nearTold.ceu
    (State.chargeAccount c b).dram := ⟨_, rfl⟩
  have hcharge : State.chargeAccount c b = d := by
    rw [hd, hb, ha']
    rfl
  have hdm : unchangedOutside [(s.por (0x38000 + 64 * c.account), 64)] m₂ d.dram := by
    rw [hd, hb]
    exact unchangedOutside_store (s := s.settling s.chg.accounts s.dju.dests s.nearTold.ceu m₂) (by simp)
  obtain ⟨m₃, hpost, hm₃, htail₃⟩ := post_settling (as := Tab.set s.chg.accounts c.account a') (ds := s.dju.dests)
    (m := (State.chargeAccount c b).dram) (nearTold_toldAs s) htail₂ .chargePosted .log s.logSlot cause.code s.chg.logNext
  obtain ⟨e, he⟩ : ∃ e, e = s.settling (Tab.set s.chg.accounts c.account a') s.dju.dests (s.chargeTold cause).ceu m₃ := ⟨_, rfl⟩
  have hposte : post .chargePosted .log s.logSlot cause.code s.chg.logNext d = e := by
    rw [hd, hpost, he]
    rfl
  have het : e.dest? k = some t := by rw [he]; exact ht
  obtain ⟨m₄, hseq, hm₄⟩ := setsDest_modifyDest het fun d => { d with logSeq := some s.chg.logNext }
  obtain ⟨f, hf⟩ : ∃ f, f = s.settling (Tab.set s.chg.accounts c.account a')
    (Tab.set s.dju.dests k { t with logSeq := some s.chg.logNext }) (s.chargeTold cause).ceu m₄ := ⟨_, rfl⟩
  have hseqf : destSequence k s.chg.logNext e = f := by
    rw [destSequence, hseq, he, hf]
    rfl
  have hfa : f.account c.account = a' := by
    rw [hf]
    exact Tab.getD_set_self ..
  obtain ⟨as, m₅, hmark, hm₅⟩ := markTested_frame c.account f
  have hmarkf : markTested c.account f = s.settling as (Tab.set s.dju.dests k { t with logSeq := some s.chg.logNext })
      (s.chargeTold cause).ceu m₅ := by
    rw [hmark, hf]
    rfl
  have hasself : Tab.getD as c.account Account.empty = { a' with armed := a'.hasSome } := by
    have h := markTested_account c.account f
    rw [hfa, hmarkf, Account.covers_one] at h
    exact h
  have hasother (x : Nat) (hx : x ≠ c.account) : Tab.getD as x Account.empty = s.account x := by
    have h := markTested_account_of_ne f hx
    rw [hmarkf, hf] at h
    exact h.trans (Tab.getD_set_of_ne _ _ _ hx)
  have harmed : a'.armed = (s.account c.account).armed := by rw [ha']; rfl
  have hwtold : s.ToldAs { s.chargeTold cause with ceu := s.ceu } := post_toldAs (nearTold_toldAs s) ..
  obtain ⟨m₆, hlast, hm₆⟩ : ∃ m₆, testExhausted c.account f = s.settling as
      (Tab.set s.dju.dests k { t with logSeq := some s.chg.logNext }) (s.settledTold c cause).ceu m₆
      ∧ unchangedOutside s.ringSpans m₅ m₆ := by
    rw [testExhausted_eq, hfa, Account.covers_one, hmarkf, harmed, State.settledTold, ← ha']
    by_cases hfall : (s.account c.account).armed = true ∧ a'.hasSome = false
    · rw [if_pos hfall, if_pos (by rw [hfall.1, hfall.2]; rfl)]
      obtain ⟨m₆, h, hm, -⟩ := post_settling (as := as) (ds := Tab.set s.dju.dests k { t with logSeq := some s.chg.logNext })
        (m := m₅) hwtold htail₃ .accountExhausted .account c.account 0 a'.spent
      exact ⟨m₆, h, hm⟩
    · rw [if_neg hfall, if_neg (by
        rw [Bool.and_eq_true, Bool.not_eq_true']
        exact hfall)]
      exact ⟨m₅, rfl, unchangedOutside_refl _ _⟩
  refine ⟨as, m₁, m₆, ?_, ha' ▸ hasself, hasother, hrec, hold, hm₁, ?_⟩
  · rw [endCall_of_answered hc ha hk, hnearb, hcharge, hposte, hseqf, settleEnd, hlast]
    rfl
  · have hed : e.destAddr k = s.destAddr k := destAddr_congr (by rw [he]; rfl)
    have hfp : f.por (0x38000 + 64 * c.account) = s.por (0x38000 + 64 * c.account) := by rw [hf]; rfl
    have hedram : e.dram = m₃ := by rw [he]; rfl
    have hfdram : f.dram = m₄ := by rw [hf]; rfl
    have hddram : d.dram = (State.chargeAccount c b).dram := by rw [hd]; rfl
    rw [hed, hedram] at hm₄
    rw [hfp, hfdram] at hm₅
    rw [hddram] at hdm
    have hall := ((((hm₂.trans hdm).trans hm₃).trans hm₄).trans hm₅).trans hm₆
    exact hall.of_subset (by simp [State.settledSpans])

end

end Sys2Proof.Machine
end

section
/-! PROOFS. The ends of outbound sessions (R91, R94 to R97, R136, R188, R189): O60. -/

namespace Sys2Proof.Machine

set_option Elab.async false

/-! ## The part once the call is over -/

/-- `v` is `s` once the Charge Unit has closed the call of line `n`; destination `k` then has the record `t`. -/
structure CallOver (s v : State) (n : Line) (k : Nat) (t : Dest) : Prop where
  frame : v = { s with
    chg := v.chg, dju := { s.dju with dests := v.dju.dests, passDue := true }, ceu := v.ceu, dram := v.dram }
  dest : v.dest? k = some t
  dests : ∀ x, x ≠ k → v.dest? x = s.dest? x
  rising : Tab.rising s.dju.dests = true → Tab.rising v.dju.dests = true
  calls : v.chg.calls = Tab.erase s.chg.calls n.val

section

variable {s v w : State} {n : Line} {cause : Cause} {k : Nat} {t t' : Dest} {j : Nat}

theorem endReports_of_over (hdir : (s.line n).dir = some .outbound) (hk : (s.line n).dest = some k) (hj : (s.line n).job = some j)
    (hcall : occasion (endCall n cause s) = v) (hw : destSessionEnd k cause v = w) : endReports n cause s = testJob j w := by
  rw [endReports_of_outbound hdir hk hj, hcall, hw]

/-- The end of a session whose job goes on. -/
theorem endSession_of_goesOn (hdir : (s.line n).dir = some .outbound) (hstore : (s.line n).storing = none)
    (hk : (s.line n).dest = some k) (hj : (s.line n).job = some j) (hv : CallOver s v n k t)
    (hcall : occasion (endCall n cause s) = v) (hw : destSessionEnd k cause v = w)
    (hwf : w = { v with
      psm := w.psm, dju := { v.dju with dests := w.dju.dests, jobs := w.dju.jobs, gen := w.dju.gen }
      ceu := w.ceu, dram := w.dram })
    (htest : testJob j w = w) (dst : LineState) :
    ∃ u, endSession n cause dst s = u
      ∧ u = { s with
          lne := { s.lne with lines := u.lne.lines }, chg := v.chg, psm := w.psm
          dju := { s.dju with dests := w.dju.dests, jobs := w.dju.jobs, gen := w.dju.gen, passDue := true }
          ceu := w.ceu, dram := u.dram }
      ∧ u.line n = LineRec.over dst cause ∧ (∀ m, m ≠ n → u.line m = s.line m)
      ∧ unchangedOutside [(s.por (0x80 + 256 * n.val), 256)] w.dram u.dram := by
  have hframe := hwf
  rw [hv.frame] at hframe
  have hreports : endReports n cause s = w := (endReports_of_over hdir hk hj hcall hw).trans htest
  have hline (m : Line) : w.line m = s.line m := by rw [hframe]; rfl
  obtain ⟨u, hset, hsession⟩ := endSession_of_reports hreports (by rw [hline]; exact hstore) dst
  have hspan : w.lineSpan n = (s.por (0x80 + 256 * n.val), 256) := by rw [hframe]; rfl
  have hbytes := hset.dram
  rw [hspan] at hbytes
  have huf := hset.frame
  rw [hframe] at huf
  refine ⟨_, hsession, ?_⟩
  have hothers (m : Line) (hm : m ≠ n) : u.line m = s.line m := (hset.line_of_ne hm).trans (hline m)
  by_cases hidle : dst = .idle
  · rw [if_pos hidle]
    refine ⟨?_, hset.line_self, hothers, hbytes⟩
    rw [occasion, huf]
  · rw [if_neg hidle]
    refine ⟨?_, hset.line_self, hothers, hbytes⟩
    rw [huf]

/-- At the end of the last session of a job whose destinations are all final, the job ends. -/
theorem endSession_of_lastOne {q : Job} (hdir : (s.line n).dir = some .outbound) (hk : (s.line n).dest = some k)
    (hj : (s.line n).job = some j) (hcall : occasion (endCall n cause s) = v) (hw : destSessionEnd k cause v = w)
    (hstore : (w.line n).storing = none) (hq : w.job? j = some q) (hzero : q.sessions = 0)
    (hrising : Tab.rising w.dju.dests = true) (hfin : ∀ x r, w.dest? x = some r → r.job = j → r.isFinal = true)
    (hcalls : Tab.get? w.chg.calls n.val = none) (dst : LineState) :
    ∃ u, endSession n cause dst s = u ∧ u.job? j = none ∧ (∀ x r, w.dest? x = some r → r.job = j → u.dest? x = none)
      ∧ u.line n = { LineRec.default with state := dst, cause := some cause } ∧ Tab.get? u.chg.calls n.val = none
      ∧ ∀ d, w.doc? q.doc = some d → d.state ≠ .deleting →
        (q.autoDelete = true → u.goes q.doc)
        ∧ (q.autoDelete = false →
          u.ceu = (postTagged .jobDone .job j q.tag q.state.doneCode q.doneValue w).ceu
          ∧ u.doc? q.doc = some { d with jobRefs := d.jobRefs - 1 } ∧ (∀ x, x ≠ q.doc → u.doc? x = w.doc? x)
          ∧ (∀ x, x ≠ j → u.job? x = w.job? x) ∧ (∀ m, m ≠ n → u.line m = w.line m)
          ∧ ∀ x r, w.dest? x = some r → r.job ≠ j → u.dest? x = some r) := by
  have hreports := endReports_of_over hdir hk hj hcall hw
  have hf : w.jobIsFinal j = true := (State.jobIsFinal_iff hq).2 ⟨hzero, fun e he =>
    hfin e.1 e.2 (Tab.get?_of_mem hrising he)⟩
  have hof (x : Nat) (r : Dest) (hx : w.dest? x = some r) : x ∈ w.destsOf j ↔ r.job = j := by
    rw [State.destsOf, Tab.mem_keysWhere hrising]
    refine ⟨fun ⟨r', hr', h⟩ => ?_, fun h => ⟨r, hx, by simpa using h⟩⟩
    rw [show w.dest? x = some r' from hr'] at hx
    obtain rfl := Option.some.inj hx
    simpa using h
  have hwanes := wanes_endSession_reports n cause dst s
  rw [hreports] at hwanes
  obtain ⟨hjob, hdests⟩ := testJob_frees hq hf
  have hcallsTest : Wanes ⟨true, none, none⟩ w (testJob j w) := wanes_testJob (fun _ _ _ => .inl rfl) (.refl _ _)
  refine ⟨_, rfl, hwanes.job j hjob, fun x r hx hr => hwanes.dest_none (hdests x ((hof x r hx).2 hr)), endSession_line ..,
    hwanes.call _ (hcallsTest.call _ hcalls), fun d hd hst => ⟨fun ha => ?_, fun ha => ?_⟩⟩
  · exact hwanes.doc _ (fun e => nomatch e) (testJob_goes hq hf ha hd hst)
  · obtain ⟨ds, docs, m, hend, hget, -, hdocs⟩ := endJob_spec j q w
    rw [testJob_of_noAutoDelete hq hf ha, hend] at hreports
    obtain ⟨hself, hother⟩ := hdocs d hd hst
    obtain ⟨u, hset, hsession⟩ := endSession_of_reports hreports (by exact hstore) dst
    have huf := hset.frame
    have hthe : endSession n cause dst s = { u with dju := { u.dju with passDue := (endSession n cause dst s).dju.passDue } } := by
      rw [hsession]
      by_cases hidle : dst = .idle
      · rw [if_pos hidle]
        rfl
      · rw [if_neg hidle]
    have hlines (m : Line) (hm : m ≠ n) : u.line m = w.line m := hset.line_of_ne hm
    rw [hthe]
    refine ⟨?_, ?_, fun x hx => ?_, fun x hx => ?_, hlines, fun x r hx hr => ?_⟩
    · show u.ceu = _
      rw [huf]
    · show Tab.get? u.dju.docs q.doc = _
      rw [huf]
      exact hself
    · show Tab.get? u.dju.docs x = _
      rw [huf]
      exact hother x hx
    · show Tab.get? u.dju.jobs x = _
      rw [huf]
      exact Tab.get?_erase_of_ne _ hx
    · show Tab.get? u.dju.dests x = _
      rw [huf]
      exact (hget x).trans ((if_neg fun h => hr ((hof x r hx).1 h)).trans hx)

end

/-! ## A destination that is given up at the end of its session (R95) -/

/-- The final state of a destination that is given up. -/
def Dest.endState (t : Dest) (cause : Cause) : DestState := if t.cancelMark = true ∨ cause = .cancelled then .cancelled else .failed

theorem destSessionEnd_of_givenUp {s : State} {k : Nat} {t : Dest} {j : Job} {cause : Cause} {d : Doc} (ht : s.dest? k = some t)
    (hj : s.job? t.job = some j) (hsent : t.state ≠ .sent)
    (hover : t.cancelMark = true ∨ cause = .cancelled ∨ cause = .notFax
      ∨ (cause.counts = true ∧ s.dju.maxAttempts ≤ t.tries cause))
    (hd : s.SoundFrom j.doc d t.confirmed) :
    ∃ ps m, destSessionEnd k cause s = { s with
        psm := { s.psm with pages := ps }
        dju := { s.dju with
          dests := Tab.set s.dju.dests k { t with
            state := t.endState cause, attempts := t.tries cause, lastCause := some cause, cancelMark := false }
          jobs := Tab.set s.dju.jobs t.job (Job.count (t.endState cause) { j with sessions := j.sessions - 1 }) }
        ceu := (postTagged .destDone .destination k j.tag (t.endState cause).doneCode t.confirmed s).ceu, dram := m }
      ∧ (∀ p, Tab.get? ps p = if some p ∈ d.places.drop t.confirmed then (s.page? p).map PageRec.unheld else s.page? p)
      ∧ unchangedOutside ([(s.destAddr k, 64), (s.jobAddr t.job, 128)] ++ s.eventSpans
          ++ ((d.places.drop t.confirmed).filterMap id).map fun p => (s.pageAddr p, 64)) s.dram m := by
  have hgiven : destSessionEnd k cause s = destGivenUp k (t.endState cause) (s.sessionOver k t j cause) := by
    rw [destSessionEnd_of_unsent ht hj hsent, Dest.endState]
    by_cases hc : t.cancelMark = true ∨ cause = .cancelled
    · rw [if_pos hc, if_pos hc]
    · rw [if_neg hc, if_neg hc]
      rw [not_or] at hc
      obtain h | h | h | ⟨h, htries⟩ := hover
      · exact absurd h hc.1
      · exact absurd h hc.2
      · rw [if_neg (by rw [h]; exact fun e => nomatch e), if_pos h]
      · by_cases hfax : cause = .notFax
        · rw [if_neg (by rw [hfax]; exact fun e => nomatch e), if_pos hfax]
        · have hseize : cause ≠ .seizeLost := fun e => by
            rw [e] at h
            cases h
          rw [if_neg hseize, if_neg hfax, if_pos h, if_neg (Nat.not_lt.2 htries)]
  obtain ⟨m, hset, hm⟩ := s.sessionOver_setsDest k t j cause
  obtain ⟨v, hv⟩ : ∃ v, v = s.sessionOver k t j cause := ⟨_, rfl⟩
  rw [← hv] at hset hgiven
  have hvt : v.dest? k = some { t with lastCause := some cause, attempts := t.tries cause } := by
    rw [hset]
    exact Tab.get?_set_self ..
  have hvj : v.job? t.job = some { j with sessions := j.sessions - 1 } := by
    rw [hset]
    exact Tab.get?_set_self ..
  have hvd : v.SoundFrom j.doc d t.confirmed := by
    rw [hset]
    exact hd
  obtain ⟨ps, m', hup, hget, hm'⟩ := destGivenUp_of_sound (j := { j with sessions := j.sessions - 1 }) hvt hvj hvd (t.endState cause)
  have hceu : (postTagged .destDone .destination k j.tag (t.endState cause).doneCode t.confirmed v).ceu
      = (postTagged .destDone .destination k j.tag (t.endState cause).doneCode t.confirmed s).ceu :=
    postTagged_ceu_congr (by rw [hset]; rfl) (by rw [hset]; rfl) (by rw [hset]; rfl) ..
  have hspans : v.eventSpans = s.eventSpans := eventSpans_congr (by rw [hset]; rfl) (by rw [hset]; rfl)
  have haddr : v.destAddr k = s.destAddr k ∧ v.jobAddr t.job = s.jobAddr t.job ∧ ∀ p, v.pageAddr p = s.pageAddr p := by
    rw [hset]
    exact ⟨rfl, rfl, fun _ => rfl⟩
  have hpage (p : Nat) : v.page? p = s.page? p := by rw [hset]; rfl
  have hjm : unchangedOutside [(s.jobAddr t.job, 128)] s.dram (putJob t.job { j with sessions := j.sessions - 1 } s).dram :=
    unchangedOutside_store (by simp)
  have hvm : v.dram = m := by rw [hset]
  simp only [hspans, haddr, hvm] at hm'
  refine ⟨ps, m', ?_, fun p => by rw [hget p, hpage p], ((hjm.trans hm).trans hm').of_subset ?_⟩
  · rw [hgiven, hup, hceu, hset]
    simp only [putJob, State.store, Tab.set_set]
  · rw [show (putJob t.job { j with sessions := j.sessions - 1 } s).destAddr k = s.destAddr k from rfl]
    simp

/-! ## The rows and the grace -/

theorem exec_of_endsSession {n : Line} {c : Instr} {cause : Cause} {dst : LineState} {s : State} (h : EndsSession s n c cause dst) :
    exec c s = .next (endSession n cause dst s) := by
  obtain ⟨hh, hs, ⟨b, rfl⟩, rfl, rfl⟩ | ⟨hh, hs, rfl, rfl, rfl⟩ | ⟨hh, hs, rfl, rfl, rfl⟩ | ⟨hs, ht, hr, hg, rfl, rfl, rfl⟩ := h
  · exact exec_remoteClear_of_session hh hs
  · exact exec_lineNotReady_of_session hh hs
  · exact exec_cleared_of_clearing hh hs
  · exact exec_clearingTimerExpiry_of_out hs ht hr hg

/-- Lines without a session take no turn. -/
theorem endSessions_of_idle {cause : Cause} {s : State} (l : List Line) (h : ∀ m ∈ l, (s.line m).state.inSession = false) :
    l.foldl (endOne cause) s = s := by
  induction l with
  | nil => rfl
  | cons n l ih =>
    rw [List.foldl_cons, endOne_of_noSession (h n (List.mem_cons_self ..)), ih fun m hm => h m (List.mem_cons_of_mem _ hm)]

theorem allLines_before (n : Line) : ∃ before after, allLines = before ++ n :: after ∧ ∀ m ∈ before, m.val < n.val := by
  refine ⟨allLines.take n.val, allLines.drop (n.val + 1), ?_, ?_⟩ <;> revert n <;> decide

/-- The lowest line in session ends its session first. -/
theorem endAllSessions_first {n : Line} {cause : Cause} {s : State} (hs : (s.line n).state.inSession = true)
    (hbefore : ∀ m : Line, m.val < n.val → (s.line m).state.inSession = false) :
    endAllSessions cause s = endAllSessions cause (endSession n ((s.line n).causeOr cause) .unavailable s) := by
  obtain ⟨before, after, hsplit, hlow⟩ := allLines_before n
  obtain ⟨u, hu⟩ : ∃ u, u = endSession n ((s.line n).causeOr cause) .unavailable s := ⟨_, rfl⟩
  have hline : u.line n = { LineRec.default with state := .unavailable, cause := some ((s.line n).causeOr cause) } := by
    rw [hu]
    exact endSession_line ..
  have hothers {m : Line} (hm : m.val < n.val) : (u.line m).state.inSession = false := by
    have hne : m ≠ n := fun e => absurd (congrArg Fin.val e) (Nat.ne_of_lt hm)
    have hsame : u.line m = s.line m := by
      rw [hu, ← endOne_of_session hs]
      exact (endOne_staysOr hne).same (hbefore m hm)
    rw [hsame]
    exact hbefore m hm
  rw [← hu, endAllSessions_eq, endAllSessions_eq, hsplit, List.foldl_append, List.foldl_append, List.foldl_cons, List.foldl_cons,
    endSessions_of_idle before fun m hm => hbefore m (hlow m hm), endSessions_of_idle before fun m hm => hothers (hlow m hm),
    endOne_of_session hs, ← hu, endOne_of_noSession (by rw [hline]; rfl)]

/-! ## An answered session and an unanswered one (R188, R189) -/

/-- `t` is `s` but for the charges, the events and DRAM. -/
def TakesCharge (s t : State) : Prop :=
  ∃ x c m, t = { s with chg := x, ceu := c, dram := m } ∧ x.seconds = s.chg.seconds ∧ x.calls = s.chg.calls

theorem TakesCharge.trans {s t u : State} (h : TakesCharge s t) (h' : TakesCharge t u) : TakesCharge s u := by
  obtain ⟨_, _, _, rfl, hs, hc⟩ := h
  obtain ⟨_, _, _, rfl, hs', hc'⟩ := h'
  exact ⟨_, _, _, rfl, hs'.trans hs, hc'.trans hc⟩

theorem takesCharge_post (kind : EventKind) (src : SourceKind) (idx code value : Nat) (s : State) :
    TakesCharge s (post kind src idx code value s) := by
  obtain ⟨c, m, h, -⟩ := post_frame kind src idx code value s
  exact ⟨_, _, _, h, rfl, rfl⟩

theorem takesCharge_testNearFull (s : State) : TakesCharge s (testNearFull s) := by
  unfold testNearFull
  split
  · exact TakesCharge.trans ⟨_, _, _, rfl, rfl, rfl⟩ (takesCharge_post .logNearFull .log s.chg.logOldest 0 s.chg.logInUse
      { s with chg := { s.chg with nearArmed := false } })
  · exact ⟨_, _, _, rfl, rfl, rfl⟩

theorem takesCharge_testExhausted (i : Nat) (s : State) : TakesCharge s (testExhausted i s) := by
  obtain ⟨as, m, h, -⟩ := markTested_frame i s
  have hmark : TakesCharge s (markTested i s) := ⟨_, _, _, h, rfl, rfl⟩
  rw [testExhausted_eq]
  split
  · exact hmark.trans (takesCharge_post ..)
  · exact hmark

section

variable {s : State} {n : Line} {cause : Cause} {k : Nat} {t : Dest} {c : CallRec}

/-- A settled call has given its destination the sequence. -/
theorem endCall_sequences (hc : Tab.get? s.chg.calls n.val = some c) (ha : c.answered = true) (hk : (s.line n).dest = some k)
    (ht : s.dest? k = some t) :
    ∃ x e m, occasion (endCall n cause s) = { s with
        chg := x, ceu := e, dram := m
        dju := { s.dju with dests := Tab.set s.dju.dests k { t with logSeq := some s.chg.logNext }, passDue := true } }
      ∧ x.seconds = s.chg.seconds := by
  have hlog : TakesCharge s (s.logged n c cause) := ⟨_, _, _, rfl, rfl, rfl⟩
  have hcharge : TakesCharge s (State.chargeAccount c (testNearFull (s.logged n c cause))) :=
    (hlog.trans (takesCharge_testNearFull _)).trans ⟨_, _, _, rfl, rfl, rfl⟩
  obtain ⟨x, e, m, hpost, hs, -⟩ := hcharge.trans (takesCharge_post .chargePosted .log s.logSlot cause.code s.chg.logNext _)
  have ht' : State.dest? { s with chg := x, ceu := e, dram := m } k = some t := ht
  rw [endCall_of_answered hc ha hk, hpost, destSequence, modifyDest_of_some ht', settleEnd]
  obtain ⟨x', e', m', hlast, hs', -⟩ := takesCharge_testExhausted c.account
    (putDest k { t with logSeq := some s.chg.logNext } { s with chg := x, ceu := e, dram := m })
  rw [hlast]
  exact ⟨_, _, _, rfl, hs'.trans hs⟩

/-- The end of a session leaves its job on its document. -/
theorem destSessionEnd_job_doc {j r : Job} (ht : s.dest? k = some t) (hj : s.job? t.job = some j)
    (hr : (destSessionEnd k cause s).job? t.job = some r) : r.doc = j.doc := by
  obtain ⟨m, hset, -⟩ := s.sessionOver_setsDest k t j cause
  obtain ⟨v, hv⟩ : ∃ v, v = s.sessionOver k t j cause := ⟨_, rfl⟩
  rw [← hv] at hset
  have hvj : v.job? t.job = some { j with sessions := j.sessions - 1 } := by
    rw [hset]
    exact Tab.get?_set_self ..
  have hvt : v.dest? k = some { t with lastCause := some cause, attempts := t.tries cause } := by
    rw [hset]
    exact Tab.get?_set_self ..
  have hgiven (st : DestState) (hr : (destGivenUp k st v).job? t.job = some r) : r.doc = j.doc := by
    obtain ⟨x, docs, c, m, h⟩ := destGivenUp_frame hvt hvj st
    rw [h] at hr
    rw [← Option.some.inj ((Tab.get?_set_self ..).symm.trans hr)]
    cases st <;> rfl
  have hsame {u : State} (hu : u.dju.jobs = v.dju.jobs) (hr : u.job? t.job = some r) : r.doc = j.doc := by
    rw [State.job?, hu, ← State.job?, hvj] at hr
    rw [← Option.some.inj hr]
  by_cases hsent : t.state = .sent
  · rw [destSessionEnd_of_sent ht hj hsent] at hr
    rw [← Option.some.inj ((Tab.get?_set_self ..).symm.trans hr)]
  · rw [destSessionEnd_of_unsent ht hj hsent, ← hv] at hr
    split at hr
    · exact hgiven _ hr
    · split at hr
      · exact hsame (by rw [modifyDest_of_some hvt]; rfl) hr
      · split at hr
        · exact hgiven _ hr
        · split at hr
          · split at hr
            · refine hsame ?_ hr
              unfold toRetryWait
              obtain ⟨ds, m, h⟩ := modifyDest_frame k (fun d => { d with
                  state := .retryWait
                  nextTry := (v.chg.seconds : Int) + (retryWait v.dju.baseWait (t.tries cause) (nextGen v.dju.gen % v.dju.baseWait) : Nat) })
                { v with dju := { v.dju with gen := nextGen v.dju.gen } }
              dsimp only at h ⊢
              rw [h]
            · exact hgiven _ hr
          · exact hsame rfl hr

theorem Tab.below_mapKeyed {α : Type} (f : Nat → α → α) (t : Tab α) {k : Nat} (hf : ∀ i v, i ≠ k → f i v = v) :
    Tab.below (t.map fun e => (e.1, f e.1 e.2)) k = Tab.below t k := by
  induction t with
  | nil => rfl
  | cons e t ih =>
    simp only [Tab.below, List.map_cons, List.filter_cons] at ih ⊢
    by_cases h : e.1 < k
    · rw [if_pos (by simpa using h), if_pos (by simpa using h), ih, hf e.1 e.2 (Nat.ne_of_lt h)]
    · rw [if_neg (by simpa using h), if_neg (by simpa using h), ih]

theorem Tab.from_mapKeyed {α : Type} (f : Nat → α → α) (t : Tab α) {k : Nat} (hf : ∀ i v, i ≠ k → f i v = v) :
    Tab.from (t.map fun e => (e.1, f e.1 e.2)) (k + 1) = Tab.from t (k + 1) := by
  induction t with
  | nil => rfl
  | cons e t ih =>
    simp only [Tab.from, List.map_cons, List.filter_cons] at ih ⊢
    by_cases h : k + 1 ≤ e.1
    · rw [if_pos (by simpa using h), if_pos (by simpa using h), ih, hf e.1 e.2 (by omega)]
    · rw [if_neg (by simpa using h), if_neg (by simpa using h), ih]

/-- A record that is set takes the place of the one that alone was changed. -/
theorem Tab.set_mapKeyed_at {α : Type} (f : Nat → α → α) (t : Tab α) (k : Nat) (v : α) (hf : ∀ i v, i ≠ k → f i v = v) :
    Tab.set t k (f k v) = (Tab.set t k v).map fun e => (e.1, f e.1 e.2) := by
  rw [← Tab.set_mapKeyed, Tab.set, Tab.set, Tab.below_mapKeyed f t hf, Tab.from_mapKeyed f t hf]

theorem alike_giveUpStore_of_keepsLine {w : Slack} {a b : State} (hn : w.keepsLine n) (h : Alike w a b) :
    Alike w (giveUpStore n a) (giveUpStore n b) := by
  unfold giveUpStore
  rw [h.line hn]
  cases (a.line n).storing with
  | none => exact h
  | some i =>
    have hset := alike_setLine hn h { a.line n with storing := none }
    exact alike_inLine hset n.val (f := fun l => { l with complete := false, occupied := false }) fun _ => rfl

/-- Two sessions whose reports are alike end alike. -/
theorem alike_endSession_of_reports {w : Slack} {a : State} (hn : w.keepsLine n)
    (h : Alike w (endReports n cause s) (endReports n cause a)) (dst : LineState) :
    Alike w (endSession n cause dst s) (endSession n cause dst a) := by
  unfold endSession
  dsimp only
  have hline := alike_writeLine hn (alike_setLine hn (alike_giveUpStore_of_keepsLine hn h)
    { LineRec.default with state := dst, cause := some cause })
  exact .ite Iff.rfl (fun _ => alike_occasion hline) fun _ => hline

/-- The slack of a call leaves the lines and the link. -/
def Slack.ofCall : Slack → Prop
  | .call .. => True
  | _ => False

theorem Alike.keptLines {w : Slack} {a b : State} (h : Alike w a b) (hw : w.ofCall) : b.lne = a.lne := by
  obtain ⟨x, rfl, hx⟩ := h
  cases w with
  | call k seq => exact congrArg (fun l => ({ a.lne with lines := l } : Lne)) hx.lines
  | _ => exact hw.elim

theorem Alike.keptSli {w : Slack} {a b : State} (h : Alike w a b) (hw : w.ofCall) : b.sli = a.sli := by
  obtain ⟨x, rfl, hx⟩ := h
  cases w with
  | call k seq => exact congrArg (fun c => a.sli.withCheck c) hx.check
  | _ => exact hw.elim

/-- A settled session ends as one that was never answered, but for the charges, the events and the sequence. -/
theorem endSession_settled_alike {j : Job} (hdir : (s.line n).dir = some .outbound) (hk : (s.line n).dest = some k)
    (hj : (s.line n).job = some t.job) (ht : s.dest? k = some t) (hjob : s.job? t.job = some j)
    (hc : Tab.get? s.chg.calls n.val = some c) (ha : c.answered = true) (hscan : s.scn.doc ≠ some j.doc) (dst : LineState) :
    Alike (.call k s.chg.logNext)
      (endSession n cause dst { s with chg := { s.chg with calls := Tab.set s.chg.calls n.val { c with answered := false } } })
      (endSession n cause dst s) := by
  obtain ⟨s', hs'⟩ : ∃ s' : State, s' = { s with
      chg := { s.chg with calls := Tab.set s.chg.calls n.val { c with answered := false } } } := ⟨_, rfl⟩
  rw [← hs']
  have hline : s'.line n = s.line n := by rw [hs']; rfl
  have hc' : Tab.get? s'.chg.calls n.val = some { c with answered := false } := by rw [hs']; exact Tab.get?_set_self ..
  obtain ⟨m, hrel, -⟩ := releaseCall_spec n { c with answered := false } s'
  obtain ⟨x, e, m', hset, hsec⟩ := endCall_sequences (cause := cause) hc ha hk ht
  refine alike_endSession_of_reports (by trivial) ?_ dst
  rw [endReports_of_outbound hdir hk hj, endReports_of_outbound (by rw [hline]; exact hdir) (by rw [hline]; exact hk)
    (by rw [hline]; exact hj), endCall_of_unanswered hc' rfl, hset, hrel]
  obtain ⟨a, ha'⟩ : ∃ a : State, a = occasion { s' with
        dju := { s'.dju with passDue := true }
        chg := { s'.chg with
          logReserved := s'.chg.logReserved - 1
          accounts := Tab.set s'.chg.accounts c.account ((s'.account c.account).freed c.reservation)
          calls := Tab.erase s'.chg.calls n.val }
        dram := m } := ⟨_, rfl⟩
  obtain ⟨b, hb⟩ : ∃ b : State, b = { s with
        chg := x, ceu := e, dram := m'
        dju := { s.dju with dests := Tab.set s.dju.dests k { t with logSeq := some s.chg.logNext }, passDue := true } } :=
    ⟨_, rfl⟩
  rw [← ha', ← hb]
  have hat : a.dest? k = some t := by rw [ha', hs']; exact ht
  have hbt : b.dest? k = some { t with logSeq := some s.chg.logNext } := by rw [hb]; exact Tab.get?_set_self ..
  have haj : a.job? t.job = some j := by rw [ha', hs']; exact hjob
  have hbj : b.job? t.job = some j := by rw [hb]; exact hjob
  have hputs : Alike (.call k s.chg.logNext) (modifyDest k (fun d => { d with lastCause := some cause })
      (putJob t.job { j with sessions := j.sessions - 1 } a))
      (modifyDest k (fun d => { d with lastCause := some cause }) (putJob t.job { j with sessions := j.sessions - 1 } b)) := by
    rw [modifyDest_of_some (s := putJob t.job { j with sessions := j.sessions - 1 } a) hat,
      modifyDest_of_some (s := putJob t.job { j with sessions := j.sessions - 1 } b) hbt]
    have hmap := Tab.set_mapKeyed_at (Dest.sequenced k s.chg.logNext) s.dju.dests k { t with lastCause := some cause }
      fun i v hi => if_neg hi
    refine ⟨⟨s.lne.lines, Tab.set s.dju.dests k { t with lastCause := some cause, logSeq := some s.chg.logNext },
      s.sli.check, s.smp, x, e, (putDest k { t with lastCause := some cause, logSeq := some s.chg.logNext }
        (putJob t.job { j with sessions := j.sessions - 1 } b)).dram⟩, ?_, ⟨?_, ?_, ?_, ?_, ?_, trivial, trivial⟩⟩
    · rw [ha', hs', hb]
      simp only [putDest, putJob, State.store, State.alter, Tab.set_set]
      rfl
    · rw [ha', hs']
      rfl
    · rw [ha', hs']
      exact (show Tab.set s.dju.dests k { t with lastCause := some cause, logSeq := some s.chg.logNext }
        = Tab.set s.dju.dests k (Dest.sequenced k s.chg.logNext k { t with lastCause := some cause }) by
          rw [Dest.sequenced, if_pos rfl]).trans hmap
    · rw [ha', hs']
      rfl
    · rw [ha', hs']
      rfl
    · rw [ha', hs']
      exact hsec
  have hend : Alike (.call k s.chg.logNext) (destSessionEnd k cause a) (destSessionEnd k cause b) := by
    have h := alike_moveDest hputs k cause
    simp only [destSessionEnd, hat, hbt, modifyJob_of_some haj, modifyJob_of_some hbj]
    exact h
  refine alike_testJob (fun r hr hdoc => absurd hdoc ?_) hend
  have hw : Wanes ⟨false, none, none⟩ a (destSessionEnd k cause a) := wanes_destSessionEnd (.refl _ _)
  have hscn : (destSessionEnd k cause a).scn = s.scn := by
    rw [(hw.scan rfl).2.2, ha', hs']
    rfl
  rw [hscn, destSessionEnd_job_doc hat haj hr]
  exact hscan

end

/-! ## What stands once the session is over -/

/-- `u` is `s` after the session of line `n` has ended: destination `k` has the record `r`, job `j` the record `q`, the call is
gone, and no other line, destination, job, call or account but `a` has changed. -/
structure SessionOver (s u : State) (n : Line) (cause : Cause) (dst : LineState) (k : Nat) (r : Dest) (j : Nat) (q : Job)
    (a : Nat) : Prop where
  line : u.line n = { LineRec.default with state := dst, cause := some cause }
  call : Tab.get? u.chg.calls n.val = none
  lines : ∀ m, m ≠ n → u.line m = s.line m
  dests : ∀ x, x ≠ k → u.dest? x = s.dest? x
  jobs : ∀ x, x ≠ j → u.job? x = s.job? x
  accounts : ∀ x, x ≠ a → u.account x = s.account x
  calls : ∀ x, x ≠ n.val → Tab.get? u.chg.calls x = Tab.get? s.chg.calls x
  dest : u.dest? k = some r
  job : u.job? j = some q

section

variable {s v w : State} {n : Line} {cause : Cause} {k : Nat} {t r : Dest} {q : Job} {a : Nat}

/-- The end of a session whose job goes on, with what stands then. -/
theorem endSession_over {j : Nat} (hdir : (s.line n).dir = some .outbound) (hstore : (s.line n).storing = none)
    (hk : (s.line n).dest = some k) (hj : (s.line n).job = some j) (hv : CallOver s v n k t)
    (haccounts : ∀ x, x ≠ a → v.account x = s.account x) (hcall : occasion (endCall n cause s) = v)
    (hw : destSessionEnd k cause v = w)
    (hwf : w = { v with
      psm := w.psm
      dju := { v.dju with dests := Tab.set v.dju.dests k r, jobs := Tab.set v.dju.jobs j q, gen := w.dju.gen }
      ceu := w.ceu, dram := w.dram })
    (htest : testJob j w = w) (dst : LineState) :
    ∃ u, endSession n cause dst s = u
      ∧ u = { s with
          lne := { s.lne with lines := u.lne.lines }, chg := v.chg, psm := w.psm
          dju := { s.dju with dests := u.dju.dests, jobs := u.dju.jobs, gen := w.dju.gen, passDue := true }
          ceu := w.ceu, dram := u.dram }
      ∧ SessionOver s u n cause dst k r j q a
      ∧ unchangedOutside [(s.por (0x80 + 256 * n.val), 256)] w.dram u.dram := by
  have hdests : w.dju.dests = Tab.set v.dju.dests k r := by rw [hwf]
  have hjobs : w.dju.jobs = Tab.set s.dju.jobs j q := by rw [hwf, hv.frame]
  obtain ⟨u, hu, huf, hline, hlines, hbytes⟩ := endSession_of_goesOn hdir hstore hk hj hv hcall hw
    (by rw [hdests, hjobs, show s.dju.jobs = v.dju.jobs by rw [hv.frame]]; exact hwf) htest dst
  have hud : u.dju.dests = Tab.set v.dju.dests k r := by rw [huf, hdests]
  have huj : u.dju.jobs = Tab.set s.dju.jobs j q := by rw [huf, hjobs]
  have huc : u.chg = v.chg := by rw [huf]
  refine ⟨u, hu, ?_, ⟨hline, ?_, hlines, fun x hx => ?_, fun x hx => ?_, fun x hx => ?_, fun x hx => ?_, ?_, ?_⟩, hbytes⟩
  · rw [hud, huj, ← hdests, ← hjobs]
    exact huf
  · rw [huc, hv.calls, Tab.get?_erase, if_pos rfl]
  · rw [State.dest?, hud, Tab.get?_set_of_ne _ _ hx]
    exact hv.dests x hx
  · rw [State.job?, huj, Tab.get?_set_of_ne _ _ hx]
    rfl
  · rw [State.account, huc]
    exact haccounts x hx
  · rw [huc, hv.calls, Tab.get?_erase_of_ne _ hx]
  · rw [State.dest?, hud, Tab.get?_set_self]
  · rw [State.job?, huj, Tab.get?_set_self]

/-- An unanswered call is over. -/
theorem callOver_of_unanswered {c : CallRec} (cause : Cause) (ht : s.dest? k = some t)
    (hc : Tab.get? s.chg.calls n.val = some c) (ha : c.answered = false) :
    ∃ v, occasion (endCall n cause s) = v ∧ CallOver s v n k t
      ∧ v = { s with
          dju := { s.dju with passDue := true }
          chg := { s.chg with
            logReserved := s.chg.logReserved - 1
            accounts := Tab.set s.chg.accounts c.account ((s.account c.account).freed c.reservation)
            calls := Tab.erase s.chg.calls n.val }
          dram := v.dram }
      ∧ unchangedOutside [(s.por (0x38000 + 64 * c.account), 64)] s.dram v.dram := by
  obtain ⟨m, hrel, hm⟩ := releaseCall_spec n c s
  rw [endCall_of_unanswered hc ha, hrel]
  exact ⟨_, rfl, ⟨rfl, ht, fun _ _ => rfl, id, rfl⟩, rfl, hm⟩

/-- The frame of a destination's own end. -/
theorem EndsDest.frame {gen : Nat} (h : EndsDest k r q gen v w) :
    (w = { v with
        psm := w.psm
        dju := { v.dju with dests := Tab.set v.dju.dests k r, jobs := Tab.set v.dju.jobs r.job q, gen := w.dju.gen }
        ceu := w.ceu, dram := w.dram })
      ∧ w.psm = v.psm ∧ w.ceu = v.ceu ∧ w.dju.gen = gen
      ∧ unchangedOutside [(v.destAddr k, 64), (v.jobAddr r.job, 128)] v.dram w.dram := by
  obtain ⟨m, rfl, hm⟩ := h
  exact ⟨rfl, rfl, rfl, rfl, hm⟩

end

theorem Cause.counts_eq (cause : Cause) : [Cause.busy, .noAnswer, .remoteClear, .timeout, .repeatLimit, .pageRejected, .linkLost,
    .dataNotReady, .lineDisabled, .notFax].contains cause = cause.counts := by
  cases cause <;> rfl

theorem JobState.doneCode_eq (st : JobState) : st.doneCode = if st = .cancelled then 2 else 0 := by
  cases st <;> rfl

/-- A job with a session left goes on. -/
theorem testJob_of_session {w : State} {j : Nat} {q : Job} (hq : w.job? j = some q) (hs : q.sessions ≠ 0) : testJob j w = w :=
  testJob_of_notFinal (Bool.eq_false_iff.2 fun h => hs ((State.jobIsFinal_iff hq).1 h).1)

/-! ## Unanswered sessions -/

/-- The charges of a released call. -/
def Released (s u : State) (c : CallRec) : Prop :=
  u.chg = { s.chg with logReserved := s.chg.logReserved - 1, accounts := u.chg.accounts, calls := u.chg.calls }
    ∧ u.account c.account = (s.account c.account).freed c.reservation

section

variable {s : State} {n : Line} {cause : Cause} {k : Nat} {t r : Dest} {j : Job} {c : CallRec} {d : Doc}

/-- The destination of an unanswered session may be tried again. -/
theorem endSession_tries {gen : Nat} (hdir : (s.line n).dir = some .outbound) (hstore : (s.line n).storing = none)
    (hk : (s.line n).dest = some k) (hj : (s.line n).job = some t.job) (ht : s.dest? k = some t)
    (hc : Tab.get? s.chg.calls n.val = some c) (ha : c.answered = false) (hr : r.job = t.job) (hopen : r.isFinal = false)
    (hend : ∀ v : State, v.dest? k = some t → v.job? t.job = s.job? t.job → v.dju = { s.dju with passDue := true } →
      v.chg.seconds = s.chg.seconds → EndsDest k r { j with sessions := j.sessions - 1 } gen v (destSessionEnd k cause v))
    (dst : LineState) :
    ∃ u, endSession n cause dst s = u
      ∧ u = { s with
          lne := { s.lne with lines := u.lne.lines }, chg := u.chg, dram := u.dram
          dju := { s.dju with dests := u.dju.dests, jobs := u.dju.jobs, gen := gen, passDue := true } }
      ∧ SessionOver s u n cause dst k r t.job { j with sessions := j.sessions - 1 } c.account ∧ Released s u c
      ∧ unchangedOutside [(s.por (0x80 + 256 * n.val), 256), (s.destAddr k, 64), (s.jobAddr t.job, 128),
          (s.por (0x38000 + 64 * c.account), 64)] s.dram u.dram := by
  obtain ⟨v, hcall, hover, hvf, hvm⟩ := callOver_of_unanswered cause ht hc ha
  obtain ⟨hwf, hwpsm, hwceu, hwgen, hwm⟩ := (hend v hover.dest (by rw [hvf]; rfl) (by rw [hvf]) (by rw [hvf])).frame
  obtain ⟨w, hw⟩ : ∃ w, destSessionEnd k cause v = w := ⟨_, rfl⟩
  rw [hw] at hwf hwpsm hwceu hwgen hwm
  rw [hr] at hwf hwm
  have haccounts (x : Nat) (hx : x ≠ c.account) : v.account x = s.account x := by
    rw [hvf]
    exact Tab.getD_set_of_ne _ _ _ hx
  have htest : testJob t.job w = w := testJob_of_open (k := k) (t := r) (by rw [hwf]; exact Tab.get?_set_self ..) hr hopen
  obtain ⟨u, hu, huf, hsession, hum⟩ := endSession_over hdir hstore hk hj hover haccounts hcall hw hwf htest dst
  have huc : u.chg = v.chg := by rw [huf]
  refine ⟨u, hu, ?_, hsession, ⟨?_, ?_⟩, ?_⟩
  · rw [hwpsm, hwceu, hwgen, ← huc] at huf
    refine huf.trans ?_
    rw [hvf]
  · rw [huc, hvf]
  · rw [State.account, huc, hvf]
    exact Tab.getD_set_self ..
  · have haddr : v.destAddr k = s.destAddr k ∧ v.jobAddr t.job = s.jobAddr t.job := by rw [hvf]; exact ⟨rfl, rfl⟩
    rw [haddr.1, haddr.2] at hwm
    exact ((hvm.trans hwm).trans hum).of_subset (by simp)

/-- An unanswered session once its destination has been given up. -/
theorem destSessionEnd_released (ht : s.dest? k = some t) (hjob : s.job? t.job = some j)
    (hc : Tab.get? s.chg.calls n.val = some c) (ha : c.answered = false) (hsent : t.state ≠ .sent)
    (hover : t.cancelMark = true ∨ cause = .cancelled ∨ cause = .notFax
      ∨ (cause.counts = true ∧ s.dju.maxAttempts ≤ t.tries cause))
    (hd : s.SoundFrom j.doc d t.confirmed) :
    ∃ v w ps, occasion (endCall n cause s) = v ∧ destSessionEnd k cause v = w ∧ CallOver s v n k t
      ∧ v = { s with
          dju := { s.dju with passDue := true }
          chg := { s.chg with
            logReserved := s.chg.logReserved - 1
            accounts := Tab.set s.chg.accounts c.account ((s.account c.account).freed c.reservation)
            calls := Tab.erase s.chg.calls n.val }
          dram := v.dram }
      ∧ w = { v with
          psm := { s.psm with pages := ps }
          dju := { v.dju with
            dests := Tab.set v.dju.dests k { t with
              state := t.endState cause, attempts := t.tries cause, lastCause := some cause, cancelMark := false }
            jobs := Tab.set v.dju.jobs t.job (Job.count (t.endState cause) { j with sessions := j.sessions - 1 }) }
          ceu := (postTagged .destDone .destination k j.tag (t.endState cause).doneCode t.confirmed s).ceu, dram := w.dram }
      ∧ (∀ p, Tab.get? ps p = if some p ∈ d.places.drop t.confirmed then (s.page? p).map PageRec.unheld else s.page? p)
      ∧ unchangedOutside ([(s.por (0x38000 + 64 * c.account), 64), (s.destAddr k, 64), (s.jobAddr t.job, 128)] ++ s.eventSpans
          ++ ((d.places.drop t.confirmed).filterMap id).map fun p => (s.pageAddr p, 64)) s.dram w.dram := by
  obtain ⟨v, hcall, hv, hvf, hvm⟩ := callOver_of_unanswered cause ht hc ha
  have hvj : v.job? t.job = some j := by rw [hvf]; exact hjob
  have hvd : v.SoundFrom j.doc d t.confirmed := by rw [hvf]; exact hd
  have hmax : v.dju.maxAttempts = s.dju.maxAttempts := by rw [hvf]
  obtain ⟨ps, m, hw, hget, hm⟩ := destSessionEnd_of_givenUp hv.dest hvj hsent (by rw [hmax]; exact hover) hvd
  obtain ⟨w, hwdef⟩ : ∃ w, destSessionEnd k cause v = w := ⟨_, rfl⟩
  rw [hwdef] at hw
  have hpsm : v.psm = s.psm := by rw [hvf]
  have hpage (p : Nat) : v.page? p = s.page? p := by rw [hvf]; rfl
  have hceu := postTagged_ceu_congr (s := s) (t := v) (by rw [hvf]) (by rw [hvf]) (by rw [hvf]) .destDone .destination k j.tag
    (t.endState cause).doneCode t.confirmed
  have hspans : v.eventSpans = s.eventSpans := eventSpans_congr (by rw [hvf]) (by rw [hvf])
  have haddr : v.destAddr k = s.destAddr k ∧ v.jobAddr t.job = s.jobAddr t.job ∧ ∀ p, v.pageAddr p = s.pageAddr p := by
    rw [hvf]
    exact ⟨rfl, rfl, fun _ => rfl⟩
  rw [hpsm, hceu] at hw
  have hwm : w.dram = m := by rw [hw]
  simp only [hspans, haddr, ← hwm] at hm
  refine ⟨v, w, ps, hcall, hwdef, hv, hvf, ?_, fun p => by rw [hget p, hpage p], (hvm.trans hm).of_subset ?_⟩
  · rw [hwm]
    exact hw
  · simp

end

/-! ## Answered sessions -/

section

variable {s v : State} {n : Line} {cause : Cause} {k gen : Nat} {t t' : Dest} {j : Job} {c : CallRec}

/-- How the destination of an answered session stands after it, the generator having gone to `gen`: one that is SENT takes the
cause, one with attempts left waits. -/
def SettledDest (s : State) (cause : Cause) (t t' : Dest) (gen : Nat) : Prop :=
  (t.state = .sent ∧ gen = s.dju.gen ∧ t' = { t with lastCause := some cause, logSeq := some s.chg.logNext })
    ∨ (t.state ≠ .sent ∧ t.cancelMark = false ∧ cause.counts = true ∧ cause ≠ .notFax ∧ t.tries cause < s.dju.maxAttempts
        ∧ gen = nextGen s.dju.gen
        ∧ t' = { t with
            state := .retryWait, attempts := t.tries cause, lastCause := some cause, logSeq := some s.chg.logNext
            nextTry := (s.chg.seconds : Int) + (retryWait s.dju.baseWait (t.tries cause) (gen % s.dju.baseWait) : Nat) })

theorem SettledDest.endsDest (h : SettledDest s cause t t' gen) (hv : CallOver s v n k { t with logSeq := some s.chg.logNext })
    (hsec : v.chg.seconds = s.chg.seconds) (hjob : s.job? t.job = some j) :
    EndsDest k t' { j with sessions := j.sessions - 1 } gen v (destSessionEnd k cause v) := by
  have hvj : v.job? t.job = some j := by rw [hv.frame]; exact hjob
  have hdju : v.dju.gen = s.dju.gen ∧ v.dju.baseWait = s.dju.baseWait ∧ v.dju.maxAttempts = s.dju.maxAttempts := by
    rw [hv.frame]
    exact ⟨rfl, rfl, rfl⟩
  obtain ⟨hgen, hbase, hmax⟩ := hdju
  obtain ⟨hsent, rfl, rfl⟩ | ⟨hsent, hmark, hcounts, hfax, hless, hg, rfl⟩ := h
  · rw [destSessionEnd_of_sent hv.dest hvj hsent, ← hgen]
    exact (setsDest_putDest k _ _).endsDest rfl
  · have hend := destSessionEnd_of_retry hv.dest hvj hsent hmark hcounts hfax (by rw [hmax]; exact hless)
    rw [hgen, hbase, hsec, ← hg] at hend
    exact hend

theorem SettledDest.job (h : SettledDest s cause t t' gen) : t'.job = t.job := by
  obtain ⟨-, -, rfl⟩ | ⟨-, -, -, -, -, -, rfl⟩ := h <;> rfl

/-- What is written behind the log keeps the log's bytes. -/
theorem log_kept {m m' : Mem} (hmap : s.mapPassed = true) (hacc : c.account < 64) (hk : k < 1024) {i : Nat} (hi : i < 64)
    (h : unchangedOutside (s.settledSpans c k ++ [(s.destAddr k, 64), (s.jobAddr i, 128), (s.por (0x80 + 256 * n.val), 256)]) m m')
    {a : Nat} (ha : (s.por 0x34800 ≤ a ∧ a < s.por 0x34808) ∨ (s.por 0x39000 ≤ a ∧ a < s.por 0x79000)) :
    Mem.get m' a = Mem.get m a := by
  have hn := n.isLt
  obtain ⟨-, -, -, hapart⟩ := Anchor.passed_regions (State.cfg_passed hmap)
  have hsize := Anchor.passed_porSize (State.cfg_passed hmap)
  refine h a ?_
  simp only [State.por] at ha
  simp only [State.settledSpans, State.ringSpans, State.destAddr, State.jobAddr, State.por, List.cons_append, List.nil_append,
    List.forall_mem_cons, within_eq_false_iff]
  exact ⟨by omega, by omega, by omega, by omega, by omega, by omega, by omega, List.forall_mem_nil _⟩

/-- An answered session once its call has been settled and its destination has moved. -/
theorem destSessionEnd_settled (hk : (s.line n).dest = some k) (ht : s.dest? k = some t) (hjob : s.job? t.job = some j)
    (hc : Tab.get? s.chg.calls n.val = some c) (ha : c.answered = true) (htail : s.tailIn) (hdest : SettledDest s cause t t' gen) :
    ∃ v w m₁, occasion (endCall n cause s) = v ∧ destSessionEnd k cause v = w
      ∧ CallOver s v n k { t with logSeq := some s.chg.logNext }
      ∧ v.chg = { s.chg with
          accounts := v.chg.accounts, calls := v.chg.calls, logInUse := s.chg.logInUse + 1, logNext := seqNext s.chg.logNext
          logReserved := s.chg.logReserved - 1, nearArmed := s.chg.nearArmed && !s.nearsFull }
      ∧ v.account c.account = { (s.account c.account).charged c with armed := ((s.account c.account).charged c).hasSome }
      ∧ (∀ x, x ≠ c.account → v.account x = s.account x)
      ∧ w = { v with
          psm := s.psm
          dju := { v.dju with
            dests := Tab.set v.dju.dests k t', jobs := Tab.set v.dju.jobs t.job { j with sessions := j.sessions - 1 }, gen := gen }
          ceu := (s.settledTold c cause).ceu, dram := w.dram }
      ∧ Mem.bytes m₁ (s.por (0x39000 + 64 * s.logSlot)) 64 = logRecordBytes s.chg.logNext n c cause
      ∧ Mem.num m₁ (s.por 0x34800) 2 = s.chg.logOldest % 65536
      ∧ unchangedOutside [(s.por (0x39000 + 64 * s.logSlot), 64), (s.por 0x34800, 8)] s.dram m₁
      ∧ unchangedOutside (s.settledSpans c k ++ [(s.destAddr k, 64), (s.jobAddr t.job, 128)]) m₁ w.dram := by
  obtain ⟨as, m₁, m, hcall, hself, hother, hrec, hold, hm₁, hm⟩ := endCall_settles (cause := cause) hc ha hk ht htail
  obtain ⟨v, hv⟩ : ∃ v, occasion (endCall n cause s) = v := ⟨_, rfl⟩
  have hvf := hv.symm.trans hcall
  have hover : CallOver s v n k { t with logSeq := some s.chg.logNext } := by
    rw [hvf]
    exact ⟨rfl, Tab.get?_set_self .., fun x hx => Tab.get?_set_of_ne _ _ hx, fun h => Tab.rising_set h _ _, rfl⟩
  have hends := hdest.endsDest hover (by rw [hvf]) hjob
  obtain ⟨w, hw⟩ : ∃ w, destSessionEnd k cause v = w := ⟨_, rfl⟩
  rw [hw] at hends
  obtain ⟨hwf, hwpsm, hwceu, hwgen, hwm⟩ := hends.frame
  have haddr : v.destAddr k = s.destAddr k ∧ v.jobAddr t.job = s.jobAddr t.job ∧ v.dram = m ∧ v.psm = s.psm
      ∧ v.ceu = (s.settledTold c cause).ceu := by
    rw [hvf]
    exact ⟨rfl, rfl, rfl, rfl, rfl⟩
  obtain ⟨hdestAddr, hjobAddr, hdram, hpsm, hceu⟩ := haddr
  rw [hdest.job] at hwf hwm
  rw [hdestAddr, hjobAddr, hdram] at hwm
  rw [hwpsm, hwceu, hwgen, hpsm, hceu] at hwf
  refine ⟨v, w, m₁, hv, hw, hover, ?_, ?_, fun x hx => ?_, hwf, hrec, hold, hm₁, hm.trans hwm⟩
  · rw [hvf]
  · rw [State.account, hvf]
    exact hself
  · rw [State.account, hvf]
    exact hother x hx

/-- The end of an answered session whose job goes on. -/
theorem endSession_settles (hdir : (s.line n).dir = some .outbound) (hstore : (s.line n).storing = none)
    (hk : (s.line n).dest = some k) (hj : (s.line n).job = some t.job) (ht : s.dest? k = some t) (hjob : s.job? t.job = some j)
    (hc : Tab.get? s.chg.calls n.val = some c) (ha : c.answered = true) (hmap : s.mapPassed = true) (htail : s.tailIn)
    (hacc : c.account < 64) (hk1024 : k < 1024) (hj64 : t.job < 64) (hdest : SettledDest s cause t t' gen)
    (hmore : 1 < j.sessions ∨ t.state ≠ .sent) (dst : LineState) :
    ∃ u, endSession n cause dst s = u
      ∧ SessionOver s u n cause dst k t' t.job { j with sessions := j.sessions - 1 } c.account
      ∧ u = { s with
          lne := { s.lne with lines := u.lne.lines }, ceu := (s.settledTold c cause).ceu, dram := u.dram
          dju := { s.dju with dests := u.dju.dests, jobs := u.dju.jobs, gen := gen, passDue := true }
          chg := { s.chg with
            accounts := u.chg.accounts, calls := u.chg.calls, logInUse := s.chg.logInUse + 1, logNext := seqNext s.chg.logNext
            logReserved := s.chg.logReserved - 1, nearArmed := s.chg.nearArmed && !s.nearsFull } }
      ∧ u.account c.account = { (s.account c.account).charged c with armed := ((s.account c.account).charged c).hasSome }
      ∧ Mem.bytes u.dram (s.por (0x39000 + 64 * s.logSlot)) 64 = logRecordBytes s.chg.logNext n c cause
      ∧ Mem.num u.dram (s.por 0x34800) 2 = s.chg.logOldest % 65536
      ∧ unchangedOutside ([(s.por (0x39000 + 64 * s.logSlot), 64), (s.por 0x34800, 8)] ++ (s.settledSpans c k
          ++ [(s.destAddr k, 64), (s.jobAddr t.job, 128), (s.por (0x80 + 256 * n.val), 256)])) s.dram u.dram := by
  obtain ⟨v, w, m₁, hv, hw, hover, hchg, hself, hother, hwf, hrec, hold, hm₁, hm⟩ :=
    destSessionEnd_settled hk ht hjob hc ha htail hdest
  have hwpsm : w.psm = s.psm := by rw [hwf]
  have hwceu : w.ceu = (s.settledTold c cause).ceu := by rw [hwf]
  have hwgen : w.dju.gen = gen := by rw [hwf]
  have hwj : w.job? t.job = some { j with sessions := j.sessions - 1 } := by rw [hwf]; exact Tab.get?_set_self ..
  have hwt : w.dest? k = some t' := by rw [hwf]; exact Tab.get?_set_self ..
  have htest : testJob t.job w = w := by
    by_cases hsent : t.state = .sent
    · exact testJob_of_session hwj (show j.sessions - 1 ≠ 0 by have := hmore.resolve_right (not_not.2 hsent); omega)
    · obtain ⟨h, -⟩ | ⟨-, -, -, -, -, -, rfl⟩ := hdest
      · exact absurd h hsent
      · exact testJob_of_open hwt rfl rfl
  obtain ⟨u, hu, huf, hsession, hum⟩ := endSession_over hdir hstore hk hj hover hother hv hw
    (by
      rw [hwpsm, hwceu, hwgen]
      exact hwf) htest dst
  have huc : u.chg = v.chg := by rw [huf]
  have hbehind : unchangedOutside (s.settledSpans c k ++ [(s.destAddr k, 64), (s.jobAddr t.job, 128),
      (s.por (0x80 + 256 * n.val), 256)]) m₁ u.dram := (hm.trans hum).of_subset (by simp)
  have hslot : s.logSlot < 4096 := Nat.mod_lt _ (by decide)
  refine ⟨u, hu, hsession, ?_, ?_, ?_, ?_, hm₁.trans hbehind⟩
  · rw [hwpsm, hwceu, hwgen] at huf
    rw [huc, ← hchg]
    exact huf
  · rw [State.account, huc]
    exact hself
  · rw [← hrec]
    refine Mem.bytes_congr fun i hlo hhi => log_kept hmap hacc hk1024 hj64 hbehind (.inr ?_)
    simp only [State.por] at hlo hhi ⊢
    omega
  · rw [← hold]
    refine Mem.num_congr fun i hlo hhi => log_kept hmap hacc hk1024 hj64 hbehind (.inl ?_)
    simp only [State.por] at hlo hhi ⊢
    omega

end

/-- A given-up destination counts as failed or as cancelled. -/
theorem Job.count_endState (t : Dest) (cause : Cause) (j : Job) : Job.count (t.endState cause) j
    = { j with failed := if t.endState cause = .failed then j.failed + 1 else j.failed,
               cancelled := if t.endState cause = .failed then j.cancelled else j.cancelled + 1 } := by
  unfold Dest.endState
  split <;> rfl

theorem Dest.endState_doneCode (t : Dest) (cause : Cause) :
    (t.endState cause).doneCode = if t.endState cause = .failed then 1 else 2 := by
  unfold Dest.endState
  split <;> rfl

theorem Dest.endState_isFinal (t : Dest) (cause : Cause) (r : Dest) (h : r.state = t.endState cause) : r.isFinal = true := by
  unfold Dest.endState at h
  split at h <;> (unfold Dest.isFinal; rw [h]; rfl)

/-- A page that some destinations give up. -/
theorem unheld_eq (o : Option PageRec) (P : Prop) [Decidable P] : (if P then o.map PageRec.unheld else o)
    = o.map fun r => if P then { r with sendHolds := r.sendHolds - 1 } else r := by
  by_cases h : P
  · simp only [if_pos h]
    rfl
  · simp only [if_neg h, Option.map_id']

/-- The spans of a line, a destination, a job and an account, of an event, and of pages, in the order of the statement. -/
theorem spans_shuffle (a b c x y z : Nat × Nat) (l : List (Nat × Nat)) :
    ([a, b, c] ++ [x, y] ++ l) ++ [z] ⊆ [z, b, c, a] ++ x :: y :: l := by
  intro e he
  simp only [List.mem_append, List.mem_cons, List.not_mem_nil, or_false] at he ⊢
  tauto

theorem settled_shuffle (a b c d e f g h : Nat × Nat) :
    [a, b] ++ (([c, d] ++ [e, f]) ++ [d, g, h]) ⊆ [h, d, g, c] ++ [a, b, e, f] := by
  simp

/-- What has been told as a call is settled leaves the region and the time. -/
theorem settledTold_toldAs (s : State) (c : CallRec) (cause : Cause) : s.ToldAs { s.settledTold c cause with ceu := s.ceu } := by
  have hcharge : s.ToldAs { s.chargeTold cause with ceu := s.ceu } := post_toldAs (nearTold_toldAs s) ..
  unfold State.settledTold
  split
  · exact post_toldAs hcharge ..
  · exact hcharge

/-- The last session of a job ends: destination `k` with the record `r`, which is final, and the job with the counts of `q`, about
which `told` has posted the events so far. -/
theorem endSession_closesJob {s v w told : State} {n : Line} {cause : Cause} {k job : Nat} {t r : Dest} {j q : Job}
    (hdir : (s.line n).dir = some .outbound) (hstore : (s.line n).storing = none) (hk : (s.line n).dest = some k)
    (hj : (s.line n).job = some job) (ht : s.dest? k = some t) (htj : t.job = job)
    (hcall : occasion (endCall n cause s) = v) (hw : destSessionEnd k cause v = w)
    (hlast : s.ordered = true ∧ j.sessions ≤ 1 ∧ ∀ x q, s.dest? x = some q → q.job = job → x ≠ k → q.isFinal = true)
    (hrising : Tab.rising s.dju.dests = true → Tab.rising w.dju.dests = true)
    (hwd : ∀ x, w.dest? x = if x = k then some r else s.dest? x) (hrj : r.job = job) (hrf : r.isFinal = true)
    (hwj : ∀ x, w.job? x = if x = job then some { q with sessions := j.sessions - 1 } else s.job? x)
    (hq : q.doc = j.doc ∧ q.autoDelete = j.autoDelete ∧ q.tag = j.tag ∧ q.state = j.state)
    (hdocs : w.dju.docs = s.dju.docs) (hlne : w.lne = s.lne) (hcalls : w.chg.calls = Tab.erase s.chg.calls n.val)
    (htold : told.ToldAs w) (dst : LineState) :
    (endSession n cause dst s).job? job = none
      ∧ (∀ x q, s.dest? x = some q → q.job = job → (endSession n cause dst s).dest? x = none)
      ∧ (endSession n cause dst s).line n = { LineRec.default with state := dst, cause := some cause }
      ∧ Tab.get? (endSession n cause dst s).chg.calls n.val = none
      ∧ ∀ d, s.doc? j.doc = some d →
        (j.autoDelete = true → d.state ≠ .deleting → (endSession n cause dst s).goes j.doc)
        ∧ (j.autoDelete = false → d.state ≠ .deleting →
          (endSession n cause dst s).ceu = (postTagged .jobDone .job job j.tag (if j.state = .cancelled then 2 else 0)
            (q.sent + 256 * q.failed + 65536 * q.cancelled) told).ceu
          ∧ (endSession n cause dst s).doc? j.doc = some { d with jobRefs := d.jobRefs - 1 }
          ∧ (∀ x, x ≠ j.doc → (endSession n cause dst s).doc? x = s.doc? x)
          ∧ (∀ x, x ≠ job → (endSession n cause dst s).job? x = s.job? x)
          ∧ (∀ m, m ≠ n → (endSession n cause dst s).line m = s.line m)
          ∧ ∀ x q, s.dest? x = some q → q.job ≠ job → (endSession n cause dst s).dest? x = some q) := by
  obtain ⟨hordered, hone, hrest⟩ := hlast
  obtain ⟨hqdoc, hqauto, hqtag, hqstate⟩ := hq
  have hline (m : Line) : w.line m = s.line m := by rw [State.line, hlne]; rfl
  have hdoc (x : Nat) : w.doc? x = s.doc? x := by rw [State.doc?, hdocs]; rfl
  have hfin (x : Nat) (r' : Dest) (hr' : w.dest? x = some r') (hj' : r'.job = job) : r'.isFinal = true := by
    rw [hwd] at hr'
    by_cases hx : x = k
    · rw [if_pos hx] at hr'
      rw [← Option.some.inj hr']
      exact hrf
    · rw [if_neg hx] at hr'
      exact hrest x r' hr' hj' hx
  obtain ⟨u, hu, huj, hud, hul, huc, hdone⟩ := endSession_of_lastOne hdir hk hj hcall hw (by rw [hline]; exact hstore)
    ((hwj job).trans (if_pos rfl)) (show j.sessions - 1 = 0 by omega) (hrising (s.ordered_iff.1 hordered).2.2.2.1) hfin
    (by rw [hcalls, Tab.get?_erase, if_pos rfl]) dst
  subst hu
  refine ⟨huj, fun x r' hr' hj' => ?_, hul, huc, fun d hd => ?_⟩
  · by_cases hx : x = k
    · exact hud x r ((hwd x).trans (if_pos hx)) hrj
    · exact hud x r' ((hwd x).trans ((if_neg hx).trans hr')) hj'
  · dsimp only at hdone
    rw [hqdoc] at hdone
    obtain ⟨hgoes, hstays⟩ := forall_and.1 (fun hdel => hdone d ((hdoc j.doc).trans hd) hdel)
    refine ⟨fun ha hdel => hgoes hdel (hqauto.trans ha), fun ha hdel => ?_⟩
    obtain ⟨hceu, hself, hother, hjobs, hlines, hdests⟩ := hstays hdel (hqauto.trans ha)
    refine ⟨?_, hself, fun x hx => (hother x hx).trans (hdoc x), fun x hx => (hjobs x hx).trans ((hwj x).trans (if_neg hx)),
      fun m hm => (hlines m hm).trans (hline m), fun x r' hr' hj' => ?_⟩
    · rw [hceu, hqtag, hqstate, JobState.doneCode_eq]
      exact postTagged_ceu_congr htold.1 htold.2.1 htold.2.2 ..
    · have hx : x ≠ k := fun e => by
        rw [e, ht] at hr'
        exact hj' (by rw [← Option.some.inj hr', htj])
      exact hdests x r' ((hwd x).trans ((if_neg hx).trans hr')) hj'

/-- Settles O60: the rows and the grace end a session by endSession, and what that does to an outbound session. -/
theorem callEnds : Obligations.CallEnds := by
  unfold Obligations.CallEnds
  refine ⟨fun n c cause dst s h => exec_of_endsSession h, fun n cause s hs hbefore => endAllSessions_first hs hbefore,
    fun s hg => by rw [exec_graceExpiry, if_pos hg], fun n cause dst s k t j c hdir hstore hk hj ht hjob hc => ?_⟩
  intro u a freed covers counts tries spans others ended released lastOne closes
  have hcounts : counts = cause.counts := Cause.counts_eq cause
  have htries : tries = t.tries cause := by
    show (if counts = true then _ else _) = _
    rw [hcounts]
    rfl
  have hended {x : State} {r : Dest} {q : Job} (h : SessionOver s x n cause dst k r t.job q c.account) : ended x :=
    ⟨h.line, h.call, h.lines, h.dests, h.jobs, h.accounts, h.calls⟩
  refine ⟨fun ha hsent hmark => ⟨fun hseize => ?_, fun hcount hfax hless => ?_⟩,
    fun st d ha hsent hst hgiven hd hkeep hnodup hown => ?_, fun t' gen ha hmap htail hacc hk1024 hj64 hcases => ?_,
    fun ha hsent hscan => ?_⟩
  · subst hseize
    obtain ⟨x, hx, hxf, hover, hrel, hm⟩ := endSession_tries (j := j) hdir hstore hk hj ht hc ha
      (r := { t with state := .pending, lastCause := some .seizeLost }) rfl rfl
      (fun v hvt hvj hvd _ => by
        have h := destSessionEnd_of_seizeLost hvt (hvj.trans hjob) hsent hmark
        rw [hvd] at h
        exact h) dst
    obtain rfl : u = x := hx
    exact ⟨hended hover, hrel, hxf, hover.dest, hover.job, hm⟩
  · intro gen wait
    rw [hcounts] at hcount
    rw [htries] at hless
    obtain ⟨x, hx, hxf, hover, hrel, hm⟩ := endSession_tries (j := j) (gen := gen) hdir hstore hk hj ht hc ha
      (r := { t with state := .retryWait, attempts := tries, lastCause := some cause, nextTry := (s.chg.seconds : Int) + wait })
      rfl rfl
      (fun v hvt hvj hvd hvs => by
        have h := destSessionEnd_of_retry hvt (hvj.trans hjob) hsent hmark hcount hfax (by rw [hvd]; exact hless)
        rw [hvd, hvs, ← htries] at h
        exact h) dst
    obtain rfl : u = x := hx
    exact ⟨hended hover, hrel, hxf, hover.dest, hover.job, hm⟩
  · intro counted told
    have hste : st = t.endState cause := hst
    have hcounted : counted = Job.count (t.endState cause) { j with sessions := j.sessions - 1 } := by
      rw [Job.count_endState, ← hste]
    have htold : told = postTagged .destDone .destination k j.tag (t.endState cause).doneCode t.confirmed s := by
      rw [Dest.endState_doneCode, ← hste]
    have hgone : t.cancelMark = true ∨ cause = .cancelled ∨ cause = .notFax
        ∨ (cause.counts = true ∧ s.dju.maxAttempts ≤ t.tries cause) := by
      rw [← hcounts, ← htries]
      exact hgiven
    obtain ⟨v, w, ps, hcall, hw, hv, hvf, hwf, hget, hm⟩ := destSessionEnd_released ht hjob hc ha hsent hgone ⟨hd, hkeep, hnodup, hown⟩
    rw [← hcounted, ← htold] at hwf
    have hwj : w.job? t.job = some counted := by rw [hwf]; exact Tab.get?_set_self ..
    refine ⟨fun hmore => ?_, fun hlast => ?_⟩
    · have hwgen : w.dju.gen = s.dju.gen := by rw [hwf, hvf]
      have hwpsm : w.psm = { s.psm with pages := ps } := by rw [hwf]
      have hwceu : w.ceu = told.ceu := by rw [hwf]
      have haccounts (x : Nat) (hx : x ≠ c.account) : v.account x = s.account x := by
        rw [hvf]
        exact Tab.getD_set_of_ne _ _ _ hx
      have htest : testJob t.job w = w := testJob_of_session hwj (show j.sessions - 1 ≠ 0 by omega)
      obtain ⟨x, hx, hxf, hover, hxm⟩ := endSession_over hdir hstore hk hj hv haccounts hcall hw
        (by
          rw [hwpsm, hwceu, hwgen, show s.dju.gen = v.dju.gen by rw [hvf]]
          exact hwf) htest dst
      obtain rfl : u = x := hx
      have huc : u.chg = v.chg := by rw [hxf]
      have hup : u.psm = { s.psm with pages := ps } := by rw [hxf, hwpsm]
      rw [hwpsm, hwceu, hwgen] at hxf
      refine ⟨hended hover, ⟨?_, ?_⟩, ?_, ?_, hover.job, fun p => ?_, ?_⟩
      · rw [huc, hvf]
      · rw [State.account, huc, hvf]
        exact Tab.getD_set_self ..
      · rw [huc, hup]
        exact hxf
      · rw [hover.dest, ← hste, ← htries]
      · rw [State.page?, hup]
        exact (hget p).trans (unheld_eq _ _)
      · exact (hm.trans hxm).of_subset (spans_shuffle ..)
    · refine endSession_closesJob (told := told) (q := counted) (r := { t with
          state := t.endState cause, attempts := t.tries cause, lastCause := some cause, cancelMark := false })
        hdir hstore hk hj ht rfl hcall hw hlast ?_ (fun x => ?_) rfl (Dest.endState_isFinal t cause _ rfl) (fun x => ?_) ⟨rfl, rfl, rfl, rfl⟩ (by rw [hwf, hvf]) (by rw [hwf, hvf])
        (by rw [hwf, hvf]) ?_ dst
      · rw [hwf, hvf]
        exact fun h => Tab.rising_set h _ _
      · rw [hwf, hvf]
        exact Tab.get?_set ..
      · rw [hwf, hvf]
        exact Tab.get?_set ..
      · obtain ⟨e, m', hpost, -⟩ := postTagged_frame .destDone .destination k j.tag (t.endState cause).doneCode t.confirmed s
        rw [← htold] at hpost
        exact ⟨by rw [hwf, hvf, hpost], by rw [hwf], by rw [hwf, hvf, hpost]⟩
  · intro seq slot rate count charge a' near s1 s2 s3
    have hdest : SettledDest s cause t t' gen := by
      unfold SettledDest
      rw [← htries, ← hcounts]
      exact hcases
    refine ⟨fun hmore => ?_, fun hlast hsent => ?_⟩
    · obtain ⟨x, hx, hover, hxf, hxa, hrec, hold, hm⟩ := endSession_settles hdir hstore hk hj ht hjob hc ha hmap htail hacc hk1024 hj64
        hdest hmore dst
      obtain rfl : u = x := hx
      exact ⟨hended hover, hxf, hxa, hover.dest, hover.job, hrec, hold, hm.of_subset (settled_shuffle ..)⟩
    · have ht'sent : t'.state = .sent := by
        obtain ⟨-, -, rfl⟩ | ⟨h, -⟩ := hdest
        · exact hsent
        · exact absurd hsent h
      obtain ⟨v, w, -, hcall, hw, hv, hchg, -, -, hwf, -⟩ := destSessionEnd_settled hk ht hjob hc ha htail hdest
      obtain ⟨hr, -, hs⟩ := settledTold_toldAs s c cause
      refine endSession_closesJob (told := s3) (r := t') (q := j) hdir hstore hk hj ht rfl hcall hw hlast ?_ (fun x => ?_) hdest.job
        (by rw [Dest.isFinal, ht'sent]; rfl) (fun x => ?_) ⟨rfl, rfl, rfl, rfl⟩ (by rw [hwf, hv.frame]) (by rw [hwf, hv.frame])
        (by rw [hwf]; exact hv.calls) ⟨?_, ?_, ?_⟩ dst
      · rw [hwf]
        exact fun h => Tab.rising_set (hv.rising h) _ _
      · rw [hwf]
        exact (Tab.get?_set ..).trans (ite_congr rfl (fun _ => rfl) fun hx => hv.dests x hx)
      · rw [hwf, hv.frame]
        exact Tab.get?_set ..
      · rw [hwf, hv.frame]
        exact hr.symm
      · rw [hwf]
        rfl
      · rw [hwf]
        refine Eq.trans ?_ hs.symm
        show v.chg.seconds = s.chg.seconds
        rw [hchg]
  · intro v
    have h := endSession_settled_alike hdir hk hj ht hjob hc ha hscan dst (cause := cause)
    refine ⟨fun x => ?_, ?_, ?_, ?_, h.psm, ?_, ?_⟩
    · exact h.dest? x
    · exact h.jobs
    · rw [h.dju]
    · rw [h.dju]
    · exact h.keptLines (by trivial)
    · exact h.keptSli (by trivial)

end Sys2Proof.Machine
end

section
/-! PROOFS. CANCEL_JOB and CANCEL_DESTINATION (R99, R100, R135): O30. -/

namespace Sys2Proof.Machine

set_option Elab.async false

/-! ## The request to end a session (R135) -/

/-- A session in this state ends at once when it is cancelled. -/
def LineState.endsAtOnce (st : LineState) : Bool :=
  [LineState.seizing, .dialling, .sending, .partialWait, .pageWait, .dataWait].contains st

/-- The record of a line whose session is cancelled. -/
def LineRec.cleared (l : LineRec) : LineRec :=
  { l with state := .clearing, cause := some .cancelled, timer := some .clearing, remaining := 100 }

theorem endRequested_spec (n : Line) (s : State) :
    ∃ u, endRequested n s = u
      ∧ u = { s with sli := u.sli, lne := { s.lne with lines := u.lne.lines }, dram := u.dram }
      ∧ ((s.line n).state ∈ [LineState.seizing, .dialling] → u.sli = (hand n .clear s).sli)
      ∧ ((s.line n).state ∈ [LineState.sending, .partialWait, .pageWait, .dataWait] →
          u.sli = (hand n .clear (hand n .abandon s)).sli)
      ∧ ((s.line n).state.endsAtOnce = false → u.sli = s.sli)
      ∧ u.line n = (if (s.line n).state.endsAtOnce then (s.line n).cleared else s.line n)
      ∧ (∀ m, m ≠ n → u.line m = s.line m) ∧ unchangedOutside [(s.por (0x80 + 256 * n.val), 256)] s.dram u.dram := by
  obtain ⟨c, hc, hcf, hcn, hco, hcm⟩ := clearLine_spec n .cancelled s
  obtain ⟨a, ha, haf, han, hao, ham⟩ := clearLine_spec n .cancelled (hand n .abandon s)
  have hspan : (hand n .abandon s).lineSpan n = (s.por (0x80 + 256 * n.val), 256) := by rw [hand_eq]; rfl
  have hdram : (hand n .abandon s).dram = s.dram := by rw [hand_eq]
  rw [hspan, hdram] at ham
  rw [line_hand] at han
  simp only [line_hand] at hao
  have hcsli : c.sli = (hand n .clear s).sli := by rw [hcf]
  have hasli : a.sli = (hand n .clear (hand n .abandon s)).sli := by rw [haf]
  have haf' : a = { s with sli := a.sli, lne := { s.lne with lines := a.lne.lines }, dram := a.dram } := by
    rw [hasli]
    refine haf.trans ?_
    rw [hand_eq n .abandon s]
  have hcf' : c = { s with sli := c.sli, lne := { s.lne with lines := c.lne.lines }, dram := c.dram } := by
    rw [hcsli]
    exact hcf
  unfold endRequested
  generalize hst : (s.line n).state = st
  cases st
  case seizing | dialling =>
    exact ⟨c, hc, hcf', fun _ => hcsli, fun h => by simp at h, (fun h => nomatch h), hcn, hco, hcm⟩
  case sending | partialWait | pageWait | dataWait =>
    exact ⟨a, ha, haf', fun h => by simp at h, fun _ => hasli, (fun h => nomatch h), han, hao, ham⟩
  all_goals
    exact ⟨s, rfl, rfl, fun h => by simp at h, fun h => by simp at h, fun _ => rfl, rfl, fun _ _ => rfl, unchangedOutside_refl _ _⟩

/-! ## One destination (R99) -/

theorem unchangedOutside_putDest (k : Nat) (t : Dest) (s : State) :
    unchangedOutside [(s.destAddr k, 64)] s.dram (putDest k t s).dram := unchangedOutside_store (by simp)

section

variable {s : State} {k : Nat} {t : Dest}

theorem cancelDest_of_idle (ht : s.dest? k = some t) (hidle : t.isIdle = true) :
    cancelDest k s = destGivenUp k .cancelled (putDest k { t with lastCause := some .cancelled } s) := by
  rw [cancelDest, ht]
  exact if_pos hidle

theorem cancelDest_of_unheld (ht : s.dest? k = some t) (hidle : t.isIdle = false) (hnone : ∀ n, (s.line n).dest ≠ some k) :
    cancelDest k s = putDest k { t with cancelMark := true } s := by
  have hfind : (allLines.find? fun n => ((putDest k { t with cancelMark := true } s).line n).dest = some k) = none :=
    List.find?_eq_none.2 fun n _ h => hnone n (of_decide_eq_true h)
  rw [cancelDest, ht]
  dsimp only
  rw [if_neg (by rw [hidle]; exact Bool.false_ne_true), hfind]

theorem cancelDest_of_held (ht : s.dest? k = some t) (hidle : t.isIdle = false) {n : Line}
    (hn : ∀ m, (s.line m).dest = some k ↔ m = n) :
    cancelDest k s = endRequested n (putDest k { t with cancelMark := true } s) := by
  have hfind : (allLines.find? fun n => ((putDest k { t with cancelMark := true } s).line n).dest = some k) = some n := by
    cases hf : allLines.find? fun n => ((putDest k { t with cancelMark := true } s).line n).dest = some k with
    | none => exact absurd (decide_eq_true ((hn n).2 rfl)) (List.find?_eq_none.1 hf n (mem_allLines n))
    | some m =>
      have hm := List.find?_some hf
      exact congrArg some ((hn m).1 (of_decide_eq_true hm))
  rw [cancelDest, ht]
  dsimp only
  rw [if_neg (by rw [hidle]; exact Bool.false_ne_true), hfind]

end

/-! ## The destinations of a job in turn -/

/-- A destination's turn in CANCEL_JOB. -/
def cancelStep (s : State) (k : Nat) : State :=
  match s.dest? k with
  | none => s
  | some t => if t.isFinal then s else cancelDest k s

/-- The record of a destination that CANCEL_JOB has met. -/
def Dest.cancelled (t : Dest) : Dest :=
  if t.isFinal = true then t
  else if t.isIdle then { t with state := .cancelled, lastCause := some .cancelled, cancelMark := false }
  else { t with cancelMark := true }

/-- The record of a line once the destinations `E` have been cancelled. -/
def LineRec.cancelledBy (E : Tab Dest) (l : LineRec) : LineRec :=
  if (E.any fun e => l.dest == some e.1 && !e.2.isFinal && !e.2.isIdle) && l.state.endsAtOnce then l.cleared else l

/-- The destinations that become CANCELLED at once. -/
def idleOnes (E : Tab Dest) : Tab Dest := E.filter fun e => e.2.isIdle

/-- DEST_DONE for each of them. -/
def toldCancelled (tag : Nat) (l : Tab Dest) (s : State) : State :=
  l.foldl (fun v e => postTagged .destDone .destination e.1 tag 2 e.2.confirmed v) s

theorem State.ToldAs.postTagged {a b : State} (h : a.ToldAs b) (kind : EventKind) (src : SourceKind) (idx tag code value : Nat) :
    State.ToldAs (postTagged kind src idx tag code value a) (Machine.postTagged kind src idx tag code value b) := by
  obtain ⟨hr, hc, hs⟩ := h
  obtain ⟨c, m, ha, -⟩ := postTagged_frame kind src idx tag code value a
  obtain ⟨c', m', hb, -⟩ := postTagged_frame kind src idx tag code value b
  exact ⟨by rw [ha, hb]; exact hr, postTagged_ceu_congr hr hc hs .., by rw [ha, hb]; exact hs⟩

theorem toldCancelled_toldAs (tag : Nat) (l : Tab Dest) {a b : State} (h : a.ToldAs b) :
    (toldCancelled tag l a).ToldAs (toldCancelled tag l b) := by
  induction l generalizing a b with
  | nil => exact h
  | cons e l ih => exact ih (h.postTagged ..)

theorem toldCancelled_core (tag : Nat) (l : Tab Dest) (a : State) :
    (toldCancelled tag l a).rgw = a.rgw ∧ (toldCancelled tag l a).chg.seconds = a.chg.seconds := by
  induction l generalizing a with
  | nil => exact ⟨rfl, rfl⟩
  | cons e l ih =>
    obtain ⟨c, m, ha, -⟩ := postTagged_frame .destDone .destination e.1 tag 2 e.2.confirmed a
    obtain ⟨hr, hs⟩ := ih (postTagged .destDone .destination e.1 tag 2 e.2.confirmed a)
    exact ⟨hr.trans (by rw [ha]), hs.trans (by rw [ha])⟩

/-- A page once the destinations `l` have given up the places of `d` that they had not confirmed. -/
def PageRec.givenUpBy (l : Tab Dest) (d : Doc) (p : Nat) (q : PageRec) : PageRec :=
  { q with sendHolds := q.sendHolds - (l.filter fun e => (d.places.drop e.2.confirmed).contains (some p)).length }

/-- `u` is `s` after the destinations `E` of job `j`, whose record was `r`, have been cancelled. -/
structure Cancels (s u : State) (j : Nat) (r : Job) (E : Tab Dest) : Prop where
  frame : u = { s with
    psm := u.psm, dju := { s.dju with docs := u.dju.docs, jobs := u.dju.jobs, dests := u.dju.dests }
    lne := { s.lne with lines := u.lne.lines }, sli := u.sli, ceu := u.ceu, dram := u.dram }
  job : u.job? j = some { r with cancelled := r.cancelled + (idleOnes E).length }
  jobs : ∀ x, x ≠ j → u.job? x = s.job? x
  dests : ∀ e ∈ E, u.dest? e.1 = some e.2.cancelled
  others : ∀ x, x ∉ E.map Prod.fst → u.dest? x = s.dest? x
  lines : ∀ m, u.line m = (s.line m).cancelledBy E
  sound : ∀ d, s.SoundFrom r.doc d 0 → u.dju.docs = s.dju.docs
    ∧ (∀ p, u.page? p = (s.page? p).map (PageRec.givenUpBy (idleOnes E) d p))
    ∧ u.ceu = (toldCancelled r.tag (idleOnes E) s).ceu

theorem Dest.isIdle_of_final {t : Dest} (h : t.isFinal = true) : t.isIdle = false := by
  cases hs : t.state <;> simp [Dest.isFinal, Dest.isIdle, hs] at h ⊢

theorem LineRec.cancelledBy_of_not {E : Tab Dest} {l : LineRec}
    (h : (E.any fun e => l.dest == some e.1 && !e.2.isFinal && !e.2.isIdle) = false) : l.cancelledBy E = l := by
  rw [LineRec.cancelledBy, h]
  rfl

theorem PageRec.givenUpBy_one {k : Nat} {t : Dest} (d : Doc) (p : Nat) (q : PageRec) : q.givenUpBy [(k, t)] d p
    = if (d.places.drop t.confirmed).contains (some p) = true then q.unheld else q := by
  unfold PageRec.givenUpBy
  rw [List.filter_cons]
  split <;> rfl

section

variable {s u v : State} {j : Nat} {r : Job} {k : Nat} {t : Dest}

/-- A final destination is passed over. -/
theorem cancels_final (hj : s.job? j = some r) (ht : s.dest? k = some t) (hf : t.isFinal = true) :
    Cancels s (cancelStep s k) j r [(k, t)] := by
  have hstep : cancelStep s k = s := by
    rw [cancelStep, ht]
    exact if_pos hf
  have hnone : idleOnes [(k, t)] = [] := by simp [idleOnes, Dest.isIdle_of_final hf]
  rw [hstep]
  refine ⟨rfl, by rw [hnone]; exact hj, fun _ _ => rfl, fun e he => ?_, fun _ _ => rfl, fun m => ?_, fun d _ => ⟨rfl, fun p => ?_, ?_⟩⟩
  · obtain rfl := List.mem_singleton.1 he
    rw [ht, Dest.cancelled, if_pos hf]
  · rw [LineRec.cancelledBy_of_not]
    simp [hf]
  · rw [hnone, show PageRec.givenUpBy [] d p = id from rfl, Option.map_id_fun]
    rfl
  · rw [hnone]
    rfl

/-- A destination that waits becomes CANCELLED. -/
theorem cancels_idle (hj : s.job? j = some r) (ht : s.dest? k = some t) (htj : t.job = j) (hidle : t.isIdle = true) :
    Cancels s (cancelDest k s) j r [(k, t)] := by
  have hf : t.isFinal = false := by
    cases h : t.isFinal with
    | false => rfl
    | true =>
      rw [Dest.isIdle_of_final h] at hidle
      cases hidle
  have hone : idleOnes [(k, t)] = [(k, t)] := by simp [idleOnes, hidle]
  have hcancelled : t.cancelled = { t with state := .cancelled, lastCause := some .cancelled, cancelMark := false } := by
    rw [Dest.cancelled, if_neg (by rw [hf]; exact Bool.false_ne_true), if_pos hidle]
  obtain ⟨v, hv⟩ : ∃ v, v = putDest k { t with lastCause := some .cancelled } s := ⟨_, rfl⟩
  have hvt : v.dest? k = some { t with lastCause := some .cancelled } := by
    rw [hv]
    exact Tab.get?_set_self ..
  have hvj : v.job? t.job = some r := by
    rw [hv, htj]
    exact hj
  rw [cancelDest_of_idle ht hidle, ← hv]
  obtain ⟨x, docs, c, m, hg⟩ := destGivenUp_frame hvt hvj .cancelled
  obtain ⟨u, hu⟩ : ∃ u, u = destGivenUp k .cancelled v := ⟨_, rfl⟩
  rw [← hu] at hg ⊢
  refine ⟨?_, ?_, fun x hx => ?_, fun e he => ?_, fun x hx => ?_, fun m => ?_, fun d hd => ?_⟩
  · rw [hg, hv]
    rfl
  · rw [hg, htj, hone]
    exact Tab.get?_set_self ..
  · rw [hg, htj, hv]
    exact Tab.get?_set_of_ne _ _ hx
  · obtain rfl := List.mem_singleton.1 he
    rw [hg, hcancelled]
    exact Tab.get?_set_self ..
  · have hxk : x ≠ k := fun e => hx (by rw [e]; exact List.mem_singleton_self _)
    rw [hg, hv]
    exact (Tab.get?_set_of_ne _ _ hxk).trans (Tab.get?_set_of_ne _ _ hxk)
  · rw [LineRec.cancelledBy_of_not (by simp [hidle]), hg, hv]
    rfl
  · have hvd : v.SoundFrom r.doc d t.confirmed := by
      obtain ⟨hdoc, hkeep, hnodup, hown⟩ := hd
      rw [hv]
      refine ⟨hdoc, hkeep, hnodup.sublist ((List.drop_sublist ..).filterMap id), fun p q hp => hown p q ?_⟩
      exact List.mem_of_mem_drop hp
    obtain ⟨ps, m', hs, hget, -⟩ := destGivenUp_of_sound (j := r) hvt hvj hvd .cancelled
    have hpages : u.psm.pages = ps := by rw [hu, hs]
    refine ⟨by rw [hu, hs, hv]; rfl, fun p => ?_, ?_⟩
    · rw [State.page?, hpages, hget, hone]
      have hpage : v.page? p = s.page? p := by rw [hv]; rfl
      by_cases hp : some p ∈ d.places.drop t.confirmed
      · rw [if_pos hp, hpage]
        refine congrArg (fun f => Option.map f (s.page? p)) (funext fun q => ?_)
        exact (PageRec.givenUpBy_one d p q).trans (if_pos (List.contains_iff_mem.2 hp)) |>.symm
      · rw [if_neg hp, hpage]
        have hid : PageRec.givenUpBy [(k, t)] d p = id := funext fun q =>
          (PageRec.givenUpBy_one d p q).trans (if_neg (mt List.contains_iff_mem.1 hp))
        rw [hid, Option.map_id_fun]
        rfl
    · rw [hone, hu, hs]
      exact postTagged_ceu_congr (by rw [hv]; rfl) (by rw [hv]; rfl) (by rw [hv]; rfl) ..

/-- What the cancelling of a destination that waits may change. -/
theorem cancelDest_frame_of_idle (ht : s.dest? k = some t) (hj : s.job? j = some r) (htj : t.job = j) (hidle : t.isIdle = true) :
    cancelDest k s = { s with
      psm := (cancelDest k s).psm, dju := (cancelDest k s).dju, ceu := (cancelDest k s).ceu, dram := (cancelDest k s).dram } := by
  obtain ⟨v, hv⟩ : ∃ v, v = putDest k { t with lastCause := some .cancelled } s := ⟨_, rfl⟩
  have hvt : v.dest? k = some { t with lastCause := some .cancelled } := by
    rw [hv]
    exact Tab.get?_set_self ..
  have hvj : v.job? t.job = some r := by
    rw [hv, htj]
    exact hj
  rw [cancelDest_of_idle ht hidle, ← hv]
  obtain ⟨x, docs, c, m, hg⟩ := destGivenUp_frame hvt hvj .cancelled
  rw [hg, hv]
  rfl

/-- With a kept document whose pages are its own, the cancelling of a destination that waits changes no more than this. -/
theorem cancelDest_of_sound (ht : s.dest? k = some t) (hj : s.job? j = some r) (htj : t.job = j) (hidle : t.isIdle = true)
    {d : Doc} (hd : s.SoundFrom r.doc d 0) :
    (cancelDest k s).psm = { s.psm with pages := (cancelDest k s).psm.pages }
      ∧ (cancelDest k s).dju = { s.dju with dests := (cancelDest k s).dju.dests, jobs := (cancelDest k s).dju.jobs }
      ∧ unchangedOutside ((s.destAddr k, 64) :: (s.jobAddr j, 128) :: (s.cfg.evBase + 64 + 16 * s.ceu.evTail, 16)
          :: (s.cfg.evBase + 4, 4) :: ((d.places.drop t.confirmed).filterMap id).map fun p => (s.pageAddr p, 64))
        s.dram (cancelDest k s).dram := by
  obtain ⟨v, hv⟩ : ∃ v, v = putDest k { t with lastCause := some .cancelled } s := ⟨_, rfl⟩
  have hvt : v.dest? k = some { t with lastCause := some .cancelled } := by
    rw [hv]
    exact Tab.get?_set_self ..
  have hvj : v.job? t.job = some r := by
    rw [hv, htj]
    exact hj
  obtain ⟨hdoc, hkeep, hnodup, hown⟩ := hd
  have hvd : v.SoundFrom r.doc d t.confirmed := by
    rw [hv]
    refine ⟨hdoc, hkeep, hnodup.sublist ((List.drop_sublist ..).filterMap id), fun p q hp => hown p q ?_⟩
    exact List.mem_of_mem_drop hp
  obtain ⟨ps, m, hs, -, hdram⟩ := destGivenUp_of_sound (j := r) hvt hvj hvd .cancelled
  have hput : unchangedOutside [(s.destAddr k, 64)] s.dram v.dram := by
    rw [hv]
    exact unchangedOutside_putDest k _ s
  have hspans : [(v.destAddr k, 64), (v.jobAddr t.job, 128)] ++ v.eventSpans
      ++ ((d.places.drop t.confirmed).filterMap id).map (fun p => (v.pageAddr p, 64))
      = (s.destAddr k, 64) :: (s.jobAddr j, 128) :: (s.cfg.evBase + 64 + 16 * s.ceu.evTail, 16)
          :: (s.cfg.evBase + 4, 4) :: ((d.places.drop t.confirmed).filterMap id).map fun p => (s.pageAddr p, 64) := by
    rw [hv, htj]
    rfl
  have hdram' : unchangedOutside _ v.dram m := hdram
  rw [hspans] at hdram'
  rw [cancelDest_of_idle ht hidle, ← hv, hs]
  refine ⟨?_, ?_, (hput.of_subset fun x hx => ?_).again hdram'⟩
  · rw [hv]
    rfl
  · rw [hv]
    rfl
  · rw [List.mem_singleton.1 hx]
    exact List.mem_cons_self ..

/-- A destination in session takes the cancel mark, and its line is asked to end the session. -/
theorem cancels_held (hj : s.job? j = some r) (ht : s.dest? k = some t) (hf : t.isFinal = false) (hidle : t.isIdle = false)
    {n : Line} (hn : ∀ m, (s.line m).dest = some k ↔ m = n) : Cancels s (cancelDest k s) j r [(k, t)] := by
  have hnone : idleOnes [(k, t)] = [] := by simp [idleOnes, hidle]
  have hcancelled : t.cancelled = { t with cancelMark := true } := by
    rw [Dest.cancelled, if_neg (by rw [hf]; exact Bool.false_ne_true), if_neg (by rw [hidle]; exact Bool.false_ne_true)]
  obtain ⟨v, hv⟩ : ∃ v, v = putDest k { t with cancelMark := true } s := ⟨_, rfl⟩
  rw [cancelDest_of_held ht hidle hn, ← hv]
  obtain ⟨u, hu, huf, -, -, -, hun, huo, -⟩ := endRequested_spec n v
  have hvl (m : Line) : v.line m = s.line m := by rw [hv]; rfl
  rw [hu]
  refine ⟨?_, by rw [hnone, huf, hv]; exact hj, fun x _ => by rw [huf, hv]; rfl, fun e he => ?_, fun x hx => ?_, fun m => ?_,
    fun d _ => ⟨by rw [huf, hv]; rfl, fun p => ?_, ?_⟩⟩
  · rw [huf, hv]
    rfl
  · obtain rfl := List.mem_singleton.1 he
    rw [huf, hv, hcancelled]
    exact Tab.get?_set_self ..
  · have hxk : x ≠ k := fun e => hx (by rw [e]; exact List.mem_singleton_self _)
    rw [huf, hv]
    exact Tab.get?_set_of_ne _ _ hxk
  · by_cases hm : m = n
    · subst hm
      rw [hun, hvl, LineRec.cancelledBy]
      simp [(hn m).2 rfl, hf, hidle]
    · rw [huo m hm, hvl, LineRec.cancelledBy_of_not]
      simp [mt (hn m).1 hm]
  · rw [hnone, show PageRec.givenUpBy [] d p = id from rfl, Option.map_id_fun, huf, hv]
    rfl
  · rw [hnone, huf, hv]
    rfl

/-- Destinations cancelled one after another. -/
theorem Cancels.append {E F : Tab Dest} (h : Cancels s u j r E)
    (h' : Cancels u v j { r with cancelled := r.cancelled + (idleOnes E).length } F)
    (hdisj : ∀ e ∈ E, e.1 ∉ F.map Prod.fst) : Cancels s v j r (E ++ F) := by
  have hidle : idleOnes (E ++ F) = idleOnes E ++ idleOnes F := List.filter_append ..
  refine ⟨?_, ?_, fun x hx => (h'.jobs x hx).trans (h.jobs x hx), fun e he => ?_, fun x hx => ?_, fun m => ?_, fun d hd => ?_⟩
  · refine h'.frame.trans ?_
    rw [h.frame]
  · rw [h'.job, hidle, List.length_append, ← Nat.add_assoc]
  · rcases List.mem_append.1 he with he | he
    · rw [h'.others e.1 (hdisj e he), h.dests e he]
    · exact h'.dests e he
  · rw [List.map_append, List.mem_append, not_or] at hx
    rw [h'.others x hx.2, h.others x hx.1]
  · rw [h'.lines, h.lines]
    unfold LineRec.cancelledBy
    rw [List.any_append]
    cases hE : E.any fun e => (s.line m).dest == some e.1 && !e.2.isFinal && !e.2.isIdle with
    | false => rw [Bool.false_and, if_neg Bool.false_ne_true, Bool.false_or]
    | true =>
      cases hat : (s.line m).state.endsAtOnce with
      | false => simp [hat]
      | true =>
        have hnot : (s.line m).cleared.state.endsAtOnce = false := rfl
        simp [hnot]
  · obtain ⟨hdocs, hpages, hceu⟩ := h.sound d hd
    have hdu : u.SoundFrom r.doc d 0 := by
      obtain ⟨hdoc, hkeep, hnodup, hown⟩ := hd
      refine ⟨?_, hkeep, hnodup, fun p q hp hq => ?_⟩
      · rw [State.doc?, hdocs]
        exact hdoc
      · rw [hpages] at hq
        obtain ⟨q', hq', rfl⟩ := Option.map_eq_some_iff.1 hq
        exact hown p q' hp hq'
    obtain ⟨hdocs', hpages', hceu'⟩ := h'.sound d hdu
    refine ⟨hdocs'.trans hdocs, fun p => ?_, ?_⟩
    · rw [hpages', hpages, Option.map_map, hidle]
      refine congrArg (fun f => Option.map f (s.page? p)) (funext fun q => ?_)
      simp only [Function.comp, PageRec.givenUpBy, List.filter_append, List.length_append, Nat.sub_sub]
    · have hu : (toldCancelled r.tag (idleOnes E) s).ToldAs u := by
        obtain ⟨h1, h2⟩ := toldCancelled_core r.tag (idleOnes E) s
        refine ⟨?_, hceu, ?_⟩
        · rw [h1, h.frame]
        · rw [h2, h.frame]
      rw [hceu', hidle, toldCancelled, toldCancelled, List.foldl_append]
      exact (toldCancelled_toldAs r.tag (idleOnes F) hu).2.1

/-- The destinations of a job in turn. -/
theorem cancels_all (E : Tab Dest) (s : State) (r : Job) (hj : s.job? j = some r) (hnodup : (E.map Prod.fst).Nodup)
    (hE : ∀ e ∈ E, s.dest? e.1 = some e.2 ∧ e.2.job = j)
    (hheld : ∀ e ∈ E, e.2.isFinal = false → e.2.isIdle = false → ∃ n, ∀ m, (s.line m).dest = some e.1 ↔ m = n) :
    Cancels s ((E.map Prod.fst).foldl cancelStep s) j r E := by
  induction E generalizing s r with
  | nil =>
    exact ⟨rfl, hj, fun _ _ => rfl, (fun e he => nomatch he), fun _ _ => rfl, fun m => rfl,
      fun d _ => ⟨rfl, fun p => by rw [show PageRec.givenUpBy (idleOnes []) d p = id from rfl, Option.map_id_fun]; rfl, rfl⟩⟩
  | cons e E ih =>
    obtain ⟨hke, hnodup'⟩ := List.nodup_cons.1 hnodup
    obtain ⟨het, hej⟩ := hE e (List.mem_cons_self ..)
    have hone : Cancels s (cancelStep s e.1) j r [e] := by
      by_cases hf : e.2.isFinal = true
      · exact cancels_final hj het hf
      · have hstep : cancelStep s e.1 = cancelDest e.1 s := by
          rw [cancelStep, het]
          exact if_neg hf
        rw [hstep]
        cases hidle : e.2.isIdle with
        | true => exact cancels_idle hj het hej hidle
        | false =>
          obtain ⟨n, hn⟩ := hheld e (List.mem_cons_self ..) (Bool.not_eq_true _ ▸ hf) hidle
          exact cancels_held hj het (Bool.not_eq_true _ ▸ hf) hidle hn
    have hkeep (e' : Nat × Dest) (he' : e' ∈ E) : e'.1 ∉ [e].map Prod.fst := fun h => by
      rw [List.map_singleton, List.mem_singleton] at h
      exact hke (h ▸ List.mem_map_of_mem he')
    have hrest := ih (cancelStep s e.1) _ hone.job hnodup'
      (fun e' he' => ⟨(hone.others e'.1 (hkeep e' he')).trans (hE e' (List.mem_cons_of_mem _ he')).1,
        (hE e' (List.mem_cons_of_mem _ he')).2⟩)
      (fun e' he' hf hi => by
        obtain ⟨n, hn⟩ := hheld e' (List.mem_cons_of_mem _ he') hf hi
        refine ⟨n, fun m => ?_⟩
        have hdest : ((cancelStep s e.1).line m).dest = (s.line m).dest := by
          rw [hone.lines, LineRec.cancelledBy]
          split <;> rfl
        rw [hdest]
        exact hn m)
    exact hone.append hrest fun e' he' => by rw [List.mem_singleton.1 he']; exact hke

end

/-! ## CANCEL_JOB (R99) -/

theorem keeps_cancelStep {c : Kept} {s0 s : State} (q : Nat) (h : Keeps c s0 s) : Keeps c s0 (cancelStep s q) := by
  unfold cancelStep
  split
  · exact h
  · split
    · exact h
    · exact keeps_cancelDest h

/-- The destinations of a job, with their numbers. -/
def State.destsWith (s : State) (j : Nat) : Tab Dest := s.dju.dests.filter fun e => e.2.job == j

theorem idleOnes_destsWith (s : State) (j : Nat) : idleOnes (s.destsWith j) = s.dju.dests.filter fun e => e.2.job == j && e.2.isIdle := by
  rw [idleOnes, State.destsWith, List.filter_filter]
  exact List.filter_congr fun e _ => Bool.and_comm ..

theorem State.SoundFrom.of_sound {s : State} {x : Nat} {d : Doc} (h : s.doc? x = some d ∧ d.keep = true
    ∧ (d.places.filterMap id).Nodup ∧ ∀ p q, some p ∈ d.places → s.page? p = some q → q.doc = x) : s.SoundFrom x d 0 := h

section

variable {s : State} {j : Nat} {r : Job}

theorem mem_destsWith {e : Nat × Dest} (hrising : Tab.rising s.dju.dests = true) :
    e ∈ s.destsWith j ↔ s.dest? e.1 = some e.2 ∧ e.2.job = j := by
  rw [State.destsWith, List.mem_filter, beq_iff_eq]
  exact and_congr_left fun _ => ⟨fun h => Tab.get?_of_mem hrising h, Tab.mem_of_get?⟩

theorem cancelJob_eq {sl : Slot} (hr : s.job? (sl.num 0) = some r) (hst : r.state ≠ .cancelled) :
    cancelJob sl s = (testJob (sl.num 0) (((s.destsWith (sl.num 0)).map Prod.fst).foldl cancelStep
        (putJob (sl.num 0) { r with state := .cancelled } s)),
      ⟨.done, .job, sl.num 0, (((s.destsWith (sl.num 0)).map Prod.fst).foldl cancelStep
        (putJob (sl.num 0) { r with state := .cancelled } s)).sessionsOf (sl.num 0)⟩) := by
  have hnamed : s.namedJob sl = some r := hr
  rw [cancelJob, hnamed]
  exact if_neg hst

/-- The part once the destinations of a cancelled job have been met. -/
def State.jobCancelled (s : State) (j : Nat) (r : Job) : State :=
  ((s.destsWith j).map Prod.fst).foldl cancelStep (putJob j { r with state := .cancelled } s)

theorem jobCancelled_ordered (h : s.ordered = true) : (s.jobCancelled j r).ordered = true :=
  (Keeps.foldl (k := ⟨false, false, false⟩) (keeps_putJob (Keeps.refl _ s)) fun _ x => keeps_cancelStep x).ord h

theorem cancels_jobCancelled (hord : s.ordered = true)
    (hheld : ∀ k t, s.dest? k = some t → t.job = j → t.isFinal = false → t.isIdle = false →
      ∃ n, ∀ m, (s.line m).dest = some k ↔ m = n) :
    Cancels (putJob j { r with state := .cancelled } s) (s.jobCancelled j r) j { r with state := .cancelled } (s.destsWith j) := by
  have hrising := (s.ordered_iff.1 hord).2.2.2.1
  refine cancels_all _ _ _ (job?_putJob_self ..)
    (show (Tab.keysWhere s.dju.dests fun d => d.job == j).Nodup from Tab.keysWhere_nodup hrising _) (fun e he => (mem_destsWith hrising).1 he)
    fun e he hf hi => ?_
  obtain ⟨het, hej⟩ := (mem_destsWith hrising).1 he
  exact hheld e.1 e.2 het hej hf hi

/-- What stands after the destinations of a job have been cancelled, for the statement. -/
theorem Cancels.dest_all {u : State} (hord : s.ordered = true)
    (h : Cancels (putJob j { r with state := .cancelled } s) u j { r with state := .cancelled } (s.destsWith j)) (k : Nat) (t : Dest)
    (ht : s.dest? k = some t) : u.dest? k = some (if t.job ≠ j ∨ t.isFinal = true then t
      else if t.isIdle then { t with state := .cancelled, lastCause := some .cancelled, cancelMark := false }
      else { t with cancelMark := true }) := by
  have hrising := (s.ordered_iff.1 hord).2.2.2.1
  by_cases hj : t.job = j
  · rw [h.dests (k, t) ((mem_destsWith hrising).2 ⟨ht, hj⟩), Dest.cancelled]
    by_cases hf : t.isFinal = true
    · rw [if_pos hf, if_pos (.inr hf)]
    · exact congrArg some ((if_neg hf).trans (if_neg (not_or.2 ⟨not_not.2 hj, hf⟩)).symm)
  · rw [if_pos (.inl hj)]
    refine (h.others k fun hk => ?_).trans ht
    obtain ⟨e, he, hek⟩ := List.mem_map.1 hk
    obtain ⟨het, hej⟩ := (mem_destsWith hrising).1 he
    rw [hek, ht] at het
    exact hj (by rw [Option.some.inj het, hej])

theorem Cancels.line_all {u : State} (h : Cancels (putJob j { r with state := .cancelled } s) u j { r with state := .cancelled }
    (s.destsWith j)) (m : Line) :
    u.line m = if (s.dju.dests.any fun e => (s.line m).dest == some e.1 && e.2.job == j && !e.2.isFinal && !e.2.isIdle)
      && (s.line m).state.endsAtOnce then (s.line m).cleared else s.line m := by
  refine (h.lines m).trans ?_
  show LineRec.cancelledBy _ (s.line m) = _
  rw [LineRec.cancelledBy, State.destsWith, List.any_filter]
  have hcomm : (fun e : Nat × Dest => (e.2.job == j) && ((s.line m).dest == some e.1 && !e.2.isFinal && !e.2.isIdle))
      = fun e => (s.line m).dest == some e.1 && e.2.job == j && !e.2.isFinal && !e.2.isIdle := by
    funext e
    cases e.2.job == j <;> simp
  rw [hcomm]

theorem Cancels.told_all {u : State} {d : Doc} (h : Cancels (putJob j { r with state := .cancelled } s) u j
      { r with state := .cancelled } (s.destsWith j)) (hd : s.SoundFrom r.doc d 0) :
    (∀ p, u.page? p = (s.page? p).map (PageRec.givenUpBy (s.dju.dests.filter fun e => e.2.job == j && e.2.isIdle) d p))
      ∧ u.dju.docs = s.dju.docs
      ∧ (toldCancelled r.tag (s.dju.dests.filter fun e => e.2.job == j && e.2.isIdle) s).ToldAs u := by
  obtain ⟨hdocs, hpages, hceu⟩ := h.sound d hd
  have htold := toldCancelled_toldAs r.tag (idleOnes (s.destsWith j)) (a := s)
    (b := putJob j { r with state := .cancelled } s) ⟨rfl, rfl, rfl⟩
  obtain ⟨hr, hs⟩ := toldCancelled_core r.tag (idleOnes (s.destsWith j)) s
  rw [idleOnes_destsWith] at hpages hceu htold hr hs
  refine ⟨hpages, hdocs, ?_, hceu.trans htold.2.1, ?_⟩
  · rw [hr, h.frame]
    rfl
  · rw [hs, h.frame]
    rfl

/-- A job with sessions running stays. -/
theorem cancelJob_runs {u : State} (h : Cancels (putJob j { r with state := .cancelled } s) u j { r with state := .cancelled }
    (s.destsWith j)) (hrun : r.sessions ≠ 0) : testJob j u = u := testJob_of_session h.job hrun

theorem Cancels.sessionsOf_eq {u : State} {E : Tab Dest} (h : Cancels (putJob j { r with state := .cancelled } s) u j
    { r with state := .cancelled } E) : u.sessionsOf j = r.sessions := by
  rw [State.sessionsOf, h.job]
  rfl

theorem Dest.isFinal_cancelled {t : Dest} (h : t.isIdle = true ∨ t.isFinal = true) : t.cancelled.isFinal = true := by
  unfold Dest.cancelled
  split
  · assumption
  next hf =>
    rw [if_pos (h.resolve_right hf)]
    rfl

/-- A job none of whose destinations was in session is final once they have been cancelled. -/
theorem Cancels.jobIsFinal {u : State} (hord : s.ordered = true) (hu : u.ordered = true)
    (h : Cancels (putJob j { r with state := .cancelled } s) u j { r with state := .cancelled } (s.destsWith j))
    (hnone : r.sessions = 0) (hall : ∀ e ∈ s.dju.dests, e.2.job = j → e.2.isIdle = true ∨ e.2.isFinal = true) :
    u.jobIsFinal j = true := by
  have hrising := (s.ordered_iff.1 hord).2.2.2.1
  refine (State.jobIsFinal_iff h.job).2 ⟨hnone, fun e he hej => ?_⟩
  have hget : u.dest? e.1 = some e.2 := Tab.get?_of_mem (u.ordered_iff.1 hu).2.2.2.1 he
  by_cases hmem : e.1 ∈ (s.destsWith j).map Prod.fst
  · obtain ⟨f, hf, hfe⟩ := List.mem_map.1 hmem
    have hfs := (mem_destsWith hrising).1 hf
    have heq : e.2 = f.2.cancelled := Option.some.inj (hget.symm.trans (hfe ▸ h.dests f hf))
    rw [heq]
    exact Dest.isFinal_cancelled (hall f (Tab.mem_of_get? hfs.1) hfs.2)
  · have hs : s.dest? e.1 = some e.2 := (h.others e.1 hmem).symm.trans hget
    exact absurd (List.mem_map_of_mem ((mem_destsWith hrising).2 ⟨hs, hej⟩)) hmem

/-- The end of a job that keeps its document. -/
theorem cancelJob_ends {u : State} (hord : s.ordered = true) (hu : u.ordered = true)
    (h : Cancels (putJob j { r with state := .cancelled } s) u j { r with state := .cancelled } (s.destsWith j))
    (hfinal : u.jobIsFinal j = true) (hauto : r.autoDelete = false) :
    (∀ k, k ≠ j → (testJob j u).job? k = s.job? k)
      ∧ (∀ k t, s.dest? k = some t → t.job ≠ j → (testJob j u).dest? k = some t)
      ∧ ∀ d, s.SoundFrom r.doc d 0 → d.state ≠ .deleting →
        (∀ p, (testJob j u).page? p
          = (s.page? p).map (PageRec.givenUpBy (s.dju.dests.filter fun e => e.2.job == j && e.2.isIdle) d p))
        ∧ (testJob j u).doc? r.doc = some { d with jobRefs := d.jobRefs - 1 }
        ∧ (testJob j u).ceu = (postTagged .jobDone .job j r.tag 2 (r.sent + 256 * r.failed
            + 65536 * (r.cancelled + (s.dju.dests.filter fun e => e.2.job == j && e.2.isIdle).length))
            (toldCancelled r.tag (s.dju.dests.filter fun e => e.2.job == j && e.2.isIdle) s)).ceu := by
  have hrising := (s.ordered_iff.1 hord).2.2.2.1
  rw [testJob_of_noAutoDelete h.job hfinal hauto]
  obtain ⟨ds, docs, m, hend, hget, -, hdocs⟩ := endJob_spec j
    { r with state := .cancelled, cancelled := r.cancelled + (idleOnes (s.destsWith j)).length } u
  rw [hend]
  refine ⟨fun k hk => ?_, fun k t ht htj => ?_, fun d hd hdel => ?_⟩
  · exact (Tab.get?_erase ..).trans ((if_neg hk).trans (h.jobs k hk |>.trans (Tab.get?_set_of_ne _ _ hk)))
  · have hut : u.dest? k = some t := by
      refine (h.others k fun hk => ?_).trans ht
      obtain ⟨e, he, hek⟩ := List.mem_map.1 hk
      obtain ⟨het, hej⟩ := (mem_destsWith hrising).1 he
      rw [hek, ht] at het
      exact htj (by rw [Option.some.inj het, hej])
    refine (hget k).trans ((if_neg fun hk => ?_).trans hut)
    obtain ⟨v, hv, hvj⟩ := (Tab.mem_keysWhere (u.ordered_iff.1 hu).2.2.2.1 _ k).1 hk
    rw [show Tab.get? u.dju.dests k = some t from hut] at hv
    exact htj (by rw [Option.some.inj hv]; exact beq_iff_eq.1 hvj)
  · obtain ⟨hpages, hdocs', htold⟩ := h.told_all hd
    have hdoc : u.doc? r.doc = some d := (congrArg (fun t => Tab.get? t r.doc) hdocs').trans hd.1
    refine ⟨hpages, (hdocs d hdoc hdel).1, ?_⟩
    obtain ⟨-, hceu, -⟩ := htold.postTagged .jobDone .job j r.tag 2 (r.sent + 256 * r.failed
      + 65536 * (r.cancelled + (s.dju.dests.filter fun e => e.2.job == j && e.2.isIdle).length))
    rw [idleOnes_destsWith]
    exact hceu

end

/-! ## CANCEL_DESTINATION (R100) -/

section

variable {s : State} {r : Job} {k : Nat} {t : Dest} {sl : Slot}

theorem cancelDestination_eq (hj : s.job? (sl.num 0) = some r) (hi : sl.num 1 < r.destCount) (hord : s.ordered = true)
    (ht : s.dest? k = some t) (htj : t.job = sl.num 0) (hti : t.index = sl.num 1)
    (hone : ∀ k' t', s.dest? k' = some t' → t'.job = sl.num 0 → t'.index = sl.num 1 → k' = k) :
    cancelDestination sl s = if t.isFinal ∨ t.cancelMark then (s, Reply.path .wrongState 1)
      else (testJob (sl.num 0) (cancelDest k s), ⟨.done, .destination, k, if t.isIdle then 0 else 1⟩) := by
  have hrising := (s.ordered_iff.1 hord).2.2.2.1
  have hnamed : s.namedJob sl = some r := hj
  have hfind : ((s.destsOf (sl.num 0)).find? fun k => ((s.dest? k).map Dest.index) == some (sl.num 1)) = some k := by
    have hmem : k ∈ s.destsOf (sl.num 0) := (Tab.mem_keysWhere hrising _ k).2 ⟨t, ht, beq_iff_eq.2 htj⟩
    cases hf : (s.destsOf (sl.num 0)).find? fun k => ((s.dest? k).map Dest.index) == some (sl.num 1) with
    | none => exact absurd (by simp [ht, hti]) (List.find?_eq_none.1 hf k hmem)
    | some x =>
      obtain ⟨v, hv, hvj⟩ := (Tab.mem_keysWhere hrising _ x).1 (List.mem_of_find?_eq_some hf)
      have hx := List.find?_some hf
      have hv' : s.dest? x = some v := hv
      rw [hv', beq_iff_eq, Option.map_some, Option.some.injEq] at hx
      exact congrArg some (hone x v hv' (beq_iff_eq.1 hvj) hx)
  unfold cancelDestination
  rw [hnamed]
  dsimp only
  rw [if_neg (Nat.not_le.2 hi), hfind]
  dsimp only
  rw [ht]

end

/-- Settles O30: each destination of the job in turn either waits and is given up, or is in session and marked. -/
theorem cancelCommands : Obligations.CancelCommands := by
  refine ⟨fun s h => ?_, fun s h hord => ?_⟩
  · have htake := take_of_readyFor h le_rfl cancelJob
    obtain ⟨j, hjn⟩ : ∃ j, j = s.headSlot.num 0 := ⟨_, rfl⟩
    dsimp only
    rw [exec_cancelJob, htake, ← hjn]
    refine ⟨fun hj => ?_, fun r hr => ⟨fun hst => ?_, fun hst => ?_⟩⟩
    · have hnamed : s.carry.namedJob s.headSlot = none := by
        rw [State.namedJob, ← hjn]
        exact hj
      rw [cancelJob, hnamed]
    · have hnamed : s.carry.namedJob s.headSlot = some r := by
        rw [State.namedJob, ← hjn]
        exact hr
      rw [cancelJob, hnamed]
      dsimp only
      rw [if_pos hst]
    · have hr' : s.carry.job? (s.headSlot.num 0) = some r := hjn ▸ hr
      refine ⟨_, _, by rw [cancelJob_eq hr' hst, ← hjn], fun hrun hord hheld => ?_, fun hord hnone hall => ?_⟩
      · have hc : Cancels (putJob j { r with state := .cancelled } s.carry) (s.carry.jobCancelled j r) j
            { r with state := .cancelled } (s.carry.destsWith j) := by
          refine cancels_jobCancelled hord fun k t ht _ hf hi => ?_
          have hst : t.state = .dialling ∨ t.state = .sending := by
            cases hs : t.state <;> simp [Dest.isFinal, Dest.isIdle, hs] at hf hi ⊢
          obtain ⟨n, -, hn⟩ := hheld k t ht hst
          exact ⟨n, hn⟩
        have hjob := hc.job
        rw [idleOnes_destsWith] at hjob
        have hsame := cancelJob_runs hc hrun
        unfold State.jobCancelled at hc hjob hsame
        rw [hsame]
        refine ⟨hc.sessionsOf_eq, hjob, hc.dest_all (s := s.carry) hord, hc.line_all, fun d hd => ?_⟩
        obtain ⟨hpages, -, htold⟩ := hc.told_all (State.SoundFrom.of_sound hd)
        exact ⟨hpages, htold.2.1⟩
      · have hc : Cancels (putJob j { r with state := .cancelled } s.carry) (s.carry.jobCancelled j r) j
            { r with state := .cancelled } (s.carry.destsWith j) := by
          refine cancels_jobCancelled hord fun k t ht htj hf hi => ?_
          rcases hall (k, t) (Tab.mem_of_get? ht) htj with h' | h'
          · exact absurd h' (by rw [hi]; exact Bool.false_ne_true)
          · exact absurd h' (by rw [hf]; exact Bool.false_ne_true)
        have hu := jobCancelled_ordered (j := j) (r := r) (s := s.carry) hord
        have hfinal := hc.jobIsFinal (s := s.carry) hord hu hnone hall
        have hrising := (State.ordered_iff _).1 hu |>.2.2.2.1
        have hord' : (testJob j (s.carry.jobCancelled j r)).ordered = true := (keeps_testJob (Keeps.refl ⟨false, false, false⟩ _)).ord hu
        have hlacks := testJob_lacks hc.job hfinal hrising
        have hfrees := testJob_frees hc.job hfinal
        have hends := cancelJob_ends (s := s.carry) hord hu hc hfinal
        have hsessions := hc.sessionsOf_eq
        unfold State.jobCancelled at hord' hlacks hfrees hends hsessions
        refine ⟨hsessions.trans hnone, hfrees.1, fun e he => ?_, fun hauto => ?_⟩
        · exact hlacks e.1 e.2 (Tab.get?_of_mem ((State.ordered_iff _).1 hord').2.2.2.1 he)
        · obtain ⟨hjobs, hdests, hsound⟩ := hends hauto
          exact ⟨hjobs, hdests, fun d hd hdel => hsound d (State.SoundFrom.of_sound hd) hdel⟩
  · have htake := take_of_readyFor h le_rfl cancelDestination
    obtain ⟨j, hjn⟩ : ∃ j, j = s.headSlot.num 0 := ⟨_, rfl⟩
    dsimp only
    rw [exec_cancelDestination, htake, ← hjn]
    refine ⟨fun hj => ?_, fun r hr => ⟨fun hcount => ?_, fun k t hi ht htj hti hone => ?_⟩⟩
    · have hnamed : s.carry.namedJob s.headSlot = none := by
        rw [State.namedJob, ← hjn]
        exact hj
      rw [cancelDestination, hnamed]
    · have hnamed : s.carry.namedJob s.headSlot = some r := by
        rw [State.namedJob, ← hjn]
        exact hr
      rw [cancelDestination, hnamed]
      dsimp only
      rw [if_pos hcount]
    · subst hjn
      have hcancel := cancelDestination_eq (s := s.carry) (sl := s.headSlot) hr hi hord ht htj hti hone
      rw [hcancel]
      refine ⟨fun hfin => by rw [if_pos hfin], fun hf hm hidle hother => ?_, fun hf hm hidle hun => ?_, fun hf hm hidle n hn => ?_⟩
      · have hset : ¬(t.isFinal = true ∨ t.cancelMark = true) := by rw [hf, hm]; simp
        obtain ⟨x, q, hx, hxj, hxk, hxf⟩ := hother
        have hc := cancels_idle (s := s.carry) hr ht htj hidle
        have hsame : testJob (s.headSlot.num 0) (cancelDest k s.carry) = cancelDest k s.carry :=
          testJob_of_open ((hc.others x (by simpa using hxk)).trans hx) hxj hxf
        have hone : idleOnes [(k, t)] = [(k, t)] := by simp [idleOnes, hidle]
        have hcancelled : t.cancelled = { t with state := .cancelled, lastCause := some .cancelled, cancelMark := false } := by
          rw [Dest.cancelled, if_neg (by rw [hf]; exact Bool.false_ne_true), if_pos hidle]
        have hdest := hc.dests (k, t) (List.mem_singleton_self _)
        have hjob := hc.job
        rw [hcancelled] at hdest
        rw [hone] at hjob
        rw [if_neg hset, hsame, hidle]
        refine ⟨_, rfl, cancelDest_frame_of_idle (s := s.carry) ht hr htj hidle, hdest, fun x hx => hc.others x (by simpa using hx), hjob,
          hc.jobs, fun d hd => ?_⟩
        obtain ⟨-, hpages, hceu⟩ := hc.sound d (State.SoundFrom.of_sound hd)
        rw [hone] at hpages hceu
        obtain ⟨hpsm, hdju, hdram⟩ := cancelDest_of_sound (s := s.carry) ht hr htj hidle (State.SoundFrom.of_sound hd)
        exact ⟨hpages, hceu, hpsm, hdju, hdram⟩
      · have hset : ¬(t.isFinal = true ∨ t.cancelMark = true) := by rw [hf, hm]; simp
        have hput : (putDest k { t with cancelMark := true } s.carry).dest? k = some { t with cancelMark := true } :=
          Tab.get?_set_self ..
        rw [if_neg hset, cancelDest_of_unheld (s := s.carry) ht hidle hun, hidle, testJob_of_open hput htj hf]
        exact ⟨_, rfl, rfl, hput, fun x hx => Tab.get?_set_of_ne _ _ hx, unchangedOutside_putDest k _ s.carry⟩
      · have hset : ¬(t.isFinal = true ∨ t.cancelMark = true) := by rw [hf, hm]; simp
        obtain ⟨v, hv⟩ : ∃ v, v = putDest k { t with cancelMark := true } s.carry := ⟨_, rfl⟩
        have hput : v.dest? k = some { t with cancelMark := true } := by rw [hv]; exact Tab.get?_set_self ..
        obtain ⟨u, hu, huf, hclear, habandon, hnot, hun, huo, hdram⟩ := endRequested_spec n v
        have hgot : u.dest? k = some { t with cancelMark := true } := by rw [huf]; exact hput
        have hl (m : Line) : v.line m = s.line m := by rw [hv]; rfl
        have hsli : v.sli = s.sli := by rw [hv]; rfl
        have hpor : v.por (0x80 + 256 * n.val) = s.por (0x80 + 256 * n.val) := by rw [hv]; rfl
        have hvdram : unchangedOutside [(s.destAddr k, 64)] s.dram v.dram := by
          rw [hv]
          exact unchangedOutside_putDest k _ s.carry
        simp only [hl] at hclear habandon hnot hun huo
        rw [if_neg hset, cancelDest_of_held (s := s.carry) ht hidle hn, ← hv, hu, hidle, testJob_of_open hgot htj hf]
        refine ⟨u, rfl, ?_, hgot, fun x hx => ?_, fun hst => (hclear hst).trans (hand_sli n _ hsli),
          fun hst => (habandon hst).trans (hand_sli n _ (hand_sli n _ hsli)), fun hst => (hnot hst).trans hsli, hun, huo, ?_⟩
        · rw [huf, hv]
          rfl
        · rw [huf, hv]
          exact Tab.get?_set_of_ne _ _ hx
        · rw [hpor] at hdram
          exact hvdram.trans hdram

end Sys2Proof.Machine
end

section
/-! PROOFS. What the shelf's messages and good blocks do to two states that differ in one known way only. -/

namespace Sys2Proof.Machine

set_option Elab.async false

section

variable {w : Slack} {s t : State} {n : Line}

/-! ## Tables and pages -/

theorem alike_putEntry (h : Alike w s t) (e : Nat) (r : PrintEntry) : Alike w (putEntry e r s) (putEntry e r t) := by
  unfold putEntry
  rw [h.prn]
  exact alike_store (alike_prn h _) (h.por _)

theorem alike_createEntry (h : Alike w s t) (e d copies tray cls : Nat) :
    Alike w (createEntry e d copies tray cls s) (createEntry e d copies tray cls t) := by
  unfold createEntry
  dsimp only
  rw [h.prn]
  have hput := alike_modifyDoc (alike_putEntry (alike_prn h { s.prn with arrival := (s.prn.arrival + 1) % 4294967296 }) e
    { doc := d, copies, copiesDone := 0, tray, cls, arrival := (s.prn.arrival + 1) % 4294967296, printing := false, position := 0,
      sheetNumber := 0, sheetLine := 0, cancelMark := false }) d fun x => { x with printRefs := x.printRefs + 1 }
  rw [hput.doc?]
  exact .foldl (fun a b p h => alike_changePrintHolds h p copies) hput

/-- A page is started on both sides or on neither. -/
theorem alike_startPage (h : Alike w s t) (d : Nat) (dir : Dir) (cls : WidthClass) (res : Resolution) :
    (startPage d dir cls res s = none ∧ startPage d dir cls res t = none)
      ∨ ∃ p a b, startPage d dir cls res s = some (p, a) ∧ startPage d dir cls res t = some (p, b) ∧ Alike w a b := by
  unfold startPage
  rw [h.psm, h.doc?]
  cases Tab.firstFree s.psm.pages 1024 with
  | none => exact .inl ⟨rfl, rfl⟩
  | some p =>
    cases s.doc? d with
    | none => exact .inl ⟨rfl, rfl⟩
    | some doc => exact .inr ⟨p, _, _, rfl, rfl, alike_putDoc (alike_writePathStatus (alike_putPage h p _)) d _⟩

theorem alike_joinPrintHolds (h : Alike w s t) (d p : Nat) : Alike w (joinPrintHolds d p s) (joinPrintHolds d p t) := by
  unfold joinPrintHolds
  rw [h.prn]
  exact alike_modifyPage h p _

theorem Alike.docHasRoom (h : Alike w s t) (d : Nat) : t.docHasRoom d = s.docHasRoom d := by
  unfold State.docHasRoom
  rw [h.doc?]

variable (hn : w.keepsLine n)
include hn

/-! ## The inbound page -/

theorem alike_giveUpStore_kept (h : Alike w s t) : Alike w (giveUpStore n s) (giveUpStore n t) :=
  alike_giveUpStore_of_keepsLine hn h

section

variable (hw : w.keepsPages)
include hw

theorem alike_closePage (h : Alike w s t) : Alike w (closePage n s) (closePage n t) := by
  unfold closePage
  rw [h.line hn]
  cases (s.line n).page with
  | none => exact h
  | some p => exact alike_sealPage hw (alike_modifyLine hn h _) ..

theorem alike_closeEarly_kept (h : Alike w s t) : Alike w (closeEarly n s) (closeEarly n t) := by
  have hg := alike_giveUpStore_kept hn h
  unfold closeEarly
  dsimp only
  rw [hg.line hn]
  cases ((giveUpStore n s).line n).page with
  | none => exact hg
  | some p => exact alike_closeEarly_rest hw (alike_modifyLine hn hg _) p _

theorem alike_beginPage (h : Alike w s t) (cls : WidthClass) (res : Resolution) :
    Alike w (beginPage n cls res s) (beginPage n cls res t) := by
  have hc := alike_closeEarly_kept hn hw h
  unfold beginPage
  dsimp only
  rw [hc.line hn]
  cases ((closeEarly n s).line n).doc with
  | none => exact hc
  | some d =>
    refine .ite (by rw [hc.docHasRoom]) (fun _ => alike_abandonLine hn hc _) fun _ => ?_
    rcases alike_startPage hc d .inbound cls res with ⟨ha, hb⟩ | ⟨p, a, b, ha, hb, hab⟩
    · rw [ha, hb]
      exact alike_abandonLine hn hc _
    · rw [ha, hb]
      dsimp only
      rw [hab.page?]
      exact alike_enterState hn (alike_joinPrintHolds hab d p) ..

theorem alike_afterPartialOk (h : Alike w s t) (k : EndKind) : Alike w (afterPartialOk n k s) (afterPartialOk n k t) := by
  cases k with
  | more => exact alike_enterState hn h ..
  | pageEnd => exact alike_enterState hn (alike_closePage hn hw h) ..
  | docEnd => exact alike_clearLine hn (alike_closePage hn hw h) _

theorem alike_checkPartial (h : Alike w s t) (c : Nat) (k : EndKind) : Alike w (checkPartial n c k s) (checkPartial n c k t) := by
  unfold checkPartial
  dsimp only
  rw [h.line hn]
  refine .ite Iff.rfl (fun _ => alike_afterPartialOk hn hw (alike_hand h ..) k) fun _ => ?_
  cases listedBlocks (s.line n).blockMap c with
  | nil => exact alike_afterPartialOk hn hw (alike_modifyLine hn (alike_hand h ..) _) k
  | cons b bs =>
    refine .ite Iff.rfl (fun _ => alike_enterState hn (alike_hand h ..) ..) fun _ => ?_
    refine alike_afterPartialOk hn hw (alike_modifyLine hn ?_ _) k
    cases (s.line n).page with
    | none => exact alike_hand h ..
    | some p => exact alike_markTruncated (alike_hand h ..) p

theorem alike_goodBlock (h : Alike w s t) (pp b : Nat) (bytes : List Byte) :
    Alike w (goodBlock n pp b bytes s) (goodBlock n pp b bytes t) := by
  have hr : Alike w (if (s.line n).state = .receiving then restartTimer n s else s)
      (if (t.line n).state = .receiving then restartTimer n t else t) :=
    .ite (by rw [h.line hn]) (fun _ => alike_restartTimer hn h) fun _ => h
  unfold goodBlock
  dsimp only
  generalize (if (s.line n).state = .receiving then restartTimer n s else s) = a at hr ⊢
  generalize (if (t.line n).state = .receiving then restartTimer n t else t) = b' at hr ⊢
  have hrelease {x y : State} (hx : Alike w x y) : Alike w (releaseBuffer n.val x) (releaseBuffer n.val y) :=
    alike_inLine hx n.val (f := fun l => { l with complete := false, occupied := false }) fun _ => rfl
  rw [hr.linePage hn, hr.line hn]
  cases a.linePage n with
  | none => exact hrelease hr
  | some r =>
    cases (a.line n).page with
    | none => exact hrelease hr
    | some p =>
      refine .ite Iff.rfl (fun _ => .ite ?_ (fun _ => ?_) fun _ => ?_) fun _ => hrelease hr
      · rw [hr.psm, hr.freeCount]
      · have hg := (alike_giveSegments hr p (segsMissing r (blockOffset pp b + bytes.length))).1
        rw [hg.line hn]
        exact alike_setLine hn hg _
      · exact alike_abandonLine hn (alike_closeEarly_kept hn hw (hrelease hr)) _

/-! ## The ends of sessions -/

theorem alike_endReports_kept (h : Alike w s t) (cause : Cause) : Alike w (endReports n cause s) (endReports n cause t) := by
  unfold endReports
  dsimp only
  rw [h.line hn]
  cases (s.line n).dir with
  | none => exact h
  | some dir =>
    cases dir with
    | inbound =>
      have hc := alike_closeEarly_kept hn hw h
      dsimp only
      cases (s.line n).doc with
      | none => exact hc
      | some d => exact alike_endInbound hw hc d _
    | outbound =>
      have hc := alike_occasion (alike_endCall hw (n := n) (by rw [h.line hn]) h cause)
      dsimp only
      cases (s.line n).dest with
      | none => exact hc
      | some k =>
        cases (s.line n).job with
        | none => exact hc
        | some j => exact alike_testJob (fun _ _ _ => hw) (alike_destSessionEnd hc k cause)

theorem alike_endSession_kept (h : Alike w s t) (cause : Cause) (dst : LineState) :
    Alike w (endSession n cause dst s) (endSession n cause dst t) :=
  alike_endSession_of_reports hn (alike_endReports_kept hn hw h cause) dst

omit hw in
theorem Alike.causeOr (h : Alike w s t) (cause : Cause) : t.causeOr n cause = s.causeOr n cause := by
  unfold State.causeOr
  rw [h.line hn]

/-! ## Messages -/

omit hw in
theorem alike_onLineReady (h : Alike w s t) : Alike w (onLineReady n s) (onLineReady n t) := by
  unfold onLineReady
  rw [h.line hn, h.isRun]
  exact .ite Iff.rfl (fun _ => alike_occasion (alike_modifyLine hn h _)) fun _ => h

theorem alike_onLineNotReady (h : Alike w s t) : Alike w (onLineNotReady n s) (onLineNotReady n t) := by
  unfold onLineNotReady
  rw [h.line hn, h.causeOr hn]
  exact .ite Iff.rfl (fun _ => alike_modifyLine hn h _) fun _ =>
    .ite Iff.rfl (fun _ => alike_endSession_kept hn hw h ..) fun _ => h

theorem alike_onRemoteClear (h : Alike w s t) : Alike w (onRemoteClear n s) (onRemoteClear n t) := by
  unfold onRemoteClear
  rw [h.line hn, h.causeOr hn]
  exact .ite Iff.rfl (fun _ => alike_endSession_kept hn hw h ..) fun _ => h

theorem alike_onCleared (h : Alike w s t) : Alike w (onCleared n s) (onCleared n t) := by
  unfold onCleared
  rw [h.line hn, h.causeOr hn]
  exact .ite Iff.rfl (fun _ => alike_endSession_kept hn hw h ..) fun _ => h

omit hw in
theorem alike_onSeized (h : Alike w s t) : Alike w (onSeized n s) (onSeized n t) := by
  have hdial : t.dialOf n = s.dialOf n := by
    unfold State.dialOf State.lineDest
    rw [h.plan, h.line hn]
    refine congrArg (_ ++ ·) (congrArg (fun x : Option (List Byte) => x.getD []) ?_)
    cases (s.line n).dest with
    | none => rfl
    | some k =>
      simp only [Option.bind_some]
      rw [h.dest?]
      cases s.dest? k with
      | none => rfl
      | some d =>
        obtain ⟨q, hq⟩ := w.dest_eq k d
        rw [Option.map_some, hq]
        rfl
  unfold onSeized
  rw [h.line hn, hdial]
  exact .ite Iff.rfl (fun _ => alike_enterState hn (alike_hand h ..) ..) fun _ => h

omit hw in
theorem alike_onCallFailed (h : Alike w s t) (cause : Cause) : Alike w (onCallFailed n cause s) (onCallFailed n cause t) := by
  unfold onCallFailed
  rw [h.line hn]
  exact .ite Iff.rfl (fun _ => alike_clearLine hn h cause) fun _ => h

omit hn in
theorem alike_answerCall (h : Alike w s t) : Alike w (answerCall n s) (answerCall n t) := by
  unfold answerCall
  rw [h.chg hw]
  cases Tab.get? s.chg.calls n.val with
  | none => exact h
  | some c =>
    dsimp only
    unfold State.band State.hour State.rate
    rw [h.chg hw]
    exact alike_chg (f := fun _ => { s.chg with calls := _ }) hw h

theorem alike_onAnswered (h : Alike w s t) : Alike w (onAnswered n s) (onAnswered n t) := by
  have htenths : t.tenthsNow = s.tenthsNow := by
    unfold State.tenthsNow
    rw [h.chg hw]
  unfold onAnswered
  dsimp only
  rw [h.line hn, htenths]
  refine .ite Iff.rfl (fun _ => alike_nextPlace hn ?_) fun _ => h
  have ha := alike_answerCall (n := n) hw (alike_modifyLine hn h fun r => { r with answered := true, answerTime := s.tenthsNow })
  rw [ha.line hn]
  cases ((answerCall n (modifyLine n (fun r => { r with answered := true, answerTime := s.tenthsNow }) s)).line n).dest with
  | none => exact ha
  | some k => exact alike_modifyDest ha k fun _ _ => rfl

omit hw in
theorem alike_onPartialOk (h : Alike w s t) : Alike w (onPartialOk n s) (onPartialOk n t) := by
  unfold onPartialOk
  dsimp only
  rw [h.line hn]
  have hm := alike_modifyLine hn h fun r => { r with rounds := 0 }
  exact .ite Iff.rfl (fun _ => .ite Iff.rfl (fun _ => alike_sendPartial hn hm _) fun _ => alike_enterState hn hm ..) fun _ => h

omit hw in
theorem Alike.endKindNow (h : Alike w s t) : t.endKindNow n = s.endKindNow n := by
  unfold State.endKindNow
  rw [h.line hn, h.linePage hn, h.lineDoc hn]

omit hw in
theorem alike_handPartialEnd (h : Alike w s t) : Alike w (handPartialEnd n s) (handPartialEnd n t) := by
  unfold handPartialEnd
  dsimp only
  rw [h.endKindNow hn, h.line hn]
  exact alike_enterState hn (alike_hand h ..) ..

omit hw in
theorem alike_onRepeat (h : Alike w s t) (map : BitVec 64) : Alike w (onRepeat n map s) (onRepeat n map t) := by
  unfold onRepeat
  dsimp only
  rw [h.line hn]
  have hm := alike_modifyLine hn h fun r => { r with rounds := (s.line n).rounds + 1 }
  refine .ite Iff.rfl (fun _ => .ite Iff.rfl (fun _ => alike_abandonLine hn hm _) fun _ => ?_) fun _ => h
  cases (List.range (s.line n).blockCount).filter fun b => map.getLsbD b with
  | nil => exact alike_handPartialEnd hn hm
  | cons b bs => exact alike_enterState hn hm ..

omit hn in
theorem alike_destConfirms (h : Alike w s t) (k : Nat) : Alike w (destConfirms k s) (destConfirms k t) := by
  unfold destConfirms
  dsimp only
  rw [h.dest?]
  cases s.dest? k with
  | none => exact h
  | some d =>
    rw [Option.map_some, Slack.dest_of_keepsPages hw]
    dsimp only
    have hdoc : t.docOf d = s.docOf d := by
      unfold State.docOf State.jobOf
      rw [h.job?]
    rw [hdoc]
    have hput := alike_putDest h k (r := { d with confirmed := d.confirmed + 1 }) (Slack.dest_of_keepsPages hw k _).symm
    have hpage : ((s.docOf d).bind fun doc => (t.doc? doc).bind fun r => (r.places[d.confirmed]?).join)
        = (s.docOf d).bind fun doc => (s.doc? doc).bind fun r => (r.places[d.confirmed]?).join := by simp only [h.doc?]
    rw [hpage]
    cases (s.docOf d).bind fun doc => (s.doc? doc).bind fun r => (r.places[d.confirmed]?).join with
    | none => exact hput
    | some p => exact alike_changeSendHolds hput p (-1)

theorem alike_onPageConfirmed (h : Alike w s t) : Alike w (onPageConfirmed n s) (onPageConfirmed n t) := by
  unfold onPageConfirmed
  dsimp only
  rw [h.line hn]
  refine .ite Iff.rfl (fun _ => alike_nextPlace hn (alike_modifyLine hn ?_ _)) fun _ => h
  cases (s.line n).dest with
  | none => exact h
  | some k => exact alike_destConfirms hw h k

omit hw in
theorem alike_onPageRejected (h : Alike w s t) : Alike w (onPageRejected n s) (onPageRejected n t) := by
  unfold onPageRejected
  rw [h.line hn]
  exact .ite Iff.rfl (fun _ => alike_clearLine hn h _) fun _ => h

theorem alike_onRxPageBegin (h : Alike w s t) (cls res : Nat) : Alike w (onRxPageBegin n cls res s) (onRxPageBegin n cls res t) := by
  unfold onRxPageBegin
  cases widthClassOf cls with
  | none => exact h
  | some wide =>
    cases resolutionOf res with
    | none => exact h
    | some r =>
      dsimp only
      rw [h.line hn]
      exact .ite Iff.rfl (fun _ => alike_beginPage hn hw h wide r) fun _ => h

theorem alike_onRxPartialEnd (h : Alike w s t) (pp c kind : Nat) : Alike w (onRxPartialEnd n pp c kind s) (onRxPartialEnd n pp c kind t) := by
  unfold onRxPartialEnd
  dsimp only
  cases endKindOf kind with
  | none => exact h
  | some k =>
    dsimp only
    rw [h.line hn]
    refine .ite Iff.rfl (fun _ => h) fun _ => ?_
    have he := alike_enterState hn h .rxCheck fun r => { r with blockCount := c, checking := some (c, k) }
    rw [he.line hn]
    exact .ite Iff.rfl (fun _ => he) fun _ => alike_checkPartial hn hw (alike_setLine hn he _) c k

/-! ## Rings -/

omit hn hw in
theorem alike_refuseRing (h : Alike w s t) (why : RingRefusal) : Alike w (refuseRing n why s) (refuseRing n why t) := by
  unfold refuseRing postRefused
  rw [(alike_hand h n .refuse).freeCount]
  exact alike_post (alike_hand h n .refuse)

omit hn hw in
theorem alike_answerDoc (h : Alike w s t) (d : Nat) (r : Route) (called ident : List Byte) :
    Alike w (answerDoc n d r called ident s) (answerDoc n d r called ident t) := by
  have hdoc : inboundDoc n r called ident t = inboundDoc n r called ident s := by
    unfold inboundDoc State.isHeld
    rw [h.rxr, h.seconds]
  unfold answerDoc
  dsimp only
  rw [hdoc]
  have hput := alike_putDoc h d (inboundDoc n r called ident s)
  refine .ite Iff.rfl (fun _ => ?_) fun _ => hput
  have hfree : (putDoc d (inboundDoc n r called ident s) t).freeEntry = (putDoc d (inboundDoc n r called ident s) s).freeEntry := by
    unfold State.freeEntry
    rw [hput.prn]
  rw [hfree]
  cases (putDoc d (inboundDoc n r called ident s) s).freeEntry with
  | none => exact hput
  | some e => exact alike_createEntry hput ..

omit hw in
theorem alike_decideRing (h : Alike w s t) (called ident : List Byte) : Alike w (decideRing n called ident s) (decideRing n called ident t) := by
  have hroute : t.routeOf called = s.routeOf called := by
    unfold State.routeOf
    rw [h.rxr]
  have hfree : t.freeDoc = s.freeDoc := by
    unfold State.freeDoc
    rw [h.dju]
  have hrefusal (r : Route) : t.refusal r = s.refusal r := by
    unfold State.refusal State.emptyPages State.freeEntry
    rw [h.freeCount, h.psm, hfree, h.prn]
  unfold decideRing
  dsimp only
  rw [hroute, hrefusal, hfree]
  cases s.refusal (s.routeOf called) with
  | some why => exact alike_refuseRing h why
  | none =>
    cases s.freeDoc with
    | none => exact alike_refuseRing h _
    | some d =>
      have ha := alike_hand (alike_answerDoc (n := n) h d (s.routeOf called) called ident) n .answer
      dsimp only
      rw [ha.line hn]
      have he := alike_enterState hn (alike_setLine hn ha { LineRec.default with
        dir := some .inbound
        doc := some d
        cause := ((hand n .answer (answerDoc n d (s.routeOf called) called ident s)).line n).cause }) .answering id
      rw [he.doc?]
      exact alike_post he

theorem alike_onRing (h : Alike w s t) (called ident : List Byte) : Alike w (onRing n called ident s) (onRing n called ident t) := by
  have hidle {a b : State} (hab : Alike w a b) : Alike w (ringOnIdle n called ident a) (ringOnIdle n called ident b) := by
    unfold ringOnIdle
    rw [hab.plan]
    exact .ite Iff.rfl (fun _ => alike_decideRing hn hab called ident) fun _ => alike_refuseRing hab _
  unfold onRing
  refine .ite Iff.rfl (fun _ => h) fun _ => ?_
  rw [h.line hn]
  cases (s.line n).state with
  | idle => exact hidle h
  | seizing => exact hidle (alike_endSession_kept hn hw h ..)
  | _ => exact alike_refuseRing h _

theorem alike_messageAct {m : List Byte} {act : State → State} (hact : messageAct m n = some act) (h : Alike w s t) :
    Alike w (act s) (act t) := by
  have hlong {P : Prop} [Decidable P] {f : State → State} (hf : Alike w (f s) (f t)) (hact : (if P then some f else none) = some act) :
      Alike w (act s) (act t) := by
    split at hact
    · rw [← Option.some.inj hact]
      exact hf
    · cases hact
  unfold messageAct at hact
  dsimp only at hact
  split at hact
  · exact hlong (alike_onLineReady hn h) hact
  · exact hlong (alike_onLineNotReady hn hw h) hact
  · exact hlong (alike_onSeized hn h) hact
  · obtain ⟨f, -, rfl⟩ := Option.map_eq_some_iff.1 hact
    exact alike_onRing hn hw h f.1 f.2
  · exact hlong (alike_onAnswered hn hw h) hact
  · exact hlong (alike_onCallFailed hn h _) hact
  · exact hlong (alike_onCallFailed hn h _) hact
  · exact hlong (alike_onCallFailed hn h _) hact
  · exact hlong (alike_onPartialOk hn h) hact
  · exact hlong (alike_onRepeat hn h _) hact
  · exact hlong (alike_onPageConfirmed hn hw h) hact
  · exact hlong (alike_onPageRejected hn h) hact
  · exact hlong (alike_onRxPageBegin hn hw h ..) hact
  · obtain ⟨f, -, rfl⟩ := Option.map_eq_some_iff.1 hact
    exact h
  · exact hlong (alike_onRxPartialEnd hn hw h ..) hact
  · exact hlong (alike_onRemoteClear hn hw h) hact
  · exact hlong (alike_onCleared hn hw h) hact
  · cases hact

theorem alike_deliverTo (m : List Byte) (h : Alike w s t) : Alike w (deliverTo m s n) (deliverTo m t n) := by
  unfold deliverTo
  cases hact : messageAct m n with
  | none => exact h
  | some act =>
    dsimp only
    unfold deliver
    rw [h.rgw, h.line hn]
    refine .ite Iff.rfl (fun _ => h) fun _ => alike_messageAct hn hw hact ?_
    exact .ite Iff.rfl (fun _ => alike_restartTimer hn h) fun _ => h


end

end

theorem alike_deliverMessage {w : Slack} {s t : State} (hn : ∀ n, w.keepsLine n) (hw : w.keepsPages) (m : List Byte)
    (h : Alike w s t) : Alike w (deliverMessage m s) (deliverMessage m t) := by
  unfold deliverMessage
  refine .ite Iff.rfl (fun _ => .foldl (fun a b n hab => alike_deliverTo (hn n) hw m hab) h) fun _ => ?_
  cases lineOf (msgByte m 2) with
  | none => exact h
  | some n => exact alike_deliverTo (hn n) hw m h

theorem alike_takeItem {w : Slack} {s t : State} (hn : ∀ n, w.keepsLine n) (hw : w.keepsPages) (i : RxItem)
    (h : Alike w s t) : Alike w (takeItem s i) (takeItem t i) := by
  cases i with
  | message m failed => exact .ite Iff.rfl (fun _ => h) fun _ => alike_deliverMessage hn hw m h
  | block n b =>
    unfold takeItem judgeBlock
    dsimp only
    split
    · refine .ite Iff.rfl (fun _ => h) fun _ => alike_goodBlock (hn _) hw ?_ ..
      exact alike_inLine h n (f := fun l => { l with occupied := true }) fun _ => rfl
    · exact h

end Sys2Proof.Machine
end

section
/-! PROOFS. Messages as bytes: the row of a message and the delivery of its bytes, and the bytes that no row answers (R118). -/

namespace Sys2Proof.Machine

set_option Elab.async false

/-! ## The bytes of a message (11.7) -/

theorem lineOf_line (n : Line) : lineOf (BitVec.ofNat 8 n.val) = some n := by
  have hn : (BitVec.ofNat 8 n.val).toNat = n.val := by simp; omega
  unfold lineOf
  rw [dif_pos (by rw [hn]; exact n.isLt)]
  exact congrArg some (Fin.ext hn)

/-- The bytes of a message of kind `k` for line `n` with these parameters. -/
def messageOf (n : Line) (k : Byte) (ps : List Byte) : List Byte := BitVec.ofNat 8 (3 + ps.length) :: k :: BitVec.ofNat 8 n.val :: ps

/-- The bytes of a message do what the act of its kind does. -/
theorem deliverMessage_messageOf {n : Line} {k : Byte} {ps : List Byte} {act : State → State}
    (hact : messageAct (messageOf n k ps) n = some act) (s : State) : deliverMessage (messageOf n k ps) s = deliver n act s := by
  have hbyte : msgByte (messageOf n k ps) 2 = BitVec.ofNat 8 n.val := rfl
  have hall : msgByte (messageOf n k ps) 2 ≠ 0xFF := fun h => by
    have := congrArg BitVec.toNat (hbyte.symm.trans h)
    simp at this
    omega
  rw [deliverMessage, if_neg (fun h => hall h.1), hbyte, lineOf_line]
  dsimp only
  rw [deliverTo, hact]

/-- A message's row does what the delivery of its bytes does. -/
theorem exec_of_messageOf {c : Instr} {n : Line} {k : Byte} {ps : List Byte} {act : State → State} {s : State} (hup : s.linkUp = true)
    (hexec : exec c s = .next (delivered n act s)) (hact : messageAct (messageOf n k ps) n = some act) :
    exec c s = .next (deliverMessage (messageOf n k ps) s) := by
  rw [hexec, delivered, if_pos hup, deliverMessage_messageOf hact]

/-- The eight bytes of a block map. -/
theorem ofNat_mapBytes (map : BitVec 64) :
    BitVec.ofNat 64 (leNat ((List.range 8).map fun i => map.extractLsb' (8 * i) 8)) = map := by
  have hbytes : (List.range 8).map (fun i => map.extractLsb' (8 * i) 8) = le 8 map.toNat := by
    simp only [show List.range 8 = [0, 1, 2, 3, 4, 5, 6, 7] from rfl, List.map_cons, List.map_nil, le, Nat.div_div_eq_div_mul]
    have hbyte (i : Nat) : map.extractLsb' i 8 = BitVec.ofNat 8 (map.toNat / 2 ^ i) := by
      apply BitVec.eq_of_toNat_eq
      simp [BitVec.extractLsb'_toNat, Nat.shiftRight_eq_div_pow]
    simp only [hbyte]
    norm_num
  rw [hbytes, leNat_le]
  apply BitVec.eq_of_toNat_eq
  rw [BitVec.toNat_ofNat]
  have := map.isLt
  omega

theorem messageAct_repeat (n : Line) (map : BitVec 64) :
    messageAct (messageOf n 0x49 ((List.range 8).map fun i => map.extractLsb' (8 * i) 8)) n = some (onRepeat n map) := by
  refine Eq.trans ?_ (congrArg (fun m => some (onRepeat n m)) (ofNat_mapBytes map))
  rfl

theorem ringFields_messageOf (n : Line) {called ident : List Byte} (hc : called.length ≤ 8) (hi : ident.length ≤ 20) :
    ringFields (messageOf n 0x43 (BitVec.ofNat 8 called.length :: called ++ BitVec.ofNat 8 ident.length :: ident))
      = some (called, ident) := by
  obtain ⟨m, hm⟩ : ∃ m, m = messageOf n 0x43 (BitVec.ofNat 8 called.length :: called ++ BitVec.ofNat 8 ident.length :: ident) := ⟨_, rfl⟩
  have hcount : (msgByte m 3).toNat = called.length := by
    rw [hm]
    show (BitVec.ofNat 8 called.length).toNat = _
    rw [BitVec.toNat_ofNat, Nat.mod_eq_of_lt (by omega)]
  have hdrop4 : m.drop 4 = called ++ BitVec.ofNat 8 ident.length :: ident := by
    rw [hm]
    rfl
  have hdrop : m.drop (4 + called.length) = BitVec.ofNat 8 ident.length :: ident := by
    rw [← List.drop_drop, hdrop4, List.drop_left]
  have hident : (msgByte m (4 + called.length)).toNat = ident.length := by
    have : msgByte m (4 + called.length) = BitVec.ofNat 8 ident.length := by
      unfold msgByte
      rw [List.getD_eq_getElem?_getD, ← Nat.add_zero (4 + called.length), ← List.getElem?_drop, hdrop]
      rfl
    rw [this, BitVec.toNat_ofNat, Nat.mod_eq_of_lt (by omega)]
  have hlen : m.length = 5 + called.length + ident.length := by
    have := congrArg List.length hdrop
    rw [List.length_drop, List.length_cons] at this
    omega
  have hrest : m.drop (5 + called.length) = ident := by
    rw [show 5 + called.length = 4 + called.length + 1 by omega, ← List.drop_drop, hdrop]
    rfl
  rw [← hm]
  unfold ringFields
  dsimp only
  rw [hcount, hident, if_pos ⟨by omega, hc, hi⟩, hdrop4, hrest, List.take_left, List.take_length]

/-! ## Messages that nothing answers (R118, R125) -/

theorem deliverTo_of_pass {s : State} (h : s.rgw.state = .pass) (m : List Byte) (n : Line) : deliverTo m s n = s := by
  unfold deliverTo
  split
  · rfl
  · exact if_pos h

theorem deliverMessage_of_pass {s : State} (h : s.rgw.state = .pass) (m : List Byte) : deliverMessage m s = s := by
  unfold deliverMessage
  split
  · have hall (l : List Line) : l.foldl (deliverTo m) s = s := by
      induction l with
      | nil => rfl
      | cons n l ih => rw [List.foldl_cons, deliverTo_of_pass h, ih]
    exact hall allLines
  · split
    · rfl
    · exact deliverTo_of_pass h ..

theorem messageAct_of_noKind {m : List Byte} (h : (msgByte m 1).toNat < 0x40 ∨ 0x50 < (msgByte m 1).toNat) (n : Line) :
    messageAct m n = none := by
  unfold messageAct
  dsimp only
  split
  case h_18 => rfl
  all_goals omega

/-- A kind or a line of none has no act. -/
theorem deliverMessage_of_none {m : List Byte} {n k : Byte} (hn : m[2]? = some n) (hk : m[1]? = some k)
    (h : (8 ≤ n.toNat ∧ (n ≠ 0xFF ∨ (k ≠ 0x40 ∧ k ≠ 0x41))) ∨ k.toNat < 0x40 ∨ 0x50 < k.toNat) (s : State) :
    deliverMessage m s = s := by
  have hn' : msgByte m 2 = n := by rw [msgByte, List.getD_eq_getElem?_getD, hn]; rfl
  have hk' : msgByte m 1 = k := by rw [msgByte, List.getD_eq_getElem?_getD, hk]; rfl
  have hall : ¬(n = 0xFF ∧ (k = 0x40 ∨ k = 0x41)) := by
    rintro ⟨hff, hkind⟩
    rcases h with ⟨-, h | ⟨h0, h1⟩⟩ | h
    · exact h hff
    · exact hkind.elim h0 h1
    · rcases hkind with rfl | rfl <;> simp at h
  unfold deliverMessage
  rw [hn', hk', if_neg hall]
  rcases h with ⟨h, -⟩ | h
  · have hline : lineOf n = none := dif_neg (Nat.not_lt.2 h)
    rw [hline]
  · cases lineOf n with
    | none => rfl
    | some l =>
      dsimp only
      rw [deliverTo, messageAct_of_noKind (by rw [hk']; exact h)]

/-- LINE_READY and LINE_NOT_READY for every line are the messages for each (R124). -/
theorem deliverMessage_all {k : Byte} (hk : k = 0x40 ∨ k = 0x41) (s : State) : deliverMessage [3, k, 0xFF] s
    = allLines.foldl (fun v n => deliverMessage [3, k, BitVec.ofNat 8 n.val] v) s := by
  have hone (n : Line) (v : State) : deliverMessage [3, k, BitVec.ofNat 8 n.val] v = deliverTo [3, k, 0xFF] v n := by
    rcases hk with rfl | rfl
    · exact deliverMessage_messageOf (ps := []) (act := onLineReady n) rfl v
    · exact deliverMessage_messageOf (ps := []) (act := onLineNotReady n) rfl v
  simp only [hone]
  exact if_pos ⟨rfl, hk⟩

end Sys2Proof.Machine
end

section
/-! PROOFS. The end of a multiframe: the check, what it closes, and the things that wait for one good check taken in turn (R113). -/

namespace Sys2Proof.Machine

set_option Elab.async false

/-! ## The check (R113) -/

/-- The state that the items of a good check are taken in. -/
def State.goodCheck (s : State) : State :=
  { s with sli := { s.sli with
    mfEndDue := false, items := [], rxCrc := 0, inLines := Check.closing s.sli.inLines
    farEndErrors := if s.sli.rxReport = 0xFF then min (s.sli.farEndErrors + 1) 65535 else s.sli.farEndErrors } }

section

variable {s : State}

theorem exec_rxMultiframeEnd_of_good (hdue : s.sli.mfEndDue = true) (hcrc : s.sli.rxCrc = s.sli.rxCrcByte) :
    exec .rxMultiframeEnd s = .next (s.sli.items.foldl takeItem s.goodCheck) :=
  congrArg Host.Outcome.next ((if_pos hdue).trans (if_pos hcrc))

theorem exec_rxMultiframeEnd_of_bad (hdue : s.sli.mfEndDue = true) (hcrc : s.sli.rxCrc ≠ s.sli.rxCrcByte) :
    exec .rxMultiframeEnd s = .next (checkFails s) :=
  congrArg Host.Outcome.next ((if_pos hdue).trans (if_neg hcrc))

theorem exec_rxMultiframeEnd_of_notDue (hdue : s.sli.mfEndDue = false) : exec .rxMultiframeEnd s = .next s :=
  congrArg Host.Outcome.next (if_neg (by rw [hdue]; exact Bool.false_ne_true))

theorem closing_eq (l : Tab InLine) : Check.closing l = l.map fun e => (e.1, { e.2 with
    complete := false, opened := e.2.opened.map fun b => { b with failed := b.failed || (false && b.touched), touched := false } }) := rfl

theorem closing_unmarked (l : Tab InLine) : Check.closing l = l.map fun e => (e.1, { e.2 with
    complete := false, opened := e.2.opened.map fun b => { b with touched := false } }) := by
  rw [closing_eq]
  simp only [Bool.false_and, Bool.or_false]

theorem closing_closing (l : Tab InLine) : Check.closing (Check.closing l) = Check.closing l := by
  rw [closing_unmarked, closing_unmarked, List.map_map]
  refine List.map_congr_left fun e _ => ?_
  simp only [Function.comp_apply, Option.map_map]
  rfl

theorem inLine_closing (l : Tab InLine) (n : Nat) : Tab.getD (Check.closing l) n InLine.none = closeLine false (Tab.getD l n InLine.none) := by
  rw [Tab.getD, Tab.getD, Check.closing, Tab.get?_mapKeyed fun _ => closeLine false]
  cases Tab.get? l n <;> rfl

end

/-! ## Items in turn -/

/-- The state with nothing for the check, and this report byte. -/
def State.withReport (s : State) (b : Byte) : State :=
  { s with sli := s.sli.withCheck ⟨false, [], 0, b, Check.closing s.sli.inLines⟩ }

theorem alike_withReport (s : State) (b : Byte) : Alike (.check ⟨false, [], 0, b, []⟩) s (s.withReport b) := by
  refine ⟨{ s.own with check := ⟨false, [], 0, b, Check.closing s.sli.inLines⟩ }, rfl, ?_⟩
  exact ⟨rfl, (List.map_id' _).symm, rfl, rfl, rfl, rfl, rfl⟩

theorem withReport_of_alike {s t : State} {b : Byte} (h : Alike (.check ⟨false, [], 0, b, []⟩) s t) : t = s.withReport b := by
  obtain ⟨x, rfl, hx⟩ := h
  have hlines : x.lines = s.lne.lines := hx.lines
  have hdests : x.dests = s.dju.dests := hx.dests.trans (List.map_id' _)
  have hcheck : x.check = ⟨false, [], 0, b, Check.closing s.sli.inLines⟩ := hx.check
  have hsmp : x.smp = s.smp := hx.smp
  have hchg : x.chg = s.chg := hx.chg
  have hceu : x.ceu = s.ceu := hx.ceu
  have hdram : x.dram = s.dram := hx.dram
  unfold State.alter State.withReport
  rw [hlines, hdests, hcheck, hsmp, hchg, hceu, hdram]

theorem takeItem_withReport (s : State) (i : RxItem) (b : Byte) : takeItem (s.withReport b) i = (takeItem s i).withReport b :=
  withReport_of_alike (alike_takeItem (w := .check ⟨false, [], 0, b, []⟩) (fun _ => trivial) trivial i (alike_withReport s b))

theorem takeItems_withReport (is : List RxItem) (s : State) (b : Byte) :
    is.foldl takeItem (s.withReport b) = (is.foldl takeItem s).withReport b := by
  induction is generalizing s with
  | nil => rfl
  | cons i is ih => rw [List.foldl_cons, takeItem_withReport, ih, List.foldl_cons]

theorem withReport_withReport (s : State) (b c : Byte) : (s.withReport b).withReport c = s.withReport c := by
  unfold State.withReport Sli.withCheck
  dsimp only
  rw [closing_closing]

theorem withReport_goodCheck (s : State) : s.goodCheck.withReport s.sli.rxReport = s.goodCheck := by
  unfold State.withReport State.goodCheck Sli.withCheck
  dsimp only
  rw [closing_closing]

/-- Several items that wait for one good check are taken as if each had its own. -/
theorem rxMultiframeEnd_inTurn {s : State} {i : RxItem} {is : List RxItem} (hdue : s.sli.mfEndDue = true) (hcrc : s.sli.rxCrc = s.sli.rxCrcByte)
    (hitems : s.sli.items = i :: is) :
    ∃ v w, exec .rxMultiframeEnd { s with sli := { s.sli with items := [i] } } = .next v
      ∧ exec .rxMultiframeEnd { v with sli := { v.sli with
          items := is, mfEndDue := true, rxCrc := v.sli.rxCrcByte, rxReport := 0 } } = .next w
      ∧ exec .rxMultiframeEnd s = .next { w with sli := { w.sli with rxReport := s.sli.rxReport } } := by
  obtain ⟨v, hv⟩ : ∃ v, v = takeItem s.goodCheck i := ⟨_, rfl⟩
  have hsame : v = v.withReport s.sli.rxReport := by
    rw [hv, ← takeItem_withReport, withReport_goodCheck]
  have hfirst : exec .rxMultiframeEnd { s with sli := { s.sli with items := [i] } } = .next v := by
    rw [exec_rxMultiframeEnd_of_good (s := { s with sli := { s.sli with items := [i] } }) hdue hcrc, hv]
    rfl
  have hrest : exec .rxMultiframeEnd { v with sli := { v.sli with
      items := is, mfEndDue := true, rxCrc := v.sli.rxCrcByte, rxReport := 0 } } = .next (is.foldl takeItem (v.withReport 0)) := by
    rw [exec_rxMultiframeEnd_of_good (s := { v with sli := { v.sli with
      items := is, mfEndDue := true, rxCrc := v.sli.rxCrcByte, rxReport := 0 } }) rfl rfl]
    rfl
  refine ⟨v, _, hfirst, hrest, ?_⟩
  rw [exec_rxMultiframeEnd_of_good hdue hcrc, hitems, List.foldl_cons, ← hv, takeItems_withReport]
  refine congrArg Host.Outcome.next ?_
  have hall : is.foldl takeItem v = (is.foldl takeItem v).withReport s.sli.rxReport := by
    conv_lhs => rw [hsame]
    exact takeItems_withReport ..
  rw [hall]
  generalize is.foldl takeItem v = u
  unfold State.withReport Sli.withCheck
  dsimp only
  rw [closing_closing]

/-! ## A block that waits for a check that matches (R120, R140, R142) -/

section

variable {s : State} {n : Line} {b : InBlock}

theorem exec_rxMultiframeEnd_of_block (hdue : s.sli.mfEndDue = true) (hcrc : s.sli.rxCrc = s.sli.rxCrcByte)
    (hitems : s.sli.items = [.block n.val b]) : exec .rxMultiframeEnd s = .next (judgeBlock n.val b s.goodCheck) := by
  rw [exec_rxMultiframeEnd_of_good hdue hcrc, hitems]
  rfl

theorem judgeBlock_of_bad {u : State} (h : b.failed = true ∨ b.overrun = true) : judgeBlock n.val b u = u := by
  unfold judgeBlock
  rw [dif_pos n.isLt, if_pos h]

/-- The state that the LNE takes a good block in. -/
def State.holding (s : State) (n : Line) : State := setInLine n.val { s.goodCheck.inLine n.val with occupied := true } s.goodCheck

theorem judgeBlock_of_good (hf : b.failed = false) (ho : b.overrun = false) :
    judgeBlock n.val b s.goodCheck = goodBlock n b.partialPage b.block b.bytes (s.holding n) := by
  unfold judgeBlock
  rw [dif_pos n.isLt, if_neg (by rw [hf, ho]; simp)]
  rfl

/-- The line's inbound block after a good check: its buffer as `occupied` says, and its open block as the check left it. -/
def State.inboundIs (u s : State) (n : Line) (occupied : Bool) : Prop :=
  (u.inLine n.val).occupied = occupied ∧ (u.inLine n.val).complete = false
    ∧ (u.inLine n.val).opened = (s.inLine n.val).opened.map (fun x => { x with touched := false })
    ∧ ∀ k, k ≠ n.val → Tab.get? u.sli.inLines k = Tab.get? (Check.closing s.sli.inLines) k

theorem inLine_goodCheck (s : State) (n : Line) : s.goodCheck.inLine n.val = { s.inLine n.val with
    complete := false, opened := (s.inLine n.val).opened.map fun x => { x with touched := false } } := by
  refine (inLine_closing s.sli.inLines n.val).trans ?_
  unfold closeLine
  simp only [Bool.false_and, Bool.or_false]
  rfl

theorem inboundIs_holding (s : State) (n : Line) : (s.holding n).inboundIs s n true := by
  unfold State.inboundIs State.holding
  rw [inLine_setInLine, inLine_goodCheck]
  exact ⟨rfl, rfl, rfl, fun k hk => Tab.get?_set_of_ne _ _ hk⟩

/-- The part in which the buffer has been given up again. -/
def State.releasedFrom (s : State) (n : Line) : State := releaseBuffer n.val (s.holding n)

theorem inboundIs_releasedFrom (s : State) (n : Line) : (s.releasedFrom n).inboundIs s n false := by
  obtain ⟨-, -, hopen, hothers⟩ := inboundIs_holding s n
  unfold State.releasedFrom State.inboundIs releaseBuffer
  rw [inLine_setInLine]
  exact ⟨rfl, rfl, hopen, fun k hk => (Tab.get?_set_of_ne _ _ hk).trans (hothers k hk)⟩

theorem State.inboundIs.of_sli {u v s : State} {occupied : Bool} (h : u.inboundIs s n occupied) (hv : v.sli.inLines = u.sli.inLines) :
    v.inboundIs s n occupied := by
  unfold State.inboundIs State.inLine at h ⊢
  rw [hv]
  exact h

end

end Sys2Proof.Machine
end

section
/-! PROOFS. A frame in MF_SYNC with a good slot 0: the receiver's registers move on, and the bytes of the message slot and of the
data slots are taken (R110 to R113, R118, R120). -/

namespace Sys2Proof.Machine

set_option Elab.async false

section

variable {s : State} {slots : List Byte}

/-- The receiver after a frame with a good slot 0, but for what its bytes bring. -/
def State.movedOn (s : State) (slots : List Byte) : Sli :=
  { s.sli with
    rxOdd := !s.sli.rxOdd, alignRun := if s.sli.rxOdd then s.sli.alignRun else 0
    serviceRun := if s.sli.rxOdd then 0 else s.sli.serviceRun
    evenMarks := if s.sli.rxOdd then s.sli.evenMarks else (marked slots :: s.sli.evenMarks).take 8
    markMissed := if s.sli.rxFrameNo = 0 then !marked slots else s.sli.markMissed
    rxCrc := crc8 (if s.sli.rxFrameNo = 0 then 0 else s.sli.rxCrc) ((slots.drop 1).take (if s.sli.rxFrameNo = 15 then 11 else 12))
    rxCrcByte := if s.sli.rxFrameNo = 15 then slots.getD 12 0 else s.sli.rxCrcByte
    rxReport := if s.sli.rxFrameNo = 1 then slots.getD 12 0 else s.sli.rxReport
    shelfHold := slots.getD 11 0, rxFrameNo := (s.sli.rxFrameNo + 1) % 16, mfEndDue := decide (s.sli.rxFrameNo = 15) }

/-- The part as the bytes of the frame find it. -/
def State.frameMet (s : State) (slots : List Byte) : State :=
  { s with sli := { s.movedOn slots with rxFrameNo := s.sli.rxFrameNo, mfEndDue := s.sli.mfEndDue } }

/-- Slot 0 of the frame is good. -/
def State.goodSlot0 (s : State) (b : Byte) : Prop :=
  if s.sli.rxOdd then b.getLsbD 7 = false ∧ b.getLsbD 6 = s.sli.rxAlarm else b = 0xE4

/-- The part once a good slot 0 has been taken. -/
def State.slot0Good (s : State) : State :=
  { s with sli := { s.sli with
    rxOdd := !s.sli.rxOdd, alignRun := if s.sli.rxOdd then s.sli.alignRun else 0
    serviceRun := if s.sli.rxOdd then 0 else s.sli.serviceRun } }

theorem slot0_of_good {b : Byte} (h : s.goodSlot0 b) : s.slot0 b = s.slot0Good := by
  unfold State.goodSlot0 at h
  unfold State.slot0
  cases hodd : s.sli.rxOdd with
  | false =>
    rw [hodd, if_neg Bool.false_ne_true] at h
    rw [if_neg Bool.false_ne_true, h, evenSlot0_of_good]
    unfold State.turned State.slot0Good
    rw [hodd]
    rfl
  | true =>
    rw [hodd, if_pos rfl] at h
    obtain ⟨h7, h6⟩ := h
    have halarm : s.turned.linkUp = false ∨ s.turned.sli.rxAlarm = true ∨ b.getLsbD 6 = false := by
      rw [h6]
      cases ha : s.sli.rxAlarm with
      | false => exact .inr (.inr rfl)
      | true => exact .inr (.inl ha)
    rw [if_pos rfl, oddSlot0_of_good h7 halarm, h6]
    unfold State.turned State.slot0Good
    rw [hodd]
    rfl

/-- The bytes of a frame with a good slot 0 are taken. -/
theorem exec_rxFrame_of_good (hup : s.phase = .up) (hsync : s.sli.frame = .sync) (hmf : s.sli.mf = .mfSync) (hdue : s.sli.mfEndDue = false)
    (hlen : slots.length = 13) (h0 : s.goodSlot0 (slots.getD 0 0))
    (hm : s.sli.rxFrameNo = 0 → marked slots = true ∨ s.sli.markMissed = false) : exec (.rxFrame slots) s
      = .next ((messageByte (slots.getD 9 0) ((s.frameMet slots).blocksIn slots)).frameOver s.sli.rxFrameNo) := by
  rw [exec_rxFrame_of_sync hup hlen hsync hdue, slot0_of_good h0, if_pos (show s.slot0Good.sli.frame = .sync from hsync)]
  refine congrArg Host.Outcome.next ((mfFrame_of_mfSync (s := s.slot0Good) hmf hm).trans ?_)
  rw [mfContents_eq]
  rfl

/-! ## Block bytes -/

theorem blocksIn_of_none (h : slots.getD 10 0 = 0) : s.blocksIn slots = s := by
  have hnone : (allLines.filter fun n => (slots.getD 10 0).getLsbD n.val) = [] := by
    rw [h]
    rfl
  unfold State.blocksIn
  rw [hnone]
  rfl

theorem blocksIn_of_one {n : Line} (h : slots.getD 10 0 = BitVec.twoPow 8 n.val) :
    s.blocksIn slots = blockByte s n (slots.getD (n.val + 1) 0) := by
  have hfilter (n : Line) : (allLines.filter fun m => (BitVec.twoPow 8 n.val).getLsbD m.val) = [n] := by
    revert n
    decide
  unfold State.blocksIn
  rw [h, hfilter]
  rfl

/-- An open block with one byte more. -/
def InBlock.grown (blk : InBlock) (b : Byte) : InBlock :=
  { blk with count := blk.count + 1, touched := true, bytes := if blk.overrun then blk.bytes else blk.bytes ++ [b] }

theorem blockByte_of_open {n : Line} {blk : InBlock} (h : (s.inLine n.val).opened = some blk) (b : Byte) : blockByte s n b
    = if (blk.grown b).count < (blk.grown b).len then setInLine n.val { s.inLine n.val with opened := some (blk.grown b) } s
      else setInLine n.val { s.inLine n.val with opened := none, complete := true }
        { s with sli := { s.sli with items := s.sli.items ++ [.block n.val (blk.grown b)] } } := by
  unfold blockByte
  dsimp only
  rw [h]
  rfl

theorem messageByte_of_gap (h : s.sli.asm = .gap) : messageByte 0 s = s := by
  unfold messageByte
  rw [h]
  rfl

/-- A byte in the slot of a line joins that line's open block. -/
theorem rxFrame_blockByte {n : Line} {blk got : InBlock} (h10 : slots.getD 10 0 = BitVec.twoPow 8 n.val) (h9 : slots.getD 9 0 = 0) (hasm : s.sli.asm = .gap)
    (hopen : (s.inLine n.val).opened = some blk) (hgot : got = blk.grown (slots.getD (n.val + 1) 0)) :
    ∃ u, (messageByte (slots.getD 9 0) ((s.frameMet slots).blocksIn slots)).frameOver s.sli.rxFrameNo = u
      ∧ u = { s with sli := { s.movedOn slots with
          inLines := u.sli.inLines
          items := if got.count < got.len then s.sli.items else s.sli.items ++ [.block n.val got] } }
      ∧ u.inLine n.val = (if got.count < got.len then { s.inLine n.val with opened := some got }
          else { s.inLine n.val with opened := none, complete := true })
      ∧ ∀ k, k ≠ n.val → u.inLine k = s.inLine k := by
  have hgap {l : InLine} {w : State} (hw : w.sli.asm = .gap) : messageByte 0 (setInLine n.val l w) = setInLine n.val l w :=
    messageByte_of_gap hw
  rw [h9, blocksIn_of_one h10, blockByte_of_open (s := s.frameMet slots) hopen, ← hgot]
  by_cases hc : got.count < got.len
  · simp only [if_pos hc]
    refine ⟨_, congrArg (State.frameOver · s.sli.rxFrameNo) (hgap hasm), rfl, inLine_setInLine ..,
      fun k hk => inLine_setInLine_of_ne _ _ hk⟩
  · simp only [if_neg hc]
    refine ⟨_, congrArg (State.frameOver · s.sli.rxFrameNo) (hgap hasm), rfl, inLine_setInLine ..,
      fun k hk => inLine_setInLine_of_ne _ _ hk⟩

/-! ## The byte of the message slot (R118) -/

theorem messageByte_of_skip (h : s.sli.asm = .skip) (b : Byte) :
    messageByte b s = { s with sli := if b = 0 then { s.sli with asm := .gap } else s.sli } := by
  unfold messageByte
  rw [h]
  dsimp only
  split <;> rfl

theorem messageByte_of_start (h : s.sli.asm = .gap) (b : Byte) : messageByte b s = { s with sli :=
    if b = 0 then s.sli
    else if 3 ≤ b.toNat ∧ b.toNat ≤ 40 then { s.sli with asm := .inMessage, asmLen := b.toNat, asmBytes := [b], asmFailed := false }
    else { s.sli with asm := .skip } } := by
  unfold messageByte
  rw [h]
  dsimp only
  split
  · rfl
  · split <;> rfl

theorem messageByte_of_more {b : Byte} (h : s.sli.asm = .inMessage) (hlen : (s.sli.asmBytes ++ [b]).length < s.sli.asmLen) :
    messageByte b s = { s with sli := { s.sli with asmBytes := s.sli.asmBytes ++ [b] } } := by
  unfold messageByte
  rw [h]
  dsimp only
  rw [if_pos hlen]

/-- The receiver with a whole message that waits for the check. -/
def State.assembled (s : State) (m : List Byte) : State :=
  { s with sli := { s.sli with asm := .gap, asmLen := 0, asmBytes := [], asmFailed := false,
                               items := s.sli.items ++ [.message m s.sli.asmFailed] } }

theorem messageByte_of_last {b : Byte} (h : s.sli.asm = .inMessage) (hlen : s.sli.asmLen ≤ (s.sli.asmBytes ++ [b]).length)
    (hnone : rxBlockFields (s.sli.asmBytes ++ [b]) = none) : messageByte b s = s.assembled (s.sli.asmBytes ++ [b]) := by
  unfold messageByte
  rw [h]
  dsimp only
  rw [if_neg (Nat.not_lt.2 hlen), messageComplete, hnone]
  rfl

/-- A whole RX_BLOCK opens its block. -/
theorem messageByte_of_rxBlock {b : Byte} (h : s.sli.asm = .inMessage) (hlen : s.sli.asmLen ≤ (s.sli.asmBytes ++ [b]).length)
    {n : Line} {pp blk len : Nat} (hsome : rxBlockFields (s.sli.asmBytes ++ [b]) = some (n, pp, blk, len)) :
    messageByte b s = openBlock n.val pp blk len s.sli.asmFailed (s.assembled (s.sli.asmBytes ++ [b])) := by
  unfold messageByte
  rw [h]
  dsimp only
  rw [if_neg (Nat.not_lt.2 hlen), messageComplete, hsome]
  rfl

theorem rxBlockFields_of_other {m : List Byte} (h : m[1]? ≠ some 0x4D) : rxBlockFields m = none := by
  unfold rxBlockFields
  dsimp only
  cases lineOf (msgByte m 2) with
  | none => rfl
  | some n =>
    refine if_neg fun hc => h ?_
    obtain ⟨hkind, hlong, -⟩ := hc
    rw [msgByte, List.getD_eq_getElem?_getD] at hkind
    rw [List.getElem?_eq_getElem (by omega)] at hkind ⊢
    exact congrArg some hkind

theorem rxBlockFields_whole (n : Line) (x pp blk l0 l1 : Byte) (hb : blk.toNat ≤ 63) (h1 : 1 ≤ l0.toNat + 256 * l1.toNat)
    (h2 : l0.toNat + 256 * l1.toNat ≤ 256) : rxBlockFields [x, 0x4D, BitVec.ofNat 8 n.val, pp, blk, l0, l1]
      = some (n, pp.toNat, blk.toNat, l0.toNat + 256 * l1.toNat) := by
  have hlen : leNat (([x, 0x4D, BitVec.ofNat 8 n.val, pp, blk, l0, l1].drop 5).take 2) = l0.toNat + 256 * l1.toNat := rfl
  have hline : lineOf (msgByte [x, 0x4D, BitVec.ofNat 8 n.val, pp, blk, l0, l1] 2) = some n := lineOf_line n
  unfold rxBlockFields
  rw [hline, hlen]
  exact if_pos ⟨rfl, Nat.le_refl 7, hb, h1, h2⟩

/-! ## A frame without block bytes -/

section

variable (h10 : slots.getD 10 0 = 0)
include h10

theorem rxFrame_gap (hasm : s.sli.asm = .gap) :
    (messageByte (slots.getD 9 0) ((s.frameMet slots).blocksIn slots)).frameOver s.sli.rxFrameNo = { s with
      sli := if slots.getD 9 0 = 0 then s.movedOn slots
      else if 3 ≤ (slots.getD 9 0).toNat ∧ (slots.getD 9 0).toNat ≤ 40 then
        { s.movedOn slots with
          asm := .inMessage, asmLen := (slots.getD 9 0).toNat, asmBytes := [slots.getD 9 0], asmFailed := false }
      else { s.movedOn slots with asm := .skip } } := by
  rw [blocksIn_of_none h10, messageByte_of_start (s := s.frameMet slots) hasm]
  split
  · rfl
  · split <;> rfl

theorem rxFrame_skip (hasm : s.sli.asm = .skip) :
    (messageByte (slots.getD 9 0) ((s.frameMet slots).blocksIn slots)).frameOver s.sli.rxFrameNo = { s with
      sli := if slots.getD 9 0 = 0 then { s.movedOn slots with asm := .gap } else s.movedOn slots } := by
  rw [blocksIn_of_none h10, messageByte_of_skip (s := s.frameMet slots) hasm]
  split <;> rfl

theorem rxFrame_more (hasm : s.sli.asm = .inMessage) (hmore : (s.sli.asmBytes ++ [slots.getD 9 0]).length < s.sli.asmLen) :
    (messageByte (slots.getD 9 0) ((s.frameMet slots).blocksIn slots)).frameOver s.sli.rxFrameNo = { s with
      sli := { s.movedOn slots with asmBytes := s.sli.asmBytes ++ [slots.getD 9 0] } } := by
  rw [blocksIn_of_none h10, messageByte_of_more (s := s.frameMet slots) hasm hmore]
  rfl

/-- The receiver once the message `m` is whole and waits for the check. -/
def State.wholeMessage (s : State) (slots : List Byte) (m : List Byte) : Sli :=
  { s.movedOn slots with
    asm := .gap, asmLen := 0, asmBytes := [], asmFailed := false, items := s.sli.items ++ [.message m s.sli.asmFailed] }

theorem rxFrame_last (hasm : s.sli.asm = .inMessage) (hlast : s.sli.asmLen ≤ (s.sli.asmBytes ++ [slots.getD 9 0]).length)
    (hother : (s.sli.asmBytes ++ [slots.getD 9 0])[1]? ≠ some 0x4D) :
    (messageByte (slots.getD 9 0) ((s.frameMet slots).blocksIn slots)).frameOver s.sli.rxFrameNo
      = { s with sli := s.wholeMessage slots (s.sli.asmBytes ++ [slots.getD 9 0]) } := by
  rw [blocksIn_of_none h10, messageByte_of_last (s := s.frameMet slots) hasm hlast (rxBlockFields_of_other hother)]
  rfl

/-- A whole RX_BLOCK opens its block. -/
theorem rxFrame_opens (hasm : s.sli.asm = .inMessage) (hlast : s.sli.asmLen ≤ (s.sli.asmBytes ++ [slots.getD 9 0]).length)
    {n : Line} {x pp blk l0 l1 : Byte} (hmsg : s.sli.asmBytes ++ [slots.getD 9 0] = [x, 0x4D, BitVec.ofNat 8 n.val, pp, blk, l0, l1])
    (hb : blk.toNat ≤ 63) (h1 : 1 ≤ l0.toNat + 256 * l1.toNat) (h2 : l0.toNat + 256 * l1.toNat ≤ 256) :
    ∃ u, (messageByte (slots.getD 9 0) ((s.frameMet slots).blocksIn slots)).frameOver s.sli.rxFrameNo = u
      ∧ u = { s with sli := { s.wholeMessage slots (s.sli.asmBytes ++ [slots.getD 9 0]) with inLines := u.sli.inLines } }
      ∧ u.inLine n.val = { s.inLine n.val with
          opened := some { partialPage := pp.toNat, block := blk.toNat, len := l0.toNat + 256 * l1.toNat, count := 0,
                           overrun := (s.inLine n.val).complete || (s.inLine n.val).occupied, failed := s.sli.asmFailed,
                           touched := true, bytes := [] } }
      ∧ ∀ k, k ≠ n.val → u.inLine k = s.inLine k := by
  have hfields := (congrArg rxBlockFields hmsg).trans (rxBlockFields_whole n x pp blk l0 l1 hb h1 h2)
  obtain ⟨whole, hwhole⟩ : ∃ whole, whole = s.wholeMessage slots (s.sli.asmBytes ++ [slots.getD 9 0]) := ⟨_, rfl⟩
  obtain ⟨fresh, hfresh⟩ : ∃ fresh : InBlock, fresh =
    { partialPage := pp.toNat, block := blk.toNat, len := l0.toNat + 256 * l1.toNat, count := 0,
      overrun := (s.inLine n.val).occupied || (s.inLine n.val).complete, failed := s.sli.asmFailed, touched := true,
      bytes := [] } := ⟨_, rfl⟩
  have heq : (messageByte (slots.getD 9 0) ((s.frameMet slots).blocksIn slots)).frameOver s.sli.rxFrameNo
      = setInLine n.val { s.inLine n.val with opened := some fresh } { s with sli := whole } := by
    rw [blocksIn_of_none h10, messageByte_of_rxBlock (s := s.frameMet slots) hasm hlast hfields, hwhole, hfresh]
    rfl
  rw [Bool.or_comm, ← hfresh, ← hwhole, heq]
  have hsame (k : Nat) : ({ s with sli := whole } : State).inLine k = s.inLine k := by
    rw [hwhole]
    rfl
  exact ⟨_, rfl, rfl, inLine_setInLine .., fun k hk => (inLine_setInLine_of_ne _ _ hk).trans (hsame k)⟩

end

end

end Sys2Proof.Machine
end

section
/-! PROOFS. What the LNE does with a good block: it gives the buffer up again, takes the block into the page's store, or ends the
session for want of segments (R140, R142, log 27). -/

namespace Sys2Proof.Machine

set_option Elab.async false

section

variable {v : State} {n : Line} {pp b p : Nat} {bytes : List Byte} {r : PageRec}

/-- The record of a line that a good block has reached: in RECEIVING its block gap timer starts afresh. -/
def State.blockMet (s : State) (n : Line) : LineRec := if (s.line n).state = .receiving then s.gapStarted n else s.line n

theorem blockMet_fields (s : State) (n : Line) : ∃ x y, s.blockMet n = { s.line n with timer := x, remaining := y } := by
  unfold State.blockMet
  split
  · exact ⟨_, _, rfl⟩
  · exact ⟨_, _, rfl⟩

/-- Up to the block's own part, the line's timer is all that a good block changes. -/
theorem restarted_spec (v : State) (n : Line) :
    ∃ t, (if (v.line n).state = .receiving then restartTimer n v else v) = t
      ∧ t = { v with lne := { v.lne with lines := t.lne.lines } } ∧ t.line n = v.blockMet n ∧ ∀ m, m ≠ n → t.line m = v.line m := by
  unfold State.blockMet
  by_cases hr : (v.line n).state = .receiving
  · rw [if_pos hr, if_pos hr, restartTimer_of_receiving hr]
    exact ⟨_, rfl, rfl, line_setLine_self .., fun m hm => line_setLine_of_ne _ _ hm⟩
  · rw [if_neg hr, if_neg hr]
    exact ⟨v, rfl, rfl, rfl, fun _ _ => rfl⟩

/-- A block that no page takes. -/
theorem goodBlock_of_untaken (h : (v.line n).page = none ∨ ¬((v.line n).state = .receiving ∨ (v.line n).state = .rxCheck)
    ∨ (v.line n).cut = true ∨ pp ≠ (v.line n).partialPage) :
    ∃ t, goodBlock n pp b bytes v = releaseBuffer n.val t
      ∧ t = { v with lne := { v.lne with lines := t.lne.lines } } ∧ t.line n = v.blockMet n ∧ ∀ m, m ≠ n → t.line m = v.line m := by
  obtain ⟨t, ht, hframe, hn, hothers⟩ := restarted_spec v n
  obtain ⟨x, y, hmet⟩ := blockMet_fields v n
  refine ⟨t, ?_, hframe, hn, hothers⟩
  unfold goodBlock
  dsimp only
  rw [ht, hn, hmet]
  cases hpage : (v.line n).page with
  | none => cases t.linePage n <;> rfl
  | some p =>
    cases t.linePage n with
    | none => rfl
    | some r =>
      refine if_neg fun hc => ?_
      obtain ⟨hst, hcut, hpp⟩ := hc
      rcases h with h | h | h | h
      · rw [hpage] at h
        cases h
      · exact h hst
      · have hcut' : (!(v.line n).cut) = true := hcut
        rw [h] at hcut'
        cases hcut'
      · exact h hpp

/-- A block for the page in hand. -/
theorem goodBlock_of_page (hpage : (v.line n).page = some p) (hp : v.page? p = some r)
    (hst : (v.line n).state = .receiving ∨ (v.line n).state = .rxCheck) (hcut : (v.line n).cut = false) (hpp : pp = (v.line n).partialPage) :
    ∃ t, goodBlock n pp b bytes v
        = (if segsMissing r (blockOffset pp b + bytes.length) = 0
            ∨ v.psm.scanReserve + segsMissing r (blockOffset pp b + bytes.length) ≤ v.freeCount then
          setLine n { ((giveSegments p (segsMissing r (blockOffset pp b + bytes.length)) t).1).line n with
              storing := some { partialPage := pp, block := b, bytes := bytes } }
            (giveSegments p (segsMissing r (blockOffset pp b + bytes.length)) t).1
        else storeExhausted n t)
      ∧ t = { v with lne := { v.lne with lines := t.lne.lines } } ∧ t.line n = v.blockMet n ∧ ∀ m, m ≠ n → t.line m = v.line m := by
  obtain ⟨t, ht, hframe, hn, hothers⟩ := restarted_spec v n
  obtain ⟨x, y, hmet⟩ := blockMet_fields v n
  refine ⟨t, ?_, hframe, hn, hothers⟩
  have htp : t.page? p = some r := by rw [hframe]; exact hp
  have htpage : (t.line n).page = some p := by rw [hn, hmet]; exact hpage
  have hlp : t.linePage n = some r := by
    unfold State.linePage
    rw [htpage]
    exact htp
  have hcond : ((t.line n).state = .receiving ∨ (t.line n).state = .rxCheck) ∧ (!(t.line n).cut) = true ∧ pp = (t.line n).partialPage := by
    rw [hn, hmet]
    exact ⟨hst, by rw [show (({ v.line n with timer := x, remaining := y } : LineRec).cut) = false from hcut]; rfl, hpp⟩
  have hfree : t.freeCount = v.freeCount := by rw [hframe]; rfl
  have hres : t.psm.scanReserve = v.psm.scanReserve := by rw [hframe]
  unfold goodBlock
  dsimp only
  rw [ht, hlp, htpage]
  dsimp only
  rw [if_pos hcond, hfree, hres]

end

/-! ## The outcome for a block that waited for its check (R120) -/

section

variable {s : State} {n : Line} {b : InBlock} {p : Nat} {r : PageRec}

theorem holding_eq (s : State) (n : Line) :
    s.holding n = { s with sli := { s.goodCheck.sli with inLines := (s.holding n).sli.inLines } } := rfl

theorem releasedFrom_eq (s : State) (n : Line) :
    s.releasedFrom n = { s with sli := { s.goodCheck.sli with inLines := (s.releasedFrom n).sli.inLines } } := rfl

/-- A block that no page takes leaves the line's timer and its inbound block changed. -/
theorem judged_untaken (hf : b.failed = false) (ho : b.overrun = false)
    (h : (s.line n).page = none ∨ ¬((s.line n).state = .receiving ∨ (s.line n).state = .rxCheck) ∨ (s.line n).cut = true
      ∨ b.partialPage ≠ (s.line n).partialPage) :
    ∃ u, judgeBlock n.val b s.goodCheck = u ∧ u.inboundIs s n false
      ∧ u = { s with sli := { s.goodCheck.sli with inLines := u.sli.inLines }, lne := { s.lne with lines := u.lne.lines } }
      ∧ u.line n = s.blockMet n ∧ ∀ m, m ≠ n → u.line m = s.line m := by
  obtain ⟨t, ht, hframe, hn, hothers⟩ := goodBlock_of_untaken (v := s.holding n) (n := n) (pp := b.partialPage) (b := b.block)
    (bytes := b.bytes) h
  refine ⟨releaseBuffer n.val t, (judgeBlock_of_good hf ho).trans ht, (inboundIs_releasedFrom s n).of_sli ?_, ?_, hn, hothers⟩
  · rw [hframe]
    rfl
  · rw [hframe]
    rfl

/-- A block taken into the page's store. -/
theorem judged_taken (hf : b.failed = false) (ho : b.overrun = false) (hpage : (s.line n).page = some p) (hp : s.page? p = some r)
    (hst : (s.line n).state = .receiving ∨ (s.line n).state = .rxCheck) (hcut : (s.line n).cut = false)
    (hpp : b.partialPage = (s.line n).partialPage) {missing : Nat}
    (hmiss : missing = segsFor (16384 * b.partialPage + 256 * b.block + b.bytes.length) - r.chain.length)
    (hroom : missing = 0 ∨ s.psm.scanReserve + missing ≤ s.freeCount) :
    ∃ u, judgeBlock n.val b s.goodCheck = u ∧ u.inboundIs s n true
      ∧ u = { s with
          sli := { s.goodCheck.sli with inLines := u.sli.inLines }, lne := { s.lne with lines := u.lne.lines }
          psm := { s.psm with pages := u.psm.pages, stack := s.psm.stack.drop missing, lowArmed := u.psm.lowArmed }
          ceu := u.ceu, dram := u.dram }
      ∧ u.line n = { s.blockMet n with
          storing := some { partialPage := b.partialPage, block := b.block, bytes := b.bytes } }
      ∧ (∀ m, m ≠ n → u.line m = s.line m)
      ∧ u.page? p = some { r with chain := r.chain ++ s.psm.stack.take missing } ∧ (∀ q, q ≠ p → u.page? q = s.page? q)
      ∧ (missing = 0 → u.psm.lowArmed = s.psm.lowArmed ∧ u.ceu = s.ceu ∧ u.dram = s.dram) := by
  obtain ⟨t, ht, hframe, hn, hothers⟩ := goodBlock_of_page (v := s.holding n) (b := b.block) (bytes := b.bytes) hpage hp hst hcut hpp
  have hsegs : segsMissing r (blockOffset b.partialPage b.block + b.bytes.length) = missing := hmiss.symm
  rw [hsegs, if_pos (show missing = 0 ∨ (s.holding n).psm.scanReserve + missing ≤ (s.holding n).freeCount from hroom)] at ht
  have htp : t.page? p = some r := by rw [hframe]; exact hp
  have hstack : t.psm.stack = s.psm.stack := by rw [hframe]; rfl
  have hlen : missing ≤ t.psm.stack.length := by
    rw [hstack]
    rcases hroom with h | h
    · omega
    · exact (Nat.le_add_left ..).trans h
  obtain ⟨g, ps, a, c, m, hgive, hg, hself, hpages, -⟩ := giveSegments_spec htp hlen
  have hzero : missing = 0 → g = t := fun hz => by
    rw [hz] at hgive
    exact (congrArg Prod.fst hgive).symm
  rw [hgive] at ht
  have hgl (m : Line) : g.line m = t.line m := by rw [hg]; rfl
  refine ⟨_, (judgeBlock_of_good hf ho).trans ht, (inboundIs_holding s n).of_sli ?_, ?_, ?_, fun m hm => ?_, ?_, fun q hq => ?_,
    fun hz => ?_⟩
  · show g.sli.inLines = _
    rw [hg, hframe]
  · show setLine n _ g = _
    rw [hg, hframe]
    rfl
  · rw [line_setLine_self]
    dsimp only
    rw [hgl, hn]
    rfl
  · rw [line_setLine_of_ne _ _ hm, hgl, hothers m hm]
    rfl
  · show g.page? p = _
    rw [hg, ← hstack]
    exact hself
  · show g.page? q = _
    rw [hg]
    refine (hpages q hq).trans ?_
    rw [hframe]
    rfl
  · show g.psm.lowArmed = _ ∧ g.ceu = _ ∧ g.dram = _
    rw [hzero hz, hframe]
    exact ⟨rfl, rfl, rfl⟩

/-- Pages closed early from states that differ in the closing line's own record. -/
theorem closedEarly_of_lines {x y v : State} {l : LineRec} {kept : Nat} (h : ClosedEarly x v n l p kept r)
    (hx : x = { y with lne := { y.lne with lines := x.lne.lines } }) (hlines : ∀ m, m ≠ n → x.line m = y.line m) :
    ClosedEarly y v n l p kept r := by
  obtain ⟨hframe, hn, hothers, hpages, hsealed, hfreed, hmem⟩ := h
  obtain ⟨hretp, hretc⟩ := returned_congr (s := y) (t := x) (by rw [hx]) (by rw [hx]) (by rw [hx]) (by rw [hx])
    (r.chain.drop (segsFor kept)).reverse
  refine ⟨?_, hn, fun m hm => (hothers m hm).trans (hlines m hm), fun q hq => (hpages q hq).trans ?_, fun hz => ?_, fun hz => ?_, ?_⟩
  · obtain ⟨f, hf⟩ : ∃ f, f = x.returned (r.chain.drop (segsFor kept)).reverse := ⟨_, rfl⟩
    have hframe' : v = { x with
        lne := { x.lne with lines := v.lne.lines }, psm := { f.psm with pages := v.psm.pages }, ceu := f.ceu
        dju := { x.dju with docs := v.dju.docs, passDue := x.dju.passDue || decide (kept ≠ 0) }, dram := v.dram } := by
      rw [hf]
      exact hframe
    rw [hf, hretp, hretc, hx] at hframe'
    exact hframe'
  · rw [hx]
    rfl
  · rw [hx] at hsealed
    exact hsealed hz
  · rw [hx] at hfreed
    exact hfreed hz
  · rw [hx] at hmem
    exact hmem

/-- A handing sees the queue and the messages that wait, and changes nothing else of the link. -/
theorem hand_sli_queue {t : State} (m : Line) (k : TxKind) (hq : t.sli.queue = s.sli.queue) (hh : t.sli.handings = s.sli.handings) :
    (hand m k t).sli = { t.sli with queue := (hand m k s).sli.queue, handings := (hand m k s).sli.handings } := by
  unfold hand
  rw [hq, hh]
  split
  · exact congrArg (fun h => ({ t.sli with queue := s.sli.queue ++ [k.msg m], handings := h } : Sli)) hh
  · exact congrArg (fun q => ({ t.sli with queue := q, handings := s.sli.handings ++ [k.msg m] } : Sli)) hq

/-- A block that would take the stack below the scan reserve ends the session. -/
theorem judged_exhausted (hf : b.failed = false) (ho : b.overrun = false) (hpage : (s.line n).page = some p) (hp : s.page? p = some r)
    (hst : (s.line n).state = .receiving ∨ (s.line n).state = .rxCheck) (hcut : (s.line n).cut = false)
    (hpp : b.partialPage = (s.line n).partialPage)
    (hmiss : 0 < segsFor (16384 * b.partialPage + 256 * b.block + b.bytes.length) - r.chain.length)
    (hfew : s.freeCount < s.psm.scanReserve + (segsFor (16384 * b.partialPage + 256 * b.block + b.bytes.length) - r.chain.length)) :
    ∃ x, judgeBlock n.val b s.goodCheck = abandonLine n .storeFull (closeEarly n x)
      ∧ x = { s with sli := { s.goodCheck.sli with inLines := x.sli.inLines }, lne := { s.lne with lines := x.lne.lines } }
      ∧ x.inboundIs s n false ∧ x.line n = s.blockMet n ∧ ∀ m, m ≠ n → x.line m = s.line m := by
  obtain ⟨t, ht, hframe, hn, hothers⟩ := goodBlock_of_page (v := s.holding n) (b := b.block) (bytes := b.bytes) hpage hp hst hcut hpp
  have hsegs : segsMissing r (blockOffset b.partialPage b.block + b.bytes.length)
      = segsFor (16384 * b.partialPage + 256 * b.block + b.bytes.length) - r.chain.length := rfl
  have hno : ¬(segsFor (16384 * b.partialPage + 256 * b.block + b.bytes.length) - r.chain.length = 0 ∨ (s.holding n).psm.scanReserve
      + (segsFor (16384 * b.partialPage + 256 * b.block + b.bytes.length) - r.chain.length) ≤ (s.holding n).freeCount) := by
    rintro (h | h)
    · omega
    · exact absurd hfew (Nat.not_lt.2 h)
  rw [hsegs, if_neg hno] at ht
  refine ⟨releaseBuffer n.val t, (judgeBlock_of_good hf ho).trans ht, ?_, (inboundIs_releasedFrom s n).of_sli ?_, hn, hothers⟩
  · rw [hframe]
    rfl
  · rw [hframe]
    rfl

end

end Sys2Proof.Machine
end

section
/-! PROOFS. The check of a multiframe, delivery, message assembly and inbound blocks (R113, R118, R120, R140, R142): O53. -/

namespace Sys2Proof.Machine

set_option Elab.async false

section

variable {s : State} {n : Line} {b : InBlock} {p kept : Nat} {r : PageRec} {doc : Doc}

/-- The session that ends for want of segments, with its page closed early. -/
theorem judged_closesEarly (hf : b.failed = false) (ho : b.overrun = false) (hpage : (s.line n).page = some p) (hp : s.page? p = some r)
    (hst : (s.line n).state = .receiving ∨ (s.line n).state = .rxCheck) (hcut : (s.line n).cut = false)
    (hpp : b.partialPage = (s.line n).partialPage)
    (hmiss : 0 < segsFor (16384 * b.partialPage + 256 * b.block + b.bytes.length) - r.chain.length)
    (hfew : s.freeCount < s.psm.scanReserve + (segsFor (16384 * b.partialPage + 256 * b.block + b.bytes.length) - r.chain.length))
    (hstore : (s.line n).storing = none) (hdoc : s.doc? r.doc = some doc) (hkeep : doc.keep = true) (hwaits : s.noneWaits r.doc)
    (hk : (s.line n).KeepsEarly kept) (hp1024 : p < 1024) :
    (∃ v, v.inboundIs s n false ∧ judgeBlock n.val b s.goodCheck = abandonLine n .storeFull v
        ∧ ClosedEarly { s with sli := { s.goodCheck.sli with inLines := v.sli.inLines } } v n
            { s.blockMet n with page := none, kept := kept } p kept r)
      ∧ (kept ≠ 0 → r.chain.length ≤ segsFor kept →
        ∃ u, judgeBlock n.val b s.goodCheck = u ∧ u.inboundIs s n false
          ∧ u = { s with
              sli := { s.goodCheck.sli with
                inLines := u.sli.inLines, queue := (hand n .clear (hand n .abandon s)).sli.queue
                handings := (hand n .clear (hand n .abandon s)).sli.handings }
              lne := { s.lne with lines := u.lne.lines }, psm := { s.psm with pages := u.psm.pages }
              dju := { s.dju with passDue := true }, dram := u.dram }
          ∧ u.line n = { s.line n with
              page := none, kept := kept, state := .clearing, cause := some .storeFull, timer := some .clearing, remaining := 100 }
          ∧ (∀ m, m ≠ n → u.line m = s.line m)
          ∧ u.page? p = some { r with
              truncated := true, state := .damaged, codedLen := kept, lineCount := 0
              check := crc16 (s.streamBytes r.chain 0 kept), sealedTime := s.chg.seconds }
          ∧ (∀ q, q ≠ p → u.page? q = s.page? q)
          ∧ unchangedOutside [(s.pageAddr p, 64), (s.por (0x80 + 256 * n.val), 256)] s.dram u.dram) := by
  obtain ⟨x, hx, hframe, hin, hn, hothers⟩ := judged_exhausted hf ho hpage hp hst hcut hpp hmiss hfew
  obtain ⟨ti, rem, hmet⟩ := blockMet_fields s n
  have hxp : x.page? p = some r := by rw [hframe]; exact hp
  have hxdoc : x.doc? r.doc = some doc := by rw [hframe]; exact hdoc
  have hxpage : (x.line n).page = some p := by rw [hn, hmet]; exact hpage
  have hxstore : (x.line n).storing = none := by rw [hn, hmet]; exact hstore
  have hxk : (x.line n).KeepsEarly kept := by rw [hn, hmet]; exact hk
  have hxwaits : x.noneWaits r.doc := fun m hm => by
    by_cases hmn : m = n
    · subst hmn
      rw [hn, hmet] at hm
      have hm' : (s.line m).state = .dataWait := hm
      rw [hm'] at hst
      rcases hst with h | h <;> cases h
    · rw [hothers m hmn] at hm ⊢
      exact hwaits m hm
  refine ⟨⟨closeEarly n x, ?_, hx, ?_⟩, fun hz hshort => ?_⟩
  · have hc := closedEarly_closeEarly hxpage hxstore hxp hp1024 hxdoc hkeep hxwaits hxk
    refine hin.of_sli ?_
    rw [hc.1]
  · have hc := closedEarly_closeEarly hxpage hxstore hxp hp1024 hxdoc hkeep hxwaits hxk
    have hsli : (closeEarly n x).sli = x.sli := by rw [hc.1]
    rw [hsli, ← hn]
    exact closedEarly_of_lines hc hframe hothers
  · obtain ⟨c, hc, hcf, hcn, hco, hcp, hcq, hcm⟩ := closeEarly_of_short hxpage hxstore hxp hp1024 hxdoc hkeep hxwaits hxk hz hshort
    obtain ⟨u, hu, huf, hun, huo, hum⟩ := abandonLine_spec (n := n) (cause := .storeFull) (s := c) (t := c) (ls := c.lne.lines) rfl
      ⟨(c.line n).timer, (c.line n).remaining, rfl⟩ fun _ _ => rfl
    have hcsli : c.sli = { s.goodCheck.sli with inLines := x.sli.inLines } := by rw [hcf, hframe]
    have htold : (hand n .clear (hand n .abandon c)).sli = { s.goodCheck.sli with
        inLines := x.sli.inLines, queue := (hand n .clear (hand n .abandon s)).sli.queue
        handings := (hand n .clear (hand n .abandon s)).sli.handings } := by
      have h1 := hand_sli_queue (s := s) (t := c) n .abandon (by rw [hcsli]; rfl) (by rw [hcsli]; rfl)
      have h2 := hand_sli_queue (s := hand n .abandon s) (t := hand n .abandon c) n .clear (by rw [h1]) (by rw [h1])
      rw [h2, h1, hcsli]
    have hulines : u.sli.inLines = x.sli.inLines := by rw [huf, htold]
    have hframeu : u = { s with
        sli := (hand n .clear (hand n .abandon c)).sli, lne := { s.lne with lines := u.lne.lines }
        psm := { s.psm with pages := u.psm.pages }, dju := { s.dju with passDue := true }, dram := u.dram } := by
      have hpages : u.psm = c.psm := by rw [huf]
      have hcx : c = { s with
          sli := x.sli, lne := { s.lne with lines := c.lne.lines }, psm := { s.psm with pages := c.psm.pages }
          dju := { s.dju with passDue := true }, dram := c.dram } := by
        refine hcf.trans ?_
        rw [hframe]
      rw [hpages]
      refine huf.trans ?_
      rw [hcx]
    refine ⟨u, by rw [hx, hc]; exact hu, hin.of_sli hulines, ?_, ?_, fun m hm => ?_, ?_, fun q hq => ?_, ?_⟩
    · rw [hulines, ← htold]
      exact hframeu
    · rw [hun, hcn, hn, hmet]
    · rw [huo m hm, hco m hm, hothers m hm]
    · have : u.page? p = c.page? p := by rw [huf]; rfl
      rw [this, hcp, hframe]
      rfl
    · have : u.page? q = c.page? q := by rw [huf]; rfl
      rw [this, hcq q hq, hframe]
      rfl
    · have hspan : c.por (0x80 + 256 * n.val) = s.por (0x80 + 256 * n.val) := by rw [hcf, hframe]; rfl
      have hxs : x.lineSpan n = (s.por (0x80 + 256 * n.val), 256) ∧ x.pageAddr p = s.pageAddr p ∧ x.dram = s.dram := by
        rw [hframe]
        exact ⟨rfl, rfl, rfl⟩
      rw [hxs.1, hxs.2.1, hxs.2.2] at hcm
      rw [hspan] at hum
      refine (hcm.trans hum).of_subset fun y hy => ?_
      simp only [List.mem_append, List.mem_cons, List.not_mem_nil, or_false] at hy ⊢
      tauto

end

/-! ## The statement -/

theorem goodCheck_eq (s : State) : s.goodCheck = { s with sli := { s.sli with
    mfEndDue := false, items := [], rxCrc := 0
    inLines := s.sli.inLines.map fun e =>
      (e.1, { e.2 with complete := false, opened := e.2.opened.map fun x => { x with touched := false } })
    farEndErrors := if s.sli.rxReport = 0xFF then min (s.sli.farEndErrors + 1) 65535 else s.sli.farEndErrors } } := by
  rw [← closing_unmarked]
  rfl

/-- Settles O53: the check's three outcomes, delivery by kind and line, a frame by the bytes it brings, and a block by what its
line's page makes of it. -/
theorem multiframeCheckAndBlocks : Obligations.MultiframeCheckAndBlocks := by
  refine ⟨fun s => ?_, fun i is s hdue hcrc hitems _ => rxMultiframeEnd_inTurn hdue hcrc hitems, fun n b s hdue hcrc hitems => ?_⟩
  · refine ⟨exec_rxMultiframeEnd_of_notDue, fun hdue hcrc => ⟨fun hitems => ?_, fun m hitems => ?_⟩,
      fun hdue hcrc => exec_rxMultiframeEnd_of_bad hdue hcrc, fun n pp blk len => ⟨fun hup hb h1 h2 => ?_, fun h => ?_⟩,
      fun n pp cls res kind cause count map called ident hc hi hup => ?_, fun m hpass => deliverMessage_of_pass hpass m,
      fun m n k hn hk h => deliverMessage_of_none hn hk h s, ?_, fun slots hphase hsync hmf hdue hlen h0 hm => ?_⟩
    · rw [exec_rxMultiframeEnd_of_good hdue hcrc, hitems]
      rfl
    · rw [exec_rxMultiframeEnd_of_good hdue hcrc, hitems]
      rfl
    · refine ⟨_, congrArg Host.Outcome.next (if_pos ⟨hup, hb, h1, h2⟩), rfl, ?_⟩
      unfold openBlock
      rw [inLine_setInLine]
      refine ⟨rfl, rfl, ?_, fun k hk => inLine_setInLine_of_ne _ _ hk⟩
      rw [State.bufferOccupied, Bool.or_comm]
    · refine congrArg Host.Outcome.next (if_neg ?_)
      rintro ⟨hup, hb, h1, h2⟩
      rcases h with h | h | h | h
      · rw [h] at hup
        cases hup
      all_goals omega
    · refine ⟨exec_of_messageOf hup rfl rfl, exec_of_messageOf hup rfl rfl, exec_of_messageOf hup rfl rfl,
        exec_of_messageOf hup rfl rfl, exec_of_messageOf hup rfl rfl, exec_of_messageOf hup rfl rfl, exec_of_messageOf hup rfl rfl,
        exec_of_messageOf hup rfl rfl, exec_of_messageOf hup rfl (messageAct_repeat n map), exec_of_messageOf hup rfl rfl,
        exec_of_messageOf hup rfl rfl, exec_of_messageOf hup rfl rfl, exec_of_messageOf hup rfl rfl, exec_of_messageOf hup rfl rfl,
        exec_of_messageOf hup rfl rfl, exec_of_messageOf hup rfl (act := onRing n called ident) ?_⟩
      exact congrArg (Option.map fun f => onRing n f.1 f.2) (ringFields_messageOf n hc hi)
    · rintro k m hk rfl
      exact deliverMessage_all hk s
    · have hexec := exec_rxFrame_of_good hphase hsync hmf hdue hlen h0 hm
      refine ⟨fun h10 => ⟨fun hasm => hexec.trans (congrArg Host.Outcome.next (rxFrame_gap h10 hasm)), fun hasm => hexec.trans (congrArg Host.Outcome.next (rxFrame_skip h10 hasm)),
        fun hasm hmore => hexec.trans (congrArg Host.Outcome.next (rxFrame_more h10 hasm hmore)), fun hasm hlast =>
          ⟨fun hother => hexec.trans (congrArg Host.Outcome.next (rxFrame_last h10 hasm hlast hother)), fun n x pp blk l0 l1 hmsg hblk h1 h2 => ?_⟩⟩,
        fun n blk h10 hb hasm hopen => ?_⟩
      · obtain ⟨u, hu, hopens⟩ := rxFrame_opens h10 hasm hlast hmsg hblk h1 h2
        exact ⟨u, hexec.trans (congrArg Host.Outcome.next hu), hopens⟩
      · obtain ⟨u, hu, hjoins⟩ := rxFrame_blockByte h10 hb hasm hopen rfl
        exact ⟨u, hexec.trans (congrArg Host.Outcome.next hu), hjoins⟩
  · have hexec := exec_rxMultiframeEnd_of_block hdue hcrc hitems
    intro l off checked restarted span holds
    have hchecked : s.goodCheck.sli = checked := congrArg State.sli (goodCheck_eq s)
    have hholds {u : State} {occupied : Bool} (h : u.inboundIs s n occupied) : holds u occupied := by
      obtain ⟨ho, hc, hopen, hothers⟩ := h
      exact ⟨ho, hc, hopen, fun k hk => (hothers k hk).trans (congrArg (fun x : Sli => Tab.get? x.inLines k) hchecked)⟩
    rw [hexec]
    refine ⟨fun hbad => by rw [judgeBlock_of_bad hbad, ← hchecked]; rfl, fun hf ho => ⟨fun h => ?_, fun p r hpage hp hst hcut hpp => ⟨fun hroom => ?_, ?_⟩⟩⟩
    · obtain ⟨u, hu, hin, hframe, hn, hothers⟩ := judged_untaken hf ho h
      exact ⟨u, congrArg Host.Outcome.next hu, hholds hin, hframe, hn, hothers⟩
    · obtain ⟨u, hu, hin, hframe, hn, hothers, hpages, hpothers, hquiet⟩ := judged_taken hf ho hpage hp hst hcut hpp rfl hroom
      exact ⟨u, congrArg Host.Outcome.next hu, hholds hin, hframe, hn, hothers, hpages, hpothers, hquiet⟩
    · intro hmiss hfew hstore doc kept hdoc hkeep hwaits hk hp1024
      obtain ⟨⟨v, hv, hveq, hclosed⟩, hshort⟩ := judged_closesEarly hf ho hpage hp hst hcut hpp hmiss hfew hstore hdoc hkeep hwaits hk hp1024
      refine ⟨⟨v, hholds hv, congrArg Host.Outcome.next hveq, hclosed⟩, fun hz hlen => ?_⟩
      obtain ⟨u, hu, hin, hframe, hrest⟩ := hshort hz hlen
      exact ⟨u, congrArg Host.Outcome.next hu, hholds hin, hframe, hrest⟩

end Sys2Proof.Machine
end

section
/-! PROOFS. The entry in hand: which one it is, how its document is walked, and the sheet that begins at a sealed page (R166). -/

namespace Sys2Proof.Machine

set_option Elab.async false

/-! ## The entry in hand -/

theorem State.rising_entries {s : State} (h : s.ordered = true) : Tab.rising s.prn.entries = true :=
  (Bool.and_eq_true_iff.1 h).2

/-- In an ordered table the entry in hand is the lowest-numbered one that prints. -/
theorem State.printingEntry_iff {s : State} (hord : Tab.rising s.prn.entries = true) (e : Nat) (r : PrintEntry) :
    s.printingEntry = some (e, r) ↔ s.entry? e = some r ∧ r.printing = true
      ∧ ∀ k q, s.entry? k = some q → k < e → q.printing = false := by
  have hpair := (Tab.rising_iff s.prn.entries).1 hord
  constructor
  · intro h
    obtain ⟨hp, as, bs, hsplit, hbefore⟩ := List.find?_eq_some_iff_append.1 h
    have hmem : (e, r) ∈ s.prn.entries := by rw [hsplit]; simp
    refine ⟨Tab.get?_of_mem hord hmem, hp, fun k q hk hlt => ?_⟩
    have hkq : (k, q) ∈ s.prn.entries := Tab.mem_of_get? hk
    rw [hsplit] at hkq hpair
    obtain hin | hin := List.mem_append.1 hkq
    · simpa using hbefore _ hin
    · obtain ⟨-, hafter, -⟩ := List.pairwise_append.1 hpair
      obtain heq | hlater := List.mem_cons.1 hin
      · exact absurd (congrArg Prod.fst heq) (by dsimp only; omega)
      · have := (List.pairwise_cons.1 hafter).1 _ hlater
        dsimp only at this
        omega
  · rintro ⟨he, hp, hfirst⟩
    obtain ⟨as, bs, hsplit⟩ := List.append_of_mem (Tab.mem_of_get? he)
    refine List.find?_eq_some_iff_append.2 ⟨hp, as, bs, hsplit, fun x hx => ?_⟩
    have hlt : x.1 < e := by
      rw [hsplit] at hpair
      exact (List.pairwise_append.1 hpair).2.2 x hx (e, r) (List.mem_cons_self ..)
    have hxin : (x.1, x.2) ∈ s.prn.entries := by rw [hsplit]; exact List.mem_append_left _ hx
    simp [hfirst x.1 x.2 (Tab.get?_of_mem hord hxin) hlt]

theorem State.printingEntry_eq_none_iff {s : State} (hord : Tab.rising s.prn.entries = true) :
    s.printingEntry = none ↔ ∀ k q, s.entry? k = some q → q.printing = false := by
  constructor
  · intro h k q hk
    simpa using List.find?_eq_none.1 h (k, q) (Tab.mem_of_get? hk)
  · intro h
    exact List.find?_eq_none.2 fun x hx => by simp [h x.1 x.2 (Tab.get?_of_mem hord hx)]

theorem State.entriesOnly_trans {s v u : State} (h : v = { s with prn := { s.prn with entries := v.prn.entries }, dram := v.dram })
    (h' : u = { v with prn := { v.prn with entries := u.prn.entries }, dram := u.dram }) :
    u = { s with prn := { s.prn with entries := u.prn.entries }, dram := u.dram } :=
  h'.trans (congrArg (fun x : State => { x with prn := { x.prn with entries := u.prn.entries }, dram := u.dram }) h)

/-- State `v` is `s` but for the bytes of entry `e` and its record, which is `r` and is in hand. -/
structure InHand (s : State) (e : Nat) (r : PrintEntry) (v : State) : Prop where
  rest : v = { s with prn := { s.prn with entries := v.prn.entries }, dram := v.dram }
  rising : Tab.rising v.prn.entries = true
  entry : v.entry? e = some r
  others : ∀ k, k ≠ e → v.entry? k = s.entry? k
  printing : r.printing = true
  first : ∀ k q, s.entry? k = some q → k < e → q.printing = false
  bytes : unchangedOutside [(s.entryAddr e, 64)] s.dram v.dram

section

variable {s v : State} {e : Nat} {r : PrintEntry}

theorem InHand.refl (hord : s.ordered = true) (h : s.printingEntry = some (e, r)) : InHand s e r s := by
  obtain ⟨he, hp, hfirst⟩ := (State.printingEntry_iff (State.rising_entries hord) e r).1 h
  exact ⟨rfl, State.rising_entries hord, he, fun _ _ => rfl, hp, hfirst, unchangedOutside_refl _ _⟩

theorem InHand.printingEntry (h : InHand s e r v) : v.printingEntry = some (e, r) :=
  (State.printingEntry_iff h.rising e r).2
    ⟨h.entry, h.printing, fun k q hk hlt => h.first k q (by rw [← h.others k (Nat.ne_of_lt hlt)]; exact hk) hlt⟩

theorem InHand.doc? (h : InHand s e r v) (d : Nat) : v.doc? d = s.doc? d := by rw [h.rest]; rfl

theorem InHand.page? (h : InHand s e r v) (p : Nat) : v.page? p = s.page? p := by rw [h.rest]; rfl

theorem InHand.put (h : InHand s e r v) {r' : PrintEntry} (hp : r'.printing = true) : InHand s e r' (putEntry e r' v) where
  rest := State.entriesOnly_trans h.rest rfl
  rising := Tab.rising_set h.rising e r'
  entry := entry?_putEntry_self ..
  others k hk := (entry?_putEntry_of_ne r' v hk).trans (h.others k hk)
  printing := hp
  first := h.first
  bytes := by
    have haddr : v.entryAddr e = s.entryAddr e := by rw [h.rest]; rfl
    have hput : (putEntry e r' v).dram = Mem.write v.dram (s.entryAddr e) r'.bytes := by rw [← haddr]; rfl
    rw [hput]
    exact h.bytes.write (List.mem_singleton_self _) (by simp)

/-! ## The walk of the document -/

/-- The walk stops at a place that holds a page. -/
theorem InHand.walk_live (h : InHand s e r v) {d : Doc} (hd : s.doc? r.doc = some d) {p : Nat}
    (hp : d.places[r.position]? = some (some p)) (f : Nat) : walk f v = v := by
  cases f with
  | zero => rfl
  | succ f =>
    rw [walk, h.printingEntry]
    simp only [h.doc? r.doc, hd, hp]

/-- Freed places are walked over. -/
theorem InHand.walk_freed (n : Nat) {v : State} {r : PrintEntry} (h : InHand s e r v) {d : Doc} (hd : s.doc? r.doc = some d)
    (hfreed : ∀ i, r.position ≤ i → i < r.position + n → d.places[i]? = some none) (f : Nat) :
    ∃ w, walk (f + n) v = walk f w ∧ InHand s e { r with position := r.position + n } w := by
  induction n generalizing v r with
  | zero => exact ⟨v, rfl, h⟩
  | succ n ih =>
    have hnext := h.put (r' := { r with position := r.position + 1 }) h.printing
    obtain ⟨w, hw, hat⟩ := ih hnext hd fun i hlo hhi => hfreed i (by dsimp only at hlo; omega) (by dsimp only at hhi; omega)
    refine ⟨w, ?_, ?_⟩
    · rw [← hw, ← Nat.add_assoc, walk, h.printingEntry]
      simp only [h.doc? r.doc, hd, hfreed r.position le_rfl (by omega)]
    · have hpos : r.position + 1 + n = r.position + (n + 1) := by omega
      dsimp only at hat
      rw [hpos] at hat
      exact hat

/-- At the end of a copy of a final list that is not the last copy, the walk goes back to place 0. -/
theorem InHand.walk_again (h : InHand s e r v) {d : Doc} (hd : s.doc? r.doc = some d) (hfinal : d.isFinal = true)
    (hend : d.places[r.position]? = none) (hcopies : r.copiesDone + 1 < r.copies) (f : Nat) :
    ∃ w, walk (f + 1) v = walk f w ∧ InHand s e { r with copiesDone := r.copiesDone + 1, position := 0 } w := by
  refine ⟨_, ?_, h.put (r' := { r with copiesDone := r.copiesDone + 1, position := 0 }) h.printing⟩
  rw [walk, h.printingEntry]
  simp only [h.doc? r.doc, hd, hend, hfinal, Bool.not_true, Bool.false_eq_true, if_false, hcopies, if_true]

/-- At the end of the last copy of a final list the entry is removed. -/
theorem InHand.walk_over (h : InHand s e r v) {d : Doc} (hd : s.doc? r.doc = some d) (hfinal : d.isFinal = true)
    (hend : d.places[r.position]? = none) (hcopies : r.copies ≤ r.copiesDone + 1) (f : Nat) :
    walk (f + 1) v = removeEntry e false v := by
  rw [walk, h.printingEntry]
  simp only [h.doc? r.doc, hd, hend, hfinal, Bool.not_true, Bool.false_eq_true, if_false, Nat.not_lt.2 hcopies]

/-- At the end of a list that may grow the walk waits. -/
theorem InHand.walk_waits (h : InHand s e r v) {d : Doc} (hd : s.doc? r.doc = some d) (hfinal : d.isFinal = false)
    (hend : d.places[r.position]? = none) (f : Nat) : walk f v = v := by
  cases f with
  | zero => rfl
  | succ f =>
    rw [walk, h.printingEntry]
    simp only [h.doc? r.doc, hd, hend, hfinal, Bool.not_false, if_true]

/-- The places from the entry's own on are freed up to the end of the list. -/
theorem InHand.walk_toEnd (h : InHand s e r v) {d : Doc} (hd : s.doc? r.doc = some d) (hlen : d.places.length ≤ 128)
    (hfreed : ∀ i, r.position ≤ i → i < d.places.length → d.places[i]? = some none) :
    ∃ f w k, 1072 ≤ f ∧ walk 1200 v = walk f w ∧ d.places[k]? = none ∧ InHand s e { r with position := k } w := by
  obtain ⟨f, hf⟩ : ∃ f, 1200 = f + (d.places.length - r.position) := ⟨1200 - (d.places.length - r.position), by omega⟩
  obtain ⟨w, hw, hat⟩ := h.walk_freed (d.places.length - r.position) hd (fun i hlo hhi => hfreed i hlo (by omega)) f
  exact ⟨f, w, _, by omega, by rw [hf, hw], List.getElem?_eq_none (by omega), hat⟩

/-! ## The sheet that begins -/

/-- The state once the rendering of page `p` and a sheet of it have begun. -/
def sheetBegun (e : Nat) (r : PrintEntry) (p : Nat) (page : PageRec) (v : State) : State :=
  putEntry e { r with sheetNumber := r.sheetNumber + 1, sheetLine := 0 }
    { v with prn := { v.prn with rendering := some (Rendering.start p page), sheetOpen := true } }

theorem walked_places {d : Doc} {o : Option Doc} (hd : o = some d) {k p : Nat} (hp : d.places[k]? = some (some p)) :
    (o.bind fun d => d.places[k]?).join = some p := by
  rw [hd]
  simp [hp]

/-- A walk that ends at a sealed page begins its rendering and the next sheet. -/
theorem settle_of_sealed {w : State} (hst : s.prn.state = .printing) (hopen : s.prn.sheetOpen = false) (hren : s.prn.rendering = none)
    (hwalk : walk 1200 s = w) (h : InHand v e r w) (hw : w.prn.rendering = none) {d : Doc} (hd : v.doc? r.doc = some d)
    {p : Nat} (hp : d.places[r.position]? = some (some p)) {page : PageRec} (hpage : v.page? p = some page)
    (hsealed : page.state ≠ .filling) : settle s = sheetBegun e r p page w := by
  have hbegin : beginRendering w = { w with prn := { w.prn with rendering := some (Rendering.start p page) } } := by
    have hs : page.isSealed = true := by simpa [PageRec.isSealed] using hsealed
    rw [beginRendering, hw, if_neg (by simp), h.printingEntry]
    simp only [h.doc?, walked_places hd hp, h.page?, hpage, hs, if_true]
  rw [settle, if_pos ⟨hst, by simp [hopen]⟩, if_pos hren, hwalk, hbegin, beginSheet]
  rw [show State.printingEntry { w with prn := { w.prn with rendering := some (Rendering.start p page) } } = some (e, r)
    from h.printingEntry]
  rfl

/-- A walk that ends at no sealed page begins nothing. -/
theorem settle_of_walked {w : State} (hst : s.prn.state = .printing) (hopen : s.prn.sheetOpen = false) (hren : s.prn.rendering = none)
    (hwalk : walk 1200 s = w) (hw : w.prn.rendering = none)
    (hnone : ∀ e r d p page, w.printingEntry = some (e, r) → w.doc? r.doc = some d → d.places[r.position]? = some (some p) →
      w.page? p = some page → page.state = .filling) : settle s = w := by
  have hbegin : beginRendering w = w := by
    rw [beginRendering, hw, if_neg (by simp)]
    cases he : w.printingEntry with
    | none => rfl
    | some x =>
      obtain ⟨e, r⟩ := x
      dsimp only
      cases hd : w.doc? r.doc with
      | none => rfl
      | some d =>
        rw [Option.bind_some]
        cases hp : d.places[r.position]? with
        | none => rfl
        | some o =>
          cases o with
          | none => rfl
          | some p =>
            simp only [Option.join_some]
            cases hpage : w.page? p with
            | none => rfl
            | some page =>
              have hfill := hnone e r d p page he hd hp hpage
              simp [PageRec.isSealed, hfill]
  rw [settle, if_pos ⟨hst, by simp [hopen]⟩, if_pos hren, hwalk, hbegin, beginSheet, hw]
  split
  · simp_all
  · rfl

/-- What stands once the sheet has begun. -/
theorem InHand.sheetBegun_spec (h : InHand s e r v) (p : Nat) (page : PageRec) :
    ∃ u, sheetBegun e r p page v = u
      ∧ u = { s with
          prn := { s.prn with entries := u.prn.entries, sheetOpen := true, rendering := some (Rendering.start p page) },
          dram := u.dram }
      ∧ u.entry? e = some { r with sheetNumber := r.sheetNumber + 1, sheetLine := 0 }
      ∧ (∀ k, k ≠ e → u.entry? k = s.entry? k) ∧ unchangedOutside [(s.entryAddr e, 64)] s.dram u.dram := by
  have hput := h.put (r' := { r with sheetNumber := r.sheetNumber + 1, sheetLine := 0 }) h.printing
  refine ⟨_, rfl, ?_, entry?_putEntry_self .., fun k hk => ?_, ?_⟩
  · exact congrArg (fun x : State => { x with prn := { x.prn with
      rendering := some (Rendering.start p page), sheetOpen := true } }) hput.rest
  · exact hput.others k hk
  · exact hput.bytes

end

/-! ## The first entry in queue order (R158) -/

theorem firstEntry_mem {t : Tab PrintEntry} {x : Nat × PrintEntry} (h : firstEntry t = some x) : x ∈ t := by
  induction t generalizing x with
  | nil => cases h
  | cons y t ih =>
    rw [firstEntry] at h
    cases hb : firstEntry t with
    | none =>
      rw [hb] at h
      cases h
      exact List.mem_cons_self ..
    | some b =>
      rw [hb] at h
      dsimp only at h
      split at h
      · cases h
        exact List.mem_cons_of_mem _ (ih hb)
      · cases h
        exact List.mem_cons_self ..

theorem PrintEntry.before_iff (a b : PrintEntry) :
    a.before b = true ↔ a.cls < b.cls ∨ (a.cls = b.cls ∧ a.arrival < b.arrival) := by simp [PrintEntry.before]

/-- An entry that comes before every other one of the queue is its first. -/
theorem firstEntry_of_before {t : Tab PrintEntry} {x : Nat × PrintEntry} (hx : x ∈ t)
    (hfirst : ∀ y ∈ t, y ≠ x → x.2.before y.2 = true) : firstEntry t = some x := by
  have hasym (a b : PrintEntry) (h : a.before b = true) : b.before a = false := by
    rw [← Bool.not_eq_true, PrintEntry.before_iff]
    rw [PrintEntry.before_iff] at h
    omega
  have hirrefl (a : PrintEntry) : a.before a = false := by
    rw [← Bool.not_eq_true, PrintEntry.before_iff]
    omega
  induction t with
  | nil => cases hx
  | cons y t ih =>
    rw [firstEntry]
    by_cases hyx : y = x
    · subst hyx
      cases hb : firstEntry t with
      | none => rfl
      | some b =>
        dsimp only
        have hnot : b.2.before y.2 = false := by
          by_cases hby : b = y
          · rw [hby]
            exact hirrefl _
          · exact hasym _ _ (hfirst b (List.mem_cons_of_mem _ (firstEntry_mem hb)) hby)
        rw [if_neg (by simp [hnot])]
    · have hrest := ih ((List.mem_cons.1 hx).resolve_left (Ne.symm hyx)) fun z hz hne => hfirst z (List.mem_cons_of_mem _ hz) hne
      rw [hrest]
      exact if_pos (hfirst y (List.mem_cons_self ..) hyx)

theorem firstEntry_of_queue {s : State} (hord : s.ordered = true) {e : Nat} {r : PrintEntry} (he : s.entry? e = some r)
    (hfirst : ∀ k q, s.entry? k = some q → k ≠ e → r.cls < q.cls ∨ (r.cls = q.cls ∧ r.arrival < q.arrival)) :
    firstEntry s.prn.entries = some (e, r) := by
  refine firstEntry_of_before (Tab.mem_of_get? he) fun y hy hne => (PrintEntry.before_iff ..).2 ?_
  have hget : s.entry? y.1 = some y.2 := Tab.get?_of_mem (State.rising_entries hord) hy
  refine hfirst y.1 y.2 hget fun hk => hne ?_
  rw [hk, he, Option.some.injEq] at hget
  exact Prod.ext hk hget.symm

end Sys2Proof.Machine
end

section
/-! PROOFS. The walk of an entry to its next page, and the entry that leaves the queue at the end of its last copy (R166). -/

namespace Sys2Proof.Machine

set_option Elab.async false

/-! ## The step of the renderer -/

theorem renderStep_of_active {s : State} {prof : PrintProfile} (hactive : s.prn.active = some prof) (hrun : s.rgw.state = .run)
    (hst : s.prn.state ≠ .stopped) : renderStep s = releasePrintHold (testUrgent (writeSheetLine prof (settle s))) := by
  have hgo : (s.isRun && s.isPrinting) = true := by simp [State.isRun, hrun, State.isPrinting, hst]
  rw [renderStep, hactive]
  simp only [hgo, if_true]

theorem renderStep_of_stopped {s : State} (h : s.prn.state = .stopped) : renderStep s = s := by
  have hno : (s.isRun && s.isPrinting) = false := by simp [State.isPrinting, h]
  unfold renderStep
  simp only [hno, Bool.false_eq_true, if_false]
  split <;> rfl

/-- A step that first begins a sheet goes on from the sheet begun. -/
theorem renderStep_of_begun {s v : State} (hactive : s.prn.active.isSome) (hrun : s.rgw.state = .run) (hst : s.prn.state ≠ .stopped)
    (hsettle : settle s = v) (hopen : v.prn.sheetOpen = true) (hactive' : v.prn.active = s.prn.active)
    (hrun' : v.rgw.state = s.rgw.state) (hst' : v.prn.state = s.prn.state) : renderStep s = renderStep v := by
  obtain ⟨prof, hprof⟩ := Option.isSome_iff_exists.1 hactive
  rw [renderStep_of_active hprof hrun hst, renderStep_of_active (hactive'.trans hprof) (hrun'.trans hrun) (hst' ▸ hst),
    settle_of_open hopen, hsettle]

theorem writeSheetLine_of_none {s : State} {prof : PrintProfile} (h : nextSheetLine prof s = none) : writeSheetLine prof s = s := by
  unfold writeSheetLine
  rw [h]
  exact ite_self _

/-! ## The walk of one step -/

/-- A step takes the first entry of the queue in hand. -/
theorem InHand.taken {s : State} (hord : s.ordered = true) (hnone : s.printingEntry = none) (e : Nat) {r : PrintEntry}
    (hp : r.printing = true) : InHand s e r (putEntry e r s) where
  rest := rfl
  rising := Tab.rising_set (State.rising_entries hord) e r
  entry := entry?_putEntry_self ..
  others _ hk := entry?_putEntry_of_ne _ _ hk
  printing := hp
  first k q hk _ := (State.printingEntry_eq_none_iff (State.rising_entries hord)).1 hnone k q hk
  bytes := unchangedOutside_putEntry e r s

section

variable {s : State} {e : Nat} {r : PrintEntry}

theorem InHand.rendering {v : State} (h : InHand s e r v) : v.prn.rendering = s.prn.rendering := by
  rw [h.rest]

/-- The walk comes to the live page at place `k`, in the present copy or in the next one. -/
theorem InHand.walk_toPage (h : InHand s e r s) {d : Doc} (hd : s.doc? r.doc = some d) (hlen : d.places.length ≤ 128)
    {k p copies : Nat} (hp : d.places[k]? = some (some p))
    (hway : (copies = r.copiesDone ∧ r.position ≤ k ∧ ∀ i, r.position ≤ i → i < k → d.places[i]? = some none)
      ∨ (copies = r.copiesDone + 1 ∧ copies < r.copies ∧ d.isFinal = true ∧ (∀ i, i < k → d.places[i]? = some none)
        ∧ ∀ i, r.position ≤ i → i < d.places.length → d.places[i]? = some none)) :
    ∃ w, walk 1200 s = w ∧ InHand s e { r with position := k, copiesDone := copies } w := by
  have hk : k < d.places.length := (List.getElem?_eq_some_iff.1 hp).1
  obtain ⟨rfl, hpos, hfreed⟩ | ⟨rfl, hlt, hfinal, hhead, hrest⟩ := hway
  · obtain ⟨f, hf⟩ : ∃ f, 1200 = f + (k - r.position) := ⟨1200 - (k - r.position), by omega⟩
    obtain ⟨w, hw, hat⟩ := h.walk_freed (k - r.position) hd (fun i hlo hhi => hfreed i hlo (by omega)) f
    rw [Nat.add_sub_cancel' hpos] at hat
    exact ⟨w, by rw [hf, hw, hat.walk_live hd hp], hat⟩
  · obtain ⟨f, w, j, hf, hw, hend, hat⟩ := h.walk_toEnd hd hlen hrest
    obtain ⟨f', hf'⟩ : ∃ f', f = f' + k + 1 := ⟨f - k - 1, by omega⟩
    obtain ⟨w', hw', hat'⟩ := hat.walk_again hd hfinal hend hlt (f' + k)
    obtain ⟨w'', hw'', hat''⟩ := hat'.walk_freed k hd (fun i _ hhi => hhead i (by dsimp only at hhi; omega)) f'
    dsimp only at hat''
    rw [Nat.zero_add] at hat''
    exact ⟨w'', by rw [hw, hf', hw', hw'', hat''.walk_live hd hp], hat''⟩

/-- The walk comes to the end of the last copy. -/
theorem InHand.walk_lastCopy (h : InHand s e r s) {d : Doc} (hd : s.doc? r.doc = some d) (hlen : d.places.length ≤ 128)
    (hfinal : d.isFinal = true) (hcopies : r.copies ≤ r.copiesDone + 1)
    (hfreed : ∀ i, r.position ≤ i → i < d.places.length → d.places[i]? = some none) :
    ∃ w k, walk 1200 s = removeEntry e false w ∧ InHand s e { r with position := k } w := by
  obtain ⟨f, w, k, hf, hw, hend, hat⟩ := h.walk_toEnd hd hlen hfreed
  obtain ⟨f', hf'⟩ : ∃ f', f = f' + 1 := ⟨f - 1, by omega⟩
  exact ⟨w, k, by rw [hw, hf', hat.walk_over hd hfinal hend hcopies], hat⟩

end

/-! ## The entry that leaves the queue -/

theorem Doc.stays_lastRef {d : Doc} (h : d.dir = .outbound ∨ d.autoDelete = false ∨ d.isHeld = true ∨ 1 < d.printRefs) :
    ({ d with printRefs := d.printRefs - 1, printed := true } : Doc).autoDeletes = false ∨ d.dir ≠ .inbound := by
  by_contra hgoes
  obtain ⟨hdel, hdir⟩ := not_or.1 hgoes
  obtain ⟨hin, hauto, -, hheld, hrefs⟩ := d.autoDeletes_lastRef.1 ⟨by simpa using hdel, not_not.1 hdir⟩
  simp [hin, hauto, hheld] at h
  omega

/-- Entry `e` in hand leaves the queue of `t`, where its holds have come off the pages as far as they do. -/
theorem removeEntry_of_stays {s t : State} {e : Nat} {r : PrintEntry} (he : s.entry? e = some r) (hp : r.printing = true)
    (cancelled : Bool) (ht : (if cancelled then dropPrintHolds r s else s) = t) {d : Doc} (hd : t.doc? r.doc = some d)
    (hst : d.state ≠ .deleting) (hstays : d.dir = .outbound ∨ d.autoDelete = false ∨ d.isHeld = true ∨ 1 < d.printRefs) :
    ∃ u, removeEntry e cancelled s = u
      ∧ u = { t with
          prn := { t.prn with entries := Tab.erase t.prn.entries e, slots := markLast e t.prn.slots, rendering := none,
                              sheetOpen := false },
          dju := { t.dju with docs := u.dju.docs }, dram := u.dram }
      ∧ u.doc? r.doc = some { d with printRefs := d.printRefs - 1, printed := d.printed || d.dir == .inbound }
      ∧ ∀ k, k ≠ r.doc → u.doc? k = t.doc? k := by
  obtain ⟨m, heq, hself, hother⟩ := loseEntry_of_stays (s := withoutEntry e r t) hd hst (Doc.stays_lastRef hstays)
  refine ⟨_, (removeEntry_eq he cancelled).trans (by rw [ht]), ?_, hself, hother⟩
  have hprn : t.prn.without e r = { t.prn with
      entries := Tab.erase t.prn.entries e, slots := markLast e t.prn.slots, rendering := none, sheetOpen := false } := by
    unfold Prn.without
    simp only [hp, if_true]
  rw [heq]
  unfold withoutEntry
  rw [hprn]

theorem settle_of_noEntry {s : State} (hnone : s.printingEntry = none) (hren : s.prn.rendering = none) : settle s = s := by
  by_cases hgo : s.prn.state = .printing ∧ s.prn.sheetOpen = false
  · refine settle_of_walked hgo.1 hgo.2 hren ?_ hren fun e r d p page he => by rw [hnone] at he; cases he
    rw [walk, hnone]
  · rw [settle, if_neg]
    simpa using hgo

/-- With the one entry in hand gone, none is in hand. -/
theorem printingEntry_of_erased {s : State} (hord : Tab.rising s.prn.entries = true) {e : Nat}
    (hone : ∀ k q, s.entry? k = some q → q.printing = true → k = e) {u : State} (hu : u.prn.entries = Tab.erase s.prn.entries e) :
    u.printingEntry = none := by
  refine (State.printingEntry_eq_none_iff (by rw [hu]; exact Tab.rising_erase hord e)).2 fun k q hk => ?_
  have hget : Tab.get? (Tab.erase s.prn.entries e) k = some q := by rw [← hu]; exact hk
  rw [Tab.get?_erase] at hget
  split at hget
  · cases hget
  next hne =>
    by_contra hq
    exact hne (hone k q hget (by simpa using hq))

end Sys2Proof.Machine
end

section
/-! PROOFS. The last line of a page and of a sheet: what the faults, the end of a page-copy and the end of a sheet change
(R167 to R169). -/

namespace Sys2Proof.Machine

set_option Elab.async false

/-! ## What printing changes -/

/-- Between `s` and `u` only the print unit, page `p`, the events and DRAM inside the spans change, and of the
entries only `e`. -/
structure Prints (sp : List (Nat × Nat)) (p e : Nat) (s u : State) : Prop where
  frame : u = { s with prn := u.prn, psm := { s.psm with pages := u.psm.pages }, ceu := u.ceu, dram := u.dram }
  pages : ∀ q, q ≠ p → u.page? q = s.page? q
  entries : ∀ k, k ≠ e → u.entry? k = s.entry? k
  bytes : unchangedOutside sp s.dram u.dram

section

variable {sp : List (Nat × Nat)} {p e : Nat} {s t u : State}

theorem Prints.refl (sp : List (Nat × Nat)) (p e : Nat) (s : State) : Prints sp p e s s :=
  ⟨rfl, fun _ _ => rfl, fun _ _ => rfl, unchangedOutside_refl _ _⟩

theorem Prints.trans (h : Prints sp p e s t) (h' : Prints sp p e t u) : Prints sp p e s u where
  frame := h'.frame.trans (congrArg (fun x : State => { x with
    prn := u.prn, psm := { x.psm with pages := u.psm.pages }, ceu := u.ceu, dram := u.dram }) h.frame)
  pages q hq := (h'.pages q hq).trans (h.pages q hq)
  entries k hk := (h'.entries k hk).trans (h.entries k hk)
  bytes := (h.bytes.trans h'.bytes).of_subset (List.append_subset.2 ⟨List.Subset.refl _, List.Subset.refl _⟩)

theorem Prints.widen (h : Prints sp p e s u) {sq : List (Nat × Nat)} (hs : sp ⊆ sq) : Prints sq p e s u :=
  ⟨h.frame, h.pages, h.entries, h.bytes.of_subset hs⟩

theorem Prints.cfg (h : Prints sp p e s u) : u.cfg = s.cfg := by rw [h.frame]; rfl
theorem Prints.rgw (h : Prints sp p e s u) : u.rgw = s.rgw := by rw [h.frame]
theorem Prints.seconds (h : Prints sp p e s u) : u.chg.seconds = s.chg.seconds := by rw [h.frame]
theorem Prints.doc? (h : Prints sp p e s u) (d : Nat) : u.doc? d = s.doc? d := by rw [h.frame]; rfl
theorem Prints.held (h : Prints sp p e s u) : u.smp = s.smp := by rw [h.frame]
theorem Prints.pageAddr (h : Prints sp p e s u) (q : Nat) : u.pageAddr q = s.pageAddr q := by rw [h.frame]; rfl
theorem Prints.entryAddr (h : Prints sp p e s u) (k : Nat) : u.entryAddr k = s.entryAddr k := by rw [h.frame]; rfl

theorem prints_prn (sp : List (Nat × Nat)) (p e : Nat) (s : State) {x : Prn} (hx : x.entries = s.prn.entries) :
    Prints sp p e s { s with prn := x } :=
  ⟨rfl, fun _ _ => rfl, fun k _ => congrArg (Tab.get? · k) hx, unchangedOutside_refl _ _⟩

theorem prints_putEntry (p : Nat) {s : State} (r : PrintEntry) (hmem : (s.entryAddr e, 64) ∈ sp) :
    Prints sp p e s (putEntry e r s) :=
  ⟨rfl, fun _ _ => rfl, fun _ hk => entry?_putEntry_of_ne r s hk,
    (unchangedOutside_refl _ _).write (bs := r.bytes) hmem (by simp)⟩

theorem prints_putPage (e : Nat) {s : State} (r : PageRec) (hmem : (s.pageAddr p, 64) ∈ sp) :
    Prints sp p e s (putPage p r s) :=
  ⟨rfl, fun _ hq => page?_putPage_of_ne r s hq, fun _ _ => rfl, (unchangedOutside_refl _ _).write (bs := r.bytes) hmem (by simp)⟩

theorem prints_post (p e : Nat) {s : State} (hsub : s.eventSpans ⊆ sp) (kind : EventKind) (src : SourceKind)
    (idx code value : Nat) : Prints sp p e s (post kind src idx code value s) := by
  obtain ⟨c, m, heq, hm⟩ := post_frame kind src idx code value s
  rw [heq]
  exact ⟨rfl, fun _ _ => rfl, fun _ _ => rfl, hm.of_subset hsub⟩

end

/-! ## A fault of the page (R168, R169) -/

section

variable {sp : List (Nat × Nat)} {p : Nat} (e : Nat) {s : State} {q : PageRec}

/-- A page record that changes, with an event posted behind it. -/
theorem faulted_spec (hq : s.page? p = some q) (f : PageRec → PageRec) (hpage : (s.pageAddr p, 64) ∈ sp)
    (hsub : s.eventSpans ⊆ sp) (code value : Nat) :
    ∃ u, post .printFault .page p code value (modifyPage p f s) = u ∧ Prints sp p e s u ∧ u.prn = s.prn ∧ u.page? p = some (f q)
      ∧ u.ceu = (post .printFault .page p code value s).ceu := by
  rw [modifyPage_of_some hq]
  have hpost := prints_post (sp := sp) p e (s := putPage p (f q) s) hsub .printFault .page p code value
  have hfields : (post .printFault .page p code value (putPage p (f q) s)).prn = s.prn
      ∧ (post .printFault .page p code value (putPage p (f q) s)).page? p = some (f q) := by
    obtain ⟨c, m, heq, -⟩ := post_frame .printFault .page p code value (putPage p (f q) s)
    rw [heq]
    exact ⟨rfl, page?_putPage_self ..⟩
  exact ⟨_, rfl, (prints_putPage e (f q) hpage).trans hpost, hfields.1, hfields.2,
    post_ceu_congr (s := s) (t := putPage p (f q) s) rfl rfl rfl ..⟩

theorem checkFault_spec (hq : s.page? p = some q) (hpage : (s.pageAddr p, 64) ∈ sp) (hsub : s.eventSpans ⊆ sp) (crc : BitVec 16)
    (givenUp : Bool) :
    ∃ u, checkFault p crc givenUp s = u ∧ Prints sp p e s u ∧ u.prn = s.prn
      ∧ u.page? p = some { q with checkFail := true, state := .damaged }
      ∧ u.ceu = (if givenUp then s else post .printFault .page p 1 crc.toNat s).ceu := by
  cases givenUp with
  | false => exact faulted_spec e hq (fun r => { r with checkFail := true, state := .damaged }) hpage hsub 1 crc.toNat
  | true =>
    refine ⟨_, modifyPage_of_some hq _, prints_putPage e _ hpage, rfl, page?_putPage_self .., rfl⟩

end

/-! ## The end of a page-copy -/

/-- A page that keeps a print hold, or whose document keeps its pages, is not freed as it loses one. -/
theorem changePrintHolds_of_stays {s : State} {p : Nat} {q : PageRec} (hq : s.page? p = some q)
    (hstays : 2 ≤ q.printHolds ∨ s.keeps q.doc = true) :
    changePrintHolds p (-1) s = putPage p { q with printHolds := q.printHolds - 1 } s := by
  have hnum : ((q.printHolds : Int) + (-1)).toNat = q.printHolds - 1 := by omega
  obtain hholds | hkeep := hstays
  · rw [changePrintHolds, hq]
    simp only [hnum]
    exact if_neg (by omega)
  · rw [changePrintHolds_of_kept hq hkeep, hnum]

/-- The page record after the check of its last line. -/
def PageRec.checked (q : PageRec) (bad : Bool) : PageRec :=
  { q with checkFail := q.checkFail || bad, state := if bad then .damaged else q.state }

/-- The end of a page-copy: the page takes the result of its check and loses a hold, the entry goes to the next place. -/
theorem endPageCopy_spec {sp : List (Nat × Nat)} {s : State} (l : SheetLine) (givenUp : Bool) {q : PageRec} {r : PrintEntry}
    (hq : s.page? l.rendering.page = some q) (hr : s.entry? l.entry = some r)
    (hstays : 2 ≤ q.printHolds ∨ s.keeps q.doc = true) (hpage : (s.pageAddr l.rendering.page, 64) ∈ sp)
    (hentry : (s.entryAddr l.entry, 64) ∈ sp) (hsub : l.line.badCheck.isSome = true → s.eventSpans ⊆ sp) :
    ∃ u, endPageCopy l givenUp s = u ∧ Prints sp l.rendering.page l.entry s u
      ∧ u.prn = { s.prn with
          entries := Tab.set s.prn.entries l.entry { r with position := r.position + 1 }, rendering := none }
      ∧ u.page? l.rendering.page
          = some { q.checked l.line.badCheck.isSome with printHolds := q.printHolds - 1 }
      ∧ (l.line.badCheck = none → u.ceu = s.ceu)
      ∧ ∀ crc, l.line.badCheck = some crc →
          u.ceu = (if givenUp then s else post .printFault .page l.rendering.page 1 crc.toNat s).ceu := by
  obtain ⟨c, hc, hprints, hprn, hcq, hceu⟩ : ∃ c, endPageCopy l givenUp s = changePrintHolds l.rendering.page (-1)
        (modifyEntry l.entry (fun r => { r with position := r.position + 1 }) { c with prn := { c.prn with rendering := none } })
      ∧ Prints sp l.rendering.page l.entry s c ∧ c.prn = s.prn
      ∧ c.page? l.rendering.page = some (q.checked l.line.badCheck.isSome)
      ∧ (l.line.badCheck = none → c.ceu = s.ceu)
      ∧ ∀ crc, l.line.badCheck = some crc →
          c.ceu = (if givenUp then s else post .printFault .page l.rendering.page 1 crc.toNat s).ceu := by
    unfold endPageCopy
    cases hbad : l.line.badCheck with
    | none =>
      refine ⟨s, rfl, Prints.refl .., rfl, ?_, fun _ => rfl, fun _ h => nomatch h⟩
      rw [hq]
      simp [PageRec.checked]
    | some crc =>
      obtain ⟨c, rfl, hprints, hprn, hcq, hceu⟩ := checkFault_spec l.entry hq hpage (hsub (by rw [hbad]; rfl)) crc givenUp
      refine ⟨_, rfl, hprints, hprn, ?_, (fun h => nomatch h), fun crc' h => ?_⟩
      · rw [hcq]
        simp [PageRec.checked]
      · cases h
        exact hceu
  obtain ⟨x, hx⟩ : ∃ x, x = putEntry l.entry { r with position := r.position + 1 } { c with prn := { c.prn with rendering := none } } :=
    ⟨_, rfl⟩
  have hmod : modifyEntry l.entry (fun r => { r with position := r.position + 1 }) { c with prn := { c.prn with rendering := none } }
      = x := by
    have hcr : State.entry? { c with prn := { c.prn with rendering := none } } l.entry = some r := by
      show Tab.get? c.prn.entries l.entry = some r
      rw [hprn]
      exact hr
    rw [modifyEntry, hcr, hx]
  have hput : Prints sp l.rendering.page l.entry c x := by
    rw [hx]
    refine (prints_prn sp l.rendering.page l.entry c (x := { c.prn with rendering := none }) rfl).trans (prints_putEntry _ _ ?_)
    exact hprints.entryAddr _ ▸ hentry
  have hxq : x.page? l.rendering.page = some (q.checked l.line.badCheck.isSome) := by rw [hx]; exact hcq
  have hends := changePrintHolds_of_stays hxq (hstays.imp_right fun h => by
    unfold State.keeps at h ⊢
    rw [(hprints.trans hput).doc?]
    exact h)
  have hceux : (putPage l.rendering.page { q.checked l.line.badCheck.isSome with
      printHolds := (q.checked l.line.badCheck.isSome).printHolds - 1 } x).ceu = c.ceu := by rw [hx]; rfl
  refine ⟨_, hc.trans ((congrArg _ hmod).trans hends), (hprints.trans hput).trans (prints_putPage _ _ ?_), ?_,
    page?_putPage_self .., fun h => hceux.trans (hceu.1 h), fun crc h => hceux.trans (hceu.2 crc h)⟩
  · rw [(hprints.trans hput).pageAddr]
    exact hpage
  · rw [hx]
    exact congrArg (fun y : Prn => { y with
      entries := Tab.set y.entries l.entry { r with position := r.position + 1 }, rendering := none }) hprn

end Sys2Proof.Machine
end

section
/-! PROOFS. A sheet line written into its slot, and a sheet that ends with a page line (R164, R167). -/

namespace Sys2Proof.Machine

set_option Elab.async false

/-! ## The slot of a sheet line (R164, 11.5) -/

@[simp] theorem Tag.bytes_length (t : Tag) : t.bytes.length = 16 := by simp [Tag.bytes]

theorem packDots_length (o : DotOrder) (n : Nat) (ds : List Bool) : (packDots o n ds).length = n := by
  induction n generalizing ds with
  | zero => rfl
  | succ n ih => simp [packDots, ih]

@[simp] theorem PrintProfile.dataBytes_length (prof : PrintProfile) (dots : List Bool) :
    (prof.dataBytes dots).length = slotBytes prof.width - 16 := packDots_length ..

theorem slotBytes_pos (w : Nat) : 16 ≤ slotBytes w := Nat.le_add_right ..

/-- The state once a sheet line has gone into the slot at the fill index. -/
def SheetLine.written (l : SheetLine) (prof : PrintProfile) (s : State) : State :=
  fillSlot (l.slot none)
    ((s.store (s.printSlotAddr s.prn.fill + 16) (prof.dataBytes l.line.dots)).store (s.printSlotAddr s.prn.fill) (l.tag prof).bytes)

theorem writeSheetLine_of_line {s t : State} {prof : PrintProfile} {l : SheetLine} (hroom : s.prn.slots.length < s.printSlots)
    (hl : nextSheetLine prof s = some (l, t)) : writeSheetLine prof s = handled l false (l.written prof t) := by
  unfold writeSheetLine
  rw [if_pos (show s.waitingSlots < s.printSlots from hroom), hl]
  rfl

theorem SheetLine.written_prn (l : SheetLine) (prof : PrintProfile) (s : State) :
    (l.written prof s).prn = { s.prn with
      slots := s.prn.slots ++ [l.slot none], fill := (s.prn.fill + 1) % s.printSlots } := rfl

/-- The slot holds tag and dots, and no other byte changes. -/
theorem SheetLine.written_dram (l : SheetLine) (prof : PrintProfile) (s : State) {a : Nat} (ha : s.printSlotAddr s.prn.fill = a) :
    Mem.bytes (l.written prof s).dram a 16 = (l.tag prof).bytes
    ∧ Mem.bytes (l.written prof s).dram (a + 16) (slotBytes prof.width - 16) = prof.dataBytes l.line.dots
    ∧ unchangedOutside [(a, slotBytes prof.width)] s.dram (l.written prof s).dram := by
  have hdram : (l.written prof s).dram
      = Mem.write (Mem.write s.dram (a + 16) (prof.dataBytes l.line.dots)) a (l.tag prof).bytes := by rw [← ha]; rfl
  have hsize := slotBytes_pos prof.width
  rw [hdram]
  refine ⟨?_, ?_, ?_⟩
  · have := Mem.bytes_write_self (Mem.write s.dram (a + 16) (prof.dataBytes l.line.dots)) a (l.tag prof).bytes
    rwa [Tag.bytes_length] at this
  · rw [Mem.bytes_write_of_disjoint _ _ _ _ _ (Or.inr (by simp))]
    have := Mem.bytes_write_self s.dram (a + 16) (prof.dataBytes l.line.dots)
    rwa [PrintProfile.dataBytes_length] at this
  · refine unchangedOutside.write ?_ (List.mem_singleton_self _) (by simpa using hsize)
    refine (unchangedOutside_write s.dram (a + 16) (prof.dataBytes l.line.dots)).widen fun x hx => ?_
    obtain rfl := List.mem_singleton.1 hx
    refine ⟨_, List.mem_singleton_self _, by simp, ?_⟩
    simp only [PrintProfile.dataBytes_length]
    omega

theorem SheetLine.written_prints (l : SheetLine) (prof : PrintProfile) (s : State) {a : Nat} (ha : s.printSlotAddr s.prn.fill = a)
    (p e : Nat) : Prints [(a, slotBytes prof.width)] p e s (l.written prof s) :=
  ⟨rfl, fun _ _ => rfl, fun _ _ => rfl, (l.written_dram prof s ha).2.2⟩

/-- The print ring shares no byte with the part-owned region and the event ring. -/
theorem Anchor.passed_prnApart {a : Anchor} {w : Nat} (h : a.passed w = true) :
    (a.evBase + (64 + 16 * a.recCount) ≤ a.prnBase ∨ a.prnBase + a.prnSize ≤ a.evBase)
      ∧ (a.prnBase + a.prnSize ≤ a.porBase ∨ a.porBase + a.porSize ≤ a.prnBase) := by
  simp only [Anchor.passed, Bool.and_eq_true] at h
  obtain ⟨⟨⟨⟨⟨⟨⟨⟨-, -⟩, -⟩, hapart⟩, -⟩, -⟩, -⟩, -⟩, -⟩ := h
  simp only [Anchor.apartOk, Anchor.regions, allApart, apart, List.all_cons, List.all_nil, Bool.and_true, Bool.and_eq_true,
    Bool.or_eq_true, decide_eq_true_eq] at hapart
  obtain ⟨-, -, ⟨-, hev, -⟩, -, hpor⟩ := hapart
  exact ⟨hev, hpor⟩

/-- What the part keeps for itself shares no byte with the print ring. -/
theorem bytes_of_keepsIn {a : Anchor} {w : Nat} (hpass : a.passed w = true) {sp : List (Nat × Nat)} (hsp : ∀ x ∈ sp, a.keepsIn x)
    {m m' : Mem} (h : unchangedOutside sp m m') {b n : Nat} (hlo : a.prnBase ≤ b) (hhi : b + n ≤ a.prnBase + a.prnSize) :
    Mem.bytes m' b n = Mem.bytes m b n := by
  obtain ⟨hev, hpor⟩ := Anchor.passed_prnApart hpass
  refine Mem.bytes_congr fun i hi hi' => h i fun x hx => ?_
  rw [within_eq_false_iff]
  obtain ⟨hx1, hx2⟩ | ⟨hx1, hx2⟩ := hsp x hx
  · omega
  · omega

/-- A slot lies in the print ring. -/
theorem slot_inRing {base size count step k : Nat} (hk : k < count) (h : count * step ≤ size) :
    base ≤ base + k * step ∧ base + k * step + step ≤ base + size := by
  have hnext : (k + 1) * step ≤ count * step := Nat.mul_le_mul_right _ hk
  have hexpand : (k + 1) * step = k * step + step := Nat.succ_mul ..
  omega

/-! ## The end of a sheet -/

/-- The state as the last line of a sheet is handled: its entry is at line 0 of the next one. -/
def SheetLine.ended (l : SheetLine) (s : State) : State :=
  { putEntry l.entry { l.entryRec with sheetLine := 0 } s with
    prn := { (putEntry l.entry { l.entryRec with sheetLine := 0 } s).prn with
      sheetOpen := false,
      rendering := some { l.rendering with cur := some { l.line with owed := l.line.owed - 1 } } } }

/-- A STOPPING printer stops (R165). -/
def stopAtSheetEnd (s : State) : State :=
  if s.prn.state = .stopping then { s with prn := { s.prn with state := .stopped } } else s

theorem handled_of_endsSheet {l : SheetLine} (h : l.endsSheet = true) (givenUp : Bool) {s y z : State}
    (hy : (if l.endsPage then endPageCopy l givenUp (l.ended s) else l.ended s) = y)
    (hz : (if l.entryRec.cancelMark then removeEntry l.entry true y else y) = z) :
    handled l givenUp s = settle (stopAtSheetEnd z) := by
  subst hz hy
  unfold handled endSheet
  simp only [h, if_true, Bool.not_true]
  rfl

theorem SheetLine.ended_prn (l : SheetLine) (s : State) :
    (l.ended s).prn = { s.prn with
      entries := Tab.set s.prn.entries l.entry { l.entryRec with sheetLine := 0 }, sheetOpen := false,
      rendering := some { l.rendering with cur := some { l.line with owed := l.line.owed - 1 } } } := rfl

theorem SheetLine.ended_prints (l : SheetLine) {sp : List (Nat × Nat)} {s : State} (p : Nat) (hentry : (s.entryAddr l.entry, 64) ∈ sp) :
    Prints sp p l.entry s (l.ended s) :=
  (prints_putEntry p _ hentry).trans (prints_prn sp p l.entry _ rfl)

theorem stopAtSheetEnd_prn (s : State) :
    (stopAtSheetEnd s).prn = { s.prn with state := if s.prn.state = .stopping then .stopped else s.prn.state } := by
  unfold stopAtSheetEnd
  split <;> rfl

theorem stopAtSheetEnd_eq (s : State) : stopAtSheetEnd s = { s with prn := (stopAtSheetEnd s).prn } := by
  unfold stopAtSheetEnd
  split <;> rfl

theorem stopAtSheetEnd_prints (sp : List (Nat × Nat)) (p e : Nat) (s : State) : Prints sp p e s (stopAtSheetEnd s) := by
  rw [stopAtSheetEnd_eq]
  refine prints_prn sp p e s ?_
  rw [stopAtSheetEnd_prn]

/-- The entry in hand as its record changes. -/
theorem printingEntry_set {s u : State} (hord : Tab.rising s.prn.entries = true) {e : Nat} {r r' : PrintEntry}
    (h : s.printingEntry = some (e, r)) (hp : r'.printing = true) (hu : u.prn.entries = Tab.set s.prn.entries e r') :
    u.printingEntry = some (e, r') := by
  obtain ⟨-, -, hfirst⟩ := (State.printingEntry_iff hord e r).1 h
  have hget (k : Nat) : u.entry? k = if k = e then some r' else s.entry? k := by
    show Tab.get? u.prn.entries k = _
    rw [hu, Tab.get?_set]
    rfl
  refine (State.printingEntry_iff (by rw [hu]; exact Tab.rising_set hord e r') e r').2 ⟨?_, hp, fun k q hk hlt => ?_⟩
  · rw [hget, if_pos rfl]
  · rw [hget, if_neg (Nat.ne_of_lt hlt)] at hk
    exact hfirst k q hk hlt

end Sys2Proof.Machine
end

section
/-! PROOFS. The last line of a page, written or given up: the line as it is decoded, and what the page, the entry and the
printer become (R167 to R169, log 53). -/

namespace Sys2Proof.Machine

set_option Elab.async false

/-- The last sheet line of a page, of a page line as it was decoded. -/
def lastLineOf (e : Nat) (r : PrintEntry) (n : Rendering) (page : PageRec) (dec : Decoded) (bad : Option (BitVec 16)) : SheetLine :=
  { entry := e, entryRec := r,
    rendering := { n with pos := n.pos + dec.used, lineNo := n.lineNo + 1, ref := dec.dots, cur := some ⟨dec.dots, 1, true, bad⟩ },
    page := page, line := ⟨dec.dots, 1, true, bad⟩, sheet := r.sheetNumber - 1, number := r.sheetLine, endsPage := true,
    endsSheet := true }

/-- The next line of a page as it is decoded. -/
def State.nextDecoded (s : State) (n : Rendering) (page : PageRec) : Decoded :=
  decodeLine page.cls.dots n.ref (s.streamBytes page.chain n.pos (page.codedLen - n.pos))

/-- The check of a page whose last line was not malformed, when it differs from the record's. -/
def State.badCheck (s : State) (n : Rendering) (page : PageRec) : Option (BitVec 16) :=
  if !(s.nextDecoded n page).malformed && crc16 (s.streamBytes page.chain 0 page.codedLen) != page.check then
    some (crc16 (s.streamBytes page.chain 0 page.codedLen)) else none

theorem owedLine_of_spent {n : Rendering} (h : (n.cur.all fun l => l.owed == 0) = true) (prof : PrintProfile) (page : PageRec)
    (s : State) : owedLine prof n page s = decodeNext prof n page s := by
  unfold owedLine
  cases hcur : n.cur with
  | none => rfl
  | some line =>
    rw [hcur] at h
    exact if_pos (by simpa using h)

theorem nextSheetLine_of_last {s : State} {e : Nat} {r : PrintEntry} {n : Rendering} {page : PageRec} {prof : PrintProfile}
    (hopen : s.prn.sheetOpen = true) (he : s.printingEntry = some (e, r)) (hn : s.prn.rendering = some n)
    (hpage : s.page? n.page = some page) (hspent : (n.cur.all fun l => l.owed == 0) = true)
    (hone : page.res = .fine ∨ prof.repeats = 1)
    (hlast : (s.nextDecoded n page).malformed = true ∨ page.codedLen ≤ n.pos + (s.nextDecoded n page).used) :
    nextSheetLine prof s = some (lastLineOf e r n page (s.nextDecoded n page) (s.badCheck n page),
      if (s.nextDecoded n page).malformed then decodeFault n.page n.lineNo s else s) := by
  have howed : ¬(page.res = .standard ∧ prof.repeats = 2) := by
    rintro ⟨hstd, htwo⟩
    obtain hfine | hrep := hone
    · rw [hstd] at hfine
      cases hfine
    · omega
  have hl : ((s.nextDecoded n page).malformed || decide (page.codedLen ≤ n.pos + (s.nextDecoded n page).used)) = true := by
    simpa using hlast
  have hdec : decodeNext prof n page s
      = ((lastLineOf e r n page (s.nextDecoded n page) (s.badCheck n page)).rendering,
          (lastLineOf e r n page (s.nextDecoded n page) (s.badCheck n page)).line,
          if (s.nextDecoded n page).malformed then decodeFault n.page n.lineNo s else s) := by
    unfold decodeNext
    dsimp only
    rw [show decodeLine page.cls.dots n.ref (s.streamBytes page.chain n.pos (page.codedLen - n.pos)) = s.nextDecoded n page from rfl,
      hl, if_neg howed]
    rfl
  simp only [nextSheetLine, he, hn, hopen, hpage, owedLine_of_spent hspent, hdec]
  rfl

/-- What a printer that goes no further than the page waits for: it stops, or its entry's list may grow at its end. -/
def State.waitsAfter (s : State) (r : PrintEntry) : Prop :=
  s.prn.state = .stopping
    ∨ (s.prn.state = .printing ∧ ∃ d, s.doc? r.doc = some d ∧ d.isFinal = false ∧ d.places.length ≤ r.position + 1)

/-- At the end of a list that may grow, and once stopped, nothing follows. -/
theorem settle_of_waits {s : State} (hord : Tab.rising s.prn.entries = true) {e : Nat} {r : PrintEntry}
    (he : s.printingEntry = some (e, r)) (hren : s.prn.rendering = none)
    (hst : s.prn.state ≠ .printing
      ∨ ∃ d, s.doc? r.doc = some d ∧ d.isFinal = false ∧ d.places.length ≤ r.position) : settle s = s := by
  obtain hst | ⟨d, hd, hfinal, hend⟩ := hst
  · exact settle_of_notPrinting hst
  · by_cases hgo : s.prn.state = .printing ∧ s.prn.sheetOpen = false
    · obtain ⟨hentry, hp, hfirst⟩ := (State.printingEntry_iff hord e r).1 he
      have hin : InHand s e r s := ⟨rfl, hord, hentry, fun _ _ => rfl, hp, hfirst, unchangedOutside_refl _ _⟩
      have hplace := List.getElem?_eq_none hend
      refine settle_of_walked hgo.1 hgo.2 hren (hin.walk_waits hd hfinal hplace _) hren fun e' r' d' p page he' hd' hp' => ?_
      rw [he] at he'
      cases he'
      rw [hd] at hd'
      cases hd'
      rw [hplace] at hp'
      cases hp'
    · rw [settle, if_neg]
      simpa using hgo

/-- The last line of a page handled: the page loses a hold, the entry stands at the next place, a STOPPING printer stops. -/
theorem handled_lastLine {sp : List (Nat × Nat)} {s : State} {e : Nat} {r : PrintEntry} (n : Rendering) (page : PageRec)
    (dec : Decoded) (bad : Option (BitVec 16)) (givenUp : Bool) (hord : Tab.rising s.prn.entries = true)
    (he : s.printingEntry = some (e, r)) (hmark : r.cancelMark = false) {q : PageRec} (hq : s.page? n.page = some q)
    (hholds : 2 ≤ q.printHolds) (hwait : s.waitsAfter r) (hpage : (s.pageAddr n.page, 64) ∈ sp) (hentry : (s.entryAddr e, 64) ∈ sp)
    (hsub : bad.isSome = true → s.eventSpans ⊆ sp) :
    ∃ u, handled (lastLineOf e r n page dec bad) givenUp s = u ∧ Prints sp n.page e s u
      ∧ u.prn = { s.prn with
          entries := u.prn.entries, rendering := none, sheetOpen := false,
          state := if s.prn.state = .stopping then .stopped else .printing }
      ∧ u.entry? e = some { r with sheetLine := 0, position := r.position + 1 }
      ∧ u.page? n.page = some { q.checked bad.isSome with printHolds := q.printHolds - 1 }
      ∧ (bad = none → u.ceu = s.ceu)
      ∧ ∀ crc, bad = some crc → u.ceu = (if givenUp then s else post .printFault .page n.page 1 crc.toNat s).ceu := by
  obtain ⟨-, hp, -⟩ := (State.printingEntry_iff hord e r).1 he
  obtain ⟨l, hl⟩ : ∃ l, l = lastLineOf e r n page dec bad := ⟨_, rfl⟩
  have hle : l.entry = e := by rw [hl]; rfl
  have hlr : l.entryRec = r := by rw [hl]; rfl
  have hlp : l.rendering.page = n.page := by rw [hl]; rfl
  have hlb : l.line.badCheck = bad := by rw [hl]; rfl
  have hpages : l.endsPage = true := by rw [hl]; rfl
  have hends : l.endsSheet = true := by rw [hl]; rfl
  obtain ⟨x, hx⟩ : ∃ x, x = l.ended s := ⟨_, rfl⟩
  have hxprints : Prints sp n.page e s x := by
    rw [hx, ← hle]
    exact l.ended_prints n.page (by rw [hle]; exact hentry)
  have hxprn : x.prn = { s.prn with
      entries := Tab.set s.prn.entries e { r with sheetLine := 0 }, sheetOpen := false,
      rendering := some { l.rendering with cur := some { l.line with owed := l.line.owed - 1 } } } := by
    rw [hx, l.ended_prn, hle, hlr]
  have hxe : x.entry? e = some { r with sheetLine := 0 } := by
    show Tab.get? x.prn.entries e = _
    rw [hxprn]
    exact Tab.get?_set_self ..
  have hxq : x.page? n.page = some q := by rw [hx]; exact hq
  have hxev : x.eventSpans = s.eventSpans := by rw [hx]; rfl
  have hxceu : x.ceu = s.ceu := by rw [hx]; rfl
  obtain ⟨y, hy, hyprints, hyprn, hyq, hynone, hysome⟩ := endPageCopy_spec (sp := sp) l givenUp (s := x) (q := q)
    (r := { r with sheetLine := 0 }) (by rw [hlp]; exact hxq) (by rw [hle]; exact hxe) (Or.inl hholds)
    (by rw [hlp, hxprints.pageAddr]; exact hpage) (by rw [hle, hxprints.entryAddr]; exact hentry)
    (by rw [hlb, hxev]; exact hsub)
  rw [hle] at hyprints hyprn
  rw [hlp] at hyprints hyq hysome
  rw [hlb] at hyq hynone hysome
  obtain ⟨z, hz⟩ : ∃ z, z = stopAtSheetEnd y := ⟨_, rfl⟩
  have hzprn : z.prn = { y.prn with state := if y.prn.state = .stopping then .stopped else y.prn.state } := by
    rw [hz, stopAtSheetEnd_prn]
  have hyst : y.prn.state = s.prn.state := by rw [hyprn, hxprn]
  have hentries : y.prn.entries = Tab.set x.prn.entries e { r with sheetLine := 0, position := r.position + 1 } := by rw [hyprn]
  have hxrise : Tab.rising x.prn.entries = true := by
    rw [hxprn]
    exact Tab.rising_set hord e _
  have hyrise : Tab.rising y.prn.entries = true := by
    rw [hentries]
    exact Tab.rising_set hxrise e _
  have hzentries : z.prn.entries = y.prn.entries := by rw [hzprn]
  have hxin : x.printingEntry = some (e, { r with sheetLine := 0 }) := printingEntry_set hord he hp (by rw [hxprn])
  have hyin : y.printingEntry = some (e, { r with sheetLine := 0, position := r.position + 1 }) :=
    printingEntry_set hxrise hxin hp hentries
  have hzin : z.printingEntry = some (e, { r with sheetLine := 0, position := r.position + 1 }) := by
    unfold State.printingEntry at hyin ⊢
    rw [hzentries]
    exact hyin
  have hprints : Prints sp n.page e s z := by
    rw [hz]
    exact (hxprints.trans hyprints).trans (stopAtSheetEnd_prints sp n.page e y)
  have hsettle : settle z = z := by
    refine settle_of_waits (by rw [hzentries]; exact hyrise) hzin (by rw [hzprn, hyprn]) ?_
    rw [hzprn, hyst]
    obtain hstop | ⟨hprinting, d, hd, hfinal, hend⟩ := hwait
    · left
      rw [if_pos hstop]
      exact PrintState.noConfusion
    · right
      exact ⟨d, by rw [hprints.doc?]; exact hd, hfinal, hend⟩
  have hstate : (if y.prn.state = .stopping then PrintState.stopped else y.prn.state)
      = if s.prn.state = .stopping then .stopped else .printing := by
    rw [hyst]
    obtain hstop | ⟨hprinting, -⟩ := hwait
    · rw [if_pos hstop, if_pos hstop]
    · rw [hprinting]
  refine ⟨z, ?_, hprints, ?_, ?_, ?_, fun h => ?_, fun crc h => ?_⟩
  · rw [← hl, handled_of_endsSheet hends givenUp (y := y) (z := y) (by rw [if_pos hpages, ← hx, hy])
      (by rw [hlr, hmark]; exact if_neg Bool.false_ne_true), ← hz, hsettle]
  · rw [hzprn, hstate, hyprn, hxprn]
  · show Tab.get? z.prn.entries e = _
    rw [hzentries, hentries]
    exact Tab.get?_set_self ..
  · have hzq : z.page? n.page = y.page? n.page := by rw [hz, stopAtSheetEnd_eq]; rfl
    rw [hzq, hyq]
  · have hzceu : z.ceu = y.ceu := by rw [hz, stopAtSheetEnd_eq]
    rw [hzceu, hynone h, hxceu]
  · have hzceu : z.ceu = y.ceu := by rw [hz, stopAtSheetEnd_eq]
    rw [hzceu, hysome crc h]
    cases givenUp with
    | true => exact hxceu
    | false => exact post_ceu_congr hxprints.rgw hxceu hxprints.seconds ..

end Sys2Proof.Machine
end

section
/-! PROOFS. The Print Renderer on two states that differ in one known way only, and on one that holds a print read beside one
that holds none. -/

namespace Sys2Proof.Machine

set_option Elab.async false

section

variable {w : Slack} {s t : State}

/-! ## Entries -/

theorem Alike.entry? (h : Alike w s t) (e : Nat) : t.entry? e = s.entry? e := by rw [State.entry?, h.prn, State.entry?]
theorem Alike.printingEntry (h : Alike w s t) : t.printingEntry = s.printingEntry := by
  rw [State.printingEntry, h.prn, State.printingEntry]
theorem Alike.printSlots (h : Alike w s t) : t.printSlots = s.printSlots := by rw [State.printSlots, h.rgw, State.printSlots]
theorem Alike.printSlotAddr (h : Alike w s t) (k : Nat) : t.printSlotAddr k = s.printSlotAddr k := by
  rw [State.printSlotAddr, h.rgw, h.cfg, State.printSlotAddr]

/-- One change of the print unit on both sides. -/
theorem alike_prnBy (h : Alike w s t) (f : Prn → Prn) : Alike w { s with prn := f s.prn } { t with prn := f t.prn } := by
  rw [h.prn]
  exact alike_prn h _

theorem alike_modifyEntry (h : Alike w s t) (e : Nat) (f : PrintEntry → PrintEntry) :
    Alike w (modifyEntry e f s) (modifyEntry e f t) := by
  unfold modifyEntry
  rw [h.entry?]
  cases s.entry? e with
  | none => exact h
  | some r => exact alike_putEntry h e _

theorem alike_withoutEntry (h : Alike w s t) (e : Nat) (r : PrintEntry) : Alike w (withoutEntry e r s) (withoutEntry e r t) :=
  alike_store (alike_prnBy h fun x => x.without e r) (bs := zeros 64) (h.por _)

theorem alike_dropPrintHolds (h : Alike w s t) (r : PrintEntry) : Alike w (dropPrintHolds r s) (dropPrintHolds r t) := by
  unfold dropPrintHolds
  rw [h.doc?]
  exact h.foldl fun _ _ kp h => alike_changePrintHolds h kp.2 _

variable (hw : w.keepsPages)
include hw

theorem alike_loseEntry (h : Alike w s t) (d : Nat) : Alike w (loseEntry d s) (loseEntry d t) := by
  have hfree := alike_testDocFree (alike_modifyDoc h d fun x => { x with printRefs := x.printRefs - 1 }) d
  unfold loseEntry
  dsimp only
  rw [hfree.doc?]
  split
  · exact hfree
  · exact .ite Iff.rfl (fun _ => alike_testAutoDelete (fun _ => hw) (alike_modifyDoc hfree d _)) fun _ => hfree

theorem alike_removeEntry (h : Alike w s t) (e : Nat) (cancelled : Bool) :
    Alike w (removeEntry e cancelled s) (removeEntry e cancelled t) := by
  cases he : s.entry? e with
  | none =>
    have het : t.entry? e = none := by rw [h.entry?, he]
    unfold removeEntry
    rw [he, het]
    exact h
  | some r =>
    rw [removeEntry_eq he, removeEntry_eq (by rw [h.entry?]; exact he)]
    exact alike_loseEntry hw (alike_withoutEntry (.ite Iff.rfl (fun _ => alike_dropPrintHolds h r) fun _ => h) e r) r.doc

/-! ## The next sheet -/

theorem alike_walk (f : Nat) (h : Alike w s t) : Alike w (walk f s) (walk f t) := by
  induction f generalizing s t with
  | zero => exact h
  | succ f ih =>
    unfold walk
    rw [h.printingEntry]
    cases s.printingEntry with
    | none => exact h
    | some x =>
      dsimp only
      rw [h.doc?]
      cases s.doc? x.2.doc with
      | none => exact h
      | some d =>
        dsimp only
        cases d.places[x.2.position]? with
        | none =>
          exact .ite Iff.rfl (fun _ => h) fun _ => .ite Iff.rfl (fun _ => ih (alike_putEntry h _ _))
            fun _ => alike_removeEntry hw h _ _
        | some o =>
          cases o with
          | none => exact ih (alike_putEntry h _ _)
          | some p => exact h

omit hw in
theorem alike_beginRendering (h : Alike w s t) : Alike w (beginRendering s) (beginRendering t) := by
  unfold beginRendering
  rw [h.printingEntry, h.prn]
  refine .ite Iff.rfl (fun _ => h) fun _ => ?_
  cases s.printingEntry with
  | none => exact h
  | some x =>
    dsimp only
    rw [h.doc?]
    split
    · exact h
    next p _ =>
      rw [h.page?]
      cases s.page? p with
      | none => exact h
      | some page => exact .ite Iff.rfl (fun _ => alike_prn h _) fun _ => h

omit hw in
theorem alike_beginSheet (h : Alike w s t) : Alike w (beginSheet s) (beginSheet t) := by
  unfold beginSheet
  rw [h.printingEntry, h.prn]
  split
  · exact alike_putEntry (alike_prn h _) _ _
  · exact h

theorem alike_settle (h : Alike w s t) : Alike w (settle s) (settle t) := by
  unfold settle
  rw [h.prn]
  refine .ite Iff.rfl (fun _ => alike_beginSheet (alike_beginRendering ?_)) fun _ => h
  exact .ite Iff.rfl (fun _ => alike_walk hw 1200 h) fun _ => h

/-! ## The next sheet line -/

omit hw in
theorem alike_decodeFault (h : Alike w s t) (p line : Nat) : Alike w (decodeFault p line s) (decodeFault p line t) :=
  alike_post (alike_modifyPage h p _)

omit hw in
theorem alike_checkFault (h : Alike w s t) (p : Nat) (crc : BitVec 16) (givenUp : Bool) :
    Alike w (checkFault p crc givenUp s) (checkFault p crc givenUp t) :=
  .ite Iff.rfl (fun _ => alike_modifyPage h p _) fun _ => alike_post (alike_modifyPage h p _)

/-- The line is the same on both sides, and the states stay alike. -/
theorem alike_decodeNext (h : Alike w s t) (prof : PrintProfile) (g : Rendering) (r : PageRec) :
    ∃ g' line a b, decodeNext prof g r s = (g', line, a) ∧ decodeNext prof g r t = (g', line, b) ∧ Alike w a b := by
  unfold decodeNext
  simp only [h.streamBytes hw]
  exact ⟨_, _, _, _, rfl, rfl, .ite Iff.rfl (fun _ => alike_decodeFault h _ _) fun _ => h⟩

theorem alike_owedLine (h : Alike w s t) (prof : PrintProfile) (g : Rendering) (r : PageRec) :
    ∃ g' line a b, owedLine prof g r s = (g', line, a) ∧ owedLine prof g r t = (g', line, b) ∧ Alike w a b := by
  unfold owedLine
  cases g.cur with
  | none => exact alike_decodeNext hw h prof g r
  | some l =>
    dsimp only
    split
    · exact alike_decodeNext hw h prof g r
    · exact ⟨g, l, s, t, rfl, rfl, h⟩

theorem alike_nextSheetLine (h : Alike w s t) (prof : PrintProfile) :
    (nextSheetLine prof s = none ∧ nextSheetLine prof t = none)
      ∨ ∃ l a b, nextSheetLine prof s = some (l, a) ∧ nextSheetLine prof t = some (l, b) ∧ Alike w a b := by
  unfold nextSheetLine
  rw [h.printingEntry, h.prn]
  split
  next e r g _ _ _ =>
    rw [h.page?]
    cases s.page? g.page with
    | none => exact .inl ⟨rfl, rfl⟩
    | some page =>
      obtain ⟨g', line, a, b, ha, hb, hab⟩ := alike_owedLine hw h prof g page
      dsimp only
      rw [ha, hb]
      exact .inr ⟨_, a, b, rfl, rfl, hab⟩
  · exact .inl ⟨rfl, rfl⟩

omit hw in
theorem alike_endPageCopy (h : Alike w s t) (l : SheetLine) (givenUp : Bool) :
    Alike w (endPageCopy l givenUp s) (endPageCopy l givenUp t) := by
  unfold endPageCopy
  refine alike_changePrintHolds (alike_modifyEntry (alike_prnBy ?_ fun x => { x with rendering := none }) _ _) _ _
  cases l.line.badCheck with
  | none => exact h
  | some crc => exact alike_checkFault h _ crc givenUp

theorem alike_endSheet (h : Alike w s t) (l : SheetLine) : Alike w (endSheet l s) (endSheet l t) := by
  have hgone : Alike w (if l.entryRec.cancelMark then removeEntry l.entry true s else s)
      (if l.entryRec.cancelMark then removeEntry l.entry true t else t) :=
    .ite Iff.rfl (fun _ => alike_removeEntry hw h _ _) fun _ => h
  unfold endSheet
  dsimp only
  rw [hgone.prn]
  exact .ite Iff.rfl (fun _ => alike_prn hgone _) fun _ => hgone

theorem alike_handled (h : Alike w s t) (l : SheetLine) (givenUp : Bool) : Alike w (handled l givenUp s) (handled l givenUp t) := by
  have hbegun := alike_prnBy (alike_putEntry h l.entry { l.entryRec with sheetLine := if l.endsSheet then 0 else l.number + 1 })
    fun x => { x with
      sheetOpen := !l.endsSheet,
      rendering := some { l.rendering with cur := some { l.line with owed := l.line.owed - 1 } } }
  unfold handled
  dsimp only
  refine alike_settle hw (.ite Iff.rfl (fun _ => alike_endSheet hw ?_ l) fun _ => ?_)
  · exact .ite Iff.rfl (fun _ => alike_endPageCopy hbegun l givenUp) fun _ => hbegun
  · exact .ite Iff.rfl (fun _ => alike_endPageCopy hbegun l givenUp) fun _ => hbegun

omit hw in
theorem alike_written (h : Alike w s t) (l : SheetLine) (prof : PrintProfile) : Alike w (l.written prof s) (l.written prof t) := by
  unfold SheetLine.written
  have ha : t.printSlotAddr t.prn.fill = s.printSlotAddr s.prn.fill := by rw [h.prn, h.printSlotAddr]
  rw [ha]
  have hstored := alike_store (alike_store h (a := s.printSlotAddr s.prn.fill + 16) (bs := prof.dataBytes l.line.dots) rfl)
    (a := s.printSlotAddr s.prn.fill) (bs := (l.tag prof).bytes) rfl
  unfold fillSlot
  rw [hstored.printSlots]
  exact alike_prnBy hstored fun x => { x with
    slots := x.slots ++ [l.slot none], fill := (x.fill + 1) % State.printSlots
      ((s.store (s.printSlotAddr s.prn.fill + 16) (prof.dataBytes l.line.dots)).store (s.printSlotAddr s.prn.fill) (l.tag prof).bytes) }

theorem alike_writeSheetLine (h : Alike w s t) (prof : PrintProfile) : Alike w (writeSheetLine prof s) (writeSheetLine prof t) := by
  obtain ⟨hs, ht⟩ | ⟨l, a, b, hs, ht, hab⟩ := alike_nextSheetLine hw h prof
  · rw [writeSheetLine_of_none hs, writeSheetLine_of_none ht]
    exact h
  · by_cases hroom : s.prn.slots.length < s.printSlots
    · rw [writeSheetLine_of_line hroom hs, writeSheetLine_of_line (by rw [h.prn, h.printSlots]; exact hroom) ht]
      exact alike_handled hw (alike_written hab l prof) l false
    · have hfull (x : State) (hx : x.prn = s.prn) (hn : x.printSlots = s.printSlots) : writeSheetLine prof x = x := by
        unfold writeSheetLine
        rw [if_neg]
        rw [State.waitingSlots, hx, hn]
        exact hroom
      rw [hfull s rfl rfl, hfull t h.prn h.printSlots]
      exact h

omit hw in
theorem alike_testUrgent (h : Alike w s t) : Alike w (testUrgent s) (testUrgent t) := by
  have hmad : t.mad = s.mad := h.core.2.2.2.1
  have hprinting : t.isPrinting = s.isPrinting := by rw [State.isPrinting, h.prn, State.isPrinting]
  have hwaiting : t.waitingSlots = s.waitingSlots := by rw [State.waitingSlots, h.prn, State.waitingSlots]
  have hactive : t.prn.active = s.prn.active := by rw [h.prn]
  unfold testUrgent
  dsimp only
  rw [h.isRun, hprinting, hwaiting, hmad, hactive]
  exact alike_mad h { s.mad with
    urgent := s.isRun && s.isPrinting && decide (s.waitingSlots < (s.prn.active.map PrintProfile.threshold).getD 0) }

end

/-! ## A held print read -/

/-- The same state with another held access. -/
def State.withHeld (s : State) (h : Option Held) : State := { s with smp := { s.smp with held := h } }

theorem alike_withHeld {s : State} {h : Held} (hr : h.reason = .print) : Alike (.held h) (s.withHeld none) (s.withHeld (some h)) :=
  ⟨{ (s.withHeld none).own with smp := { s.smp with held := some h } }, rfl,
    ⟨rfl, (List.map_id _).symm, rfl, ⟨hr, rfl, rfl⟩, rfl, rfl, rfl⟩⟩

theorem Alike.eq_withHeld {h : Held} {s t : State} (ha : Alike (.held h) s t) : s.smp.held = none ∧ t = s.withHeld (some h) := by
  obtain ⟨x, rfl, hx⟩ := ha
  obtain ⟨-, hnone, hsmp⟩ := hx.smp
  have hlines : x.lines = s.lne.lines := hx.lines
  have hdests : x.dests = s.dju.dests := hx.dests.trans (List.map_id _)
  have hcheck : x.check = s.sli.check := hx.check
  have hchg : x.chg = s.chg := hx.chg
  have hceu : x.ceu = s.ceu := hx.ceu
  have hdram : x.dram = s.dram := hx.dram
  refine ⟨hnone, ?_⟩
  unfold State.alter State.withHeld
  rw [hlines, hdests, hcheck, hchg, hceu, hdram, hsmp]
  rfl

/-- What the renderer's step does before it looks at a held read. -/
def rendered (prof : PrintProfile) (s : State) : State := testUrgent (writeSheetLine prof (settle s))

/-- A held print read plays no part in the step until the step is done. -/
theorem rendered_withHeld (prof : PrintProfile) {h : Held} (hr : h.reason = .print) (s : State) :
    (rendered prof (s.withHeld none)).smp.held = none
      ∧ rendered prof (s.withHeld (some h)) = (rendered prof (s.withHeld none)).withHeld (some h) :=
  have hw : (Slack.held h).keepsPages := trivial
  (alike_testUrgent (alike_writeSheetLine hw (alike_settle hw (alike_withHeld hr)) prof)).eq_withHeld

theorem finishRead_withHeld (off : Nat) (s : State) (h : Option Held) : finishRead off (s.withHeld h) = finishRead off s := rfl

/-- A read of a filled slot that is not its last word only returns the word in DRAM. -/
theorem finishRead_of_filled {s : State} {off j r : Nat} {q : SlotRec} (hslot : s.printSlot off = some (j, r))
    (hq : s.slotRec j = some q) (hsub : q.substitute = none)
    (hlast : r + 4 ≠ slotBytes ((s.rgw.printGeom.map PrintGeom.width).getD 0)) :
    finishRead off s = { s with smp := { held := none, busData := Mem.word s.dram off } } := by
  have hword : s.readWord off = Mem.word s.dram off := by
    simp only [State.readWord, hslot, hq, Option.bind_some, hsub]
  have hslot' : State.printSlot { s with smp := { s.smp with held := none, busData := s.readWord off } } off = some (j, r) := hslot
  rw [finishRead, readWatch, hslot', hword]
  dsimp only
  rw [if_neg]
  simp [hlast]

end Sys2Proof.Machine
end

section
/-! PROOFS. PRN_RENDER_SHEET_LINE by the sheet line that it owes: one in the middle of a page, the last of a page, and the last
of a cancelled entry (R161, R167 to R169). -/

namespace Sys2Proof.Machine

set_option Elab.async false

/-! ## The last line of a page -/

/-- The page record after its last line, whatever the line proved to be. -/
def State.pageAfter (s : State) (n : Rendering) (page : PageRec) : PageRec :=
  { page with
    decodeFault := page.decodeFault || (s.nextDecoded n page).malformed,
    checkFail := page.checkFail || (s.badCheck n page).isSome,
    state := if (s.nextDecoded n page).malformed || (s.badCheck n page).isSome then .damaged else page.state,
    printHolds := page.printHolds - 1 }

/-- The page record once its last line has been decoded. -/
def State.pageDecoded (s : State) (n : Rendering) (page : PageRec) : PageRec :=
  { page with
    decodeFault := page.decodeFault || (s.nextDecoded n page).malformed,
    state := if (s.nextDecoded n page).malformed then .damaged else page.state }

/-- A line that is malformed is reported as it is decoded. -/
theorem decoded_spec {sp : List (Nat × Nat)} (e : Nat) {s : State} {n : Rendering} {page : PageRec}
    (hpage : s.page? n.page = some page) (hmem : (s.pageAddr n.page, 64) ∈ sp) (hsub : s.eventSpans ⊆ sp) :
    ∃ t, (if (s.nextDecoded n page).malformed then decodeFault n.page n.lineNo s else s) = t ∧ Prints sp n.page e s t
      ∧ t.prn = s.prn
      ∧ t.page? n.page = some (s.pageDecoded n page)
      ∧ t.ceu = (if (s.nextDecoded n page).malformed then post .printFault .page n.page 0 n.lineNo s else s).ceu := by
  unfold State.pageDecoded
  cases (s.nextDecoded n page).malformed with
  | false => exact ⟨s, rfl, Prints.refl .., rfl, by rw [hpage]; simp, rfl⟩
  | true =>
    obtain ⟨u, hu, hprints, hprn, hq, hceu⟩ := faulted_spec e hpage (fun r => { r with decodeFault := true, state := .damaged })
      hmem hsub 0 n.lineNo
    exact ⟨u, hu, hprints, hprn, by rw [hq]; simp, hceu⟩

/-- Only a page whose last line was not malformed is checked. -/
theorem State.malformed_of_badCheck {s : State} {n : Rendering} {page : PageRec} (h : (s.badCheck n page).isSome = true) :
    (s.nextDecoded n page).malformed = false := by
  unfold State.badCheck at h
  split at h
  next hbad =>
    simp only [Bool.and_eq_true, Bool.not_eq_true'] at hbad
    exact hbad.1
  · cases h

theorem State.pageAfter_eq (s : State) (n : Rendering) (page : PageRec) :
    ({ (s.pageDecoded n page).checked (s.badCheck n page).isSome with
        printHolds := (s.pageDecoded n page).printHolds - 1 } : PageRec) = s.pageAfter n page := by
  unfold PageRec.checked State.pageAfter State.pageDecoded
  cases hm : (s.nextDecoded n page).malformed with
  | false => simp
  | true =>
    cases hb : (s.badCheck n page).isSome with
    | false => simp
    | true =>
      rw [State.malformed_of_badCheck hb] at hm
      cases hm

/-- The bytes that the last line of a page changes, its slot apart. -/
def State.lastLineSpans (s : State) (p e : Nat) : List (Nat × Nat) := (s.entryAddr e, 64) :: (s.pageAddr p, 64) :: s.eventSpans

section

variable {s : State} {e : Nat} {r : PrintEntry} {n : Rendering} {page : PageRec} {prof : PrintProfile}
variable (hrun : s.rgw.state = .run) (hord : s.ordered = true) (hactive : s.prn.active = some prof) (hopen : s.prn.sheetOpen = true)
variable (he : s.printingEntry = some (e, r)) (hmark : r.cancelMark = false) (hn : s.prn.rendering = some n)
variable (hwait : s.waitsAfter r) (hpage : s.page? n.page = some page) (hspent : (n.cur.all fun l => l.owed == 0) = true)
variable (hone : page.res = .fine ∨ prof.repeats = 1) (hholds : 2 ≤ page.printHolds)
variable (hlast : (s.nextDecoded n page).malformed = true ∨ page.codedLen ≤ n.pos + (s.nextDecoded n page).used)

include hord hopen he hmark hn hwait hpage hspent hone hholds hlast in
/-- The last line of a page, written into slot F: what stands then, before the urgent flag is tested. -/
theorem writeSheetLine_last (hroom : s.prn.slots.length < s.printSlots) {a : Nat} (ha : s.printSlotAddr s.prn.fill = a) :
    ∃ x u, writeSheetLine prof s = u
      ∧ Prints (s.lastLineSpans n.page e) n.page e x u
      ∧ Prints ((a, slotBytes prof.width) :: s.lastLineSpans n.page e) n.page e s u
      ∧ u.prn = { s.prn with
          entries := u.prn.entries, rendering := none, sheetOpen := false, fill := (s.prn.fill + 1) % s.printSlots,
          slots := s.prn.slots
            ++ [(lastLineOf e r n page (s.nextDecoded n page) (s.badCheck n page)).slot none],
          state := if s.prn.state = .stopping then .stopped else .printing }
      ∧ u.entry? e = some { r with sheetLine := 0, position := r.position + 1 }
      ∧ u.page? n.page = some (s.pageAfter n page)
      ∧ u.ceu = (if (s.nextDecoded n page).malformed then post .printFault .page n.page 0 n.lineNo s
          else if (s.badCheck n page).isSome then
            post .printFault .page n.page 1 (crc16 (s.streamBytes page.chain 0 page.codedLen)).toNat s else s).ceu
      ∧ Mem.bytes x.dram a 16 = ((lastLineOf e r n page (s.nextDecoded n page) (s.badCheck n page)).tag prof).bytes
      ∧ Mem.bytes x.dram (a + 16) (slotBytes prof.width - 16) = prof.dataBytes (s.nextDecoded n page).dots := by
  obtain ⟨l, hl⟩ : ∃ l, l = lastLineOf e r n page (s.nextDecoded n page) (s.badCheck n page) := ⟨_, rfl⟩
  have hentrymem : (s.entryAddr e, 64) ∈ s.lastLineSpans n.page e := List.mem_cons_self ..
  have hpagemem : (s.pageAddr n.page, 64) ∈ s.lastLineSpans n.page e := List.mem_cons_of_mem _ (List.mem_cons_self ..)
  have hevents : s.eventSpans ⊆ s.lastLineSpans n.page e := fun x hx => List.mem_cons_of_mem _ (List.mem_cons_of_mem _ hx)
  obtain ⟨t, ht, htprints, htprn, htq, htceu⟩ := decoded_spec e hpage hpagemem hevents
  have hnext := nextSheetLine_of_last hopen he hn hpage hspent hone hlast
  rw [ht, ← hl] at hnext
  obtain ⟨x, hx⟩ : ∃ x, x = l.written prof t := ⟨_, rfl⟩
  have hta : t.printSlotAddr t.prn.fill = a := by
    rw [htprn, ← ha, State.printSlotAddr, htprints.cfg, htprints.rgw, State.printSlotAddr]
  have htslots : t.printSlots = s.printSlots := by rw [State.printSlots, htprints.rgw, State.printSlots]
  have hxprints := l.written_prints prof t hta n.page e
  rw [← hx] at hxprints
  have hxprn : x.prn = { s.prn with
      slots := s.prn.slots ++ [l.slot none], fill := (s.prn.fill + 1) % s.printSlots } := by
    rw [hx, l.written_prn, htprn, htslots]
  have hentries : x.prn.entries = s.prn.entries := by rw [hxprn]
  have hxe : x.printingEntry = some (e, r) := by
    rw [State.printingEntry, hentries]
    exact he
  have hxwait : x.waitsAfter r := by
    unfold State.waitsAfter
    rw [hxprn, hxprints.doc?, htprints.doc?]
    exact hwait
  have hsub : (s.badCheck n page).isSome = true → x.eventSpans ⊆ s.lastLineSpans n.page e := by
    intro hbad
    rw [State.malformed_of_badCheck hbad, if_neg Bool.false_ne_true] at ht
    have hsame : x.eventSpans = s.eventSpans := by rw [hx, ← ht]; rfl
    rw [hsame]
    exact hevents
  obtain ⟨u, hu, huprints, huprn, hue, huq, hunone, husome⟩ := handled_lastLine (sp := s.lastLineSpans n.page e) n page
    (s.nextDecoded n page) (s.badCheck n page) false (by rw [hentries]; exact State.rising_entries hord) hxe hmark
    (q := s.pageDecoded n page) (by rw [hx]; exact htq) hholds hxwait (by rw [hxprints.pageAddr, htprints.pageAddr]; exact hpagemem)
    (by rw [hxprints.entryAddr, htprints.entryAddr]; exact hentrymem) hsub
  rw [← hl] at hu
  obtain ⟨htag, hdata, -⟩ := l.written_dram prof t hta
  have hxceu : x.ceu = t.ceu := by rw [hx]; rfl
  refine ⟨x, u, ?_, huprints, ?_, ?_, hue, ?_, ?_, ?_, ?_⟩
  · rw [writeSheetLine_of_line hroom hnext, ← hx, hu]
  · exact ((htprints.widen (List.subset_cons_self ..)).trans
      (hxprints.widen fun y hy => by rw [List.mem_singleton.1 hy]; exact List.mem_cons_self ..)).trans
      (huprints.widen (List.subset_cons_self ..))
  · rw [huprn, hxprn, ← hl]
  · rw [huq, ← s.pageAfter_eq n page]
  · cases hbad : s.badCheck n page with
    | none =>
      rw [hunone hbad, hxceu, htceu]
      rfl
    | some crc =>
      have hm := State.malformed_of_badCheck (by rw [hbad]; rfl : (s.badCheck n page).isSome = true)
      have hcrc : crc = crc16 (s.streamBytes page.chain 0 page.codedLen) := by
        unfold State.badCheck at hbad
        split at hbad
        · cases hbad
          rfl
        · cases hbad
      rw [husome crc hbad, hm, hcrc]
      rw [hm] at htceu
      exact post_ceu_congr (s := s) (t := x) (by rw [hxprints.rgw, htprints.rgw]) (hxceu.trans htceu) (by rw [hxprints.seconds, htprints.seconds]) ..
  · rw [hx, ← hl]
    exact htag
  · have hdots : l.line.dots = (s.nextDecoded n page).dots := by rw [hl]; rfl
    rw [hx, hdata, hdots]

include hord hactive hopen he hmark hn hwait hpage hspent hone hholds hlast in
/-- The last line of a page, given up: the check is told in the page record alone. -/
theorem substitute_last (hm : (s.nextDecoded n page).malformed = false) :
    (substitute s).page? n.page = some (s.pageAfter n page)
      ∧ (substitute s).ceu = (post .printUnderrun .print e 0 s.prn.fill s).ceu := by
  obtain ⟨l, hl⟩ : ∃ l, l = lastLineOf e r n page (s.nextDecoded n page) (s.badCheck n page) := ⟨_, rfl⟩
  have hnext := nextSheetLine_of_last hopen he hn hpage hspent hone hlast
  rw [hm, if_neg Bool.false_ne_true, ← hl] at hnext
  have hentry : ((s.printingEntry.map Prod.fst).getD 0) = e := by rw [he]; rfl
  obtain ⟨c, m, hpost, -⟩ := post_frame .printUnderrun .print e 0 s.prn.fill (fillSlot (l.slot (some l.substituteTag)) s)
  obtain ⟨x, hx⟩ : ∃ x, x = post .printUnderrun .print e 0 s.prn.fill (fillSlot (l.slot (some l.substituteTag)) s) := ⟨_, rfl⟩
  have hxceu : x.ceu = (post .printUnderrun .print e 0 s.prn.fill s).ceu := by
    rw [hx]
    exact post_ceu_congr (s := s) (t := fillSlot (l.slot (some l.substituteTag)) s) rfl rfl rfl ..
  rw [← hx] at hpost
  have hxwait : x.waitsAfter r := by rw [hpost]; exact hwait
  obtain ⟨u, hu, -, -, -, huq, hunone, husome⟩ := handled_lastLine
    (sp := (x.pageAddr n.page, 64) :: (x.entryAddr e, 64) :: x.eventSpans) n page
    (s.nextDecoded n page) (s.badCheck n page) true (s := x) (by rw [hpost]; exact State.rising_entries hord)
    (by rw [hpost]; exact he) hmark (by rw [hpost]; exact hpage) hholds hxwait (List.mem_cons_self ..)
    (List.mem_cons_of_mem _ (List.mem_cons_self ..)) fun _ y hy => List.mem_cons_of_mem _ (List.mem_cons_of_mem _ hy)
  have hsub : substitute s = testUrgent u := by
    rw [substitute_of_line hactive hnext, hentry, ← hx, hl, hu]
  have hafter := s.pageAfter_eq n page
  rw [hsub]
  refine ⟨?_, ?_⟩
  · show u.page? n.page = _
    rw [huq, ← hafter]
    unfold State.pageDecoded
    rw [hm]
    simp [PageRec.checked]
  · show u.ceu = _
    cases hbad : s.badCheck n page with
    | none => rw [hunone hbad, hxceu]
    | some crc => rw [husome crc hbad, if_pos rfl, hxceu]

end

end Sys2Proof.Machine
end

section
/-! PROOFS. The last sheet line of a cancelled entry, and PRN_TAKE_ENTRY and PRN_RENDER_SHEET_LINE settled (R161, R166 to R171). -/

namespace Sys2Proof.Machine

set_option Elab.async false

/-! ## The end of a cancelled entry -/

/-- A page stands in one place of a list that names its pages once. -/
theorem place_unique {d : Doc} (hnodup : d.livePages.Nodup) {i k p : Nat} (hi : d.places[i]? = some (some p))
    (hk : d.places[k]? = some (some p)) : i = k := by
  have hin (j : Nat) (hj : d.places[j]? = some (some p)) : (j, p) ∈ placed 0 d.places :=
    (mem_placed ..).2 ⟨Nat.zero_le _, by simpa using hj⟩
  have hinj := List.inj_on_of_nodup_map (f := Prod.snd) (l := placed 0 d.places) (by rw [placed_map_snd]; exact hnodup)
  exact congrArg Prod.fst (hinj (hin i hi) (hin k hk) rfl)

theorem mem_livePages {d : Doc} {k p : Nat} (h : d.places[k]? = some (some p)) : p ∈ d.livePages :=
  List.mem_filterMap.2 ⟨some p, List.mem_of_getElem? h, rfl⟩

/-- The entry as the last line of a sheet leaves it. -/
def PrintEntry.lineDone (r : PrintEntry) (endsPage : Bool) : PrintEntry :=
  { r with sheetLine := 0, position := if endsPage then r.position + 1 else r.position }

/-- The sheet has ended, and its page-copy when its page has: what stands before a cancelled entry is removed. -/
theorem sheetEnded_spec {s : State} (l : SheetLine) {page : PageRec} {r : PrintEntry} (hr : l.entryRec = r)
    (hpage : s.page? l.rendering.page = some page) (hkeep : s.keeps page.doc = true) (hbad : l.line.badCheck = none) :
    ∃ y, (if l.endsPage then endPageCopy l false (l.ended s) else l.ended s) = y
      ∧ y = { s with prn := y.prn, psm := { s.psm with pages := y.psm.pages }, dram := y.dram }
      ∧ (∃ g, y.prn = { s.prn with entries := y.prn.entries, sheetOpen := false, rendering := g })
      ∧ y.entry? l.entry = some (r.lineDone l.endsPage) ∧ (∀ k, k ≠ l.entry → y.entry? k = s.entry? k)
      ∧ (Tab.rising s.prn.entries = true → Tab.rising y.prn.entries = true)
      ∧ y.page? l.rendering.page = some { page with printHolds := page.printHolds - if l.endsPage then 1 else 0 }
      ∧ ∀ q, q ≠ l.rendering.page → y.page? q = s.page? q := by
  have hended : (l.ended s).entry? l.entry = some { r with sheetLine := 0 } := by
    show Tab.get? (l.ended s).prn.entries l.entry = _
    rw [l.ended_prn, hr]
    exact Tab.get?_set_self ..
  have hothers (k : Nat) (hk : k ≠ l.entry) : (l.ended s).entry? k = s.entry? k := entry?_putEntry_of_ne _ s hk
  cases hends : l.endsPage with
  | false =>
    exact ⟨l.ended s, rfl, rfl, ⟨_, rfl⟩, hended, hothers, fun h => Tab.rising_set h _ _, hpage, fun _ _ => rfl⟩
  | true =>
    obtain ⟨y, hy, hprints, hprn, hyq, hynone, -⟩ := endPageCopy_spec
      (sp := ((l.ended s).pageAddr l.rendering.page, 64) :: ((l.ended s).entryAddr l.entry, 64) :: (l.ended s).eventSpans)
      l false (s := l.ended s) (q := page) (r := { r with sheetLine := 0 }) hpage hended (Or.inr hkeep)
      (List.mem_cons_self ..) (List.mem_cons_of_mem _ (List.mem_cons_self ..))
      fun _ x hx => List.mem_cons_of_mem _ (List.mem_cons_of_mem _ hx)
    have hframe := hprints.frame
    rw [hynone hbad] at hframe
    refine ⟨y, hy, hframe, ⟨none, ?_⟩, ?_, fun k hk => (hprints.entries k hk).trans (hothers k hk), fun h => ?_, ?_, hprints.pages⟩
    · rw [hprn, l.ended_prn]
    · show Tab.get? y.prn.entries l.entry = _
      rw [hprn]
      exact Tab.get?_set_self ..
    · rw [hprn]
      exact Tab.rising_set (Tab.rising_set h _ _) _ _
    · rw [hyq, hbad]
      simp [PageRec.checked]

/-- Only the print unit, the pages' records, the documents' records and DRAM change. -/
def Unqueues (s u : State) : Prop :=
  u = { s with
    dram := u.dram, psm := { s.psm with pages := u.psm.pages }, dju := { s.dju with docs := u.dju.docs }, prn := u.prn }

theorem Unqueues.trans {s t u : State} (h : Unqueues s t) (h' : Unqueues t u) : Unqueues s u :=
  Eq.trans h' (congrArg (fun x : State => { x with
    dram := u.dram, psm := { x.psm with pages := u.psm.pages }, dju := { x.dju with docs := u.dju.docs }, prn := u.prn }) h)

/-- The removal of the cancelled entry behind its sheet: whole. -/
theorem writeSheetLine_cancelled {s : State} {prof : PrintProfile} {e : Nat} {r : PrintEntry} {n : Rendering} {page : PageRec}
    {line : PageLine} {d : Doc} (hord : s.ordered = true) (hst : s.prn.state ≠ .stopped)
    (hroom : s.prn.slots.length < s.printSlots) (hopen : s.prn.sheetOpen = true) (he : s.printingEntry = some (e, r))
    (hmark : r.cancelMark = true) (hone : ∀ k q, s.entry? k = some q → q.printing = true → k = e) (hn : s.prn.rendering = some n)
    (hpage : s.page? n.page = some page) (hcur : n.cur = some line) (howed : 0 < line.owed) (hbad : line.badCheck = none)
    (hend : r.sheetLine + 1 = prof.height ∨ (line.last = true ∧ line.owed = 1)) (hd : s.doc? r.doc = some d)
    (hplace : d.places[r.position]? = some (some n.page)) (hcopies : r.copiesDone < r.copies) (hnodup : d.livePages.Nodup)
    (hkeep : d.keep = true) (hdel : d.state ≠ .deleting) (hown : ∀ p q, p ∈ d.livePages → s.page? p = some q → q.doc = r.doc)
    (hstays : d.dir = .outbound ∨ d.autoDelete = false ∨ d.isHeld = true ∨ 1 < d.printRefs) :
    ∃ u, writeSheetLine prof s = u
      ∧ u = { s with
          dram := u.dram, psm := { s.psm with pages := u.psm.pages }, dju := { s.dju with docs := u.dju.docs },
          prn := { s.prn with
            entries := u.prn.entries, rendering := none, sheetOpen := false, fill := (s.prn.fill + 1) % s.printSlots,
            slots := markLast e (s.prn.slots ++ [{ substitute := none, sheet := some (e, r.doc, r.sheetNumber - 1), ends := true,
                                                   entryLast := false, entryGone := false }]),
            state := if s.prn.state = .stopping then .stopped else .printing } }
      ∧ u.entry? e = none ∧ (∀ x, x ≠ e → u.entry? x = s.entry? x)
      ∧ u.doc? r.doc = some { d with printRefs := d.printRefs - 1, printed := d.printed || d.dir == .inbound }
      ∧ (∀ x, x ≠ r.doc → u.doc? x = s.doc? x)
      ∧ (∀ k p q, d.places[k]? = some (some p) → s.page? p = some q →
          u.page? p = some { q with printHolds := q.printHolds - r.left k })
      ∧ (∀ p, p ∉ d.livePages → u.page? p = s.page? p) := by
  obtain ⟨hentry, hp, -⟩ := (State.printingEntry_iff (State.rising_entries hord) e r).1 he
  obtain ⟨l, hl⟩ : ∃ l, l = lineInHand prof e r n page line := ⟨_, rfl⟩
  have hle : l.entry = e := by rw [hl]; rfl
  have hlr : l.entryRec = r := by rw [hl]; rfl
  have hlp : l.rendering.page = n.page := by rw [hl]; rfl
  have hlb : l.line.badCheck = none := by rw [hl]; exact hbad
  have hends : l.endsSheet = true := by
    rw [hl]
    simp only [lineInHand, Bool.or_eq_true, Bool.and_eq_true, beq_iff_eq]
    exact hend.symm
  have hslot : l.slot none = ⟨none, some (e, r.doc, r.sheetNumber - 1), true, false, false⟩ := by
    have hsheet : l.sheet = r.sheetNumber - 1 := by rw [hl]; rfl
    rw [SheetLine.slot, hends, hle, hlr, hsheet]
  have hnext := nextSheetLine_of_owed hopen he hn hpage hcur howed prof
  rw [← hl] at hnext
  obtain ⟨x, hx⟩ : ∃ x, x = l.written prof s := ⟨_, rfl⟩
  have hxframe : x = { s with prn := x.prn, dram := x.dram } := by rw [hx]; rfl
  have hxprn : x.prn = { s.prn with
      slots := s.prn.slots ++ [l.slot none], fill := (s.prn.fill + 1) % s.printSlots } := by rw [hx]; rfl
  have hdoc : page.doc = r.doc := hown _ _ (mem_livePages hplace) hpage
  have hkeeps : x.keeps page.doc = true := by
    have hdx : x.doc? page.doc = some d := by rw [hxframe, hdoc]; exact hd
    unfold State.keeps
    rw [hdx]
    exact hkeep
  obtain ⟨y, hy, hyframe, ⟨g, hyprn⟩, hye, hyothers, hyrise, hyq, hypages⟩ :=
    sheetEnded_spec l hlr (s := x) (by rw [hlp, hx]; exact hpage) hkeeps hlb
  rw [hle] at hye hyothers
  rw [hlp] at hyq hypages
  have hxpages (p : Nat) : x.page? p = s.page? p := by rw [hxframe]; rfl
  have hxdocs (k : Nat) : x.doc? k = s.doc? k := by rw [hxframe]; rfl
  have hxentries (k : Nat) : x.entry? k = s.entry? k := by
    show Tab.get? x.prn.entries k = _
    rw [hxprn]
    rfl
  have hydocs (k : Nat) : y.doc? k = s.doc? k := by
    rw [← hxdocs k, hyframe]
    rfl
  have hyown : ∀ p q, p ∈ d.livePages → y.page? p = some q → q.doc = r.doc := by
    intro p q hmem hq
    by_cases hpn : p = n.page
    · rw [hpn, hyq] at hq
      cases hq
      exact hdoc
    · rw [hypages p hpn, hxpages] at hq
      exact hown p q hmem hq
  obtain ⟨ps, m, hdrop, hself, hother⟩ := dropPrintHolds_of_kept (s := y) (r := r.lineDone l.endsPage) (d := d)
    (by rw [hydocs]; exact hd) hkeep hnodup hyown
  obtain ⟨t, ht⟩ : ∃ t, t = dropPrintHolds (r.lineDone l.endsPage) y := ⟨_, rfl⟩
  rw [← ht] at hdrop
  obtain ⟨z, hz, hzframe, hzdoc, hzdocs⟩ := removeEntry_of_stays (s := y) (t := t) hye hp true (by rw [ht]; exact if_pos rfl)
    (d := d) (by rw [hdrop]; exact (hydocs _).trans hd) hdel hstays
  have htprn : t.prn = y.prn := by rw [hdrop]
  have hzprn : z.prn = { s.prn with
      entries := Tab.erase y.prn.entries e, rendering := none, sheetOpen := false, fill := (s.prn.fill + 1) % s.printSlots,
      slots := markLast e (s.prn.slots ++ [l.slot none]) } := by
    rw [hzframe, htprn, hyprn, hxprn]
  have hznone : z.printingEntry = none := by
    refine printingEntry_of_erased (s := y) (e := e) (hyrise (by rw [hxprn]; exact State.rising_entries hord)) (fun k q hk hq => ?_)
      (by rw [hzprn])
    by_contra hne
    rw [hyothers k hne, hxentries] at hk
    exact hne (hone k q hk hq)
  obtain ⟨u, hu⟩ : ∃ u, u = stopAtSheetEnd z := ⟨_, rfl⟩
  have huprn : u.prn = { z.prn with state := if z.prn.state = .stopping then .stopped else z.prn.state } := by
    rw [hu, stopAtSheetEnd_prn]
  have huframe : u = { z with prn := u.prn } := by
    rw [hu]
    exact stopAtSheetEnd_eq z
  have huentries : u.prn.entries = z.prn.entries := by rw [huprn]
  have hunone : u.printingEntry = none := by
    unfold State.printingEntry at hznone ⊢
    rw [huentries]
    exact hznone
  have hsettle : settle u = u := settle_of_noEntry hunone (by rw [huprn, hzprn])
  have hstate : (if z.prn.state = .stopping then PrintState.stopped else z.prn.state)
      = if s.prn.state = .stopping then .stopped else .printing := by
    rw [hzprn]
    dsimp only
    cases hs : s.prn.state with
    | stopped => exact absurd hs hst
    | printing => rfl
    | stopping => rfl
  have hget (k : Nat) : u.entry? k = if k = e then none else s.entry? k := by
    show Tab.get? u.prn.entries k = _
    rw [huentries, hzprn]
    dsimp only
    rw [Tab.get?_erase]
    split
    · rfl
    next hne => exact (hyothers k hne).trans (hxentries k)
  have hudocs (k : Nat) : u.doc? k = z.doc? k := by rw [huframe]; rfl
  have hupages (p : Nat) : u.page? p = Tab.get? ps p := by
    rw [huframe]
    show Tab.get? z.psm.pages p = _
    rw [hzframe, hdrop]
  refine ⟨u, ?_, ?_, by rw [hget, if_pos rfl], fun k hk => by rw [hget, if_neg hk], by rw [hudocs]; exact hzdoc, fun k hk => ?_,
    fun k p q hk hq => ?_, fun p hmem => ?_⟩
  · rw [writeSheetLine_of_line hroom hnext, ← hx, handled_of_endsSheet hends false (y := y) (z := z) hy
      (by rw [hlr, hmark, if_pos rfl, hle]; exact hz), ← hu, hsettle]
  · have hprn : u.prn = { s.prn with
        entries := u.prn.entries, rendering := none, sheetOpen := false, fill := (s.prn.fill + 1) % s.printSlots,
        slots := markLast e (s.prn.slots ++ [l.slot none]), state := if s.prn.state = .stopping then .stopped else .printing } := by
      rw [huprn, hstate, hzprn]
    rw [← hslot, ← hprn]
    have hx' : Unqueues s x := by unfold Unqueues; rw [hxframe]
    have hy' : Unqueues x y := by unfold Unqueues; rw [hyframe]
    have ht' : Unqueues y t := by unfold Unqueues; rw [hdrop]
    have hz' : Unqueues t z := by unfold Unqueues; rw [hzframe]
    have hu' : Unqueues z u := by unfold Unqueues; rw [huframe]
    exact (((hx'.trans hy').trans ht').trans hz').trans hu'
  · rw [hudocs, hzdocs k hk, hdrop]
    exact hydocs k
  · rw [hupages]
    have hpos : k = r.position ↔ p = n.page := ⟨fun h => by
      rw [h, hplace] at hk
      cases hk
      rfl, fun h => place_unique hnodup hk (h ▸ hplace)⟩
    by_cases hpn : p = n.page
    · rw [hself k p _ hk (by rw [hpn]; exact hyq)]
      rw [hpn, hpage] at hq
      cases hq
      have hleft : page.printHolds - (if l.endsPage then 1 else 0) - (r.lineDone l.endsPage).left k
          = page.printHolds - r.left k := by
        rw [hpos.2 hpn]
        unfold PrintEntry.left PrintEntry.lineDone
        cases l.endsPage with
        | false => simp
        | true =>
          simp only [if_true, lt_irrefl, if_false, Nat.lt_succ_self]
          omega
      dsimp only
      rw [hleft]
    · rw [hself k p q hk (by rw [hypages p hpn, hxpages]; exact hq)]
      have hleft : (r.lineDone l.endsPage).left k = r.left k := by
        unfold PrintEntry.left PrintEntry.lineDone
        have hne : k ≠ r.position := fun h => hpn (hpos.1 h)
        cases l.endsPage with
        | false => rfl
        | true =>
          have hiff : k < r.position + 1 ↔ k < r.position := by omega
          simp only [if_true, hiff]
      rw [hleft]
  · rw [hupages, hother p hmem]
    have hpn : p ≠ n.page := fun h => hmem (h ▸ mem_livePages hplace)
    exact (hypages p hpn).trans (hxpages p)

end Sys2Proof.Machine
end

section
/-! PROOFS. PRN_TAKE_ENTRY and PRN_RENDER_SHEET_LINE, whole (R161, R166 to R171). -/

namespace Sys2Proof.Machine

set_option Elab.async false

theorem State.printSlots_of_geom {s : State} {g : PrintGeom} (hg : s.rgw.printGeom = some g) : s.printSlots = g.slotCount := by
  rw [State.printSlots, hg]
  rfl

theorem State.printSlotAddr_of_geom {s : State} {g : PrintGeom} (hg : s.rgw.printGeom = some g) (k : Nat) :
    s.printSlotAddr k = s.cfg.prnBase + k * g.slotSize := by
  rw [State.printSlotAddr, hg]
  rfl

/-- The state with its urgent flag tested, in RUN (R173). -/
def State.urged (u : State) : State :=
  { u with mad := { u.mad with
      urgent := u.isPrinting && decide (u.prn.slots.length < (u.prn.active.map PrintProfile.threshold).getD 0) } }

theorem State.urged_eq {u : State} {b : Bool}
    (hb : (u.isPrinting && decide (u.prn.slots.length < (u.prn.active.map PrintProfile.threshold).getD 0)) = b) :
    u.urged = { u with mad := { u.mad with urgent := b } } := by rw [State.urged, hb]

/-- A step with no read held ends with the test of the urgent flag. -/
theorem renderStep_of_written {s u : State} {prof : PrintProfile} (hactive : s.prn.active = some prof) (hrun : s.rgw.state = .run)
    (hst : s.prn.state ≠ .stopped) (hu : writeSheetLine prof (settle s) = u) (hheld : u.smp.held = none) (hurun : u.rgw.state = .run) :
    renderStep s = u.urged := by
  have hisrun : u.isRun = true := by simp [State.isRun, hurun]
  rw [renderStep_of_active hactive hrun hst, hu, testUrgent_of_run hisrun]
  exact releasePrintHold_of_none hheld

/-- The sheet line of a page line that is owed, in the middle of its page and sheet. -/
theorem writeSheetLine_middle {s : State} {prof : PrintProfile} {g : PrintGeom} {e : Nat} {r : PrintEntry} {n : Rendering}
    {page : PageRec} {line : PageLine} (hmap : s.mapPassed = true) (hg : s.rgw.printGeom = some g) (hopen : s.prn.sheetOpen = true)
    (he : s.printingEntry = some (e, r)) (hn : s.prn.rendering = some n) (hpage : s.page? n.page = some page)
    (hcur : n.cur = some line) (howed : 0 < line.owed) (hlast : line.last = true → 1 < line.owed)
    (hheight : r.sheetLine + 1 ≠ prof.height) (hroom : s.prn.slots.length < g.slotCount) (hfill : s.prn.fill < g.slotCount)
    (hsize : g.slotSize = slotBytes prof.width) (hring : g.slotCount * g.slotSize ≤ s.cfg.prnSize) (hentry : e < 512) {a : Nat}
    (ha : s.cfg.prnBase + s.prn.fill * g.slotSize = a) :
    ∃ u, writeSheetLine prof s = u
      ∧ u = { s with
          prn := { s.prn with
            entries := u.prn.entries, fill := (s.prn.fill + 1) % g.slotCount,
            slots := s.prn.slots ++ [⟨none, some (e, r.doc, r.sheetNumber - 1), false, false, false⟩],
            rendering := some { n with cur := some { line with owed := line.owed - 1 } } },
          dram := u.dram }
      ∧ u.entry? e = some { r with sheetLine := r.sheetLine + 1 } ∧ (∀ k, k ≠ e → u.entry? k = s.entry? k)
      ∧ Mem.bytes u.dram a 16 = ((lineInHand prof e r n page line).tag prof).bytes
      ∧ Mem.bytes u.dram (a + 16) (slotBytes prof.width - 16) = prof.dataBytes line.dots
      ∧ unchangedOutside [(a, slotBytes prof.width), (s.entryAddr e, 64)] s.dram u.dram := by
  obtain ⟨hpages, hends⟩ := lineInHand_ends (e := e) (n := n) (page := page) hlast hheight
  obtain ⟨l, hl⟩ : ∃ l, l = lineInHand prof e r n page line := ⟨_, rfl⟩
  have hnext := nextSheetLine_of_owed hopen he hn hpage hcur howed prof
  have haddr : s.printSlotAddr s.prn.fill = a := (State.printSlotAddr_of_geom hg _).trans ha
  have hslots := State.printSlots_of_geom hg
  have hslot : l.slot none = ⟨none, some (e, r.doc, r.sheetNumber - 1), false, false, false⟩ := by
    rw [SheetLine.slot, hl, hends]
    rfl
  rw [← hl] at hnext hpages hends ⊢
  obtain ⟨x, hx⟩ : ∃ x, x = l.written prof s := ⟨_, rfl⟩
  obtain ⟨htag, hdata, hbytes⟩ := l.written_dram prof s haddr
  rw [← hx] at htag hdata hbytes
  have hline : l.entry = e ∧ l.entryRec = r ∧ l.number = r.sheetLine ∧ l.rendering = n ∧ l.line = line := by
    rw [hl]
    exact ⟨rfl, rfl, rfl, rfl, rfl⟩
  obtain ⟨hle, hlr, hln, hlg, hll⟩ := hline
  have hwrite : writeSheetLine prof s = { putEntry e { r with sheetLine := r.sheetLine + 1 } x with
      prn := { (putEntry e { r with sheetLine := r.sheetLine + 1 } x).prn with
        sheetOpen := s.prn.sheetOpen, rendering := some { n with cur := some { line with owed := line.owed - 1 } } } } := by
    rw [writeSheetLine_of_line (by rw [hslots]; exact hroom) hnext, ← hx, handled_of_middle hpages hends, hle, hlr, hln, hlg, hll,
      hopen]
  have hput := unchangedOutside_putEntry e { r with sheetLine := r.sheetLine + 1 } x
  have hea : x.entryAddr e = s.entryAddr e := by rw [hx]; rfl
  rw [hea] at hput
  obtain ⟨hlo, hhi⟩ := slot_inRing (base := s.cfg.prnBase) hfill hring
  rw [ha, hsize] at hhi
  rw [ha] at hlo
  have hbig := slotBytes_pos prof.width
  have hpass := State.cfg_passed hmap
  have hkeeps : ∀ y ∈ [(s.entryAddr e, 64)], s.cfg.keepsIn y := by
    intro y hy
    rw [List.mem_singleton.1 hy]
    exact keepsIn_por hpass (by omega)
  refine ⟨_, hwrite, ?_, entry?_putEntry_self .., fun k hk => entry?_putEntry_of_ne _ x hk |>.trans (by rw [hx]; rfl), ?_, ?_,
    hbytes.trans hput⟩
  · have hxframe : x = { s with
        prn := { s.prn with slots := s.prn.slots ++ [l.slot none], fill := (s.prn.fill + 1) % s.printSlots }, dram := x.dram } := by
      rw [hx]
      rfl
    rw [← hslot, ← hslots]
    generalize x.dram = m at hxframe
    rw [hxframe]
    rfl
  · exact (bytes_of_keepsIn hpass hkeeps hput hlo (by omega)).trans htag
  · rw [← hll]
    exact (bytes_of_keepsIn hpass hkeeps hput (by omega) (by omega)).trans hdata

/-- The first entry of the queue is taken in hand; its first sheet begins at once when the page at its position is sealed. -/
theorem takeEntry_spec {s : State} (hrun : s.rgw.state = .run) (hst : s.prn.state = .printing) (hord : s.ordered = true) {e : Nat}
    {r : PrintEntry} {d : Doc} {p : Nat} {page : PageRec} (hnone : s.printingEntry = none) (he : s.entry? e = some r)
    (hfirst : ∀ k q, s.entry? k = some q → k ≠ e → r.cls < q.cls ∨ (r.cls = q.cls ∧ r.arrival < q.arrival))
    (hren : s.prn.rendering = none) (hopen : s.prn.sheetOpen = false) (hd : s.doc? r.doc = some d)
    (hp : d.places[r.position]? = some (some p)) (hpage : s.page? p = some page) :
    ∃ u, takeEntry s = u
      ∧ u = { s with
          prn := { s.prn with
            entries := u.prn.entries, sheetOpen := page.state != .filling,
            rendering := if page.state != .filling then some (Rendering.start p page) else none },
          dram := u.dram }
      ∧ u.entry? e = some { r with
          printing := true, sheetNumber := if page.state != .filling then r.sheetNumber + 1 else r.sheetNumber,
          sheetLine := if page.state != .filling then 0 else r.sheetLine }
      ∧ (∀ k, k ≠ e → u.entry? k = s.entry? k) ∧ unchangedOutside [(s.entryAddr e, 64)] s.dram u.dram := by
  have hin := InHand.taken hord hnone e (r := { r with printing := true }) rfl
  have htake : takeEntry s = settle (putEntry e { r with printing := true } s) := by
    rw [takeEntry, if_pos ⟨by simp [State.isRun, hrun], hst, by rw [hnone]; rfl⟩, firstEntry_of_queue hord he hfirst]
  have hwalk := hin.walk_live hd hp 1200
  by_cases hfill : page.state = .filling
  · have hsettle : settle (putEntry e { r with printing := true } s) = putEntry e { r with printing := true } s := by
      refine settle_of_walked hst hopen hren hwalk hren fun e' r' d' p' page' he' hd' hp' hpage' => ?_
      rw [hin.printingEntry] at he'
      cases he'
      rw [show State.doc? (putEntry e { r with printing := true } s) r.doc = some d from hd] at hd'
      cases hd'
      rw [hp] at hp'
      cases hp'
      rw [show State.page? (putEntry e { r with printing := true } s) p = some page from hpage] at hpage'
      cases hpage'
      exact hfill
    have hb : (page.state != .filling) = false := by simp [hfill]
    rw [hb, htake, hsettle]
    refine ⟨_, rfl, ?_, hin.entry, hin.others, hin.bytes⟩
    rw [if_neg Bool.false_ne_true, ← hren, ← hopen]
    rfl
  · have hb : (page.state != .filling) = true := by simpa using hfill
    obtain ⟨u, hu, hframe, hentry, hothers, hbytes⟩ := hin.sheetBegun_spec p page
    rw [hb, htake, settle_of_sealed (s := putEntry e { r with printing := true } s) hst hopen hren hwalk hin hren hd hp hpage hfill]
    exact ⟨u, hu, hframe, hentry, hothers, hbytes⟩

/-- The removal at the end of the last copy of a final list. -/
theorem settle_lastCopy {s : State} (hord : s.ordered = true) (hst : s.prn.state = .printing) (hopen : s.prn.sheetOpen = false)
    (hren : s.prn.rendering = none) {e : Nat} {r : PrintEntry} {d : Doc} (he : s.printingEntry = some (e, r))
    (hone : ∀ k q, s.entry? k = some q → q.printing = true → k = e) (hd : s.doc? r.doc = some d) (hlen : d.places.length ≤ 128)
    (hfinal : d.isFinal = true) (hcopies : r.copies ≤ r.copiesDone + 1)
    (hfreed : ∀ i, r.position ≤ i → i < d.places.length → d.places[i]? = some none) (hdel : d.state ≠ .deleting)
    (hstays : d.dir = .outbound ∨ d.autoDelete = false ∨ d.isHeld = true ∨ 1 < d.printRefs) :
    ∃ u, settle s = u
      ∧ u = { s with
          prn := { s.prn with entries := u.prn.entries, slots := markLast e s.prn.slots },
          dju := { s.dju with docs := u.dju.docs }, dram := u.dram }
      ∧ u.entry? e = none ∧ (∀ x, x ≠ e → u.entry? x = s.entry? x)
      ∧ u.doc? r.doc = some { d with printRefs := d.printRefs - 1, printed := d.printed || d.dir == .inbound }
      ∧ (∀ x, x ≠ r.doc → u.doc? x = s.doc? x) := by
  obtain ⟨w, k, hwalk, hin⟩ := (InHand.refl hord he).walk_lastCopy hd hlen hfinal hcopies hfreed
  obtain ⟨u, hu, huframe, hudoc, hudocs⟩ := removeEntry_of_stays (s := w) hin.entry hin.printing false (if_neg Bool.false_ne_true)
    (d := d) ((hin.doc? _).trans hd) hdel hstays
  rw [hu] at hwalk
  have huentries : u.prn.entries = Tab.erase w.prn.entries e := by rw [huframe]
  have hnone : u.printingEntry = none := by
    refine printingEntry_of_erased hin.rising (fun x q hx hq => ?_) huentries
    by_contra hne
    rw [hin.others x hne] at hx
    exact hne (hone x q hx hq)
  have huren : u.prn.rendering = none := by rw [huframe]
  have hget (x : Nat) : u.entry? x = if x = e then none else s.entry? x := by
    show Tab.get? u.prn.entries x = _
    rw [huentries, Tab.get?_erase]
    split
    · rfl
    next hne => exact hin.others x hne
  refine ⟨u, settle_of_walked hst hopen hren hwalk huren fun e' r' d' p page he' => ?_, ?_, by rw [hget, if_pos rfl],
    fun x hx => by rw [hget, if_neg hx], hudoc, fun x hx => (hudocs x hx).trans (hin.doc? x)⟩
  · rw [hnone] at he'
    cases he'
  · have hrest := hin.rest
    have hframe : u = { s with
        prn := { s.prn with
          entries := u.prn.entries, slots := markLast e s.prn.slots, rendering := none, sheetOpen := false },
        dju := { s.dju with docs := u.dju.docs }, dram := u.dram } := by
      rw [huframe]
      generalize hm : w.dram = m at hrest
      generalize w.prn.entries = t at hrest
      rw [hrest]
    rw [← hren, ← hopen] at hframe
    exact hframe

/-! ## A step beside a held read (R171) -/

/-- A held print read is looked at when the step is done: an early one stays, any other one finishes. -/
theorem renderStep_withHeld {s u : State} {h : Held} (hrun : s.rgw.state = .run) (hst : s.prn.state ≠ .stopped)
    (hactive : s.prn.active.isSome) (hr : h.reason = .print) (hu : renderStep (s.withHeld none) = u) :
    renderStep (s.withHeld (some h)) = if u.isEarly h.access.off then u.withHeld (some h) else finishRead h.access.off u := by
  obtain ⟨prof, hprof⟩ := Option.isSome_iff_exists.1 hactive
  obtain ⟨hnone, heq⟩ := rendered_withHeld prof hr s
  have hstep (x : Option Held) : renderStep (s.withHeld x) = releasePrintHold (rendered prof (s.withHeld x)) :=
    renderStep_of_active hprof hrun hst
  rw [hstep, releasePrintHold_of_none hnone] at hu
  rw [hstep, heq, hu]
  have hheld : (u.withHeld (some h)).smp.held = some h := rfl
  have hearly : (u.withHeld (some h)).isEarly h.access.off = u.isEarly h.access.off := rfl
  cases hb : u.isEarly h.access.off with
  | true =>
    rw [hb] at hearly
    rw [releasePrintHold_of_early hheld hearly]
    rfl
  | false =>
    rw [hb] at hearly
    rw [releasePrintHold_of_due hheld hr hearly, finishRead_withHeld]
    rfl

/-- Settles O48: a step by the entry in hand, the page line that it owes, and the read that is held. -/
theorem printing : Obligations.Printing := by
  refine ⟨fun s hrun hst hord => ⟨fun hidle => ?_, fun e r d p page hnone he hfirst hren hopen hd hp hpage => ?_⟩,
    fun prof g s hrun hmap hactive hg hheld => ⟨fun hst => ?_, fun e r n page line hst he hn hpage hcur howed hlast hopen hheight
      hroom hfill hsize hring hentry => ?_⟩,
    fun prof g s hrun hmap hord hactive hg hopen e r n page he hmark hn hwait hpage hspent hone hholds => ?_,
    fun e k p copies r d page s hrun hord hst hactive hopen hren he hd hlen hp hpage hfill hway => ?_,
    fun e r d s hrun hord hheld hst hactive hopen hren he hone hd hlen hfinal hcopies hfreed hdel hstays => ?_,
    fun prof e r n page line d s hrun hord hheld hst hactive hroom hopen he hmark hone hn hpage hcur howed hbad hend hd hplace
      hcopies hnodup hkeep hdel hown hstays => ?_,
    fun h s u hrun hst hactive hr hu => ?_⟩
  · rw [exec_prnTakeEntry, takeEntry]
    obtain hempty | hsome := hidle
    · rw [hempty]
      exact congrArg (fun x : State => (.next x : Answer)) (ite_self _)
    · rw [if_neg fun hc => by rw [Option.isNone_iff_eq_none.1 hc.2.2] at hsome; cases hsome]
  · intro begins
    obtain ⟨u, hu, hframe, hentry, hothers, hbytes⟩ := takeEntry_spec hrun hst hord hnone he hfirst hren hopen hd hp hpage
    exact ⟨u, by rw [exec_prnTakeEntry, hu], hframe, hentry, hothers, hbytes⟩
  · rw [exec_prnRenderSheetLine, renderStep_of_stopped hst]
  · intro a tag slot
    obtain ⟨u, hu, hframe, hue, hothers, htag, hdata, hbytes⟩ := writeSheetLine_middle hmap hg hopen he hn hpage hcur howed hlast
      hheight hroom hfill hsize hring hentry (a := a) rfl
    have hends := (lineInHand_ends (e := e) (n := n) (page := page) hlast hheight)
    have hstep := renderStep_of_written (u := u) hactive hrun hst (by rw [settle_of_open hopen]; exact hu) (by rw [hframe]; exact hheld)
      (by rw [hframe]; exact hrun)
    refine ⟨u.urged, by rw [exec_prnRenderSheetLine, hstep], ?_, hue, hothers, htag.trans (congrArg Tag.bytes ?_), hdata, hbytes⟩
    · have hurgent : (u.isPrinting && decide (u.prn.slots.length < (u.prn.active.map PrintProfile.threshold).getD 0))
          = decide (s.prn.slots.length + 1 < prof.threshold) := by
        rw [hframe]
        simp [State.isPrinting, hst, hactive]
      rw [State.urged_eq hurgent]
      exact congrArg (fun x : State => { x with
        mad := { x.mad with urgent := decide (s.prn.slots.length + 1 < prof.threshold) } }) hframe
    · rw [SheetLine.tag, hends.1, hends.2]
      rfl
  · intro dec crc bad page' hlast
    have hst : s.prn.state ≠ .stopped := by
      obtain h | ⟨h, -⟩ := hwait <;> rw [h] <;> exact PrintState.noConfusion
    have hcheck : s.badCheck n page = if bad then some crc else none := rfl
    have hsome : (s.badCheck n page).isSome = bad := by rw [hcheck]; cases bad <;> rfl
    have hafter : s.pageAfter n page = page' := by
      unfold State.pageAfter
      rw [hsome]
      rfl
    refine ⟨fun hheld htail hroom hfill hsize hring hentry hpages => ?_, fun h hheld hr hm => ?_⟩
    · intro a tag slot
      obtain ⟨x, u, hu, hxu, hsu, huprn, hue, huq, huceu, htag, hdata⟩ := writeSheetLine_last hord hopen he hmark hn hwait hpage
        hspent hone hholds hlast (by rw [State.printSlots_of_geom hg]; exact hroom) (a := a) (State.printSlotAddr_of_geom hg _)
      have hslots := State.printSlots_of_geom hg
      have hurgent : (u.isPrinting && decide (u.prn.slots.length < (u.prn.active.map PrintProfile.threshold).getD 0))
          = (s.prn.state == .printing && decide (s.prn.slots.length + 1 < prof.threshold)) := by
        have hustate : u.prn.state = if s.prn.state = .stopping then .stopped else .printing := by rw [huprn]
        have hulen : u.prn.slots.length = s.prn.slots.length + 1 := by rw [huprn]; exact List.length_append
        have huactive : u.prn.active = some prof := by rw [huprn]; exact hactive
        rw [State.isPrinting, hustate, hulen, huactive]
        cases hs : s.prn.state with
        | stopped => exact absurd hs hst
        | printing => rfl
        | stopping => rfl
      have hstep := renderStep_of_written (u := u) hactive hrun hst (by rw [settle_of_open hopen]; exact hu)
        (by rw [hsu.held]; exact hheld) (by rw [hsu.rgw]; exact hrun)
      have hpass := State.cfg_passed hmap
      obtain ⟨hlo, hhi⟩ := slot_inRing (base := s.cfg.prnBase) hfill hring
      have hbig := slotBytes_pos prof.width
      rw [hsize] at hhi
      have hkeeps : ∀ y ∈ s.lastLineSpans n.page e, s.cfg.keepsIn y := by
        intro y hy
        obtain rfl | hy := List.mem_cons.1 hy
        · exact keepsIn_por hpass (by omega)
        obtain rfl | hy := List.mem_cons.1 hy
        · exact keepsIn_por hpass (by omega)
        · exact keepsIn_eventSpans htail y hy
      have ha : a = s.cfg.prnBase + s.prn.fill * g.slotSize := rfl
      have hbytes {b k : Nat} (hb : a ≤ b) (hbk : b + k ≤ a + slotBytes prof.width) : Mem.bytes u.dram b k = Mem.bytes x.dram b k :=
        bytes_of_keepsIn hpass hkeeps hxu.bytes (by omega) (by rw [hsize] at ha; omega)
      refine ⟨u.urged, by rw [exec_prnRenderSheetLine, hstep], ?_, hue, hsu.entries, huq.trans (congrArg some hafter), hsu.pages,
        (hbytes le_rfl (by omega)).trans (htag.trans (congrArg Tag.bytes ?_)), (hbytes (by omega) (by omega)).trans hdata,
        hsu.bytes⟩
      · have hframe : u = { s with
            prn := { s.prn with
              entries := u.prn.entries, slots := s.prn.slots ++ [slot], rendering := none,
              fill := (s.prn.fill + 1) % g.slotCount, sheetOpen := false,
              state := if s.prn.state = .stopping then .stopped else .printing },
            psm := { s.psm with pages := u.psm.pages },
            ceu := (if dec.malformed then post .printFault .page n.page 0 n.lineNo s
              else if bad then post .printFault .page n.page 1 crc.toNat s else s).ceu,
            dram := u.dram } := by
          have hceu : u.ceu = (if dec.malformed then post .printFault .page n.page 0 n.lineNo s
              else if bad then post .printFault .page n.page 1 crc.toNat s else s).ceu := by
            rw [huceu, hsome]
            rfl
          rw [hslots] at huprn
          rw [← hceu]
          refine hsu.frame.trans ?_
          conv_lhs => rw [huprn]
          rfl
        rw [State.urged_eq hurgent]
        exact congrArg (fun x : State => { x with mad := { x.mad with
          urgent := s.prn.state == PrintState.printing && decide (s.prn.slots.length + 1 < prof.threshold) } }) hframe
      · rw [SheetLine.tag]
        have hb : (lastLineOf e r n page (s.nextDecoded n page) (s.badCheck n page)).line.badCheck.isSome = bad := hsome
        rw [hb]
        rfl
    · have hsub := substitute_last hord hactive hopen he hmark hn hwait hpage hspent hone hholds hlast hm
      exact ⟨substitute s, printHoldExpiry_of_print hheld hr, hsub.1.trans (congrArg some hafter), hsub.2⟩
  · have hsealed := (InHand.refl hord he).walk_toPage hd hlen hp hway
    obtain ⟨w, hwalk, hin⟩ := hsealed
    obtain ⟨v, hv, hframe, hve, hothers, hbytes⟩ := hin.sheetBegun_spec p page
    have hsettle := settle_of_sealed hst hopen hren hwalk hin (hin.rendering.trans hren) hd hp hpage hfill
    rw [hv] at hsettle
    refine ⟨v, ?_, hframe, hve, hothers, hbytes⟩
    rw [exec_prnRenderSheetLine, exec_prnRenderSheetLine, renderStep_of_begun hactive hrun (by rw [hst]; exact PrintState.noConfusion)
      hsettle (by rw [hframe]) (by rw [hframe]) (by rw [hframe]) (by rw [hframe])]
  · obtain ⟨prof, hprof⟩ := Option.isSome_iff_exists.1 hactive
    obtain ⟨u, hu, hframe, hue, hothers, hud, hdocs⟩ := settle_lastCopy hord hst hopen hren he hone hd hlen hfinal hcopies hfreed
      hdel hstays
    have hclosed : u.prn.sheetOpen = false := by rw [hframe]; exact hopen
    have hstep := renderStep_of_written (u := u) hprof hrun (by rw [hst]; exact PrintState.noConfusion)
      (by rw [hu, writeSheetLine_of_none (nextSheetLine_of_closed hclosed prof)]) (by rw [hframe]; exact hheld)
      (by rw [hframe]; exact hrun)
    refine ⟨u.urged, by rw [exec_prnRenderSheetLine, hstep], ?_, hue, hothers, hud, hdocs⟩
    exact congrArg (fun x : State => { x with mad := u.urged.mad }) hframe
  · intro left slot
    obtain ⟨u, hu, hframe, hue, hothers, hud, hdocs, hpages, hrest⟩ := writeSheetLine_cancelled hord hst hroom hopen he hmark hone hn
      hpage hcur howed hbad hend hd hplace hcopies hnodup hkeep hdel hown hstays
    have hstep := renderStep_of_written (u := u) hactive hrun hst (by rw [settle_of_open hopen]; exact hu) (by rw [hframe]; exact hheld)
      (by rw [hframe]; exact hrun)
    refine ⟨u.urged, by rw [exec_prnRenderSheetLine, hstep], ?_, hue, hothers, hud, hdocs, hpages, hrest⟩
    exact congrArg (fun x : State => { x with mad := u.urged.mad }) hframe
  · intro early
    rw [exec_prnRenderSheetLine] at hu
    have hu' : renderStep (s.withHeld none) = u := Host.Outcome.next.inj hu
    have hstep := renderStep_withHeld hrun hst hactive hr hu'
    have hurun : u.isRun = true := by
      have hkeeps := keeps_renderStep (Keeps.refl ⟨true, true, true⟩ (s.withHeld none))
      obtain ⟨-, -, hstate, -⟩ := hkeeps.map rfl
      rw [State.isRun, ← hu', hstate]
      exact beq_iff_eq.2 hrun
    have hearly : early ↔ u.isEarly h.access.off = true := by
      rw [State.isEarly_iff]
      simp [early, hurun, State.isPrinting]
    refine ⟨fun hc => ?_, fun hc => ⟨?_, fun j r q hslot hq hsub hlast => finishRead_of_filled hslot hq hsub hlast⟩⟩
    · rw [if_pos (hearly.1 hc)] at hstep
      rw [exec_prnRenderSheetLine]
      exact congrArg (fun x : State => (.next x : Answer)) hstep
    · rw [if_neg fun hb => hc (hearly.2 hb)] at hstep
      rw [exec_prnRenderSheetLine]
      exact congrArg (fun x : State => (.next x : Answer)) hstep

end Sys2Proof.Machine
end

section
/-! PROOFS. The end of a session once jobs and destinations are discarded (R103, R136, R144): it touches its own line, its call
and, where a block was on its way, its buffer, and no other line. -/

namespace Sys2Proof.Machine

set_option Elab.async false

/-! ## What touches one line only -/

/-- Between `s` and `t` no line but `n` changes, no call, and the link only where a store of line `n` is given up. -/
structure OwnLine (n : Line) (s t : State) : Prop where
  lines : ∀ m, m ≠ n → t.line m = s.line m
  calls : t.chg.calls = s.chg.calls
  link : (s.line n).storing = none → t.sli = s.sli ∧ (t.line n).storing = none

/-- What the end of the session of line `n` may do: its call goes when it is an outbound one. -/
structure EndsLine (n : Line) (s t : State) : Prop where
  lines : ∀ m, m ≠ n → t.line m = s.line m
  calls : ∀ m : Line, Tab.get? t.chg.calls m.val
    = if m = n ∧ (s.line n).dir = some .outbound then none else Tab.get? s.chg.calls m.val
  link : (s.line n).storing = none → t.sli = s.sli ∧ (t.line n).storing = none

section

variable {n : Line} {s t u : State}

theorem OwnLine.refl (n : Line) (s : State) : OwnLine n s s := ⟨fun _ _ => rfl, rfl, fun h => ⟨rfl, h⟩⟩

theorem OwnLine.trans (h : OwnLine n s t) (h' : OwnLine n t u) : OwnLine n s u where
  lines m hm := (h'.lines m hm).trans (h.lines m hm)
  calls := h'.calls.trans h.calls
  link hs := by
    obtain ⟨hsli, ht⟩ := h.link hs
    obtain ⟨hsli', hu⟩ := h'.link ht
    exact ⟨hsli'.trans hsli, hu⟩

theorem OwnLine.of_calm (h : t.lne = s.lne ∧ t.sli = s.sli ∧ t.chg = s.chg) : OwnLine n s t := by
  obtain ⟨hlne, hsli, hchg⟩ := h
  have hline (m : Line) : t.line m = s.line m := by rw [State.line, hlne]; rfl
  exact ⟨fun m _ => hline m, by rw [hchg], fun hs => ⟨hsli, by rw [hline]; exact hs⟩⟩

theorem OwnLine.of_setsLine {r : LineRec} (h : SetsLine n r s t) (hr : (s.line n).storing = none → r.storing = none) :
    OwnLine n s t := by
  refine ⟨fun m hm => h.line_of_ne hm, ?_, fun hs => ⟨?_, by rw [h.line_self]; exact hr hs⟩⟩
  · obtain ⟨m, rfl, -⟩ := h
    rfl
  · obtain ⟨m, rfl, -⟩ := h
    rfl

theorem ownLine_giveUpStore (n : Line) (s : State) : OwnLine n s (giveUpStore n s) := by
  unfold giveUpStore
  cases hs : (s.line n).storing with
  | none => exact .refl n s
  | some b =>
    refine ⟨fun m hm => line_setLine_of_ne _ s hm, rfl, fun h => ?_⟩
    rw [hs] at h
    cases h

theorem giveUpStore_state (n m : Line) (s : State) : ((giveUpStore n s).line m).state = (s.line m).state := by
  unfold giveUpStore
  cases (s.line n).storing with
  | none => rfl
  | some b =>
    show ((setLine n { s.line n with storing := none } s).line m).state = _
    by_cases hm : m = n
    · rw [hm, line_setLine_self]
    · rw [line_setLine_of_ne _ s hm]

theorem OwnLine.ends (h : OwnLine n s t) (hdir : (s.line n).dir ≠ some .outbound) : EndsLine n s t :=
  ⟨h.lines, fun m => by rw [h.calls, if_neg fun hc => hdir hc.2], h.link⟩

theorem EndsLine.after (h : EndsLine n s t) (h' : OwnLine n t u) : EndsLine n s u where
  lines m hm := (h'.lines m hm).trans (h.lines m hm)
  calls m := by rw [h'.calls, h.calls]
  link hs := by
    obtain ⟨hsli, ht⟩ := h.link hs
    obtain ⟨hsli', hu⟩ := h'.link ht
    exact ⟨hsli'.trans hsli, hu⟩

end

/-! ## The end of a session -/

/-- No job, no destination and no scan is left. -/
structure Discarded (s : State) : Prop where
  jobs : s.dju.jobs = []
  dests : s.dju.dests = []
  idle : s.scn.state = .scanIdle

theorem Tab.eq_nil_of_get? {α : Type} {t : Tab α} (h : ∀ k, Tab.get? t k = none) : t = [] := by
  cases t with
  | nil => rfl
  | cons e t =>
    have := h e.1
    simp [Tab.get?] at this

section

variable {n : Line} {cause : Cause} {s : State}

theorem Discarded.job? (h : Discarded s) (j : Nat) : s.job? j = none := by rw [State.job?, h.jobs]; rfl
theorem Discarded.dest? (h : Discarded s) (k : Nat) : s.dest? k = none := by rw [State.dest?, h.dests]; rfl

/-- What takes away leaves nothing where nothing is. -/
theorem Discarded.wanes {w : Wane} {t : State} (h : Discarded s) (hw : Wanes w s t) (hscan : w.scan = false) : Discarded t where
  jobs := Tab.eq_nil_of_get? fun j => hw.job j (h.job? j)
  dests := Tab.eq_nil_of_get? fun k => hw.dest_none (h.dest? k)
  idle := by
    obtain ⟨-, -, hscn⟩ := hw.scan hscan
    rw [hscn]
    exact h.idle

/-- The page under way is closed without a change of another line. -/
theorem ownLine_closeEarly (hwait : ∀ m, (s.line m).state ≠ .dataWait) :
    OwnLine n s (closeEarly n s) ∧ ∀ m, ((closeEarly n s).line m).state ≠ .dataWait := by
  have hstore := ownLine_giveUpStore n s
  have hwait' (m : Line) : ((giveUpStore n s).line m).state ≠ .dataWait := by
    rw [giveUpStore_state]
    exact hwait m
  unfold closeEarly
  generalize giveUpStore n s = a at hstore hwait'
  dsimp only
  cases (a.line n).page with
  | none => exact ⟨hstore, hwait'⟩
  | some p =>
    obtain ⟨kept, hkept⟩ : ∃ k, k = (a.line n).extended := ⟨_, rfl⟩
    have hset := setsLine_modifyLine n (fun r => { r with page := none, kept := kept }) a
    dsimp only
    rw [← hkept]
    generalize modifyLine n (fun r => { r with page := none, kept := kept }) a = b at hset
    have hb (m : Line) : (b.line m).state ≠ .dataWait := by
      by_cases hm : m = n
      · rw [hm, hset.line_self]
        exact hwait' n
      · rw [hset.line_of_ne hm]
        exact hwait' m
    have hseal : Wanes ⟨false, none, none⟩ b (sealPage p kept 0 (markTruncated p b)) :=
      wanes_sealPage (wanes_markTruncated (Wanes.refl _ b))
    have hcalm := hseal.calm rfl hb
    refine ⟨(hstore.trans (.of_setsLine hset id)).trans (.of_calm hcalm), fun m => ?_⟩
    rw [State.line, hcalm.1]
    exact hb m

theorem takesCharge_settleCall (n : Line) (c : CallRec) (cause : Cause) (s : State) : TakesCharge s (settleCall n c cause s).1 := by
  have hlog : TakesCharge s (s.logged n c cause) := ⟨_, _, _, rfl, rfl, rfl⟩
  have hcharge : TakesCharge (testNearFull (s.logged n c cause)) (State.chargeAccount c (testNearFull (s.logged n c cause))) :=
    ⟨_, _, _, rfl, rfl, rfl⟩
  rw [settleCall_eq]
  exact ((hlog.trans (takesCharge_testNearFull _)).trans hcharge).trans (takesCharge_post ..)

/-- With no destination left, an answered call is settled without one. -/
theorem endCall_of_settled (h : Discarded s) {c : CallRec} (hc : Tab.get? s.chg.calls n.val = some c) (ha : c.answered = true) :
    endCall n cause s = settleEnd n c (settleCall n c cause s).1 := by
  obtain ⟨x, e, m, hset, -⟩ := takesCharge_settleCall n c cause s
  have hnone (k : Nat) : (settleCall n c cause s).1.dest? k = none := by rw [hset]; exact h.dest? k
  simp only [endCall, hc, ha, if_true]
  cases (s.line n).dest with
  | none => rfl
  | some k =>
    dsimp only
    rw [destSequence, modifyDest_of_none (hnone k)]

/-- With no destination left, the end of a call is the charges' own. -/
theorem endCall_discarded (h : Discarded s) :
    ∃ x c m b, endCall n cause s = { s with chg := x, ceu := c, dju := { s.dju with passDue := b }, dram := m }
      ∧ ∀ m : Line, Tab.get? x.calls m.val = if m = n then none else Tab.get? s.chg.calls m.val := by
  cases hc : Tab.get? s.chg.calls n.val with
  | none =>
    refine ⟨s.chg, s.ceu, s.dram, s.dju.passDue, by rw [endCall, hc], fun m => ?_⟩
    split
    next hm => rw [hm, hc]
    · rfl
  | some c =>
    have hdrop {x : Chg} (hx : x.calls = s.chg.calls) (m : Line) :
        Tab.get? (Tab.erase x.calls n.val) m.val = if m = n then none else Tab.get? s.chg.calls m.val := by
      rw [Tab.get?_erase, hx]
      exact ite_congr (propext ⟨Fin.ext, congrArg Fin.val⟩) (fun _ => rfl) fun _ => rfl
    cases ha : c.answered with
    | false =>
      rw [endCall_of_unanswered hc ha]
      exact ⟨_, _, _, _, rfl, hdrop rfl⟩
    | true =>
      obtain ⟨x, e, m, hset, -, hcalls⟩ := takesCharge_settleCall n c cause s
      obtain ⟨v, hv⟩ : ∃ v, v = (settleCall n c cause s).1 := ⟨_, rfl⟩
      obtain ⟨x', e', m', hlast, -, hcalls'⟩ := takesCharge_testExhausted c.account v
      rw [endCall_of_settled h hc ha, ← hv, settleEnd, hlast]
      rw [← hv] at hset
      rw [hset] at hcalls' ⊢
      exact ⟨_, _, _, _, rfl, hdrop (hcalls'.trans hcalls)⟩

/-- The reports of a session's end touch its own line and call. -/
theorem endReports_discarded (h : Discarded s) (hwait : (s.line n).dir = some .inbound → ∀ m, (s.line m).state ≠ .dataWait) :
    EndsLine n s (endReports n cause s) := by
  unfold endReports
  dsimp only
  cases hdir : (s.line n).dir with
  | none => exact (OwnLine.refl n s).ends (by rw [hdir]; exact fun e => nomatch e)
  | some dir =>
    cases dir with
    | inbound =>
      obtain ⟨hearly, hwait'⟩ := ownLine_closeEarly (n := n) (hwait hdir)
      have hidle : (closeEarly n s).scn.state = .scanIdle := by
        obtain ⟨-, -, hscn⟩ := (wanes_closeEarly (w := ⟨false, some n, none⟩) rfl (Wanes.refl _ s)).scan rfl
        rw [hscn]
        exact h.idle
      refine OwnLine.ends ?_ (by rw [hdir]; exact fun e => nomatch e)
      dsimp only
      cases (s.line n).doc with
      | none => exact hearly
      | some d =>
        exact hearly.trans (.of_calm ((wanes_endInbound (w := ⟨false, none, some d⟩) rfl (.inr hidle) (Wanes.refl _ _)).calm rfl hwait'))
    | outbound =>
      obtain ⟨x, c, m, b, hcall, hcalls⟩ := endCall_discarded (n := n) (cause := cause) h
      have hends : EndsLine n s (occasion (endCall n cause s)) := by
        rw [hcall]
        refine ⟨fun _ _ => rfl, fun k => (hcalls k).trans ?_, fun hs => ⟨rfl, hs⟩⟩
        rw [hdir]
        simp
      have hdest (k : Nat) : (occasion (endCall n cause s)).dest? k = none := by rw [hcall]; exact h.dest? k
      have hjob (j : Nat) : (occasion (endCall n cause s)).job? j = none := by rw [hcall]; exact h.job? j
      dsimp only
      split
      next k j _ _ =>
        have hover : destSessionEnd k cause (occasion (endCall n cause s)) = occasion (endCall n cause s) := by
          unfold destSessionEnd
          rw [hdest]
        rw [hover, testJob, hjob]
        exact hends
      · exact hends

/-- The end of a session, whole: its own line takes the record's defaults, and nothing is left that was not. -/
theorem endSession_discarded (h : Discarded s) (hwait : (s.line n).dir = some .inbound → ∀ m, (s.line m).state ≠ .dataWait)
    (dst : LineState) : EndsLine n s (endSession n cause dst s) := by
  have hreports := endReports_discarded (cause := cause) h hwait
  have hover : EndsLine n s (writeLine n (setLine n { LineRec.default with state := dst, cause := some cause }
      (giveUpStore n (endReports n cause s)))) :=
    (hreports.after (ownLine_giveUpStore n _)).after (.of_setsLine (setsLine_writeLine n _ _) fun _ => rfl)
  unfold endSession
  dsimp only
  split
  · exact hover.after ⟨fun _ _ => rfl, rfl, fun hs => ⟨rfl, hs⟩⟩
  · exact hover

end

end Sys2Proof.Machine
end

section
/-! PROOFS. A withdraw that starts (R17, R103, R144): the scan is cut off, printing stops, jobs and destinations are discarded, and
then each line in turn ends its session, which no other line, job or destination has a part in. -/

namespace Sys2Proof.Machine

set_option Elab.async false

/-! ## The turn of one line (R144) -/

/-- One line's turn as a withdraw starts. -/
def withdrawOne (s : State) (n : Line) : State :=
  if (s.line n).state.inSession then endSession n (s.causeOr n .withdrawn) .unavailable (handWithdraw n s)
  else if (s.line n).state = .idle then modifyLine n (fun r => { r with state := .unavailable }) s
  else s

/-- A grace that runs ends with the lines' turns. -/
def State.graceless (s : State) : State := { s with lne := { s.lne with grace := none } }

theorem withdrawLines_eq (s : State) : withdrawLines s = (allLines.foldl withdrawOne s).graceless :=
  congrArg (fun f => (allLines.foldl f s).graceless) (rfl : _ = withdrawOne)

theorem withdrawLines_grace (s : State) : (withdrawLines s).lne.grace = none := by
  rw [withdrawLines_eq]
  generalize allLines.foldl withdrawOne s = t
  rfl

/-- The record of a line after its turn. -/
def LineRec.withdrawn (r : LineRec) : LineRec :=
  if r.state.inSession then { LineRec.default with state := .unavailable, cause := some (r.causeOr .withdrawn) }
  else { r with state := .unavailable }

theorem LineRec.withdrawn_state (r : LineRec) : r.withdrawn.state = .unavailable := by
  unfold LineRec.withdrawn
  split <;> rfl

theorem LineRec.withdrawn_dir (r : LineRec) : r.withdrawn.dir = none ∨ r.withdrawn.dir = r.dir := by
  unfold LineRec.withdrawn
  split
  · exact .inl rfl
  · exact .inr rfl

theorem onlySli_handWithdraw (n : Line) (s : State) : OnlySli s (handWithdraw n s) := by
  unfold handWithdraw
  cases (s.line n).state <;>
    first | exact (rfl : OnlySli s s) | exact onlySli_hand .. | exact (onlySli_hand n .abandon s).hand n .clear

theorem handWithdraw_of_noSession {n : Line} {s : State} (h : (s.line n).state.inSession = false) : handWithdraw n s = s := by
  unfold handWithdraw
  cases hst : (s.line n).state <;> first | rfl | (rw [hst] at h; cases h)

theorem handWithdraw_sli {n : Line} {s t : State} (hline : t.line n = s.line n) (hsli : t.sli = s.sli) :
    (handWithdraw n t).sli = (handWithdraw n s).sli := by
  have hboth : (handAbandonClear n t).sli = (handAbandonClear n s).sli := hand_sli n .clear (hand_sli n .abandon hsli)
  unfold handWithdraw
  rw [hline]
  cases (s.line n).state <;> first | exact hsli | exact hand_sli n .clear hsli | exact hboth

section

variable {n : Line} {s t u : State}

/-- Between `s` and `t` only session records of lines change. -/
def OnlyLines (s t : State) : Prop :=
  t = { s with lne := { s.lne with lines := t.lne.lines }, dram := t.dram }
    ∧ unchangedOutside [(s.por 0x80, 2048)] s.dram t.dram

theorem OnlyLines.refl (s : State) : OnlyLines s s := ⟨rfl, unchangedOutside_refl _ _⟩

theorem OnlyLines.trans (h : OnlyLines s t) (h' : OnlyLines t u) : OnlyLines s u := by
  obtain ⟨ht, hm⟩ := h
  obtain ⟨hu, hm'⟩ := h'
  have hpor : t.por 0x80 = s.por 0x80 := by rw [ht]; rfl
  rw [hpor] at hm'
  refine ⟨?_, hm.again hm'⟩
  rw [ht] at hu
  exact hu

theorem OnlyLines.of_setsLine {r : LineRec} (h : SetsLine n r s t) : OnlyLines s t := by
  refine ⟨h.frame, h.dram.widen fun x hx => ⟨_, List.mem_singleton_self _, ?_⟩⟩
  rw [List.mem_singleton.1 hx]
  simp only [State.lineSpan, State.por]
  omega

/-- A line without a session is UNAVAILABLE after its turn, and nothing else happens. -/
theorem withdrawOne_of_noSession (h : (s.line n).state.inSession = false) :
    OnlyLines s (withdrawOne s n) ∧ (withdrawOne s n).line n = (s.line n).withdrawn
      ∧ ∀ m, m ≠ n → (withdrawOne s n).line m = s.line m := by
  rw [LineRec.withdrawn, h, if_neg Bool.false_ne_true, withdrawOne, h, if_neg Bool.false_ne_true]
  by_cases hi : (s.line n).state = .idle
  · rw [if_pos hi]
    have hset := setsLine_modifyLine n (fun r => { r with state := .unavailable }) s
    exact ⟨.of_setsLine hset, hset.line_self, fun m hm => hset.line_of_ne hm⟩
  · rw [if_neg hi]
    have hu : (s.line n).state = .unavailable := by
      cases hst : (s.line n).state <;> first | rfl | exact absurd hst hi | (rw [hst] at h; cases h)
    exact ⟨.refl s, by rw [← hu], fun _ _ => rfl⟩

theorem withdrawOne_of_session (h : (s.line n).state.inSession = true) :
    withdrawOne s n = endSession n ((s.line n).causeOr .withdrawn) .unavailable (handWithdraw n s) := if_pos h

/-! ## What no line's turn changes -/

/-- Between `s` and `t` region map, arbiter, scan and printing stay, and what is discarded stays so. -/
structure Unmoved (s t : State) : Prop where
  rgw : t.rgw = s.rgw
  mad : t.mad = s.mad
  scn : t.scn = s.scn
  prn : t.prn = s.prn
  gone : Discarded s → Discarded t

theorem Unmoved.refl (s : State) : Unmoved s s := ⟨rfl, rfl, rfl, rfl, id⟩

theorem Unmoved.trans (h : Unmoved s t) (h' : Unmoved t u) : Unmoved s u :=
  ⟨h'.rgw.trans h.rgw, h'.mad.trans h.mad, h'.scn.trans h.scn, h'.prn.trans h.prn, fun hs => h'.gone (h.gone hs)⟩

theorem unmoved_withdrawOne (h : Discarded s) (n : Line) : Unmoved s (withdrawOne s n) := by
  cases hn : (s.line n).state.inSession with
  | false =>
    obtain ⟨⟨hframe, -⟩, -⟩ := withdrawOne_of_noSession hn
    rw [hframe]
    exact ⟨rfl, rfl, rfl, rfl, fun ⟨hj, hd, hi⟩ => ⟨hj, hd, hi⟩⟩
  | true =>
    have hhand := onlySli_handWithdraw n s
    have hunmoved : Unmoved s (handWithdraw n s) := by
      rw [hhand]
      exact ⟨rfl, rfl, rfl, rfl, fun ⟨hj, hd, hi⟩ => ⟨hj, hd, hi⟩⟩
    have hgone := hunmoved.gone h
    have hwanes := wanes_endSession_of_idle n ((s.line n).causeOr .withdrawn) .unavailable hgone.idle
    obtain ⟨-, -, hmad, -, hprn, -⟩ := hwanes.fixed
    obtain ⟨-, hrgw, hscn⟩ := hwanes.scan rfl
    rw [withdrawOne_of_session hn]
    exact hunmoved.trans ⟨hrgw, hmad, hscn, hprn, fun hd => hd.wanes hwanes rfl⟩

theorem unmoved_withdrawLines (h : Discarded s) : Unmoved s (withdrawLines s) := by
  have hfold : ∀ (l : List Line) (s : State), Discarded s → Unmoved s (l.foldl withdrawOne s) := fun l => by
    induction l with
    | nil => exact fun s _ => .refl s
    | cons n l ih =>
      intro s hs
      have hone := unmoved_withdrawOne hs n
      exact hone.trans (ih _ (hone.gone hs))
  have hend (t : State) : Unmoved t t.graceless := ⟨rfl, rfl, rfl, rfl, fun ⟨hj, hd, hi⟩ => ⟨hj, hd, hi⟩⟩
  rw [withdrawLines_eq]
  exact (hfold allLines s h).trans (hend _)

/-! ## The turns of several lines -/

/-- A line waits for a page only where no line receives. -/
def State.waitsAlone (s : State) : Prop := ∀ n, (s.line n).state = .dataWait → ∀ m, (s.line m).dir ≠ some .inbound

/-- Between `s` and `t` the lines of `l` have had their turns. -/
structure Turns (l : List Line) (s t : State) : Prop where
  lines : ∀ m, t.line m = if m ∈ l then (s.line m).withdrawn else s.line m
  calls : ∀ m : Line, Tab.get? t.chg.calls m.val
    = if m ∈ l ∧ (s.line m).state.inSession = true ∧ (s.line m).dir = some .outbound then none else Tab.get? s.chg.calls m.val

theorem Turns.cons {l : List Line} (hn : n ∉ l) (h : Turns [n] s t) (h' : Turns l t u) : Turns (n :: l) s u := by
  have hline {m : Line} (hm : m ≠ n) : t.line m = s.line m := by rw [h.lines, if_neg (by simpa using hm)]
  refine ⟨fun m => ?_, fun m => ?_⟩
  · by_cases hm : m = n
    · subst hm
      rw [h'.lines, if_neg hn, h.lines, if_pos (List.mem_singleton_self _), if_pos (List.mem_cons_self ..)]
    · rw [h'.lines, hline hm]
      simp [hm]
  · by_cases hm : m = n
    · subst hm
      rw [h'.calls, if_neg fun hc => hn hc.1, h.calls]
      simp
    · rw [h'.calls, hline hm, h.calls]
      simp [hm]

theorem Turns.waitsAlone {l : List Line} (h : Turns l s t) (hs : s.waitsAlone) : t.waitsAlone := by
  intro k hk m
  have hwas : (s.line k).state = .dataWait := by
    rw [h.lines] at hk
    split at hk
    · rw [LineRec.withdrawn_state] at hk
      cases hk
    · exact hk
  have hdir := hs k hwas m
  rw [h.lines]
  split
  · obtain hnone | hsame := (s.line m).withdrawn_dir
    · rw [hnone]
      exact fun e => nomatch e
    · rw [hsame]
      exact hdir
  · exact hdir

/-- The turn of one line: what it does to the lines and to their calls, and to the link. -/
theorem withdrawOne_turn (h : Discarded s) (hw : s.waitsAlone) (n : Line) :
    Turns [n] s (withdrawOne s n)
      ∧ (((s.line n).state.inSession = true → (s.line n).storing = none) → (withdrawOne s n).sli = (handWithdraw n s).sli) := by
  cases hn : (s.line n).state.inSession with
  | false =>
    obtain ⟨⟨hframe, -⟩, hself, hothers⟩ := withdrawOne_of_noSession hn
    have hchg : (withdrawOne s n).chg = s.chg := by rw [hframe]
    have hsli : (withdrawOne s n).sli = s.sli := by rw [hframe]
    have hhand := handWithdraw_of_noSession hn
    refine ⟨⟨fun m => ?_, fun m => ?_⟩, fun _ => by rw [hsli, hhand]⟩
    · by_cases hm : m = n
      · rw [hm, hself, if_pos (List.mem_singleton_self _)]
      · rw [hothers m hm, if_neg (by simpa using hm)]
    · rw [hchg, if_neg]
      rintro ⟨hm, hin, -⟩
      rw [List.mem_singleton.1 hm, hn] at hin
      cases hin
  | true =>
    have hhand := onlySli_handWithdraw n s
    have hline (m : Line) : (handWithdraw n s).line m = s.line m := by rw [hhand]; rfl
    have hcalls : (handWithdraw n s).chg = s.chg := by rw [hhand]
    have hgone : Discarded (handWithdraw n s) := by
      obtain ⟨hj, hd, hi⟩ := h
      rw [hhand]
      exact ⟨hj, hd, hi⟩
    have hself := endSession_line n ((s.line n).causeOr .withdrawn) .unavailable (handWithdraw n s)
    have hends := endSession_discarded (cause := (s.line n).causeOr .withdrawn) hgone
      (fun hdir m hm => by
        rw [hline] at hdir hm
        exact hw m hm n hdir) .unavailable
    rw [← withdrawOne_of_session hn] at hself hends
    refine ⟨⟨fun m => ?_, fun m => ?_⟩, fun hs => (hends.link (by rw [hline]; exact hs rfl)).1⟩
    · by_cases hm : m = n
      · rw [hm, hself, if_pos (List.mem_singleton_self _), LineRec.withdrawn, if_pos hn]
      · rw [hends.lines m hm, hline, if_neg (by simpa using hm)]
    · rw [hends.calls, hline, hcalls]
      by_cases hm : m = n
      · subst hm
        simp [hn]
      · simp [hm]

theorem withdrawFold_turns (l : List Line) (hl : l.Nodup) (h : Discarded s) (hw : s.waitsAlone) :
    Turns l s (l.foldl withdrawOne s) := by
  induction l generalizing s with
  | nil => exact ⟨fun m => by simp, fun m => by simp⟩
  | cons n l ih =>
    obtain ⟨hn, hl⟩ := List.nodup_cons.1 hl
    obtain ⟨hturn, -⟩ := withdrawOne_turn h hw n
    exact hturn.cons hn (ih hl ((unmoved_withdrawOne h n).gone h) (hturn.waitsAlone hw))

/-- Lines without a session have nothing handed. -/
theorem withdrawFold_onlyLines (l : List Line) (h : ∀ m, (s.line m).state.inSession = false) :
    OnlyLines s (l.foldl withdrawOne s) := by
  induction l generalizing s with
  | nil => exact .refl s
  | cons n l ih =>
    obtain ⟨honly, hself, hothers⟩ := withdrawOne_of_noSession (h n)
    refine honly.trans (ih fun m => ?_)
    by_cases hm : m = n
    · rw [hm, hself, LineRec.withdrawn_state]
      rfl
    · rw [hothers m hm]
      exact h m

/-- With one line in session and nothing on its way to the store, that line's messages alone are handed. -/
theorem withdrawFold_sli (l : List Line) (hn : n ∈ l) (h : Discarded s) (hw : s.waitsAlone)
    (hone : ∀ m, (s.line m).state.inSession = true ↔ m = n) (hstore : (s.line n).storing = none) :
    (l.foldl withdrawOne s).sli = (handWithdraw n s).sli := by
  induction l generalizing s with
  | nil => cases hn
  | cons k l ih =>
    obtain ⟨hturn, hlink⟩ := withdrawOne_turn h hw k
    by_cases hk : k = n
    · subst hk
      have hnone (m : Line) : ((withdrawOne s k).line m).state.inSession = false := by
        rw [hturn.lines]
        split
        · rw [LineRec.withdrawn_state]
          rfl
        next hm => exact Bool.eq_false_iff.2 fun hin => hm (List.mem_singleton.2 ((hone m).1 hin))
      have hrest : (l.foldl withdrawOne (withdrawOne s k)).sli = (withdrawOne s k).sli := by
        rw [(withdrawFold_onlyLines l hnone).1]
      rw [List.foldl_cons, hrest]
      exact hlink fun _ => hstore
    · have hidle : (s.line k).state.inSession = false := Bool.eq_false_iff.2 fun hin => hk ((hone k).1 hin)
      obtain ⟨⟨hframe, -⟩, hself, hothers⟩ := withdrawOne_of_noSession hidle
      have hsame : (withdrawOne s k).line n = s.line n := hothers n (Ne.symm hk)
      have hsli : (withdrawOne s k).sli = s.sli := by rw [hframe]
      rw [List.foldl_cons, ih ((List.mem_cons.1 hn).resolve_left (Ne.symm hk)) ((unmoved_withdrawOne h k).gone h)
        (hturn.waitsAlone hw) (fun m => ?_) (by rw [hsame]; exact hstore)]
      · exact handWithdraw_sli hsame hsli
      · by_cases hm : m = k
        · rw [hm, hself, LineRec.withdrawn_state]
          exact ⟨fun e => Bool.noConfusion e, fun e => absurd e hk⟩
        · rw [hothers m hm]
          exact hone m

end

/-! ## Before the lines' turns -/

theorem modifyDests_frame (f : Dest → Dest) (l : List Nat) (s : State) :
    ∃ ds m, l.foldl (fun s k => modifyDest k f s) s = { s with dju := { s.dju with dests := ds }, dram := m } := by
  induction l generalizing s with
  | nil => exact ⟨_, _, rfl⟩
  | cons k l ih =>
    obtain ⟨ds, m, hk⟩ := modifyDest_frame k f s
    obtain ⟨ds', m', hl⟩ := ih (modifyDest k f s)
    rw [List.foldl_cons, hl, hk]
    exact ⟨_, _, rfl⟩

theorem takesPages_takeHoldsOffs (l : List Nat) (s : State) : TakesPages s (l.foldl (fun s k => takeHoldsOff k s) s) := by
  induction l generalizing s with
  | nil => exact .refl s
  | cons k l ih => exact (takesPages_takeHoldsOff k s).trans (ih _)

/-- Jobs and destinations go, and pages may lose holds and documents with them. -/
theorem discardJobs_frame (s : State) :
    ∃ x docs c m, discardJobs s = { s with
      psm := x, dju := { s.dju with docs := docs, jobs := [], dests := [], passDue := false }, ceu := c, dram := m } := by
  obtain ⟨ds, m, hmark⟩ := modifyDests_frame (fun d => { d with lastCause := some .withdrawn })
    (allLines.filterMap fun n => (s.line n).dest) s
  unfold discardJobs
  dsimp only
  rw [hmark]
  obtain ⟨x, docs, c, m', htake⟩ := takesPages_takeHoldsOffs
    (Tab.keysWhere ds fun d => !d.isFinal) { s with dju := { s.dju with dests := ds }, dram := m }
  dsimp only at htake ⊢
  rw [htake]
  exact ⟨_, _, _, _, rfl⟩

/-- With no destination, the discarding of the jobs touches no page. -/
theorem discardJobs_of_none {s : State} (h : s.dju.dests = []) :
    discardJobs s = { s with dju := { s.dju with jobs := [], passDue := false } } := by
  have hnone (k : Nat) : s.dest? k = none := by rw [State.dest?, h]; rfl
  have hmark : (allLines.filterMap fun n => (s.line n).dest).foldl
      (fun s k => modifyDest k (fun d => { d with lastCause := some .withdrawn }) s) s = s :=
    List.foldl_fixed' (fun k => modifyDest_of_none (hnone k) _) _
  unfold discardJobs
  dsimp only
  rw [hmark, h]
  rfl

/-- With no access held, the scan is cut off whole. -/
theorem cutScan_of_active {s : State} (hheld : s.smp.held = none) (h : s.scn.state ≠ .scanIdle) :
    (cutScan s).scn.state = .scanIdle ∧ (cutScan s).scn.doc = none ∧ (cutScan s).scn.page = none
      ∧ (cutScan s).rgw.rawGeom = none := by
  have hgo := (wanes_finishPage (w := ⟨true, none, none⟩) rfl (Wanes.refl _ s)).hold
  have hnone : (finishPage s).smp.held = none := by
    obtain e | ⟨x, i, hx, -⟩ := hgo
    · rw [e, hheld]
    · rw [hheld] at hx
      cases hx
  rw [cutScan, if_neg h, endScan_of_none hnone]
  exact ⟨rfl, rfl, rfl, rfl⟩

theorem cutScan_idle {s : State} (hheld : s.smp.held = none) : (cutScan s).scn.state = .scanIdle := by
  by_cases h : s.scn.state = .scanIdle
  · rw [cutScan, if_pos h]
    exact h
  · exact (cutScan_of_active hheld h).1

theorem cutScan_held {s : State} (hheld : s.smp.held = none) : (cutScan s).smp.held = none := by
  obtain e | ⟨x, i, hx, -⟩ := (wanes_cutScan (w := ⟨true, none, none⟩) rfl (Wanes.refl _ s)).hold
  · rw [e, hheld]
  · rw [hheld] at hx
    cases hx

/-- With no line waiting for a page beside a scan, the scan's end leaves lines, link and charges alone. -/
theorem cutScan_calm {s : State} (h : ∀ n, (s.line n).state = .dataWait → s.scn.state = .scanIdle) :
    (cutScan s).lne = s.lne ∧ (cutScan s).sli = s.sli ∧ (cutScan s).chg = s.chg := by
  by_cases hi : s.scn.state = .scanIdle
  · rw [cutScan, if_pos hi]
    exact ⟨rfl, rfl, rfl⟩
  · exact (wanes_cutScan (w := ⟨true, none, none⟩) rfl (Wanes.refl _ s)).calm rfl fun n hn => hi (h n hn)

/-- A withdraw is under way: the state and the note. -/
def State.leaving (s : State) : State := { s with rgw := { s.rgw with state := .withdrawing, noted := false } }

/-- The printer as a withdraw leaves it. -/
def Prn.withdrawn (p : Prn) : Prn :=
  { p with state := .stopped, rendering := none, sheetOpen := false, slots := p.slots.map fun r => { r with substitute := none } }

/-- The state that a withdraw finds once the scan is cut off, the scan's counts cleared and printing stopped. -/
def State.atHalt (s : State) : State :=
  { s with scn := { s.scn with sealedCount := 0, lastSealed := none, extraPosted := false }, prn := s.prn.withdrawn,
           mad := { s.mad with urgent := false } }

/-- The state before the lines have their turns. -/
def State.beforeTurns (s : State) : State := discardJobs (cutScan s.leaving).atHalt

theorem startWithdraw_of_noneHeld {s : State} (hheld : s.smp.held = none) :
    startWithdraw s = post .withdrawn .path 0 0 0 (withdrawLines s.beforeTurns) := by
  have hprint : releasePrintHold (cutScan s.leaving).atHalt = (cutScan s.leaving).atHalt :=
    releasePrintHold_of_none (s := (cutScan s.leaving).atHalt) (cutScan_held (s := s.leaving) hheld)
  show post .withdrawn .path 0 0 0 (withdrawLines (discardJobs (releasePrintHold (cutScan s.leaving).atHalt))) = _
  rw [hprint]
  rfl

theorem beforeTurns_frame (s : State) :
    ∃ x docs c m, s.beforeTurns = { (cutScan s.leaving).atHalt with
      psm := x, dju := { (cutScan s.leaving).dju with docs := docs, jobs := [], dests := [], passDue := false }, ceu := c, dram := m } :=
  discardJobs_frame _

theorem beforeTurns_discarded {s : State} (hheld : s.smp.held = none) : Discarded s.beforeTurns := by
  obtain ⟨x, docs, c, m, hframe⟩ := beforeTurns_frame s
  rw [hframe]
  exact ⟨rfl, rfl, cutScan_idle (s := s.leaving) hheld⟩

/-- What stands before the lines' turns, whatever the lines do. -/
theorem beforeTurns_halted {s : State} :
    s.beforeTurns.rgw.state = .withdrawing ∧ s.beforeTurns.rgw.noted = false ∧ s.beforeTurns.mad.urgent = false
      ∧ s.beforeTurns.prn = s.prn.withdrawn := by
  obtain ⟨x, docs, c, m, hframe⟩ := beforeTurns_frame s
  have hcut := wanes_cutScan (w := ⟨true, none, none⟩) rfl (Wanes.refl _ s.leaving)
  obtain ⟨-, -, -, -, hprn, hstate, -⟩ := hcut.fixed
  rw [hframe]
  exact ⟨hstate, hcut.noted, rfl, congrArg Prn.withdrawn hprn⟩

/-- A scan that was active has gone with its document, its page and its geometry. -/
theorem beforeTurns_scan {s : State} (hheld : s.smp.held = none) (h : s.scn.state ≠ .scanIdle) :
    s.beforeTurns.scn.doc = none ∧ s.beforeTurns.scn.page = none ∧ s.beforeTurns.rgw.rawGeom = none := by
  obtain ⟨x, docs, c, m, hframe⟩ := beforeTurns_frame s
  obtain ⟨-, hdoc, hpage, hgeom⟩ := cutScan_of_active (s := s.leaving) hheld h
  rw [hframe]
  exact ⟨hdoc, hpage, hgeom⟩

theorem beforeTurns_calm {s : State} (h : ∀ n, (s.line n).state = .dataWait → s.scn.state = .scanIdle) :
    s.beforeTurns.lne = s.lne ∧ s.beforeTurns.sli = s.sli ∧ s.beforeTurns.chg = s.chg := by
  obtain ⟨x, docs, c, m, hframe⟩ := beforeTurns_frame s
  have hcalm := cutScan_calm (s := s.leaving) h
  rw [hframe]
  exact hcalm

/-- Of a part at rest only the scan's counts and the printer's and the scheduler's marks go before the lines' turns. -/
theorem beforeTurns_of_rest {s : State} (hscan : s.scn.state = .scanIdle) (hdests : s.dju.dests = []) :
    s.beforeTurns = { s.leaving.atHalt with dju := { s.dju with jobs := [], passDue := false } } := by
  have hcut : cutScan s.leaving = s.leaving := if_pos hscan
  rw [State.beforeTurns, hcut, discardJobs_of_none (s := s.leaving.atHalt) hdests]
  rfl

/-! ## The row WITHDRAW (R17) -/

/-- A ready write to the commit word stores it and looks at the word, in every operating state. -/
theorem exec_withdraw_of_ready {s : State} (hready : s.busReady 0x3C = true) {be : ByteEnables} (hbe : be ≠ 0) (data : Word) :
    exec (.withdraw data be) s = .next (commitWritten (storeAccess ⟨true, 0x3C, data, be⟩ s)) := by
  rw [exec_withdraw, smpWrite_of_ready hready hbe, windowWrite]
  congr 1
  split <;> rfl

theorem commitWritten_of_accepted {s : State} (hrun : s.rgw.state = .run) (hzero : Mem.num s.dram 0x3C 4 = 0)
    (hacc : s.ceu.accepted = true) : commitWritten s = startWithdraw s := by
  simp only [commitWritten, hrun, hzero, hacc, if_true]

theorem commitWritten_of_early {s : State} (hzero : Mem.num s.dram 0x3C 4 = 0)
    (h : (s.rgw.state = .run ∧ s.ceu.accepted = false) ∨ (s.rgw.state = .pass ∧ s.rgw.validating = true)) :
    commitWritten s = { s with rgw := { s.rgw with noted := true } } := by
  obtain ⟨hrun, hacc⟩ | ⟨hpass, hval⟩ := h
  · simp [commitWritten, hrun, hzero, hacc]
  · simp [commitWritten, hpass, hzero, hval]

/-- A withdraw that starts: the commit word is stored, and the lines have their turns last. -/
theorem exec_withdraw_of_accepted {s : State} (hready : s.busReady 0x3C = true) {data : Word} {be : ByteEnables} (hbe : be ≠ 0)
    (hzero : s.wordAfter 0x3C data be = 0) (hrun : s.rgw.state = .run) (hacc : s.ceu.accepted = true) :
    exec (.withdraw data be) s
      = .next (post .withdrawn .path 0 0 0 (withdrawLines (storeAccess ⟨true, 0x3C, data, be⟩ s).beforeTurns)) := by
  obtain ⟨-, hheld, -⟩ := (State.busReady_iff s 0x3C).1 hready
  rw [exec_withdraw_of_ready hready hbe,
    commitWritten_of_accepted (s := storeAccess ⟨true, 0x3C, data, be⟩ s) hrun ((num_storeAccess ..).trans hzero) hacc,
    startWithdraw_of_noneHeld (s := storeAccess ⟨true, 0x3C, data, be⟩ s) hheld]

/-- A withdraw of a part at rest: nothing of DRAM but the commit word and the lines' records. -/
theorem withdrawLines_of_rest {s : State} (hscan : s.scn.state = .scanIdle) (hdests : s.dju.dests = [])
    (hlines : ∀ n, (s.line n).state.inSession = false) :
    ∃ ls m, withdrawLines s.beforeTurns = { s.leaving.atHalt with
        dju := { s.dju with jobs := [], passDue := false }, lne := { s.lne with lines := ls, grace := none }, dram := m }
      ∧ (∀ n, ((withdrawLines s.beforeTurns).line n).state = .unavailable)
      ∧ unchangedOutside [(s.por 0x80, 2048)] s.dram m := by
  have hrest := beforeTurns_of_rest hscan hdests
  have hlines' (n : Line) : (s.beforeTurns.line n).state.inSession = false := by rw [hrest]; exact hlines n
  have hgone : Discarded s.beforeTurns := by rw [hrest]; exact ⟨rfl, hdests, hscan⟩
  have hquiet : s.beforeTurns.waitsAlone := fun n hn => by
    have hin := hlines' n
    rw [hn] at hin
    cases hin
  have hturns := withdrawFold_turns allLines (List.nodup_finRange 8) hgone hquiet
  obtain ⟨hframe, hmem⟩ := withdrawFold_onlyLines allLines hlines'
  rw [withdrawLines_eq]
  obtain ⟨t, ht⟩ : ∃ t, t = allLines.foldl withdrawOne s.beforeTurns := ⟨_, rfl⟩
  rw [← ht] at hframe hmem hturns ⊢
  rw [hrest] at hframe hmem
  refine ⟨t.lne.lines, t.dram, by rw [hframe]; rfl, fun n => ?_, hmem⟩
  show (t.line n).state = _
  rw [hturns.lines, if_pos (mem_allLines n), LineRec.withdrawn_state]

/-- With no line that waits for a page beside a scan or a line that receives, every line has its turn on its own record. -/
theorem withdrawLines_turns {s : State} (hheld : s.smp.held = none)
    (hwait : ∀ n, (s.line n).state = .dataWait → s.scn.state = .scanIdle ∧ ∀ m, (s.line m).dir ≠ some .inbound) :
    Turns allLines s (withdrawLines s.beforeTurns)
      ∧ ∀ n, (∀ m, (s.line m).state.inSession = true ↔ m = n) → (s.line n).storing = none →
        (withdrawLines s.beforeTurns).sli = (handWithdraw n s).sli := by
  obtain ⟨hlne, hsli, hchg⟩ := beforeTurns_calm fun n hn => (hwait n hn).1
  have hgone := beforeTurns_discarded hheld
  have hline (n : Line) : s.beforeTurns.line n = s.line n := by rw [State.line, hlne]; rfl
  have hquiet : s.beforeTurns.waitsAlone := fun n hn m => by
    rw [hline] at hn ⊢
    exact (hwait n hn).2 m
  obtain ⟨hlines, hcalls⟩ := withdrawFold_turns allLines (List.nodup_finRange 8) hgone hquiet
  obtain ⟨t, ht⟩ : ∃ t, t = allLines.foldl withdrawOne s.beforeTurns := ⟨_, rfl⟩
  have hover (n : Line) := withdrawFold_sli (n := n) (s := s.beforeTurns) allLines
  rw [withdrawLines_eq]
  rw [← ht] at hlines hcalls hover ⊢
  refine ⟨⟨fun m => (hlines m).trans (by rw [hline]), fun m => (hcalls m).trans (by rw [hline, hchg])⟩, fun n hone hstore => ?_⟩
  refine (hover n (mem_allLines n) hgone hquiet (fun m => ?_) ?_).trans (handWithdraw_sli (hline n) hsli)
  · rw [hline]
    exact hone m
  · rw [hline]
    exact hstore

/-- What a line in session hands as a withdraw starts. -/
theorem handWithdraw_of_session {n : Line} {s : State} (h : (s.line n).state.inSession = true) :
    handWithdraw n s = if (s.line n).state ∈ [.seizing, .dialling] then hand n .clear s
      else if (s.line n).state = .clearing then s else hand n .clear (hand n .abandon s) := by
  unfold handWithdraw
  cases hst : (s.line n).state with
  | idle | unavailable =>
    rw [hst] at h
    cases h
  | _ => rfl

/-- Settles O14: the scan, the printer, jobs and destinations go first, and then the lines have their turns one by one. -/
theorem Settled.withdraw : Obligations.Withdraw := by
  intro data be s hready hbe hzero
  obtain ⟨-, hheld, -⟩ := (State.busReady_iff s 0x3C).1 hready
  obtain ⟨hstores, hbytes, hword⟩ := storesWord_storeAccess true 0x3C data be s
  have hread := (num_storeAccess true 0x3C data be s).trans hzero
  have hexec := exec_withdraw_of_accepted (data := data) hready hbe hzero
  refine ⟨fun hrun hmap hacc hscan hdests hlines => ?_, fun hrun hmap hacc => ?_, fun hearly => ?_⟩
  · rw [hexec hrun hacc]
    obtain ⟨x, hx⟩ : ∃ x, x = storeAccess ⟨true, 0x3C, data, be⟩ s := ⟨_, rfl⟩
    rw [← hx] at hstores hword hread ⊢
    have hpor : x.por 0x80 = s.por 0x80 := by rw [hstores]; rfl
    obtain ⟨ls, m, hframe, hstates, hmem⟩ := withdrawLines_of_rest (s := x) (by rw [hstores]; exact hscan)
      (by rw [hstores]; exact hdests) (by rw [hstores]; exact hlines)
    rw [hpor] at hmem
    have hdram : (withdrawLines x.beforeTurns).dram = m := by rw [hframe]
    refine ⟨_, rfl, ?_, hstates, ?_, ?_, ?_⟩
    · rw [hframe, hstores]
      rfl
    · rw [hframe]
    · rw [hdram, ← hread]
      obtain ⟨⟨-, -, hbase⟩, -⟩ := Anchor.passed_regions (State.cfg_passed hmap)
      refine Mem.num_congr fun i hlow hhigh => hmem i ?_
      simp only [List.forall_mem_singleton, within_eq_false_iff, State.por]
      omega
    · rw [hdram]
      exact hword.trans hmem
  · rw [hexec hrun hacc]
    obtain ⟨x, hx⟩ : ∃ x, x = storeAccess ⟨true, 0x3C, data, be⟩ s := ⟨_, rfl⟩
    rw [← hx] at hstores ⊢
    have hheldx : x.smp.held = none := by rw [hstores]; exact hheld
    have hscn : x.scn = s.scn := by rw [hstores]
    have hprn : x.prn = s.prn := by rw [hstores]
    have hchg : x.chg = s.chg := by rw [hstores]
    have hsli : x.sli = s.sli := by rw [hstores]
    have hline (n : Line) : x.line n = s.line n := by rw [hstores]; rfl
    have hgone := beforeTurns_discarded hheldx
    have hunmoved := unmoved_withdrawLines hgone
    obtain ⟨hjobs, hdests, hidle⟩ := hunmoved.gone hgone
    obtain ⟨hstate, hnoted, hurgent, hhalted⟩ := beforeTurns_halted (s := x)
    have hprint : (withdrawLines x.beforeTurns).prn = s.prn.withdrawn := by rw [hunmoved.prn, hhalted, hprn]
    refine ⟨withdrawLines x.beforeTurns, rfl, by rw [hunmoved.rgw, hstate], by rw [hunmoved.rgw, hnoted],
      by rw [hunmoved.mad, hurgent], hidle, fun hactive => ?_, by rw [hprint]; rfl, ?_, ?_, hjobs, hdests,
      withdrawLines_grace _, fun hwait => ?_⟩
    · rw [hunmoved.scn, hunmoved.rgw]
      exact beforeTurns_scan hheldx (by rw [hscn]; exact hactive)
    · rw [hprint]
      intro r hr
      obtain ⟨r', -, rfl⟩ := List.mem_map.1 hr
      rfl
    · rw [hprint]
      exact List.length_map ..
    · obtain ⟨⟨hlines, hcalls⟩, hlink⟩ := withdrawLines_turns hheldx fun n hn => by
        rw [hline] at hn
        rw [hscn]
        exact ⟨(hwait n hn).1, fun m => by rw [hline]; exact (hwait n hn).2 m⟩
      refine ⟨fun n => ?_, fun n => ?_, fun n hone _ hstore => ?_⟩
      · rw [hlines, if_pos (mem_allLines n), hline]
        rfl
      · rw [hcalls, hline, hchg]
        simp only [mem_allLines, true_and]
      · rw [← handWithdraw_of_session ((hone n).2 rfl), hlink n (fun m => by rw [hline]; exact hone m) (by rw [hline]; exact hstore)]
        exact handWithdraw_sli (hline n) hsli
  · rw [exec_withdraw_of_ready hready hbe]
    refine ⟨_, _, congrArg Host.Outcome.next (commitWritten_of_early hread ?_), ⟨hstores, hbytes, hword⟩, rfl⟩
    rw [hstores]
    exact hearly

end Sys2Proof.Machine
end

section
/-! PROOFS. The law of the holds says nothing of a block store or a check that an outbound line still keeps. -/

namespace Sys2Proof.Machine

set_option Elab.async false

open Sys2Proof.Tests in
/-- Line 1 clears an outbound session to destination 0, whose document has one sealed page. Its record also keeps the store of a
block of that page and a partial page to be checked behind it, of which the laws say nothing. BLOCK_STORED waits. -/
def storingWhileSending : State :=
  onLine { LineRec.default with
      state := .clearing, dir := some .outbound, dest := some 0, job := some 0, doc := some 0, page := some 0, cut := true
      storing := some ⟨0, 0, []⟩, checking := some (64, .more) }
    { work [(0, { doc .outbound .opened [some 0] with jobRefs := 1 })] [(0, page .complete)] [(0, job .active 1)]
        [(0, dest 0 .sending)] with pending := [.blockStored 1] }

theorem storingWhileSending_lawful : storingWhileSending.ordered = true ∧ storingWhileSending.callLaw = true
    ∧ storingWhileSending.holdLaw = true := by decide

/-- The check that waited for the store puts the outbound line into RECEIVING. -/
theorem step_storingWhileSending : ∃ t, step storingWhileSending = .next t ∧ t.holdLaw = false :=
  ⟨_, rfl, by decide⟩

/-- Refutes O17: an outbound line in CLEARING whose record keeps a block store with its check satisfies the laws, and
BLOCK_STORED makes the check and takes the line into RECEIVING, in which no outbound session stands. -/
theorem not_holdLawKept : ¬ Obligations.HoldLawKept := by
  intro h
  obtain ⟨hord, hcall, hhold⟩ := storingWhileSending_lawful
  obtain ⟨t, hstep, hbroken⟩ := step_storingWhileSending
  rw [h _ t hord hcall hhold hstep] at hbroken
  cases hbroken

end Sys2Proof.Machine
end

section
/-! PROOFS. The law of the outbound sessions (R91, R102) in the form that proofs use: the lines of a set `X` are left out of it, as
a line is while its own session ends, and each change of a line, a destination or a job says when the law outlasts it. -/

namespace Sys2Proof.Machine

set_option Elab.async false

/-! ## The law without some lines -/

/-- The destination is in session, or SENT at the end of one. -/
def Dest.calling (t : Dest) : Bool := t.state == .dialling || t.state == .sending || t.state == .sent

/-- The number of lines that name job `j`, those of `X` left out. -/
def State.callers (s : State) (X : Line → Bool) (j : Nat) : Nat :=
  (allLines.filter fun n => !X n && (s.line n).job == some j).length

/-- No line but those of `X` names destination `k`. -/
def State.unnamed (s : State) (X : Line → Bool) (k : Nat) : Prop := ∀ n, X n = false → (s.line n).dest ≠ some k

/-- The law of the outbound sessions without the lines of `X`. -/
structure CallTied (X : Line → Bool) (s : State) : Prop where
  jobs : Tab.rising s.dju.jobs = true
  dests : Tab.rising s.dju.dests = true
  free : ∀ n, X n = false → (s.line n).dest = none → (s.line n).job = none ∧ (s.line n).dir ≠ some .outbound
  call : ∀ n k, X n = false → (s.line n).dest = some k → (s.line n).dir = some .outbound ∧ (s.line n).state.inSession = true
    ∧ ∃ t, s.dest? k = some t ∧ t.calling = true ∧ (s.line n).job = some t.job ∧ (s.job? t.job).isSome
  apart : ∀ m n k k', X m = false → X n = false → m ≠ n → (s.line m).dest = some k → (s.line n).dest = some k' →
    k ≠ k' ∧ (s.dest? k).map Dest.digits ≠ (s.dest? k').map Dest.digits
  count : ∀ j r, s.job? j = some r → r.sessions = s.callers X j

/-- No line is left out. -/
def noLine : Line → Bool := fun _ => false

/-- The lines of `X` and line `n`. -/
def withLine (X : Line → Bool) (n : Line) : Line → Bool := fun m => X m || m == n

/-- The lines of `X` but line `n`. -/
def exceptLine (X : Line → Bool) (n : Line) : Line → Bool := fun m => X m && m != n

section

variable {X : Line → Bool} {s t : State} {n : Line} {k j : Nat}

theorem withLine_false_iff {m : Line} : withLine X n m = false ↔ X m = false ∧ m ≠ n := by
  simp [withLine]

theorem exceptLine_false_iff {m : Line} : exceptLine X n m = false ↔ X m = false ∨ m = n := by
  simp [exceptLine, or_iff_not_imp_left]

@[simp] theorem withLine_self (X : Line → Bool) (n : Line) : withLine X n n = true := by simp [withLine]

@[simp] theorem exceptLine_self (X : Line → Bool) (n : Line) : exceptLine X n n = false := by simp [exceptLine]

theorem withLine_of_ne {m : Line} (h : m ≠ n) : withLine X n m = X m := by
  rw [withLine, beq_eq_false_iff_ne.2 h, Bool.or_false]

theorem exceptLine_of_ne {m : Line} (h : m ≠ n) : exceptLine X n m = X m := by
  rw [exceptLine, bne_iff_ne.2 h, Bool.and_true]

theorem exceptLine_withLine (h : X n = false) : exceptLine (withLine X n) n = X := by
  funext m
  by_cases hm : m = n
  · rw [hm, exceptLine_self, h]
  · rw [exceptLine_of_ne hm, withLine_of_ne hm]

theorem lineDest_of_dest (h : (s.line n).dest = some k) : s.lineDest n = s.dest? k := by
  rw [State.lineDest, h]
  rfl

/-- A line that names no destination stands alone. -/
theorem callStands_of_none (h : (s.line n).dest = none) :
    s.callStands n = true ↔ (s.line n).job = none ∧ (s.line n).dir ≠ some .outbound := by
  unfold State.callStands
  dsimp only
  rw [h]
  cases (s.line n).job <;> simp

/-- A line that names a destination holds an outbound session to it, apart from those of all other lines. -/
theorem callStands_of_some (h : (s.line n).dest = some k) :
    s.callStands n = true ↔ ((s.line n).dir = some .outbound ∧ (s.line n).state.inSession = true
        ∧ ∃ t, s.dest? k = some t ∧ t.calling = true ∧ (s.line n).job = some t.job ∧ (s.job? t.job).isSome)
      ∧ ∀ m, m ≠ n → ∀ k', (s.line m).dest = some k' → (s.dest? k').isSome →
        k' ≠ k ∧ (s.dest? k').map Dest.digits ≠ (s.dest? k).map Dest.digits := by
  have hall : (allLines.all fun m => m == n || (s.lineDest m).isNone
        || ((s.line m).dest != some k && (s.lineDest m).map Dest.digits != (s.dest? k).map Dest.digits)) = true
      ↔ ∀ m, m ≠ n → ∀ k', (s.line m).dest = some k' → (s.dest? k').isSome →
        k' ≠ k ∧ (s.dest? k').map Dest.digits ≠ (s.dest? k).map Dest.digits := by
    simp only [List.all_eq_true, mem_allLines, true_implies]
    refine forall_congr' fun m => ?_
    by_cases hm : m = n
    · simp [hm]
    · cases hd : (s.line m).dest with
      | none => simp [hm, State.lineDest, hd]
      | some k' =>
        rw [lineDest_of_dest hd]
        cases hk' : s.dest? k' <;> simp [hm, hk']
  unfold State.callStands
  dsimp only
  rw [h]
  cases hj : (s.line n).job with
  | none => simp
  | some j =>
    dsimp only
    rw [Bool.and_eq_true, hall]
    refine and_congr_left fun _ => ?_
    cases hk : s.dest? k with
    | none => simp
    | some t =>
      simp only [Option.any_some, Bool.and_eq_true, beq_iff_eq, Dest.calling, Option.some.injEq, exists_eq_left']
      constructor
      · rintro ⟨⟨⟨hdir, hin⟩, hsome⟩, rfl, hst⟩
        exact ⟨hdir, hin, hst, rfl, hsome⟩
      · rintro ⟨hdir, hin, hst, rfl, hsome⟩
        exact ⟨⟨⟨hdir, hin⟩, hsome⟩, rfl, hst⟩

/-- The law as the statement has it. -/
theorem callLaw_iff (hord : s.ordered = true) : s.callLaw = true ↔ CallTied noLine s := by
  obtain ⟨⟨⟨-, hjobs⟩, hdests⟩, -⟩ : ((_ ∧ _) ∧ _) ∧ _ := by simpa only [State.ordered, Bool.and_eq_true] using hord
  have hcount : (s.dju.jobs.all fun e => e.2.sessions == (allLines.filter fun n => (s.line n).job == some e.1).length) = true
      ↔ ∀ j r, s.job? j = some r → r.sessions = s.callers noLine j := by
    simp only [List.all_eq_true, beq_iff_eq]
    exact ⟨fun h j r hr => h (j, r) (Tab.mem_of_get? hr), fun h e he => h e.1 e.2 (Tab.get?_of_mem hjobs he)⟩
  rw [State.callLaw, Bool.and_eq_true, hcount, List.all_eq_true]
  simp only [mem_allLines, true_implies]
  constructor
  · rintro ⟨hlines, hcount⟩
    have hstands (n : Line) (k : Nat) (h : (s.line n).dest = some k) := (callStands_of_some h).1 (hlines n)
    refine ⟨hjobs, hdests, fun n _ h => (callStands_of_none h).1 (hlines n), fun n k _ h => (hstands n k h).1,
      fun m n k k' _ _ hmn hm hn => ?_, hcount⟩
    obtain ⟨-, -, t, ht, -⟩ := (hstands m k hm).1
    exact (hstands n k' hn).2 m hmn k hm (by rw [ht]; rfl)
  · rintro ⟨-, -, hfree, hcall, hapart, hcount⟩
    refine ⟨fun n => ?_, hcount⟩
    cases hd : (s.line n).dest with
    | none => exact (callStands_of_none hd).2 (hfree n rfl hd)
    | some k => exact (callStands_of_some hd).2 ⟨hcall n k rfl hd, fun m hm k' hk' _ => hapart m n k' k rfl rfl hm hk' hd⟩

/-! ## What outlasts a change -/

theorem CallTied.same (h : CallTied X s) (hlines : t.lne.lines = s.lne.lines) (hjobs : t.dju.jobs = s.dju.jobs)
    (hdests : t.dju.dests = s.dju.dests) : CallTied X t := by
  have hline (m : Line) : t.line m = s.line m := by rw [State.line, hlines]; rfl
  have hjob (j : Nat) : t.job? j = s.job? j := by rw [State.job?, hjobs]; rfl
  have hdest (k : Nat) : t.dest? k = s.dest? k := by rw [State.dest?, hdests]; rfl
  have hcallers (j : Nat) : t.callers X j = s.callers X j := by simp only [State.callers, hline]
  obtain ⟨h1, h2, h3, h4, h5, h6⟩ := h
  simp only [← hline, ← hjob, ← hdest, ← hcallers] at h3 h4 h5 h6
  exact ⟨by rw [hjobs]; exact h1, by rw [hdests]; exact h2, h3, h4, h5, h6⟩

/-- A line of which the job is none may be left out or not. -/
theorem CallTied.without (h : CallTied X s) (hjob : (s.line n).job = none) : CallTied (withLine X n) s where
  jobs := h.jobs
  dests := h.dests
  free m hm := h.free m (withLine_false_iff.1 hm).1
  call m k hm := h.call m k (withLine_false_iff.1 hm).1
  apart m m' k k' hm hm' := h.apart m m' k k' (withLine_false_iff.1 hm).1 (withLine_false_iff.1 hm').1
  count j r hr := by
    rw [h.count j r hr, State.callers, State.callers]
    congr 2
    funext m
    by_cases hm : m = n
    · simp [hm, hjob]
    · rw [withLine_of_ne hm]

/-- What may happen to the record of a line that counts: it goes on naming what it names, and stays in session. -/
def LineRec.goesOn (r r' : LineRec) : Prop :=
  r'.dest = r.dest ∧ r'.job = r.job ∧ r'.dir = r.dir ∧ (r.state.inSession = true → r'.state.inSession = true)

theorem CallTied.setsLine {r : LineRec} (h : CallTied X s) (e : SetsLine n r s t) (hr : (s.line n).goesOn r) : CallTied X t := by
  obtain ⟨hdest, hjob, hdir, hin⟩ := hr
  have hline (m : Line) : (t.line m).dest = (s.line m).dest ∧ (t.line m).job = (s.line m).job ∧ (t.line m).dir = (s.line m).dir
      ∧ ((s.line m).state.inSession = true → (t.line m).state.inSession = true) := by
    by_cases hm : m = n
    · rw [hm, e.line_self]
      exact ⟨hdest, hjob, hdir, hin⟩
    · rw [e.line_of_ne hm]
      exact ⟨rfl, rfl, rfl, id⟩
  have hcallers (j : Nat) : t.callers X j = s.callers X j := by simp only [State.callers, (hline _).2.1]
  obtain ⟨m, rfl, -⟩ := e
  refine ⟨h.jobs, h.dests, fun m hm hd => ?_, fun m k hm hd => ?_, fun m m' k k' hm hm' hne hd hd' => ?_, fun j r hr => ?_⟩
  · rw [(hline m).1] at hd
    rw [(hline m).2.1, (hline m).2.2.1]
    exact h.free m hm hd
  · rw [(hline m).1] at hd
    obtain ⟨hdir, hin, hrest⟩ := h.call m k hm hd
    rw [(hline m).2.1, (hline m).2.2.1]
    exact ⟨hdir, (hline m).2.2.2 hin, hrest⟩
  · rw [(hline m).1] at hd
    rw [(hline m').1] at hd'
    exact h.apart m m' k k' hm hm' hne hd hd'
  · rw [hcallers]
    exact h.count j r hr

/-- A line that counts no more takes any record; one that takes a record without a session counts again. -/
theorem CallTied.setsLine_out {r : LineRec} (h : CallTied X s) (e : SetsLine n r s t) (hX : X n = true) : CallTied X t := by
  have hne {m : Line} (hm : X m = false) : m ≠ n := fun e => by rw [e, hX] at hm; cases hm
  have hline {m : Line} (hm : X m = false) : t.line m = s.line m := e.line_of_ne (hne hm)
  have hcallers (j : Nat) : t.callers X j = s.callers X j := by
    unfold State.callers
    congr 2
    funext m
    cases hm : X m with
    | true => rfl
    | false => rw [hline hm]
  obtain ⟨m, rfl, -⟩ := e
  refine ⟨h.jobs, h.dests, fun m hm hd => ?_, fun m k hm hd => ?_, fun m m' k k' hm hm' hne hd hd' => ?_, fun j r hr => ?_⟩
  · rw [hline hm] at hd ⊢
    exact h.free m hm hd
  · rw [hline hm] at hd ⊢
    exact h.call m k hm hd
  · rw [hline hm] at hd
    rw [hline hm'] at hd'
    exact h.apart m m' k k' hm hm' hne hd hd'
  · rw [hcallers]
    exact h.count j r hr

/-- A line without a session counts, whether or not it did before. -/
theorem CallTied.with (h : CallTied X s) (hX : X n = true) (hdest : (s.line n).dest = none) (hjob : (s.line n).job = none)
    (hdir : (s.line n).dir ≠ some .outbound) : CallTied (exceptLine X n) s where
  jobs := h.jobs
  dests := h.dests
  free m hm hd := by
    rcases exceptLine_false_iff.1 hm with hm | rfl
    · exact h.free m hm hd
    · exact ⟨hjob, hdir⟩
  call m k hm hd := by
    rcases exceptLine_false_iff.1 hm with hm | rfl
    · exact h.call m k hm hd
    · rw [hdest] at hd
      cases hd
  apart m m' k k' hm hm' hne hd hd' := by
    rcases exceptLine_false_iff.1 hm with hm | rfl
    · rcases exceptLine_false_iff.1 hm' with hm' | rfl
      · exact h.apart m m' k k' hm hm' hne hd hd'
      · rw [hdest] at hd'
        cases hd'
    · rw [hdest] at hd
      cases hd
  count j r hr := by
    rw [h.count j r hr, State.callers, State.callers]
    congr 2
    funext m
    by_cases hm : m = n
    · simp [hm, hX, hjob]
    · rw [exceptLine_of_ne hm]

/-- What may happen to the destinations and jobs: those that a line names stay, and no job's sessions change. -/
theorem CallTied.dju (h : CallTied X s) (hline : ∀ m, t.line m = s.line m) (hjobs : Tab.rising t.dju.jobs = true)
    (hdests : Tab.rising t.dju.dests = true)
    (hdest : ∀ n k r, X n = false → (s.line n).dest = some k → s.dest? k = some r →
      ∃ r', t.dest? k = some r' ∧ r'.job = r.job ∧ r'.digits = r.digits ∧ (r.calling = true → r'.calling = true))
    (hstay : ∀ n j, X n = false → (s.line n).job = some j → (s.job? j).isSome → (t.job? j).isSome)
    (hsessions : ∀ j r', t.job? j = some r' → r'.sessions = s.callers X j) : CallTied X t := by
  have hcallers (j : Nat) : t.callers X j = s.callers X j := by simp only [State.callers, hline]
  have hdigits {n : Line} {k : Nat} (hn : X n = false) (hd : (s.line n).dest = some k) :
      (t.dest? k).map Dest.digits = (s.dest? k).map Dest.digits := by
    obtain ⟨-, -, r, hr, -⟩ := h.call n k hn hd
    obtain ⟨r', hr', -, hdig, -⟩ := hdest n k r hn hd hr
    rw [hr, hr', Option.map_some, Option.map_some, hdig]
  refine ⟨hjobs, hdests, fun m hm hd => ?_, fun m k hm hd => ?_, fun m m' k k' hm hm' hne hd hd' => ?_, fun j r hr => ?_⟩
  · rw [hline] at hd ⊢
    exact h.free m hm hd
  · rw [hline] at hd ⊢
    obtain ⟨hdir, hin, r, hr, hcall, hjob, hsome⟩ := h.call m k hm hd
    obtain ⟨r', hr', hj, -, hc⟩ := hdest m k r hm hd hr
    exact ⟨hdir, hin, r', hr', hc hcall, by rw [hj, hjob], by rw [hj]; exact hstay m _ hm hjob hsome⟩
  · rw [hline] at hd hd'
    rw [hdigits hm hd, hdigits hm' hd']
    exact h.apart m m' k k' hm hm' hne hd hd'
  · rw [hcallers]
    exact hsessions j r hr

/-! ## Destinations and jobs (R91, R92) -/

/-- The destination goes on: its job and digits stay, and a session of it is not over. -/
def Dest.goesOn (r r' : Dest) : Prop := r'.job = r.job ∧ r'.digits = r.digits ∧ (r.calling = true → r'.calling = true)

theorem CallTied.dests_of (h : CallTied X s) {ds : Tab Dest} {m : Mem} (hds : Tab.rising ds = true)
    (hdest : ∀ n k r, X n = false → (s.line n).dest = some k → s.dest? k = some r → ∃ r', Tab.get? ds k = some r' ∧ r.goesOn r') :
    CallTied X { s with dju := { s.dju with dests := ds }, dram := m } :=
  h.dju (fun _ => rfl) h.jobs hds hdest (fun _ _ _ _ => id) h.count

theorem callTied_putDest {r r' : Dest} (h : CallTied X s) (hk : s.dest? k = some r) (hr : r.goesOn r') :
    CallTied X (putDest k r' s) := by
  refine h.dests_of (m := (putDest k r' s).dram) (Tab.rising_set h.dests k r') fun n k' x hn hd hx => ?_
  by_cases hk' : k' = k
  · subst hk'
    cases hk.symm.trans hx
    exact ⟨r', Tab.get?_set_self .., hr⟩
  · exact ⟨x, (Tab.get?_set_of_ne _ _ hk').trans hx, rfl, rfl, id⟩

theorem callTied_putDest_of_unnamed (h : CallTied X s) (hk : s.unnamed X k) (r' : Dest) : CallTied X (putDest k r' s) := by
  refine h.dests_of (m := (putDest k r' s).dram) (Tab.rising_set h.dests k r') fun n k' x hn hd hx => ?_
  have hne : k' ≠ k := fun e => hk n hn (by rw [hd, e])
  exact ⟨x, (Tab.get?_set_of_ne _ _ hne).trans hx, rfl, rfl, id⟩

theorem callTied_clearDest (h : CallTied X s) (hk : s.unnamed X k) : CallTied X (clearDest k s) := by
  refine h.dests_of (m := (clearDest k s).dram) (Tab.rising_erase h.dests k) fun n k' x hn hd hx => ?_
  have hne : k' ≠ k := fun e => hk n hn (by rw [hd, e])
  exact ⟨x, by rw [Tab.get?_erase, if_neg hne]; exact hx, rfl, rfl, id⟩

theorem callTied_modifyDest {f : Dest → Dest} (h : CallTied X s) (hf : ∀ r : Dest, r.goesOn (f r)) : CallTied X (modifyDest k f s) := by
  unfold modifyDest
  split
  · exact h
  next r hk => exact callTied_putDest h hk (hf r)

theorem callTied_modifyDest_of_unnamed {f : Dest → Dest} (h : CallTied X s) (hk : s.unnamed X k) :
    CallTied X (modifyDest k f s) := by
  unfold modifyDest
  split
  · exact h
  · exact callTied_putDest_of_unnamed h hk _

theorem callTied_putJob {r r' : Job} (h : CallTied X s) (hj : s.job? j = some r) (hr : r'.sessions = r.sessions) :
    CallTied X (putJob j r' s) := by
  refine h.dju (fun _ => rfl) (Tab.rising_set h.jobs j r') h.dests (fun n k x hn hd hx => ⟨x, hx, rfl, rfl, id⟩)
    (fun n i hn hi hsome => ?_) fun i x hx => ?_
  · show (Tab.get? (Tab.set s.dju.jobs j r') i).isSome
    rw [Tab.get?_set]
    split
    · rfl
    · exact hsome
  · have hx' : Tab.get? (Tab.set s.dju.jobs j r') i = some x := hx
    rw [Tab.get?_set] at hx'
    split at hx'
    next hij =>
      cases hx'
      rw [hr, hij]
      exact h.count j r hj
    · exact h.count i x hx'

/-- A job that is not yet in use names no line. -/
theorem CallTied.callers_of_none (h : CallTied X s) (hj : s.job? j = none) : s.callers X j = 0 := by
  rw [State.callers, List.length_eq_zero_iff, List.filter_eq_nil_iff]
  rintro n - hn
  obtain ⟨hX, hjob⟩ : X n = false ∧ (s.line n).job = some j := by simpa using hn
  cases hd : (s.line n).dest with
  | none =>
    rw [(h.free n hX hd).1] at hjob
    cases hjob
  | some k =>
    obtain ⟨-, -, t, -, -, hjob', hsome⟩ := h.call n k hX hd
    cases hjob.symm.trans hjob'
    rw [hj] at hsome
    cases hsome

theorem callTied_putJob_of_none {r' : Job} (h : CallTied X s) (hj : s.job? j = none) (hr : r'.sessions = 0) :
    CallTied X (putJob j r' s) := by
  refine h.dju (fun _ => rfl) (Tab.rising_set h.jobs j r') h.dests (fun n k x hn hd hx => ⟨x, hx, rfl, rfl, id⟩)
    (fun n i hn hi hsome => ?_) fun i x hx => ?_
  · show (Tab.get? (Tab.set s.dju.jobs j r') i).isSome
    rw [Tab.get?_set]
    split
    · rfl
    · exact hsome
  · have hx' : Tab.get? (Tab.set s.dju.jobs j r') i = some x := hx
    rw [Tab.get?_set] at hx'
    split at hx'
    next hij =>
      cases hx'
      rw [hr, hij, h.callers_of_none hj]
    · exact h.count i x hx'

theorem callTied_modifyJob {f : Job → Job} (h : CallTied X s) (hf : ∀ r, (f r).sessions = r.sessions) :
    CallTied X (modifyJob j f s) := by
  unfold modifyJob
  split
  · exact h
  next r hj => exact callTied_putJob h hj (hf r)

/-- No line names a job without sessions, nor a destination of it. -/
theorem CallTied.no_job (h : CallTied X s) {r : Job} (hj : s.job? j = some r) (hr : r.sessions = 0) {m : Line} (hm : X m = false) :
    (s.line m).job ≠ some j := by
  intro hjob
  have hempty := (h.count j r hj).symm.trans hr
  rw [State.callers, List.length_eq_zero_iff, List.filter_eq_nil_iff] at hempty
  exact hempty m (mem_allLines m) (by simp [hm, hjob])

theorem CallTied.unnamed_of_job (h : CallTied X s) {r : Job} (hj : s.job? j = some r) (hr : r.sessions = 0) {t : Dest}
    (hk : s.dest? k = some t) (ht : t.job = j) : s.unnamed X k := fun m hm hd => by
  obtain ⟨-, -, t', ht', -, hjob, -⟩ := h.call m k hm hd
  cases hk.symm.trans ht'
  exact h.no_job hj hr hm (by rw [hjob, ht])

/-- A destination outside a session is named by no line. -/
theorem CallTied.unnamed_of_quiet (h : CallTied X s) {t : Dest} (hk : s.dest? k = some t) (ht : t.calling = false) :
    s.unnamed X k := fun m hm hd => by
  obtain ⟨-, -, t', ht', hcall, -⟩ := h.call m k hm hd
  cases hk.symm.trans ht'
  rw [ht] at hcall
  cases hcall

theorem callTied_clearJob (h : CallTied X s) (hj : ∀ m, X m = false → (s.line m).job ≠ some j) : CallTied X (clearJob j s) := by
  refine h.dju (fun _ => rfl) (Tab.rising_erase h.jobs j) h.dests (fun n k x hn hd hx => ⟨x, hx, rfl, rfl, id⟩)
    (fun n i hn hi hsome => ?_) fun i x hx => ?_
  · show (Tab.get? (Tab.erase s.dju.jobs j) i).isSome
    rw [Tab.get?_erase, if_neg fun e => hj n hn (by rw [hi, e])]
    exact hsome
  · have hx' : Tab.get? (Tab.erase s.dju.jobs j) i = some x := hx
    rw [Tab.get?_erase] at hx'
    split at hx'
    · cases hx'
    · exact h.count i x hx'

/-- One element less passes a test that only it fails. -/
theorem length_filter_except {α : Type} {l : List α} {a : α} {p q : α → Bool} (hl : l.Nodup) (ha : a ∈ l) (hp : p a = true)
    (hq : q a = false) (hpq : ∀ b, b ≠ a → q b = p b) : (l.filter p).length = (l.filter q).length + 1 := by
  induction l with
  | nil => cases ha
  | cons b l ih =>
    obtain ⟨hb, hl⟩ := List.nodup_cons.1 hl
    by_cases hba : b = a
    · subst hba
      have hrest : l.filter q = l.filter p := List.filter_congr fun c hc => hpq c fun e => hb (e ▸ hc)
      rw [List.filter_cons_of_pos hp, List.filter_cons_of_neg (by simp [hq]), hrest, List.length_cons]
    · have hih := ih hl ((List.mem_cons.1 ha).resolve_left (Ne.symm hba))
      rw [List.filter_cons, List.filter_cons, hpq b hba]
      split
      · rw [List.length_cons, List.length_cons, hih]
      · exact hih

/-- The session of line `n` is taken off its job's count; from then on the line is left out. -/
theorem CallTied.leave {t : Dest} {r r' : Job} (h : CallTied X s) (hX : X n = false) (hd : (s.line n).dest = some k)
    (hk : s.dest? k = some t) (hj : s.job? t.job = some r) (hr : r'.sessions = r.sessions - 1) :
    CallTied (withLine X n) (putJob t.job r' s) := by
  have hout {m : Line} (hm : withLine X n m = false) : X m = false := (withLine_false_iff.1 hm).1
  obtain ⟨-, -, t', ht', -, hjob, -⟩ := h.call n k hX hd
  cases hk.symm.trans ht'
  have hself : s.callers X t.job = s.callers (withLine X n) t.job + 1 := by
    refine length_filter_except (List.nodup_finRange 8) (mem_allLines n) (by simp [hX, hjob]) (by simp) fun m hm => ?_
    rw [withLine_of_ne hm]
  have hother {i : Nat} (hi : i ≠ t.job) : s.callers (withLine X n) i = s.callers X i := by
    unfold State.callers
    congr 2
    funext m
    by_cases hm : m = n
    · subst hm
      simp [hjob, Ne.symm hi]
    · rw [withLine_of_ne hm]
  refine ⟨Tab.rising_set h.jobs _ r', h.dests, fun m hm => h.free m (hout hm), fun m i hm hdm => ?_,
    fun m m' i i' hm hm' => h.apart m m' i i' (hout hm) (hout hm'), fun i x hx => ?_⟩
  · obtain ⟨hdir, hin, u, hu, hcall, hju, hsome⟩ := h.call m i (hout hm) hdm
    refine ⟨hdir, hin, u, hu, hcall, hju, ?_⟩
    show (Tab.get? (Tab.set s.dju.jobs t.job r') u.job).isSome
    rw [Tab.get?_set]
    split
    · rfl
    · exact hsome
  · have hx' : Tab.get? (Tab.set s.dju.jobs t.job r') i = some x := hx
    show x.sessions = s.callers (withLine X n) i
    rw [Tab.get?_set] at hx'
    split at hx'
    next hi =>
      cases hx'
      rw [hr, hi, h.count _ r hj, hself]
      rfl
    next hi =>
      rw [hother hi]
      exact h.count i x hx'

end

end Sys2Proof.Machine
end

section
/-! PROOFS. The laws of the segments (R68) and of the outbound sessions (R91, R102) together, each asked for or not: what the two
speak of, the changes that leave both as they were, and what events, commands, bytes, handings, page records and documents do to
them. -/

namespace Sys2Proof.Machine

set_option Elab.async false

/-! ## The two laws -/

/-- The law of the segments, with the page records in order. -/
structure SegTied (s : State) : Prop where
  pages : Tab.rising s.psm.pages = true
  segs : s.rgw.state ≠ .pass → s.segments.Perm (List.range s.cfg.segCount)

/-- The law of the segments if `P`, and if `Q` that of the outbound sessions without the lines of `X`. -/
structure Tied (P Q : Prop) (X : Line → Bool) (s : State) : Prop where
  segs : P → SegTied s
  calls : Q → CallTied X s

/-- What the law of the segments speaks of. -/
def State.segView (s : State) := (s.rgw.state, s.rgw.copy, s.psm.pages, s.psm.stack)

/-- What the law of the outbound sessions speaks of. -/
def State.callView (s : State) := (s.lne.lines, s.dju.jobs, s.dju.dests)

section

variable {P Q : Prop} {X : Line → Bool} {s t : State}

theorem segmentLaw_iff (hord : s.ordered = true) : s.segmentLaw = true ↔ SegTied s := by
  obtain ⟨⟨⟨⟨hpages, -⟩, -⟩, -⟩, -⟩ : (((_ ∧ _) ∧ _) ∧ _) ∧ _ := by simpa only [State.ordered, Bool.and_eq_true] using hord
  rw [State.segmentLaw, Bool.or_eq_true, List.isPerm_iff, beq_iff_eq]
  exact ⟨fun h => ⟨hpages, h.resolve_left⟩, fun h => or_iff_not_imp_left.2 h.segs⟩

theorem SegTied.same (h : SegTied s) (e : t.segView = s.segView) : SegTied t := by
  simp only [State.segView, Prod.mk.injEq] at e
  obtain ⟨hstate, hcopy, hpages, hstack⟩ := e
  refine ⟨by rw [hpages]; exact h.pages, fun hp => ?_⟩
  rw [State.segments, State.cfg, hpages, hstack, hcopy]
  exact h.segs (by rw [← hstate]; exact hp)

/-- Segments may move between the stack and the chains. -/
theorem SegTied.moved (h : SegTied s) (hrgw : t.rgw.state = s.rgw.state ∧ t.rgw.copy = s.rgw.copy)
    (hpages : Tab.rising t.psm.pages = true) (hperm : t.segments.Perm s.segments) : SegTied t where
  pages := hpages
  segs hp := by
    rw [State.cfg, hrgw.2]
    exact hperm.trans (h.segs (by rw [← hrgw.1]; exact hp))

theorem SegTied.wanes {w : Wane} (h : SegTied s) (e : Wanes w s t) : SegTied t := by
  obtain ⟨-, -, -, -, -, hstate, hcopy, -, -⟩ := e.fixed
  obtain ⟨hpages, hperm⟩ := e.segs h.pages
  exact h.moved ⟨hstate, hcopy⟩ hpages hperm

theorem CallTied.view (h : CallTied X s) (e : t.callView = s.callView) : CallTied X t := by
  simp only [State.callView, Prod.mk.injEq] at e
  exact h.same e.1 e.2.1 e.2.2

theorem Tied.same (h : Tied P Q X s) (hsegs : t.segView = s.segView) (hcalls : t.callView = s.callView) : Tied P Q X t :=
  ⟨fun hp => (h.segs hp).same hsegs, fun hq => (h.calls hq).view hcalls⟩

/-- A change that only the law of the segments could mind, and does not. -/
theorem Tied.wanes {w : Wane} (h : Tied P Q X s) (e : Wanes w s t) (hcalls : t.callView = s.callView) : Tied P Q X t :=
  ⟨fun hp => (h.segs hp).wanes e, fun hq => (h.calls hq).view hcalls⟩

/-- A change that only the law of the outbound sessions could mind. -/
theorem Tied.mapCalls {Y : Line → Bool} (h : Tied P Q X s) (hsegs : t.segView = s.segView)
    (hcalls : Q → CallTied X s → CallTied Y t) : Tied P Q Y t :=
  ⟨fun hp => (h.segs hp).same hsegs, fun hq => hcalls hq (h.calls hq)⟩

theorem Tied.foldl {ι : Type} {l : List ι} {f : State → ι → State} (hf : ∀ t i, Tied P Q X t → Tied P Q X (f t i))
    (h : Tied P Q X s) : Tied P Q X (l.foldl f s) := by
  induction l generalizing s with
  | nil => exact h
  | cons i l ih => exact ih (hf s i h)

theorem tied_ite {p : Prop} [Decidable p] {u : State} (ht : Tied P Q X t) (hu : Tied P Q X u) :
    Tied P Q X (if p then t else u) := by
  split
  · exact ht
  · exact hu

/-! ## Bytes, events and commands -/

theorem tied_store {a : Nat} {bs : List Byte} (h : Tied P Q X s) : Tied P Q X (s.store a bs) := h.same rfl rfl

theorem tied_ceu {c : Ceu} {m : Mem} (h : Tied P Q X s) : Tied P Q X { s with ceu := c, dram := m } := h.same rfl rfl

theorem tied_deliverEvent {e : Event} (h : Tied P Q X s) : Tied P Q X (deliverEvent e s) := by
  rw [deliverEvent_frame]
  exact tied_ceu h

theorem tied_postTagged {kind : EventKind} {src : SourceKind} {idx tag code value : Nat} (h : Tied P Q X s) :
    Tied P Q X (postTagged kind src idx tag code value s) := by
  obtain ⟨c, m, heq, -⟩ := postTagged_frame kind src idx tag code value s
  rw [heq]
  exact tied_ceu h

theorem tied_post {kind : EventKind} {src : SourceKind} {idx code value : Nat} (h : Tied P Q X s) :
    Tied P Q X (post kind src idx code value s) := tied_postTagged h

theorem tied_writeRecord {e : Event} (h : Tied P Q X s) : Tied P Q X (writeRecord e s) := h.same rfl rfl

theorem tied_drainQueue {es : List Event} (h : Tied P Q X s) : Tied P Q X (drainQueue es s) := by
  induction es generalizing s with
  | nil => exact tied_ceu h
  | cons e es ih => exact tied_ite (tied_ceu h) (tied_ite (tied_ceu h) (ih (tied_writeRecord h)))

theorem tied_serveQueue (h : Tied P Q X s) : Tied P Q X (serveQueue s) := by
  unfold serveQueue placeWithdrawn
  have hdrain := tied_drainQueue (es := s.ceu.queue) h
  split
  · exact hdrain
  · exact tied_deliverEvent (tied_ceu hdrain)

theorem tied_finishCommand {tag : Nat} {r : Reply} (h : Tied P Q X s) : Tied P Q X (finishCommand tag r s) := by
  obtain ⟨c, m, heq⟩ := finishCommand_frame tag r s
  rw [heq]
  exact tied_ceu h

theorem tied_carryOut {sl : Slot} {work : State → State × Reply} (h : Tied P Q X s)
    (hw : ∀ t, Tied P Q X t → Tied P Q X (work t).1) : Tied P Q X (carryOut sl work s) :=
  tied_finishCommand (hw _ (tied_ceu h))

theorem tied_checkedBody {need : Nat} {sl : Slot} {body : Slot → State → State × Reply} (h : Tied P Q X s)
    (hb : Tied P Q X (body sl s).1) : Tied P Q X (checkedBody need sl body s).1 := by
  unfold checkedBody
  split
  · exact h
  · split
    · exact h
    · exact hb

theorem tied_takeIf {kind need : Nat} {mine : Slot → Bool} {body : Slot → State → State × Reply} (h : Tied P Q X s)
    (hb : ∀ sl t, Tied P Q X t → Tied P Q X (body sl t).1) : Tied P Q X (takeIf kind need mine body s) :=
  tied_ite (tied_carryOut h fun t ht => tied_checkedBody ht (hb _ t ht)) h

theorem tied_take {kind need : Nat} {body : Slot → State → State × Reply} (h : Tied P Q X s)
    (hb : ∀ sl t, Tied P Q X t → Tied P Q X (body sl t).1) : Tied P Q X (take kind need body s) := tied_takeIf h hb

theorem tied_occasion (h : Tied P Q X s) : Tied P Q X (occasion s) := h.same rfl rfl

theorem tied_writePathStatus (h : Tied P Q X s) : Tied P Q X (writePathStatus s) := h.same rfl rfl

theorem tied_writeLinkStatus (h : Tied P Q X s) : Tied P Q X (writeLinkStatus s) := tied_ite h (tied_store h)

theorem tied_sli {x : Sli} (h : Tied P Q X s) : Tied P Q X { s with sli := x } := h.same rfl rfl

theorem tied_chg {x : Chg} (h : Tied P Q X s) : Tied P Q X { s with chg := x } := h.same rfl rfl

theorem tied_scn {x : Scn} (h : Tied P Q X s) : Tied P Q X { s with scn := x } := h.same rfl rfl

theorem tied_prn {x : Prn} (h : Tied P Q X s) : Tied P Q X { s with prn := x } := h.same rfl rfl

theorem tied_hand {n : Line} {k : TxKind} (h : Tied P Q X s) : Tied P Q X (hand n k s) := tied_ite (tied_sli h) (tied_sli h)

theorem tied_placeHanding (h : Tied P Q X s) : Tied P Q X (placeHanding s) := by
  unfold placeHanding
  split
  · exact h
  · exact tied_ite (tied_sli h) h

/-! ## Page records and segments -/

/-- A change of the page store, of documents and of DRAM alone that loses no segment. -/
theorem Tied.pages {w : Wane} (h : Tied P Q X s) (e : TakesPages s t) (hw : Wanes w s t) : Tied P Q X t := by
  obtain ⟨x, docs, c, m, heq⟩ := e
  exact h.wanes hw (by rw [heq]; rfl)

theorem takesPages_putPage (p : Nat) (r : PageRec) (s : State) : TakesPages s (putPage p r s) := ⟨_, _, _, _, rfl⟩

theorem takesPages_freeCountChanged (s : State) : TakesPages s (freeCountChanged s) := by
  obtain ⟨a, c, m, heq, -⟩ := freeCountChanged_frame s
  exact ⟨_, _, c, m, heq⟩

theorem takesPages_modifyPage (p : Nat) (f : PageRec → PageRec) (s : State) : TakesPages s (modifyPage p f s) := by
  unfold modifyPage
  split
  · exact TakesPages.refl s
  · exact takesPages_putPage ..

theorem takesPages_giveSegment {p : Nat} (hg : giveSegment p s = some t) : TakesPages s t := by
  unfold giveSegment at hg
  split at hg
  next seg rest r _ _ =>
    cases hg
    refine TakesPages.trans ?_ ((takesPages_putPage p _ _).trans (takesPages_freeCountChanged _))
    split <;> exact ⟨_, _, _, _, rfl⟩
  · cases hg

theorem takesPages_trimPage (p lc : Nat) (s : State) : TakesPages s (trimPage p lc s) := by
  cases hp : s.page? p with
  | none => rw [trimPage_of_none hp]; exact TakesPages.refl s
  | some r =>
    rcases Nat.lt_or_ge (segsFor lc) r.chain.length with hlong | hshort
    · obtain ⟨ps, a, c, m, heq, -⟩ := trimPage_spec hp hlong.le
      exact ⟨_, _, _, _, heq⟩
    · rw [trimPage_of_short hp hshort]; exact TakesPages.refl s

theorem takesPages_writeStream (chain : List Nat) (o : Nat) (bs : List Byte) (s : State) :
    TakesPages s (writeStream chain o bs s) := by
  have hstretches : ∀ (l : List Nat) (a : Nat) (bs : List Byte) (u : State), TakesPages u (writeStretches l a bs u) := by
    intro l
    induction l with
    | nil => exact fun _ _ u => TakesPages.refl u
    | cons seg l ih => exact fun a bs u => TakesPages.trans ⟨_, _, _, _, rfl⟩ (ih 0 _ _)
  unfold writeStream
  split
  · exact TakesPages.refl s
  · exact hstretches ..

section

variable {p d lc n : Nat}

theorem tied_putPage {r r' : PageRec} (hp : s.page? p = some r) (hc : r'.chain = r.chain) (h : Tied P Q X s) :
    Tied P Q X (putPage p r' s) :=
  h.pages (takesPages_putPage ..) (wanes_putPage (w := ⟨false, none, none⟩) hp hc (Wanes.refl _ s))

theorem tied_modifyPage {f : PageRec → PageRec} (hf : ∀ r, (f r).chain = r.chain) (h : Tied P Q X s) :
    Tied P Q X (modifyPage p f s) :=
  h.pages (takesPages_modifyPage ..) (wanes_modifyPage (w := ⟨false, none, none⟩) hf (Wanes.refl _ s))

theorem tied_markTruncated (h : Tied P Q X s) : Tied P Q X (markTruncated p s) := tied_modifyPage (fun _ => rfl) h

theorem tied_giveSegment (hg : giveSegment p s = some t) (h : Tied P Q X s) : Tied P Q X t :=
  h.pages (takesPages_giveSegment hg) (wanes_giveSegment (w := ⟨false, none, none⟩) hg (Wanes.refl _ s))

theorem tied_giveSegments (h : Tied P Q X s) : Tied P Q X (giveSegments p n s).1 := by
  induction n generalizing s with
  | zero => exact h
  | succ n ih =>
    rw [giveSegments]
    split
    · exact h
    next t hg => exact ih (tied_giveSegment hg h)

theorem tied_writeStream {chain : List Nat} {o : Nat} {bs : List Byte} (h : Tied P Q X s) :
    Tied P Q X (writeStream chain o bs s) :=
  h.pages (takesPages_writeStream ..) (wanes_writeStream (w := ⟨false, none, none⟩) (Wanes.refl _ s))

theorem tied_sealRecord {lines : Nat} (h : Tied P Q X s) : Tied P Q X (sealRecord p lc lines s) :=
  tied_modifyPage (fun _ => rfl)
    (h.pages (takesPages_trimPage ..) (wanes_trimPage (w := ⟨false, none, none⟩) (Wanes.refl _ s)))

/-! ## Documents -/

theorem tied_putDoc {r : Doc} (h : Tied P Q X s) : Tied P Q X (putDoc d r s) := h.same rfl rfl

theorem tied_clearDoc (h : Tied P Q X s) : Tied P Q X (clearDoc d s) := h.same rfl rfl

theorem tied_modifyDoc {f : Doc → Doc} (h : Tied P Q X s) : Tied P Q X (modifyDoc d f s) := by
  unfold modifyDoc
  split
  · exact h
  · exact tied_putDoc h

theorem tied_testDocFree (h : Tied P Q X s) : Tied P Q X (testDocFree d s) := by
  unfold testDocFree
  split
  · exact h
  · exact tied_ite (tied_clearDoc h) h

theorem tied_testPageFree (h : Tied P Q X s) : Tied P Q X (testPageFree p s) :=
  h.pages (takesPages_testPageFree p s) (wanes_testPageFree (w := ⟨false, none, none⟩) (Wanes.refl _ s))

theorem tied_changeSendHolds {δ : Int} (h : Tied P Q X s) : Tied P Q X (changeSendHolds p δ s) :=
  h.pages (takesPages_changeSendHolds p δ s) (wanes_changeSendHolds (w := ⟨false, none, none⟩) (Wanes.refl _ s))

theorem tied_changePrintHolds {δ : Int} (h : Tied P Q X s) : Tied P Q X (changePrintHolds p δ s) := by
  unfold changePrintHolds
  split
  · exact h
  next r hp =>
    have hput := tied_putPage (r' := { r with printHolds := ((r.printHolds : Int) + δ).toNat }) hp rfl h
    exact tied_ite (tied_testPageFree hput) hput

theorem tied_abandonPage (h : Tied P Q X s) : Tied P Q X (abandonPage p s) := by
  unfold abandonPage
  split
  · exact h
  next r hp =>
    exact tied_modifyDoc (h.pages (takesPages_releasePage p r s)
      (wanes_releasePage (w := ⟨false, none, none⟩) hp (Wanes.refl _ s)))

/-- A new page starts without a segment. -/
theorem tied_startPage {dir : Dir} {cls : WidthClass} {res : Resolution} (hs : startPage d dir cls res s = some (p, t))
    (h : Tied P Q X s) : Tied P Q X t := by
  have hview : t.callView = s.callView ∧ t.rgw = s.rgw ∧ ∃ r, t.psm.pages = Tab.set s.psm.pages p r := by
    unfold startPage at hs
    split at hs
    · cases hs
      exact ⟨rfl, rfl, _, rfl⟩
    · cases hs
  obtain ⟨hcalls, hrgw, r, hpages⟩ := hview
  refine ⟨fun hp => (h.segs hp).moved ⟨by rw [hrgw], by rw [hrgw]⟩ ?_ (segments_startPage hs), fun hq => (h.calls hq).view hcalls⟩
  rw [hpages]
  exact Tab.rising_set (h.segs hp).pages p r

end

end

end Sys2Proof.Machine
end

section
/-! PROOFS. The laws of the segments and of the outbound sessions through what the DJU does with destinations and jobs (R91 to R97)
and the LNE with its lines (R127 to R135), and through the end of a FILLING page (R73, R77). -/

namespace Sys2Proof.Machine

set_option Elab.async false

section

variable {P Q : Prop} {X : Line → Bool} {s t : State} {n : Line} {k j : Nat}

/-! ## Destinations and jobs (R91 to R97) -/

theorem unnamed_of_lines (h : s.unnamed X k) (e : t.lne.lines = s.lne.lines) : t.unnamed X k := by
  have hline (m : Line) : t.line m = s.line m := by rw [State.line, e]; rfl
  exact fun m hm => by rw [hline]; exact h m hm

theorem tied_modifyDest {f : Dest → Dest} (hf : ∀ r : Dest, r.goesOn (f r)) (h : Tied P Q X s) :
    Tied P Q X (modifyDest k f s) := by
  refine h.mapCalls ?_ fun _ hc => callTied_modifyDest hc hf
  obtain ⟨ds, m, heq⟩ := modifyDest_frame k f s
  rw [heq]
  rfl

theorem tied_modifyDest_of_unnamed {f : Dest → Dest} (hk : Q → s.unnamed X k) (h : Tied P Q X s) :
    Tied P Q X (modifyDest k f s) := by
  refine h.mapCalls ?_ fun hq hc => callTied_modifyDest_of_unnamed hc (hk hq)
  obtain ⟨ds, m, heq⟩ := modifyDest_frame k f s
  rw [heq]
  rfl

theorem tied_modifyJob {f : Job → Job} (hf : ∀ r, (f r).sessions = r.sessions) (h : Tied P Q X s) :
    Tied P Q X (modifyJob j f s) := by
  refine h.mapCalls ?_ fun _ hc => callTied_modifyJob hc hf
  unfold modifyJob
  split <;> rfl

theorem takesPages_lines (e : TakesPages s t) : t.lne.lines = s.lne.lines := by
  obtain ⟨x, docs, c, m, heq⟩ := e
  rw [heq]

theorem tied_takeHoldsOff (h : Tied P Q X s) : Tied P Q X (takeHoldsOff k s) :=
  h.pages (takesPages_takeHoldsOff k s) (wanes_takeHoldsOff (w := ⟨false, none, none⟩) (Wanes.refl _ s))

theorem sessions_count (st : DestState) (r : Job) : (r.count st).sessions = r.sessions := by
  cases st <;> rfl

/-- A destination takes a final state: SENT, which ends no session, or another one outside any session. -/
theorem tied_finishDest {st : DestState} (hk : st ≠ .sent → Q → s.unnamed X k) (h : Tied P Q X s) :
    Tied P Q X (finishDest k st s) := by
  unfold finishDest
  split
  · exact h
  next r hr =>
    refine tied_postTagged (tied_modifyJob (sessions_count st) (h.mapCalls rfl fun hq hc => ?_))
    by_cases hst : st = .sent
    · subst hst
      exact callTied_putDest hc hr ⟨rfl, rfl, fun _ => rfl⟩
    · exact callTied_putDest_of_unnamed hc (hk hst hq) _

theorem tied_destSent (h : Tied P Q X s) : Tied P Q X (destSent k s) := tied_finishDest (fun hne => absurd rfl hne) h

theorem tied_destGivenUp {st : DestState} (hk : Q → s.unnamed X k) (h : Tied P Q X s) : Tied P Q X (destGivenUp k st s) :=
  tied_finishDest (fun _ hq => unnamed_of_lines (hk hq) (takesPages_lines (takesPages_takeHoldsOff k s))) (tied_takeHoldsOff h)

theorem tied_clearDests {l : List Nat} (hl : Q → ∀ k ∈ l, s.unnamed X k) (h : Tied P Q X s) :
    Tied P Q X (l.foldl (fun s k => clearDest k s) s) := by
  induction l generalizing s with
  | nil => exact h
  | cons k l ih =>
    exact ih (fun hq i hi => unnamed_of_lines (hl hq i (List.mem_cons_of_mem _ hi)) rfl)
      (h.mapCalls rfl fun hq hc => callTied_clearDest hc (hl hq k List.mem_cons_self))

theorem lines_clearDests (l : List Nat) (s : State) : (l.foldl (fun s k => clearDest k s) s).lne = s.lne := by
  induction l generalizing s with
  | nil => rfl
  | cons k l ih => exact (ih (clearDest k s)).trans rfl

/-- A job that ends has no session, so that no line names it or a destination of it. -/
theorem tied_endJob {r : Job} (hj : s.job? j = some r) (hr : r.sessions = 0) (h : Tied P Q X s) : Tied P Q X (endJob j r s) := by
  obtain ⟨c, m, heq, -⟩ := postTagged_frame .jobDone .job j r.tag r.state.doneCode r.doneValue s
  have hpost : Tied P Q X (postTagged .jobDone .job j r.tag r.state.doneCode r.doneValue s) := tied_postTagged h
  unfold endJob
  dsimp only
  rw [heq] at hpost ⊢
  refine tied_testDocFree (tied_modifyDoc (Tied.mapCalls (tied_clearDests (fun hq k hk => ?_) hpost) rfl fun hq hc => ?_))
  · obtain ⟨e, he, rfl⟩ := List.mem_map.1 hk
    obtain ⟨hmem, hjob⟩ := List.mem_filter.1 he
    exact (h.calls hq).unnamed_of_job hj hr (Tab.get?_of_mem (h.calls hq).dests hmem) (by simpa using hjob)
  · refine callTied_clearJob hc fun i hi => ?_
    rw [State.line, lines_clearDests]
    exact (h.calls hq).no_job hj hr hi

theorem jobIsFinal_sessions {r : Job} (hj : s.job? j = some r) (h : s.jobIsFinal j = true) : r.sessions = 0 := by
  unfold State.jobIsFinal at h
  rw [hj] at h
  exact of_decide_eq_true (Bool.and_eq_true_iff.1 h).1

theorem tied_testJobEnd (h : Tied P Q X s) : Tied P Q X (testJobEnd j s) := by
  unfold testJobEnd
  split
  · exact h
  next r hj =>
    split
    next hfinal => exact tied_endJob hj (jobIsFinal_sessions hj hfinal) h
    · exact h

theorem tied_destConfirms (h : Tied P Q X s) : Tied P Q X (destConfirms k s) := by
  unfold destConfirms
  split
  · exact h
  next r hr =>
    have hput : Tied P Q X (putDest k { r with confirmed := r.confirmed + 1 } s) :=
      h.mapCalls rfl fun _ hc => callTied_putDest hc hr ⟨rfl, rfl, id⟩
    dsimp only
    split
    · exact hput
    · exact tied_changeSendHolds hput

theorem tied_toRetryWait {a : Nat} (hk : Q → s.unnamed X k) (h : Tied P Q X s) : Tied P Q X (toRetryWait k a s) := by
  unfold toRetryWait
  generalize nextGen s.dju.gen = g
  exact tied_modifyDest_of_unnamed (fun hq => unnamed_of_lines (hk hq) rfl) (h.same rfl rfl)

/-- A destination whose session is over moves on. -/
theorem tied_moveDest {cause : Cause} (hk : Q → s.unnamed X k) (h : Tied P Q X s) : Tied P Q X (moveDest k cause s) := by
  unfold moveDest
  split
  · exact h
  next d hd =>
    have hput (a : Nat) : Tied P Q X (putDest k { d with attempts := a } s) :=
      h.mapCalls rfl fun hq hc => callTied_putDest_of_unnamed hc (hk hq) _
    have hk' (a : Nat) (hq : Q) : (putDest k { d with attempts := a } s).unnamed X k := unnamed_of_lines (hk hq) rfl
    refine tied_ite h (tied_ite (tied_destGivenUp (hk' _) (hput _)) (tied_ite (tied_modifyDest_of_unnamed (hk' _) (hput _))
      (tied_ite (tied_destGivenUp (hk' _) (hput _)) (tied_ite (tied_ite (tied_toRetryWait (hk' _) (hput _))
        (tied_destGivenUp (hk' _) (hput _))) (hput _)))))

theorem tied_shiftNextTry {change : Int} (h : Tied P Q X s) : Tied P Q X (shiftNextTry change s) :=
  h.foldl fun _ _ => tied_modifyDest fun _ => ⟨rfl, rfl, id⟩

/-! ## Lines (R127 to R135) -/

theorem SetsLine.segView {r : LineRec} (e : SetsLine n r s t) : t.segView = s.segView := by
  obtain ⟨m, rfl, -⟩ := e
  rfl

theorem Tied.setsLine {r : LineRec} (h : Tied P Q X s) (e : SetsLine n r s t) (hr : (s.line n).goesOn r) : Tied P Q X t :=
  h.mapCalls e.segView fun _ hc => hc.setsLine e hr

theorem tied_modifyLine {f : LineRec → LineRec} (hf : ∀ r : LineRec, r.goesOn (f r)) (h : Tied P Q X s) :
    Tied P Q X (modifyLine n f s) := h.setsLine (setsLine_modifyLine n f s) (hf _)

/-- A line enters a state in session. -/
theorem tied_enterState {st : LineState} {f : LineRec → LineRec} (hst : st.inSession = true)
    (hf : ∀ r : LineRec, (f r).dest = r.dest ∧ (f r).job = r.job ∧ (f r).dir = r.dir) (h : Tied P Q X s) :
    Tied P Q X (enterState n st f s) :=
  tied_modifyLine (fun r => ⟨(hf r).1, (hf r).2.1, (hf r).2.2, fun _ => hst⟩) h

theorem tied_restartTimer (h : Tied P Q X s) : Tied P Q X (restartTimer n s) :=
  tied_modifyLine (fun _ => ⟨rfl, rfl, rfl, id⟩) h

theorem tied_clearLine {cause : Cause} (h : Tied P Q X s) : Tied P Q X (clearLine n cause s) :=
  tied_enterState rfl (fun _ => ⟨rfl, rfl, rfl⟩) (tied_hand h)

theorem tied_abandonLine {cause : Cause} (h : Tied P Q X s) : Tied P Q X (abandonLine n cause s) :=
  tied_clearLine (tied_hand h)

theorem tied_sendPartial {p : Nat} (h : Tied P Q X s) : Tied P Q X (sendPartial n p s) :=
  tied_enterState rfl (fun _ => ⟨rfl, rfl, rfl⟩) h

theorem tied_announcePage {d : Doc} {p : Nat} {r : PageRec} (h : Tied P Q X s) : Tied P Q X (announcePage n d p r s) :=
  tied_ite h (tied_modifyLine (fun _ => ⟨rfl, rfl, rfl, id⟩) (tied_hand h))

theorem tied_takePage {d : Doc} {i p : Nat} {r : PageRec} (h : Tied P Q X s) : Tied P Q X (takePage n d i p r s) :=
  have hpage := tied_modifyLine (n := n) (f := fun l => { l with page := some p, pagePos := i, rounds := 0 })
    (fun _ => ⟨rfl, rfl, rfl, id⟩) h
  tied_ite (tied_abandonLine hpage) (tied_sendPartial (tied_announcePage hpage))

theorem tied_waitForData (h : Tied P Q X s) : Tied P Q X (waitForData n s) :=
  tied_ite h (tied_enterState rfl (fun _ => ⟨rfl, rfl, rfl⟩) h)

theorem tied_allPagesSent (h : Tied P Q X s) : Tied P Q X (allPagesSent n s) := by
  have hfirst : Tied P Q X (if (s.line n).lastEnd = some .docEnd then s else hand n .abandon s) := tied_ite h (tied_hand h)
  unfold allPagesSent
  dsimp only
  refine tied_clearLine ?_
  split
  · exact hfirst
  · exact tied_destSent hfirst

theorem tied_nextPlace (h : Tied P Q X s) : Tied P Q X (nextPlace n s) := by
  unfold nextPlace
  split
  · split
    · split
      · exact tied_ite (tied_takePage h) (tied_waitForData h)
      · exact tied_waitForData h
    · exact tied_ite (tied_allPagesSent h) (tied_waitForData h)
  · exact h

theorem tied_recheckLines {d : Nat} (h : Tied P Q X s) : Tied P Q X (recheckLines d s) :=
  h.foldl fun _ _ ht => tied_ite (tied_nextPlace ht) ht

theorem tied_handPartialEnd (h : Tied P Q X s) : Tied P Q X (handPartialEnd n s) :=
  tied_enterState rfl (fun _ => ⟨rfl, rfl, rfl⟩) (tied_hand h)

theorem tied_blockFinished (h : Tied P Q X s) : Tied P Q X (blockFinished n s) :=
  have hdone := tied_modifyLine (n := n) (f := fun r => { r with inFlight := false }) (fun _ => ⟨rfl, rfl, rfl, id⟩) h
  tied_ite (tied_ite (tied_handPartialEnd hdone) (tied_restartTimer hdone)) h

theorem tied_fillBlock (h : Tied P Q X s) : Tied P Q X (fillBlock n s) := by
  unfold fillBlock
  dsimp only
  split
  · exact tied_ite (tied_hand (tied_modifyLine (fun _ => ⟨rfl, rfl, rfl, id⟩) (tied_sli h))) h
  · exact h

theorem tied_endRequested (h : Tied P Q X s) : Tied P Q X (endRequested n s) := by
  unfold endRequested
  split
  · exact tied_clearLine h
  · exact tied_clearLine h
  · exact tied_abandonLine h
  · exact tied_abandonLine h
  · exact tied_abandonLine h
  · exact tied_abandonLine h
  · exact h

theorem tied_onSeized (h : Tied P Q X s) : Tied P Q X (onSeized n s) :=
  tied_ite (tied_enterState rfl (fun _ => ⟨rfl, rfl, rfl⟩) (tied_hand h)) h

theorem tied_onCallFailed {cause : Cause} (h : Tied P Q X s) : Tied P Q X (onCallFailed n cause s) :=
  tied_ite (tied_clearLine h) h

theorem tied_answerCall (h : Tied P Q X s) : Tied P Q X (answerCall n s) := by
  unfold answerCall
  split
  · exact h
  · exact tied_chg h

theorem tied_onAnswered (h : Tied P Q X s) : Tied P Q X (onAnswered n s) := by
  have hanswer := tied_answerCall (n := n) (tied_modifyLine (n := n)
    (f := fun r => { r with answered := true, answerTime := s.tenthsNow }) (fun _ => ⟨rfl, rfl, rfl, id⟩) h)
  refine tied_ite (tied_nextPlace ?_) h
  split
  · exact hanswer
  · exact tied_modifyDest (fun _ => ⟨rfl, rfl, fun _ => rfl⟩) hanswer

theorem tied_onPartialOk (h : Tied P Q X s) : Tied P Q X (onPartialOk n s) :=
  have hrounds := tied_modifyLine (n := n) (f := fun r => { r with rounds := 0 }) (fun _ => ⟨rfl, rfl, rfl, id⟩) h
  tied_ite (tied_ite (tied_sendPartial hrounds) (tied_enterState rfl (fun _ => ⟨rfl, rfl, rfl⟩) hrounds)) h

theorem tied_onRepeat {map : BitVec 64} (h : Tied P Q X s) : Tied P Q X (onRepeat n map s) := by
  have hrounds := tied_modifyLine (n := n) (f := fun r => { r with rounds := (s.line n).rounds + 1 })
    (fun _ => ⟨rfl, rfl, rfl, id⟩) h
  refine tied_ite (tied_ite (tied_abandonLine hrounds) ?_) h
  split
  · exact tied_handPartialEnd hrounds
  · exact tied_enterState rfl (fun _ => ⟨rfl, rfl, rfl⟩) hrounds

theorem tied_onPageConfirmed (h : Tied P Q X s) : Tied P Q X (onPageConfirmed n s) := by
  refine tied_ite (tied_nextPlace (tied_modifyLine (fun _ => ⟨rfl, rfl, rfl, id⟩) ?_)) h
  split
  · exact h
  · exact tied_destConfirms h

theorem tied_onPageRejected (h : Tied P Q X s) : Tied P Q X (onPageRejected n s) := tied_ite (tied_clearLine h) h

/-! ## The end of a FILLING page (R73, R77) -/

theorem tied_giveUpPage {d p : Nat} (h : Tied P Q X s) : Tied P Q X (giveUpPage d p s) := tied_recheckLines (tied_abandonPage h)

theorem tied_sealPage {p lc lines : Nat} (h : Tied P Q X s) : Tied P Q X (sealPage p lc lines s) := by
  unfold sealPage
  split
  · exact h
  · exact tied_ite (tied_giveUpPage h) (tied_testPageFree (tied_occasion (tied_recheckLines (tied_sealRecord h))))

end

end Sys2Proof.Machine
end

section
/-! PROOFS. The laws of the segments and of the outbound sessions through the SCN: its ring, its pages and their ends (R38 to R59). -/

namespace Sys2Proof.Machine

set_option Elab.async false

section

variable {P Q : Prop} {X : Line → Bool} {s : State}

/-! ## The raw scan ring (R14 to R16, R38 to R42) -/

theorem tied_passWrite {a : BusAccess} (h : Tied P Q X s) : Tied P Q X (passWrite a s) := by
  obtain ⟨y, b, c, m, heq⟩ := passWrite_frame a s
  rw [heq]
  exact h.same rfl rfl

theorem tied_releaseScanHold (h : Tied P Q X s) : Tied P Q X (releaseScanHold s) := by
  obtain ⟨x, y, b, c, m, heq, -⟩ := releaseScanHold_frame s
  rw [heq]
  exact h.same rfl rfl

theorem tied_advanceTake (h : Tied P Q X s) : Tied P Q X (advanceTake s) := tied_releaseScanHold (tied_scn h)

theorem tied_voidStarted (h : Tied P Q X s) : Tied P Q X (voidStarted s) := tied_ite (tied_scn h) h

/-! ## The end of a scan and its faults (R56 to R58) -/

theorem tied_endScan (h : Tied P Q X s) : Tied P Q X (endScan s) := by
  obtain ⟨x, m, heq⟩ := endScan_frame s
  rw [heq]
  exact h.same rfl rfl

theorem tied_sealOpenPage (h : Tied P Q X s) : Tied P Q X (sealOpenPage s) := by
  unfold sealOpenPage
  split
  · exact h
  · exact tied_sealPage (tied_scn h)

theorem tied_faultPage (h : Tied P Q X s) : Tied P Q X (faultPage s).1 := by
  unfold faultPage
  split
  · exact h
  · split
    · dsimp only
      exact tied_giveUpPage (tied_scn h)
    · exact tied_sealOpenPage (tied_markTruncated h)

theorem tied_scanFault {f : ScanFault} (h : Tied P Q X s) : Tied P Q X (scanFault f s) :=
  tied_post (tied_endScan (tied_faultPage (tied_scn h)))

/-! ## Lines and pages (R50 to R54, R58) -/

theorem tied_appendLine {dots : List Bool} (h : Tied P Q X s) : Tied P Q X (appendLine dots s) := by
  unfold appendLine
  split
  next p prof _ _ =>
    dsimp only
    generalize hu : writeStream _ _ _ _ = u
    have hwrite : Tied P Q X u := hu ▸ tied_writeStream (tied_giveSegments h)
    exact tied_ite (tied_scn hwrite) (tied_scanFault hwrite)
  · exact h

theorem tied_testHeight (h : Tied P Q X s) : Tied P Q X (testHeight s) := by
  unfold testHeight
  split
  · exact tied_ite h (tied_sealOpenPage (tied_scn h))
  · exact h

theorem tied_takeLine {prof : Profile} (h : Tied P Q X s) : Tied P Q X (takeLine prof s) := by
  unfold takeLine
  dsimp only
  generalize hu : (if s.scn.take ∈ s.scn.overruns then _ else s) = u
  have hmark : Tied P Q X u := by
    rw [← hu]
    split
    · split
      · exact h
      · exact tied_modifyPage (fun _ => rfl) h
    · exact h
  have htaken : Tied P Q X (advanceTake { u with scn := { u.scn with rawLines := u.scn.rawLines + 1 } }) :=
    tied_advanceTake (tied_scn hmark)
  split
  · exact tied_testHeight (tied_appendLine htaken)
  · exact tied_scn htaken
  · exact tied_testHeight (tied_appendLine (tied_scn htaken))

theorem tied_newPage {d : Nat} {prof : Profile} (h : Tied P Q X s) : Tied P Q X (newPage d prof s) := by
  unfold newPage
  split
  · exact tied_scanFault h
  · split
    · exact tied_scanFault h
    next p s1 hstart =>
      split
      · exact tied_scanFault h
      next s2 hgive => exact tied_scn (tied_modifyPage (fun _ => rfl) (tied_giveSegment hgive (tied_startPage hstart h)))

theorem tied_extraLine (h : Tied P Q X s) : Tied P Q X (extraLine s) := by
  unfold extraLine
  dsimp only
  split
  · exact tied_ite (tied_advanceTake h) (tied_post (tied_scn (tied_advanceTake h)))
  · exact tied_advanceTake h

theorem tied_takeSlot (h : Tied P Q X s) : Tied P Q X (takeSlot s) := by
  unfold takeSlot
  split
  · refine tied_ite h (tied_ite (tied_advanceTake h) ?_)
    split
    · exact tied_extraLine h
    · exact tied_takeLine h
    · exact tied_ite (tied_takeLine (tied_newPage h)) (tied_newPage h)
    · exact h
  · exact h

theorem tied_takeSlots {n : Nat} (h : Tied P Q X s) : Tied P Q X (takeSlots n s) := by
  induction n generalizing s with
  | zero => exact h
  | succ n ih => exact ih (tied_takeSlot h)

theorem tied_finishPage (h : Tied P Q X s) : Tied P Q X (finishPage s) := by
  unfold finishPage
  split
  · refine tied_sealOpenPage ?_
    split
    · exact h
    · exact tied_appendLine (tied_scn h)
  · exact h

theorem tied_cutScan (h : Tied P Q X s) : Tied P Q X (cutScan s) := tied_ite h (tied_endScan (tied_finishPage h))

/-! ## Commands (R43, R51, R55, R56, R78) -/

/-- A check that a command makes first, with the answer of its refusal. -/
theorem tied_refusal {p : Prop} [Decidable p] {r : Reply} {y : State × Reply} (h : Tied P Q X s) (hy : Tied P Q X y.1) :
    Tied P Q X (if p then (s, r) else y).1 := by
  split
  · exact h
  · exact hy

theorem tied_setScanProfile {sl : Slot} (h : Tied P Q X s) : Tied P Q X (setScanProfile sl s).1 :=
  tied_refusal h (tied_refusal h (tied_refusal h (tied_refusal h (tied_refusal h (tied_refusal h (tied_scn h))))))

theorem tied_setStoreLimits {sl : Slot} (h : Tied P Q X s) : Tied P Q X (setStoreLimits sl s).1 := by
  unfold setStoreLimits
  dsimp only
  split
  · exact h
  · exact h.same rfl rfl

theorem tied_beginScan {sl : Slot} (h : Tied P Q X s) : Tied P Q X (beginScan sl s).1 := by
  unfold beginScan
  dsimp only
  refine tied_refusal h (tied_refusal h ?_)
  split
  · exact h
  · exact tied_refusal h (tied_refusal h (tied_refusal h (tied_refusal h (tied_refusal h (h.same rfl rfl)))))

theorem tied_toBoundary (h : Tied P Q X s) : Tied P Q X (toBoundary s) :=
  tied_finishPage (tied_takeSlots (tied_voidStarted h))

theorem tied_endPage {sl : Slot} (h : Tied P Q X s) : Tied P Q X (endPage sl s).1 := by
  unfold endPage
  split
  · exact h
  · have hends (u : State) (hu : Tied P Q X u) : Tied P Q X
        (if (toBoundary u).scn.state = .scanIdle then toBoundary u
          else { toBoundary u with scn := { (toBoundary u).scn with state := .betweenPages } }) :=
      tied_ite (tied_toBoundary hu) (tied_scn (tied_toBoundary hu))
    exact hends _ (tied_ite h (tied_scn h))

theorem tied_endScanCommand {sl : Slot} (h : Tied P Q X s) : Tied P Q X (endScanCommand sl s).1 := by
  unfold endScanCommand
  split
  · exact h
  · exact tied_endScan (tied_toBoundary h)

end

end Sys2Proof.Machine
end

section
/-! PROOFS. The laws of the segments and of the outbound sessions through the DJU's commands, the deletion of documents and the full
end of a job (R83 to R100), and through a scheduler pass with the calls that it starts (R101, R102). -/

namespace Sys2Proof.Machine

set_option Elab.async false

section

variable {P Q : Prop} {X : Line → Bool} {s t : State} {n : Line} {d j k : Nat} {sl : Slot}

/-! ## Documents (R83 to R87, R91, R155) -/

theorem tied_idleSent {places : Nat} (h : Tied P Q X s) : Tied P Q X (idleSent j places s) := by
  refine h.foldl fun u i hu => ?_
  split
  · exact hu
  · exact tied_ite (tied_destSent hu) hu

theorem tied_listFinal {test : Nat → State → State} (htest : ∀ u i, Tied P Q X u → Tied P Q X (test i u)) (h : Tied P Q X s) :
    Tied P Q X (listFinal test d s) :=
  tied_occasion (tied_recheckLines (h.foldl fun _ i hu => htest _ i (tied_idleSent hu)))

theorem tied_beginDelete (h : Tied P Q X s) : Tied P Q X (beginDelete d s) :=
  Tied.foldl (fun _ _ => tied_testPageFree) (tied_modifyDoc (tied_ite (tied_cutScan h) h))

theorem tied_finishDelete (h : Tied P Q X s) : Tied P Q X (finishDelete d s) :=
  tied_testDocFree (tied_listFinal (fun _ _ => tied_testJobEnd) h)

theorem tied_deleteDoc (h : Tied P Q X s) : Tied P Q X (deleteDoc d s) := tied_finishDelete (tied_beginDelete h)

theorem tied_testJob (h : Tied P Q X s) : Tied P Q X (testJob j s) := by
  unfold testJob
  split
  · exact h
  next r hj =>
    split
    next hfinal =>
      have hend := tied_endJob hj (jobIsFinal_sessions hj hfinal) h
      dsimp only
      split
      · exact hend
      · exact tied_ite (tied_deleteDoc hend) hend
    · exact h

theorem tied_testAutoDelete (h : Tied P Q X s) : Tied P Q X (testAutoDelete d s) := by
  unfold testAutoDelete
  split
  · exact h
  · exact tied_ite (tied_deleteDoc h) h

theorem tied_openDocument (h : Tied P Q X s) : Tied P Q X (openDocument sl s).1 := by
  unfold openDocument
  split
  · exact h
  · exact tied_putDoc h

theorem tied_closeDocument (h : Tied P Q X s) : Tied P Q X (closeDocument sl s).1 := by
  unfold closeDocument
  dsimp only
  split
  · exact h
  · split
    · exact h
    · split
      · exact h
      · exact tied_listFinal (fun _ _ => tied_testJob) (tied_putDoc h)

theorem tied_deleteDocument (h : Tied P Q X s) : Tied P Q X (deleteDocument sl s).1 := by
  unfold deleteDocument
  dsimp only
  split
  · exact h
  · split
    · exact h
    · dsimp only
      exact tied_finishDelete (tied_beginDelete h)

/-! ## Jobs (R89, R90, R96, R98 to R100) -/

/-- A line names only destinations in use. -/
theorem CallTied.unnamed_of_none (h : CallTied X s) (hk : s.dest? k = none) : s.unnamed X k := fun m hm hd => by
  obtain ⟨-, -, r, hr, -⟩ := h.call m k hm hd
  rw [hk] at hr
  cases hr

theorem tied_giveDests {i : Nat} {ks : List Nat} {dss : List (List Byte)} (hks : Q → ∀ k ∈ ks, s.unnamed X k) (h : Tied P Q X s) :
    Tied P Q X (giveDests j i ks dss s) := by
  induction ks generalizing i dss s with
  | nil => exact h
  | cons k ks ih =>
    cases dss with
    | nil => exact h
    | cons ds dss =>
      rw [giveDests]
      exact ih (fun hq x hx => unnamed_of_lines (hks hq x (List.mem_cons_of_mem _ hx)) rfl)
        (h.mapCalls rfl fun hq hc => callTied_putDest_of_unnamed hc (hks hq k List.mem_cons_self) _)

/-- A job that is accepted takes a free record, and its destinations do. -/
theorem tied_acceptJob {ds : List (List Byte)} (hj : s.job? j = none) (h : Tied P Q X s) : Tied P Q X (acceptJob sl j ds s) := by
  unfold acceptJob
  dsimp only
  refine tied_occasion (Tied.foldl (fun _ _ => tied_changeSendHolds) (tied_modifyDoc (tied_giveDests (fun hq k hk => ?_) ?_)))
  · refine unnamed_of_lines ((h.calls hq).unnamed_of_none ?_) rfl
    have hfree := (List.mem_filter.1 (List.mem_of_mem_take hk)).2
    exact Option.isNone_iff_eq_none.1 hfree
  · have hsub : Tied P Q X { s with dju := { s.dju with submission := (s.dju.submission + 1) % 4294967296 } } := h.same rfl rfl
    exact hsub.mapCalls rfl fun _ hc => callTied_putJob_of_none hc hj rfl

theorem tied_submitJob (h : Tied P Q X s) : Tied P Q X (submitJob sl s).1 := by
  unfold submitJob
  split
  · exact h
  · split
    · exact h
    · split
      · exact h
      next j hj =>
        split
        · exact h
        · exact tied_acceptJob ((Tab.firstFree_eq_some_iff _ _ _).1 hj).2.1 h

/-- A destination that waits is cancelled at once, one in session takes its mark. -/
theorem tied_cancelDest (h : Tied P Q X s) : Tied P Q X (cancelDest k s) := by
  unfold cancelDest
  split
  · exact h
  next r hr =>
    have hput (r' : Dest) (hr' : r.goesOn r') : Tied P Q X (putDest k r' s) :=
      h.mapCalls rfl fun _ hc => callTied_putDest hc hr hr'
    split
    next hidle =>
      have hquiet : r.calling = false := by
        unfold Dest.isIdle at hidle
        unfold Dest.calling
        revert hidle
        cases r.state <;> decide
      exact tied_destGivenUp (fun hq => unnamed_of_lines ((h.calls hq).unnamed_of_quiet hr hquiet) rfl) (hput _ ⟨rfl, rfl, id⟩)
    · dsimp only
      split
      · exact hput _ ⟨rfl, rfl, id⟩
      · exact tied_endRequested (hput _ ⟨rfl, rfl, id⟩)

theorem tied_putJob {r r' : Job} (hj : s.job? j = some r) (hr : r'.sessions = r.sessions) (h : Tied P Q X s) :
    Tied P Q X (putJob j r' s) := h.mapCalls rfl fun _ hc => callTied_putJob hc hj hr

theorem tied_cancelJob (h : Tied P Q X s) : Tied P Q X (cancelJob sl s).1 := by
  unfold cancelJob
  split
  · exact h
  next r hj =>
    split
    · exact h
    · refine tied_testJob (Tied.foldl (fun u i hu => ?_) (tied_putJob hj rfl h))
      split
      · exact hu
      · exact tied_ite hu (tied_cancelDest hu)

theorem tied_cancelDestination (h : Tied P Q X s) : Tied P Q X (cancelDestination sl s).1 := by
  unfold cancelDestination
  dsimp only
  split
  · exact h
  · split
    · exact h
    · split
      · exact h
      · split
        · exact h
        · split
          · exact h
          · exact tied_testJob (tied_cancelDest h)

theorem tied_holdJob (h : Tied P Q X s) : Tied P Q X (holdJob sl s).1 := by
  unfold holdJob
  split
  · exact h
  next r hj =>
    split
    · exact tied_putJob hj rfl h
    · exact h

theorem tied_releaseJob (h : Tied P Q X s) : Tied P Q X (releaseJob sl s).1 := by
  unfold releaseJob
  split
  · exact h
  next r hj =>
    split
    · exact tied_occasion (tied_putJob hj rfl h)
    · exact h

theorem tied_setRetryPolicy (h : Tied P Q X s) : Tied P Q X (setRetryPolicy sl s).1 := h.same rfl rfl

/-! ## A pass of the scheduler (R101, R102) -/

/-- A line without a session takes up an outbound one, to a destination that no line names and digits that none dials. -/
theorem CallTied.joins {u : State} {r : LineRec} {x x' : Dest} {y y' : Job} (h : CallTied X s) (hX : X n = false)
    (hfree : (s.line n).dest = none) (hjob : s.job? x.job = some y) (hk : s.unnamed X k)
    (hdigits : ∀ m k', X m = false → (s.line m).dest = some k' → (s.dest? k').map Dest.digits ≠ some x.digits)
    (hself : u.line n = r) (hother : ∀ m, m ≠ n → u.line m = s.line m)
    (hr : r.dest = some k ∧ r.job = some x.job ∧ r.dir = some .outbound ∧ r.state.inSession = true)
    (hdests : u.dju.dests = Tab.set s.dju.dests k x') (hjobs : u.dju.jobs = Tab.set s.dju.jobs x.job y')
    (hx : x'.job = x.job ∧ x'.digits = x.digits ∧ x'.calling = true) (hy : y'.sessions = y.sessions + 1) : CallTied X u := by
  obtain ⟨hrdest, hrjob, hrdir, hrstate⟩ := hr
  obtain ⟨hxjob, hxdigits, hxcalling⟩ := hx
  have hget (i : Nat) : u.dest? i = if i = k then some x' else s.dest? i := by rw [State.dest?, hdests, Tab.get?_set]; rfl
  have hgetjob (i : Nat) : u.job? i = if i = x.job then some y' else s.job? i := by rw [State.job?, hjobs, Tab.get?_set]; rfl
  have hnone : (s.line n).job = none := (h.free n hX hfree).1
  have hcallers (i : Nat) : u.callers X i = s.callers X i + if i = x.job then 1 else 0 := by
    have hsame {m : Line} (hm : m ≠ n) : (!X m && (u.line m).job == some i) = (!X m && (s.line m).job == some i) := by
      rw [hother m hm]
    unfold State.callers
    split
    next hi =>
      subst hi
      exact length_filter_except (List.nodup_finRange 8) (mem_allLines n) (by simp [hX, hself, hrjob]) (by simp [hnone])
        fun m hm => (hsame hm).symm
    next hi =>
      congr 2
      funext m
      by_cases hm : m = n
      · subst hm
        rw [hself, hrjob, hnone]
        simp [Ne.symm hi]
      · exact hsame hm
  have hdigits' {m : Line} {i : Nat} (hm : X m = false) (hmn : m ≠ n) (hd : (u.line m).dest = some i) :
      i ≠ k ∧ (u.dest? i).map Dest.digits = (s.dest? i).map Dest.digits ∧ (s.dest? i).map Dest.digits ≠ some x.digits := by
    rw [hother m hmn] at hd
    have hik : i ≠ k := fun e => hk m hm (by rw [hd, e])
    exact ⟨hik, by rw [hget, if_neg hik], hdigits m i hm hd⟩
  have hkdigits : (u.dest? k).map Dest.digits = some x.digits := by rw [hget, if_pos rfl, Option.map_some, hxdigits]
  refine ⟨by rw [hjobs]; exact Tab.rising_set h.jobs _ _, by rw [hdests]; exact Tab.rising_set h.dests _ _,
    fun m hm hd => ?_, fun m i hm hd => ?_, fun m m' i i' hm hm' hne hd hd' => ?_, fun i z hz => ?_⟩
  · by_cases hmn : m = n
    · rw [hmn, hself, hrdest] at hd
      cases hd
    · rw [hother m hmn] at hd ⊢
      exact h.free m hm hd
  · by_cases hmn : m = n
    · rw [hmn, hself] at hd ⊢
      cases hrdest.symm.trans hd
      exact ⟨hrdir, hrstate, x', by rw [hget, if_pos rfl], hxcalling, by rw [hrjob, hxjob], by rw [hgetjob, if_pos hxjob]; rfl⟩
    · obtain ⟨hik, -, -⟩ := hdigits' hm hmn hd
      rw [hother m hmn] at hd ⊢
      obtain ⟨hdir, hin, z, hz, hcall, hj, hsome⟩ := h.call m i hm hd
      refine ⟨hdir, hin, z, by rw [hget, if_neg hik]; exact hz, hcall, hj, ?_⟩
      rw [hgetjob]
      split
      · rfl
      · exact hsome
  · by_cases hmn : m = n
    · have hm'n : m' ≠ n := fun e => hne (hmn.trans e.symm)
      rw [hmn, hself] at hd
      cases hrdest.symm.trans hd
      obtain ⟨hik, hsame, hnot⟩ := hdigits' hm' hm'n hd'
      exact ⟨hik.symm, by rw [hkdigits, hsame]; exact hnot.symm⟩
    · obtain ⟨hik, hsame, hnot⟩ := hdigits' hm hmn hd
      by_cases hm'n : m' = n
      · rw [hm'n, hself] at hd'
        cases hrdest.symm.trans hd'
        exact ⟨hik, by rw [hkdigits, hsame]; exact hnot⟩
      · obtain ⟨-, hsame', -⟩ := hdigits' hm' hm'n hd'
        rw [hsame, hsame']
        rw [hother m hmn] at hd
        rw [hother m' hm'n] at hd'
        exact h.apart m m' i i' hm hm' hne hd hd'
  · rw [hcallers]
    rw [hgetjob] at hz
    split at hz
    next hi =>
      cases hz
      rw [hy, hi, if_pos rfl, h.count _ y hjob]
    next hi =>
      rw [if_neg hi]
      exact h.count i z hz

/-- A line outside a session names no destination. -/
theorem CallTied.dest_of_idle (h : CallTied X s) (hX : X n = false) (hn : (s.line n).state.inSession = false) :
    (s.line n).dest = none := by
  cases hd : (s.line n).dest with
  | none => rfl
  | some k =>
    obtain ⟨-, hin, -⟩ := h.call n k hX hd
    rw [hn] at hin
    cases hin

/-- The state from which the line of a call is seized. -/
theorem startCall_frame {x : Dest} {y : Job} (hdest : s.dest? k = some x) (hjob : s.job? x.job = some y) :
    ∃ u r c p m, SetsLine n r u (startCall n k s)
      ∧ (r.dest = some k ∧ r.job = some x.job ∧ r.dir = some .outbound ∧ r.state.inSession = true)
      ∧ u = { s with
          dju := { s.dju with dests := Tab.set s.dju.dests k (x.called n), jobs := Tab.set s.dju.jobs x.job y.called }
          chg := c, sli := p, dram := m } := by
  rw [startCall_eq hdest hjob]
  generalize ((s.doc? y.doc).map fun d => d.places.length - x.confirmed).getD 0 = pages
  obtain ⟨m, heq, -⟩ := s.booked_spec n k x y pages
  have hset := setsLine_startSession n k (x.called n) y.doc (s.booked n k x y pages)
  have hhand := hand_eq n .seize (s.booked n k x y pages)
  generalize (hand n .seize (s.booked n k x y pages)).sli = p at hhand
  rw [heq] at hhand
  exact ⟨_, _, _, p, m, hset, ⟨rfl, rfl, rfl, rfl⟩, by rw [heq]; exact hhand⟩

theorem segView_startCall (n : Line) (k : Nat) (s : State) : (startCall n k s).segView = s.segView := by
  cases hdest : s.dest? k with
  | none => simp only [startCall, hdest]
  | some x =>
    cases hjob : s.job? x.job with
    | none => simp only [startCall, hdest, State.jobOf, hjob]
    | some y =>
      obtain ⟨u, r, c, p, m, hset, -, rfl⟩ := startCall_frame (n := n) hdest hjob
      exact hset.segView

/-- The call of a pass is made from an idle line to an eligible destination. -/
theorem callTied_startCall {x : Dest} {y : Job} {r : Doc} (hidle : (s.line n).state = .idle) (hdest : s.dest? k = some x)
    (hjob : s.job? x.job = some y) (helig : s.eligible x y r = true) (h : CallTied noLine s) :
    CallTied noLine (startCall n k s) := by
  obtain ⟨hstate, -, -, hdigits, -⟩ := (s.eligible_iff x y r).1 helig
  obtain ⟨u, l, c, p, m, hset, hl, rfl⟩ := startCall_frame (n := n) hdest hjob
  have hquiet : x.calling = false := by
    unfold Dest.calling
    obtain hst | ⟨hst, -⟩ := hstate <;> rw [hst] <;> rfl
  refine h.joins rfl (h.dest_of_idle rfl (by rw [hidle]; rfl)) hjob (h.unnamed_of_quiet hdest hquiet) (fun i k' _ hd hdig => ?_)
    hset.line_self (fun i hi => hset.line_of_ne hi) hl (by rw [hset.frame]) (by rw [hset.frame]) (x' := x.called n)
    ⟨rfl, rfl, rfl⟩ (y' := y.called) rfl
  obtain ⟨z, hz, hzdig⟩ := Option.map_eq_some_iff.1 hdig
  exact hdigits i k' z (h.call i k' rfl hd).1 hd hz hzdig

/-- What the scheduler chooses is eligible. -/
theorem eligible_of_candidate {x : Dest} {c : Candidate} (h : s.candidate k x = some c) :
    c.dest = k ∧ ∃ y r, s.job? x.job = some y ∧ s.eligible x y r = true := by
  unfold State.candidate State.jobOf at h
  split at h
  · cases h
  next y hy =>
    split at h
    · cases h
    next r _ =>
      split at h
      next helig =>
        cases h
        exact ⟨rfl, y, r, hy, helig⟩
      · cases h

theorem tied_schedule {fuel : Nat} (h : Tied P Q noLine s) : Tied P Q noLine (schedule fuel s) := by
  induction fuel generalizing s with
  | zero => exact h
  | succ fuel ih =>
    cases hn : s.freeLine with
    | none => rwa [schedule_of_none (.inl hn)]
    | some n =>
      cases hc : s.firstEligible with
      | none => rwa [schedule_of_none (.inr hc)]
      | some c =>
        rw [schedule_of_some hn hc]
        refine ih (h.mapCalls (segView_startCall ..) fun _ hcalls => ?_)
        obtain ⟨-, hidle, -⟩ := (s.freeLine_iff n).1 hn
        obtain ⟨-, hsome⟩ := s.better_foldl s.dju.dests none
        obtain ⟨e, he, hcand⟩ := (hsome c hc).1.resolve_left nofun
        obtain ⟨hdest, y, r, hjob, helig⟩ := eligible_of_candidate hcand
        rw [hdest]
        exact callTied_startCall hidle (Tab.get?_of_mem hcalls.dests he) hjob helig hcalls

end

end Sys2Proof.Machine
end

section
/-! PROOFS. The laws of the segments and of the outbound sessions through the print queue (R158 to R162), the RXR's tables and
documents (R146 to R154), and the pages of inbound sessions (R139 to R142). -/

namespace Sys2Proof.Machine

set_option Elab.async false

section

variable {P Q : Prop} {X : Line → Bool} {s : State} {n : Line} {d e : Nat} {sl : Slot}

/-! ## The print queue (R158 to R162) -/

theorem tied_putEntry {r : PrintEntry} (h : Tied P Q X s) : Tied P Q X (putEntry e r s) := h.same rfl rfl

theorem tied_clearEntry (h : Tied P Q X s) : Tied P Q X (clearEntry e s) := h.same rfl rfl

theorem tied_modifyEntry {f : PrintEntry → PrintEntry} (h : Tied P Q X s) : Tied P Q X (modifyEntry e f s) := by
  unfold modifyEntry
  split
  · exact h
  · exact tied_putEntry h

theorem tied_createEntry {copies tray cls : Nat} (h : Tied P Q X s) : Tied P Q X (createEntry e d copies tray cls s) := by
  unfold createEntry
  generalize (s.prn.arrival + 1) % 4294967296 = a
  exact Tied.foldl (fun _ _ => tied_changePrintHolds) (tied_modifyDoc (tied_putEntry (tied_prn h)))

theorem tied_joinPrintHolds {p : Nat} (h : Tied P Q X s) : Tied P Q X (joinPrintHolds d p s) := tied_modifyPage (fun _ => rfl) h

theorem tied_removeEntry {cancelled : Bool} (h : Tied P Q X s) : Tied P Q X (removeEntry e cancelled s) := by
  unfold removeEntry
  split
  · exact h
  next r _ =>
    have hholds : Tied P Q X (if cancelled then dropPrintHolds r s else s) :=
      tied_ite (h.foldl fun _ _ => tied_changePrintHolds) h
    generalize (if cancelled then dropPrintHolds r s else s) = u at hholds
    have hleft : Tied P Q X (testDocFree r.doc (modifyDoc r.doc (fun d => { d with printRefs := d.printRefs - 1 })
        (if r.printing then { clearEntry e u with
            prn := { (clearEntry e u).prn with rendering := none, sheetOpen := false, slots := markLast e (clearEntry e u).prn.slots } }
          else clearEntry e u))) :=
      tied_testDocFree (tied_modifyDoc (tied_ite (tied_prn (tied_clearEntry hholds)) (tied_clearEntry hholds)))
    dsimp only
    split
    · exact hleft
    · exact tied_ite (tied_testAutoDelete (tied_modifyDoc hleft)) hleft

theorem tied_printDocument (h : Tied P Q X s) : Tied P Q X (printDocument sl s).1 := by
  unfold printDocument
  dsimp only
  split
  · exact h
  · split
    · exact h
    · split
      · exact h
      · split
        · exact h
        · exact tied_createEntry h

theorem tied_cancelPrint (h : Tied P Q X s) : Tied P Q X (cancelPrint sl s).1 := by
  unfold cancelPrint
  dsimp only
  split
  · exact h
  · split
    · exact h
    · split
      · exact tied_putEntry h
      · exact tied_removeEntry h

/-! ## Routes, filter and held documents (R146 to R154) -/

theorem tied_loadRoute (h : Tied P Q X s) : Tied P Q X (loadRoute sl s).1 := by
  unfold loadRoute
  dsimp only
  split
  · exact h
  · split
    · split
      · exact h.same rfl rfl
      · exact h.same rfl rfl
    · split
      · exact h
      · split
        · exact h
        · exact h.same rfl rfl

theorem tied_setDefaultRoute (h : Tied P Q X s) : Tied P Q X (setDefaultRoute sl s).1 := by
  unfold setDefaultRoute
  dsimp only
  split
  · exact h
  · exact h.same rfl rfl

theorem tied_putFilter {bins : BitVec 256} (h : Tied P Q X s) : Tied P Q X (putFilter bins s) := h.same rfl rfl

theorem tied_setFilterBin (h : Tied P Q X s) : Tied P Q X (setFilterBin sl s).1 := by
  unfold setFilterBin
  dsimp only
  split
  · split
    · exact h
    · exact tied_putFilter h
  · split
    · exact h
    · exact tied_putFilter h
  · exact tied_putFilter h
  · exact tied_putFilter h
  · exact h

theorem tied_answerDoc {r : Route} {called ident : List Byte} (h : Tied P Q X s) : Tied P Q X (answerDoc n d r called ident s) := by
  unfold answerDoc
  dsimp only
  split
  · split
    · exact tied_putDoc h
    · exact tied_createEntry (tied_putDoc h)
  · exact tied_putDoc h

theorem tied_releaseHeld (h : Tied P Q X s) : Tied P Q X (releaseHeld sl s).1 := by
  unfold releaseHeld
  dsimp only
  split
  · exact h
  · split
    · exact h
    · split
      · exact tied_testAutoDelete (tied_putDoc h)
      · split
        · exact h
        · exact tied_testAutoDelete (tied_createEntry (tied_putDoc h))

theorem tied_endInbound {whole : Bool} (h : Tied P Q X s) : Tied P Q X (endInbound d whole s) := by
  unfold endInbound
  split
  · exact h
  · exact tied_testAutoDelete (tied_post (tied_putDoc h))

/-! ## The inbound page (R139 to R142) -/

/-- The record of a line changes in what the law of the outbound sessions does not speak of. -/
theorem tied_setLine {r : LineRec} (hr : (s.line n).goesOn r) (h : Tied P Q X s) : Tied P Q X (setLine n r s) :=
  h.setsLine (setsLine_setLine n r s) hr

theorem tied_giveUpStore (h : Tied P Q X s) : Tied P Q X (giveUpStore n s) := by
  unfold giveUpStore
  split
  · exact h
  · exact tied_sli (tied_setLine ⟨rfl, rfl, rfl, id⟩ h)

theorem tied_closePage (h : Tied P Q X s) : Tied P Q X (closePage n s) := by
  unfold closePage
  split
  · exact h
  · exact tied_sealPage (tied_modifyLine (fun _ => ⟨rfl, rfl, rfl, id⟩) h)

theorem tied_closeEarly (h : Tied P Q X s) : Tied P Q X (closeEarly n s) := by
  unfold closeEarly
  dsimp only
  split
  · exact tied_giveUpStore h
  · exact tied_sealPage (tied_markTruncated (tied_modifyLine (fun _ => ⟨rfl, rfl, rfl, id⟩) (tied_giveUpStore h)))

theorem tied_beginPage {cls : WidthClass} {res : Resolution} (h : Tied P Q X s) : Tied P Q X (beginPage n cls res s) := by
  have hearly := tied_closeEarly (n := n) h
  unfold beginPage
  dsimp only
  split
  · exact hearly
  · split
    · exact tied_abandonLine hearly
    · split
      · exact tied_abandonLine hearly
      next hstart => exact tied_enterState rfl (fun _ => ⟨rfl, rfl, rfl⟩) (tied_joinPrintHolds (tied_startPage hstart hearly))

theorem tied_onRxPageBegin {cls res : Nat} (h : Tied P Q X s) : Tied P Q X (onRxPageBegin n cls res s) := by
  unfold onRxPageBegin
  split
  · exact tied_ite (tied_beginPage h) h
  · exact h

theorem tied_goodBlock {pp b : Nat} {bytes : List Byte} (h : Tied P Q X s) : Tied P Q X (goodBlock n pp b bytes s) := by
  have htimer : Tied P Q X (if (s.line n).state = .receiving then restartTimer n s else s) := tied_ite (tied_restartTimer h) h
  unfold goodBlock
  generalize (if (s.line n).state = .receiving then restartTimer n s else s) = u at htimer
  dsimp only
  split
  · split
    · split
      · exact tied_setLine ⟨rfl, rfl, rfl, id⟩ (tied_giveSegments htimer)
      · exact tied_abandonLine (tied_closeEarly (tied_sli htimer))
    · exact tied_sli htimer
  · exact tied_sli htimer

theorem tied_afterPartialOk {k : EndKind} (h : Tied P Q X s) : Tied P Q X (afterPartialOk n k s) := by
  unfold afterPartialOk
  split
  · exact tied_enterState rfl (fun _ => ⟨rfl, rfl, rfl⟩) h
  · exact tied_enterState rfl (fun _ => ⟨rfl, rfl, rfl⟩) (tied_closePage h)
  · exact tied_clearLine (tied_closePage h)

theorem tied_checkPartial {c : Nat} {k : EndKind} (h : Tied P Q X s) : Tied P Q X (checkPartial n c k s) := by
  unfold checkPartial
  dsimp only
  split
  · exact tied_afterPartialOk (tied_hand h)
  · split
    · exact tied_afterPartialOk (tied_modifyLine (fun _ => ⟨rfl, rfl, rfl, id⟩) (tied_hand h))
    · split
      · exact tied_enterState rfl (fun _ => ⟨rfl, rfl, rfl⟩) (tied_hand h)
      · refine tied_afterPartialOk (tied_modifyLine (fun _ => ⟨rfl, rfl, rfl, id⟩) ?_)
        split
        · exact tied_hand h
        · exact tied_markTruncated (tied_hand h)

theorem tied_onRxPartialEnd {pp c kind : Nat} (h : Tied P Q X s) : Tied P Q X (onRxPartialEnd n pp c kind s) := by
  unfold onRxPartialEnd
  dsimp only
  split
  · exact h
  next k _ =>
    have henter := tied_enterState (n := n) (st := .rxCheck) (f := fun r => { r with blockCount := c, checking := some (c, k) })
      rfl (fun _ => ⟨rfl, rfl, rfl⟩) h
    exact tied_ite h (tied_ite henter (tied_checkPartial (tied_setLine ⟨rfl, rfl, rfl, id⟩ henter)))

theorem tied_blockStored (h : Tied P Q X s) : Tied P Q X (blockStored n s) := by
  unfold blockStored
  dsimp only
  split
  next b r _ _ =>
    have hstored : Tied P Q X (releaseBuffer n.val
        (modifyLine n (fun l => { l with storing := none, blockMap := Tab.set l.blockMap b.block b.bytes.length })
          (writeStream r.chain (blockOffset b.partialPage b.block) b.bytes s))) :=
      tied_sli (tied_modifyLine (fun _ => ⟨rfl, rfl, rfl, id⟩) (tied_writeStream h))
    split
    · exact hstored
    · exact tied_checkPartial (tied_setLine ⟨rfl, rfl, rfl, id⟩ hstored)
  · exact h

end

end Sys2Proof.Machine
end

section
/-! PROOFS. The laws of the segments and of the outbound sessions through the PRN: held reads, sheets and their lines, substitution
and its commands (R163 to R174). -/

namespace Sys2Proof.Machine

set_option Elab.async false

section

variable {P Q : Prop} {X : Line → Bool} {s t : State} {sl : Slot}

/-! ## Consumption and held reads (R170, R171) -/

theorem tied_testUrgent (h : Tied P Q X s) : Tied P Q X (testUrgent s) := h.same rfl rfl

theorem tied_consume (h : Tied P Q X s) : Tied P Q X (consume s) := by
  unfold consume
  split
  · exact h
  next r rs _ =>
    have htaken : Tied P Q X (testUrgent { s with prn := { s.prn with slots := rs, read := (s.prn.read + 1) % s.printSlots } }) :=
      tied_testUrgent (tied_prn h)
    dsimp only
    split
    · exact htaken
    · exact tied_ite (tied_post htaken) htaken

theorem tied_finishRead {off : Nat} (h : Tied P Q X s) : Tied P Q X (finishRead off s) := by
  have hread : Tied P Q X { s with smp := { s.smp with held := none, busData := s.readWord off } } := h.same rfl rfl
  unfold finishRead readWatch
  split
  · exact hread
  · exact tied_ite (tied_consume hread) hread

theorem tied_releasePrintHold (h : Tied P Q X s) : Tied P Q X (releasePrintHold s) := by
  unfold releasePrintHold
  split
  · exact tied_ite (tied_finishRead h) h
  · exact h

/-! ## Sheets (R166 to R169) -/

theorem tied_walk {fuel : Nat} (h : Tied P Q X s) : Tied P Q X (walk fuel s) := by
  induction fuel generalizing s with
  | zero => exact h
  | succ fuel ih =>
    unfold walk
    split
    · exact h
    · split
      · exact h
      · split
        · exact h
        · exact ih (tied_putEntry h)
        · exact tied_ite h (tied_ite (ih (tied_putEntry h)) (tied_removeEntry h))

theorem tied_beginRendering (h : Tied P Q X s) : Tied P Q X (beginRendering s) := by
  unfold beginRendering
  split
  · exact h
  · split
    · exact h
    · split
      · exact h
      · split
        · exact h
        · exact tied_ite (tied_prn h) h

theorem tied_beginSheet (h : Tied P Q X s) : Tied P Q X (beginSheet s) := by
  unfold beginSheet
  split
  · exact tied_putEntry (tied_prn h)
  · exact h

theorem tied_settle (h : Tied P Q X s) : Tied P Q X (settle s) :=
  tied_ite (tied_beginSheet (tied_beginRendering (tied_ite (tied_walk h) h))) h

theorem tied_takeEntry (h : Tied P Q X s) : Tied P Q X (takeEntry s) := by
  unfold takeEntry
  split
  · split
    · exact h
    · exact tied_settle (tied_putEntry h)
  · exact h

theorem tied_decodeNext {prof : PrintProfile} {g : Rendering} {r : PageRec} (h : Tied P Q X s) :
    Tied P Q X (decodeNext prof g r s).2.2 := tied_ite (tied_post (tied_modifyPage (fun _ => rfl) h)) h

/-- The decoding of the next sheet line may report a malformed line. -/
theorem tied_nextSheetLine {prof : PrintProfile} {l : SheetLine} (hl : nextSheetLine prof s = some (l, t)) (h : Tied P Q X s) :
    Tied P Q X t := by
  have howed (g : Rendering) (r : PageRec) : Tied P Q X (owedLine prof g r s).2.2 := by
    unfold owedLine
    split
    · split
      · exact tied_decodeNext h
      · exact h
    · exact tied_decodeNext h
  unfold nextSheetLine at hl
  split at hl
  · split at hl
    · cases hl
    · cases hl
      exact howed _ _
  · cases hl

theorem tied_endPageCopy {l : SheetLine} {givenUp : Bool} (h : Tied P Q X s) : Tied P Q X (endPageCopy l givenUp s) := by
  unfold endPageCopy
  refine tied_changePrintHolds (tied_modifyEntry (tied_prn ?_))
  split
  · exact h
  · exact tied_ite (tied_modifyPage (fun _ => rfl) h) (tied_post (tied_modifyPage (fun _ => rfl) h))

theorem tied_endSheet {l : SheetLine} (h : Tied P Q X s) : Tied P Q X (endSheet l s) :=
  have hcancel : Tied P Q X (if l.entryRec.cancelMark then removeEntry l.entry true s else s) := tied_ite (tied_removeEntry h) h
  tied_ite (tied_prn hcancel) hcancel

/-- What may end with a sheet line, from the state in which the line itself has been handled. -/
theorem tied_lineEnds {l : SheetLine} {givenUp : Bool} (h : Tied P Q X s) :
    Tied P Q X (settle (if l.endsSheet then endSheet l (if l.endsPage then endPageCopy l givenUp s else s)
      else if l.endsPage then endPageCopy l givenUp s else s)) :=
  have hpage : Tied P Q X (if l.endsPage then endPageCopy l givenUp s else s) := tied_ite (tied_endPageCopy h) h
  tied_settle (tied_ite (tied_endSheet hpage) hpage)

theorem tied_handled {l : SheetLine} {givenUp : Bool} (h : Tied P Q X s) : Tied P Q X (handled l givenUp s) :=
  tied_lineEnds (tied_prn (tied_putEntry h))

theorem tied_writeSheetLine {prof : PrintProfile} (h : Tied P Q X s) : Tied P Q X (writeSheetLine prof s) := by
  unfold writeSheetLine
  split
  · split
    · exact h
    next hl => exact tied_handled (tied_prn (tied_store (tied_store (tied_nextSheetLine hl h))))
  · exact h

theorem tied_renderStep (h : Tied P Q X s) : Tied P Q X (renderStep s) := by
  unfold renderStep
  split
  · exact h
  · exact tied_ite (tied_releasePrintHold (tied_testUrgent (tied_writeSheetLine (tied_settle h)))) h

theorem tied_substitute (h : Tied P Q X s) : Tied P Q X (substitute s) := by
  unfold substitute
  dsimp only
  split
  next hl =>
    obtain ⟨prof, -, hline⟩ := Option.bind_eq_some_iff.1 hl
    exact tied_testUrgent (tied_handled (tied_post (tied_prn (tied_nextSheetLine hline h))))
  · exact tied_testUrgent (tied_post (tied_prn h))

theorem tied_printHoldExpiry (h : Tied P Q X s) : Tied P Q X (printHoldExpiry s) := by
  unfold printHoldExpiry
  split
  · exact h
  · exact tied_ite (tied_finishRead (tied_substitute h)) h

/-! ## Commands and the withdraw (R17, R163 to R165, R174) -/

theorem tied_setPrintProfile (h : Tied P Q X s) : Tied P Q X (setPrintProfile sl s).1 := by
  unfold setPrintProfile
  dsimp only
  split
  · exact h
  · exact tied_prn h

theorem tied_startPrint (h : Tied P Q X s) : Tied P Q X (startPrint sl s).1 := by
  have hgeometry : Tied P Q X (takeGeometry s) := tied_ite (tied_prn h) (h.same rfl rfl)
  unfold startPrint
  dsimp only
  split
  · exact h
  · exact tied_prn h
  · split
    · exact h
    · split
      · exact h
      · exact tied_testUrgent hgeometry

theorem tied_stopPrint (h : Tied P Q X s) : Tied P Q X (stopPrint sl s).1 := by
  unfold stopPrint
  dsimp only
  split
  · exact tied_releasePrintHold (tied_testUrgent (tied_prn h))
  · exact h

theorem tied_withdrawPrint (h : Tied P Q X s) : Tied P Q X (withdrawPrint s) := tied_releasePrintHold (h.same rfl rfl)

end

end Sys2Proof.Machine
end

section
/-! PROOFS. The laws of the segments and of the outbound sessions through the end of a session, whose line and call go and whose
destination moves on (R94, R95, R136, R188, R189), through rings (R137, R138), timers, the grace (R127, R143) and the turns of a
withdraw (R144). -/

namespace Sys2Proof.Machine

set_option Elab.async false

section

variable {P Q : Prop} {X : Line → Bool} {s t : State} {n : Line} {k : Nat} {cause : Cause}

theorem withLine_of_true (hX : X n = true) : withLine X n = X := by
  funext m
  by_cases hm : m = n
  · rw [hm, withLine_self, hX]
  · rw [withLine_of_ne hm]

theorem exceptLine_withLine_eq (X : Line → Bool) (n : Line) : exceptLine (withLine X n) n = exceptLine X n := by
  funext m
  by_cases hm : m = n
  · rw [hm, exceptLine_self, exceptLine_self]
  · rw [exceptLine_of_ne hm, exceptLine_of_ne hm, withLine_of_ne hm]

theorem exceptLine_of_false (hX : X n = false) : exceptLine X n = X := by
  funext m
  by_cases hm : m = n
  · rw [hm, exceptLine_self, hX]
  · rw [exceptLine_of_ne hm]

theorem CallTied.tied (h : CallTied X s) : Tied False True X s := ⟨False.elim, fun _ => h⟩

/-! ## The call (R188, R189) -/

theorem tied_settleEnd {c : CallRec} (h : Tied P Q X s) : Tied P Q X (settleEnd n c s) := by
  obtain ⟨x, e, m, heq, -⟩ := takesCharge_testExhausted c.account s
  unfold settleEnd
  rw [heq]
  exact h.same rfl rfl

theorem tied_settleCall {c : CallRec} (h : Tied P Q X s) : Tied P Q X (settleCall n c cause s).1 := by
  obtain ⟨x, e, m, heq, -⟩ := takesCharge_settleCall n c cause s
  rw [heq]
  exact h.same rfl rfl

theorem tied_endCall (h : Tied P Q X s) : Tied P Q X (endCall n cause s) := by
  unfold endCall
  split
  · exact h
  · split
    · refine tied_settleEnd ?_
      split
      · exact tied_settleCall h
      · exact tied_modifyDest (fun _ => ⟨rfl, rfl, id⟩) (tied_settleCall h)
    · exact h.same rfl rfl

theorem lne_endCall (n : Line) (cause : Cause) (s : State) : (endCall n cause s).lne = s.lne := by
  have hend (c : CallRec) (u : State) : (settleEnd n c u).lne = u.lne := by
    obtain ⟨x, e, m, heq, -⟩ := takesCharge_testExhausted c.account u
    unfold settleEnd
    rw [heq]
    rfl
  unfold endCall
  split
  · rfl
  next c _ =>
    obtain ⟨x, e, m, heq, -⟩ := takesCharge_settleCall n c cause s
    split
    · rw [hend]
      split
      · rw [heq]
      · obtain ⟨ds, m', hseq⟩ := modifyDest_frame _ (fun d => { d with logSeq := some (settleCall n c cause s).2 })
          (settleCall n c cause s).1
        rw [destSequence, hseq, heq]
    · rfl

/-! ## The reports of a session's end (R94, R95, R136) -/

/-- A line that holds no outbound session may be left out or not. -/
theorem CallTied.leftOut (h : CallTied X s) (hdir : (s.line n).dir ≠ some .outbound) : CallTied (withLine X n) s := by
  cases hX : X n with
  | true => rwa [withLine_of_true hX]
  | false =>
    refine h.without ?_
    cases hd : (s.line n).dest with
    | none => exact (h.free n hX hd).1
    | some k => exact absurd (h.call n k hX hd).1 hdir

/-- The session of line `n` runs to destination `k`: with it, the line counts no more. -/
theorem callTied_destSessionEnd (h : CallTied X s) (hX : X n = false) (hd : (s.line n).dest = some k) :
    CallTied (withLine X n) (destSessionEnd k cause s) := by
  obtain ⟨-, -, x, hk, -, -, hsome⟩ := h.call n k hX hd
  obtain ⟨r, hr⟩ := Option.isSome_iff_exists.1 hsome
  have hleft : Tied False True (withLine X n) (putJob x.job { r with sessions := r.sessions - 1 } s) :=
    (h.leave hX hd hk hr rfl).tied
  unfold destSessionEnd
  rw [hk]
  dsimp only
  rw [modifyJob_of_some hr]
  refine (tied_moveDest (fun _ m hm hm' => ?_) (tied_modifyDest
    (f := fun d => { d with lastCause := some cause }) (fun _ => ⟨rfl, rfl, id⟩) hleft)).calls trivial
  obtain ⟨ds, mem, heq⟩ := modifyDest_frame k (fun d => { d with lastCause := some cause })
    (putJob x.job { r with sessions := r.sessions - 1 } s)
  rw [heq] at hm'
  obtain ⟨hXm, hmn⟩ := withLine_false_iff.1 hm
  exact (h.apart m n k k hXm hX hmn hm' hd).1 rfl

/-- No job and no destination is left. -/
def State.jobless (s : State) : Prop := (∀ j, s.job? j = none) ∧ ∀ k, s.dest? k = none

theorem Wanes.jobless {w : Wane} (h : Wanes w s t) (hs : s.jobless) : t.jobless :=
  ⟨fun j => h.job j (hs.1 j), fun k => h.dest_none (hs.2 k)⟩

/-- Once its end is reported, a line counts no more; one that did not count before has no destination left to report to. -/
theorem callTied_endReports (h : CallTied X s) (hout : X n = true → s.jobless) : CallTied (withLine X n) (endReports n cause s) := by
  have hcall : CallTied X (occasion (endCall n cause s)) := (tied_occasion (tied_endCall h.tied)).calls trivial
  have hline : (occasion (endCall n cause s)).line n = s.line n := by
    rw [State.line, occasion_lne, lne_endCall]
    rfl
  unfold endReports
  dsimp only
  split
  next hdir => exact h.leftOut (by rw [hdir]; exact fun e => nomatch e)
  next hdir =>
    have hearly : Tied False True (withLine X n) (closeEarly n s) :=
      tied_closeEarly (h.leftOut (by rw [hdir]; exact fun e => nomatch e)).tied
    split
    · exact hearly.calls trivial
    · exact (tied_endInbound hearly).calls trivial
  next hdir =>
    cases hX : X n with
    | true =>
      have hwanes : Wanes ⟨false, some n, none⟩ s (occasion (endCall n cause s)) :=
        wanes_occasion (wanes_endCall (fun e => nomatch e) (Wanes.refl _ s))
      obtain ⟨hjob, hdest⟩ := hwanes.jobless (hout hX)
      rw [withLine_of_true hX]
      split
      next k j _ _ =>
        have hnone : destSessionEnd k cause (occasion (endCall n cause s)) = occasion (endCall n cause s) := by
          rw [destSessionEnd, hdest]
        rw [hnone, testJob, hjob]
        exact hcall
      · exact hcall
    | false =>
      cases hd : (s.line n).dest with
      | none => exact absurd hdir (h.free n hX hd).2
      | some k =>
        obtain ⟨-, -, x, -, -, hjob, -⟩ := h.call n k hX hd
        rw [hjob]
        exact (tied_testJob (callTied_destSessionEnd hcall hX (by rw [hline]; exact hd)).tied).calls trivial

/-! ## The end of a session (R136) -/

/-- A line that did not count takes the record of one without a session, and counts. -/
theorem Tied.newLine {r : LineRec} (h : Tied P Q (withLine X n) s) (e : SetsLine n r s t)
    (hr : r.dest = none ∧ r.job = none ∧ r.dir ≠ some .outbound) : Tied P Q (exceptLine X n) t := by
  refine h.mapCalls e.segView fun _ hc => ?_
  rw [← exceptLine_withLine_eq]
  obtain ⟨hdest, hjob, hdir⟩ := hr
  exact (hc.setsLine_out e (withLine_self X n)).with (withLine_self X n) (by rw [e.line_self, hdest]) (by rw [e.line_self, hjob])
    (by rw [e.line_self]; exact hdir)

theorem tied_endSession {dst : LineState} (hout : Q → X n = true → s.jobless) (h : Tied P Q X s) :
    Tied P Q (exceptLine X n) (endSession n cause dst s) := by
  have hreports : Tied P Q (withLine X n) (endReports n cause s) :=
    ⟨fun hp => (h.segs hp).wanes (wanes_endReports (w := s.sessionWane n) rfl (.inl rfl) (fun hd => if_pos hd) (Wanes.refl _ s)),
      fun hq => callTied_endReports (h.calls hq) (hout hq)⟩
  have hover : Tied P Q (exceptLine X n) (writeLine n (setLine n { LineRec.default with state := dst, cause := some cause }
      (giveUpStore n (endReports n cause s)))) :=
    (tied_giveUpStore hreports).newLine (setsLine_writeLine n _ _) ⟨rfl, rfl, fun e => nomatch e⟩
  exact tied_ite (tied_occasion hover) hover

/-- The end of a session on a line that counts. -/
theorem tied_endSession_of_counts {dst : LineState} (hX : X n = false) (h : Tied P Q X s) :
    Tied P Q X (endSession n cause dst s) := by
  have hend := tied_endSession (n := n) (cause := cause) (dst := dst) (fun _ e => absurd (hX.symm.trans e) Bool.false_ne_true) h
  rwa [exceptLine_of_false hX] at hend

/-! ## Messages, timers and the grace (R124, R127, R136, R143) -/

/-- A line that is in no session changes between IDLE and UNAVAILABLE. -/
theorem tied_turnLine {st : LineState} (hn : (s.line n).state.inSession = false) (h : Tied P Q X s) :
    Tied P Q X (modifyLine n (fun r => { r with state := st }) s) :=
  h.setsLine (setsLine_modifyLine n _ s) ⟨rfl, rfl, rfl, fun e => absurd (hn.symm.trans e) Bool.false_ne_true⟩

theorem tied_onLineReady (h : Tied P Q X s) : Tied P Q X (onLineReady n s) := by
  unfold onLineReady
  split
  next hn => exact tied_occasion (tied_turnLine (by rw [hn.2]; rfl) h)
  · exact h

theorem tied_onLineNotReady (h : Tied P Q noLine s) : Tied P Q noLine (onLineNotReady n s) := by
  unfold onLineNotReady
  split
  next hn => exact tied_turnLine (by rw [hn]; rfl) h
  · exact tied_ite (tied_endSession_of_counts rfl h) h

theorem tied_onRemoteClear (h : Tied P Q noLine s) : Tied P Q noLine (onRemoteClear n s) :=
  tied_ite (tied_endSession_of_counts rfl h) h

theorem tied_onCleared (h : Tied P Q noLine s) : Tied P Q noLine (onCleared n s) :=
  tied_ite (tied_endSession_of_counts rfl h) h

theorem tied_timerExpires (h : Tied P Q X s) : Tied P Q X (timerExpires n s) := by
  unfold timerExpires
  cases (s.line n).state
  case dataWait => exact tied_abandonLine h
  case unavailable => exact h
  case idle => exact h
  case rxCheck => exact h
  case clearing => exact h
  all_goals exact tied_clearLine h

theorem tied_lne {l : Lne} (hl : l.lines = s.lne.lines) (h : Tied P Q X s) : Tied P Q X { s with lne := l } :=
  h.same rfl (by rw [State.callView, hl]; rfl)

theorem tied_lneLinkDown (h : Tied P Q X s) : Tied P Q X (lneLinkDown s) := by
  unfold lneLinkDown
  dsimp only
  generalize hu : allLines.foldl _ s = u
  have hlines : Tied P Q X u := by
    rw [← hu]
    refine h.foldl fun t m ht => ?_
    split
    next hm => exact tied_turnLine (by rw [hm]; rfl) ht
    · exact ht
  exact tied_ite hlines (tied_lne rfl hlines)

theorem tied_endAllSessions (h : Tied P Q noLine s) : Tied P Q noLine (endAllSessions cause s) :=
  h.foldl fun _ _ ht => tied_ite (tied_endSession_of_counts rfl ht) ht

/-! ## Rings (R137, R138) -/

theorem tied_refuseRing {why : RingRefusal} (h : Tied P Q X s) : Tied P Q X (refuseRing n why s) := tied_post (tied_hand h)

/-- An inbound session begins on a line without one. -/
theorem tied_decideRing {called ident : List Byte} (hn : (s.line n).state.inSession = false) (h : Tied P Q noLine s) :
    Tied P Q noLine (decideRing n called ident s) := by
  have hleft : Tied P Q (withLine noLine n) s := h.mapCalls rfl fun _ hc => hc.leftOut (hc.free n rfl (hc.dest_of_idle rfl hn)).2
  unfold decideRing
  dsimp only
  split
  next d _ _ =>
    have hnew := (tied_hand (n := n) (k := .answer) (tied_answerDoc (n := n) (d := d) (r := s.routeOf called) (called := called)
      (ident := ident) hleft)).newLine (setsLine_setLine n { LineRec.default with
        dir := some .inbound, doc := some d
        cause := ((hand n .answer (answerDoc n d (s.routeOf called) called ident s)).line n).cause } _)
      ⟨rfl, rfl, fun e => nomatch e⟩
    rw [exceptLine_of_false rfl] at hnew
    exact tied_post (tied_enterState rfl (fun _ => ⟨rfl, rfl, rfl⟩) hnew)
  · exact tied_refuseRing h
  · exact tied_refuseRing h

theorem tied_onRing {called ident : List Byte} (h : Tied P Q noLine s) : Tied P Q noLine (onRing n called ident s) := by
  have hidle (t : State) (hn : (t.line n).state = .idle) (ht : Tied P Q noLine t) :
      Tied P Q noLine (ringOnIdle n called ident t) :=
    tied_ite (tied_decideRing (by rw [hn]; rfl) ht) (tied_refuseRing ht)
  unfold onRing
  split
  · exact h
  · split
    next hn => exact hidle s hn h
    · exact hidle _ (by rw [endSession_line]) (tied_endSession_of_counts rfl h)
    · exact tied_refuseRing h

/-! ## A withdraw (R17, R103, R144) -/

/-- Without jobs and destinations, and with every line left out, there is nothing to mind. -/
theorem callTied_of_jobless (hjobs : s.dju.jobs = []) (hdests : s.dju.dests = []) (hX : ∀ m, X m = true) : CallTied X s where
  jobs := by rw [hjobs]; rfl
  dests := by rw [hdests]; rfl
  free m hm := absurd ((hX m).symm.trans hm) Bool.noConfusion
  call m _ hm := absurd ((hX m).symm.trans hm) Bool.noConfusion
  apart m _ _ _ hm := absurd ((hX m).symm.trans hm) Bool.noConfusion
  count j r hr := by
    rw [State.job?, hjobs] at hr
    cases hr

/-- The lines of a list, which have yet to take their turns. -/
def lineIn (l : List Line) : Line → Bool := fun m => decide (m ∈ l)

theorem exceptLine_lineIn {l : List Line} (hn : n ∉ l) : exceptLine (lineIn (n :: l)) n = lineIn l := by
  funext m
  by_cases hm : m = n
  · rw [hm, exceptLine_self]
    exact (decide_eq_false hn).symm
  · rw [exceptLine_of_ne hm]
    simp [lineIn, hm]

theorem lineIn_allLines (m : Line) : lineIn allLines m = true := decide_eq_true (mem_allLines m)

/-- The record of a line without a session. -/
def LineRec.quiet (r : LineRec) : Prop := r.state.inSession = false → r.dest = none ∧ r.job = none ∧ r.dir ≠ some .outbound

theorem LineRec.staysOr.quiet {r r' : LineRec} (h : r.staysOr r') (hr : r.quiet) : r'.quiet := fun hr' => by
  by_cases hd : r.state = .dataWait
  · exact absurd ((h.2 hd).symm.trans hr') Bool.noConfusion
  · rw [h.1 hd] at hr' ⊢
    exact hr hr'

/-- The turn of a line, after which it counts again. -/
theorem tied_withdrawOne (hout : Q → s.jobless) (hquiet : Q → (s.line n).quiet) (hX : X n = true) (h : Tied P Q X s) :
    Tied P Q (exceptLine X n) (withdrawOne s n) := by
  cases hn : (s.line n).state.inSession with
  | false =>
    have hturn : Tied P Q X (withdrawOne s n) := by
      unfold withdrawOne
      rw [hn, if_neg Bool.false_ne_true]
      exact tied_ite (tied_turnLine hn h) h
    refine hturn.mapCalls rfl fun hq hc => ?_
    obtain ⟨hdest, hjob, hdir⟩ := hquiet hq hn
    obtain ⟨-, hself, -⟩ := withdrawOne_of_noSession hn
    rw [LineRec.withdrawn, hn, if_neg Bool.false_ne_true] at hself
    exact hc.with hX (by rw [hself]; exact hdest) (by rw [hself]; exact hjob) (by rw [hself]; exact hdir)
  | true =>
    have hhand : handWithdraw n s = { s with sli := (handWithdraw n s).sli } := onlySli_handWithdraw n s
    rw [withdrawOne_of_session hn]
    refine tied_endSession (fun hq _ => ?_) ?_
    · rw [hhand]
      exact hout hq
    · rw [hhand]
      exact tied_sli h

/-- What a turn leaves alone: no job and no destination comes, and a line without a session stays so. -/
theorem withdrawOne_leaves (hout : s.jobless) (n : Line) :
    (withdrawOne s n).jobless ∧ ∀ m, m ≠ n → (s.line m).quiet → ((withdrawOne s n).line m).quiet := by
  cases hn : (s.line n).state.inSession with
  | false =>
    obtain ⟨⟨hframe, -⟩, -, hothers⟩ := withdrawOne_of_noSession hn
    refine ⟨?_, fun m hm hq => by rw [hothers m hm]; exact hq⟩
    rw [hframe]
    exact hout
  | true =>
    have hhand : handWithdraw n s = { s with sli := (handWithdraw n s).sli } := onlySli_handWithdraw n s
    have hwanes := wanes_endSession n ((s.line n).causeOr .withdrawn) .unavailable (handWithdraw n s)
    rw [withdrawOne_of_session hn]
    refine ⟨hwanes.jobless (by rw [hhand]; exact hout), fun m hm hq => ?_⟩
    refine (hwanes.line m fun e => hm (Option.some.inj e).symm).quiet ?_
    rw [hhand]
    exact hq

theorem tied_withdrawOnes {l : List Line} (hl : l.Nodup) (hout : Q → s.jobless) (hquiet : Q → ∀ m ∈ l, (s.line m).quiet)
    (h : Tied P Q (lineIn l) s) : Tied P Q noLine (l.foldl withdrawOne s) := by
  induction l generalizing s with
  | nil => exact h
  | cons n l ih =>
    obtain ⟨hn, hl⟩ := List.nodup_cons.1 hl
    have hone := tied_withdrawOne (n := n) hout (fun hq => hquiet hq n List.mem_cons_self)
      (decide_eq_true List.mem_cons_self) h
    rw [exceptLine_lineIn hn] at hone
    refine ih hl (fun hq => (withdrawOne_leaves (hout hq) n).1) (fun hq m hm => ?_) hone
    exact (withdrawOne_leaves (hout hq) n).2 m (fun e => hn (e ▸ hm)) (hquiet hq m (List.mem_cons_of_mem _ hm))

/-- Jobs and destinations are discarded, and the lines take their turns. -/
theorem tied_withdrawLines (h : Tied P Q noLine s) : Tied P Q noLine (withdrawLines (discardJobs s)) := by
  obtain ⟨x, docs, c, m, heq⟩ := discardJobs_frame s
  have hsegs : Tied P False noLine (discardJobs s) := by
    unfold discardJobs
    dsimp only
    have hmarked : Tied P False noLine ((allLines.filterMap fun n => (s.line n).dest).foldl
        (fun s k => modifyDest k (fun d => { d with lastCause := some .withdrawn }) s) s) :=
      Tied.foldl (fun _ _ => tied_modifyDest fun _ => ⟨rfl, rfl, id⟩) ⟨h.segs, False.elim⟩
    generalize (allLines.filterMap fun n => (s.line n).dest).foldl _ s = u at hmarked ⊢
    exact (Tied.foldl (fun _ _ => tied_takeHoldsOff) hmarked).mapCalls rfl fun e => e.elim
  have hdiscarded : Tied P Q (lineIn allLines) (discardJobs s) :=
    ⟨hsegs.segs, fun _ => callTied_of_jobless (by rw [heq]) (by rw [heq]) lineIn_allLines⟩
  have hturns := tied_withdrawOnes allLines_nodup (fun _ => ?_) (fun hq n _ hn => ?_) hdiscarded
  · rw [withdrawLines_eq]
    generalize allLines.foldl withdrawOne (discardJobs s) = u at hturns ⊢
    exact tied_lne rfl hturns
  · rw [heq]
    exact ⟨fun _ => rfl, fun _ => rfl⟩
  · rw [heq] at hn ⊢
    have hdest := (h.calls hq).dest_of_idle (n := n) rfl hn
    exact ⟨hdest, (h.calls hq).free n rfl hdest⟩

end

end Sys2Proof.Machine
end

section
/-! PROOFS. The laws of the segments and of the outbound sessions through the messages from the shelf (R118, R125), the link's
transmitter and receiver (R104 to R120), and the time base (R175). -/

namespace Sys2Proof.Machine

set_option Elab.async false

section

variable {P Q : Prop} {X : Line → Bool} {s : State} {n : Line} {sl : Slot}

/-! ## Messages from the shelf (R118, R125) -/

theorem tied_deliver {act : State → State} (hact : ∀ t, Tied P Q X t → Tied P Q X (act t)) (h : Tied P Q X s) :
    Tied P Q X (deliver n act s) := tied_ite h (hact _ (tied_ite (tied_restartTimer h) h))

theorem tied_delivered {act : State → State} (hact : ∀ t, Tied P Q X t → Tied P Q X (act t)) (h : Tied P Q X s) :
    Tied P Q X (delivered n act s) := tied_ite (tied_deliver hact h) h

/-- What a message of any kind does. -/
theorem tied_messageAct {m : List Byte} {act : State → State} (ha : messageAct m n = some act) {t : State}
    (h : Tied P Q noLine t) : Tied P Q noLine (act t) := by
  unfold messageAct at ha
  dsimp only at ha
  split at ha
  case h_4 =>
    obtain ⟨f, -, rfl⟩ := Option.map_eq_some_iff.1 ha
    exact tied_onRing h
  case h_14 =>
    obtain ⟨f, -, rfl⟩ := Option.map_eq_some_iff.1 ha
    exact h
  case h_18 => cases ha
  all_goals obtain ⟨-, ⟨⟩⟩ := Option.ite_none_right_eq_some.1 ha
  · exact tied_onLineReady h
  · exact tied_onLineNotReady h
  · exact tied_onSeized h
  · exact tied_onAnswered h
  · exact tied_onCallFailed h
  · exact tied_onCallFailed h
  · exact tied_onCallFailed h
  · exact tied_onPartialOk h
  · exact tied_onRepeat h
  · exact tied_onPageConfirmed h
  · exact tied_onPageRejected h
  · exact tied_onRxPageBegin h
  · exact tied_onRxPartialEnd h
  · exact tied_onRemoteClear h
  · exact tied_onCleared h

theorem tied_deliverTo {m : List Byte} (h : Tied P Q noLine s) : Tied P Q noLine (deliverTo m s n) := by
  unfold deliverTo
  split
  · exact h
  next ha => exact tied_deliver (fun _ => tied_messageAct ha) h

theorem tied_deliverMessage {m : List Byte} (h : Tied P Q noLine s) : Tied P Q noLine (deliverMessage m s) := by
  unfold deliverMessage
  split
  · exact h.foldl fun _ _ => tied_deliverTo
  · split
    · exact h
    · exact tied_deliverTo h

/-! ## The link going up and down (R107, R111, R112, R117) -/

theorem tied_suspendSending (h : Tied P Q X s) : Tied P Q X (suspendSending s) :=
  Tied.foldl (fun _ _ => tied_blockFinished) (tied_sli h)

theorem tied_postLinkState (h : Tied P Q X s) : Tied P Q X (postLinkState s) := tied_post h

theorem tied_linkDown (h : Tied P Q X s) : Tied P Q X (linkDown s) :=
  tied_writeLinkStatus (tied_postLinkState (tied_lneLinkDown (tied_suspendSending (tied_sli h))))

theorem tied_linkGoesUp (h : Tied P Q X s) : Tied P Q X (linkGoesUp s) :=
  tied_writeLinkStatus (tied_postLinkState (h.same rfl rfl))

theorem tied_frameLoss {st : FrameState} (h : Tied P Q X s) : Tied P Q X (frameLoss st s) :=
  tied_ite (tied_linkDown (tied_sli h)) (tied_writeLinkStatus (tied_sli h))

/-! ## The transmitter (R104, R117, R119) -/

theorem tied_messageSent (h : Tied P Q X s) : Tied P Q X (messageSent s) := by
  unfold messageSent
  split
  · exact h
  · split
    · exact h
    · split
      · exact tied_sli h
      · dsimp only
        split
        · exact tied_sli h
        · split
          · exact tied_sli h
          · exact tied_sli h

theorem tied_blockByteSent (h : Tied P Q X s) : Tied P Q X (blockByteSent s n) := by
  unfold blockByteSent
  split
  · exact h
  · exact tied_ite (tied_sli h) (tied_blockFinished (tied_sli h))

theorem tied_txFrame (h : Tied P Q X s) : Tied P Q X (txFrame s) := by
  have hbytes (u : State) (l : List Line) (hu : Tied P Q X u) : Tied P Q X (l.foldl blockByteSent (messageSent u)) :=
    Tied.foldl (fun _ _ => tied_blockByteSent) (tied_messageSent hu)
  unfold txFrame
  dsimp only
  split
  · exact tied_writeLinkStatus (hbytes _ _ (tied_sli h))
  · exact hbytes _ _ (tied_sli h)

/-! ## The receiver (R106 to R113, R118, R120) -/

theorem tied_oddSlot0 {b : Byte} (h : Tied P Q X s) : Tied P Q X (oddSlot0 b s) := by
  unfold oddSlot0
  split
  · exact tied_ite (tied_suspendSending (tied_sli h)) (tied_sli h)
  · exact tied_ite (tied_ite (tied_frameLoss (tied_sli h)) (tied_sli h)) h

theorem tied_evenSlot0 {b : Byte} (h : Tied P Q X s) : Tied P Q X (evenSlot0 b s) :=
  tied_ite (tied_sli h) (tied_ite (tied_frameLoss (tied_sli h)) (tied_sli h))

theorem tied_blockByte {b : Byte} (h : Tied P Q X s) : Tied P Q X (blockByte s n b) := by
  unfold blockByte
  dsimp only
  split
  · exact h
  · exact tied_ite (tied_sli h) (tied_sli (tied_sli h))

theorem tied_messageComplete {m : List Byte} {failed : Bool} (h : Tied P Q X s) : Tied P Q X (messageComplete m failed s) := by
  unfold messageComplete
  dsimp only
  split
  · exact tied_sli h
  · exact tied_sli (tied_sli h)

theorem tied_messageByte {b : Byte} (h : Tied P Q X s) : Tied P Q X (messageByte b s) := by
  unfold messageByte
  split
  · exact tied_ite h (tied_ite (tied_sli h) (tied_sli h))
  · exact tied_ite (tied_sli h) h
  · exact tied_ite (tied_sli h) (tied_messageComplete h)

theorem tied_takeItem {i : RxItem} (h : Tied P Q noLine s) : Tied P Q noLine (takeItem s i) := by
  unfold takeItem
  split
  · exact tied_ite h (tied_deliverMessage h)
  · unfold judgeBlock
    split
    · exact tied_ite h (tied_goodBlock (tied_sli h))
    · exact h

theorem tied_multiframeEnd (h : Tied P Q noLine s) : Tied P Q noLine (multiframeEnd s) :=
  tied_ite (tied_ite (Tied.foldl (fun _ _ => tied_takeItem) (tied_sli (tied_sli h))) (tied_sli (tied_sli h))) h

theorem tied_mfContents {slots : List Byte} (h : Tied P Q X s) : Tied P Q X (mfContents slots s) :=
  tied_sli (tied_messageByte (Tied.foldl (fun _ _ => tied_blockByte) (tied_sli h)))

theorem tied_noteMark {mark : Bool} (h : Tied P Q X s) : Tied P Q X (noteMark mark s) := tied_sli h

theorem tied_mfFrame {slots : List Byte} {odd : Bool} (h : Tied P Q X s) : Tied P Q X (mfFrame slots odd s) := by
  unfold mfFrame
  dsimp only
  split
  · exact tied_ite (tied_sli h)
      (tied_ite (tied_mfContents (tied_linkGoesUp (tied_noteMark (tied_sli h)))) (tied_noteMark (tied_sli h)))
  · have hnoted (mark : Bool) : Tied P Q X (if odd then s else noteMark mark s) := tied_ite h (tied_noteMark h)
    exact tied_ite (tied_linkDown (tied_sli (hnoted _))) (tied_mfContents (tied_ite (tied_sli (hnoted _)) (hnoted _)))

theorem tied_syncFrame {slots : List Byte} (h : Tied P Q noLine s) : Tied P Q noLine (syncFrame slots s) := by
  have hcontents (u : State) (odd : Bool) (hu : Tied P Q noLine u) :
      Tied P Q noLine (if u.sli.frame = .sync then mfFrame slots odd u else u) := tied_ite (tied_mfFrame hu) hu
  have hslot (u : State) (odd : Bool) (b : Byte) (hu : Tied P Q noLine u) :
      Tied P Q noLine (if odd then oddSlot0 b u else evenSlot0 b u) := tied_ite (tied_oddSlot0 hu) (tied_evenSlot0 hu)
  exact hcontents _ _ (hslot _ _ _ (tied_sli (tied_multiframeEnd h)))

theorem tied_rxFrame {slots : List Byte} (h : Tied P Q noLine s) : Tied P Q noLine (rxFrame slots s) := by
  unfold rxFrame checkFailed enterSync
  split
  · exact h
  · exact h
  · exact tied_ite (tied_writeLinkStatus (tied_sli h)) (tied_writeLinkStatus (tied_sli h))
  · split
    · exact tied_ite (tied_sli h) (tied_writeLinkStatus (tied_sli h))
    · exact tied_syncFrame (tied_writeLinkStatus (tied_sli h))
    · exact tied_sli h
  · exact tied_syncFrame h

theorem tied_linkSetup (h : Tied P Q X s) : Tied P Q X (linkSetup sl s).1 := by
  unfold linkSetup
  dsimp only
  split
  · exact h
  · split
    · exact h
    · exact tied_sli h

theorem tied_linkResync (h : Tied P Q X s) : Tied P Q X (linkResync sl s).1 := by
  have hhunt : Tied P Q X (writeLinkStatus { s with sli := { s.sli with frame := .hunt, searchFrom := none, syncIn := none } }) :=
    tied_writeLinkStatus (tied_sli h)
  unfold linkResync
  dsimp only
  split
  · exact tied_frameLoss h
  · exact tied_sli h
  · exact hhunt
  · exact hhunt
  · exact hhunt

theorem tied_clearLinkCounters (h : Tied P Q X s) : Tied P Q X (clearLinkCounters sl s).1 := tied_writeLinkStatus (tied_sli h)

theorem tied_setLinePlan (h : Tied P Q X s) : Tied P Q X (setLinePlan sl s).1 := by
  unfold setLinePlan
  split
  · exact h
  · exact h.same rfl rfl

theorem tied_setLineTimers (h : Tied P Q X s) : Tied P Q X (setLineTimers sl s).1 := h.same rfl rfl

/-! ## The time base (R175) -/

/-- Every line's record may change in what the law does not speak of. -/
theorem CallTied.goOn {t : State} (h : CallTied X s) (hline : ∀ m, (s.line m).goesOn (t.line m)) (hjobs : t.dju.jobs = s.dju.jobs)
    (hdests : t.dju.dests = s.dju.dests) : CallTied X t := by
  have hdest (m : Line) : (t.line m).dest = (s.line m).dest := (hline m).1
  have hjob (m : Line) : (t.line m).job = (s.line m).job := (hline m).2.1
  have hdir (m : Line) : (t.line m).dir = (s.line m).dir := (hline m).2.2.1
  have hjob? (j : Nat) : t.job? j = s.job? j := by rw [State.job?, hjobs]; rfl
  have hdest? (k : Nat) : t.dest? k = s.dest? k := by rw [State.dest?, hdests]; rfl
  have hcallers (j : Nat) : t.callers X j = s.callers X j := by simp only [State.callers, hjob]
  refine ⟨by rw [hjobs]; exact h.jobs, by rw [hdests]; exact h.dests, fun m hm hd => ?_, fun m k hm hd => ?_,
    fun m m' k k' hm hm' hne hd hd' => ?_, fun j r hr => ?_⟩
  · rw [hjob, hdir]
    exact h.free m hm (by rw [← hdest]; exact hd)
  · obtain ⟨hout, hin, hrest⟩ := h.call m k hm (by rw [← hdest]; exact hd)
    simp only [hdir, hjob, hjob?, hdest?]
    exact ⟨hout, (hline m).2.2.2 hin, hrest⟩
  · rw [hdest?, hdest?]
    exact h.apart m m' k k' hm hm' hne (by rw [← hdest]; exact hd) (by rw [← hdest]; exact hd')
  · rw [hcallers]
    exact h.count j r (by rw [← hjob?]; exact hr)

theorem tied_tickTimers (h : Tied P Q X s) : Tied P Q X (tickTimers s) := by
  refine h.mapCalls ?_ fun _ hc => hc.goOn (fun m => ?_) ?_ ?_
  · rw [tickTimers_eq]
    rfl
  · rw [tickTimers_line]
    split
    · exact ⟨rfl, rfl, rfl, id⟩
    · exact ⟨rfl, rfl, rfl, id⟩
  · rw [tickTimers_eq]
  · rw [tickTimers_eq]

theorem tied_secondPassed (h : Tied P Q X s) : Tied P Q X (secondPassed s) := tied_ite (tied_occasion h) h

theorem tied_tenthEnds (h : Tied P Q X s) : Tied P Q X (tenthEnds s) := by
  have hticked := tied_tickTimers h
  unfold tenthEnds tickCalls
  generalize tickTimers s = u at hticked
  dsimp only
  split
  · exact tied_secondPassed (hticked.same rfl rfl)
  · exact hticked.same rfl rfl

end

end Sys2Proof.Machine
end

section
/-! PROOFS. The laws of the segments and of the outbound sessions through the commands of the charge unit (R176 to R191), bus
accesses, commits, RUN entry and withdraws (R5 to R18), and a part that starts afresh (R2 to R4). -/

namespace Sys2Proof.Machine

set_option Elab.async false

section

variable {P Q : Prop} {X : Line → Bool} {s : State} {sl : Slot}

/-! ## Commands of the charge unit (R176 to R191), and CLEAR_PATH_COUNT -/

theorem tied_setClock (h : Tied P Q X s) : Tied P Q X (setClock sl s).1 := tied_occasion (tied_shiftNextTry (tied_chg h))

theorem tied_putBand {hour band : Nat} (h : Tied P Q X s) : Tied P Q X (putBand hour band s) := h.same rfl rfl

theorem tied_loadBandHours (h : Tied P Q X s) : Tied P Q X (loadBandHours sl s).1 :=
  tied_refusal h (tied_refusal h (h.foldl fun _ _ => tied_putBand))

theorem tied_loadTariffPrefix (h : Tied P Q X s) : Tied P Q X (loadTariffPrefix sl s).1 := by
  have hdrop (i : Nat) : Tied P Q X (dropPrefix i s) := h.same rfl rfl
  have hput (i : Nat) (p : TariffPrefix) : Tied P Q X (putPrefix i p s) := h.same rfl rfl
  unfold loadTariffPrefix
  split
  · exact h
  · dsimp only
    split
    · split
      · exact hdrop _
      · exact hput ..
    · split
      · exact h
      · split
        · exact h
        · exact hput ..

theorem tied_loadZoneRate (h : Tied P Q X s) : Tied P Q X (loadZoneRate sl s).1 := by
  have hput (i : Nat) (r : Rate) : Tied P Q X (putRate i r s) := h.same rfl rfl
  exact tied_refusal h (tied_refusal h (tied_refusal h (hput ..)))

theorem tied_putAccount {i : Nat} {a : Account} (h : Tied P Q X s) : Tied P Q X (putAccount i a s) := h.same rfl rfl

theorem tied_testExhausted {i : Nat} (h : Tied P Q X s) : Tied P Q X (testExhausted i s) :=
  tied_ite (tied_post (tied_putAccount h)) (tied_ite h (tied_putAccount h))

theorem tied_setAccount (h : Tied P Q X s) : Tied P Q X (setAccount sl s).1 :=
  tied_refusal h (tied_refusal h (tied_refusal h (tied_refusal h (tied_occasion (tied_testExhausted (tied_putAccount h))))))

theorem tied_clearSpent (h : Tied P Q X s) : Tied P Q X (clearSpent sl s).1 :=
  tied_refusal h (tied_occasion (tied_putAccount h))

theorem tied_putLogState {oldest inUse next : Nat} (h : Tied P Q X s) : Tied P Q X (putLogState oldest inUse next s) :=
  h.same rfl rfl

theorem tied_ackChargeLog (h : Tied P Q X s) : Tied P Q X (ackChargeLog sl s).1 := by
  have hrearm (t : State) (ht : Tied P Q X t) : Tied P Q X (rearmNearFull t) := tied_ite (tied_chg ht) ht
  unfold ackChargeLog
  dsimp only
  split
  · exact h
  · split
    · exact tied_occasion (hrearm _ (tied_putLogState h))
    · split
      · exact h
      · exact h

theorem tied_clearPathCount (h : Tied P Q X s) : Tied P Q X (clearPathCount sl s).1 := tied_writePathStatus (h.same rfl rfl)

/-! ## Withdraws and commits (R6 to R8, R17, R18) -/

theorem tied_writeStatus {st : Status} {value : Nat} (h : Tied P Q X s) : Tied P Q X (writeStatus st value s) := tied_store h

theorem tied_startWithdraw (hstate : s.rgw.state ≠ .pass) (h : Tied P Q noLine s) : Tied P Q noLine (startWithdraw s) := by
  have hstart : Tied P Q noLine { s with rgw := { s.rgw with state := .withdrawing, noted := false } } :=
    ⟨fun hp => ⟨(h.segs hp).pages, fun _ => (h.segs hp).segs hstate⟩, fun hq => (h.calls hq).view rfl⟩
  exact tied_post (tied_withdrawLines (tied_withdrawPrint (tied_scn (tied_cutScan hstart))))

/-- In PASS the region map may change. -/
theorem Tied.rgw_of_pass {g : Rgw} (hstate : g.state = .pass) (h : Tied P Q X s) : Tied P Q X { s with rgw := g } :=
  ⟨fun hp => ⟨(h.segs hp).pages, fun hne => absurd hstate hne⟩, fun hq => (h.calls hq).view rfl⟩

theorem tied_commitAnchor (hstate : s.rgw.state = .pass) (h : Tied P Q X s) : Tied P Q X (commitAnchor s) := by
  unfold commitAnchor
  dsimp only
  split
  · exact tied_writeStatus ((tied_writeStatus h).rgw_of_pass hstate)
  · exact (tied_writeStatus h).rgw_of_pass hstate

theorem tied_commitWritten (h : Tied P Q noLine s) : Tied P Q noLine (commitWritten s) := by
  unfold commitWritten
  dsimp only
  split
  next hpass =>
    exact tied_ite (tied_ite (h.same rfl rfl) h) (tied_ite (tied_commitAnchor hpass h) h)
  next hrun =>
    exact tied_ite (tied_ite (tied_startWithdraw (by rw [hrun]; exact nofun) h) (h.same rfl rfl)) h
  next => exact h

theorem tied_endWithdraw (h : Tied P Q X s) : Tied P Q X (endWithdraw s) :=
  ⟨fun hp => ⟨(h.segs hp).pages, fun hne => absurd rfl hne⟩, fun hq => (h.calls hq).view rfl⟩

/-! ## RUN entry (R9) -/

/-- No line names a destination in the state after power-on. -/
theorem callTied_reset : CallTied noLine State.reset := (callLaw_iff State.reset_ordered).1 (by decide)

/-- Every segment is on the stack at RUN entry. -/
theorem tied_runEntryValues : Tied P Q noLine (runEntryValues s) :=
  ⟨fun _ => ⟨rfl, fun _ => by rw [State.segments]; exact .of_eq (List.append_nil _)⟩, fun _ => callTied_reset.view rfl⟩

theorem tied_clearTables (h : Tied P Q X s) : Tied P Q X (clearTables s) := h.same rfl rfl

theorem tied_writeEmptyTables (h : Tied P Q X s) : Tied P Q X (writeEmptyTables s) := by
  have hroute : Tied P Q X (putDefaultRoute Route.default ((s.clear (s.por 0x2B000) 0x1000).clear (s.por 0x34000) 0x5000)) :=
    h.same rfl rfl
  exact tied_putLogState (Tied.foldl (fun _ _ => tied_store) (Tied.foldl (fun _ _ => tied_store) hroute))

theorem tied_writeStatusRecords (h : Tied P Q X s) : Tied P Q X (writeStatusRecords s) :=
  tied_store (tied_store (Tied.foldl (fun _ _ => tied_store) (tied_writeLinkStatus (tied_writePathStatus (tied_store h)))))

theorem tied_runEntryWrites (h : Tied P Q X s) : Tied P Q X (runEntryWrites s) := by
  rw [runEntryWrites_eq]
  exact tied_writeStatusRecords (tied_ite (tied_clearTables h) (tied_writeEmptyTables (tied_clearTables h)))

theorem tied_announce (h : Tied P Q X s) : Tied P Q X (announce s) := by
  have hnear (t : State) (ht : Tied P Q X t) :
      Tied P Q X (if t.chg.nearArmed then t else post .logNearFull .log t.chg.logOldest 0 t.chg.logInUse t) :=
    tied_ite ht (tied_post ht)
  have hposted : Tied P Q X (post .anchorAccepted .path 0 0 (writeStatus .accepted 0 s).windowMiB (writeStatus .accepted 0 s)) :=
    tied_post (tied_writeStatus h)
  exact hnear _ (tied_postLinkState (hposted.same rfl rfl))

/-- The part is in RUN before a noted withdraw starts. -/
theorem entered_state (s : State) : s.entered.rgw.state = .run := by
  obtain ⟨-, -, hstate, -, -⟩ :=
    (keeps_announce (keeps_runEntryWrites (Keeps.refl ⟨true, true, true⟩ (runEntryValues s)))).map rfl
  exact hstate

theorem tied_runEntry : Tied P Q noLine (runEntry s) := by
  have hentered : Tied P Q noLine s.entered := tied_announce (tied_runEntryWrites tied_runEntryValues)
  rw [runEntry_eq]
  exact tied_ite (tied_startWithdraw (by rw [entered_state]; exact nofun) hentered) hentered

/-! ## Bus accesses (R1, R12, R13, R16, R23, R33) -/

theorem tied_storeAccess {a : BusAccess} (h : Tied P Q X s) : Tied P Q X (storeAccess a s) := tied_store h

theorem tied_tailWritten {v : Nat} (h : Tied P Q X s) : Tied P Q X (tailWritten v s) := tied_ite (h.same rfl rfl) (tied_post h)

theorem tied_headWritten {v : Nat} (h : Tied P Q X s) : Tied P Q X (headWritten v s) :=
  tied_ite (tied_post h) (tied_ite h (tied_serveQueue (h.same rfl rfl)))

theorem tied_dropWrite {off : Nat} (h : Tied P Q X s) : Tied P Q X (dropWrite off s) := by
  have hwrite : Tied P Q X (writePathStatus
      { s with rgw := { s.rgw with droppedCount := min (s.rgw.droppedCount + 1) 65535, lastDropped := some off } }) :=
    tied_writePathStatus (h.same rfl rfl)
  exact tied_ite (tied_post hwrite) hwrite

variable {a : BusAccess}

theorem tied_regionWrite (h : Tied P Q noLine s) : Tied P Q noLine (regionWrite a s) := by
  have hstored := tied_storeAccess (a := a) h
  unfold regionWrite
  dsimp only
  refine tied_ite (tied_commitWritten hstored)
    (tied_ite (tied_dropWrite h) (tied_ite (tied_tailWritten hstored) (tied_ite (tied_headWritten hstored) ?_)))
  split
  · exact h.same rfl rfl
  · exact tied_passWrite h

theorem tied_windowWrite (h : Tied P Q noLine s) : Tied P Q noLine (windowWrite a s) :=
  tied_ite (tied_ite (tied_commitWritten (tied_storeAccess h)) (tied_storeAccess h)) (tied_regionWrite h)

theorem tied_readAhead (h : Tied P Q X s) : Tied P Q X (readAhead a s) :=
  tied_ite h (tied_ite (h.same rfl rfl) (tied_ite (h.same rfl rfl) (tied_finishRead h)))

theorem tied_goAhead (h : Tied P Q noLine s) : Tied P Q noLine (goAhead a s) :=
  tied_ite (tied_ite h (tied_ite h (tied_windowWrite h))) (tied_readAhead h)

theorem tied_smpAccess (h : Tied P Q noLine s) : Tied P Q noLine (smpAccess a s) := by
  unfold smpAccess
  split
  · exact h
  · split
    · exact h
    · exact h.same rfl rfl
    · exact h.same rfl rfl
    · exact tied_goAhead h

theorem tied_smpWrite {off : BusAddr} {data : Word} {be : ByteEnables} (h : Tied P Q noLine s) :
    Tied P Q noLine (smpWrite off data be s) := tied_smpAccess h

theorem tied_smpRead {off : BusAddr} {be : ByteEnables} (h : Tied P Q noLine s) : Tied P Q noLine (smpRead off be s) :=
  tied_smpAccess h

theorem tied_scanHoldExpiry (h : Tied P Q X s) : Tied P Q X (scanHoldExpiry s) := by
  unfold scanHoldExpiry
  split
  · exact h
  · split
    · exact tied_passWrite (h.same rfl rfl)
    · exact h

/-! ## Power and RESETn (R2 to R4) -/

/-- A part that starts afresh. -/
theorem tied_reset {q : List Instr} {ph : Phase} {p : Smp} {m : Mem} :
    Tied P Q noLine { State.reset with pending := q, phase := ph, smp := p, dram := m } :=
  ⟨fun _ => ⟨rfl, fun hne => absurd rfl hne⟩, fun _ => callTied_reset.view rfl⟩

theorem tied_initialised {w : WindowSize} (h : Tied P Q noLine s) : Tied P Q noLine (initialised w s) := by
  have hwrite : Tied P Q noLine (writeStatus .reset 0
      { s with phase := .up, mad := { s.mad with window := some w },
               chg := { s.chg with seconds := 0, tenths := 0, tenthCycles := 3277 },
               sli := { s.sli with txRunning := true, txFrameNo := 0 } }) := tied_writeStatus (h.same rfl rfl)
  unfold initialised
  dsimp only
  split
  · exact hwrite
  · exact tied_goAhead (hwrite.same rfl rfl)

end

end Sys2Proof.Machine
end

section
/-! PROOFS. The laws of the segments (R68) and of the outbound sessions (R91, R102) last: every command keeps them. -/

namespace Sys2Proof.Machine

set_option Elab.async false

section

variable {P Q : Prop} {s : State}

/-- Every command keeps the two laws. -/
theorem exec_tied (c : Instr) (h : Tied P Q noLine s) : ∃ t, exec c s = .next t ∧ Tied P Q noLine t := by
  cases c with
  | powerOn => exact ⟨_, exec_powerOn s, tied_reset⟩
  | resetnFall => exact ⟨_, exec_resetnFall s, tied_ite h tied_reset⟩
  | resetnRise => exact ⟨_, exec_resetnRise s, tied_ite (h.same rfl rfl) h⟩
  | dramInitialisationEnd w => exact ⟨_, exec_dramInitialisationEnd w s, tied_ite (tied_initialised h) h⟩
  | busWrite off data be => exact ⟨_, exec_busWrite off data be s, tied_smpWrite h⟩
  | partOwnedWrite off data be => exact ⟨_, exec_partOwnedWrite off data be s, tied_smpWrite h⟩
  | commit data be => exact ⟨_, exec_commit data be s, tied_smpWrite h⟩
  | runEntry => exact ⟨_, exec_runEntry s, tied_ite (tied_runEntry) h⟩
  | withdraw data be => exact ⟨_, exec_withdraw data be s, tied_smpWrite h⟩
  | withdrawEnd => exact ⟨_, exec_withdrawEnd s, tied_ite (tied_endWithdraw h) h⟩
  | commandRingTailWrite off data be => exact ⟨_, exec_commandRingTailWrite off data be s, tied_smpWrite h⟩
  | eventRingHeadWrite off data be => exact ⟨_, exec_eventRingHeadWrite off data be s, tied_smpWrite h⟩
  | unknownCommandKind => exact ⟨_, exec_unknownCommandKind s, tied_ite (tied_carryOut h fun _ => id) h⟩
  | clearPathCount => exact ⟨_, exec_clearPathCount s, tied_take h fun _ _ => tied_clearPathCount⟩
  | setScanProfile => exact ⟨_, exec_setScanProfile s, tied_take h fun _ _ => tied_setScanProfile⟩
  | beginScan => exact ⟨_, exec_beginScan s, tied_take h fun _ _ => tied_beginScan⟩
  | endPage => exact ⟨_, exec_endPage s, tied_take h fun _ _ => tied_endPage⟩
  | endScan => exact ⟨_, exec_endScan s, tied_take h fun _ _ => tied_endScanCommand⟩
  | setStoreLimits => exact ⟨_, exec_setStoreLimits s, tied_take h fun _ _ => tied_setStoreLimits⟩
  | openDocument => exact ⟨_, exec_openDocument s, tied_take h fun _ _ => tied_openDocument⟩
  | closeDocument => exact ⟨_, exec_closeDocument s, tied_take h fun _ _ => tied_closeDocument⟩
  | deleteDocument => exact ⟨_, exec_deleteDocument s, tied_take h fun _ _ => tied_deleteDocument⟩
  | submitJob => exact ⟨_, exec_submitJob s, tied_take h fun _ _ => tied_submitJob⟩
  | cancelJob => exact ⟨_, exec_cancelJob s, tied_take h fun _ _ => tied_cancelJob⟩
  | cancelDestination => exact ⟨_, exec_cancelDestination s, tied_take h fun _ _ => tied_cancelDestination⟩
  | holdJob => exact ⟨_, exec_holdJob s, tied_take h fun _ _ => tied_holdJob⟩
  | releaseJob => exact ⟨_, exec_releaseJob s, tied_take h fun _ _ => tied_releaseJob⟩
  | setRetryPolicy => exact ⟨_, exec_setRetryPolicy s, tied_take h fun _ _ => tied_setRetryPolicy⟩
  | linkSetup => exact ⟨_, exec_linkSetup s, tied_take h fun _ _ => tied_linkSetup⟩
  | linkResync => exact ⟨_, exec_linkResync s, tied_take h fun _ _ => tied_linkResync⟩
  | clearLinkCounters => exact ⟨_, exec_clearLinkCounters s, tied_take h fun _ _ => tied_clearLinkCounters⟩
  | setLinePlan => exact ⟨_, exec_setLinePlan s, tied_take h fun _ _ => tied_setLinePlan⟩
  | setLineTimers => exact ⟨_, exec_setLineTimers s, tied_take h fun _ _ => tied_setLineTimers⟩
  | loadRouteWrite => exact ⟨_, exec_loadRouteWrite s, tied_takeIf h fun _ _ => tied_loadRoute⟩
  | loadRouteRemove => exact ⟨_, exec_loadRouteRemove s, tied_takeIf h fun _ _ => tied_loadRoute⟩
  | setFilterBinClearBin => exact ⟨_, exec_setFilterBinClearBin s, tied_takeIf h fun _ _ => tied_setFilterBin⟩
  | setFilterBinSetBin => exact ⟨_, exec_setFilterBinSetBin s, tied_takeIf h fun _ _ => tied_setFilterBin⟩
  | setFilterBinClearEvery => exact ⟨_, exec_setFilterBinClearEvery s, tied_takeIf h fun _ _ => tied_setFilterBin⟩
  | setFilterBinSetEvery => exact ⟨_, exec_setFilterBinSetEvery s, tied_takeIf h fun _ _ => tied_setFilterBin⟩
  | setDefaultRoute => exact ⟨_, exec_setDefaultRoute s, tied_take h fun _ _ => tied_setDefaultRoute⟩
  | releaseHeld => exact ⟨_, exec_releaseHeld s, tied_take h fun _ _ => tied_releaseHeld⟩
  | setPrintProfile => exact ⟨_, exec_setPrintProfile s, tied_take h fun _ _ => tied_setPrintProfile⟩
  | printDocument => exact ⟨_, exec_printDocument s, tied_take h fun _ _ => tied_printDocument⟩
  | cancelPrint => exact ⟨_, exec_cancelPrint s, tied_take h fun _ _ => tied_cancelPrint⟩
  | startPrint => exact ⟨_, exec_startPrint s, tied_take h fun _ _ => tied_startPrint⟩
  | stopPrint => exact ⟨_, exec_stopPrint s, tied_take h fun _ _ => tied_stopPrint⟩
  | setClock => exact ⟨_, exec_setClock s, tied_take h fun _ _ => tied_setClock⟩
  | loadBandHours => exact ⟨_, exec_loadBandHours s, tied_take h fun _ _ => tied_loadBandHours⟩
  | loadTariffPrefixWrite => exact ⟨_, exec_loadTariffPrefixWrite s, tied_takeIf h fun _ _ => tied_loadTariffPrefix⟩
  | loadTariffPrefixRemove => exact ⟨_, exec_loadTariffPrefixRemove s, tied_takeIf h fun _ _ => tied_loadTariffPrefix⟩
  | loadZoneRate => exact ⟨_, exec_loadZoneRate s, tied_take h fun _ _ => tied_loadZoneRate⟩
  | setAccount => exact ⟨_, exec_setAccount s, tied_take h fun _ _ => tied_setAccount⟩
  | clearSpent => exact ⟨_, exec_clearSpent s, tied_take h fun _ _ => tied_clearSpent⟩
  | ackChargeLog => exact ⟨_, exec_ackChargeLog s, tied_take h fun _ _ => tied_ackChargeLog⟩
  | rawSlotLastPixelWrite off data be => exact ⟨_, exec_rawSlotLastPixelWrite off data be s, tied_smpWrite h⟩
  | lappingWrite off data be => exact ⟨_, exec_lappingWrite off data be s, tied_smpWrite h⟩
  | scanHoldExpiry => exact ⟨_, exec_scanHoldExpiry s, tied_scanHoldExpiry h⟩
  | scanTakeSlot => exact ⟨_, exec_scanTakeSlot s, tied_ite (tied_takeSlot h) h⟩
  | timeBaseTenth => exact ⟨_, exec_timeBaseTenth s, tied_ite (tied_tenthEnds h) h⟩
  | timeBaseSecond => exact ⟨_, exec_timeBaseSecond s, tied_ite (tied_tenthEnds h) h⟩
  | schedulerPass => exact ⟨_, exec_schedulerPass s, tied_ite (tied_schedule (h.same rfl rfl)) h⟩
  | txFrame => exact ⟨_, exec_txFrame s, tied_ite (tied_txFrame h) h⟩
  | handingTakesPlace => exact ⟨_, exec_handingTakesPlace s, tied_placeHanding h⟩
  | alignmentByteFound p => exact ⟨_, exec_alignmentByteFound p s, tied_ite (tied_writeLinkStatus (tied_sli h)) h⟩
  | rxFrame slots => exact ⟨_, exec_rxFrame slots s, tied_ite (tied_rxFrame h) h⟩
  | mfSearchTimerExpiry => exact ⟨_, exec_mfSearchTimerExpiry s, tied_ite (tied_frameLoss h) h⟩
  | rxMultiframeEnd => exact ⟨_, exec_rxMultiframeEnd s, tied_multiframeEnd h⟩
  | blockStored n => exact ⟨_, exec_blockStored n s, tied_blockStored h⟩
  | blockBufferFilled n => exact ⟨_, exec_blockBufferFilled n s, tied_fillBlock h⟩
  | rxBlock n pp blk len => exact ⟨_, exec_rxBlock n pp blk len s, tied_ite (tied_sli h) h⟩
  | lineReady n => exact ⟨_, exec_lineReady n s, tied_delivered (fun _ => tied_onLineReady) h⟩
  | lineNotReady n => exact ⟨_, exec_lineNotReady n s, tied_delivered (fun _ => tied_onLineNotReady) h⟩
  | seized n => exact ⟨_, exec_seized n s, tied_delivered (fun _ => tied_onSeized) h⟩
  | answered n => exact ⟨_, exec_answered n s, tied_delivered (fun _ => tied_onAnswered) h⟩
  | busy n => exact ⟨_, exec_busy n s, tied_delivered (fun _ => tied_onCallFailed) h⟩
  | noAnswer n => exact ⟨_, exec_noAnswer n s, tied_delivered (fun _ => tied_onCallFailed) h⟩
  | notFax n => exact ⟨_, exec_notFax n s, tied_delivered (fun _ => tied_onCallFailed) h⟩
  | ring n called ident => exact ⟨_, exec_ring n called ident s, tied_delivered (fun _ => tied_onRing) h⟩
  | partialOk n => exact ⟨_, exec_partialOk n s, tied_delivered (fun _ => tied_onPartialOk) h⟩
  | repeatBlocks n map => exact ⟨_, exec_repeatBlocks n map s, tied_delivered (fun _ => tied_onRepeat) h⟩
  | pageConfirmed n => exact ⟨_, exec_pageConfirmed n s, tied_delivered (fun _ => tied_onPageConfirmed) h⟩
  | pageRejected n => exact ⟨_, exec_pageRejected n s, tied_delivered (fun _ => tied_onPageRejected) h⟩
  | rxPageBegin n cls res => exact ⟨_, exec_rxPageBegin n cls res s, tied_delivered (fun _ => tied_onRxPageBegin) h⟩
  | rxPartialEnd n pp count endKind => exact ⟨_, exec_rxPartialEnd n pp count endKind s,
    tied_delivered (fun _ => tied_onRxPartialEnd) h⟩
  | remoteClear n cause => exact ⟨_, exec_remoteClear n cause s, tied_delivered (fun _ => tied_onRemoteClear) h⟩
  | cleared n => exact ⟨_, exec_cleared n s, tied_delivered (fun _ => tied_onCleared) h⟩
  | sessionTimerExpiry n => exact ⟨_, exec_sessionTimerExpiry n s, tied_ite (tied_timerExpires h) h⟩
  | clearingTimerExpiry n => exact ⟨_, exec_clearingTimerExpiry n s, tied_ite (tied_onCleared h) h⟩
  | graceExpiry => exact ⟨_, exec_graceExpiry s, tied_ite (tied_endAllSessions (tied_sli (h.same rfl rfl))) h⟩
  | prnTakeEntry => exact ⟨_, exec_prnTakeEntry s, tied_takeEntry h⟩
  | prnRenderSheetLine => exact ⟨_, exec_prnRenderSheetLine s, tied_renderStep h⟩
  | printSlotLastWordRead off be => exact ⟨_, exec_printSlotLastWordRead off be s, tied_smpRead h⟩
  | earlyRead off be => exact ⟨_, exec_earlyRead off be s, tied_smpRead h⟩
  | printHoldExpiry => exact ⟨_, exec_printHoldExpiry s, tied_printHoldExpiry h⟩
  | powerFail => exact ⟨_, exec_powerFail s, tied_reset⟩

theorem tied_of_exec {c : Instr} {t : State} (h : Tied P Q noLine s) (hc : exec c s = .next t) : Tied P Q noLine t := by
  obtain ⟨u, hu, hk⟩ := exec_tied c h
  cases hu.symm.trans hc
  exact hk

theorem tied_step {t : State} (h : Tied P Q noLine s) (hstep : step s = .next t) : Tied P Q noLine t :=
  step_preserves (P := Tied P Q noLine) (fun _ _ hs => hs.same rfl rfl) (fun _ _ _ => tied_of_exec) h hstep

end

/-- Settles O4: each law, with the tables in order, is one that every operation keeps, from the page store and the tables of
jobs and lines up to the step; the order itself is kept by O3. -/
theorem segmentAndCallLawsKept : Obligations.SegmentAndCallLawsKept := by
  obtain ⟨-, hordered⟩ := dramFormAndTableOrderKept
  refine ⟨fun s t hord hseg hstep => ?_, fun s t hord hcall hstep => ?_⟩
  · have hs : Tied True False noLine s := ⟨fun _ => (segmentLaw_iff hord).1 hseg, False.elim⟩
    exact (segmentLaw_iff (hordered s t hord hstep)).2 ((tied_step hs hstep).segs trivial)
  · have hs : Tied False True noLine s := ⟨False.elim, fun _ => (callLaw_iff hord).1 hcall⟩
    exact (callLaw_iff (hordered s t hord hstep)).2 ((tied_step hs hstep).calls trivial)

end Sys2Proof.Machine
end
